-- ==== Sys2Proof/Word.lean ====
section
/-! DEFINITION. The word types of the block: the native 18-bit word, the 36-bit double word and the octet (R1, R4). -/
namespace Sys2Proof

/-- The native 18-bit word, bit 17 most significant (R4). -/
abbrev Word := BitVec 18

/-- A 36-bit quantity; its low word holds bits 17:0 (R4). -/
abbrev DWord := BitVec 36

/-- One octet of a string. -/
abbrev Octet := BitVec 8

/-- A 36-bit quantity of a low and a high word (R4). -/
def dword (lo hi : Word) : DWord := hi ++ lo

/-- The low word of a 36-bit quantity (R4). -/
def loWord (d : DWord) : Word := d.setWidth 18

/-- The high word of a 36-bit quantity (R4). -/
def hiWord (d : DWord) : Word := (d >>> 18).setWidth 18

theorem loWord_dword (lo hi : Word) : loWord (dword lo hi) = lo := by
  unfold loWord dword
  apply BitVec.eq_of_toNat_eq
  simp only [BitVec.toNat_setWidth, BitVec.toNat_append]
  have h2 := lo.isLt
  rw [← Nat.shiftLeft_add_eq_or_of_lt h2, Nat.shiftLeft_eq]
  omega

theorem hiWord_dword (lo hi : Word) : hiWord (dword lo hi) = hi := by
  unfold hiWord dword
  apply BitVec.eq_of_toNat_eq
  simp only [BitVec.toNat_setWidth, BitVec.toNat_ushiftRight, BitVec.toNat_append, Nat.shiftRight_eq_div_pow,
    Nat.shiftLeft_eq]
  have h1 := hi.isLt
  have h2 := lo.isLt
  rw [← Nat.shiftLeft_eq, ← Nat.shiftLeft_add_eq_or_of_lt h2, Nat.shiftLeft_eq]
  omega

end Sys2Proof
end

