-- ==== Sys2Proof/Syntax.lean ====
section
/-! DEFINITION. The commands of the block: one constructor per row of spec/opcode_table.json, with the row's operands.
A job is named by its key (queue · 2^17 + position, or the forms `Machine.jobKey` and its neighbours give). -/
namespace Sys2Proof

/-- Who makes a register access (Table 1-12 REQ): the host, the debug port, or a core (R13, R45). -/
inductive Requester where
  | host | debug | core (c : Nat)
  deriving DecidableEq, Repr

/-- A core requester is one of the 64. -/
def Requester.wf : Requester → Bool
  | .host => true
  | .debug => true
  | .core c => decide (c < 64)

/-- The form of a register write (R12): narrow or unaligned, an aligned 4-octet write, an aligned 8-octet write. -/
inductive Width where
  | narrow | single | double
  deriving DecidableEq, Repr

/-- The form of a register read (R12, R13): the slot, an aligned 8-octet read from it on, or fewer octets of its doubleword. -/
inductive Access where
  | word | both
  /-- `n` octets from octet `i` -/
  | octets (i n : Nat)
  deriving DecidableEq, Repr

/-- A read within one doubleword; forms other than the slot are the host's (R14). -/
def Access.wf (a : Access) (r : Requester) : Bool :=
  match a with
  | .word => true
  | .both => decide (r = .host)
  | .octets i n => decide (r = .host) && decide (1 ≤ n) && decide (i + n ≤ 4)

/-- What a unit's fault detection finds in a command: nothing, a mismatch of its datapath (R169, R195, R230), bad parity of a
key that comes to it over the Culvert bus (R146). -/
inductive UnitCheck where
  | pass | mismatch | parity
  deriving DecidableEq, Repr

/-- Where a request at a Sluice arbiter gets its class (R336). -/
inductive ReqSrc where
  /-- made for a job: the job's class -/
  | job (key : Nat)
  /-- any other request: the class of its requester number (Table 12-4) -/
  | other (n : Nat)
  /-- a request that carries its class: a forwarded job's, a membership frame's -/
  | carries (cls : Nat)
  /-- the request that an arbiter of a lower tier granted last, passed on with its class and origin count (R340, R341) -/
  | passed (kind inst : Nat)
  deriving DecidableEq, Repr

/-- A request presented to a Sluice arbiter. -/
structure Present where
  /-- the requester, numbered from 0 at that arbiter in the order of Table 12-1 -/
  rq : Nat
  /-- where its class and origin count come from -/
  src : ReqSrc
  deriving DecidableEq, Repr

/-- Instances of an arbiter kind (Table 12-1). -/
def arbInstances (kind : Nat) : Nat := [0, 176, 128, 16, 4, 64, 1, 4, 4].getD kind 0

/-- Requesters of an arbiter (Table 12-1). -/
def arbRequesters (kind inst : Nat) : Nat :=
  if kind = 7 ∧ 2 ≤ inst then 2 else [0, 272, 10, 9, 6, 5, 7, 6, 4].getD kind 0

/-- A presented request that names a requester of the arbiter, with an assigned requester number, a class or a lower-tier
arbiter. -/
def Present.wf (kind inst : Nat) (p : Present) : Bool :=
  decide (p.rq < arbRequesters kind inst) &&
    (match p.src with
      | .job _ => true
      | .other n => decide (n < 71)
      | .carries c => decide (c < 4)
      | .passed k i => decide (3 ≤ k) && decide (k ≤ 7) && decide (i < arbInstances k))

/-- A base word as R250 gives one: class 0 to 6, a base of one syllable in bits 8:0. -/
def baseWf (w : BitVec 18) : Bool :=
  (decide (w.toNat < 64) || decide (32768 ≤ w.toNat)) && decide (w.toNat < 229376)

/-- The commands, one constructor per row of the opcode table. -/
inductive Instr where
  /-- REG_WRITE (R16): A write to a register field that has no row of its own takes effect according to the field's access type. -/
  | regWrite (req : Requester) (page : Nat) (word : Nat) (width : Width) (val : BitVec 36)
  /-- REG36_LOWER_READ (R13): A read of the lower slot of a 36-bit register latches the upper half for the same requester. -/
  | reg36LowerRead (req : Requester) (page : Nat) (word : Nat) (acc : Access)
  /-- REG36_UPPER_READ (R13): A read of the upper slot returns the latched half, or the current upper half if none is latched. -/
  | reg36UpperRead (req : Requester) (page : Nat) (word : Nat) (acc : Access)
  /-- REG36_LOWER_WRITE (R13): A lower-slot write is held for its requester until that requester writes the upper slot. -/
  | reg36LowerWrite (req : Requester) (page : Nat) (word : Nat) (val : Word)
  /-- REG36_UPPER_WRITE (R13): An upper-slot write commits both halves with any held lower half, or the upper half alone. -/
  | reg36UpperWrite (req : Requester) (page : Nat) (word : Nat) (val : Word)
  /-- POSTED_WRITE_SETTLE (R35): A posted write takes effect in the page's domain, updates the shadow and may set WRITE_SETTLED. -/
  | postedWriteSettle (page : Nat)
  /-- EN_WRITE_1 (R42): EN written 1 starts the function, or sets RESTART_PENDING during a shutdown. -/
  | enWrite1 (req : Requester) (page : Nat)
  /-- EN_WRITE_0 (R42): EN written 0 starts the block's shutdown and sets STOPPING. -/
  | enWrite0 (req : Requester) (page : Nat)
  /-- STOP (R42): STOP written 1 drains the function, which then clears EN and shuts down. -/
  | stop (req : Requester) (page : Nat)
  /-- SRESET (R42): SRESET written 1 resets the page's function and registers except the lock. -/
  | sreset (req : Requester) (page : Nat)
  /-- SHUTDOWN_COMPLETE (R43): A shutdown ends, STOPPING clears and any pending restart begins. -/
  | shutdownComplete (page : Nat)
  /-- START_UP_DONE (R42): A function's start-up and known-answer test end and READY becomes 1 or the unit is quarantined. -/
  | startUpDone (page : Nat) (pass : Bool) (vec : Nat)
  /-- PG_LOCK_WRITE (R46): A write setting PG_LOCK.LOCK locks the page's RWL fields in issue order. -/
  | pgLockWrite (req : Requester) (page : Nat)
  /-- EVENT_DELIVER (R48): A raised event source is delivered to its MSI-X vector or core interrupt level. -/
  | eventDeliver (src : Nat)
  /-- MSIX_UNMASK (R49): Unmasking an MSI-X vector sends a message held by its pending bit. -/
  | msixUnmask (vec : Nat)
  /-- ROUTE_DATA_ACCESS (R52): An access to EVT0.ROUTE_DATA reads or writes a route entry and advances ROUTE_SEL under AUTOINC. -/
  | routeDataAccess (req : Requester) (wr : Option Word)
  /-- LOST_SRC_READ (R50): A read of EVT0.LOST_SRC returns it and clears VALID and MORE. -/
  | lostSrcRead (req : Requester)
  /-- SW_SET_WRITE (R51): A write to EVT3.SW_SET raises the named software event sources. -/
  | swSetWrite (req : Requester) (idx : Nat) (val : Word)
  /-- CAUSEWAY_IDLE (R29): A Causeway end that has sent nothing for 0.5 µs sends an idle transfer. -/
  | causewayIdle (dieF : Bool) (far : Bool)
  /-- CAUSEWAY_TRANSFER_RECEIVE (R28): A Causeway transfer arrives and is checked against its tag and counter. -/
  | causewayTransferReceive (dieF : Bool) (far : Bool) (payload : List Word) (ctr : BitVec 72) (tag : BitVec 36)
  /-- CAUSEWAY_SILENCE (R29): 2 µs without a valid transfer fails the Causeway link. -/
  | causewaySilence (dieF : Bool)
  /-- TAIL_DB_WRITE (R57): A doorbell write to WQn.TAIL_DB is checked for range and starts fetching. -/
  | tailDbWrite (req : Requester) (q : Nat) (val : Word)
  /-- ENTRY_FETCH_DATA (R65): Cells read from a ring arrive; a valid header is taken, and the entry's body is checked. -/
  | entryFetchData (q : Nat) (cells : List Octet) (err : Bool)
  /-- HOST_DATA_ARRIVE (R77): Host data or a scatter list read by a job arrives, or returns an error completion that aborts the job. -/
  | hostDataArrive (key : Nat) (cell : Nat) (sg : List Octet) (data : List Octet) (err : Bool)
  /-- HOST_WRITE_ERROR (R91): A failed write of results, status or head puts the queue into ERROR with cause HOST_WRITE. -/
  | hostWriteError (key : Nat)
  /-- JOB_PLACE (R96): The Lode dispatcher chooses a region and a unit for a job leaving FETCHED, or forwards it. -/
  | jobPlace (key : Nat)
  /-- PRQ_HOST_ERROR (R548): The host answers a page-request record or producer write with an error completion. -/
  | prqHostError
  /-- JOB_PARK (R184): A victim reaches its safe point, saves its state and becomes PARKED. -/
  | jobPark (key : Nat) (done : Nat)
  /-- JOB_RESUME (R188): A parked job resumes on a unit of its region after reading its state and its key again. -/
  | jobResume (key : Nat) (rec : List Octet) (err : Bool)
  /-- SESSION_MIGRATE (R100): A session context moves to the region of its 64th foreign job and the map is updated. -/
  | sessionMigrate (sess : Nat)
  /-- HEAD_PUBLISH (R72): The device writes the new head, updates WQn.HEAD and commits the session changes it passes. -/
  | headPublish (q : Nat)
  /-- IRQ_MOD_TIMER (R75): IRQ_MOD.TIME microseconds after an unreported publication, HEAD_MOVED is raised. -/
  | irqModTimer (q : Nat)
  /-- NOP (R63): The NOP opcode completes OK with RESLEN 0. -/
  | wqNop (key : Nat)
  /-- PLACE_COMMIT (R109): CMD.COMMIT on the keeper advances the epoch and sends membership frames. -/
  | placeCommit (req : Requester)
  /-- PLACE_DISCARD (R126): CMD.DISCARD drops the staged placement changes. -/
  | placeDiscard (req : Requester)
  /-- PLACE_LOOKUP (R126): CMD.LOOKUP starts owner resolution of LOOKUP_PAGE and clears DONE. -/
  | placeLookup (req : Requester)
  /-- LOOKUP_DONE (R126): A lookup's result is written to LOOKUP_RES and LOOKUP_REP, and DONE is set. -/
  | lookupDone
  /-- RECOMPUTE_DONE (R107): The owner table recompute ends, and the new table and epoch apply. -/
  | recomputeDone
  /-- MEMBERSHIP_FRAME_RECEIVE (R109): A member applies a frame one epoch ahead, or asks the keeper for resynchronisation. -/
  | membershipFrameReceive (src : Nat) (epoch : BitVec 18) (members : List (Nat × Word)) (ovrs : List (Nat × Word × Word × Word × Word)) (salt : Option (BitVec 36))
  /-- RESYNC_RECEIVE (R109): A full resynchronisation of the placement state is received and applied. -/
  | resyncReceive (epoch : BitVec 18) (members : List (Nat × Word)) (ovrs : List (Nat × Word × Word × Word × Word)) (salt : BitVec 36)
  /-- FORWARD_RECEIVE (R112): An owner accepts a forwarded job, acknowledges it and holds it as a local job. -/
  | forwardReceive (origin : Nat) (tag : Nat) (epoch : BitVec 18) (cls : Nat) (resWait : Bool) (rdyWait : Bool) (qkey : BitVec 16) (gb : Bool) (cells : List Octet) (data : List (Nat × List Octet)) (verdict : Nat) (ctx : Option (List Word))
  /-- MOVED (R114): A MOVED answer makes the originator resolve the owner again and resend. -/
  | moved (tag : Nat) (epoch : BitVec 18)
  /-- FORWARD_ACK_RECEIVE (R113): The originator receives the owner's acknowledgement of a forward. -/
  | forwardAckReceive (src : Nat) (tag : Nat)
  /-- FORWARD_TIMEOUT (R113): 10 µs without acknowledgement or message sends the job to the replica or completes FORWARD_FAIL. -/
  | forwardTimeout (tag : Nat)
  /-- HEARTBEAT (R113): A device holding forwarded jobs sends a heartbeat after 4 µs of silence toward the originator. -/
  | heartbeat (dst : Nat)
  /-- FORWARD_RESULT_RECEIVE (R112): A forwarded result returns; the originator writes it and acknowledges it. -/
  | forwardResultReceive (src : Nat) (tag : Nat) (status : Nat) (octets : List Octet) (outs : List (Nat × List Octet)) (ctx : Option (List Word))
  /-- RESULT_ACK_RECEIVE (R112): The owner receives the result acknowledgement and releases the job. -/
  | resultAckReceive (src : Nat) (tag : Nat)
  /-- FORWARD_ABORT_RECEIVE (R115): An owner receives an abort, discards the job at its safe point and acknowledges. -/
  | forwardAbortReceive (src : Nat) (tag : Nat)
  /-- FORWARD_ABORT_ACK (R83): An abort acknowledgement, or 10 µs, ends the wait of a queue shutdown for a forward. -/
  | forwardAbortAck (q : Nat) (tag : Nat)
  /-- FLIT_RECEIVE (R116): A Denlet flit arrives, is CRC-checked and is acknowledged or answered with NAK. -/
  | flitReceive (port : Nat) (flit : List Octet)
  /-- NAK_RECEIVE (R117): A NAK makes the port replay from the first unacknowledged flit. -/
  | nakReceive (port : Nat)
  /-- DENLET_MESSAGE_RECEIVE (R118): A whole Denlet message is decrypted and its GCM tag checked, then delivered or routed. -/
  | denletMessageReceive (port : Nat) (len : Nat) (dst : Nat)
  /-- LINK_REKEY (R118): A link-control exchange rekeys a direction when its counter reaches 2^32. -/
  | linkRekey (port : Nat) (tx : Bool)
  /-- DENLET_SILENCE (R117): 10 µs without a good flit fails the link with cause TIMEOUT. -/
  | denletSilence (port : Nat)
  /-- TRAIN_DONE (R119): Lane lock converges and the port enters ATTEST, or fails TRAIN after 2 ms. -/
  | trainDone (port : Nat) (ok : Bool)
  /-- ATTEST_DONE (R119): Certificate chains and key agreement pass and the port goes UP, or it fails. -/
  | attestDone (port : Nat) (certOk : Bool) (anchors : List Octet) (sigOk : Bool) (peer : Nat) (epoch : BitVec 18)
  /-- EQ_IDLE_INSERT (R121): After 1 ms without an idle slot, the port inserts idle flits for adaptation. -/
  | eqIdleInsert (port : Nat)
  /-- DNLX_ROUTE_DATA_ACCESS (R128): An access to DNLX.ROUTE_DATA reads or writes a route entry and advances ROUTE_SEL under AUTOINC. -/
  | dnlxRouteDataAccess (req : Requester) (wr : Option Word)
  /-- TIME_EXCHANGE (R123): Every 125 µs an UP port exchanges time stamps, and the device slews or steps toward the master. -/
  | timeExchange (port : Nat) (t1 : Nat) (t2 : Nat) (t3 : Nat) (t4 : Nat)
  /-- TIME_MASTER_LOSS (R123): 10 ms without an exchange reaching the master clears LOCKED. -/
  | timeMasterLoss
  /-- TIME_SET (R124): A write of TIME_SET word 3 loads system time on the master, or is refused. -/
  | timeSet (req : Requester) (val : Word)
  /-- SYSTIME_READ (R124): A read of SYSTIME0 latches all four words for the requester. -/
  | systimeRead (req : Requester)
  /-- HEALTH_FAIL (R135): A failing raw sample stops every DRBG and puts RNG in ERROR. -/
  | healthFail (last : List Octet) (window : List Octet)
  /-- DRBG_RESEED (R133): A DRBG instance reseeds after its request count or after 1 s. -/
  | drbgReseed (inst : Nat)
  /-- SESS_OPEN (R160): SESS_OPEN opens a session owned by the queue with SEQ 0. -/
  | sessOpen (key : Nat)
  /-- SESS_CLOSE (R160): SESS_CLOSE clears the whole session context. -/
  | sessClose (key : Nat)
  /-- SESS_REKEY (R160): SESS_REKEY replaces references and handles, zeroes SEQ and clears CHAIN and OPSTATE. -/
  | sessRekey (key : Nat)
  /-- PAGE_LOAD (R153): PAGE_LOAD checks an image header, allocates a frame and loads the chunks. -/
  | pageLoad (key : Nat)
  /-- CHUNK_VERIFY (R154): A page chunk's tag verifies and its entries become usable, or the load fails. -/
  | chunkVerify (key : Nat) (chunk : Nat) (data : List Octet) (err : Bool)
  /-- PAGE_EVICT (R156): PAGE_EVICT takes a page out of use and waits for its jobs and changes to settle. -/
  | pageEvict (key : Nat)
  /-- EVICT_WRITE (R156): Once its conditions hold, the evict writes the image and clears the frame. -/
  | evictWrite (key : Nat)
  /-- CRED_WRITE (R157): CRED_WRITE unwraps a new secret into an entry and advances its GEN. -/
  | credWrite (key : Nat)
  /-- CRED_DERIVE (R162): CRED_DERIVE derives a new secret into an entry and advances its GEN. -/
  | credDerive (key : Nat)
  /-- CRED_RETIRE (R157): CRED_RETIRE retires an entry. -/
  | credRetire (key : Nat)
  /-- RECLAIM (R158): RECLAIM returns a retired entry or slot to empty with GEN 0. -/
  | reclaim (key : Nat)
  /-- SLOT_GENERATE (R139): SLOT_GENERATE fills an empty slot from the custody DRBG. -/
  | slotGenerate (key : Nat)
  /-- SLOT_UNWRAP (R141): SLOT_UNWRAP stores a key from a blob under an unwrapping slot. -/
  | slotUnwrap (key : Nat)
  /-- SLOT_WRAP (R141): SLOT_WRAP exports an exportable key as a 48-octet blob. -/
  | slotWrap (key : Nat)
  /-- SLOT_DERIVE (R162): SLOT_DERIVE derives a key into a slot from a source slot. -/
  | slotDerive (key : Nat)
  /-- SLOT_DESTROY (R162): SLOT_DESTROY empties a slot. -/
  | slotDestroy (key : Nat)
  /-- SLOT_INFO (R140): SLOT_INFO returns a slot's attribute words. -/
  | slotInfo (key : Nat)
  /-- RNG_GET (R162): RNG_GET writes random octets from a region DRBG to host memory. -/
  | rngGet (key : Nat)
  /-- JOURNAL_COMPACT (R144): A full Peat journal is compacted into its oldest sectors. -/
  | journalCompact
  /-- QKEY_DATA_WRITE (R142): A write of a queue's colour key is stored, or dropped with QKEY_BUSY while the queue runs. -/
  | qkeyDataWrite (req : Requester) (val : Word)
  /-- CER_COMMISSION (R165): CER_CTRL START with FUNC COMMISSION starts the commissioning ceremony. -/
  | cerCommission (req : Requester)
  /-- CER_ENROL_DOMAIN (R165): CER_CTRL START with FUNC ENROL_DOMAIN starts a key-component ceremony. -/
  | cerEnrolDomain (req : Requester)
  /-- CER_SET_TAMPER (R165): CER_CTRL START with FUNC SET_TAMPER starts a ceremony to apply staged response sets. -/
  | cerSetTamper (req : Requester)
  /-- CER_LEAVE_GB (R165): CER_CTRL START with FUNC LEAVE_GB starts a ceremony to leave GB mode. -/
  | cerLeaveGb (req : Requester)
  /-- CER_RETIRE (R165): CER_CTRL START with FUNC RETIRE starts a retirement ceremony. -/
  | cerRetire (req : Requester)
  /-- CER_CUSTODIANS (R165): CER_CTRL START with FUNC CUSTODIANS starts a ceremony to replace the custodians. -/
  | cerCustodians (req : Requester)
  /-- CER_CANCEL (R165): CER_CTRL CANCEL ends a collecting ceremony FAILED. -/
  | cerCancel (req : Requester)
  /-- CUSTODIAN_CARD_PROCESS (R163): A card in a custodian slot is run through the commands of Table 4-16 and counted or refused. -/
  | custodianCardProcess (stn : Nat) (pubkey : List Octet) (sig : List Octet) (comp : List Octet) (fail : Option Nat)
  /-- CEREMONY_TIMEOUT (R165): A ceremony not completed 600 s after START ends FAILED with cause TIMEOUT. -/
  | ceremonyTimeout
  /-- ECB_ENC (R173): ECB_ENC encrypts the input in ECB mode. -/
  | ecbEnc (key : Nat) (chk : UnitCheck)
  /-- ECB_DEC (R173): ECB_DEC decrypts the input in ECB mode. -/
  | ecbDec (key : Nat) (chk : UnitCheck)
  /-- CBC_ENC (R173): CBC_ENC encrypts the input in CBC mode. -/
  | cbcEnc (key : Nat) (chk : UnitCheck)
  /-- CBC_DEC (R173): CBC_DEC decrypts the input in CBC mode. -/
  | cbcDec (key : Nat) (chk : UnitCheck)
  /-- CTR (R173): CTR transforms the input in counter mode. -/
  | ctr (key : Nat) (chk : UnitCheck)
  /-- GCM_ENC (R177): GCM_ENC encrypts and authenticates the input and writes the tag. -/
  | gcmEnc (key : Nat) (chk : UnitCheck)
  /-- GCM_DEC (R176): GCM_DEC decrypts into staging and releases the plaintext only after the tag verifies. -/
  | gcmDec (key : Nat) (chk : UnitCheck)
  /-- CCM_ENC (R173): CCM_ENC encrypts and authenticates the input in CCM mode. -/
  | ccmEnc (key : Nat) (chk : UnitCheck)
  /-- CCM_DEC (R176): CCM_DEC decrypts into staging and releases the plaintext only after the tag verifies. -/
  | ccmDec (key : Nat) (chk : UnitCheck)
  /-- CMAC_GEN (R173): CMAC_GEN computes a CMAC over the input. -/
  | cmacGen (key : Nat) (chk : UnitCheck)
  /-- CMAC_VER (R173): CMAC_VER compares a CMAC with the expected MAC. -/
  | cmacVer (key : Nat) (chk : UnitCheck)
  /-- KW_WRAP (R177): KW_WRAP wraps the input with AES-KW. -/
  | kwWrap (key : Nat) (chk : UnitCheck)
  /-- KW_UNWRAP (R177): KW_UNWRAP unwraps the input and releases it only after the integrity check passes. -/
  | kwUnwrap (key : Nat) (chk : UnitCheck)
  /-- KWP_WRAP (R177): KWP_WRAP wraps the input with AES-KWP. -/
  | kwpWrap (key : Nat) (chk : UnitCheck)
  /-- KWP_UNWRAP (R177): KWP_UNWRAP unwraps the input and releases it only after the integrity check passes. -/
  | kwpUnwrap (key : Nat) (chk : UnitCheck)
  /-- AKA_MILENAGE (R182): AKA_MILENAGE computes MAC-A, RES, CK, IK and AK. -/
  | akaMilenage (key : Nat) (chk : UnitCheck)
  /-- AKA_RESYNC (R183): AKA_RESYNC recovers SQN_MS from AUTS and checks MAC-S. -/
  | akaResync (key : Nat) (chk : UnitCheck)
  /-- SHA224 (R197): SHA224 hashes the input, or saves its state while MORE is 1. -/
  | sha224 (key : Nat) (chk : UnitCheck)
  /-- SHA256 (R197): SHA256 hashes the input, or saves its state while MORE is 1. -/
  | sha256 (key : Nat) (chk : UnitCheck)
  /-- SHA384 (R197): SHA384 hashes the input, or saves its state while MORE is 1. -/
  | sha384 (key : Nat) (chk : UnitCheck)
  /-- SHA512 (R197): SHA512 hashes the input, or saves its state while MORE is 1. -/
  | sha512 (key : Nat) (chk : UnitCheck)
  /-- SHA3_224 (R197): SHA3_224 hashes the input, or saves its state while MORE is 1. -/
  | sha3224 (key : Nat) (chk : UnitCheck)
  /-- SHA3_256 (R197): SHA3_256 hashes the input, or saves its state while MORE is 1. -/
  | sha3256 (key : Nat) (chk : UnitCheck)
  /-- SHA3_384 (R197): SHA3_384 hashes the input, or saves its state while MORE is 1. -/
  | sha3384 (key : Nat) (chk : UnitCheck)
  /-- SHA3_512 (R197): SHA3_512 hashes the input, or saves its state while MORE is 1. -/
  | sha3512 (key : Nat) (chk : UnitCheck)
  /-- SHAKE128 (R197): SHAKE128 produces OUTLEN octets over the input. -/
  | shake128 (key : Nat) (chk : UnitCheck)
  /-- SHAKE256 (R197): SHAKE256 produces OUTLEN octets over the input. -/
  | shake256 (key : Nat) (chk : UnitCheck)
  /-- HMAC_GEN (R211): HMAC_GEN is run by firmware as two keyed digest commands and returns the tag. -/
  | hmacGen (key : Nat)
  /-- HMAC_VER (R211): HMAC_VER computes an HMAC and compares it in constant time with the expected tag. -/
  | hmacVer (key : Nat)
  /-- GB_HMAC (R215): GB_HMAC computes HMAC on a GB2 queue with cached key states. -/
  | gbHmac (key : Nat) (chk : UnitCheck)
  /-- RESULT_READ (R209): A read of a digest result window returns it, or zeros with an error flag, and ends a window hold. -/
  | resultRead (req : Requester) (unit : Nat) (idx : Nat)
  /-- WINDOW_EXPIRED (R210): 256 crypto cycles without a RESULT0 read clear the window and raise WINDOW_EXPIRED. -/
  | windowExpired (unit : Nat)
  /-- BN_MODEXP (R237): BN_MODEXP computes base^exponent mod m from host operands. -/
  | bnModexp (key : Nat) (chk : UnitCheck)
  /-- BN_MODMUL (R237): BN_MODMUL computes a·b mod m in normal form. -/
  | bnModmul (key : Nat) (chk : UnitCheck)
  /-- BN_MODADD (R237): BN_MODADD computes (a + b) mod m. -/
  | bnModadd (key : Nat) (chk : UnitCheck)
  /-- BN_MODSUB (R237): BN_MODSUB computes (a − b) mod m. -/
  | bnModsub (key : Nat) (chk : UnitCheck)
  /-- BN_MODINV (R237): BN_MODINV computes a⁻¹ mod m. -/
  | bnModinv (key : Nat) (chk : UnitCheck)
  /-- BN_CURVECHK (R237): BN_CURVECHK checks that a point lies on a curve. -/
  | bnCurvechk (key : Nat) (chk : UnitCheck)
  /-- BN_PROGRAM_ENQUEUE (R221): A bignum program entering an input queue is read once and checked for form. -/
  | bnProgramEnqueue (key : Nat)
  /-- LOAD (R225): LOAD fills an operand slot from memory or, with C 1, from a Peat slot over Culvert. -/
  | load (unit : Nat) (chk : UnitCheck)
  /-- STORE (R225): STORE writes an operand slot to memory unless the slot is KEYED. -/
  | store (unit : Nat) (chk : UnitCheck)
  /-- CONVERT (R223): CONVERT moves a value between packed form and limb form. -/
  | convert (unit : Nat) (chk : UnitCheck)
  /-- TO_MONT (R223): TO_MONT computes a·R mod m. -/
  | toMont (unit : Nat) (chk : UnitCheck)
  /-- FROM_MONT (R223): FROM_MONT computes a·R⁻¹ mod m. -/
  | fromMont (unit : Nat) (chk : UnitCheck)
  /-- MODADD (R223): MODADD computes (a + b) mod m. -/
  | modadd (unit : Nat) (chk : UnitCheck)
  /-- MODSUB (R223): MODSUB computes (a − b) mod m. -/
  | modsub (unit : Nat) (chk : UnitCheck)
  /-- MODMUL (R223): MODMUL computes the Montgomery product a·b·R⁻¹ mod m. -/
  | modmul (unit : Nat) (chk : UnitCheck)
  /-- MODINV (R228): MODINV computes a⁻¹ mod m, or refuses an operand without an inverse. -/
  | modinv (unit : Nat) (chk : UnitCheck)
  /-- MODEXP (R229): MODEXP computes base^exponent mod m in constant time with a fixed window. -/
  | modexp (unit : Nat) (chk : UnitCheck)
  /-- CURVECHK (R228): CURVECHK checks a point against the curve equation. -/
  | curvechk (unit : Nat) (chk : UnitCheck)
  /-- BN_YIELD (R233): At a yield point a bignum job parks for a shorter queued job. -/
  | bnYield (unit : Nat) (done : Nat)
  /-- BN_ABORT (R236): A discarded bignum job is aborted, its memory overwritten, and the unit reports idle. -/
  | bnAbort (key : Nat)
  /-- REFUSE_READ (R242): A read of BN.REFUSE returns the refusal record and clears it. -/
  | refuseRead (req : Requester) (unit : Nat)
  /-- KAZOLO_NOP (R264): The NOP instruction does nothing. -/
  | kNop (core : Nat) (pre : List (BitVec 9)) (w : Word)
  /-- RFE (R307): RFE checks SEAL and X right and restores the saved privilege, mode, loops and PC. -/
  | kRfe (core : Nat) (pre : List (BitVec 9)) (w : Word)
  /-- SYNC (R264): SYNC waits for earlier stores and UCMDs to be accepted and empties the fetch buffer. -/
  | kSync (core : Nat) (pre : List (BitVec 9)) (w : Word)
  /-- WAITI (R305): WAITI sleeps until an enabled level is pending or the wake latch is set. -/
  | kWaiti (core : Nat) (pre : List (BitVec 9)) (w : Word)
  /-- BREAK (R330): BREAK halts an armed core or takes entry 8. -/
  | kBreak (core : Nat) (pre : List (BitVec 9)) (w : Word)
  /-- CTXSW (R319): CTXSW inverts GATEBANK.SEL, changing bank and key together. -/
  | kCtxsw (core : Nat) (pre : List (BitVec 9)) (w : Word)
  /-- JGET (R267): JGET moves the next composite job into the job frame and sets p7. -/
  | kJget (core : Nat) (pre : List (BitVec 9)) (w : Word)
  /-- SAVECTX (R309): SAVECTX writes a sealed 16-word context record and clears UNSAVED. -/
  | kSavectx (core : Nat) (pre : List (BitVec 9)) (w : Word)
  /-- LOADCTX (R311): LOADCTX checks a context record's FORMAT and TAG and restores the exception state. -/
  | kLoadctx (core : Nat) (pre : List (BitVec 9)) (w : Word)
  /-- JDONE (R268): JDONE writes the held job's result and status once its unit commands have completed. -/
  | kJdone (core : Nat) (pre : List (BitVec 9)) (w : Word)
  /-- MOV (R264): MOV copies ws to wd. -/
  | kMov (core : Nat) (pre : List (BitVec 9)) (w : Word)
  /-- ADD (R264): ADD adds ws to wd. -/
  | kAdd (core : Nat) (pre : List (BitVec 9)) (w : Word)
  /-- SUB (R264): SUB subtracts ws from wd. -/
  | kSub (core : Nat) (pre : List (BitVec 9)) (w : Word)
  /-- ADDX (R264): ADDX adds with carry in p6 and sets p6. -/
  | kAddx (core : Nat) (pre : List (BitVec 9)) (w : Word)
  /-- SUBX (R264): SUBX subtracts with borrow in p6 and sets p6. -/
  | kSubx (core : Nat) (pre : List (BitVec 9)) (w : Word)
  /-- AND (R264): AND forms the bitwise AND. -/
  | kAnd (core : Nat) (pre : List (BitVec 9)) (w : Word)
  /-- OR (R264): OR forms the bitwise OR. -/
  | kOr (core : Nat) (pre : List (BitVec 9)) (w : Word)
  /-- XOR (R264): XOR forms the bitwise XOR. -/
  | kXor (core : Nat) (pre : List (BitVec 9)) (w : Word)
  /-- ANDN (R264): ANDN forms wd AND NOT ws. -/
  | kAndn (core : Nat) (pre : List (BitVec 9)) (w : Word)
  /-- SHL (R264): SHL shifts wd left by ws. -/
  | kShl (core : Nat) (pre : List (BitVec 9)) (w : Word)
  /-- SHR (R264): SHR shifts wd right logically by ws. -/
  | kShr (core : Nat) (pre : List (BitVec 9)) (w : Word)
  /-- SAR (R264): SAR shifts wd right arithmetically by ws. -/
  | kSar (core : Nat) (pre : List (BitVec 9)) (w : Word)
  /-- ROL (R264): ROL rotates wd left by ws mod 18. -/
  | kRol (core : Nat) (pre : List (BitVec 9)) (w : Word)
  /-- MUL (R264): MUL gives the low word of the product. -/
  | kMul (core : Nat) (pre : List (BitVec 9)) (w : Word)
  /-- MULH (R264): MULH gives the unsigned high word of the product. -/
  | kMulh (core : Nat) (pre : List (BitVec 9)) (w : Word)
  /-- MULHS (R264): MULHS gives the signed high word of the product. -/
  | kMulhs (core : Nat) (pre : List (BitVec 9)) (w : Word)
  /-- MULL (R264): MULL gives the full 36-bit product in dD. -/
  | kMull (core : Nat) (pre : List (BitVec 9)) (w : Word)
  /-- BREV (R264): BREV reverses ws over 18 bits. -/
  | kBrev (core : Nat) (pre : List (BitVec 9)) (w : Word)
  /-- CLZ (R264): CLZ counts leading zeros. -/
  | kClz (core : Nat) (pre : List (BitVec 9)) (w : Word)
  /-- POPC (R264): POPC counts ones. -/
  | kPopc (core : Nat) (pre : List (BitVec 9)) (w : Word)
  /-- OCTHI (R264): OCTHI extracts the first octet of a packed word. -/
  | kOcthi (core : Nat) (pre : List (BitVec 9)) (w : Word)
  /-- OCTLO (R264): OCTLO extracts the second octet of a packed word. -/
  | kOctlo (core : Nat) (pre : List (BitVec 9)) (w : Word)
  /-- OCTPK (R264): OCTPK packs two octets into a packed word. -/
  | kOctpk (core : Nat) (pre : List (BitVec 9)) (w : Word)
  /-- MOVD (R264): MOVD copies a 36-bit d register. -/
  | kMovd (core : Nat) (pre : List (BitVec 9)) (w : Word)
  /-- ADDD (R264): ADDD adds 36-bit d registers. -/
  | kAddd (core : Nat) (pre : List (BitVec 9)) (w : Word)
  /-- SUBD (R264): SUBD subtracts 36-bit d registers. -/
  | kSubd (core : Nat) (pre : List (BitVec 9)) (w : Word)
  /-- MOVA (R264): MOVA copies a d register to an address register. -/
  | kMova (core : Nat) (pre : List (BitVec 9)) (w : Word)
  /-- MOVDA (R264): MOVDA copies an address register to a d register. -/
  | kMovda (core : Nat) (pre : List (BitVec 9)) (w : Word)
  /-- ADDA (R264): ADDA adds to an address register, wrapping under MSTAT.MODA. -/
  | kAdda (core : Nat) (pre : List (BitVec 9)) (w : Word)
  /-- SHLD (R264): SHLD shifts a d register left. -/
  | kShld (core : Nat) (pre : List (BitVec 9)) (w : Word)
  /-- SHRD (R264): SHRD shifts a d register right. -/
  | kShrd (core : Nat) (pre : List (BitVec 9)) (w : Word)
  /-- CMPEQ (R264): CMPEQ sets a predicate on equality. -/
  | kCmpeq (core : Nat) (pre : List (BitVec 9)) (w : Word)
  /-- CMPLT (R264): CMPLT sets a predicate on signed less-than. -/
  | kCmplt (core : Nat) (pre : List (BitVec 9)) (w : Word)
  /-- CMPLTU (R264): CMPLTU sets a predicate on unsigned less-than. -/
  | kCmpltu (core : Nat) (pre : List (BitVec 9)) (w : Word)
  /-- PAND (R264): PAND ANDs two predicates. -/
  | kPand (core : Nat) (pre : List (BitVec 9)) (w : Word)
  /-- POR (R264): POR ORs two predicates. -/
  | kPor (core : Nat) (pre : List (BitVec 9)) (w : Word)
  /-- PXOR (R264): PXOR XORs two predicates. -/
  | kPxor (core : Nat) (pre : List (BitVec 9)) (w : Word)
  /-- PANDN (R264): PANDN forms pa AND NOT pb. -/
  | kPandn (core : Nat) (pre : List (BitVec 9)) (w : Word)
  /-- MOVI (R264): MOVI loads an immediate. -/
  | kMovi (core : Nat) (pre : List (BitVec 9)) (w : Word)
  /-- ADDI (R264): ADDI adds an immediate. -/
  | kAddi (core : Nat) (pre : List (BitVec 9)) (w : Word)
  /-- ANDI (R264): ANDI ANDs an immediate. -/
  | kAndi (core : Nat) (pre : List (BitVec 9)) (w : Word)
  /-- ORI (R264): ORI ORs an immediate. -/
  | kOri (core : Nat) (pre : List (BitVec 9)) (w : Word)
  /-- XORI (R264): XORI XORs an immediate. -/
  | kXori (core : Nat) (pre : List (BitVec 9)) (w : Word)
  /-- SHLI (R264): SHLI shifts left by an immediate count. -/
  | kShli (core : Nat) (pre : List (BitVec 9)) (w : Word)
  /-- SHRI (R264): SHRI shifts right logically by an immediate count. -/
  | kShri (core : Nat) (pre : List (BitVec 9)) (w : Word)
  /-- SARI (R264): SARI shifts right arithmetically by an immediate count. -/
  | kSari (core : Nat) (pre : List (BitVec 9)) (w : Word)
  /-- MULI (R264): MULI multiplies by an immediate. -/
  | kMuli (core : Nat) (pre : List (BitVec 9)) (w : Word)
  /-- MOVID (R264): MOVID loads a 36-bit immediate into dD. -/
  | kMovid (core : Nat) (pre : List (BitVec 9)) (w : Word)
  /-- ADDID (R264): ADDID adds a 36-bit immediate to dD. -/
  | kAddid (core : Nat) (pre : List (BitVec 9)) (w : Word)
  /-- ADDIA (R264): ADDIA adds an immediate to an address register. -/
  | kAddia (core : Nat) (pre : List (BitVec 9)) (w : Word)
  /-- MOVIA (R264): MOVIA loads an immediate into an address register. -/
  | kMovia (core : Nat) (pre : List (BitVec 9)) (w : Word)
  /-- LEAPC (R264): LEAPC forms a syllable address relative to the instruction. -/
  | kLeapc (core : Nat) (pre : List (BitVec 9)) (w : Word)
  /-- UCMD_CIPHER (R272): UCMD with type 0 hands a cipher command block to the Lode dispatcher. -/
  | kUcmdCipher (core : Nat) (pre : List (BitVec 9)) (w : Word)
  /-- UCMD_DIGEST (R206): UCMD with type 1 hands a digest command block to the Lode dispatcher. -/
  | kUcmdDigest (core : Nat) (pre : List (BitVec 9)) (w : Word)
  /-- UCMD_BIGNUM (R269): UCMD with type 2 hands a bignum program to the Lode dispatcher. -/
  | kUcmdBignum (core : Nat) (pre : List (BitVec 9)) (w : Word)
  /-- UCMD_HOST_READ (R273): UCMD with type 3 reads host data of the held job into packed words. -/
  | kUcmdHostRead (core : Nat) (pre : List (BitVec 9)) (w : Word)
  /-- UCMD_HOST_WRITE (R273): UCMD with type 4 writes packed words to the held job's host output. -/
  | kUcmdHostWrite (core : Nat) (pre : List (BitVec 9)) (w : Word)
  /-- UCMD_COMPLETE (R270): A unit command ends, writes DONE and STATUS into its block and sets the wake latch. -/
  | kUcmdComplete (key : Nat) (chk : UnitCheck)
  /-- LD (R254): LD loads an 18-bit word, written two slots later. -/
  | kLd (core : Nat) (pre : List (BitVec 9)) (w : Word)
  /-- ST (R253): ST stores an 18-bit word. -/
  | kSt (core : Nat) (pre : List (BitVec 9)) (w : Word)
  /-- LDD (R254): LDD loads a 36-bit pair. -/
  | kLdd (core : Nat) (pre : List (BitVec 9)) (w : Word)
  /-- STD (R253): STD stores a 36-bit pair. -/
  | kStd (core : Nat) (pre : List (BitVec 9)) (w : Word)
  /-- LDA (R254): LDA loads an address register. -/
  | kLda (core : Nat) (pre : List (BitVec 9)) (w : Word)
  /-- STA (R253): STA stores an address register. -/
  | kSta (core : Nat) (pre : List (BitVec 9)) (w : Word)
  /-- LEA (R264): LEA computes an address without access. -/
  | kLea (core : Nat) (pre : List (BitVec 9)) (w : Word)
  /-- SWAP (R264): SWAP exchanges a register with memory atomically. -/
  | kSwap (core : Nat) (pre : List (BitVec 9)) (w : Word)
  /-- BR (R257): BR branches after one delay slot. -/
  | kBr (core : Nat) (pre : List (BitVec 9)) (w : Word)
  /-- CALL (R257): CALL branches after one delay slot and links in d15. -/
  | kCall (core : Nat) (pre : List (BitVec 9)) (w : Word)
  /-- JR (R257): JR jumps to the address in dS after one delay slot. -/
  | kJr (core : Nat) (pre : List (BitVec 9)) (w : Word)
  /-- CALLR (R257): CALLR calls the address in dS after one delay slot. -/
  | kCallr (core : Nat) (pre : List (BitVec 9)) (w : Word)
  /-- LOOP (R259): LOOP sets a hardware loop level with a register count. -/
  | kLoop (core : Nat) (pre : List (BitVec 9)) (w : Word)
  /-- LOOPI (R259): LOOPI sets a hardware loop level with an immediate count. -/
  | kLoopi (core : Nat) (pre : List (BitVec 9)) (w : Word)
  /-- TRAP (R294): TRAP enters vector 128 + n. -/
  | kTrap (core : Nat) (pre : List (BitVec 9)) (w : Word)
  /-- MOVS_FROM_SPECIAL (R244): MOVS with direction 0 copies a special register to dD. -/
  | kMovsFromSpecial (core : Nat) (pre : List (BitVec 9)) (w : Word)
  /-- MOVS_TO_SPECIAL (R244): MOVS with direction 1 writes a special register, a write of MSTAT being a mode change. -/
  | kMovsToSpecial (core : Nat) (pre : List (BitVec 9)) (w : Word)
  /-- VADD (R262): VADD adds vectors modulo VQ, or plainly with NORED. -/
  | kVadd (core : Nat) (pre : List (BitVec 9)) (w : Word)
  /-- VSUB (R262): VSUB subtracts vectors modulo VQ, or plainly with NORED. -/
  | kVsub (core : Nat) (pre : List (BitVec 9)) (w : Word)
  /-- VMUL (R262): VMUL multiplies vectors modulo VQ, or plainly with NORED. -/
  | kVmul (core : Nat) (pre : List (BitVec 9)) (w : Word)
  /-- VBFLY (R263): VBFLY computes a Cooley–Tukey butterfly. -/
  | kVbfly (core : Nat) (pre : List (BitVec 9)) (w : Word)
  /-- VGS (R263): VGS computes a Gentleman–Sande butterfly. -/
  | kVgs (core : Nat) (pre : List (BitVec 9)) (w : Word)
  /-- VPERM (R264): VPERM permutes the elements of a vector by an index vector. -/
  | kVperm (core : Nat) (pre : List (BitVec 9)) (w : Word)
  /-- VLD (R264): VLD loads 16 words into a vector. -/
  | kVld (core : Nat) (pre : List (BitVec 9)) (w : Word)
  /-- VST (R264): VST stores a vector as 16 words. -/
  | kVst (core : Nat) (pre : List (BitVec 9)) (w : Word)
  /-- VLDB (R264): VLDB broadcasts one word or pair to every element. -/
  | kVldb (core : Nat) (pre : List (BitVec 9)) (w : Word)
  /-- VMOV (R264): VMOV copies a vector. -/
  | kVmov (core : Nat) (pre : List (BitVec 9)) (w : Word)
  /-- VSPLAT (R264): VSPLAT broadcasts a scalar register into every element. -/
  | kVsplat (core : Nat) (pre : List (BitVec 9)) (w : Word)
  /-- VEXT (R264): VEXT extracts one element into a scalar register. -/
  | kVext (core : Nat) (pre : List (BitVec 9)) (w : Word)
  /-- VINS (R264): VINS inserts a scalar register into one element. -/
  | kVins (core : Nat) (pre : List (BitVec 9)) (w : Word)
  /-- INTERRUPT_ENTRY (R303): At a boundary the core accepts the highest acceptable pending level and enters its handler. -/
  | interruptEntry (core : Nat)
  /-- LOCKSTEP_MISMATCH (R265): A lockstep compare mismatch quarantines the cluster within 8 cycles. -/
  | lockstepMismatch (core : Nat)
  /-- COMPOSITE_ABORT (R271): A discarded held job sets ABORT in the frame and raises level 63 on the core. -/
  | compositeAbort (core : Nat)
  /-- ABORT_TIMEOUT (R271): No JDONE within 20 µs of an abort resets the pair to KZ.BOOT. -/
  | abortTimeout (core : Nat)
  /-- VFAIL_READ (R315): A read of KZ.VFAIL returns the vector failure record and clears it. -/
  | vfailRead (req : Requester) (core : Nat)
  /-- RSA_CRT (R274): RSA_CRT unwraps an RSA key and runs a CRT private operation. -/
  | rsaCrt (key : Nat)
  /-- ECDSA_P256_SIGN (R274): ECDSA_P256_SIGN signs a digest with a slot key. -/
  | ecdsaP256Sign (key : Nat)
  /-- ECDSA_P256_VER (R274): ECDSA_P256_VER verifies a P-256 signature. -/
  | ecdsaP256Ver (key : Nat)
  /-- ECDSA_P384_VER (R274): ECDSA_P384_VER verifies a P-384 signature. -/
  | ecdsaP384Ver (key : Nat)
  /-- ECDH_P256 (R274): ECDH_P256 stores a shared secret from a slot scalar and a peer point. -/
  | ecdhP256 (key : Nat)
  /-- CRYPTOGRAM_VER (R274): CRYPTOGRAM_VER verifies a card cryptogram and returns ARPC. -/
  | cryptogramVer (key : Nat)
  /-- PIN_TRANSLATE (R274): PIN_TRANSLATE re-encrypts a format 4 PIN block under another key. -/
  | pinTranslate (key : Nat)
  /-- KDF_TREE (R274): KDF_TREE derives a key through up to 8 levels into a slot. -/
  | kdfTree (key : Nat)
  /-- AKA_TUAK (R274): AKA_TUAK computes TUAK authentication vectors. -/
  | akaTuak (key : Nat)
  /-- MLKEM_KEYGEN (R290): MLKEM_KEYGEN generates an ML-KEM key pair and wraps d ‖ z. -/
  | mlkemKeygen (key : Nat)
  /-- MLKEM_ENCAPS (R290): MLKEM_ENCAPS encapsulates a shared key to an encapsulation key. -/
  | mlkemEncaps (key : Nat)
  /-- MLKEM_DECAPS (R291): MLKEM_DECAPS decapsulates a ciphertext with implicit rejection in constant time. -/
  | mlkemDecaps (key : Nat)
  /-- MLDSA_KEYGEN (R290): MLDSA_KEYGEN generates an ML-DSA key pair and wraps ξ. -/
  | mldsaKeygen (key : Nat)
  /-- MLDSA_SIGN (R291): MLDSA_SIGN signs M′, giving up after 1,000 rejected attempts. -/
  | mldsaSign (key : Nat)
  /-- MLDSA_VERIFY (R291): MLDSA_VERIFY verifies an ML-DSA signature. -/
  | mldsaVerify (key : Nat)
  /-- RAND_READ (R284): A read of CLU.RAND0–15 returns fresh DRBG bits to own cores, or zero otherwise. -/
  | randRead (req : Requester) (cl : Nat) (idx : Nat)
  /-- GCOL_DATA_ACCESS (R332): An access to CGATE.GCOL_DATA reads or writes a granule colour and advances GCOL_SEL under AUTOINC. -/
  | gcolDataAccess (req : Requester) (n : Nat) (wr : Option Word)
  /-- GRANULE_CLEAR (R327): A granule leaving colour 15 is cleared to zero before its new colour applies, and CLEAR_DONE follows. -/
  | granuleClear (n : Nat)
  /-- RULE_DATA_ACCESS (R333): An access to GATE.RULE_DATA reads or writes a rule word and advances RULE_SEL under AUTOINC. -/
  | ruleDataAccess (req : Requester) (wr : Option Word)
  /-- DBG_READ (R334): DBG.CMD READ performs a debug read of ADDR under DBG.KEY. -/
  | dbgRead (req : Requester)
  /-- DBG_WRITE (R334): DBG.CMD WRITE performs a debug write of DATA under DBG.KEY. -/
  | dbgWrite (req : Requester)
  /-- DBGACC (R329): The DBGACC test access port instruction performs a debug read or write. -/
  | dbgacc (cmd : Nat) (addr : BitVec 36) (data : Word)
  /-- HALT_REQ_WRITE (R330): A write of HALT_REQ requests or cancels a core halt. -/
  | haltReqWrite (req : Requester) (k : Nat) (val : Word)
  /-- CORE_HALT (R330): A requested or deferred halt is taken at the core's next allowed boundary. -/
  | coreHalt (core : Nat)
  /-- RESUME_WRITE (R330): A 1 written to RESUME releases a halted core. -/
  | resumeWrite (req : Requester) (k : Nat) (val : Word)
  /-- LIFE_ADV (R331): A valid LIFE_ADV write moves the debug lifecycle forward once its fuse verifies. -/
  | lifeAdv (req : Requester) (val : Word)
  /-- ARBITER_GRANT (R337): An arbiter grants the highest-class head request by round robin or deficit round robin. -/
  | arbiterGrant (kind : Nat) (inst : Nat) (arrivals : List Present) (cycles : Nat)
  /-- AGE_RAISE (R340): After 4,096 lost cycles a head request is served one class higher. -/
  | ageRaise (kind : Nat) (inst : Nat) (rq : Nat)
  /-- OWM_SWITCHED (R343): Every arbiter has switched fairness mode after a CFG.OWM write. -/
  | owmSwitched
  /-- RQ_CLASS_ACCESS (R347): An access to SLUICE.RQ_CLASS reads or writes a requester class and advances RQ_SEL under AUTOINC. -/
  | rqClassAccess (req : Requester) (wr : Option Word)
  /-- MON_SEL_WRITE (R347): A write to MON_SEL selects an arbiter and clears the monitor counters. -/
  | monSelWrite (req : Requester) (val : Word)
  /-- MON_MAXWAIT_READ (R347): A read of MON_MAXWAIT returns the longest wait and clears it. -/
  | monMaxwaitRead (req : Requester)
  /-- CST_ACTIVATE (R353): CST_ACTIVATE powers and resets a contact card and settles its parameters. -/
  | cstActivate (key : Nat)
  /-- CST_APDU (R367): CST_APDU exchanges a command APDU with the contact card. -/
  | cstApdu (key : Nat)
  /-- CST_DEACTIVATE (R367): CST_DEACTIVATE deactivates the contact card. -/
  | cstDeactivate (key : Nat)
  /-- CST_WARM_RESET (R353): CST_WARM_RESET drives RST low and reads a new ATR. -/
  | cstWarmReset (key : Nat)
  /-- ATR_RECEIVE (R355): A card's ATR is received, parsed and accepted or failed. -/
  | atrReceive (stn : Nat) (octets : List Octet) (parity : Bool)
  /-- ATR_TIMEOUT (R354): No ATR within the window moves activation to the next class. -/
  | atrTimeout (stn : Nat)
  /-- CLASS_RETRY_WAIT (R354): After 10 ms the station activates the card at the next permitted class. -/
  | classRetryWait (stn : Nat)
  /-- PPS_RESPONSE (R356): A card's PPS response is received and applied or failed. -/
  | ppsResponse (stn : Nat) (octets : List Octet) (parity : Bool)
  /-- T0_PROCEDURE_BYTE (R359): A T=0 procedure byte directs the data phase, busy phase or status word. -/
  | t0ProcedureByte (stn : Nat) (errs : Nat) (octets : List Octet)
  /-- WWT_EXPIRY (R359): The work waiting time passes without a character and the exchange fails. -/
  | wwtExpiry (stn : Nat)
  /-- BUSY_LIMIT_EXPIRY (R359): A busy phase longer than BUSY_LIMIT fails the exchange. -/
  | busyLimitExpiry (stn : Nat)
  /-- T1_BLOCK_RECEIVE (R361): A T=1 block is received and handled, or answered as invalid. -/
  | t1BlockReceive (stn : Nat) (octets : List Octet) (parity : Bool)
  /-- BWT_EXPIRY (R362): A T=1 block not arriving within BWT is treated as invalid. -/
  | bwtExpiry (stn : Nat)
  /-- CWT_EXPIRY (R362): CWT passing inside a T=1 block makes the block invalid. -/
  | cwtExpiry (stn : Nat)
  /-- CLOCK_STOP (R363): An idle active card's clock is stopped at the ATR's level. -/
  | clockStop (stn : Nat)
  /-- PRES_CHANGE (R365): A debounced change of PRES is accepted, and a removal deactivates the card. -/
  | presChange (stn : Nat) (high : Bool)
  /-- OVERCURRENT (R351): A card supply over-current deactivates the card and fails the running job. -/
  | overcurrent (stn : Nat)
  /-- DEACT_DONE (R365): VCC falls below 0.4 V and a contact deactivation completes. -/
  | deactDone (stn : Nat)
  /-- STATION_FAULT (R371): A read-back mismatch or supply failure quarantines the station. -/
  | stationFault (stn : Nat)
  /-- FST_ACTIVATE (R399): FST_ACTIVATE turns the field on, singulates and activates one tag. -/
  | fstActivate (key : Nat)
  /-- FST_APDU (R400): FST_APDU exchanges a command APDU with the active tag. -/
  | fstApdu (key : Nat)
  /-- FST_DEACTIVATE (R401): FST_DEACTIVATE deselects the tag and turns the field off. -/
  | fstDeactivate (key : Nat)
  /-- FIELD_ON (R377): After OFF_MIN and budget, the field is switched on and the guard starts. -/
  | fieldOn (stn : Nat)
  /-- GUARD_END (R377): The guard ends and the channel may send its first frame. -/
  | guardEnd (stn : Nat)
  /-- FIELD_OFF_DONE (R376): The antenna current falls below 1 % after the field is turned off. -/
  | fieldOffDone (stn : Nat)
  /-- PING (R379): A 10 µs ping measures the antenna and judges tag arrival or departure. -/
  | ping (stn : Nat) (inPhase : Int) (quadrature : Int)
  /-- RELEARN (R381): CMD.RELEARN learns a new ping baseline, or is refused. -/
  | relearn (req : Requester) (stn : Nat)
  /-- CAL_MEASURE (R382): Every 8 µs with the field on, amplitude and phase are measured and a tuning step may follow. -/
  | calMeasure (stn : Nat) (a : Nat) (phi : Int) (gap : Bool)
  /-- TAG_FRAME_RECEIVE (R391): A tag frame answering singulation or activation is received and acted on. -/
  | tagFrameReceive (stn : Nat) (octets : List Octet) (coll : Option Nat) (parity : Bool)
  /-- NO_ANSWER_TIMEOUT (R395): A request, ANTICOLLISION or SELECT gets no answer within 200 µs. -/
  | noAnswerTimeout (stn : Nat)
  /-- HLTA_ACCEPTED (R395): 1,000 µs without an answer confirms HLTA and the next REQA follows. -/
  | hltaAccepted (stn : Nat)
  /-- ISODEP_BLOCK_RECEIVE (R396): An ISO-DEP block is received and handled, or answered with R(NAK). -/
  | isodepBlockReceive (stn : Nat) (octets : List Octet) (parity : Bool)
  /-- FWT_EXPIRY (R396): No answer within FWT is treated as an invalid block. -/
  | fwtExpiry (stn : Nat)
  /-- ARRIVE_TIMEOUT (R399): A WAIT activation finds no tag within ARRIVE_TIMEOUT and completes REMOVED. -/
  | arriveTimeout (stn : Nat)
  /-- FIELD_STATION_FAULT (R404): An antenna current or drive read-back fault turns the field off and quarantines the station. -/
  | fieldStationFault (stn : Nat)
  /-- MIDR_READ (R407): MIDR CMD READ reads and checks a station head's identity record. -/
  | midrRead (req : Requester)
  /-- IDENTITY_READ_DONE (R388): An identity record read ends, and the record is checked and reported. -/
  | identityReadDone (stn : Nat) (start : Bool) (outcome : Nat) (fails : Nat) (octets : List Octet)
  /-- ENCODER_COUNT (R408): A filtered change on an encoder input moves the position up or down. -/
  | encoderCount (enc1 : Bool) (kind : Nat)
  /-- SPEED_UPDATE (R409): Every 100 µs SPEED is updated and overspeed and STILL are judged. -/
  | speedUpdate
  /-- MARK_EDGE (R411): A debounced source mark edge creates an item in the ledger. -/
  | markEdge (ago : Nat)
  /-- CHECK_MARK_EDGE (R412): A check mark edge is matched to an item's tolerance band. -/
  | checkMarkEdge (j : Nat) (ago : Nat)
  /-- LINE_OK_CHANGE (R421): LINE_OK falling asserts HOLD with cause LINE_OK_LOST. -/
  | lineOkChange (level : Bool)
  /-- HOLD_SET (R421): CMD.HOLD_SET asserts HOLD with cause HOST. -/
  | holdSet (req : Requester)
  /-- HOLD_CLR (R425): CMD.HOLD_CLR releases HOLD when the line is still and no fault persists. -/
  | holdClr (req : Requester)
  /-- LINE_ITEM (R552): LINE_ITEM runs a station operation bound to an item's window. -/
  | lineItem (key : Nat)
  /-- LINE_SET_ID (R428): LINE_SET_ID stores an item's identifier. -/
  | lineSetId (key : Nat)
  /-- LINE_DONE (R428): LINE_DONE marks an item DONE. -/
  | lineDone (key : Nat)
  /-- LINE_REJECT (R415): LINE_REJECT marks an item reject with reason HOST. -/
  | lineReject (key : Nat)
  /-- LINE_QUERY (R552): LINE_QUERY returns an item's status, mark and job statuses. -/
  | lineQuery (key : Nat)
  /-- MOSS_CHECK (R432): A Moss mesh check drives patterns through every pair and fails any pair that mismatches. -/
  | mossCheck (bad : Option (Nat × Word × Word))
  /-- TAMPER_ALARM (R435): A tamper source condition becomes present and runs its response set. -/
  | tamperAlarm (src : Nat)
  /-- TAMPER_CONDITION_CLEAR (R435): A tamper source condition becomes absent, which may end a tamper reset hold. -/
  | tamperConditionClear (src : Nat)
  /-- ZEROISE_DONE (R440): A zeroisation of a response set completes. -/
  | zeroiseDone (src : Nat) (bit : Nat)
  /-- RESET_DEVICE (R441): Once its zeroisations end, the set's tamper reset starts. -/
  | resetDevice (src : Nat)
  /-- RETIRE (R441): The retire fuse is blown and verified, and the device is zeroised and reset. -/
  | retire (src : Nat)
  /-- TAMPER_ACTIONS_DONE (R438): All actions of a set have completed and its DONE entry is appended. -/
  | tamperActionsDone (src : Nat)
  /-- TAMPER_PERIOD_END (R436): At the end of a 1 s period a REPEAT entry counts unlogged alarms. -/
  | tamperPeriodEnd (src : Nat)
  /-- LATCH_WRITE (R435): A W1C write to TAMP0.LATCH clears only bits whose condition is absent. -/
  | latchWrite (req : Requester) (k : Nat) (val : Word)
  /-- BIST_START (R446): BIST_CTRL.START stimulates a source's monitor with its response suppressed. -/
  | bistStart (req : Requester)
  /-- BIST_DONE (R446): A built-in test passes, fails after 1 ms, or ends at an unexpected response. -/
  | bistDone (outcome : Nat) (us : Nat) (still : Bool)
  /-- RESP_STAGE_ACCESS (R460): An access to TAMP1.RESP_STAGE stages a response set and advances RESP_SEL under AUTOINC. -/
  | respStageAccess (req : Requester) (wr : Option Word)
  /-- RESP_DISCARD (R460): TAMP1.CMD DISCARD returns staged sets to the active sets. -/
  | respDiscard (req : Requester)
  /-- LAST_FAIL_READ (R461): A read of MOSS.LAST_FAIL returns the failure and clears it. -/
  | lastFailRead (req : Requester)
  /-- LOG_APPEND (R451): A queued log entry is written into the Wisp log slot it replaces. -/
  | logAppend
  /-- APPEND (R451): WISP CMD.APPEND queues an ANNOT entry, or is refused. -/
  | append (req : Requester)
  /-- WISP_LINK (R458): WISP CMD.LINK captures the RTC and system time at the next tick edge. -/
  | wispLink (req : Requester)
  /-- WISP_CHECK (R457): WISP CMD.CHECK checks the MAC of the selected slot. -/
  | wispCheck (req : Requester)
  /-- ENT0_READ (R457): A read of WISP.ENT0 copies the selected slot, stalls or returns BUSY_RETRY. -/
  | ent0Read (req : Requester) (busy : Bool)
  /-- RTC0_READ (R462): A read of WISP.RTC0 latches all three RTC words. -/
  | rtc0Read (req : Requester)
  /-- WISP_FIELD_ON (R453): A reader field powers the Wisp tag, which draws a new random UID. -/
  | wispFieldOn
  /-- WISP_REQA (R453): The Wisp tag answers REQA or WUPA with its ATQA. -/
  | wispReqa (wupa : Bool)
  /-- WISP_SELECT (R453): The Wisp tag answers ANTICOLLISION and SELECT at cascade level 1. -/
  | wispSelect (known : List Bool) (crcOk : Bool)
  /-- WISP_HLTA (R453): HLTA puts the Wisp tag in the HALT state. -/
  | wispHlta (crcOk : Bool)
  /-- RDBLK (R455): RDBLK returns a header or log block from the snapshot buffer. -/
  | rdblk (block : Nat) (crcOk : Bool)
  /-- PROGRAM (R469): FL_CMD PROGRAM programs a flash page from FL_BUF. -/
  | program (req : Requester)
  /-- ERASE (R468): FL_CMD ERASE erases a flash sector. -/
  | erase (req : Requester)
  /-- SUSPEND (R471): FL_CMD SUSPEND suspends the running port H erase. -/
  | suspend (req : Requester) (inPulse : Bool)
  /-- RESUME (R471): FL_CMD RESUME resumes a suspended erase. -/
  | resume (req : Requester)
  /-- MAP_PROGRAM (R473): FL_CMD MAP_PROGRAM stores the staged protection map. -/
  | mapProgram (req : Requester)
  /-- PORT_D_PROGRAM (R467): A device program on port D runs, suspending a port H erase if needed. -/
  | portDProgram (page : Nat) (seg : Option (Nat × Bool)) (data : List Octet) (inPulse : Bool)
  /-- FLASH_PULSE_DONE (R468): A program or erase pulse and its verify end, and the operation continues or completes. -/
  | flashPulseDone (pass : Bool)
  /-- FLASH_WINDOW_READ (R472): A read of the flash window returns data, 0o400400 or a status word. -/
  | flashWindowRead (req : Requester) (i : Nat) (corr : Nat) (fail : Bool)
  /-- BROWNOUT (R474): VDDV below 0.85 V trips the brown-out detector and aborts flash pulses. -/
  | brownout
  /-- BROWNOUT_CLEAR (R474): VDDV above 0.87 V for 100 µs clears the brown-out. -/
  | brownoutClear
  /-- FLASH_WP_CHANGE (R473): A debounced change of FLASH_WP_N updates WP_ACTIVE. -/
  | flashWpChange (low : Bool)
  /-- FLASH_SCAN_DONE (R475): The information area scan ends and interrupted sectors are marked. -/
  | flashScanDone
  /-- POR_RELEASE (R482): Power-on reset releases after every required rail has been in tolerance 2 ms. -/
  | porRelease (gb : Bool)
  /-- SUPPLY_BROWNOUT (R483): A slowly falling required rail asserts power-on reset. -/
  | supplyBrownout
  /-- VFIELD_LOST (R484): VFIELD below 4.75 V for 10 µs shuts down every station. -/
  | vfieldLost
  /-- VFIELD_GOOD (R484): VFIELD in range for 1 ms restarts enabled stations. -/
  | vfieldGood
  /-- POWER_UPDATE (R488): Every 100 µs PKG_POWER is updated and one region step may start. -/
  | powerUpdate (vcore : Nat) (rest : Nat)
  /-- REGION_STEP_DONE (R487): A region operating-point change completes. -/
  | regionStepDone
  /-- STATION_ADMIT (R489): A waiting activation or field-on is admitted and its power reserved. -/
  | stationAdmit
  /-- CL_GATE_WRITE (R490): A write of PWR.CL_GATE gates or ungates clusters, or is refused. -/
  | clGateWrite (req : Requester) (val : Word)
  /-- UNGATE_DONE (R490): A cluster's ungating completes and its waiting start-ups run. -/
  | ungateDone (cl : Nat)
  /-- PMBUS_POLL (R491): Every 1 ms the device reads READ_VOUT and READ_IOUT. -/
  | pmbusPoll (good : Bool) (vout : Nat) (iout : Nat)
  /-- PMB_ALERT (R491): PMB_ALERT_N falling makes the device read STATUS_WORD. -/
  | pmbAlert (good : Bool)
  /-- PMBUS_RETRY (R491): While PMB_OK is 0 the device retries the regulator every 10 ms. -/
  | pmbusRetry (good : Bool) (linear : Bool) (vout : Nat)
  /-- RESET_N (R492): RESET_N low for at least 1 µs resets the package. -/
  | resetN
  /-- PERST_N (R494): PERST_N low resets the PCI Express controller and every WQ page. -/
  | perstN
  /-- DEV_WDT_EXPIRY (R495): The device watchdog expires and resets the package. -/
  | devWdtExpiry (gb : Bool)
  /-- RG_WDT_EXPIRY (R495): A region watchdog expires and quarantines its region. -/
  | rgWdtExpiry (k : Nat)
  /-- KICK (R495): A write of RSTC.KICK kicks the device or a region watchdog, or is refused. -/
  | kick (req : Requester) (val : Word)
  /-- RG_RESET (R495): A write of RSTC.RG_RESET quarantines and restarts a region. -/
  | rgReset (req : Requester) (val : Word)
  /-- RG_RESET_DONE (R495): A region reset's bring-up ends. -/
  | rgResetDone (k : Nat) (pass : Bool) (bad : Bool)
  /-- CAUSE_READ (R504): A read of RSTC.CAUSE returns the reset cause and clears it. -/
  | causeRead (req : Requester)
  /-- HUMMOCK_CHECK (R497): At bring-up the Hummock check raises alarms and runs pending tamper actions. -/
  | hummockCheck (found : List Nat)
  /-- CLUSTER_BIST_DONE (R23): A cluster's built-in self-test ends, and its members start up. -/
  | clusterBistDone (cl : Nat) (pass : Bool)
  /-- BOOT_VERIFY (R498): A boot image slot is verified, or rejected with a cause. -/
  | bootVerify (badA : Bool) (badB : Bool)
  /-- FIRMWARE_COPY (R499): Resident firmware is copied to each cluster and the cores are set up and enabled. -/
  | firmwareCopy
  /-- JOURNAL_RESTORE (R144): The Peat journal is restored after boot verification, and PEAT reports READY. -/
  | journalRestore
  /-- ROLLBACK_ADV (R499): DEV.CMD.ROLLBACK_ADV raises the rollback fuse count to the running image's value. -/
  | rollbackAdv (req : Requester)
  /-- BOOTCFG_WRITE (R502): A write of DEV.BOOTCFG sets GB mode and bring-up options, or is dropped while queues run. -/
  | bootcfgWrite (req : Requester) (val : Word)
  /-- SCRUB_READ (R514): The scrubber reads one credential entry of a bank and corrects or reports it. -/
  | scrubRead (k : Nat) (b : Nat) (outcome : Nat) (word : Nat)
  /-- BACKGROUND_COMPARE (R515): The background pass compares configuration register copies once per 1 ms. -/
  | backgroundCompare (background : Bool) (bad : Option (Nat × Nat))
  /-- INJECT_SCRUB_FLIP (R519): INJECT KIND 1 flips a check bit for the next scrub read of a region. -/
  | injectScrubFlip (req : Requester) (rg : Nat)
  /-- INJECT_TEST_ROW (R519): INJECT KIND 2 reads a test row holding a double-bit error. -/
  | injectTestRow (req : Requester) (rg : Nat)
  /-- INJECT_REG_COMPLEMENT (R519): INJECT KIND 3 inverts the complement copy of DIAG.TEST. -/
  | injectRegComplement (req : Requester)
  /-- INJECT_DONE (R519): An injected test ends and INJ_PASS reports its outcome. -/
  | injectDone
  /-- UE_INFO_READ (R520): A read of DIAG.UE_INFO returns the latched error and frees the latch. -/
  | ueInfoRead (req : Requester)
  /-- REGF_PAGE_READ (R520): A read of DIAG.REGF_PAGE returns the latched mismatch and frees the latch. -/
  | regfPageRead (req : Requester)
  /-- LINK_READ (R520): A read of DIAG.LINK returns the latched Causeway failure and frees the latch. -/
  | linkRead (req : Requester)
  /-- ATR_CHARACTER_TIMEOUT (R355): An ATR character does not begin within 9,600 etu of the one before, or the whole ATR overruns 19,200 etu, and the ATR fails. -/
  | atrCharacterTimeout (stn : Nat)
  /-- PPS_TIMEOUT (R356): No PPS response arrives within 9,600 etu, the PPS fails and the card is reactivated without PPS. -/
  | ppsTimeout (stn : Nat)
  /-- MOVED_RESEND (R114): 2 µs after a MOVED answer that resolves to the same owner, the originator sends the forward again. -/
  | movedResend (tag : Nat)
  /-- TAMPER_RESET_RELEASE (R441): Every source whose active set holds RESET_DEVICE has had its condition absent for 10 ms, the tamper reset is released and bring-up starts. -/
  | tamperResetRelease (gb : Bool)
  /-- RESET_N_RELEASE (R496): RESET_N rises, the package reset is released, GBCOMPAT is sampled and bring-up begins. -/
  | resetNRelease (gb : Bool)
  /-- PERST_N_RELEASE (R494): PERST_N rises and the device answers configuration requests within 20 ms. -/
  | perstNRelease
  /-- DEV_WDT_WARN (R495): The device watchdog reaches half its timeout and raises DEV_WDT_WARN. -/
  | devWdtWarn
  /-- VBAT_APPLY (R448): A cell is applied to VBAT, the Hummock domain starts and the RTC counts from 0. -/
  | vbatApply
  /-- WISP_FIELD_OFF (R453): The reader field leaves the Wisp antenna, the tag loses power and its state, and FIELD_ACTIVE clears. -/
  | wispFieldOff
  deriving DecidableEq, Repr

end Sys2Proof
end

