-- ==== Sys2Proof/Decode.lean ====
section
/-! DEFINITION. Commands spelt by words of the opcode table: no row of spec/opcode_table.json gives bits, so no word spells
a command (log entry 1). -/
namespace Sys2Proof

/-- The command a table word spells. DESIGN CHOICE, log entry 1. -/
def decodeTableWord (_nbits _w : Nat) : Option Instr := none

end Sys2Proof
end

