-- ==== Sys2Proof/Config.lean ====
section
/-! DEFINITION. What the spec leaves open as a value: opaque constants, applied to the counter `State.fresh` or to the
operands they depend on. Nothing in Lean can evaluate them, so a statement holds for every value. -/
namespace Sys2Proof.Config

/-- The `n`-th octet drawn from a DRBG, or any other random octet (R133, R453). DESIGN CHOICE, log entry 6. -/
opaque freeOctet : Nat → Octet

/-- A value of an 18-bit field that the spec does not state. DESIGN CHOICE, log entry 6. -/
opaque freeWord : Nat → Word

/-- What register word `key` shows at a moment where the spec gives it no value: measurements and cycle counts.
DESIGN CHOICE, log entry 6. -/
opaque shownWord : Nat → Nat → Word

/-- A value of a 256-bit quantity that the spec does not state. DESIGN CHOICE, log entry 6. -/
opaque freeKey : Nat → BitVec 256

/-- The TAG of a sealed context record: under the context key of a draw, over words 0 to 14, FORMAT, the record's address
and the core number (R310: the function is not architectural). -/
opaque contextTag : Nat → List Word → BitVec 9

/-- VQB of a modulus whose Barrett constant R262 does not give as a 36-bit number. DESIGN CHOICE, log entry 54. -/
opaque barrettOpen : DWord → DWord

/-- A 36-bit shift by a register value of 36 or more: Table 8-6 states counts 0 to 35. DESIGN CHOICE, log entry 54. -/
opaque shiftOpen : Bool → DWord → Word → DWord

/-- The lanes of a vector that a butterfly names as both va and vb: R263 gives it two values. DESIGN CHOICE, log entry 54. -/
opaque laneOpen : List Word → List Word → Nat → Word

/-- A Causeway link key (R28), by link and nonce: die-bound fuse secrets enter it, and the derivation is not given. Log
entry 21. -/
opaque linkKey : Bool → BitVec 128 → BitVec 256

/-- The 36-bit tag of a Causeway transfer (R28), by key, whether the far die sends it, counter and payload: its algorithm is
not given. Log entry 21. -/
opaque linkTag : BitVec 256 → Bool → BitVec 72 → List Word → BitVec 36

end Sys2Proof.Config
end

