-- ==== Sys2Proof/Machine/Map.lean ====
section
/-! DEFINITION. Sparse tables as plain data: a list of (key, value) pairs in one canonical form, keys strictly rising
and no entry equal to what an unlisted key reads as. Every memory and every large table of the block is one. -/
namespace Sys2Proof.Machine

/-- A sparse table from numbers to values. -/
abbrev Map (α : Type) := List (Nat × α)

/-- What key `k` reads as: its entry, and `d k` where it is not listed. -/
def Map.get {α : Type} (d : Nat → α) : Map α → Nat → α
  | [], k => d k
  | (k', v) :: r, k => if k' = k then v else Map.get d r k

/-- The table without key `k`. -/
def Map.del {α : Type} : Map α → Nat → Map α
  | [], _ => []
  | (k', v) :: r, k => if k' = k then Map.del r k else (k', v) :: Map.del r k

/-- Insert a pair before the first larger key. -/
def Map.ins {α : Type} : Map α → Nat → α → Map α
  | [], k, v => [(k, v)]
  | (k', v') :: r, k, v => if k < k' then (k, v) :: (k', v') :: r else (k', v') :: Map.ins r k v

/-- Write key `k`. Writing what an unlisted key reads as removes the entry. -/
def Map.put {α : Type} [DecidableEq α] (d : Nat → α) (m : Map α) (k : Nat) (v : α) : Map α :=
  if v = d k then Map.del m k else Map.ins (Map.del m k) k v

/-- The keys rise strictly, all above `lo` where it is given. -/
def Map.sorted {α : Type} : Option Nat → Map α → Bool
  | _, [] => true
  | none, (k, _) :: r => Map.sorted (some k) r
  | some l, (k, _) :: r => decide (l < k) && Map.sorted (some k) r

/-- The canonical form over the default `d`. -/
def Map.wf {α : Type} [DecidableEq α] (d : Nat → α) (m : Map α) : Bool :=
  Map.sorted none m && m.all (fun p => decide (p.2 ≠ d p.1))

/-- Every listed entry whose key the predicate keeps. -/
def Map.keep {α : Type} (f : Nat → Bool) : Map α → Map α
  | [] => []
  | (k, v) :: r => if f k then (k, v) :: Map.keep f r else Map.keep f r

/-- Write a run of values at rising keys. -/
def Map.putList {α : Type} [DecidableEq α] (d : Nat → α) (m : Map α) (k : Nat) : List α → Map α
  | [] => m
  | v :: r => Map.putList d (Map.put d m k v) (k + 1) r

/-- Read a run of `n` values at rising keys. -/
def Map.getList {α : Type} (d : Nat → α) (m : Map α) (k : Nat) : Nat → List α
  | 0 => []
  | n + 1 => Map.get d m k :: Map.getList d m (k + 1) n

/-- The default of a table whose unlisted keys all read `v`. -/
def dflt {α : Type} (v : α) : Nat → α := fun _ => v

end Sys2Proof.Machine
end

