-- ==== Sys2Proof/Machine/Regs.lean ====
section
/-! DEFINITION. The register layout: blocks, the page map of Table 1-10 (R39), and for every block the registers its
chapter's table gives (word offset, reset value, access type, bits a plain write may change). -/
namespace Sys2Proof.Machine

/-- The access types of Table 0-5 (R16). -/
inductive Acc where
  | ro | rw | wo | w1c | w1s | rc | rwl
  deriving DecidableEq, Repr

/-- Whether a slot is a whole register or half of a 36-bit register (R13). -/
inductive Half where
  | one | lower | upper
  deriving DecidableEq, Repr

/-- One run of equal register slots of a block's register table. -/
structure RegDesc where
  /-- first word offset -/
  first : Nat
  /-- last word offset -/
  last  : Nat
  /-- reset value -/
  reset : Nat
  /-- access type -/
  acc   : Acc
  /-- the bits a write may change -/
  mask  : Nat
  /-- the slot's part in a 36-bit register -/
  half  : Half
  deriving DecidableEq, Repr

/-- The common page header (R40). -/
def headerRegs : List RegDesc := [
  ⟨0o0, 0o0, 0o0, .ro, 0o0, .one⟩,
  ⟨0o1, 0o1, 0o1000, .ro, 0o0, .one⟩,
  ⟨0o2, 0o2, 0o200, .ro, 0o0, .one⟩,
  ⟨0o3, 0o3, 0o0, .rw, 0o1, .one⟩,
  ⟨0o4, 0o4, 0o0, .w1c, 0o377, .one⟩,
  ⟨0o5, 0o5, 0o0, .rw, 0o377, .one⟩,
  ⟨0o6, 0o6, 0o0, .ro, 0o0, .one⟩,
  ⟨0o7, 0o7, 0o0, .w1c, 0o767777, .one⟩,
  ⟨0o10, 0o10, 0o0, .ro, 0o0, .one⟩,
  ⟨0o11, 0o11, 0o0, .ro, 0o0, .one⟩,
  ⟨0o12, 0o12, 0o0, .w1s, 0o1, .one⟩,
  ⟨0o13, 0o13, 0o0, .rwl, 0o17, .one⟩]

/-- Registers of EVT0 (R51). -/
def evt0Regs : List RegDesc := [
  ⟨0o20, 0o20, 0o0, .rw, 0o1, .one⟩,
  ⟨0o21, 0o21, 0o0, .rw, 0o7777, .one⟩,
  ⟨0o22, 0o22, 0o0, .rw, 0o607777, .one⟩,
  ⟨0o23, 0o23, 0o0, .ro, 0o0, .one⟩,
  ⟨0o24, 0o24, 0o0, .rc, 0o0, .one⟩]

/-- Registers of EVT1 (R51). -/
def evt1Regs : List RegDesc := [
  ⟨0o20, 0o417, 0o0, .ro, 0o0, .one⟩]

/-- Registers of EVT2 (R51). -/
def evt2Regs : List RegDesc := [
  ⟨0o20, 0o417, 0o0, .ro, 0o0, .one⟩]

/-- Registers of EVT3 (R51). -/
def evt3Regs : List RegDesc := [
  ⟨0o20, 0o26, 0o0, .w1s, 0o177777, .one⟩,
  ⟨0o30, 0o36, 0o0, .w1c, 0o177777, .one⟩]

/-- Registers of WQ (R92). -/
def wqRegs : List RegDesc := [
  ⟨0o20, 0o20, 0o100006, .rw, 0o760037, .one⟩,
  ⟨0o22, 0o22, 0o0, .rw, 0o770000, .lower⟩,
  ⟨0o23, 0o23, 0o0, .rw, 0o777777, .upper⟩,
  ⟨0o24, 0o24, 0o0, .rw, 0o777777, .one⟩,
  ⟨0o26, 0o26, 0o0, .rw, 0o777774, .lower⟩,
  ⟨0o27, 0o27, 0o0, .rw, 0o777777, .upper⟩,
  ⟨0o30, 0o30, 0o0, .rw, 0o777777, .one⟩,
  ⟨0o31, 0o31, 0o200000, .rw, 0o377777, .one⟩,
  ⟨0o32, 0o32, 0o200000, .ro, 0o0, .one⟩,
  ⟨0o33, 0o33, 0o200000, .ro, 0o0, .one⟩,
  ⟨0o34, 0o34, 0o0, .ro, 0o0, .one⟩,
  ⟨0o35, 0o35, 0o0, .ro, 0o0, .one⟩,
  ⟨0o36, 0o36, 0o0, .ro, 0o0, .one⟩,
  ⟨0o37, 0o37, 0o1000, .rw, 0o777777, .one⟩,
  ⟨0o40, 0o40, 0o0, .ro, 0o0, .one⟩,
  ⟨0o41, 0o41, 0o0, .ro, 0o0, .one⟩]

/-- Registers of LODE (R125). -/
def lodeRegs : List RegDesc := [
  ⟨0o20, 0o20, 0o401, .rw, 0o761, .one⟩,
  ⟨0o21, 0o21, 0o0, .rw, 0o37777, .one⟩,
  ⟨0o22, 0o22, 0o0, .ro, 0o0, .one⟩,
  ⟨0o23, 0o23, 0o0, .ro, 0o0, .one⟩,
  ⟨0o24, 0o27, 0o0, .ro, 0o0, .one⟩,
  ⟨0o30, 0o30, 0o0, .ro, 0o0, .lower⟩,
  ⟨0o31, 0o31, 0o0, .ro, 0o0, .upper⟩,
  ⟨0o32, 0o32, 0o0, .ro, 0o0, .lower⟩,
  ⟨0o33, 0o33, 0o0, .ro, 0o0, .upper⟩]

/-- Registers of PLACE (R126). -/
def placeRegs : List RegDesc := [
  ⟨0o20, 0o20, 0o0, .rw, 0o577777, .one⟩,
  ⟨0o21, 0o21, 0o0, .ro, 0o0, .one⟩,
  ⟨0o22, 0o22, 0o0, .rw, 0o777777, .lower⟩,
  ⟨0o23, 0o23, 0o0, .rw, 0o777777, .upper⟩,
  ⟨0o24, 0o24, 0o0, .rw, 0o177777, .one⟩,
  ⟨0o25, 0o25, 0o0, .rw, 0o400777, .one⟩,
  ⟨0o26, 0o26, 0o0, .rw, 0o177777, .one⟩,
  ⟨0o27, 0o27, 0o0, .rw, 0o777777, .one⟩,
  ⟨0o30, 0o30, 0o0, .rw, 0o600377, .one⟩,
  ⟨0o31, 0o31, 0o0, .rw, 0o177777, .one⟩,
  ⟨0o32, 0o32, 0o0, .rw, 0o177777, .one⟩,
  ⟨0o33, 0o33, 0o0, .wo, 0o0, .one⟩,
  ⟨0o34, 0o34, 0o0, .rw, 0o777777, .lower⟩,
  ⟨0o35, 0o35, 0o0, .rw, 0o377, .upper⟩,
  ⟨0o36, 0o36, 0o0, .ro, 0o0, .one⟩,
  ⟨0o37, 0o37, 0o0, .ro, 0o0, .one⟩,
  ⟨0o40, 0o40, 0o0, .ro, 0o0, .one⟩,
  ⟨0o41, 0o41, 0o0, .ro, 0o0, .one⟩,
  ⟨0o42, 0o42, 0o0, .ro, 0o0, .lower⟩,
  ⟨0o43, 0o43, 0o0, .ro, 0o0, .upper⟩,
  ⟨0o44, 0o44, 0o0, .ro, 0o0, .lower⟩,
  ⟨0o45, 0o45, 0o0, .ro, 0o0, .upper⟩]

/-- Registers of DNL (R127). -/
def dnlRegs : List RegDesc := [
  ⟨0o20, 0o20, 0o0, .rw, 0o3, .one⟩,
  ⟨0o21, 0o21, 0o0, .ro, 0o0, .one⟩,
  ⟨0o22, 0o22, 0o0, .ro, 0o0, .one⟩,
  ⟨0o23, 0o23, 0o0, .ro, 0o0, .one⟩,
  ⟨0o24, 0o24, 0o0, .ro, 0o0, .lower⟩,
  ⟨0o25, 0o25, 0o0, .ro, 0o0, .upper⟩,
  ⟨0o26, 0o26, 0o0, .ro, 0o0, .lower⟩,
  ⟨0o27, 0o27, 0o0, .ro, 0o0, .upper⟩,
  ⟨0o30, 0o30, 0o0, .ro, 0o0, .lower⟩,
  ⟨0o31, 0o31, 0o0, .ro, 0o0, .upper⟩,
  ⟨0o32, 0o32, 0o0, .ro, 0o0, .lower⟩,
  ⟨0o33, 0o33, 0o0, .ro, 0o0, .upper⟩,
  ⟨0o34, 0o34, 0o0, .ro, 0o0, .one⟩]

/-- Registers of DNLX (R128). -/
def dnlxRegs : List RegDesc := [
  ⟨0o20, 0o20, 0o0, .rwl, 0o177777, .one⟩,
  ⟨0o21, 0o21, 0o0, .rw, 0o3, .one⟩,
  ⟨0o22, 0o22, 0o0, .rw, 0o177777, .one⟩,
  ⟨0o23, 0o23, 0o0, .rw, 0o577777, .one⟩,
  ⟨0o24, 0o24, 0o0, .rw, 0o770000, .one⟩,
  ⟨0o25, 0o25, 0o0, .rwl, 0o177777, .one⟩,
  ⟨0o26, 0o26, 0o0, .rwl, 0o177777, .one⟩,
  ⟨0o27, 0o27, 0o0, .rwl, 0o1777, .one⟩,
  ⟨0o30, 0o33, 0o0, .ro, 0o0, .one⟩,
  ⟨0o34, 0o37, 0o0, .wo, 0o0, .one⟩,
  ⟨0o40, 0o40, 0o0, .ro, 0o0, .one⟩,
  ⟨0o41, 0o41, 0o0, .ro, 0o0, .one⟩,
  ⟨0o42, 0o42, 0o0, .rw, 0o177777, .one⟩]

/-- Registers of HMK (R132). -/
def hmkRegs : List RegDesc := [
  ⟨0o20, 0o20, 0o0, .ro, 0o0, .one⟩,
  ⟨0o21, 0o24, 0o0, .ro, 0o0, .one⟩,
  ⟨0o25, 0o25, 0o0, .ro, 0o0, .one⟩]

/-- Registers of RNG (R551). -/
def rngRegs : List RegDesc := [
  ⟨0o20, 0o20, 0o400, .rwl, 0o177777, .one⟩,
  ⟨0o21, 0o21, 0o51, .rwl, 0o377, .one⟩,
  ⟨0o22, 0o22, 0o632, .rwl, 0o777, .one⟩,
  ⟨0o23, 0o23, 0o0, .ro, 0o0, .one⟩,
  ⟨0o24, 0o24, 0o0, .ro, 0o0, .lower⟩,
  ⟨0o25, 0o25, 0o0, .ro, 0o0, .upper⟩,
  ⟨0o26, 0o26, 0o0, .ro, 0o0, .lower⟩,
  ⟨0o27, 0o27, 0o0, .ro, 0o0, .upper⟩]

/-- Registers of CRED (R156). -/
def credRegs : List RegDesc := [
  ⟨0o20, 0o20, 0o0, .rw, 0o777760, .lower⟩,
  ⟨0o21, 0o21, 0o0, .rw, 0o777777, .upper⟩,
  ⟨0o22, 0o22, 0o0, .rw, 0o777777, .one⟩,
  ⟨0o23, 0o23, 0o6, .rw, 0o37, .one⟩,
  ⟨0o24, 0o24, 0o0, .rw, 0o777774, .lower⟩,
  ⟨0o25, 0o25, 0o0, .rw, 0o777777, .upper⟩,
  ⟨0o26, 0o26, 0o0, .rw, 0o777777, .one⟩,
  ⟨0o27, 0o27, 0o200000, .rw, 0o377777, .one⟩,
  ⟨0o30, 0o30, 0o200000, .ro, 0o0, .one⟩,
  ⟨0o31, 0o31, 0o0, .ro, 0o0, .lower⟩,
  ⟨0o32, 0o32, 0o0, .ro, 0o0, .upper⟩,
  ⟨0o33, 0o36, 0o400, .ro, 0o0, .one⟩,
  ⟨0o37, 0o37, 0o0, .rw, 0o1777, .one⟩,
  ⟨0o40, 0o40, 0o0, .ro, 0o0, .one⟩,
  ⟨0o41, 0o41, 0o0, .ro, 0o0, .lower⟩,
  ⟨0o42, 0o42, 0o0, .ro, 0o0, .upper⟩]

/-- Registers of PEAT (R165). -/
def peatRegs : List RegDesc := [
  ⟨0o20, 0o20, 0o0, .rw, 0o377, .one⟩,
  ⟨0o21, 0o21, 0o0, .rw, 0o177777, .one⟩,
  ⟨0o22, 0o22, 0o0, .rwl, 0o177777, .one⟩,
  ⟨0o23, 0o23, 0o0, .ro, 0o0, .one⟩,
  ⟨0o24, 0o24, 0o0, .wo, 0o0, .one⟩,
  ⟨0o25, 0o25, 0o0, .rw, 0o777777, .one⟩,
  ⟨0o26, 0o26, 0o0, .rw, 0o777777, .one⟩,
  ⟨0o27, 0o27, 0o0, .ro, 0o0, .one⟩,
  ⟨0o30, 0o30, 0o0, .ro, 0o0, .lower⟩,
  ⟨0o31, 0o31, 0o0, .ro, 0o0, .upper⟩,
  ⟨0o32, 0o32, 0o0, .ro, 0o0, .one⟩,
  ⟨0o33, 0o33, 0o0, .rwl, 0o1777, .one⟩,
  ⟨0o34, 0o34, 0o4, .rwl, 0o177, .one⟩,
  ⟨0o35, 0o35, 0o0, .ro, 0o0, .one⟩]

/-- Registers of CIPH (R192). -/
def ciphRegs : List RegDesc := [
  ⟨0o20, 0o20, 0o1, .rw, 0o1, .one⟩,
  ⟨0o21, 0o21, 0o0, .ro, 0o0, .one⟩,
  ⟨0o22, 0o22, 0o0, .ro, 0o0, .one⟩,
  ⟨0o23, 0o23, 0o0, .ro, 0o0, .one⟩,
  ⟨0o24, 0o24, 0o0, .ro, 0o0, .lower⟩,
  ⟨0o25, 0o25, 0o0, .ro, 0o0, .upper⟩,
  ⟨0o26, 0o26, 0o0, .ro, 0o0, .lower⟩,
  ⟨0o27, 0o27, 0o0, .ro, 0o0, .upper⟩,
  ⟨0o30, 0o30, 0o0, .ro, 0o0, .lower⟩,
  ⟨0o31, 0o31, 0o0, .ro, 0o0, .upper⟩,
  ⟨0o32, 0o32, 0o0, .ro, 0o0, .one⟩,
  ⟨0o33, 0o33, 0o0, .ro, 0o0, .one⟩,
  ⟨0o34, 0o52, 0o0, .ro, 0o0, .one⟩]

/-- Registers of DIG (R214). -/
def digRegs : List RegDesc := [
  ⟨0o20, 0o20, 0o1, .rw, 0o1, .one⟩,
  ⟨0o21, 0o21, 0o0, .ro, 0o0, .one⟩,
  ⟨0o22, 0o22, 0o0, .ro, 0o0, .one⟩,
  ⟨0o23, 0o23, 0o0, .ro, 0o0, .one⟩,
  ⟨0o24, 0o24, 0o0, .ro, 0o0, .one⟩,
  ⟨0o25, 0o25, 0o0, .ro, 0o0, .lower⟩,
  ⟨0o26, 0o26, 0o0, .ro, 0o0, .upper⟩,
  ⟨0o27, 0o27, 0o0, .ro, 0o0, .lower⟩,
  ⟨0o30, 0o30, 0o0, .ro, 0o0, .upper⟩,
  ⟨0o31, 0o31, 0o0, .ro, 0o0, .lower⟩,
  ⟨0o32, 0o32, 0o0, .ro, 0o0, .upper⟩,
  ⟨0o33, 0o33, 0o0, .ro, 0o0, .one⟩,
  ⟨0o34, 0o34, 0o0, .ro, 0o0, .one⟩,
  ⟨0o40, 0o77, 0o0, .ro, 0o0, .one⟩]

/-- Registers of BN (R242). -/
def bnRegs : List RegDesc := [
  ⟨0o20, 0o20, 0o0, .rw, 0o3, .one⟩,
  ⟨0o21, 0o21, 0o0, .ro, 0o0, .one⟩,
  ⟨0o22, 0o22, 0o0, .ro, 0o0, .one⟩,
  ⟨0o23, 0o23, 0o0, .ro, 0o0, .lower⟩,
  ⟨0o24, 0o24, 0o0, .ro, 0o0, .upper⟩,
  ⟨0o25, 0o25, 0o0, .rc, 0o0, .one⟩,
  ⟨0o26, 0o26, 0o0, .ro, 0o0, .lower⟩,
  ⟨0o27, 0o27, 0o0, .ro, 0o0, .upper⟩,
  ⟨0o30, 0o30, 0o0, .ro, 0o0, .lower⟩,
  ⟨0o31, 0o31, 0o0, .ro, 0o0, .upper⟩,
  ⟨0o32, 0o32, 0o0, .ro, 0o0, .lower⟩,
  ⟨0o33, 0o33, 0o0, .ro, 0o0, .upper⟩,
  ⟨0o34, 0o34, 0o0, .ro, 0o0, .one⟩,
  ⟨0o35, 0o35, 0o0, .ro, 0o0, .one⟩,
  ⟨0o36, 0o36, 0o0, .ro, 0o0, .one⟩]

/-- Registers of KZ (R276, R315). -/
def kzRegs : List RegDesc := [
  ⟨0o20, 0o20, 0o1, .rw, 0o1, .one⟩,
  ⟨0o21, 0o21, 0o0, .rwl, 0o777777, .lower⟩,
  ⟨0o22, 0o22, 0o0, .rwl, 0o777777, .upper⟩,
  ⟨0o23, 0o23, 0o0, .rwl, 0o776000, .lower⟩,
  ⟨0o24, 0o24, 0o0, .rwl, 0o777777, .upper⟩,
  ⟨0o25, 0o25, 0o0, .ro, 0o0, .one⟩,
  ⟨0o26, 0o26, 0o0, .ro, 0o0, .one⟩,
  ⟨0o27, 0o27, 0o0, .ro, 0o0, .one⟩,
  ⟨0o30, 0o30, 0o0, .ro, 0o0, .lower⟩,
  ⟨0o31, 0o31, 0o0, .ro, 0o0, .upper⟩,
  ⟨0o32, 0o32, 0o0, .ro, 0o0, .lower⟩,
  ⟨0o33, 0o33, 0o0, .ro, 0o0, .upper⟩,
  ⟨0o34, 0o34, 0o0, .ro, 0o0, .lower⟩,
  ⟨0o35, 0o35, 0o0, .ro, 0o0, .upper⟩,
  ⟨0o36, 0o36, 0o0, .ro, 0o0, .lower⟩,
  ⟨0o37, 0o37, 0o0, .ro, 0o0, .upper⟩,
  ⟨0o40, 0o40, 0o0, .ro, 0o0, .one⟩,
  ⟨0o60, 0o63, 0o0, .rw, 0o177777, .one⟩,
  ⟨0o64, 0o64, 0o0, .ro, 0o0, .one⟩,
  ⟨0o65, 0o65, 0o0, .ro, 0o0, .one⟩,
  ⟨0o66, 0o66, 0o0, .ro, 0o0, .lower⟩,
  ⟨0o67, 0o67, 0o0, .ro, 0o0, .upper⟩,
  ⟨0o70, 0o70, 0o0, .rc, 0o0, .one⟩,
  ⟨0o71, 0o71, 0o0, .ro, 0o0, .one⟩,
  ⟨0o72, 0o72, 0o0, .ro, 0o0, .lower⟩,
  ⟨0o73, 0o73, 0o0, .ro, 0o0, .upper⟩]

/-- Registers of CLU (R283). -/
def cluRegs : List RegDesc := [
  ⟨0o100, 0o117, 0o0, .rc, 0o0, .one⟩,
  ⟨0o120, 0o120, 0o1, .ro, 0o0, .one⟩]

/-- Registers of CGATE (R332). -/
def cgateRegs : List RegDesc := [
  ⟨0o20, 0o20, 0o0, .rw, 0o403777, .one⟩,
  ⟨0o21, 0o21, 0o0, .rwl, 0o17, .one⟩,
  ⟨0o22, 0o22, 0o0, .ro, 0o0, .lower⟩,
  ⟨0o23, 0o23, 0o0, .ro, 0o0, .upper⟩,
  ⟨0o24, 0o24, 0o0, .w1c, 0o400000, .one⟩,
  ⟨0o25, 0o25, 0o0, .ro, 0o0, .one⟩,
  ⟨0o26, 0o26, 0o0, .ro, 0o0, .lower⟩,
  ⟨0o27, 0o27, 0o0, .ro, 0o0, .upper⟩,
  ⟨0o30, 0o30, 0o0, .ro, 0o0, .one⟩,
  ⟨0o40, 0o57, 0o0, .rwl, 0o417077, .one⟩,
  ⟨0o60, 0o77, 0o0, .rwl, 0o417077, .one⟩]

/-- Registers of GATE (R333). -/
def gateRegs : List RegDesc := [
  ⟨0o20, 0o20, 0o0, .rw, 0o400177, .one⟩,
  ⟨0o21, 0o21, 0o0, .rwl, 0o777777, .one⟩,
  ⟨0o22, 0o22, 0o177777, .rwl, 0o177777, .one⟩,
  ⟨0o23, 0o23, 0o0, .rwl, 0o177777, .one⟩,
  ⟨0o24, 0o24, 0o0, .ro, 0o0, .lower⟩,
  ⟨0o25, 0o25, 0o0, .ro, 0o0, .upper⟩,
  ⟨0o26, 0o26, 0o0, .w1c, 0o400000, .one⟩,
  ⟨0o27, 0o27, 0o0, .ro, 0o0, .one⟩,
  ⟨0o30, 0o30, 0o0, .ro, 0o0, .lower⟩,
  ⟨0o31, 0o31, 0o0, .ro, 0o0, .upper⟩]

/-- Registers of DBG (R334). -/
def dbgRegs : List RegDesc := [
  ⟨0o20, 0o20, 0o0, .ro, 0o0, .one⟩,
  ⟨0o21, 0o21, 0o0, .wo, 0o0, .one⟩,
  ⟨0o22, 0o22, 0o0, .rw, 0o1, .one⟩,
  ⟨0o23, 0o23, 0o0, .rwl, 0o77777, .one⟩,
  ⟨0o24, 0o24, 0o0, .rw, 0o777777, .lower⟩,
  ⟨0o25, 0o25, 0o0, .rw, 0o777777, .upper⟩,
  ⟨0o26, 0o26, 0o0, .rw, 0o777777, .one⟩,
  ⟨0o27, 0o27, 0o0, .wo, 0o0, .one⟩,
  ⟨0o30, 0o30, 0o0, .ro, 0o0, .one⟩,
  ⟨0o31, 0o34, 0o0, .rw, 0o177777, .one⟩,
  ⟨0o35, 0o40, 0o0, .ro, 0o0, .one⟩,
  ⟨0o41, 0o44, 0o0, .ro, 0o0, .one⟩,
  ⟨0o45, 0o50, 0o0, .wo, 0o0, .one⟩,
  ⟨0o51, 0o54, 0o0, .rw, 0o177777, .one⟩,
  ⟨0o55, 0o55, 0o0, .ro, 0o0, .lower⟩,
  ⟨0o56, 0o56, 0o0, .ro, 0o0, .upper⟩]

/-- Registers of SLUICE (R347). -/
def sluiceRegs : List RegDesc := [
  ⟨0o20, 0o20, 0o0, .rw, 0o1, .one⟩,
  ⟨0o21, 0o21, 0o0, .ro, 0o0, .one⟩,
  ⟨0o22, 0o22, 0o0, .rw, 0o400177, .one⟩,
  ⟨0o23, 0o23, 0o0, .rw, 0o3, .one⟩,
  ⟨0o24, 0o24, 0o0, .rw, 0o777777, .one⟩,
  ⟨0o25, 0o25, 0o10000, .rw, 0o777777, .one⟩,
  ⟨0o26, 0o26, 0o0, .rc, 0o0, .one⟩,
  ⟨0o27, 0o27, 0o0, .ro, 0o0, .lower⟩,
  ⟨0o30, 0o30, 0o0, .ro, 0o0, .upper⟩,
  ⟨0o31, 0o31, 0o0, .ro, 0o0, .lower⟩,
  ⟨0o32, 0o32, 0o0, .ro, 0o0, .upper⟩,
  ⟨0o33, 0o33, 0o0, .ro, 0o0, .lower⟩,
  ⟨0o34, 0o34, 0o0, .ro, 0o0, .upper⟩,
  ⟨0o35, 0o35, 0o0, .ro, 0o0, .lower⟩,
  ⟨0o36, 0o36, 0o0, .ro, 0o0, .upper⟩]

/-- Registers of CST (R372). -/
def cstRegs : List RegDesc := [
  ⟨0o20, 0o20, 0o13237, .rw, 0o37777, .one⟩,
  ⟨0o21, 0o21, 0o10, .rw, 0o377, .one⟩,
  ⟨0o22, 0o22, 0o764, .rw, 0o777, .one⟩,
  ⟨0o23, 0o23, 0o144, .rw, 0o777, .one⟩,
  ⟨0o24, 0o24, 0o1750, .rw, 0o177777, .one⟩,
  ⟨0o25, 0o25, 0o11610, .rw, 0o177777, .one⟩,
  ⟨0o26, 0o26, 0o0, .ro, 0o0, .one⟩,
  ⟨0o27, 0o27, 0o0, .ro, 0o0, .one⟩,
  ⟨0o30, 0o30, 0o0, .ro, 0o0, .one⟩,
  ⟨0o31, 0o31, 0o0, .ro, 0o0, .one⟩,
  ⟨0o32, 0o52, 0o0, .ro, 0o0, .one⟩,
  ⟨0o53, 0o53, 0o0, .ro, 0o0, .lower⟩,
  ⟨0o54, 0o54, 0o0, .ro, 0o0, .upper⟩,
  ⟨0o55, 0o55, 0o0, .ro, 0o0, .one⟩,
  ⟨0o56, 0o56, 0o0, .ro, 0o0, .one⟩,
  ⟨0o57, 0o57, 0o0, .ro, 0o0, .one⟩,
  ⟨0o60, 0o60, 0o0, .ro, 0o0, .one⟩]

/-- Registers of FST (R406). -/
def fstRegs : List RegDesc := [
  ⟨0o20, 0o20, 0o11513, .rw, 0o37777, .one⟩,
  ⟨0o21, 0o21, 0o1010, .rw, 0o177777, .one⟩,
  ⟨0o22, 0o22, 0o776, .rw, 0o177777, .one⟩,
  ⟨0o23, 0o23, 0o24, .rw, 0o1777, .one⟩,
  ⟨0o24, 0o24, 0o120, .rw, 0o7777, .one⟩,
  ⟨0o25, 0o25, 0o372, .rwl, 0o777, .one⟩,
  ⟨0o26, 0o26, 0o1750, .rw, 0o177777, .one⟩,
  ⟨0o27, 0o27, 0o0, .ro, 0o0, .one⟩,
  ⟨0o30, 0o30, 0o0, .ro, 0o0, .one⟩,
  ⟨0o31, 0o31, 0o0, .ro, 0o0, .one⟩,
  ⟨0o32, 0o32, 0o0, .ro, 0o0, .one⟩,
  ⟨0o33, 0o33, 0o0, .ro, 0o0, .one⟩,
  ⟨0o34, 0o34, 0o0, .ro, 0o0, .lower⟩,
  ⟨0o35, 0o35, 0o0, .ro, 0o0, .upper⟩,
  ⟨0o36, 0o36, 0o0, .ro, 0o0, .lower⟩,
  ⟨0o37, 0o37, 0o0, .ro, 0o0, .upper⟩,
  ⟨0o40, 0o40, 0o0, .ro, 0o0, .one⟩,
  ⟨0o41, 0o41, 0o0, .ro, 0o0, .one⟩,
  ⟨0o42, 0o42, 0o0, .ro, 0o0, .one⟩,
  ⟨0o43, 0o43, 0o0, .ro, 0o0, .one⟩,
  ⟨0o44, 0o44, 0o0, .ro, 0o0, .one⟩,
  ⟨0o45, 0o45, 0o0, .wo, 0o0, .one⟩]

/-- Registers of MIDR (R407). -/
def midrRegs : List RegDesc := [
  ⟨0o20, 0o20, 0o17, .rwl, 0o17, .one⟩,
  ⟨0o21, 0o21, 0o0, .rw, 0o17, .one⟩,
  ⟨0o22, 0o22, 0o0, .wo, 0o0, .one⟩,
  ⟨0o23, 0o23, 0o0, .ro, 0o0, .one⟩,
  ⟨0o24, 0o24, 0o0, .ro, 0o0, .one⟩,
  ⟨0o25, 0o25, 0o0, .ro, 0o0, .one⟩,
  ⟨0o40, 0o237, 0o0, .ro, 0o0, .one⟩]

/-- Registers of LINE (R429). -/
def lineRegs : List RegDesc := [
  ⟨0o20, 0o20, 0o10, .rw, 0o77, .one⟩,
  ⟨0o21, 0o21, 0o10000, .rw, 0o777777, .one⟩,
  ⟨0o22, 0o22, 0o0, .rw, 0o777777, .one⟩,
  ⟨0o23, 0o23, 0o0, .rw, 0o777777, .one⟩,
  ⟨0o24, 0o24, 0o0, .rw, 0o777777, .one⟩,
  ⟨0o25, 0o25, 0o0, .rw, 0o777777, .one⟩,
  ⟨0o26, 0o26, 0o0, .rw, 0o777777, .one⟩,
  ⟨0o27, 0o27, 0o0, .rw, 0o777777, .one⟩,
  ⟨0o30, 0o30, 0o0, .rw, 0o177777, .one⟩,
  ⟨0o31, 0o31, 0o10, .rw, 0o777777, .one⟩,
  ⟨0o32, 0o32, 0o12, .rw, 0o377, .one⟩,
  ⟨0o33, 0o33, 0o24, .rw, 0o777777, .one⟩,
  ⟨0o34, 0o34, 0o0, .ro, 0o0, .lower⟩,
  ⟨0o35, 0o35, 0o0, .ro, 0o0, .upper⟩,
  ⟨0o36, 0o36, 0o0, .ro, 0o0, .lower⟩,
  ⟨0o37, 0o37, 0o0, .ro, 0o0, .upper⟩,
  ⟨0o40, 0o40, 0o0, .ro, 0o0, .one⟩,
  ⟨0o41, 0o41, 0o151, .ro, 0o0, .one⟩,
  ⟨0o42, 0o42, 0o0, .ro, 0o0, .one⟩,
  ⟨0o43, 0o43, 0o0, .ro, 0o0, .lower⟩,
  ⟨0o44, 0o44, 0o0, .ro, 0o0, .upper⟩,
  ⟨0o45, 0o45, 0o0, .wo, 0o0, .one⟩,
  ⟨0o46, 0o46, 0o0, .rw, 0o777777, .lower⟩,
  ⟨0o47, 0o47, 0o0, .rw, 0o777777, .upper⟩,
  ⟨0o50, 0o50, 0o0, .ro, 0o0, .one⟩,
  ⟨0o51, 0o51, 0o0, .ro, 0o0, .lower⟩,
  ⟨0o52, 0o52, 0o0, .ro, 0o0, .upper⟩,
  ⟨0o53, 0o53, 0o0, .rw, 0o37, .one⟩,
  ⟨0o54, 0o54, 0o0, .ro, 0o0, .one⟩,
  ⟨0o55, 0o61, 0o0, .ro, 0o0, .one⟩,
  ⟨0o62, 0o62, 0o0, .ro, 0o0, .one⟩,
  ⟨0o63, 0o63, 0o0, .ro, 0o0, .lower⟩,
  ⟨0o64, 0o64, 0o0, .ro, 0o0, .upper⟩,
  ⟨0o65, 0o65, 0o0, .ro, 0o0, .one⟩,
  ⟨0o66, 0o66, 0o0, .ro, 0o0, .lower⟩,
  ⟨0o67, 0o67, 0o0, .ro, 0o0, .upper⟩,
  ⟨0o100, 0o137, 0o0, .rw, 0o777777, .one⟩,
  ⟨0o140, 0o177, 0o0, .rw, 0o777777, .one⟩,
  ⟨0o200, 0o217, 0o0, .rw, 0o777777, .one⟩,
  ⟨0o220, 0o237, 0o0, .rw, 0o707777, .one⟩,
  ⟨0o240, 0o243, 0o0, .rw, 0o777777, .one⟩]

/-- Registers of TAMP0 (R459). -/
def tamp0Regs : List RegDesc := [
  ⟨0o20, 0o27, 0o0, .ro, 0o0, .one⟩,
  ⟨0o30, 0o37, 0o0, .w1c, 0o177777, .one⟩,
  ⟨0o40, 0o40, 0o0, .rw, 0o177, .one⟩,
  ⟨0o41, 0o41, 0o0, .wo, 0o0, .one⟩,
  ⟨0o42, 0o42, 0o0, .ro, 0o0, .one⟩,
  ⟨0o43, 0o43, 0o0, .ro, 0o0, .one⟩,
  ⟨0o44, 0o44, 0o0, .ro, 0o0, .one⟩,
  ⟨0o45, 0o45, 0o0, .ro, 0o0, .one⟩,
  ⟨0o46, 0o46, 0o0, .ro, 0o0, .one⟩,
  ⟨0o47, 0o47, 0o0, .ro, 0o0, .one⟩,
  ⟨0o50, 0o50, 0o0, .ro, 0o0, .one⟩,
  ⟨0o51, 0o51, 0o0, .ro, 0o0, .lower⟩,
  ⟨0o52, 0o52, 0o0, .ro, 0o0, .upper⟩,
  ⟨0o53, 0o53, 0o0, .ro, 0o0, .one⟩]

/-- Registers of TAMP1 (R460). -/
def tamp1Regs : List RegDesc := [
  ⟨0o20, 0o20, 0o0, .rw, 0o400177, .one⟩,
  ⟨0o21, 0o21, 0o0, .rw, 0o3777, .one⟩,
  ⟨0o22, 0o22, 0o0, .ro, 0o0, .one⟩,
  ⟨0o23, 0o23, 0o0, .ro, 0o0, .one⟩,
  ⟨0o24, 0o24, 0o0, .ro, 0o0, .one⟩,
  ⟨0o25, 0o25, 0o0, .ro, 0o0, .one⟩,
  ⟨0o26, 0o26, 0o0, .wo, 0o0, .one⟩]

/-- Registers of MOSS (R461). -/
def mossRegs : List RegDesc := [
  ⟨0o20, 0o20, 0o0, .ro, 0o0, .one⟩,
  ⟨0o21, 0o21, 0o0, .rc, 0o0, .one⟩,
  ⟨0o22, 0o22, 0o0, .ro, 0o0, .lower⟩,
  ⟨0o23, 0o23, 0o0, .ro, 0o0, .upper⟩,
  ⟨0o24, 0o24, 0o0, .ro, 0o0, .one⟩,
  ⟨0o25, 0o25, 0o0, .ro, 0o0, .one⟩]

/-- Registers of WISP (R462). -/
def wispRegs : List RegDesc := [
  ⟨0o20, 0o20, 0o0, .rw, 0o1, .one⟩,
  ⟨0o21, 0o21, 0o0, .rw, 0o377, .one⟩,
  ⟨0o22, 0o31, 0o0, .ro, 0o0, .one⟩,
  ⟨0o32, 0o32, 0o0, .ro, 0o0, .one⟩,
  ⟨0o33, 0o33, 0o0, .ro, 0o0, .lower⟩,
  ⟨0o34, 0o34, 0o0, .ro, 0o0, .upper⟩,
  ⟨0o35, 0o37, 0o0, .ro, 0o0, .one⟩,
  ⟨0o40, 0o43, 0o0, .ro, 0o0, .one⟩,
  ⟨0o44, 0o46, 0o0, .ro, 0o0, .one⟩,
  ⟨0o47, 0o47, 0o0, .rw, 0o777777, .one⟩,
  ⟨0o50, 0o50, 0o0, .wo, 0o0, .one⟩,
  ⟨0o51, 0o51, 0o0, .ro, 0o0, .one⟩,
  ⟨0o52, 0o52, 0o0, .ro, 0o0, .one⟩,
  ⟨0o53, 0o53, 0o0, .ro, 0o0, .one⟩]

/-- Registers of FLASH (R480). -/
def flashRegs : List RegDesc := [
  ⟨0o20, 0o20, 0o0, .wo, 0o0, .one⟩,
  ⟨0o21, 0o21, 0o0, .rw, 0o377777, .one⟩,
  ⟨0o22, 0o22, 0o0, .ro, 0o0, .one⟩,
  ⟨0o23, 0o23, 0o0, .ro, 0o0, .one⟩,
  ⟨0o24, 0o24, 0o0, .ro, 0o0, .one⟩,
  ⟨0o25, 0o25, 0o0, .rw, 0o1777, .one⟩,
  ⟨0o26, 0o26, 0o0, .ro, 0o0, .one⟩,
  ⟨0o27, 0o27, 0o0, .ro, 0o0, .one⟩,
  ⟨0o30, 0o33, 0o0, .ro, 0o0, .one⟩,
  ⟨0o34, 0o34, 0o0, .ro, 0o0, .one⟩,
  ⟨0o100, 0o177, 0o0, .rw, 0o177777, .one⟩,
  ⟨0o200, 0o577, 0o0, .rw, 0o777777, .one⟩]

/-- Registers of DEV (R503). -/
def devRegs : List RegDesc := [
  ⟨0o20, 0o20, 0o10502, .ro, 0o0, .one⟩,
  ⟨0o21, 0o21, 0o1000, .ro, 0o0, .one⟩,
  ⟨0o22, 0o22, 0o2, .rwl, 0o7, .one⟩,
  ⟨0o23, 0o23, 0o0, .ro, 0o0, .one⟩,
  ⟨0o24, 0o24, 0o0, .ro, 0o0, .one⟩,
  ⟨0o25, 0o25, 0o0, .ro, 0o0, .one⟩,
  ⟨0o26, 0o26, 0o0, .ro, 0o0, .one⟩,
  ⟨0o27, 0o27, 0o0, .wo, 0o0, .one⟩]

/-- Registers of RSTC (R504). -/
def rstcRegs : List RegDesc := [
  ⟨0o20, 0o20, 0o0, .rc, 0o0, .one⟩,
  ⟨0o21, 0o21, 0o0, .wo, 0o0, .one⟩,
  ⟨0o22, 0o22, 0o0, .ro, 0o0, .one⟩,
  ⟨0o23, 0o23, 0o0, .rwl, 0o177777, .one⟩,
  ⟨0o24, 0o27, 0o0, .rwl, 0o177777, .one⟩,
  ⟨0o30, 0o30, 0o0, .wo, 0o0, .one⟩,
  ⟨0o31, 0o31, 0o0, .ro, 0o0, .one⟩]

/-- Registers of PWR (R505). -/
def pwrRegs : List RegDesc := [
  ⟨0o20, 0o20, 0o454, .rw, 0o777, .one⟩,
  ⟨0o21, 0o21, 0o33260, .rw, 0o777777, .one⟩,
  ⟨0o22, 0o22, 0o104210, .rw, 0o177777, .one⟩,
  ⟨0o23, 0o23, 0o0, .ro, 0o0, .one⟩,
  ⟨0o24, 0o24, 0o0, .ro, 0o0, .one⟩,
  ⟨0o25, 0o25, 0o0, .ro, 0o0, .one⟩,
  ⟨0o26, 0o26, 0o0, .ro, 0o0, .one⟩,
  ⟨0o27, 0o27, 0o0, .ro, 0o0, .one⟩,
  ⟨0o30, 0o30, 0o0, .rw, 0o177777, .one⟩,
  ⟨0o31, 0o31, 0o0, .ro, 0o0, .one⟩,
  ⟨0o32, 0o32, 0o100, .rwl, 0o177, .one⟩,
  ⟨0o33, 0o33, 0o0, .ro, 0o0, .one⟩,
  ⟨0o34, 0o34, 0o0, .ro, 0o0, .lower⟩,
  ⟨0o35, 0o35, 0o0, .ro, 0o0, .upper⟩]

/-- Registers of CLK (R506). -/
def clkRegs : List RegDesc := [
  ⟨0o20, 0o20, 0o0, .ro, 0o0, .one⟩,
  ⟨0o21, 0o24, 0o0, .ro, 0o0, .one⟩]

/-- Registers of DIAG (R520). -/
def diagRegs : List RegDesc := [
  ⟨0o20, 0o20, 0o0, .ro, 0o0, .one⟩,
  ⟨0o21, 0o21, 0o0, .ro, 0o0, .one⟩,
  ⟨0o22, 0o22, 0o0, .ro, 0o0, .lower⟩,
  ⟨0o23, 0o23, 0o0, .ro, 0o0, .upper⟩,
  ⟨0o24, 0o24, 0o0, .ro, 0o0, .one⟩,
  ⟨0o25, 0o25, 0o0, .ro, 0o0, .one⟩,
  ⟨0o26, 0o26, 0o0, .ro, 0o0, .lower⟩,
  ⟨0o27, 0o27, 0o0, .ro, 0o0, .upper⟩,
  ⟨0o30, 0o30, 0o0, .rc, 0o0, .one⟩,
  ⟨0o31, 0o31, 0o0, .rc, 0o0, .one⟩,
  ⟨0o32, 0o32, 0o0, .ro, 0o0, .one⟩,
  ⟨0o33, 0o33, 0o0, .rc, 0o0, .one⟩,
  ⟨0o34, 0o34, 0o0, .ro, 0o0, .lower⟩,
  ⟨0o35, 0o35, 0o0, .ro, 0o0, .upper⟩,
  ⟨0o36, 0o36, 0o0, .ro, 0o0, .one⟩,
  ⟨0o37, 0o37, 0o0, .wo, 0o0, .one⟩,
  ⟨0o40, 0o40, 0o0, .rw, 0o777777, .one⟩]

/-! Word offsets by name, `R.<BLOCK>_<REGISTER>`; for an array of registers the first one. -/

abbrev R.PG_ID : Nat := 0o0
abbrev R.PG_VER : Nat := 0o1
abbrev R.PG_STAT : Nat := 0o2
abbrev R.PG_CTRL : Nat := 0o3
abbrev R.PG_EVT_RAW : Nat := 0o4
abbrev R.PG_EVT_EN : Nat := 0o5
abbrev R.PG_EVT_PEND : Nat := 0o6
abbrev R.PG_ERR : Nat := 0o7
abbrev R.PG_ERR_INFO_LO : Nat := 0o10
abbrev R.PG_ERR_INFO_HI : Nat := 0o11
abbrev R.PG_LOCK : Nat := 0o12
abbrev R.PG_COLOUR : Nat := 0o13
abbrev R.EVT0_EVT_CTRL : Nat := 0o20
abbrev R.EVT0_ROUTE_SEL : Nat := 0o21
abbrev R.EVT0_ROUTE_DATA : Nat := 0o22
abbrev R.EVT0_SRC_STAT : Nat := 0o23
abbrev R.EVT0_LOST_SRC : Nat := 0o24
abbrev R.EVT1_PEND_SUM : Nat := 0o20
abbrev R.EVT2_CORE_PEND : Nat := 0o20
abbrev R.EVT3_SW_SET : Nat := 0o20
abbrev R.EVT3_SW_RAW : Nat := 0o30
abbrev R.WQ_CFG : Nat := 0o20
abbrev R.WQ_RING_BASE : Nat := 0o22
abbrev R.WQ_RING_BASE_HI : Nat := 0o24
abbrev R.WQ_HEAD_ADDR : Nat := 0o26
abbrev R.WQ_HEAD_ADDR_HI : Nat := 0o30
abbrev R.WQ_TAIL_DB : Nat := 0o31
abbrev R.WQ_HEAD : Nat := 0o32
abbrev R.WQ_FETCH : Nat := 0o33
abbrev R.WQ_INFLIGHT : Nat := 0o34
abbrev R.WQ_ERR_IDX : Nat := 0o35
abbrev R.WQ_ERR_CAUSE : Nat := 0o36
abbrev R.WQ_IRQ_MOD : Nat := 0o37
abbrev R.WQ_WAITS : Nat := 0o40
abbrev R.WQ_WAITS_RDY : Nat := 0o41
abbrev R.LODE_CFG : Nat := 0o20
abbrev R.LODE_SESS_SEL : Nat := 0o21
abbrev R.LODE_SESS_INFO : Nat := 0o22
abbrev R.LODE_SESS_SLOT : Nat := 0o23
abbrev R.LODE_REG_OCC : Nat := 0o24
abbrev R.LODE_PREEMPTS : Nat := 0o30
abbrev R.LODE_MIGRATIONS : Nat := 0o32
abbrev R.PLACE_CFG : Nat := 0o20
abbrev R.PLACE_EPOCH : Nat := 0o21
abbrev R.PLACE_SALT : Nat := 0o22
abbrev R.PLACE_MEMBER_SEL : Nat := 0o24
abbrev R.PLACE_MEMBER_DATA : Nat := 0o25
abbrev R.PLACE_OVR_SEL : Nat := 0o26
abbrev R.PLACE_OVR_DATA0 : Nat := 0o27
abbrev R.PLACE_OVR_DATA1 : Nat := 0o30
abbrev R.PLACE_OVR_DATA2 : Nat := 0o31
abbrev R.PLACE_OVR_DATA3 : Nat := 0o32
abbrev R.PLACE_CMD : Nat := 0o33
abbrev R.PLACE_LOOKUP_PAGE : Nat := 0o34
abbrev R.PLACE_LOOKUP_RES : Nat := 0o36
abbrev R.PLACE_LOOKUP_REP : Nat := 0o37
abbrev R.PLACE_STATE : Nat := 0o40
abbrev R.PLACE_FWD_OUT : Nat := 0o41
abbrev R.PLACE_FWD_FAILS : Nat := 0o42
abbrev R.PLACE_REDIRECTS : Nat := 0o44
abbrev R.DNL_CFG : Nat := 0o20
abbrev R.DNL_STATE : Nat := 0o21
abbrev R.DNL_PEER_ID : Nat := 0o22
abbrev R.DNL_PEER_EPOCH : Nat := 0o23
abbrev R.DNL_CRC_ERRS : Nat := 0o24
abbrev R.DNL_REPLAYS : Nat := 0o26
abbrev R.DNL_TX_FLITS : Nat := 0o30
abbrev R.DNL_RX_FLITS : Nat := 0o32
abbrev R.DNL_EQ_STAT : Nat := 0o34
abbrev R.DNLX_DEV_ID : Nat := 0o20
abbrev R.DNLX_TOPO : Nat := 0o21
abbrev R.DNLX_DIM : Nat := 0o22
abbrev R.DNLX_ROUTE_SEL : Nat := 0o23
abbrev R.DNLX_ROUTE_DATA : Nat := 0o24
abbrev R.DNLX_TRUST_SLOT : Nat := 0o25
abbrev R.DNLX_ID_SLOT : Nat := 0o26
abbrev R.DNLX_CERT_SECTOR : Nat := 0o27
abbrev R.DNLX_SYSTIME : Nat := 0o30
abbrev R.DNLX_TIME_SET : Nat := 0o34
abbrev R.DNLX_TIME_STAT : Nat := 0o40
abbrev R.DNLX_TIME_OFS : Nat := 0o41
abbrev R.DNLX_TIME_CFG : Nat := 0o42
abbrev R.HMK_STAT : Nat := 0o20
abbrev R.HMK_FPRINT : Nat := 0o21
abbrev R.HMK_FUSE_STAT : Nat := 0o25
abbrev R.RNG_CFG : Nat := 0o20
abbrev R.RNG_RCT_CUT : Nat := 0o21
abbrev R.RNG_APT_CUT : Nat := 0o22
abbrev R.RNG_STAT : Nat := 0o23
abbrev R.RNG_RESEEDS : Nat := 0o24
abbrev R.RNG_FAILS : Nat := 0o26
abbrev R.CRED_PRQ_BASE : Nat := 0o20
abbrev R.CRED_PRQ_BASE_HI : Nat := 0o22
abbrev R.CRED_PRQ_SIZE : Nat := 0o23
abbrev R.CRED_PRQ_PRODADDR : Nat := 0o24
abbrev R.CRED_PRQ_PRODADDR_HI : Nat := 0o26
abbrev R.CRED_PRQ_CONS : Nat := 0o27
abbrev R.CRED_PRQ_PROD : Nat := 0o30
abbrev R.CRED_PRQ_LOST : Nat := 0o31
abbrev R.CRED_FREE : Nat := 0o33
abbrev R.CRED_FRAME_SEL : Nat := 0o37
abbrev R.CRED_FRAME_INFO : Nat := 0o40
abbrev R.CRED_FRAME_PAGE : Nat := 0o41
abbrev R.PEAT_QKEY_SEL : Nat := 0o20
abbrev R.PEAT_QKEY_DATA : Nat := 0o21
abbrev R.PEAT_CUST_STN : Nat := 0o22
abbrev R.PEAT_QUORUM : Nat := 0o23
abbrev R.PEAT_CER_CTRL : Nat := 0o24
abbrev R.PEAT_CER_PARAM : Nat := 0o25
abbrev R.PEAT_CER_ATTR0 : Nat := 0o26
abbrev R.PEAT_CER_STAT : Nat := 0o27
abbrev R.PEAT_CER_NONCE : Nat := 0o30
abbrev R.PEAT_SLOTS_LIVE : Nat := 0o32
abbrev R.PEAT_STORE_BASE : Nat := 0o33
abbrev R.PEAT_STORE_COUNT : Nat := 0o34
abbrev R.PEAT_STAT : Nat := 0o35
abbrev R.CIPH_CFG : Nat := 0o20
abbrev R.CIPH_STAT : Nat := 0o21
abbrev R.CIPH_CTX_SAVE : Nat := 0o22
abbrev R.CIPH_CTX_RESTORE : Nat := 0o23
abbrev R.CIPH_BLOCKS : Nat := 0o24
abbrev R.CIPH_JOBS : Nat := 0o26
abbrev R.CIPH_PARKS : Nat := 0o30
abbrev R.CIPH_CHK_FAILS : Nat := 0o32
abbrev R.CIPH_KAT : Nat := 0o33
abbrev R.CIPH_KEY : Nat := 0o34
abbrev R.DIG_CFG : Nat := 0o20
abbrev R.DIG_STAT : Nat := 0o21
abbrev R.DIG_WSTAT : Nat := 0o22
abbrev R.DIG_CTX_SAVE : Nat := 0o23
abbrev R.DIG_CTX_RESTORE : Nat := 0o24
abbrev R.DIG_BLOCKS : Nat := 0o25
abbrev R.DIG_JOBS : Nat := 0o27
abbrev R.DIG_PARKS : Nat := 0o31
abbrev R.DIG_CHK_FAILS : Nat := 0o33
abbrev R.DIG_KAT : Nat := 0o34
abbrev R.DIG_RESULT : Nat := 0o40
abbrev R.BN_CFG : Nat := 0o20
abbrev R.BN_STAT : Nat := 0o21
abbrev R.BN_PROG : Nat := 0o22
abbrev R.BN_REMAIN : Nat := 0o23
abbrev R.BN_REFUSE : Nat := 0o25
abbrev R.BN_JOBS : Nat := 0o26
abbrev R.BN_PARKS : Nat := 0o30
abbrev R.BN_MULS : Nat := 0o32
abbrev R.BN_ABORTS : Nat := 0o34
abbrev R.BN_CHK_FAILS : Nat := 0o35
abbrev R.BN_KAT : Nat := 0o36
abbrev R.KZ_CFG : Nat := 0o20
abbrev R.KZ_BOOT : Nat := 0o21
abbrev R.KZ_JFRAME : Nat := 0o23
abbrev R.KZ_STAT : Nat := 0o25
abbrev R.KZ_JOBQ : Nat := 0o26
abbrev R.KZ_JOBPOS : Nat := 0o27
abbrev R.KZ_PC : Nat := 0o30
abbrev R.KZ_CYCLES : Nat := 0o32
abbrev R.KZ_INSTRET : Nat := 0o34
abbrev R.KZ_JOBS : Nat := 0o36
abbrev R.KZ_ABORTS : Nat := 0o40
abbrev R.KZ_INT_EN : Nat := 0o60
abbrev R.KZ_EXC_STAT : Nat := 0o64
abbrev R.KZ_EXC_LEVEL : Nat := 0o65
abbrev R.KZ_EXC_PC : Nat := 0o66
abbrev R.KZ_VFAIL : Nat := 0o70
abbrev R.KZ_BADTAGS : Nat := 0o71
abbrev R.KZ_ENTRIES : Nat := 0o72
abbrev R.CLU_RAND : Nat := 0o100
abbrev R.CLU_RAND_STAT : Nat := 0o120
abbrev R.CGATE_GCOL_SEL : Nat := 0o20
abbrev R.CGATE_GCOL_DATA : Nat := 0o21
abbrev R.CGATE_FAULT_ADDR : Nat := 0o22
abbrev R.CGATE_FAULT_INFO : Nat := 0o24
abbrev R.CGATE_FAULT_COLOUR : Nat := 0o25
abbrev R.CGATE_FAULT_COUNT : Nat := 0o26
abbrev R.CGATE_CLEARING : Nat := 0o30
abbrev R.CGATE_RULEA : Nat := 0o40
abbrev R.CGATE_RULEB : Nat := 0o60
abbrev R.GATE_RULE_SEL : Nat := 0o20
abbrev R.GATE_RULE_DATA : Nat := 0o21
abbrev R.GATE_HOST_KEY : Nat := 0o22
abbrev R.GATE_FLCOL : Nat := 0o23
abbrev R.GATE_FAULT_ADDR : Nat := 0o24
abbrev R.GATE_FAULT_INFO : Nat := 0o26
abbrev R.GATE_FAULT_GATE : Nat := 0o27
abbrev R.GATE_FAULT_COUNT : Nat := 0o30
abbrev R.DBG_LIFE : Nat := 0o20
abbrev R.DBG_LIFE_ADV : Nat := 0o21
abbrev R.DBG_CTRL : Nat := 0o22
abbrev R.DBG_KEY : Nat := 0o23
abbrev R.DBG_ADDR : Nat := 0o24
abbrev R.DBG_DATA : Nat := 0o26
abbrev R.DBG_CMD : Nat := 0o27
abbrev R.DBG_STAT : Nat := 0o30
abbrev R.DBG_HALT_REQ : Nat := 0o31
abbrev R.DBG_HALTED : Nat := 0o35
abbrev R.DBG_DEFERRED : Nat := 0o41
abbrev R.DBG_RESUME : Nat := 0o45
abbrev R.DBG_BRK_ARM : Nat := 0o51
abbrev R.DBG_DENY_ADDR : Nat := 0o55
abbrev R.SLUICE_CFG : Nat := 0o20
abbrev R.SLUICE_STAT : Nat := 0o21
abbrev R.SLUICE_RQ_SEL : Nat := 0o22
abbrev R.SLUICE_RQ_CLASS : Nat := 0o23
abbrev R.SLUICE_MON_SEL : Nat := 0o24
abbrev R.SLUICE_MON_LIMIT : Nat := 0o25
abbrev R.SLUICE_MON_MAXWAIT : Nat := 0o26
abbrev R.SLUICE_MON_GRANTS : Nat := 0o27
abbrev R.SLUICE_MON_AGED : Nat := 0o31
abbrev R.SLUICE_MON_STALLS : Nat := 0o33
abbrev R.SLUICE_AGED_ALL : Nat := 0o35
abbrev R.CST_CFG : Nat := 0o20
abbrev R.CST_DEBOUNCE : Nat := 0o21
abbrev R.CST_FMAX : Nat := 0o22
abbrev R.CST_FATR : Nat := 0o23
abbrev R.CST_IDLE_STOP : Nat := 0o24
abbrev R.CST_BUSY_LIMIT : Nat := 0o25
abbrev R.CST_STAT : Nat := 0o26
abbrev R.CST_PARAM : Nat := 0o27
abbrev R.CST_T1STAT : Nat := 0o30
abbrev R.CST_ATRLEN : Nat := 0o31
abbrev R.CST_ATR : Nat := 0o32
abbrev R.CST_EXCHANGES : Nat := 0o53
abbrev R.CST_REPEATS : Nat := 0o55
abbrev R.CST_REMOVALS : Nat := 0o56
abbrev R.CST_LAST : Nat := 0o57
abbrev R.CST_KAT : Nat := 0o60
abbrev R.FST_CFG : Nat := 0o20
abbrev R.FST_GUARD : Nat := 0o21
abbrev R.FST_OFF_MIN : Nat := 0o22
abbrev R.FST_PING_PERIOD : Nat := 0o23
abbrev R.FST_DET_THRESH : Nat := 0o24
abbrev R.FST_PLIMIT : Nat := 0o25
abbrev R.FST_ARRIVE_TIMEOUT : Nat := 0o26
abbrev R.FST_STAT : Nat := 0o27
abbrev R.FST_TUNE : Nat := 0o30
abbrev R.FST_IQ_BASE : Nat := 0o31
abbrev R.FST_DETUNE : Nat := 0o32
abbrev R.FST_ANT : Nat := 0o33
abbrev R.FST_CAL_STEPS : Nat := 0o34
abbrev R.FST_EXCHANGES : Nat := 0o36
abbrev R.FST_ARRIVALS : Nat := 0o40
abbrev R.FST_AMBIGS : Nat := 0o41
abbrev R.FST_REPLAY : Nat := 0o42
abbrev R.FST_LAST : Nat := 0o43
abbrev R.FST_KAT : Nat := 0o44
abbrev R.FST_CMD : Nat := 0o45
abbrev R.MIDR_CFG : Nat := 0o20
abbrev R.MIDR_SEL : Nat := 0o21
abbrev R.MIDR_CMD : Nat := 0o22
abbrev R.MIDR_STAT : Nat := 0o23
abbrev R.MIDR_OK_MAP : Nat := 0o24
abbrev R.MIDR_BUS_ERRS : Nat := 0o25
abbrev R.MIDR_RECORD : Nat := 0o40
abbrev R.LINE_CFG : Nat := 0o20
abbrev R.LINE_ENC1_RATIO : Nat := 0o21
abbrev R.LINE_PITCH : Nat := 0o22
abbrev R.LINE_PITCH_MIN : Nat := 0o23
abbrev R.LINE_SPEED_MAX : Nat := 0o24
abbrev R.LINE_STOP_DIST : Nat := 0o25
abbrev R.LINE_DECIDE : Nat := 0o26
abbrev R.LINE_RETIRE_POS : Nat := 0o27
abbrev R.LINE_MIN_WORK : Nat := 0o30
abbrev R.LINE_REV_TOL : Nat := 0o31
abbrev R.LINE_MARK_DEB : Nat := 0o32
abbrev R.LINE_CHK_TOL : Nat := 0o33
abbrev R.LINE_POS : Nat := 0o34
abbrev R.LINE_POS1 : Nat := 0o36
abbrev R.LINE_SPEED : Nat := 0o40
abbrev R.LINE_STAT : Nat := 0o41
abbrev R.LINE_INFLIGHT : Nat := 0o42
abbrev R.LINE_NEXT_ITEM : Nat := 0o43
abbrev R.LINE_CMD : Nat := 0o45
abbrev R.LINE_ITEM_SEL : Nat := 0o46
abbrev R.LINE_ITEM_STAT : Nat := 0o50
abbrev R.LINE_ITEM_MARK : Nat := 0o51
abbrev R.LINE_STN_SEL : Nat := 0o53
abbrev R.LINE_ITEM_OUT : Nat := 0o54
abbrev R.LINE_ITEM_ID : Nat := 0o55
abbrev R.LINE_ASSOC_FAILS : Nat := 0o62
abbrev R.LINE_REJECTS : Nat := 0o63
abbrev R.LINE_HOLDS : Nat := 0o65
abbrev R.LINE_HOLD_POS : Nat := 0o66
abbrev R.LINE_STN_OPEN : Nat := 0o100
abbrev R.LINE_STN_CLOSE : Nat := 0o140
abbrev R.LINE_REJ_POS : Nat := 0o200
abbrev R.LINE_REJ_CFG : Nat := 0o220
abbrev R.LINE_CHK : Nat := 0o240
abbrev R.TAMP0_COND : Nat := 0o20
abbrev R.TAMP0_LATCH : Nat := 0o30
abbrev R.TAMP0_BIST_SEL : Nat := 0o40
abbrev R.TAMP0_BIST_CTRL : Nat := 0o41
abbrev R.TAMP0_BIST_STAT : Nat := 0o42
abbrev R.TAMP0_LAST : Nat := 0o43
abbrev R.TAMP0_ACTIVE : Nat := 0o44
abbrev R.TAMP0_DONE_SET : Nat := 0o45
abbrev R.TAMP0_PENDING : Nat := 0o46
abbrev R.TAMP0_PEND_CL : Nat := 0o47
abbrev R.TAMP0_PEND_RG : Nat := 0o50
abbrev R.TAMP0_ALARMS : Nat := 0o51
abbrev R.TAMP0_BIST_FAILS : Nat := 0o53
abbrev R.TAMP1_RESP_SEL : Nat := 0o20
abbrev R.TAMP1_RESP_STAGE : Nat := 0o21
abbrev R.TAMP1_RESP_ACTIVE : Nat := 0o22
abbrev R.TAMP1_RESP_FLOOR : Nat := 0o23
abbrev R.TAMP1_RESP_SCOPE : Nat := 0o24
abbrev R.TAMP1_STAGE_STAT : Nat := 0o25
abbrev R.TAMP1_CMD : Nat := 0o26
abbrev R.MOSS_STAT : Nat := 0o20
abbrev R.MOSS_LAST_FAIL : Nat := 0o21
abbrev R.MOSS_SCANS : Nat := 0o22
abbrev R.MOSS_RESEEDS : Nat := 0o24
abbrev R.MOSS_FAILS : Nat := 0o25
abbrev R.WISP_CFG : Nat := 0o20
abbrev R.WISP_ENT_SEL : Nat := 0o21
abbrev R.WISP_ENT : Nat := 0o22
abbrev R.WISP_HEAD : Nat := 0o32
abbrev R.WISP_SEQ : Nat := 0o33
abbrev R.WISP_RTC : Nat := 0o35
abbrev R.WISP_LINK_SYS : Nat := 0o40
abbrev R.WISP_LINK_RTC : Nat := 0o44
abbrev R.WISP_ANNOT : Nat := 0o47
abbrev R.WISP_CMD : Nat := 0o50
abbrev R.WISP_STAT : Nat := 0o51
abbrev R.WISP_LOST : Nat := 0o52
abbrev R.WISP_FIELD_READS : Nat := 0o53
abbrev R.FLASH_FL_CMD : Nat := 0o20
abbrev R.FLASH_FL_ADDR : Nat := 0o21
abbrev R.FLASH_FL_STAT : Nat := 0o22
abbrev R.FLASH_FL_LASTOP : Nat := 0o23
abbrev R.FLASH_FL_LASTPAGE : Nat := 0o24
abbrev R.FLASH_FL_SECSEL : Nat := 0o25
abbrev R.FLASH_FL_SECSTAT : Nat := 0o26
abbrev R.FLASH_FL_SCAN : Nat := 0o27
abbrev R.FLASH_FL_CORR : Nat := 0o30
abbrev R.FLASH_FL_UNCORR : Nat := 0o34
abbrev R.FLASH_FL_WPMAP : Nat := 0o100
abbrev R.FLASH_FL_BUF : Nat := 0o200
abbrev R.DEV_PART : Nat := 0o20
abbrev R.DEV_REV : Nat := 0o21
abbrev R.DEV_BOOTCFG : Nat := 0o22
abbrev R.DEV_STAT : Nat := 0o23
abbrev R.DEV_BOOT_ERR : Nat := 0o24
abbrev R.DEV_IMG_VER : Nat := 0o25
abbrev R.DEV_FUSE_RB : Nat := 0o26
abbrev R.DEV_CMD : Nat := 0o27
abbrev R.RSTC_CAUSE : Nat := 0o20
abbrev R.RSTC_RG_RESET : Nat := 0o21
abbrev R.RSTC_RG_STAT : Nat := 0o22
abbrev R.RSTC_DEV_WDT : Nat := 0o23
abbrev R.RSTC_RG_WDT : Nat := 0o24
abbrev R.RSTC_KICK : Nat := 0o30
abbrev R.RSTC_PERSTS : Nat := 0o31
abbrev R.PWR_CAP : Nat := 0o20
abbrev R.PWR_STN_BUDGET : Nat := 0o21
abbrev R.PWR_RG_FMAX : Nat := 0o22
abbrev R.PWR_RG_POINT : Nat := 0o23
abbrev R.PWR_PKG_POWER : Nat := 0o24
abbrev R.PWR_STN_RESERVED : Nat := 0o25
abbrev R.PWR_VCORE : Nat := 0o26
abbrev R.PWR_STAT : Nat := 0o27
abbrev R.PWR_CL_GATE : Nat := 0o30
abbrev R.PWR_CL_GATED : Nat := 0o31
abbrev R.PWR_PMB_ADDR : Nat := 0o32
abbrev R.PWR_IOUT : Nat := 0o33
abbrev R.PWR_STEPS_DOWN : Nat := 0o34
abbrev R.CLK_STAT : Nat := 0o20
abbrev R.CLK_RG_FREQ : Nat := 0o21
abbrev R.DIAG_STAT : Nat := 0o20
abbrev R.DIAG_LAST : Nat := 0o21
abbrev R.DIAG_DETECTED : Nat := 0o22
abbrev R.DIAG_CORR : Nat := 0o24
abbrev R.DIAG_UNCORR : Nat := 0o25
abbrev R.DIAG_UE_ADDR : Nat := 0o26
abbrev R.DIAG_UE_INFO : Nat := 0o30
abbrev R.DIAG_REGF_PAGE : Nat := 0o31
abbrev R.DIAG_REGF_WORD : Nat := 0o32
abbrev R.DIAG_LINK : Nat := 0o33
abbrev R.DIAG_SCRUB_PASSES : Nat := 0o34
abbrev R.DIAG_SCRUB_LAST : Nat := 0o36
abbrev R.DIAG_INJECT : Nat := 0o37
abbrev R.DIAG_TEST : Nat := 0o40

/-- The blocks of Table 1-10 (R39). -/
inductive Block where
  | dev | rstc | pwr | clk | evt0 | evt1 | evt2 | evt3 | diag | hmk | tamp0 | tamp1 | moss | wisp | peat | cred | rng
  | flash | lode | place | dnl | dnlx | gate | sluice | dbg | wq | clu | kz | ciph | dig | bn | cgate | cst | fst
  | line | midr
  deriving DecidableEq, Repr

/-- The block registers of each block, above the common header. -/
def Block.own : Block → List RegDesc
  | .dev => devRegs | .rstc => rstcRegs | .pwr => pwrRegs | .clk => clkRegs
  | .evt0 => evt0Regs | .evt1 => evt1Regs | .evt2 => evt2Regs | .evt3 => evt3Regs
  | .diag => diagRegs | .hmk => hmkRegs | .tamp0 => tamp0Regs | .tamp1 => tamp1Regs
  | .moss => mossRegs | .wisp => wispRegs | .peat => peatRegs | .cred => credRegs | .rng => rngRegs
  | .flash => flashRegs | .lode => lodeRegs | .place => placeRegs | .dnl => dnlRegs | .dnlx => dnlxRegs
  | .gate => gateRegs | .sluice => sluiceRegs | .dbg => dbgRegs | .wq => wqRegs | .clu => cluRegs
  | .kz => kzRegs | .ciph => ciphRegs | .dig => digRegs | .bn => bnRegs | .cgate => cgateRegs
  | .cst => cstRegs | .fst => fstRegs | .line => lineRegs | .midr => midrRegs

/-- PG_ID.TYPE of each block (Table 1-10). -/
def Block.typeCode : Block → Nat
  | .dev => 0o001 | .rstc => 0o002 | .pwr => 0o003 | .clk => 0o004
  | .evt0 => 0o005 | .evt1 => 0o005 | .evt2 => 0o005 | .evt3 => 0o005
  | .diag => 0o006 | .hmk => 0o010 | .tamp0 => 0o011 | .tamp1 => 0o011
  | .moss => 0o012 | .wisp => 0o013 | .peat => 0o014 | .cred => 0o015 | .rng => 0o016
  | .flash => 0o020 | .lode => 0o021 | .place => 0o022 | .dnl => 0o023 | .dnlx => 0o024
  | .gate => 0o025 | .sluice => 0o026 | .dbg => 0o027 | .wq => 0o030 | .clu => 0o031
  | .kz => 0o032 | .ciph => 0o033 | .dig => 0o034 | .bn => 0o035 | .cgate => 0o036
  | .cst => 0o037 | .fst => 0o040 | .line => 0o041 | .midr => 0o042

/-- The block and instance of a page of a cluster's group, cluster `n`, offset `o` (Table 1-10). -/
def clusterPage (n o : Nat) : Option (Block × Nat) :=
  if o = 0 then some (.clu, n)
  else if o ≤ 4 then some (.kz, 4 * n + (o - 1))
  else if o = 8 ∨ o = 9 then some (.ciph, 2 * n + (o - 8))
  else if o = 10 ∨ o = 11 then some (.dig, 2 * n + (o - 10))
  else if o = 12 then some (.bn, n)
  else if o = 16 then some (.cgate, n)
  else none

/-- The block and instance of a page of BAR0; `none` for an unassigned page (R39, Table 1-10). -/
def blockOf (p : Nat) : Option (Block × Nat) :=
  if 0x100 ≤ p ∧ p < 0x200 then some (.wq, p - 0x100)
  else if 0x200 ≤ p ∧ p < 0x400 then clusterPage ((p - 0x200) / 0x20) ((p - 0x200) % 0x20)
  else if 0x400 ≤ p ∧ p < 0x410 then some (.cst, p - 0x400)
  else if 0x410 ≤ p ∧ p < 0x420 then some (.fst, p - 0x410)
  else if 0x030 ≤ p ∧ p < 0x034 then some (.dnl, p - 0x030)
  else match p with
    | 0x000 => some (.dev, 0) | 0x001 => some (.rstc, 0) | 0x002 => some (.pwr, 0) | 0x003 => some (.clk, 0)
    | 0x004 => some (.evt0, 0) | 0x005 => some (.evt1, 1) | 0x006 => some (.evt2, 2) | 0x007 => some (.evt3, 3)
    | 0x008 => some (.diag, 0) | 0x010 => some (.hmk, 0) | 0x011 => some (.tamp0, 0) | 0x012 => some (.tamp1, 1)
    | 0x013 => some (.moss, 0) | 0x014 => some (.wisp, 0) | 0x018 => some (.peat, 0) | 0x019 => some (.cred, 0)
    | 0x01A => some (.rng, 0) | 0x020 => some (.flash, 0) | 0x028 => some (.lode, 0) | 0x029 => some (.place, 0)
    | 0x034 => some (.dnlx, 0) | 0x040 => some (.gate, 0) | 0x041 => some (.sluice, 0) | 0x042 => some (.dbg, 0)
    | 0x420 => some (.line, 0) | 0x421 => some (.midr, 0)
    | _ => none

/-! Pages by name (Table 1-10). -/
abbrev P.dev : Nat := 0x000
abbrev P.rstc : Nat := 0x001
abbrev P.pwr : Nat := 0x002
abbrev P.clk : Nat := 0x003
abbrev P.evt0 : Nat := 0x004
abbrev P.evt1 : Nat := 0x005
abbrev P.evt2 : Nat := 0x006
abbrev P.evt3 : Nat := 0x007
abbrev P.diag : Nat := 0x008
abbrev P.hmk : Nat := 0x010
abbrev P.tamp0 : Nat := 0x011
abbrev P.tamp1 : Nat := 0x012
abbrev P.moss : Nat := 0x013
abbrev P.wisp : Nat := 0x014
abbrev P.peat : Nat := 0x018
abbrev P.cred : Nat := 0x019
abbrev P.rng : Nat := 0x01A
abbrev P.flash : Nat := 0x020
abbrev P.lode : Nat := 0x028
abbrev P.place : Nat := 0x029
abbrev P.dnlx : Nat := 0x034
abbrev P.gate : Nat := 0x040
abbrev P.sluice : Nat := 0x041
abbrev P.dbg : Nat := 0x042
abbrev P.line : Nat := 0x420
abbrev P.midr : Nat := 0x421
def P.dnl (i : Nat) : Nat := 0x030 + i
def P.wq (q : Nat) : Nat := 0x100 + q
def P.clu (n : Nat) : Nat := 0x200 + 0x20 * n
def P.kz (c : Nat) : Nat := 0x201 + 0x20 * (c / 4) + c % 4
def P.ciph (u : Nat) : Nat := 0x208 + 0x20 * (u / 2) + u % 2
def P.dig (u : Nat) : Nat := 0x20A + 0x20 * (u / 2) + u % 2
def P.bn (u : Nat) : Nat := 0x20C + 0x20 * u
def P.cgate (n : Nat) : Nat := 0x210 + 0x20 * n
def P.cst (n : Nat) : Nat := 0x400 + n
def P.fst (n : Nat) : Nat := 0x410 + n

/-- The first event source of a page (Table 1-10). -/
def srcBase (p : Nat) : Nat :=
  if 0x100 ≤ p ∧ p < 0x200 then 256 + 8 * (p - 0x100)
  else if 0x200 ≤ p ∧ p < 0x400 then
    let n := (p - 0x200) / 0x20
    let o := (p - 0x200) % 0x20
    2304 + 88 * n + (if o ≤ 4 then 8 * o else if o ≤ 9 then 40 + 8 * (o - 8)
      else if o ≤ 11 then 56 + 8 * (o - 10) else if o = 12 then 72 else 80)
  else if 0x400 ≤ p ∧ p < 0x410 then 3712 + 8 * (p - 0x400)
  else if 0x410 ≤ p ∧ p < 0x420 then 3840 + 8 * (p - 0x410)
  else if p = 0x420 then 3968
  else if p = 0x421 then 3976
  else if p < 0x009 then 8 * p
  else if p < 0x015 then 72 + 8 * (p - 0x010)
  else if p < 0x01B then 112 + 8 * (p - 0x018)
  else if p = 0x020 then 136
  else if p < 0x02A then 144 + 8 * (p - 0x028)
  else if p < 0x035 then 160 + 8 * (p - 0x030)
  else 200 + 8 * (p - 0x040)

/-- The page of an event source (Table 1-10); the sources 3,984 up are EVT3's software sources. -/
def srcPage (s : Nat) : Nat :=
  if s < 72 then s / 8
  else if s < 112 then 0x010 + (s - 72) / 8
  else if s < 136 then 0x018 + (s - 112) / 8
  else if s < 144 then 0x020
  else if s < 160 then 0x028 + (s - 144) / 8
  else if s < 200 then 0x030 + (s - 160) / 8
  else if s < 224 then 0x040 + (s - 200) / 8
  else if s < 256 then 0xFFF
  else if s < 2304 then 0x100 + (s - 256) / 8
  else if s < 3712 then
    let n := (s - 2304) / 88
    let k := (s - 2304) % 88 / 8
    0x200 + 0x20 * n + (if k ≤ 4 then k else if k ≤ 6 then 8 + (k - 5) else if k ≤ 8 then 10 + (k - 7)
      else if k = 9 then 12 else 16)
  else if s < 3840 then 0x400 + (s - 3712) / 8
  else if s < 3968 then 0x410 + (s - 3840) / 8
  else if s < 3976 then 0x420
  else if s < 3984 then 0x421
  else 0x007

/-- The descriptor of word `w` of a page of block `b`; `none` for a reserved slot (R15, R40). -/
def descOf (b : Block) (w : Nat) : Option RegDesc :=
  (if w < 0o20 then headerRegs else b.own).find? (fun r => decide (r.first ≤ w ∧ w ≤ r.last))

/-- Blocks whose PG_CTRL.EN reads 1 and cannot be cleared, as their chapters give (R52, R125, R131, R332 and others). -/
def Block.alwaysOn : Block → Bool
  | .dev | .rstc | .pwr | .clk | .evt0 | .evt1 | .evt2 | .evt3 | .diag | .hmk | .tamp0 | .tamp1 | .moss | .wisp
  | .lode | .gate | .cgate | .dbg | .sluice | .midr => true
  | .peat | .cred | .rng | .flash | .place | .dnl | .dnlx | .wq | .clu | .kz | .ciph | .dig | .bn | .cst | .fst
  | .line => false

/-- The default class of a Sluice requester (Table 12-4) stands with the arbiters; a register's own reset value here. -/
def regReset (key : Nat) : Word :=
  let p := key / 1024
  let w := key % 1024
  match blockOf p with
  | none => 0
  | some (b, i) =>
    if w = 0 then BitVec.ofNat 18 (b.typeCode * 512 + i)
    else if w = R.PG_CTRL then (if b.alwaysOn then 1 else 0)
    else match descOf b w with
      | none => 0
      | some r => BitVec.ofNat 18 r.reset

/-- The clock domains that registers live in (Table 1-7). -/
inductive Domain where
  | fabric | region (k : Nat) | crypto | denlet (i : Nat) | dieV | dieF
  deriving DecidableEq, Repr

/-- The domain of a block's page (Table 1-7). -/
def domainOf : Block → Nat → Domain
  | .clu, n | .cgate, n => .region (n / 4)
  | .kz, c => .region (c / 16)
  | .peat, _ | .ciph, _ | .dig, _ | .bn, _ => .crypto
  | .dnl, i => .denlet i
  | .hmk, _ | .tamp0, _ | .tamp1, _ | .moss, _ | .wisp, _ | .flash, _ => .dieV
  | .cst, _ | .fst, _ | .line, _ | .midr, _ => .dieF
  | .dev, _ | .rstc, _ | .pwr, _ | .clk, _ | .evt0, _ | .evt1, _ | .evt2, _ | .evt3, _ | .diag, _ | .cred, _
  | .rng, _ | .lode, _ | .place, _ | .dnlx, _ | .gate, _ | .sluice, _ | .dbg, _ | .wq, _ => .fabric

end Sys2Proof.Machine
end

