-- ==== Sys2Proof/Machine/State.lean ====
section
/-! DEFINITION. The state of the block as plain data: every register (one table), every memory, and for each chapter of
the spec a structure with what it keeps beside its registers; the state right after power-on reset. -/
namespace Sys2Proof.Machine

/-! ### Chapters 0 and 1: register bus, events, links, units -/

/-- A register write accepted but not yet in effect in its page's domain (R35). -/
structure Posted where
  /-- the writer -/
  req : Requester
  /-- the page written -/
  page : Nat
  /-- the word offset -/
  word : Nat
  /-- the value; both halves for a 36-bit commit -/
  val : BitVec 36
  /-- whether both halves of a 36-bit register are written in one step (R13) -/
  both : Bool
  /-- whether PG_LOCK was clear when the write was accepted (R46) -/
  unlocked : Bool
  deriving DecidableEq, Repr

/-- The register bus: halves of 36-bit accesses, posted writes, frozen shadows, the last read's answer. -/
structure Bus where
  /-- held lower halves per requester: (requester, page · 1024 + lower word, half) (R13) -/
  held : List (Requester × Nat × Word)
  /-- latched upper halves per requester (R13) -/
  latched : List (Requester × Nat × Word)
  /-- posted writes of every page, oldest first (R35, R36) -/
  posted : List Posted
  /-- writes of stalled writers, oldest first (R37) -/
  stalled : List Posted
  /-- the last shadow values of frozen pages, by page · 1024 + word -/
  shadow : Map Word
  /-- the value the last read command returned -/
  rdata : BitVec 72
  deriving DecidableEq, Repr

/-- The event controller (R47 to R52) and the MSI-X table of BAR2. -/
structure Events where
  /-- route entries of the 4,096 sources (Table 1-13) -/
  routes : Map Word
  /-- sources raised and not yet delivered, oldest first -/
  raised : List Nat
  /-- doublewords of the MSI-X table; doubleword 4v + 3 bit 0 masks vector v -/
  msix : Map (BitVec 32)
  /-- pending bits of masked vectors -/
  msixPend : List Nat
  /-- messages sent per vector -/
  msixSent : Map Nat
  deriving DecidableEq, Repr

/-- One Causeway link (R28 to R30). The counters are the implicit ones of the tags. -/
structure Link where
  /-- the link key, derived at power-up; nothing returns it -/
  key : BitVec 256
  /-- transfers sent by die C -/
  tx : BitVec 72
  /-- transfers accepted by die C -/
  rx : BitVec 72
  /-- transfers sent by the far die -/
  farTx : BitVec 72
  /-- transfers accepted by the far die -/
  farRx : BitVec 72
  /-- idle transfers sent by die C -/
  idles : Nat
  /-- idle transfers sent by the far die -/
  farIdles : Nat
  /-- the link is quarantined -/
  quar : Bool
  deriving DecidableEq, Repr

/-- What the unit, cluster and region levels keep beside the pages' own registers (R22 to R24). -/
structure Levels where
  /-- quarantines raised by a unit's own fault detection since the last device reset, by page -/
  ownCount : Map Nat
  /-- pages quarantined now by their own fault detection -/
  ownNow : List Nat
  /-- pages whose start-up and known-answer test are running -/
  starting : List Nat
  /-- pages draining after STOP -/
  draining : List Nat
  /-- member pages that held EN = 1 when their cluster's quarantine began -/
  members : List Nat
  /-- clusters whose built-in self-test is running -/
  clBist : List Nat
  /-- clusters whose self-test has passed -/
  clPassed : List Nat
  /-- sessions lost with a quarantined region, until opened anew (R24) -/
  lostSess : List Nat
  deriving DecidableEq, Repr

/-! ### Chapter 2: jobs and queues -/

/-- The states of Table 2-5 (R69). -/
inductive JState where
  | fetched | dispatched | running | parked | done | published
  deriving DecidableEq, Repr

/-- Host data that has arrived for one descriptor cell of a job. -/
structure HostIn where
  /-- the cell of the descriptor -/
  cell : Nat
  /-- the supplied length (R61) -/
  supplied : Nat
  /-- the scatter elements, address and length, in order; one element for a plain buffer -/
  elems : List (Nat × Nat)
  /-- the list was malformed (R61) -/
  bad : Bool
  /-- the octets read -/
  octets : List Octet
  deriving DecidableEq, Repr

/-- A job forwarded to another device, as its originator keeps it (R111 to R115). -/
structure Fwd where
  /-- the device it was last sent to -/
  owner : Nat
  /-- the 13-bit forward tag -/
  tag : Nat
  /-- whether that device has acknowledged it -/
  acked : Bool
  /-- whether it has been sent to the replica -/
  onReplica : Bool
  /-- the owner it first had -/
  first : Nat
  /-- a resend is due after MOVED (R114) -/
  resend : Bool
  deriving DecidableEq, Repr

/-- A sealed key slot: 256 key bits and the attribute words of Table 4-5 (R136). -/
structure Slot where
  /-- key bits, left-aligned: key octet 0 is bits 255:248 -/
  key : BitVec 256
  /-- ATTR0 -/
  attr0 : Word
  /-- ATTR1 -/
  attr1 : Word
  deriving DecidableEq, Repr

/-- A unit command of a core (R206, R219, R269): its block as it stood when it was issued. -/
structure Cmd where
  /-- the issuing core -/
  core : Nat
  /-- 0 cipher, 1 digest, 2 bignum program, 3 host read, 4 host write -/
  typ : Nat
  /-- the block's word address -/
  addr : Nat
  /-- the block's words -/
  words : List Word
  /-- the core's colour key at the issue (R317) -/
  key : BitVec 16
  /-- supervisor privilege at the issue -/
  sup : Bool
  /-- bank B at the issue -/
  bankB : Bool
  deriving DecidableEq, Repr

/-- An operand slot of a bignum unit (R216). -/
structure BnSlot where
  /-- its LEN words -/
  words : List Word
  /-- KEYED -/
  keyed : Bool
  /-- the length its Montgomery constants are held for; 0 none -/
  consts : Nat
  deriving DecidableEq, Repr

/-- The operand memory and progress of a bignum job (R216, R219). -/
structure BnCtx where
  /-- the operand slots -/
  slots : Map BnSlot
  /-- the next command -/
  idx : Nat
  /-- cycles it has run since it started or resumed, up to the end of the command before the next one (R232) -/
  ran : Nat
  /-- the same at the boundary before that end -/
  last : Nat
  deriving DecidableEq, Repr

/-- One job (R58, R69) with its header fields, operand cells, progress and the changes it holds pending (R74). -/
structure Job where
  /-- the queue; 0o377 for a job held for another device -/
  queue : Nat
  /-- the position in the queue -/
  pos : Nat
  /-- the header's OPCODE -/
  opcode : Nat
  /-- the header's LEN, in cells -/
  len : Nat
  /-- the header's RESOFF -/
  resoff : Nat
  /-- the header's KEYED -/
  keyed : Bool
  /-- the header's FENCE -/
  fence : Bool
  /-- the header's TAG -/
  tag : Nat
  /-- the session named, if any -/
  sess : Option Nat
  /-- the header's OPARG -/
  oparg : BitVec 32
  /-- the octets of cells 1 to LEN − 1 -/
  body : List Octet
  /-- whether the entry is a GB2 entry (R95) -/
  gb : Bool
  /-- the Sluice class -/
  cls : Nat
  /-- the colour key it is checked with (R142) -/
  qkey : BitVec 16
  /-- RES_WAIT of its queue -/
  resWait : Bool
  /-- RDY_WAIT of its queue -/
  rdyWait : Bool
  /-- the job state -/
  st : JState
  /-- waits for a page (R79) -/
  waitPage : Option Nat
  /-- waits for a READY unit (R80) -/
  waitUnit : Bool
  /-- the page of the unit it is placed on -/
  unit : Option Nat
  /-- the region it was placed in -/
  region : Nat
  /-- host data that has arrived -/
  inputs : List HostIn
  /-- a read of its host data failed (R77) -/
  hostErr : Bool
  /-- the status -/
  status : Nat
  /-- the result octets -/
  result : List Octet
  /-- the session context it will commit (R74) -/
  pendSess : Option (List Word)
  /-- credential entries it will commit: page, entry, 8 words (R151) -/
  pendCred : List (Nat × Nat × List Word)
  /-- the slot it will commit -/
  pendSlot : Option (Nat × Slot)
  /-- the frame a page load or evict holds (R154, R156) -/
  frame : Option Nat
  /-- times parked (R101) -/
  parks : Nat
  /-- where the parked state is: 1 park record, 3 host memory (Table 5-8 MODE) -/
  parkMode : Nat
  /-- park record index -/
  parkIdx : Nat
  /-- payload octets processed when it was parked -/
  parkDone : Nat
  /-- the order in which it last started or resumed -/
  startNo : Nat
  /-- the staging buffer it holds (R176) -/
  staging : Option Nat
  /-- how it is forwarded, if it is (R111) -/
  fwd : Option Fwd
  /-- for a job held for another device: the originator and its tag -/
  origin : Option (Nat × Nat)
  /-- the length verdict a forward carries: 0 equal, 1 longer, 2 shorter (R111) -/
  verdict : Nat
  /-- the exchange with its medium has begun (R84) -/
  begun : Bool
  /-- the queue has been shut down while it must run on (R84) -/
  orphan : Bool
  /-- octets written to its output buffers, by cell, for a job held for another device (R112) -/
  outData : List (Nat × List Octet)
  /-- the page of the unit that saved its state (Table 2-6) -/
  savedBy : Option Nat
  /-- the unit command it is, for one issued by a core -/
  cmd : Option Cmd
  /-- operand memory and progress on a bignum unit -/
  bn : BnCtx
  /-- the state words it resumed with (Tables 5-5 and 6-4); none where it has not been parked -/
  saved : List Word
  /-- PEAT refused slot requests when its unit last asked for its key (R549) -/
  refused : Bool
  /-- the slot whose HMAC states its unit holds (R212) -/
  pair : Option Slot
  /-- the gates' answer for the ranges of a command that has started (R325) -/
  granted : Option Bool
  deriving DecidableEq, Repr

/-- What a queue engine keeps beside its page's registers. -/
structure Queue where
  /-- keys of the jobs in flight, in fetch order (R67) -/
  fifo : List Nat
  /-- a doorbell has been accepted while enabled since the page's last reset (R66, R85, log entry 9) -/
  rung : Bool
  /-- the header at FETCH had no valid mark: nothing is fetched before the next doorbell (R66) -/
  stalled : Bool
  /-- STOP was written: no new entries are taken (R87) -/
  draining : Bool
  /-- a malformed or failing entry's position: earlier jobs complete, then EN clears (R89) -/
  failed : Option Nat
  /-- jobs passed since HEAD_MOVED was last raised (R75) -/
  unreported : Nat
  /-- forwards whose abort is not yet acknowledged (R83) -/
  aborts : List Nat
  /-- the valid header found at FETCH, whose body is read again (R65) -/
  hdr : Option (List Octet)
  deriving DecidableEq, Repr

/-! ### Chapter 3: placement, forwarding, Denlet, time -/

/-- An entry of the override table (R105, Table 3-7). -/
structure Ovr where
  /-- bit 17 VALID, bit 16 REP_V, bits 7:0 page bits 25:18 (OVR_DATA1) -/
  data1 : Word
  /-- page bits 17:0 -/
  data0 : Word
  /-- OWNER -/
  data2 : Word
  /-- REPLICA -/
  data3 : Word
  deriving DecidableEq, Repr

/-- The shared placement state (R105). -/
structure Placement where
  /-- members: bit 17 PRESENT, bits 8:0 weight -/
  members : Map Word
  /-- the override table -/
  ovr : Map Ovr
  /-- the 36-bit salt -/
  salt : BitVec 36
  /-- the epoch -/
  epoch : BitVec 18
  deriving DecidableEq, Repr

/-- The Lode dispatcher (R96 to R102). -/
structure Lode where
  /-- session number to context slot plus one; 0 none (R99) -/
  slotOf : Map Nat
  /-- consecutive jobs run outside the home region (R100) -/
  count : Map Nat
  /-- migrations in progress: session, target slot -/
  moving : List (Nat × Nat)
  /-- the region chosen last by R96 step 3 -/
  lastRegion : Nat
  /-- the unit chosen last per region · 64 + type -/
  lastUnit : Map Nat
  /-- input queues: unit page to job keys, oldest first (R97) -/
  inQ : Map (List Nat)
  /-- the running job plus one of each unit page; 0 none -/
  runs : Map Nat
  /-- starts and resumptions so far: orders the running jobs -/
  starts : Nat
  deriving DecidableEq, Repr

/-- A forwarded job as its message carries it (R111). -/
structure FwdMsg where
  /-- the originator's epoch -/
  epoch : Nat
  /-- the Sluice class -/
  cls : Nat
  /-- RES_WAIT -/
  resWait : Bool
  /-- RDY_WAIT -/
  rdyWait : Bool
  /-- the colour key -/
  qkey : BitVec 16
  /-- the entry is a GB2 entry -/
  gb : Bool
  /-- the header cell and the operand cells -/
  cells : List Octet
  /-- host data by cell -/
  data : List (Nat × List Octet)
  /-- the length verdict -/
  verdict : Nat
  /-- the session context; none without a session -/
  ctx : List Word
  deriving DecidableEq, Repr

/-- A message the device sends over its Denlet ports. -/
inductive NetMsg where
  /-- a membership frame: the changes and the new epoch (R109) -/
  | membership (dst : Nat) (epoch : BitVec 18) (members : List (Nat × Word)) (ovrs : List (Nat × Ovr))
    (salt : Option (BitVec 36))
  /-- the whole placement state (R109) -/
  | resync (dst : Nat) (state : Placement)
  /-- a request for resynchronisation -/
  | askResync (dst : Nat)
  /-- a forwarded job under the originator's tag (R111) -/
  | forward (dst tag : Nat) (msg : FwdMsg)
  /-- acknowledgement of a forward (R113) -/
  | fwdAck (dst tag : Nat)
  /-- MOVED with the epoch (R114) -/
  | moved (dst tag epoch : Nat)
  /-- a result with its status and the updated session context (R112) -/
  | result (dst tag status : Nat) (octets : List Octet) (outs : List (Nat × List Octet)) (ctx : Option (List Word))
  /-- acknowledgement of a result -/
  | resultAck (dst tag : Nat)
  /-- an abort of a forward (R115) -/
  | abort (dst tag : Nat)
  /-- acknowledgement of an abort -/
  | abortAck (dst tag : Nat)
  /-- a heartbeat (R113) -/
  | heartbeat (dst : Nat)
  /-- a message routed on for other devices: the port and virtual channel it came by (R122) -/
  | through (dst port vc : Nat) (octets : List Octet)
  /-- in ATTEST, the identity certificates of a flash sector presented on a port (R119) -/
  | certs (port sector : Nat)
  deriving DecidableEq, Repr

/-- One Denlet port (R116 to R121). -/
structure Port where
  /-- next own flit sequence number -/
  txSeq : Nat
  /-- highest in-order flit received -/
  rxSeq : Nat
  /-- the replay buffer: flits not yet acknowledged with their sequence numbers, oldest first -/
  replay : List (Nat × List Octet)
  /-- replays of the oldest flit without acknowledgement -/
  tries : Nat
  /-- messages at the egress, oldest first, each with the requester that sends it (R122, R337) -/
  wait : List (Nat × NetMsg)
  /-- messages sent under the present key: the sending direction's message counter (R118) -/
  txMsg : Nat
  /-- messages received under the present key -/
  rxMsg : Nat
  /-- the key of the sending direction -/
  txKey : BitVec 256
  /-- the key of the receiving direction -/
  rxKey : BitVec 256
  /-- rekeys of the sending direction -/
  txGen : Nat
  /-- rekeys of the receiving direction -/
  rxGen : Nat
  /-- the secret of the key agreement (R119) -/
  secret : List Octet
  /-- payloads of the message being received -/
  asm : List Octet
  /-- whole messages received and not yet decrypted, with their virtual channel, oldest first -/
  ready : List (Nat × List Octet)
  /-- when CRC errors of the last millisecond came, oldest first (R127) -/
  crcAt : List Nat
  /-- NAK flits sent (R117) -/
  naks : Nat
  /-- idle flits are inserted for adaptation (R121) -/
  eqInsert : Bool
  /-- flits sent since the last idle slot or since insertion began -/
  eqRun : Nat
  /-- idle flits inserted -/
  eqIdles : Nat
  /-- the path delay measured by the last time exchange, in ns (R123) -/
  delay : Nat
  deriving DecidableEq, Repr

/-- Placement and forwarding of the device in its system. -/
structure Net where
  /-- the applied placement state -/
  applied : Placement
  /-- the staged one on the keeper -/
  staged : Placement
  /-- changes being recomputed, applied when the recompute ends (R107) -/
  next : Option Placement
  /-- LOOKUP in progress -/
  looking : Bool
  /-- forward tags in use -/
  tags : List Nat
  /-- messages sent, oldest first -/
  out : List NetMsg
  /-- messages with no route, held (R122) -/
  held : List NetMsg
  /-- routes by destination (Table 3-5) -/
  routes : Map Word
  /-- the four ports -/
  ports : Map Port
  /-- the last time a resynchronisation was asked for, in ns of `now`, plus one -/
  asked : Nat
  deriving DecidableEq, Repr

/-- System time (R123, R124). -/
structure Clock where
  /-- 72-bit system time in ns -/
  sys : BitVec 72
  /-- consecutive exchanges within 100 ns of the master -/
  good : Nat
  /-- latched copies per requester (R124) -/
  latched : List (Requester × BitVec 72)
  /-- nanoseconds still to be slewed: withheld where positive, added where negative (R123) -/
  slew : Int
  /-- written words 0 to 2 of TIME_SET -/
  set0 : Word
  /-- word 1 -/
  set1 : Word
  /-- word 2 -/
  set2 : Word
  deriving DecidableEq, Repr

/-! ### Chapter 4: key custody -/

/-- A credential frame (Table 4-12 FRAME_INFO). -/
structure Frame where
  /-- USED -/
  used : Bool
  /-- LOADING -/
  loading : Bool
  /-- DIRTY: an entry has changed since the load -/
  dirty : Bool
  /-- EVICTING -/
  evicting : Bool
  /-- chunks verified, bit i for chunk i -/
  chunks : BitVec 16
  /-- the page held -/
  page : Nat
  deriving DecidableEq, Repr

/-- Ceremony state beyond PEAT's registers (R163 to R165). -/
structure Ceremony where
  /-- the function -/
  func : Nat
  /-- SHA-256 input: the staged parameters formed at START (R164) -/
  params : List Octet
  /-- digests of the custodians counted so far -/
  counted : List (BitVec 256)
  /-- digests enrolled so far by COMMISSION or CUSTODIANS -/
  enrolled : List (BitVec 256)
  /-- XOR of the components received (ENROL_DOMAIN) -/
  comp : BitVec 256
  /-- approvals are complete and new cards are being enrolled (CUSTODIANS) -/
  enrolling : Bool
  /-- the 40-bit nonce -/
  nonce : BitVec 40
  /-- system time of START (R165) -/
  startSys : BitVec 72
  /-- the command APDUs sent to the card presented last (Table 4-16) -/
  sent : List (List Octet)
  deriving DecidableEq, Repr

/-- A record of the Peat journal (R144); its place in the journal is its segment (R465). -/
structure JRec where
  /-- the slot it changes; none for the quorum -/
  slot : Option Nat
  /-- the slot's new content; the quorum stands in ATTR0 -/
  val : Slot
  /-- the storage key under which it is encrypted and MAC'd -/
  key : BitVec 256
  /-- its commit mark is programmed -/
  mark : Bool
  deriving DecidableEq, Repr

/-- Custody: the Hummock key, entropy, Peat, credential memory. -/
structure Custody where
  /-- the HMK latch (R129) -/
  hmk : BitVec 256
  /-- the die V fuse key FK (R130) -/
  fk : BitVec 256
  /-- the boot nonce (R130) -/
  nonce : BitVec 128
  /-- generate requests since the last reseed of instances 0–3 and custody (4) (R133) -/
  reqs : Map Nat
  /-- `now` plus one when each instance was last seeded; 0 never (R133) -/
  seeded : Map Nat
  /-- a restart of RNG that followed a failure: 1 while its EN is still to be written, then `now` plus 2 (R135); 0 none -/
  restart : Nat
  /-- RNG is stuck in ERROR until device reset (R135) -/
  rngDead : Bool
  /-- Peat slots (R136) -/
  slots : Map Slot
  /-- slots whose cached HMAC states are held (R212) -/
  gbCache : List Nat
  /-- queue colour keys (R142) -/
  qkeys : Map (BitVec 16)
  /-- credential frames (Table 4-12) -/
  frames : Map Frame
  /-- pages with an outstanding page request (R82) -/
  requested : List Nat
  /-- the last record posted: its job's queue, so that a host error can be answered (R548) -/
  lastReq : Option Nat
  /-- the journal's records, from its first segment on (R144) -/
  journal : List JRec
  /-- compaction is due or running -/
  compacting : Bool
  /-- the ceremony -/
  cer : Ceremony
  deriving DecidableEq, Repr

/-! ### Chapters 5 and 6: cipher and digest units -/

/-- What the cipher and digest units of a region or cluster keep beside their registers. -/
structure Units where
  /-- COUNTER of wrapped records, per region (R187) -/
  counter : Map Nat
  /-- cipher park records held: region · 256 + index (R186) -/
  cipherRecs : List Nat
  /-- digest park records held (R203) -/
  digestRecs : List Nat
  /-- staging buffers held: region · 16 + index (R176) -/
  staging : List Nat
  /-- the core whose command's window is held, per digest unit page, plus one (R210) -/
  hold : Map Nat
  deriving DecidableEq, Repr

/-! ### Chapters 8 to 12: cores, gates, debug, Sluice -/

/-- A destination register of a load (R254). -/
inductive Dest where
  | w (n : Nat)
  | d (n : Nat)
  | a (n : Nat)
  | v (n : Nat)
  deriving DecidableEq, Repr

/-- A load not yet written (R254). -/
structure LoadW where
  /-- shadow slots left -/
  left : Nat
  /-- the destination -/
  dst : Dest
  /-- the words loaded, low first -/
  words : List Word
  deriving DecidableEq, Repr

/-- A branch whose delay slot comes next (R257). -/
structure Delay where
  /-- the branch’s first syllable -/
  branch : DWord
  /-- where it goes, if it is taken -/
  target : Option DWord
  /-- d15 receives the address after the delay slot when that retires (R299) -/
  link : Bool
  /-- shadow instructions that were owed when the branch issued (R301) -/
  shWas : Nat
  /-- the mode it ran under -/
  modeWas : Word
  deriving DecidableEq, Repr

/-- One Kazolo core (R243, R244, R313). -/
structure Core where
  /-- w0–w31; w0 reads zero -/
  w : Map Word
  /-- a0–a7 -/
  a : Map DWord
  /-- b4–b7 -/
  b : Map DWord
  /-- m4–m7 -/
  m : Map Word
  /-- p7–p0; p0 reads 1 -/
  p : BitVec 8
  /-- loop count of level 0 -/
  lc0 : Word
  /-- loop start of level 0 -/
  ls0 : DWord
  /-- loop end of level 0 -/
  le0 : DWord
  /-- loop count of level 1 -/
  lc1 : Word
  /-- loop start of level 1 -/
  ls1 : DWord
  /-- loop end of level 1 -/
  le1 : DWord
  /-- vector lanes by 16 v + lane -/
  v : Map Word
  /-- VQ -/
  vq : DWord
  /-- VQB -/
  vqb : DWord
  /-- MSTAT as last written -/
  mstat : Word
  /-- MSTAT before the last mode change -/
  oldMode : Word
  /-- the mode of the second of them: another value only where one mode change follows another at once -/
  oldNext : Word
  /-- instructions that still run under `oldMode` (R258) -/
  sh : Nat
  /-- the syllable address of the next instruction -/
  pc : DWord
  /-- loads in flight -/
  loads : List LoadW
  /-- a branch whose delay slot comes next -/
  delay : Option Delay
  /-- supervisor privilege -/
  sup : Bool
  /-- ESTAT -/
  estat : DWord
  /-- EPC -/
  epc : DWord
  /-- EMODE -/
  emode : Word
  /-- VBASE -/
  vbase : DWord
  /-- ELOOP0 -/
  el0 : Word
  /-- ELOOP1 -/
  el1 : DWord
  /-- ELOOP2 -/
  el2 : DWord
  /-- ELOOP3 -/
  el3 : Word
  /-- ELOOP4 -/
  el4 : DWord
  /-- ELOOP5 -/
  el5 : DWord
  /-- GATEBANK -/
  gateBank : DWord
  /-- which draw gave CTXKEY (R310) -/
  ctxKey : Nat
  /-- an entry’s state has not been saved (R297) -/
  unsaved : Bool
  /-- the wake latch (R270) -/
  wake : Bool
  /-- the pair runs -/
  run : Bool
  /-- asleep in WAITI -/
  waiting : Bool
  /-- halted by debug -/
  halted : Bool
  /-- the held job plus one; 0 none -/
  held : Nat
  /-- keys of the unit commands outstanding, oldest first -/
  cmds : List Nat
  /-- the held job has been discarded (R271) -/
  aborting : Bool
  /-- the number of the next unit command -/
  issued : Nat
  /-- the region's cycle count, in thousandths, when the core was released (CYCLE) -/
  cyc0 : Nat
  deriving DecidableEq, Repr

/-- Gate state beyond the registers (R320, R327). -/
structure Gates where
  /-- rule words of the GATE groups: 32 group + 16 bank + rule -/
  rules : Map Word
  /-- granule colours: 2,048 cluster + granule -/
  gcol : Map Nat
  /-- granules being cleared: cluster, granule, the colour to apply -/
  clearing : List (Nat × Nat × Nat)
  deriving DecidableEq, Repr

/-- A request at a Sluice arbiter (R336 to R341). -/
structure SReq where
  /-- the requester, numbered from 0 at that arbiter -/
  rq : Nat
  /-- the class it is served in -/
  cls : Nat
  /-- its origin count -/
  origin : Nat
  /-- cycles since it became its requester’s head request -/
  wait : Nat
  /-- lost cycles since the last raise -/
  lost : Nat
  deriving DecidableEq, Repr

/-- One arbiter (R337, R342). -/
structure Arb where
  /-- the round-robin pointer -/
  ptr : Nat
  /-- requests pending, oldest first -/
  pend : List SReq
  /-- deficit counters by 4 requester + class -/
  deficit : Map Nat
  /-- whether it serves in occupancy-weighted mode (R343) -/
  owm : Bool
  /-- class and origin count that the request granted last takes to the tier above (R340, R341) -/
  up : Nat × Nat
  deriving DecidableEq, Repr

/-- The Sluice arbiters. -/
structure Sluice where
  /-- arbiters by 4,096 kind + instance -/
  arbs : Map Arb
  /-- the classes of RQ_CLASS that differ from Table 12-4 -/
  classes : Map Nat
  deriving DecidableEq, Repr

/-! ### Chapters 13 to 15: stations and the line -/

/-- The outcome of an unbound exchange kept for a replay of its entry (R369). -/
structure Replay where
  /-- the queue -/
  queue : Nat
  /-- the position -/
  pos : Nat
  /-- the opcode -/
  opcode : Nat
  /-- the status -/
  status : Nat
  /-- the result octets -/
  result : List Octet
  deriving DecidableEq, Repr

/-- An APDU exchange of a station (R359 to R368, R396, R397). -/
structure Exch where
  /-- the command APDU, its declared octets -/
  cmd : List Octet
  /-- the first octet of the command has been sent -/
  sent : Bool
  /-- exposure has ended (R364, R397) -/
  past : Bool
  /-- command octets not yet sent: T=0 data, or the INF of blocks to come -/
  left : List Octet
  /-- response octets received -/
  recv : List Octet
  /-- the last I-block sent, or the characters sent last -/
  tx : List Octet
  /-- the last frame sent of any kind -/
  out : List Octet
  /-- repetitions, retransmissions and follow-ups (Table 13-8 octet 6) -/
  reps : Nat
  /-- follow-ups of R360 -/
  follow : Nat
  /-- the station activated the card itself (R367) -/
  implicit : Bool
  /-- answers to invalid blocks given for the same block -/
  tries : Nat
  deriving DecidableEq, Repr

/-- What a T=0 station receives next (R359). -/
inductive T0 where
  /-- nothing -/
  | idle
  /-- a procedure byte -/
  | proc
  /-- data octets, then a procedure byte -/
  | data (n : Nat)
  /-- SW2 after an SW1 -/
  | sw2 (sw1 : Octet)
  deriving DecidableEq, Repr

/-- What follows a contact deactivation (R354, R356, R367). -/
inductive CstNext where
  /-- nothing: the running job completes, if it has a status to complete with -/
  | rest
  /-- 10 ms, then activation at a class: 1 A, 2 B, 3 C -/
  | retry (cls : Nat)
  /-- activation at the same class without PPS -/
  | again
  /-- a new activation from the lowest-voltage class -/
  | fresh
  deriving DecidableEq, Repr

/-- A contact station beyond its registers. -/
structure Cst where
  /-- the octets of the last ATR -/
  atr : List Octet
  /-- T=1 is wanted (R357) -/
  wantT1 : Bool
  /-- the present activation sends no PPS (R356) -/
  noPps : Bool
  /-- the one warm reset of R355 has been used -/
  warmed : Bool
  /-- the class being activated -/
  cls : Nat
  /-- the activation has been admitted and its power reserved (R489) -/
  admitted : Bool
  /-- the PPS request awaiting its response -/
  pps : List Octet
  /-- what follows the deactivation -/
  next : CstNext
  /-- the status the running job completes with when the deactivation ends -/
  endWith : Option Nat
  /-- the APDU exchange -/
  x : Exch
  /-- T=0: what is received next -/
  t0 : T0
  /-- T=0: data octets the present command still returns -/
  expect : Nat
  /-- T=1: S(RESYNCH request)s sent for the present failure -/
  resync : Nat
  /-- T=1: the IFS request: 0 not sent, 1 awaiting its response, 2 settled -/
  ifs : Nat
  /-- T=1: the factor on BWT for the next block (R361) -/
  wtx : Nat
  /-- replay records -/
  replay : List Replay
  deriving DecidableEq, Repr

/-- A tag counted by singulation (R391, R392). -/
structure Tag where
  /-- Type B -/
  typeB : Bool
  /-- UID or PUPI -/
  id : List Octet
  /-- SAK, or ATQB protocol info octet 1 -/
  sak : Octet
  /-- ATQA, or ATQB protocol info octets 2 and 3 -/
  atq : List Octet
  deriving DecidableEq, Repr

/-- The frame a contactless channel awaits an answer to. -/
inductive Sing where
  /-- nothing -/
  | idle
  /-- WUPA or REQA; the argument says the first round -/
  | req (first : Bool)
  /-- ANTICOLLISION or SELECT at a cascade level: bits known of the level's 32, the identifier so far -/
  | anti (level : Nat) (known : List Bool) (uid : List Octet)
  /-- SELECT at a cascade level with its 4 octets -/
  | sel (level : Nat) (octs : List Octet) (uid : List Octet)
  /-- HLTA: no answer is expected -/
  | halt
  /-- WUPB or a slot marker: round, slot, whether the round collided, whether it found a new PUPI -/
  | slot (round slot : Nat) (coll new : Bool)
  /-- reactivation of a counted tag: WUPA -/
  | wake (t : Tag)
  /-- reactivation: SELECT at a cascade level -/
  | wakeSel (t : Tag) (level : Nat)
  /-- RATS -/
  | rats (t : Tag)
  /-- PPS for a rate -/
  | pps (t : Tag) (rate : Nat)
  /-- ATTRIB for a rate -/
  | attrib (t : Tag) (rate : Nat)
  /-- S(DESELECT) -/
  | deselect
  deriving DecidableEq, Repr

/-- What a contactless station's field waits for or follows with. -/
inductive FstWait where
  /-- nothing -/
  | none
  /-- WAIT: a tag's arrival (R399) -/
  | arrive
  /-- OFF_MIN and the budget (R377) -/
  | power
  /-- the field going off, after which the activation goes on (R399) -/
  | off
  deriving DecidableEq, Repr

/-- A contactless station beyond its registers. -/
structure Fst where
  /-- the identity record accepted at the most recent start-up -/
  record : List Octet
  /-- that record has been read and accepted in the start-up that is running -/
  recRead : Bool
  /-- what a starting activation waits for -/
  wait : FstWait
  /-- the field-on has been admitted -/
  admitted : Bool
  /-- a frame awaited in singulation or activation -/
  sing : Sing
  /-- tags counted, in order -/
  tags : List Tag
  /-- a ninth was found -/
  ninth : Bool
  /-- repeats of the present round or activation step -/
  tries : Nat
  /-- ATQA of the present round -/
  atqa : List Octet
  /-- the active tag -/
  tag : Option Tag
  /-- its ATS or ATTRIB answer -/
  ats : List Octet
  /-- FSC in octets -/
  fsc : Nat
  /-- FWI in use -/
  fwi : Nat
  /-- block number -/
  bn : Nat
  /-- the factor on FWT for the next answer -/
  wtxm : Nat
  /-- the APDU exchange -/
  x : Exch
  /-- consecutive pings past the threshold of arrival or departure -/
  hits : Nat
  /-- pings with TAG 1 since the last field-on (R381) -/
  stuck : Nat
  /-- pings still to be averaged into the baseline -/
  learn : Nat
  /-- the baseline's I component times 16 to the power `bK`, exactly -/
  bI : Int
  /-- the Q component -/
  bQ : Int
  /-- the power of 16 -/
  bK : Nat
  /-- consecutive measurements above 1.1 I_MAX -/
  high : Nat
  /-- consecutive measurements below 5 % of the prediction -/
  low : Nat
  /-- CAP and DRIVE have been settled at by a field-on since start-up -/
  tuned : Bool
  /-- the type in use when the previous field-on ended: 1 A, 2 B -/
  lastType : Nat
  /-- a read found the head changed or bad: quarantine when the exchange ends (R389) -/
  recBad : Bool
  /-- replay records -/
  replay : List Replay
  deriving DecidableEq, Repr

/-- Identity record reads (R386 to R389, R407). -/
structure Midr where
  /-- the station whose record a CMD read reads -/
  reading : Option Nat
  /-- the last record read of each station -/
  records : Map (List Octet)
  /-- the cause of each station's last read (Table 14-5) -/
  causes : Map Nat
  deriving DecidableEq, Repr

/-- The record of one bound job of an item (R413). -/
structure JobRec where
  /-- the queue -/
  queue : Nat
  /-- the position -/
  pos : Nat
  /-- the inner opcode -/
  opcode : Nat
  /-- the line station -/
  stn : Nat
  /-- the status -/
  status : Nat
  /-- up to 40 result octets -/
  result : List Octet
  deriving DecidableEq, Repr

/-- An item of the ledger (R413). -/
structure Item where
  /-- its number -/
  num : Nat
  /-- its mark position, not reduced modulo 2^36 -/
  m : Int
  /-- its identifier; empty while ID_SET is 0 -/
  ident : List Octet
  /-- REJECT -/
  reject : Bool
  /-- REASON (Table 15-1) -/
  reason : Nat
  /-- DONE -/
  done : Bool
  /-- its job records, oldest first -/
  recs : List JobRec
  /-- check-mark inputs whose edge has been seen -/
  checks : List Nat
  /-- it has reached DECIDE, and the windows that close there have closed (R415) -/
  final : Bool
  deriving DecidableEq, Repr

/-- A window open at a station (R416). -/
structure Window where
  /-- the item -/
  item : Nat
  /-- the line station -/
  stn : Nat
  /-- it was admitted: the station may energise -/
  admitted : Bool
  /-- the card or tag has been identified in it (R419) -/
  ident : Bool
  deriving DecidableEq, Repr

/-- The line beyond its registers. -/
structure Line where
  /-- ENC0 travel since POS last started at 0, not reduced modulo 2^36 -/
  pos : Int
  /-- ENC1 counts since then -/
  enc1 : Int
  /-- the highest position reached -/
  high : Int
  /-- the last 512 counts, newest first: the position after each, and whether it was a new highest one (R411) -/
  trail : List (Int × Bool)
  /-- the highest position since start-up or the last HOLD clear (Table 15-2, cause 4) -/
  revHigh : Int
  /-- snapshots of both positions, newest first, at most 16 (R410) -/
  snaps : List (Int × Int)
  /-- positions at the last speed updates, newest first (R409) -/
  samples : List Int
  /-- consecutive updates with SPEED 0 -/
  zeros : Nat
  /-- consecutive updates above the overspeed limit -/
  past : Nat
  /-- the previous accepted source mark -/
  lastMark : Option Int
  /-- the ledger, oldest first -/
  items : List Item
  /-- marks without a ledger record (R413) -/
  overflow : List Int
  /-- a mark found the overflow list full: every enabled reject output is asserted -/
  flood : Bool
  /-- open windows -/
  windows : List Window
  /-- items read back as matching at a station: item, station -/
  matched : List (Nat × Nat)
  deriving DecidableEq, Repr

/-- The stations. -/
structure Stations where
  /-- contact stations -/
  cst : Map Cst
  /-- contactless stations -/
  fst : Map Fst
  /-- identity records -/
  midr : Midr
  /-- station pages waiting for power, in the order they began to wait (R489) -/
  waits : List Nat
  deriving DecidableEq, Repr

/-! ### Chapters 16 to 19: tamper, Wisp log, flash, power, reset, failures -/

/-- A response set that is running (R438). -/
structure RunSet where
  /-- its source; the first of a merged set -/
  src : Nat
  /-- the response bits -/
  set : Word
  /-- bits whose action has completed -/
  done : Word
  /-- RTC of the alarm -/
  time : Nat
  /-- the Hummock tick of the alarm since power-on (R442) -/
  tick : Nat
  deriving DecidableEq, Repr

/-- The tamper controller (R434 to R447). -/
structure Tamper where
  /-- sources whose condition is present -/
  present : List Nat
  /-- active response sets that differ from the defaults -/
  active : Map Word
  /-- staged sets -/
  staged : Map Word
  /-- sets running, oldest first -/
  running : List RunSet
  /-- alarms since the period's first, by source plus one count: 1 for logged once -/
  counted : Map Nat
  /-- the source under built-in test -/
  bist : Option Nat
  /-- `now` plus one when each source was last tested -/
  tested : Map Nat
  /-- RTC of the alarm whose actions were last deferred (R449) -/
  pendTime : Nat
  /-- the Moss pattern register (R431) -/
  lfsr : Word
  /-- pattern steps since it was last seeded (R432) -/
  steps : Nat
  deriving DecidableEq, Repr

/-- A log entry queued (R449). -/
structure LogEntry where
  /-- KIND -/
  kind : Nat
  /-- SOURCE -/
  source : Nat
  /-- the RTC at the event -/
  time : Nat
  /-- DATA -/
  data : Word
  deriving DecidableEq, Repr

/-- The state of the Wisp tag (R453). -/
inductive TagState where
  | off | idle | ready | selected | halted
  deriving DecidableEq, Repr

/-- The Wisp log and tag (R448 to R458). -/
structure Wisp where
  /-- the 256 slots; a slot never written holds no words -/
  slots : Map (List Word)
  /-- appends queued, oldest first -/
  queue : List LogEntry
  /-- the slots in the order they were written, oldest first -/
  order : List Nat
  /-- entries dropped since the last OVERFLOW entry -/
  dropped : Nat
  /-- the host’s copy of one slot (R457) -/
  copy : List Word
  /-- VBAT is present -/
  vbat : Bool
  /-- `now` when the RTC last started -/
  vbatAt : Nat
  /-- `now` plus one of the last APPEND -/
  lastAppend : Nat
  /-- RTC words latched by a read of RTC0 -/
  rtcLatch : List Word
  /-- the tag -/
  tag : TagState
  /-- its random UID octets -/
  uid : List Octet
  /-- the field’s copy: 0 none, 1 the header, s + 2 for slot s -/
  held : Nat
  /-- the octets of that copy -/
  heldOcts : List Octet
  /-- the tag’s last answer; empty where it gave none -/
  answer : List Octet
  /-- the fingerprint recorded at the last COMMISSION -/
  fprint : BitVec 72
  deriving DecidableEq, Repr

/-- A flash operation (R467 to R471). -/
structure FlOp where
  /-- OP of Table 17-2 -/
  op : Nat
  /-- the page -/
  page : Nat
  /-- the octets to be programmed -/
  data : List Octet
  /-- pulses given -/
  pulses : Nat
  /-- port D -/
  portD : Bool
  /-- the journal segment or commit mark programmed, as in `Flash.segs` -/
  seg : Option Nat
  deriving DecidableEq, Repr

/-- The vault flash (R463 to R480). -/
structure Flash where
  /-- programmed pages by page number; erased pages are not listed -/
  pages : Map (List Octet)
  /-- pages aborted since their sector’s erase (R470) -/
  aborted : List Nat
  /-- journal segments and commit marks programmed since their sector’s erase: 16 page + 2 segment + (1 for the mark) -/
  segs : List Nat
  /-- sector states (Table 17-4) -/
  sectors : Map Nat
  /-- sectors whose erase-start marker is set -/
  markers : List Nat
  /-- the operation running -/
  running : Option FlOp
  /-- the erase suspended, and whether port D suspended it -/
  susp : Option (FlOp × Bool)
  /-- a port H operation waiting behind port D -/
  queued : Option FlOp
  /-- the stored protection map -/
  map : Map Word
  /-- what was drawn for the IV at the last program (R464, R465): of page q at q, of segment g of it at 2^17 + 8 q + g -/
  ivs : Map (List Octet)
  deriving DecidableEq, Repr

/-- Resets, fuses and bring-up (R492 to R502). -/
structure Boot where
  /-- power-on reset is asserted -/
  por : Bool
  /-- RESET_N is low -/
  pin : Bool
  /-- tamper reset is asserted -/
  tamper : Bool
  /-- PERST_N is low -/
  perst : Bool
  /-- the level of GBCOMPAT -/
  gbcompat : Bool
  /-- SHA3-256 of the boot keys, where that fuse is programmed -/
  keyFuse : Option (BitVec 256)
  /-- pages whose PG_CTRL a requester has written since the reset (R500) -/
  touched : List Nat
  /-- the slot verified: 0 A, 1 B -/
  slot : Option Nat
  /-- the firmware octets of the verified image -/
  fw : List Octet
  /-- ENTRY -/
  entry : Nat
  /-- JFRAME_G -/
  jframe : Nat
  /-- ROLLBACK of the image -/
  rollback : Nat
  /-- regions whose reset is running (R495) -/
  rgReset : List Nat
  /-- `now` when each watchdog was last armed or kicked: regions 0 to 3, device 4 (R495) -/
  kicks : Map Nat
  deriving DecidableEq, Repr

/-- The power manager (R484 to R491). -/
structure Power where
  /-- the region step in progress: region, upward -/
  step : Option (Nat × Bool)
  /-- regions held below RG_FMAX by a step down under item 1 -/
  capped : List Nat
  /-- consecutive updates above 36 W with every region at point 0 -/
  past : Nat
  /-- PMBus transactions failed in a row -/
  fails : Nat
  /-- the last confirmed READ_VOUT in mV -/
  vout : Nat
  /-- clusters being ungated -/
  ungating : List Nat
  /-- core cycles of each region since power-on, in thousandths -/
  cycles : Map Nat
  deriving DecidableEq, Repr

/-- Failure handling (R512 to R519). -/
structure Diag where
  /-- registers whose copies disagree, by page · 1024 + word, until written again -/
  mism : List Nat
  /-- the test running: kind, region -/
  inject : Option (Nat × Nat)
  /-- its outcome so far -/
  injOk : Bool
  /-- scrub positions: entry slot next read of each region · 16 + bank -/
  scrub : Map Nat
  /-- `now` when each region’s pass began -/
  passAt : Map Nat
  /-- storage whose check bits show a double-bit error (R512), until written again: word addresses, 2^40 + n for Peat slot
  n, 2^41 + p for the operand memory of bignum page p, 2^42 for the queue, Lode and routing tables -/
  upset : List Nat
  /-- failed sessions (Table 19-3) -/
  failSess : List Nat
  deriving DecidableEq, Repr

/-- Why a step would stop the block. No command of this model raises one: the spec turns every failure into a status,
a register bit, a quarantine or a response. Safe: a stop proves nothing about the hardware. -/
inductive Fault where
  /-- reserved: raised by no command -/
  | none
  deriving DecidableEq, Repr

/-- Why a command has no meaning. Safe: a refused command proves nothing about the hardware. -/
inductive Refusal where
  /-- raised by an arm of `exec` whose command has no meaning yet -/
  | notModelled (mnemonic : String)
  deriving DecidableEq, Repr

/-- The whole block. -/
structure State where
  /-- registers by page · 1024 + word; unlisted ones hold `regReset` -/
  regs : Map Word
  /-- cluster SRAM, credential memory and session contexts by word address (R53); unlisted words read 0 -/
  mem : Map Word
  /-- host memory octets the device has written; unlisted ones read 0 -/
  host : Map Octet
  /-- the register bus -/
  bus : Bus
  /-- the event controller -/
  evt : Events
  /-- the Causeway link to die V -/
  linkV : Link
  /-- the Causeway link to die F -/
  linkF : Link
  /-- unit, cluster and region levels -/
  lev : Levels
  /-- queue engines -/
  queues : Map Queue
  /-- jobs by key -/
  jobs : Map (Option Job)
  /-- the Lode dispatcher -/
  lode : Lode
  /-- placement and Denlet -/
  net : Net
  /-- system time -/
  clock : Clock
  /-- key custody -/
  cust : Custody
  /-- cipher and digest units -/
  units : Units
  /-- the 64 cores -/
  cores : Map Core
  /-- gate rules and granule colours -/
  gates : Gates
  /-- Sluice arbiters -/
  sluice : Sluice
  /-- stations -/
  stn : Stations
  /-- the line -/
  line : Line
  /-- the tamper controller -/
  tamper : Tamper
  /-- the Wisp log and tag -/
  wisp : Wisp
  /-- the vault flash -/
  flash : Flash
  /-- resets and bring-up -/
  boot : Boot
  /-- the power manager -/
  power : Power
  /-- failure handling -/
  diag : Diag
  /-- the model’s own clock: ns since power-on reset -/
  now : Nat
  /-- the model’s own counter of free values -/
  fresh : Nat
  /-- commands waiting, first in first out -/
  pending : List Instr
  deriving DecidableEq, Repr

/-- Power-on reset asserted: every register at its reset value, every memory with nothing listed, no command waiting.
The values the spec does not give are named in log entries 4 to 7. -/
def State.reset : State where
  regs := []
  mem := []
  host := []
  bus := ⟨[], [], [], [], [], 0⟩
  evt := ⟨[], [], [], [], []⟩
  linkV := ⟨0, 0, 0, 0, 0, 0, 0, false⟩
  linkF := ⟨0, 0, 0, 0, 0, 0, 0, false⟩
  lev := ⟨[], [], [], [], [], [], [], []⟩
  queues := []
  jobs := []
  lode := ⟨[], [], [], 0, [], [], [], 0⟩
  net := ⟨⟨[], [], 0, 0⟩, ⟨[], [], 0, 0⟩, none, false, [], [], [], [], [], 0⟩
  clock := ⟨0, 0, [], 0, 0, 0, 0⟩
  cust := ⟨0, 0, 0, [], [], 0, false, [], [], [], [], [], none, [], false, ⟨0, [], [], [], 0, false, 0, 0, []⟩⟩
  units := ⟨[], [], [], [], []⟩
  cores := []
  gates := ⟨[], [], []⟩
  sluice := ⟨[], []⟩
  stn := ⟨[], [], ⟨none, [], []⟩, []⟩
  line := ⟨0, 0, 0, [(0, true)], 0, [(0, 0)], [], 0, 0, none, [], [], false, [], []⟩
  tamper := ⟨[], [], [], [], [], none, [], 0, 0o777777, 0⟩
  wisp := ⟨[], [], [], 0, [], false, 0, 0, [], .off, [], 0, [], [], 0⟩
  flash := ⟨[], [], [], [], [], none, none, none, [], []⟩
  boot := ⟨true, false, false, false, false, none, [], none, [], 0, 0, 0, [], []⟩
  power := ⟨none, [], 0, 0, 0, [], []⟩
  diag := ⟨[], none, false, [], [], [], []⟩
  now := 0
  fresh := 0
  pending := []

end Sys2Proof.Machine
end

