-- ==== Sys2Proof/Machine/Ops.lean ====
section
/-! DEFINITION. The named operations on the state that every chapter shares: registers and their fields, counters, the
page header's status bits, events, register errors, memory words, host octets, free values. -/
namespace Sys2Proof.Machine

/-! ### Bit fields -/

/-- Bits `hi` down to `lo` as a number. -/
def bits {n : Nat} (w : BitVec n) (hi lo : Nat) : Nat := (w.toNat >>> lo) % 2 ^ (hi + 1 - lo)

/-- Write a number into bits `hi` down to `lo`. -/
def putBits {n : Nat} (w : BitVec n) (hi lo v : Nat) : BitVec n :=
  let m := (2 ^ (hi + 1 - lo) - 1) * 2 ^ lo
  (w &&& ~~~(BitVec.ofNat n m)) ||| BitVec.ofNat n ((v * 2 ^ lo) % (m + 2 ^ lo))

/-- Bit `i`. -/
def tb {n : Nat} (w : BitVec n) (i : Nat) : Bool := w.getLsbD i

/-- Set bit `i` to `b`. -/
def sb {n : Nat} (w : BitVec n) (i : Nat) (b : Bool) : BitVec n :=
  if b then w ||| BitVec.ofNat n (2 ^ i) else w &&& ~~~(BitVec.ofNat n (2 ^ i))

/-- A number as a word. -/
def wd (n : Nat) : Word := BitVec.ofNat 18 n

/-- A Bool as a number. -/
def b2n (b : Bool) : Nat := if b then 1 else 0

/-! ### Registers -/

/-- The stored value of word `w` of page `p`. -/
def State.reg (s : State) (p w : Nat) : Word := Map.get regReset s.regs (p * 1024 + w)

/-- Store a value in word `w` of page `p`. -/
def State.setReg (s : State) (p w : Nat) (v : Word) : State :=
  { s with regs := Map.put regReset s.regs (p * 1024 + w) v }

/-- Change the stored value of a register. -/
def State.modReg (s : State) (p w : Nat) (f : Word → Word) : State := s.setReg p w (f (s.reg p w))

/-- One bit of a register. -/
def State.rbit (s : State) (p w i : Nat) : Bool := tb (s.reg p w) i

/-- Set one bit of a register. -/
def State.setRbit (s : State) (p w i : Nat) (b : Bool) : State := s.modReg p w (fun v => sb v i b)

/-- A field of a register. -/
def State.rfld (s : State) (p w hi lo : Nat) : Nat := bits (s.reg p w) hi lo

/-- Write a field of a register. -/
def State.setRfld (s : State) (p w hi lo v : Nat) : State := s.modReg p w (fun x => putBits x hi lo v)

/-- A 36-bit register whose lower slot is word `w` (R13). -/
def State.reg36 (s : State) (p w : Nat) : DWord := dword (s.reg p w) (s.reg p (w + 1))

/-- Write both halves of a 36-bit register. -/
def State.setReg36 (s : State) (p w : Nat) (v : DWord) : State :=
  (s.setReg p w (loWord v)).setReg p (w + 1) (hiWord v)

/-- Advance a 36-bit count. -/
def State.inc36 (s : State) (p w : Nat) : State := s.setReg36 p w (s.reg36 p w + 1)

/-- Advance a 36-bit count by `n`. -/
def State.add36 (s : State) (p w n : Nat) : State := s.setReg36 p w (s.reg36 p w + BitVec.ofNat 36 n)

/-- Advance an 18-bit count that saturates at 0o777777. -/
def State.incSat (s : State) (p w : Nat) : State :=
  s.modReg p w (fun v => if v = 0o777777 then v else v + 1)

/-- Return every register of the page to its reset value except those `keep` names (word offsets). -/
def State.resetPage (s : State) (p : Nat) (keep : Nat → Bool) : State :=
  { s with regs := Map.keep (fun k => !(k / 1024 == p) || keep (k % 1024)) s.regs }

/-! ### The page header (Table 1-12) -/

abbrev ST.ready : Nat := 0
abbrev ST.busy : Nat := 1
abbrev ST.stopping : Nat := 2
abbrev ST.restart : Nat := 3
abbrev ST.error : Nat := 4
abbrev ST.locked : Nat := 5
abbrev ST.quar : Nat := 6
abbrev ST.settled : Nat := 7

/-- A stored bit of PG_STAT. -/
def State.stat (s : State) (p i : Nat) : Bool := s.rbit p R.PG_STAT i

/-- Set a stored bit of PG_STAT. -/
def State.setStat (s : State) (p i : Nat) (b : Bool) : State := s.setRbit p R.PG_STAT i b

/-- PG_CTRL.EN. -/
def State.en (s : State) (p : Nat) : Bool := s.rbit p R.PG_CTRL 0

/-- Set PG_CTRL.EN. -/
def State.setEn (s : State) (p : Nat) (b : Bool) : State := s.setRbit p R.PG_CTRL 0 b

/-- PG_STAT.READY. -/
def State.ready (s : State) (p : Nat) : Bool := s.stat p ST.ready

/-! Configuration registers whose two copies disagree (R515, R516), by key. -/

/-- The key of an event route entry. -/
def routeKey (src : Nat) : Nat := 2 ^ 22 + src
/-- The key of a rule of a GATE group. -/
def ruleKey (i : Nat) : Nat := 2 ^ 23 + i
/-- The key of a granule colour. -/
def granKey (n g : Nat) : Nat := 2 ^ 24 + 2048 * n + g

/-- The two copies of a configuration register disagree. -/
def State.isBad (s : State) (k : Nat) : Bool := s.diag.mism.contains k

/-- Both copies are written. -/
def State.mend (s : State) (k : Nat) : State := { s with diag := { s.diag with mism := s.diag.mism.filter (fun x => x != k) } }

/-- Every register of a range of keys is written. -/
def State.mendRange (s : State) (lo hi : Nat) : State :=
  { s with diag := { s.diag with mism := s.diag.mism.filter (fun x => !decide (lo ≤ x ∧ x < hi)) } }

/-- PG_LOCK.LOCK; a mismatch in PG_LOCK counts as set (R516). -/
def State.lockedPage (s : State) (p : Nat) : Bool := s.rbit p R.PG_LOCK 0 || s.isBad (p * 1024 + R.PG_LOCK)

/-- An instance of the DRBG delivers: RNG enabled, not in ERROR, the instance instantiated (R133, R135, R551).
DEDUCED, log entry 38. -/
def State.rngOk (s : State) (inst : Nat) : Bool :=
  s.en P.rng && s.ready P.rng && !s.stat P.rng ST.error && s.rbit P.rng R.RNG_STAT inst

/-- HMK is LIVE (R131). -/
def State.hmkLive (s : State) : Bool := decide (s.rfld P.hmk R.HMK_STAT 1 0 = 1)

/-- PEAT's store has been restored since the last reset (Table 4-20). -/
def State.peatRestored (s : State) : Bool := s.rbit P.peat R.PEAT_STAT 0

/-- HMK is ZEROED and no reset has come since: keys in Peat and entries in credential memory stay usable (R132). -/
def State.keysKept (s : State) : Bool := decide (s.rfld P.hmk R.HMK_STAT 1 0 = 2) && s.peatRestored

/-- PEAT takes slot requests: READY, or enabled with its keys kept after ZEROED (R131, R132, R549). DEDUCED, log entry 34. -/
def State.peatServes (s : State) : Bool :=
  if s.keysKept then s.en P.peat && !s.stat P.peat ST.stopping && !s.stat P.peat ST.quar else s.hmkLive && s.ready P.peat

/-- The custody instance. -/
abbrev custodyInst : Nat := 4

/-! ### Domains, resets and quarantined levels (Table 1-7, R24, R34, R38) -/

/-- The domain of a page. -/
def pageDomain (p : Nat) : Domain := match blockOf p with | some (b, i) => domainOf b i | none => .fabric

/-- A package reset is asserted. -/
def State.inReset (s : State) : Bool := s.boot.por || s.boot.pin || s.boot.tamper

/-- Reads of a page show its last shadow: its domain is held in reset, or its link is quarantined (R34). -/
def State.frozen (s : State) (p : Nat) : Bool :=
  match pageDomain p with
  | .dieV => s.linkV.quar
  | .dieF => s.linkF.quar
  | .region k => s.rbit P.rstc R.RSTC_RG_STAT k
  | _ => false

/-- A write to a page is dropped without a record (R38), or names no page (R15). -/
def State.deaf (s : State) (p : Nat) : Bool := s.inReset || s.frozen p || (blockOf p).isNone

/-- A region is quarantined (R24): nothing is placed, loaded or homed in it. -/
def State.regionQuar (s : State) (rg : Nat) : Bool := s.rbit P.rstc R.RSTC_RG_STAT (4 + rg)

/-! ### Events (R47) -/

/-- PG_EVT_PEND: raised and enabled events of a page (R47). -/
def State.pend (s : State) (p : Nat) : Word := s.reg p R.PG_EVT_RAW &&& s.reg p R.PG_EVT_EN

/-- The sources of page `p` whose PEND bit is set in `new` and clear in `old`. -/
def newSources (p : Nat) (old new : Word) : List Nat :=
  ((List.range 8).filter (fun b => tb new b && !tb old b)).map (fun b => srcBase p + b)

/-- Count the PEND bits that a change of RAW or EN turned on as raised (R47). DEDUCED, log entry 19. -/
def State.raising (s : State) (p : Nat) (old : Word) : State :=
  { s with evt := { s.evt with raised := s.evt.raised ++ newSources p old (s.pend p) } }

/-- The hardware sets event bit `b` of page `p`. DEDUCED, log entry 19. -/
def State.event (s : State) (p b : Nat) : State :=
  (s.setRbit p R.PG_EVT_RAW b true).raising p (s.pend p)

/-- RAW of a software source (EVT3, Table 1-14): sources 3,984 + 16 i + j. -/
def State.swRaw (s : State) (src : Nat) : Bool := s.rbit P.evt3 (R.EVT3_SW_RAW + (src - 3984) / 16) ((src - 3984) % 16)

/-- PEND of any source (R47, R51). -/
def State.srcPend (s : State) (src : Nat) : Bool :=
  if 3984 ≤ src then s.swRaw src else tb (s.pend (srcPage src)) (src - srcBase (srcPage src))

/-- RAW of any source. -/
def State.srcRaw (s : State) (src : Nat) : Bool :=
  if 3984 ≤ src then s.swRaw src else s.rbit (srcPage src) R.PG_EVT_RAW (src - srcBase (srcPage src))

/-! ### Register errors (R45) -/

/-- PG_ERR_INFO_LO.REQ of a requester (Table 1-12). -/
def reqCode : Requester → Nat
  | .host => 0o377
  | .debug => 0o376
  | .core c => c

/-- Set a PG_ERR bit; the first error while PG_ERR is zero latches its detail, a later one sets OVERRUN (R45). -/
def State.pgErr (s : State) (p bit : Nat) (req : Requester) (off : Nat) (detail : Word := 0) : State :=
  if s.reg p R.PG_ERR = 0 then
    ((s.setReg p R.PG_ERR (sb 0 bit true)).setReg p R.PG_ERR_INFO_LO (wd (reqCode req * 1024 + off % 1024))).setReg
      p R.PG_ERR_INFO_HI detail
  else (s.setRbit p R.PG_ERR bit true).setRbit p R.PG_ERR 13 true

abbrev ERR.width : Nat := 17
abbrev ERR.lock : Nat := 16
abbrev ERR.gate : Nat := 15
abbrev ERR.quar : Nat := 14

/-- A write of a field locked by PG_LOCK is dropped (R46). -/
def State.ifUnlocked (s : State) (req : Requester) (p w : Nat) (t : State) : State :=
  if s.lockedPage p then s.pgErr p ERR.lock req w else t

/-! ### Detected failures (R510) -/

/-- A dangerous failure of a class of Table 19-1 is detected. DEDUCED, log entry 46. -/
def State.detect (s : State) (cls : Nat) : State :=
  ((s.inc36 P.diag R.DIAG_DETECTED).setReg P.diag R.DIAG_LAST (wd (2 ^ 17 + cls))).event P.diag 0

/-! ### Memory words (R53) -/

/-- A word of cluster SRAM, credential memory or session contexts. DESIGN CHOICE, log entry 5. -/
def State.word (s : State) (a : Nat) : Word := Map.get (dflt 0) s.mem a

/-- Writing storage makes its check bits right again (R512). DESIGN CHOICE, log entry 90. -/
def Diag.written (d : Diag) (a n : Nat) : Diag := { d with upset := d.upset.filter (fun k => decide (k < a) || decide (a + n ≤ k)) }

/-- The first storage of a range whose check bits show a double-bit error (R512). DESIGN CHOICE, log entry 90. -/
def State.struckIn (s : State) (a n : Nat) : Option Nat := s.diag.upset.find? (fun k => decide (a ≤ k) && decide (k < a + n))

/-- Write such a word. -/
def State.setWord (s : State) (a : Nat) (v : Word) : State :=
  { s with mem := Map.put (dflt 0) s.mem a v, diag := s.diag.written a 1 }

/-- `n` words from `a`. -/
def State.words (s : State) (a n : Nat) : List Word := Map.getList (dflt 0) s.mem a n

/-- Write words from `a`. -/
def State.setWords (s : State) (a : Nat) (l : List Word) : State :=
  { s with mem := Map.putList (dflt 0) s.mem a l, diag := s.diag.written a l.length }

/-- Clear the words `a` to `a + n − 1` to zero. -/
def State.clearWords (s : State) (a n : Nat) : State :=
  { s with mem := Map.keep (fun k => decide (k < a ∨ a + n ≤ k)) s.mem, diag := s.diag.written a n }

/-- The first word of cluster SRAM `n` (Table 1-15). -/
def sramBase (n : Nat) : Nat := n * 0o10000000

/-- The words of one cluster's SRAM (Table 1-15). -/
def sramWords : Nat := 1397760

/-- The first word of credential frame `f`. -/
def frameBase (f : Nat) : Nat := 0o000200000000 + f * 0o100000

/-- The first word of session context `c`. -/
def ctxBase (c : Nat) : Nat := 0o000400000000 + 64 * c

/-! ### Host memory the device has written -/

/-- An octet of host memory as the device left it. DESIGN CHOICE, log entry 5. -/
def State.hostOctet (s : State) (a : Nat) : Octet := Map.get (dflt 0) s.host a

/-- Write octets to host memory. -/
def State.toHost (s : State) (a : Nat) (l : List Octet) : State := { s with host := Map.putList (dflt 0) s.host a l }

/-! ### Octets and numbers -/

/-- A number as `n` octets, most significant first. -/
def beOctets : Nat → Nat → List Octet
  | 0, _ => []
  | n + 1, v => BitVec.ofNat 8 (v / 256 ^ n) :: beOctets n v

/-- A number as `n` octets, least significant first. -/
def leOctets : Nat → Nat → List Octet
  | 0, _ => []
  | n + 1, v => BitVec.ofNat 8 v :: leOctets n (v / 256)

/-- The number whose most significant octet comes first. -/
def beNat (l : List Octet) : Nat := l.foldl (fun a o => a * 256 + o.toNat) 0

/-- The number whose least significant octet comes first. -/
def leNat (l : List Octet) : Nat := l.foldr (fun o a => o.toNat + 256 * a) 0

/-- `n` octets from offset `i`; octets beyond the end read zero. -/
def sliceOct (l : List Octet) (i n : Nat) : List Octet :=
  let r := (l.drop i).take n
  r ++ List.replicate (n - r.length) 0

/-- A little-endian doubleword at offset `i`. -/
def dw (l : List Octet) (i : Nat) : BitVec 32 := BitVec.ofNat 32 (leNat (sliceOct l i 4))

/-- XOR of two octet strings, as long as the shorter. -/
def xorO (a b : List Octet) : List Octet := List.zipWith (· ^^^ ·) a b

/-- The packed words of an octet string (R5, R6). -/
def packWords : List Octet → List Word
  | [] => []
  | [a] => [wd (2 ^ 17 + a.toNat * 512)]
  | a :: b :: r => wd (2 ^ 17 + a.toNat * 512 + 256 + b.toNat) :: packWords r

/-- The octets of a packed string; `none` when it is malformed (R6, R7, R8). -/
def unpackWords : List Word → Option (List Octet)
  | [] => some []
  | w :: r =>
    if tb w 17 then
      if tb w 8 then (unpackWords r).map (fun l => BitVec.ofNat 8 (bits w 16 9) :: BitVec.ofNat 8 (bits w 7 0) :: l)
      else if r.isEmpty then some [BitVec.ofNat 8 (bits w 16 9)] else none
    else none

/-- A big-endian bit stream of words as octets: each group of 4 words becomes 9 octets (R152). -/
def wordStream (l : List Word) : List Octet :=
  let n := l.foldl (fun a w => a * 2 ^ 18 + w.toNat) 0
  let bitsN := 18 * l.length
  let octs := (bitsN + 7) / 8
  beOctets octs (n * 2 ^ (8 * octs - bitsN))

/-- `n` words from a word stream (R152). -/
def streamWords (n : Nat) (l : List Octet) : List Word :=
  let octs := (18 * n + 7) / 8
  let v := beNat (sliceOct l 0 octs) / 2 ^ (8 * octs - 18 * n)
  (List.range n).map (fun i => wd (v / 2 ^ (18 * (n - 1 - i))))

/-! ### Free values -/

/-- `n` octets drawn from a DRBG: free values. DESIGN CHOICE, log entry 6. -/
def freeOctets (k : Nat) : Nat → List Octet
  | 0 => []
  | n + 1 => Config.freeOctet k :: freeOctets (k + 1) n

/-- Draw `n` free octets and advance the counter of free values. DESIGN CHOICE, log entry 6. DESIGN CHOICE, log entry 39. -/
def State.draw (s : State) (n : Nat) : List Octet × State :=
  (freeOctets s.fresh n, { s with fresh := s.fresh + n })

/-- One generate request of an instance (R133). DEDUCED, log entry 38. DESIGN CHOICE, log entry 39. -/
def State.drawFrom (s : State) (inst n : Nat) : List Octet × State :=
  let (o, s) := s.draw n
  (o, { s with cust := { s.cust with reqs := Map.put (dflt 0) s.cust.reqs inst (Map.get (dflt 0) s.cust.reqs inst + 1) } })

/-- The IV of a page or journal segment about to be programmed is drawn from the custody DRBG (R464, R465). -/
def State.drawIv (s : State) (at_ n : Nat) : State :=
  let (o, s) := s.drawFrom custodyInst n
  { s with flash := { s.flash with ivs := Map.put (dflt []) s.flash.ivs at_ o } }

/-! ### Causeway links (R28) -/

/-- A link; `f` names the one to die F. -/
def State.link (s : State) (f : Bool) : Link := if f then s.linkF else s.linkV

/-- Store a link. -/
def State.putLink (s : State) (f : Bool) (l : Link) : State := if f then { s with linkF := l } else { s with linkV := l }

/-- A fresh link key at power-up (R28), from the fuse secrets and a nonce of the entropy source. How it is derived is not
given. DESIGN CHOICE, log entry 21. -/
def State.newLinkKey (s : State) (f : Bool) : State :=
  let (o, t) := s.draw 16
  t.putLink f { t.link f with key := Config.linkKey f (BitVec.ofNat 128 (beNat o)) }

/-! ### Cores -/

/-- A core after SRESET and after EN is written 1: every register zero (R243, R313). DESIGN CHOICE, log entry 4. -/
def Core.zero : Core :=
  { w := [], a := [], b := [], m := [], p := 1, lc0 := 0, ls0 := 0, le0 := 0, lc1 := 0, ls1 := 0, le1 := 0, v := [], vq := 0,
    vqb := 0, mstat := 0, oldMode := 0, oldNext := 0, sh := 0, pc := 0, loads := [], delay := none, sup := true, estat := 0, epc := 0,
    emode := 0, vbase := 0, el0 := 0, el1 := 0, el2 := 0, el3 := 0, el4 := 0, el5 := 0, gateBank := 0, ctxKey := 0,
    unsaved := false, wake := false, run := false, waiting := false, halted := false, held := 0, cmds := [],
    aborting := false, issued := 0, cyc0 := 0 }

/-- A core. -/
def State.core (s : State) (c : Nat) : Core := Map.get (dflt Core.zero) s.cores c

/-- Store a core. -/
def State.setCore (s : State) (c : Nat) (v : Core) : State := { s with cores := Map.put (dflt Core.zero) s.cores c v }

/-- Change a core. -/
def State.modCore (s : State) (c : Nat) (f : Core → Core) : State := s.setCore c (f (s.core c))

/-! ### Outcomes -/

/-- A command that always answers a next state. DESIGN CHOICE, log entry 3. -/
def ok (s : State) : Host.Outcome State Fault Refusal := .next s

/-- An event whose condition holds acts; where it does not hold, nothing happens (DESIGN CHOICE, log entry 3).
DESIGN CHOICE, log entry 20. -/
def when (c : Bool) (s t : State) : Host.Outcome State Fault Refusal := .next (if c then t else s)

/-- A command that is the effect of a write to a page: it is dropped where the page takes no write (R38). -/
def State.written (s : State) (p : Nat) (t : State) : Host.Outcome State Fault Refusal := .next (if s.deaf p then s else t)

/-- What a read command answers. -/
def State.answer (s : State) (v : Word) : State := { s with bus := { s.bus with rdata := v.setWidth 72 } }

/-- A read with an effect of its own: a frozen page answers its last shadow, and nothing else happens (R34). -/
def State.readLive (s : State) (p w : Nat) (t : State) : State :=
  if s.frozen p then s.answer (Map.get regReset s.bus.shadow (p * 1024 + w)) else t

/-- Word `i` of a list. -/
def cw (c : List Word) (i : Nat) : Word := c.getD i 0

/-- A job that a predicate names is in flight and has not ended. -/
def State.anyJob (s : State) (f : Job → Bool) : Bool :=
  s.jobs.any (fun e => match e.2 with | some j => decide (j.st ≠ .done) && f j | none => false)

/-! Usage bits of ATTR0 (R137). -/

abbrev U.encrypt : Nat := 13
abbrev U.decrypt : Nat := 12
abbrev U.wrap : Nat := 11
abbrev U.unwrap : Nat := 10
abbrev U.derive : Nat := 9
abbrev U.mac : Nat := 8
abbrev U.sign : Nat := 7
abbrev U.verify : Nat := 6

/-- Remove one element of a list used as a set. -/
def drop1 (l : List Nat) (k : Nat) : List Nat := l.filter (fun x => x != k)

/-- Add an element to a list used as a set. -/
def add1 (l : List Nat) (k : Nat) : List Nat := if l.contains k then l else l ++ [k]

/-- Run an update over a list of indices. -/
def State.each (s : State) (l : List Nat) (f : State → Nat → State) : State := l.foldl f s

/-! ### Stations -/

/-- No exchange. -/
def Exch.none : Exch := ⟨[], false, false, [], [], [], [], 0, 0, false, 0⟩

/-- A contact station at rest. DESIGN CHOICE, log entry 4. -/
def Cst.idle : Cst := ⟨[], false, false, false, 0, false, [], .rest, none, Exch.none, .idle, 0, 0, 0, 1, []⟩

/-- A contactless station at rest. DESIGN CHOICE, log entry 4. -/
def Fst.idle : Fst :=
  ⟨[], false, .none, false, .idle, [], false, 0, [], none, [], 16, 4, 0, 1, Exch.none, 0, 0, 0, 0, 0, 0, 0, 0, false, 0, false, []⟩

/-- A contact station. -/
def State.cst (s : State) (n : Nat) : Cst := Map.get (dflt Cst.idle) s.stn.cst n
/-- Store a contact station. -/
def State.setCst (s : State) (n : Nat) (v : Cst) : State :=
  { s with stn := { s.stn with cst := Map.put (dflt Cst.idle) s.stn.cst n v } }
/-- A contactless station. -/
def State.fst (s : State) (n : Nat) : Fst := Map.get (dflt Fst.idle) s.stn.fst n
/-- Store a contactless station. -/
def State.setFst (s : State) (n : Nat) (v : Fst) : State :=
  { s with stn := { s.stn with fst := Map.put (dflt Fst.idle) s.stn.fst n v } }

/-- MAX_POWER of an identity record (Table 14-4). -/
def recPower (r : List Octet) : Nat := beNat (sliceOct r 6 2)

/-- The power a station page reserves, in mW (R489). -/
def State.stnNeed (s : State) (p : Nat) : Nat := if p < 0x410 then 375 else 2 * recPower (s.fst (p - 0x410)).record

/-- STN_WAIT shows whether a station waits for power. -/
def State.setWaits (s : State) (l : List Nat) : State :=
  ({ s with stn := { s.stn with waits := l } } : State).setRbit P.pwr R.PWR_STAT 1 (!l.isEmpty)

/-- A station no longer holds or waits for power (R489). -/
def State.releasePower (s : State) (p : Nat) : State :=
  let held := if p < 0x410 then (s.cst (p - 0x400)).admitted else (s.fst (p - 0x410)).admitted
  let s := s.setWaits (drop1 s.stn.waits p)
  if held then
    let s := s.modReg P.pwr R.PWR_STN_RESERVED (fun v => wd (v.toNat - s.stnNeed p))
    if p < 0x410 then s.setCst (p - 0x400) { s.cst (p - 0x400) with admitted := false }
    else s.setFst (p - 0x410) { s.fst (p - 0x410) with admitted := false }
  else s

/-- A job whose exchange has not begun leaves its station: a contact station whose card waits for the restarted clock is
idle again, a contactless one no longer waits for a tag or for power. -/
def State.leaveStation (s : State) (p : Nat) (begun : Bool) : State :=
  if begun ∨ p < 0x400 ∨ 0x420 ≤ p then s
  else if p < 0x410 then
    (if s.rfld p R.CST_STAT 2 0 = 4 then s.setRfld p R.CST_STAT 2 0 2 else s)
  else
    let v := s.fst (p - 0x410)
    if v.wait = .none then s
    else
      let s := (s.setFst (p - 0x410) { v with wait := .none }).releasePower p
      if s.rfld p R.FST_STAT 2 0 = 2 then s.setRfld p R.FST_STAT 2 0 0 else s

end Sys2Proof.Machine
end

