-- ==== Sys2Proof/Machine/Aes.lean ====
section
/-! DEFINITION. AES (FIPS 197) and the modes the cipher units run: ECB, CBC, CTR, GCM (SP 800-38D), CCM (SP 800-38C),
CMAC (SP 800-38B), KW and KWP (SP 800-38F), over octet strings. The algorithms are those of the standards the spec
names (R166, R173), log entry 8. -/
namespace Sys2Proof.Machine

/-- The S-box, octet x at bits 8x + 7 to 8x. -/
def sboxN : Nat := 0x16bb54b00f2d99416842e6bf0d89a18cdf2855cee9871e9b948ed9691198f8e19e1dc186b95735610ef6034866b53e708a8bbd4b1f74dde8c6b4a61c2e2578ba08ae7a65eaf4566ca94ed58d6d37c8e779e4959162acd3c25c2406490a3a32e0db0b5ede14b8ee4688902a22dc4f816073195d643d7ea7c41744975fec130ccdd2f3ff1021dab6bcf5389d928f40a351a89f3c507f02f94585334d43fbaaefd0cf584c4a39becb6a5bb1fc20ed00d153842fe329b3d63b52a05a6e1b1a2c830975b227ebe28012079a059618c323c7041531d871f1e5a534ccf73f362693fdb7c072a49cafa2d4adf04759fa7dc982ca76abd7fe2b670130c56f6bf27b777c63
/-- The inverse S-box. -/
def invSboxN : Nat := 0x7d0c2155631469e126d677ba7e042b17619953833cbbebc8b0f52aae4d3be0a0ef9cc9939f7ae52d0d4ab519a97f51605fec8027591012b131c7078833a8dd1ff45acd78fec0db9a2079d2c64b3e56fc1bbe18aa0e62b76f89c5291d711af1476edf751ce837f9e28535ade72274ac9673e6b4f0cecff297eadc674f4111913a6b8a130103bdafc1020f3fca8f1e2cd00645b3b80558e4f70ad3bc8c00abd890849d8da75746155edab9edfd5048706c92b6655dcc5ca4d41698688664f6f87225d18b6d49a25b76b224d92866a12e084ec3fa420b954cee3d23c2a632947b54cbe9dec444438e3487ff2f9b8239e37cfbd7f3819ea340bf38a53630d56a0952

/-- SubBytes on one octet. -/
def sbox (x : Octet) : Octet := BitVec.ofNat 8 (sboxN >>> (8 * x.toNat))
/-- InvSubBytes on one octet. -/
def invSbox (x : Octet) : Octet := BitVec.ofNat 8 (invSboxN >>> (8 * x.toNat))

/-- Multiplication by x in GF(2^8). -/
def xtime (x : Octet) : Octet := if tb x 7 then (x <<< 1) ^^^ 0x1b else x <<< 1

/-- Multiplication in GF(2^8) by a constant below 16. -/
def gmul (k : Nat) (x : Octet) : Octet :=
  let x2 := xtime x
  let x4 := xtime x2
  let x8 := xtime x4
  (if k.testBit 0 then x else 0) ^^^ (if k.testBit 1 then x2 else 0) ^^^ (if k.testBit 2 then x4 else 0) ^^^
    (if k.testBit 3 then x8 else 0)

/-- One column by a circulant matrix row a b c d. -/
def mixCol (a b c d : Nat) : List Octet → List Octet
  | [w, x, y, z] =>
    [gmul a w ^^^ gmul b x ^^^ gmul c y ^^^ gmul d z, gmul d w ^^^ gmul a x ^^^ gmul b y ^^^ gmul c z,
     gmul c w ^^^ gmul d x ^^^ gmul a y ^^^ gmul b z, gmul b w ^^^ gmul c x ^^^ gmul d y ^^^ gmul a z]
  | l => l

/-- Every column of a 16-octet state by the matrix. -/
def mixCols (a b c d : Nat) (s : List Octet) : List Octet :=
  mixCol a b c d (s.take 4) ++ mixCol a b c d ((s.drop 4).take 4) ++ mixCol a b c d ((s.drop 8).take 4) ++
    mixCol a b c d (s.drop 12)

/-- The octets of a state in the order of a list of indices. -/
def permute (idx : List Nat) (s : List Octet) : List Octet := idx.map (fun i => s.getD i 0)

/-- ShiftRows. -/
def shiftRows : List Octet → List Octet := permute [0, 5, 10, 15, 4, 9, 14, 3, 8, 13, 2, 7, 12, 1, 6, 11]
/-- InvShiftRows. -/
def invShiftRows : List Octet → List Octet := permute [0, 13, 10, 7, 4, 1, 14, 11, 8, 5, 2, 15, 12, 9, 6, 3]

/-- Key expansion: words of 4 octets, newest first; `n` words remain to be made, `i` is the next index, `nk` the key
length in words. -/
def expandKey (nk : Nat) : Nat → Nat → Octet → List (List Octet) → List (List Octet)
  | 0, _, _, acc => acc
  | n + 1, i, rc, acc =>
    let t := acc.headD []
    let t' := if i % nk = 0 then
        match t with
        | [a, b, c, d] => [sbox b ^^^ rc, sbox c, sbox d, sbox a]
        | l => l
      else if nk = 8 ∧ i % nk = 4 then t.map sbox else t
    expandKey nk n (i + 1) (if i % nk = 0 then xtime rc else rc) (xorO (acc.getD (nk - 1) []) t' :: acc)

/-- Octets in groups of four. -/
def quads : List Octet → List (List Octet)
  | a :: b :: c :: d :: r => [a, b, c, d] :: quads r
  | _ => []

/-- Words in groups of four: round keys of 16 octets. -/
def roundKeys : List (List Octet) → List (List Octet)
  | a :: b :: c :: d :: r => (a ++ b ++ c ++ d) :: roundKeys r
  | _ => []

/-- The round keys of an AES-128, -192 or -256 key, first to last. -/
def aesSchedule (key : List Octet) : List (List Octet) :=
  let nk := key.length / 4
  roundKeys (expandKey nk (4 * (nk + 7) - nk) nk 1 (quads key).reverse).reverse

/-- The rounds after the first key addition. -/
def encRounds : List (List Octet) → List Octet → List Octet
  | [], s => s
  | [k], s => xorO (shiftRows (s.map sbox)) k
  | k :: r, s => encRounds r (xorO (mixCols 2 3 1 1 (shiftRows (s.map sbox))) k)

/-- The inverse rounds after the first key addition, round keys last to first. -/
def decRounds : List (List Octet) → List Octet → List Octet
  | [], s => s
  | [k], s => xorO ((invShiftRows s).map invSbox) k
  | k :: r, s => decRounds r (mixCols 14 11 13 9 (xorO ((invShiftRows s).map invSbox) k))

/-- Encrypt one block under a schedule. -/
def encBlk (ks : List (List Octet)) (b : List Octet) : List Octet :=
  match ks with
  | [] => b
  | k :: r => encRounds r (xorO b k)

/-- Decrypt one block under a schedule. -/
def decBlk (ks : List (List Octet)) (b : List Octet) : List Octet :=
  match ks.reverse with
  | [] => b
  | k :: r => decRounds r (xorO b k)

/-- Encrypt one block under a key. PRESUMED, log entry 8. -/
def aesEnc (key b : List Octet) : List Octet := encBlk (aesSchedule key) b

/-- Cut octets into `fuel` blocks of `n`, the last one possibly shorter. -/
def chunksF (n : Nat) : Nat → List Octet → List (List Octet)
  | 0, _ => []
  | f + 1, l => if l.isEmpty then [] else l.take n :: chunksF n f (l.drop n)

/-- Cut octets into blocks of `n`, the last one possibly shorter. -/
def chunks (n : Nat) (l : List Octet) : List (List Octet) := chunksF n l.length l

/-- Zero octets. -/
def zeros (n : Nat) : List Octet := List.replicate n 0

/-- Pad with zero octets to a multiple of 16. -/
def padZ (l : List Octet) : List Octet := l ++ zeros ((16 - l.length % 16) % 16)

/-- CBC encryption from a chaining value: ciphertext and the last chaining value. -/
def cbcEnc (ks : List (List Octet)) : List Octet → List (List Octet) → List Octet × List Octet
  | v, [] => ([], v)
  | v, b :: r => let c := encBlk ks (xorO b v); let (o, v') := cbcEnc ks c r; (c ++ o, v')

/-- CBC decryption from a chaining value. -/
def cbcDec (ks : List (List Octet)) : List Octet → List (List Octet) → List Octet × List Octet
  | v, [] => ([], v)
  | v, b :: r => let (o, v') := cbcDec ks b r; (xorO (decBlk ks b) v ++ o, v')

/-- CBC-MAC of whole blocks from a chaining value. -/
def cbcMac (ks : List (List Octet)) (v : List Octet) (bs : List (List Octet)) : List Octet :=
  bs.foldl (fun a b => encBlk ks (xorO b a)) v

/-- Counter block plus one: over the last `w` octets, modulo 2^(8w). -/
def incCtr (w : Nat) (c : List Octet) : List Octet :=
  c.take (16 - w) ++ beOctets w (beNat (c.drop (16 - w)) + 1)

/-- Counter mode: output and the next counter block; `w` octets of the counter block count. -/
def ctrMode (ks : List (List Octet)) (w : Nat) : List Octet → List (List Octet) → List Octet × List Octet
  | c, [] => ([], c)
  | c, b :: r => let (o, c') := ctrMode ks w (incCtr w c) r; (xorO b (encBlk ks c) ++ o, c')

/-! ### GCM -/

/-- One step of the multiplication in GF(2^128): bit `i` of x from the left. -/
def ghStep (x : Nat) (zv : Nat × Nat) (i : Nat) : Nat × Nat :=
  (if x.testBit (127 - i) then zv.1 ^^^ zv.2 else zv.1,
   if zv.2.testBit 0 then (zv.2 >>> 1) ^^^ 0xe1000000000000000000000000000000 else zv.2 >>> 1)

/-- Multiplication in GF(2^128), most significant bit first (SP 800-38D). -/
def ghMul (x h : Nat) : Nat := ((List.range 128).foldl (ghStep x) (0, h)).1

/-- GHASH from an accumulator over blocks padded with zeros. -/
def ghash (h acc : Nat) (bs : List (List Octet)) : Nat :=
  bs.foldl (fun a b => ghMul (a ^^^ beNat (sliceOct b 0 16)) h) acc

/-- H = E_K(0). -/
def gcmH (ks : List (List Octet)) : Nat := beNat (encBlk ks (zeros 16))

/-- J0 for a 12-octet IV. -/
def gcmJ0 (iv : List Octet) : List Octet := sliceOct iv 0 12 ++ [0, 0, 0, 1]

/-- The GCM tag from a GHASH accumulator over header data and ciphertext, and their lengths in octets. -/
def gcmTag (ks : List (List Octet)) (iv : List Octet) (acc aLen cLen : Nat) : List Octet :=
  xorO (beOctets 16 (ghash (gcmH ks) acc [beOctets 8 (8 * aLen) ++ beOctets 8 (8 * cLen)]))
    (encBlk ks (gcmJ0 iv))

/-- AES-GCM encryption: ciphertext and 16-octet tag. -/
def gcmEnc (key iv aad pt : List Octet) : List Octet × List Octet :=
  let ks := aesSchedule key
  let ct := (ctrMode ks 4 (incCtr 4 (gcmJ0 iv)) (chunks 16 pt)).1
  let acc := ghash (gcmH ks) (ghash (gcmH ks) 0 (chunks 16 aad)) (chunks 16 ct)
  (ct, gcmTag ks iv acc aad.length ct.length)

/-- AES-GCM decryption: the plaintext when the first octets of the tag agree. -/
def gcmDec (key iv aad ct tag : List Octet) : Option (List Octet) :=
  let ks := aesSchedule key
  let acc := ghash (gcmH ks) (ghash (gcmH ks) 0 (chunks 16 aad)) (chunks 16 ct)
  if (gcmTag ks iv acc aad.length ct.length).take tag.length = tag then
    some (ctrMode ks 4 (incCtr 4 (gcmJ0 iv)) (chunks 16 ct)).1
  else none

/-! ### CCM -/

/-- Header data with its length prefix (SP 800-38C), padded. -/
def ccmHeader (aad : List Octet) : List Octet :=
  if aad.isEmpty then [] else
  padZ ((if aad.length < 0xFF00 then beOctets 2 aad.length else [0xFF, 0xFE] ++ beOctets 4 aad.length) ++ aad)

/-- B0 of SP 800-38C. -/
def ccmB0 (nonce : List Octet) (aLen tagLen pLen : Nat) : List Octet :=
  let q := 15 - nonce.length
  BitVec.ofNat 8 ((if aLen = 0 then 0 else 64) + (tagLen - 2) / 2 * 8 + (q - 1)) :: (nonce ++ beOctets q pLen)

/-- The counter block with count `i`. -/
def ccmCtr (nonce : List Octet) (i : Nat) : List Octet :=
  BitVec.ofNat 8 (14 - nonce.length) :: (nonce ++ beOctets (15 - nonce.length) i)

/-- The encrypted CCM tag over a plaintext. -/
def ccmTag (ks : List (List Octet)) (nonce aad pt : List Octet) (tagLen : Nat) : List Octet :=
  let t := cbcMac ks (zeros 16) (chunks 16 (ccmB0 nonce aad.length tagLen pt.length ++ ccmHeader aad ++ padZ pt))
  (xorO t (encBlk ks (ccmCtr nonce 0))).take tagLen

/-- AES-CCM encryption: ciphertext and tag. -/
def ccmEnc (key nonce aad pt : List Octet) (tagLen : Nat) : List Octet × List Octet :=
  let ks := aesSchedule key
  ((ctrMode ks (15 - nonce.length) (ccmCtr nonce 1) (chunks 16 pt)).1, ccmTag ks nonce aad pt tagLen)

/-- AES-CCM decryption. -/
def ccmDec (key nonce aad ct tag : List Octet) : Option (List Octet) :=
  let ks := aesSchedule key
  let pt := (ctrMode ks (15 - nonce.length) (ccmCtr nonce 1) (chunks 16 ct)).1
  if ccmTag ks nonce aad pt tag.length = tag then some pt else none

/-! ### CMAC -/

/-- Doubling in GF(2^128) (SP 800-38B subkeys). -/
def cmacDbl (l : List Octet) : List Octet :=
  let v := beNat l
  beOctets 16 (if v.testBit 127 then ((v <<< 1) % 2 ^ 128) ^^^ 0x87 else v <<< 1)

/-- The last step of CMAC: the final block, complete or padded, from the chaining value of the earlier ones. -/
def cmacLast (ks : List (List Octet)) (v last : List Octet) : List Octet :=
  let k1 := cmacDbl (encBlk ks (zeros 16))
  if last.length = 16 then encBlk ks (xorO (xorO last k1) v)
  else encBlk ks (xorO (xorO (sliceOct (last ++ [0x80]) 0 16) (cmacDbl k1)) v)

/-- CMAC continued from a chaining value over the rest of a message. -/
def cmacFrom (ks : List (List Octet)) (v msg : List Octet) : List Octet :=
  let bs := chunks 16 msg
  cmacLast ks (cbcMac ks v bs.dropLast) (bs.getLastD [])

/-- AES-CMAC of a message. -/
def cmac (key msg : List Octet) : List Octet := cmacFrom (aesSchedule key) (zeros 16) msg

/-! ### Key wrap (SP 800-38F) -/

/-- One step of W: counter `t`, A and the semiblocks in order. -/
def kwStep (ks : List (List Octet)) (a : List Octet) (r : List (List Octet)) (t : Nat) : List Octet × List (List Octet) :=
  match r with
  | [] => (a, [])
  | x :: rest =>
    let b := encBlk ks (a ++ x)
    (xorO (b.take 8) (beOctets 8 t), rest ++ [b.drop 8])

/-- W over `n` steps from counter `t`. -/
def kwLoop (ks : List (List Octet)) : Nat → Nat → List Octet → List (List Octet) → List Octet × List (List Octet)
  | 0, _, a, r => (a, r)
  | n + 1, t, a, r => let (a', r') := kwStep ks a r t; kwLoop ks n (t + 1) a' r'

/-- One step of W⁻¹ with counter `t`. -/
def kwUnstep (ks : List (List Octet)) (a : List Octet) (r : List (List Octet)) (t : Nat) :
    List Octet × List (List Octet) :=
  match r.reverse with
  | [] => (a, [])
  | x :: rest =>
    let b := decBlk ks (xorO a (beOctets 8 t) ++ x)
    (b.take 8, b.drop 8 :: rest.reverse)

/-- W⁻¹ from counter `n` down to 1. -/
def kwUnloop (ks : List (List Octet)) : Nat → List Octet → List (List Octet) → List Octet × List (List Octet)
  | 0, a, r => (a, r)
  | n + 1, a, r => let (a', r') := kwUnstep ks a r (n + 1); kwUnloop ks n a' r'

/-- Wrap semiblocks with an initial value. -/
def kwWrapIv (key iv pt : List Octet) : List Octet :=
  let ks := aesSchedule key
  let r := chunks 8 pt
  let (a, r') := kwLoop ks (6 * r.length) 1 iv r
  a ++ r'.flatten

/-- Unwrap: the recovered initial value and plaintext. -/
def kwUnwrapIv (key ct : List Octet) : List Octet × List Octet :=
  let ks := aesSchedule key
  let r := chunks 8 (ct.drop 8)
  let (a, r') := kwUnloop ks (6 * r.length) (ct.take 8) r
  (a, r'.flatten)

/-- AES-KW. -/
def kwWrap (key pt : List Octet) : List Octet := kwWrapIv key (List.replicate 8 0xA6) pt

/-- AES-KW unwrap; `none` when the integrity value is wrong. -/
def kwUnwrap (key ct : List Octet) : Option (List Octet) :=
  let (a, p) := kwUnwrapIv key ct
  if a = List.replicate 8 0xA6 then some p else none

/-- The KWP initial value. -/
def kwpIv (n : Nat) : List Octet := [0xA6, 0x59, 0x59, 0xA6] ++ beOctets 4 n

/-- AES-KWP. -/
def kwpWrap (key pt : List Octet) : List Octet :=
  let p := pt ++ zeros ((8 - pt.length % 8) % 8)
  if p.length = 8 then aesEnc key (kwpIv pt.length ++ p) else kwWrapIv key (kwpIv pt.length) p

/-- AES-KWP unwrap; `none` when the integrity check fails. -/
def kwpUnwrap (key ct : List Octet) : Option (List Octet) :=
  let (a, p) := if ct.length = 16 then let b := decBlk (aesSchedule key) ct; (b.take 8, b.drop 8)
    else kwUnwrapIv key ct
  let n := beNat (a.drop 4)
  if a.take 4 = [0xA6, 0x59, 0x59, 0xA6] ∧ n ≤ p.length ∧ p.length < n + 8 ∧
      (p.drop n).all (fun o => o == 0) = true then some (p.take n) else none

/-! ### Key derivation (SP 800-108, counter mode, CMAC) -/

/-- Counter-mode blocks 1 to `n` of a pseudo-random function; 4-octet big-endian counter first. -/
def kdfBlocks (prf : List Octet → List Octet) (input : List Octet) (n : Nat) : List Octet :=
  ((List.range n).map (fun i => prf (beOctets 4 (i + 1) ++ input))).flatten

/-- The KDF with CMAC-AES over exactly the given input. -/
def kdfCmac (key input : List Octet) (octets : Nat) : List Octet :=
  (kdfBlocks (cmac key) input ((octets + 15) / 16)).take octets

end Sys2Proof.Machine
end

