-- ==== Sys2Proof/Machine/Hash.lean ====
section
/-! DEFINITION. SHA-2 (FIPS 180-4), SHA-3 and Keccak-f[1600] (FIPS 202), HMAC (FIPS 198-1) and the SP 800-108
counter-mode KDF with HMAC, over octet strings: the functions of Table 6-1 (R194), log entry 8. -/
namespace Sys2Proof.Machine

/-! ### CRC-32 -/

/-- One octet into the CRC-32 of IEEE 802.3, reflected (R116, R387). -/
def crc32Step (c : BitVec 32) (o : Octet) : BitVec 32 :=
  (List.range 8).foldl (fun c i => if c.getLsbD 0 != o.getLsbD i then (c >>> 1) ^^^ 0xEDB88320 else c >>> 1) c

/-- CRC-32 (R116, R387). PRESUMED, log entry 48. -/
def crc32 (l : List Octet) : BitVec 32 := ~~~(l.foldl crc32Step 0xFFFFFFFF)

/-! ### SHA-2 -/

/-- Rotation right over `w` bits. -/
def rotr (w n x : Nat) : Nat := ((x >>> n) ||| (x <<< (w - n))) % 2 ^ w

/-- The constants of one SHA-2 word size: width, rotation amounts and round constants. -/
structure Sha2 where
  /-- word width in bits -/
  w : Nat
  /-- Σ0 -/
  a : Nat × Nat × Nat
  /-- Σ1 -/
  b : Nat × Nat × Nat
  /-- σ0, the last a shift -/
  c : Nat × Nat × Nat
  /-- σ1, the last a shift -/
  d : Nat × Nat × Nat
  /-- round constants -/
  k : List Nat

def k256 : List Nat :=
  [0x428a2f98, 0x71374491, 0xb5c0fbcf, 0xe9b5dba5, 0x3956c25b, 0x59f111f1, 0x923f82a4, 0xab1c5ed5] ++
  [0xd807aa98, 0x12835b01, 0x243185be, 0x550c7dc3, 0x72be5d74, 0x80deb1fe, 0x9bdc06a7, 0xc19bf174] ++
  [0xe49b69c1, 0xefbe4786, 0x0fc19dc6, 0x240ca1cc, 0x2de92c6f, 0x4a7484aa, 0x5cb0a9dc, 0x76f988da] ++
  [0x983e5152, 0xa831c66d, 0xb00327c8, 0xbf597fc7, 0xc6e00bf3, 0xd5a79147, 0x06ca6351, 0x14292967] ++
  [0x27b70a85, 0x2e1b2138, 0x4d2c6dfc, 0x53380d13, 0x650a7354, 0x766a0abb, 0x81c2c92e, 0x92722c85] ++
  [0xa2bfe8a1, 0xa81a664b, 0xc24b8b70, 0xc76c51a3, 0xd192e819, 0xd6990624, 0xf40e3585, 0x106aa070] ++
  [0x19a4c116, 0x1e376c08, 0x2748774c, 0x34b0bcb5, 0x391c0cb3, 0x4ed8aa4a, 0x5b9cca4f, 0x682e6ff3] ++
  [0x748f82ee, 0x78a5636f, 0x84c87814, 0x8cc70208, 0x90befffa, 0xa4506ceb, 0xbef9a3f7, 0xc67178f2]

def k512 : List Nat :=
  [0x428a2f98d728ae22, 0x7137449123ef65cd, 0xb5c0fbcfec4d3b2f, 0xe9b5dba58189dbbc] ++
  [0x3956c25bf348b538, 0x59f111f1b605d019, 0x923f82a4af194f9b, 0xab1c5ed5da6d8118] ++
  [0xd807aa98a3030242, 0x12835b0145706fbe, 0x243185be4ee4b28c, 0x550c7dc3d5ffb4e2] ++
  [0x72be5d74f27b896f, 0x80deb1fe3b1696b1, 0x9bdc06a725c71235, 0xc19bf174cf692694] ++
  [0xe49b69c19ef14ad2, 0xefbe4786384f25e3, 0x0fc19dc68b8cd5b5, 0x240ca1cc77ac9c65] ++
  [0x2de92c6f592b0275, 0x4a7484aa6ea6e483, 0x5cb0a9dcbd41fbd4, 0x76f988da831153b5] ++
  [0x983e5152ee66dfab, 0xa831c66d2db43210, 0xb00327c898fb213f, 0xbf597fc7beef0ee4] ++
  [0xc6e00bf33da88fc2, 0xd5a79147930aa725, 0x06ca6351e003826f, 0x142929670a0e6e70] ++
  [0x27b70a8546d22ffc, 0x2e1b21385c26c926, 0x4d2c6dfc5ac42aed, 0x53380d139d95b3df] ++
  [0x650a73548baf63de, 0x766a0abb3c77b2a8, 0x81c2c92e47edaee6, 0x92722c851482353b] ++
  [0xa2bfe8a14cf10364, 0xa81a664bbc423001, 0xc24b8b70d0f89791, 0xc76c51a30654be30] ++
  [0xd192e819d6ef5218, 0xd69906245565a910, 0xf40e35855771202a, 0x106aa07032bbd1b8] ++
  [0x19a4c116b8d2d0c8, 0x1e376c085141ab53, 0x2748774cdf8eeb99, 0x34b0bcb5e19b48a8] ++
  [0x391c0cb3c5c95a63, 0x4ed8aa4ae3418acb, 0x5b9cca4f7763e373, 0x682e6ff3d6b2b8a3] ++
  [0x748f82ee5defb2fc, 0x78a5636f43172f60, 0x84c87814a1f0ab72, 0x8cc702081a6439ec] ++
  [0x90befffa23631e28, 0xa4506cebde82bde9, 0xbef9a3f7b2c67915, 0xc67178f2e372532b] ++
  [0xca273eceea26619c, 0xd186b8c721c0c207, 0xeada7dd6cde0eb1e, 0xf57d4f7fee6ed178] ++
  [0x06f067aa72176fba, 0x0a637dc5a2c898a6, 0x113f9804bef90dae, 0x1b710b35131c471b] ++
  [0x28db77f523047d84, 0x32caab7b40c72493, 0x3c9ebe0a15c9bebc, 0x431d67c49c100d4c] ++
  [0x4cc5d4becb3e42b6, 0x597f299cfc657e2a, 0x5fcb6fab3ad6faec, 0x6c44198c4a475817]

def h224 : List Nat :=
  [0xc1059ed8, 0x367cd507, 0x3070dd17, 0xf70e5939, 0xffc00b31, 0x68581511, 0x64f98fa7, 0xbefa4fa4]

def h256 : List Nat :=
  [0x6a09e667, 0xbb67ae85, 0x3c6ef372, 0xa54ff53a, 0x510e527f, 0x9b05688c, 0x1f83d9ab, 0x5be0cd19]

def h384 : List Nat :=
  [0xcbbb9d5dc1059ed8, 0x629a292a367cd507, 0x9159015a3070dd17, 0x152fecd8f70e5939] ++
  [0x67332667ffc00b31, 0x8eb44a8768581511, 0xdb0c2e0d64f98fa7, 0x47b5481dbefa4fa4]

def h512 : List Nat :=
  [0x6a09e667f3bcc908, 0xbb67ae8584caa73b, 0x3c6ef372fe94f82b, 0xa54ff53a5f1d36f1] ++
  [0x510e527fade682d1, 0x9b05688c2b3e6c1f, 0x1f83d9abfb41bd6b, 0x5be0cd19137e2179]

/-- The 32-bit family. -/
def sha32 : Sha2 := ⟨32, (2, 13, 22), (6, 11, 25), (7, 18, 3), (17, 19, 10), k256⟩
/-- The 64-bit family. -/
def sha64 : Sha2 := ⟨64, (28, 34, 39), (14, 18, 41), (1, 8, 7), (19, 61, 6), k512⟩

/-- Three rotations, XORed. -/
def rot3 (w : Nat) (r : Nat × Nat × Nat) (x : Nat) : Nat := rotr w r.1 x ^^^ rotr w r.2.1 x ^^^ rotr w r.2.2 x
/-- Two rotations and a shift, XORed. -/
def rot2s (w : Nat) (r : Nat × Nat × Nat) (x : Nat) : Nat := rotr w r.1 x ^^^ rotr w r.2.1 x ^^^ (x >>> r.2.2)

/-- The message schedule extended by `n` words, newest first. -/
def schedule (f : Sha2) : Nat → List Nat → List Nat
  | 0, acc => acc
  | n + 1, acc =>
    schedule f n ((rot2s f.w f.d (acc.getD 1 0) + acc.getD 6 0 + rot2s f.w f.c (acc.getD 14 0) + acc.getD 15 0)
      % 2 ^ f.w :: acc)

/-- One round on the working variables a to h. -/
def shaRound (f : Sha2) (v : List Nat) (kw : Nat × Nat) : List Nat :=
  match v with
  | [a, b, c, d, e, g, h, i] =>
    let t1 := i + rot3 f.w f.b e + ((e &&& g) ^^^ ((2 ^ f.w - 1 - e) &&& h)) + kw.1 + kw.2
    let t2 := rot3 f.w f.a a + ((a &&& b) ^^^ (a &&& c) ^^^ (b &&& c))
    [(t1 + t2) % 2 ^ f.w, a, b, c, (d + t1) % 2 ^ f.w, e, g, h]
  | l => l

/-- The compression function on one block. -/
def compress (f : Sha2) (hv : List Nat) (blk : List Octet) : List Nat :=
  let n := f.w / 8
  let m := (List.range 16).map (fun i => beNat (sliceOct blk (i * n) n))
  let ws := (schedule f (f.k.length - 16) m.reverse).reverse
  let v := (List.zip f.k ws).foldl (shaRound f) hv
  List.zipWith (fun a b => (a + b) % 2 ^ f.w) hv v

/-- Absorb whole blocks. -/
def shaAbsorb (f : Sha2) (hv : List Nat) (l : List Octet) : List Nat := (chunks (2 * f.w) l).foldl (compress f) hv

/-- Padding after `total` octets of message. -/
def shaPad (f : Sha2) (total : Nat) : List Octet :=
  let blk := 2 * f.w
  let lenO := f.w / 4
  0x80 :: (zeros ((2 * blk - 1 - lenO - total % blk) % blk) ++ beOctets lenO (8 * total))

/-- The chaining value as octets. -/
def shaOut (f : Sha2) (hv : List Nat) : List Octet := (hv.map (beOctets (f.w / 8))).flatten

/-! ### Keccak -/

def keccakRC : List Nat :=
  [0x0000000000000001, 0x0000000000008082, 0x800000000000808a, 0x8000000080008000] ++
  [0x000000000000808b, 0x0000000080000001, 0x8000000080008081, 0x8000000000008009] ++
  [0x000000000000008a, 0x0000000000000088, 0x0000000080008009, 0x000000008000000a] ++
  [0x000000008000808b, 0x800000000000008b, 0x8000000000008089, 0x8000000000008003] ++
  [0x8000000000008002, 0x8000000000000080, 0x000000000000800a, 0x800000008000000a] ++
  [0x8000000080008081, 0x8000000000008080, 0x0000000080000001, 0x8000000080008008]

def keccakRot : List Nat := [0, 1, 62, 28, 27, 36, 44, 6, 55, 20, 3, 10, 43, 25, 39, 41, 45, 15, 21, 8, 18, 2, 61, 56, 14]

/-- Rotation left of a 64-bit lane. -/
def rotl64 (n x : Nat) : Nat := ((x <<< n) ||| (x >>> (64 - n))) % 2 ^ 64

/-- One round of Keccak-f[1600] on 25 lanes, lane x + 5y. -/
def keccakRound (a : List Nat) (rc : Nat) : List Nat :=
  let c := (List.range 5).map (fun x => a.getD x 0 ^^^ a.getD (x + 5) 0 ^^^ a.getD (x + 10) 0 ^^^ a.getD (x + 15) 0 ^^^
    a.getD (x + 20) 0)
  let d := (List.range 5).map (fun x => c.getD ((x + 4) % 5) 0 ^^^ rotl64 1 (c.getD ((x + 1) % 5) 0))
  let t := (List.range 25).map (fun i => rotl64 (keccakRot.getD i 0) (a.getD i 0 ^^^ d.getD (i % 5) 0))
  let b := (List.range 25).map (fun i => t.getD ((i % 5 + 3 * (i / 5)) % 5 + 5 * (i % 5)) 0)
  let e := (List.range 25).map (fun i =>
    b.getD i 0 ^^^ ((2 ^ 64 - 1 - b.getD ((i % 5 + 1) % 5 + 5 * (i / 5)) 0) &&& b.getD ((i % 5 + 2) % 5 + 5 * (i / 5)) 0))
  match e with
  | x :: r => (x ^^^ rc) :: r
  | [] => []

/-- Keccak-f[1600] on lanes. -/
def keccakF (a : List Nat) : List Nat := keccakRC.foldl keccakRound a

/-- A 200-octet state string as lanes and back (FIPS 202). -/
def lanesOf (l : List Octet) : List Nat := (List.range 25).map (fun i => leNat (sliceOct l (8 * i) 8))
def lanesOut (a : List Nat) : List Octet := (a.map (leOctets 8)).flatten

/-- Absorb whole rate blocks into a 200-octet state. -/
def keccakAbsorb (rate : Nat) (st : List Octet) (l : List Octet) : List Octet :=
  (chunks rate l).foldl (fun s b => lanesOut (keccakF (lanesOf (xorO s (sliceOct b 0 200))))) st

/-- pad10*1 after the domain bits, for `total` octets of message. -/
def keccakPad (rate : Nat) (dom : Octet) (total : Nat) : List Octet :=
  let n := rate - total % rate
  if n = 1 then [dom ^^^ 0x80] else dom :: (zeros (n - 2) ++ [0x80])

/-- Squeeze `n` octets with at most `fuel` permutations. -/
def keccakSqueeze (rate : Nat) : Nat → List Octet → Nat → List Octet
  | 0, _, _ => []
  | f + 1, st, n =>
    if n ≤ rate then st.take n
    else st.take rate ++ keccakSqueeze rate f (lanesOut (keccakF (lanesOf st))) (n - rate)

/-! ### The functions of Table 6-1 -/

/-- Block size in octets (Table 6-1). -/
def algBlock (alg : Nat) : Nat := [64, 64, 128, 128, 144, 136, 104, 72, 168, 136, 200].getD alg 200

/-- Output size in octets; 0 where OUTLEN gives it (Table 6-1). -/
def algOut (alg : Nat) : Nat := [28, 32, 48, 64, 28, 32, 48, 64, 0, 0, 200].getD alg 0

/-- Rounds, and so cycles, per block (Table 6-1). -/
def algCycles (alg : Nat) : Nat := [64, 64, 80, 80].getD alg 24

/-- The chaining state before any input: 200 octets as STATE of Table 6-4 holds them. -/
def algInit (alg : Nat) : List Octet :=
  match alg with
  | 0 => sliceOct (shaOut sha32 h224) 0 200
  | 1 => sliceOct (shaOut sha32 h256) 0 200
  | 2 => sliceOct (shaOut sha64 h384) 0 200
  | 3 => sliceOct (shaOut sha64 h512) 0 200
  | _ => zeros 200

/-- The SHA-2 words of a state. -/
def shaWords (f : Sha2) (st : List Octet) : List Nat := (List.range 8).map (fun i => beNat (sliceOct st (i * (f.w / 8)) (f.w / 8)))

/-- Absorb whole blocks into a state. -/
def algAbsorb (alg : Nat) (st l : List Octet) : List Octet :=
  if alg < 2 then sliceOct (shaOut sha32 (shaAbsorb sha32 (shaWords sha32 st) l)) 0 200
  else if alg < 4 then sliceOct (shaOut sha64 (shaAbsorb sha64 (shaWords sha64 st) l)) 0 200
  else keccakAbsorb (algBlock alg) st l

/-- Absorb the rest of a message of `total` octets in all, pad, and produce `out` octets. -/
def algFinal (alg : Nat) (st l : List Octet) (total out : Nat) : List Octet :=
  if alg < 2 then (algAbsorb alg st (l ++ shaPad sha32 total)).take out
  else if alg < 4 then (algAbsorb alg st (l ++ shaPad sha64 total)).take out
  else
    let dom : Octet := if alg < 8 then 0x06 else 0x1F
    let st' := algAbsorb alg st (l ++ keccakPad (algBlock alg) dom total)
    keccakSqueeze (algBlock alg) (out / algBlock alg + 1) st' out

/-- A whole digest. -/
def digest (alg : Nat) (l : List Octet) (out : Nat) : List Octet := algFinal alg (algInit alg) l l.length out

/-- SHA-256. PRESUMED, log entry 8. -/
def sha256 (l : List Octet) : List Octet := digest 1 l 32
/-- SHA3-256. PRESUMED, log entry 8. -/
def sha3_256 (l : List Octet) : List Octet := digest 5 l 32

/-- The HMAC key block: a key longer than a block is hashed first. -/
def hmacKey (alg : Nat) (key : List Octet) (x : Octet) : List Octet :=
  let k := if algBlock alg < key.length then digest alg key (algOut alg) else key
  (sliceOct k 0 (algBlock alg)).map (· ^^^ x)

/-- HMAC (FIPS 198-1) with a function of Table 6-1. PRESUMED, log entry 8. -/
def hmac (alg : Nat) (key msg : List Octet) : List Octet :=
  digest alg (hmacKey alg key 0x5C ++ digest alg (hmacKey alg key 0x36 ++ msg) (algOut alg)) (algOut alg)

/-- The SP 800-108 counter-mode KDF with HMAC over exactly the given input. -/
def kdfHmac (alg : Nat) (key input : List Octet) (octets : Nat) : List Octet :=
  (kdfBlocks (hmac alg key) input ((octets + algOut alg - 1) / algOut alg)).take octets

/-- ASCII octets of a label. -/
def ascii (s : String) : List Octet := s.toList.map (fun c => BitVec.ofNat 8 c.toNat)

end Sys2Proof.Machine
end

