-- ==== Sys2Proof/Machine/Bignat.lean ====
section
/-! DEFINITION. Modular arithmetic on natural numbers, the curves P-256 and P-384 (SP 800-186), ECDSA (FIPS 186-5), ECDH
and the RSA private operation by CRT: what the bignum commands and composite opcodes compute (log entry 8). -/
namespace Sys2Proof.Machine

/-- Square and multiply over `n` bits of the exponent, most significant first. -/
def powBits (m b e : Nat) : Nat → Nat → Nat
  | 0, acc => acc
  | n + 1, acc => powBits m b e n (if e.testBit n then acc * acc % m * b % m else acc * acc % m)

/-- b^e mod m. PRESUMED, log entry 8. -/
def powMod (b e m : Nat) : Nat := powBits m (b % m) e (e.log2 + 1) (1 % m)

/-- Extended Euclid with fuel: g and x with a·x ≡ g modulo the first b. -/
def egcd : Nat → Int → Int → Int → Int → Int × Int
  | 0, r0, _, s0, _ => (r0, s0)
  | n + 1, r0, r1, s0, s1 => if r1 = 0 then (r0, s0) else egcd n r1 (r0 - (r0 / r1) * r1) s1 (s0 - (r0 / r1) * s1)

/-- The inverse of a modulo m, where it exists. -/
def invMod (a m : Nat) : Option Nat :=
  let (g, x) := egcd (2 * (m.log2 + 2)) (a % m : Nat) (m : Nat) 1 0
  if g = 1 then some (x % (m : Int)).toNat else none

/-- The inverse, 0 where there is none. -/
def inv0 (a m : Nat) : Nat := (invMod a m).getD 0

/-- (a − b) mod m for reduced operands. -/
def subMod (a b m : Nat) : Nat := (a + (m - b % m)) % m

/-- A short Weierstrass curve y² = x³ + ax + b over GF(p), a base point and its order. -/
structure Curve where
  /-- the field prime -/
  p : Nat
  /-- a -/
  a : Nat
  /-- b -/
  b : Nat
  /-- the order -/
  n : Nat
  /-- base point x -/
  gx : Nat
  /-- base point y -/
  gy : Nat
  /-- octets of a coordinate -/
  len : Nat

/-- P-256. -/
def p256 : Curve where
  p := 0xffffffff00000001000000000000000000000000ffffffffffffffffffffffff
  a := 0xffffffff00000001000000000000000000000000fffffffffffffffffffffffc
  b := 0x5ac635d8aa3a93e7b3ebbd55769886bc651d06b0cc53b0f63bce3c3e27d2604b
  n := 0xffffffff00000000ffffffffffffffffbce6faada7179e84f3b9cac2fc632551
  gx := 0x6b17d1f2e12c4247f8bce6e563a440f277037d812deb33a0f4a13945d898c296
  gy := 0x4fe342e2fe1a7f9b8ee7eb4a7c0f9e162bce33576b315ececbb6406837bf51f5
  len := 32

/-- P-384. -/
def p384 : Curve where
  p := 0xfffffffffffffffffffffffffffffffffffffffffffffffffffffffffffffffeffffffff0000000000000000ffffffff
  a := 0xfffffffffffffffffffffffffffffffffffffffffffffffffffffffffffffffeffffffff0000000000000000fffffffc
  b := 0xb3312fa7e23ee7e4988e056be3f82d19181d9c6efe8141120314088f5013875ac656398d8a2ed19d2a85c8edd3ec2aef
  n := 0xffffffffffffffffffffffffffffffffffffffffffffffffc7634d81f4372ddf581a0db248b0a77aecec196accc52973
  gx := 0xaa87ca22be8b05378eb1c71ef320ad746e1d3b628ba79b9859f741e082542a385502f25dbf55296c3a545e3872760ab7
  gy := 0x3617de4a96262c6f5d9e98bf9292dc29f8f41dbd289a147ce9da3113b5f0b8c00a60b1ce1d7e819d7a431d7c90ea0e5f
  len := 48

/-- A point: `none` is the point at infinity. -/
abbrev Point := Option (Nat × Nat)

/-- The point lies on the curve. -/
def Curve.on (c : Curve) (x y : Nat) : Bool :=
  decide (x < c.p) && decide (y < c.p) && decide (y * y % c.p = (x * x * x + c.a * x + c.b) % c.p)

/-- The line through or tangent at points with slope l. -/
def Curve.line (c : Curve) (l x1 y1 x2 : Nat) : Point :=
  let x3 := subMod (subMod (l * l % c.p) x1 c.p) x2 c.p
  some (x3, subMod (l * subMod x1 x3 c.p % c.p) y1 c.p)

/-- Point addition. -/
def Curve.add (c : Curve) : Point → Point → Point
  | none, q => q
  | p, none => p
  | some (x1, y1), some (x2, y2) =>
    if x1 = x2 then
      if (y1 + y2) % c.p = 0 then none
      else c.line ((3 * x1 * x1 + c.a) * inv0 (2 * y1) c.p % c.p) x1 y1 x2
    else c.line (subMod y2 y1 c.p * inv0 (subMod x2 x1 c.p) c.p % c.p) x1 y1 x2

/-- Double and add over `n` bits of the scalar. -/
def Curve.mulBits (c : Curve) (k : Nat) (q : Point) : Nat → Point → Point
  | 0, acc => acc
  | n + 1, acc =>
    let d := c.add acc acc
    c.mulBits k q n (if k.testBit n then c.add d q else d)

/-- k·Q. -/
def Curve.mul (c : Curve) (k : Nat) (q : Point) : Point := c.mulBits k q (k.log2 + 1) none

/-- The base point. -/
def Curve.g (c : Curve) : Point := some (c.gx, c.gy)

/-- The x coordinate, 0 at infinity. -/
def xOf : Point → Nat
  | some (x, _) => x
  | none => 0

/-- The number of a digest: its leftmost bits up to the order's length. -/
def Curve.digestNat (c : Curve) (e : List Octet) : Nat := beNat (e.take c.len)

/-- ECDSA verification. -/
def Curve.verify (c : Curve) (qx qy : Nat) (e : List Octet) (r s : Nat) : Bool :=
  if r = 0 ∨ c.n ≤ r ∨ s = 0 ∨ c.n ≤ s then false
  else
    let w := inv0 s c.n
    match c.add (c.mul (c.digestNat e * w % c.n) c.g) (c.mul (r * w % c.n) (some (qx, qy))) with
    | some (x, _) => decide (x % c.n = r)
    | none => false

/-- ECDSA signature with private scalar d and nonce k. -/
def Curve.signWith (c : Curve) (d k : Nat) (e : List Octet) : Nat × Nat :=
  let r := xOf (c.mul k c.g) % c.n
  (r, inv0 k c.n * (c.digestNat e + r * d) % c.n)

/-- An uncompressed public key of 2·len + 1 octets: a point on the curve, or `none`. -/
def Curve.parse (c : Curve) (l : List Octet) : Option (Nat × Nat) :=
  let x := beNat ((l.drop 1).take c.len)
  let y := beNat ((l.drop (1 + c.len)).take c.len)
  if l.length = 2 * c.len + 1 ∧ l.headD 0 = 4 ∧ c.on x y = true then some (x, y) else none

/-- The RSA private operation by CRT (N, p, q, dp, dq, qinv). -/
def rsaCrt (p q dp dq qinv x : Nat) : Nat :=
  let m1 := powMod x dp p
  let m2 := powMod x dq q
  m2 + q * (qinv * subMod m1 m2 p % p)

end Sys2Proof.Machine
end

