-- ==== Sys2Proof/Machine/OpTable.lean ====
section
/-! DEFINITION. The opcodes of the work queues (Table 2-3 and each group's table): which are known, which cells follow
the header, which of them are data descriptors, which opcodes return results; and the job statuses of Table 2-7. -/
namespace Sys2Proof.Machine

/-! Job statuses (Table 2-7, R78). -/
abbrev S.ok : Nat := 0o000
abbrev S.okTruncated : Nat := 0o001
abbrev S.short : Nat := 0o002
abbrev S.notReady : Nat := 0o003
abbrev S.notResident : Nat := 0o004
abbrev S.staleHandle : Nat := 0o005
abbrev S.denied : Nat := 0o006
abbrev S.invalidOperand : Nat := 0o007
abbrev S.authFail : Nat := 0o010
abbrev S.aborted : Nat := 0o011
abbrev S.deviceFault : Nat := 0o012
abbrev S.forwardFail : Nat := 0o013
abbrev S.indeterminate : Nat := 0o014
abbrev S.ambiguous : Nat := 0o015
abbrev S.windowMissed : Nat := 0o016
abbrev S.removed : Nat := 0o017
abbrev S.cardStatus : Nat := 0o020
abbrev S.protocolError : Nat := 0o021
abbrev S.unsupported : Nat := 0o022
abbrev S.sessionExhausted : Nat := 0o023
abbrev S.policyRefused : Nat := 0o024

/-- The statuses with which a job's session change is committed (R76). -/
def statusGood (st : Nat) : Bool := st == S.ok || st == S.okTruncated

/-- The type of unit that runs an opcode (R96, R97). -/
inductive UType where
  | none | cipher | digest | bignum | core | contact | field
  deriving DecidableEq, Repr

/-- The opcodes a GB2 queue knows, as the group chapters list them (R95, R162, R193, R215, R239): no chapter lists NOP.
DEDUCED, log entry 26. -/
def gbKnown (op : Nat) : Bool :=
  [0o024, 0o025, 0o030, 0o040, 0o041, 0o042, 0o043, 0o044, 0o051, 0o060, 0o141, 0o162, 0o200].contains op

/-- The opcodes a native queue knows (R63 and the group chapters). -/
def nativeKnown (op : Nat) : Bool :=
  op == 0 || [0o001, 0o002, 0o003, 0o010, 0o011, 0o012, 0o013, 0o014, 0o015, 0o020, 0o021, 0o022, 0o023, 0o024, 0o025,
    0o030].contains op || (0o040 ≤ op && op ≤ 0o056) || op == 0o060 || op == 0o061 || (0o140 ≤ op && op ≤ 0o151) ||
    op == 0o160 || op == 0o161 || (0o200 ≤ op && op ≤ 0o205) || (0o300 ≤ op && op ≤ 0o310) ||
    [0o340, 0o341, 0o342, 0o350, 0o351, 0o352].contains op || (0o400 ≤ op && op ≤ 0o403) ||
    (0o440 ≤ op && op ≤ 0o442) || (0o500 ≤ op && op ≤ 0o504)

/-- The unit type of an opcode: HMAC_GEN and HMAC_VER are composite jobs (R211); custody and item ledger opcodes other
than LINE_ITEM need no unit. -/
def unitType (op inner : Nat) : UType :=
  if 0o040 ≤ op ∧ op < 0o140 then .cipher
  else if op = 0o160 ∨ op = 0o161 then .core
  else if 0o140 ≤ op ∧ op < 0o200 then .digest
  else if 0o200 ≤ op ∧ op < 0o300 then .bignum
  else if 0o300 ≤ op ∧ op < 0o400 then .core
  else if 0o400 ≤ op ∧ op < 0o440 then .contact
  else if 0o440 ≤ op ∧ op < 0o500 then .field
  else if op = 0o500 then (if inner < 0o440 then .contact else .field)
  else .none

/-- The opcodes to which MORE, CONT and PARKOUT of OPARG apply (Tables 5-2 and 6-2). -/
def hasChain (op : Nat) : Bool := (0o040 ≤ op && op ≤ 0o056) || (0o140 ≤ op && op ≤ 0o151) || op == 0o160 || op == 0o161

/-- Operand cells after the header of an opcode, a LINE_ITEM's inner cells apart. -/
def baseCells (op : Nat) (oparg : BitVec 32) : Nat :=
  match op with
  | 0o001 => 2 | 0o003 => 2 | 0o010 => 1 | 0o011 => 4 | 0o012 => 3 | 0o013 => 2 | 0o014 => 1 | 0o015 => 1
  | 0o020 => 1 | 0o021 => 4 | 0o022 => 1 | 0o023 => 2 | 0o030 => 1
  | 0o040 => 3 | 0o041 => 3 | 0o042 => 4 | 0o043 => 4 | 0o044 => 4
  | 0o045 => 5 | 0o046 => 6 | 0o047 => 5 | 0o050 => 6 | 0o051 => 2 | 0o052 => 3
  | 0o053 => 3 | 0o054 => 3 | 0o055 => 3 | 0o056 => 3 | 0o060 => 2 | 0o061 => 3
  | 0o160 => 2 | 0o161 => 6
  | 0o200 => 4 | 0o201 => 4 | 0o202 => 4 | 0o203 => 4 | 0o204 => 3 | 0o205 => 5
  | 0o300 => 4 | 0o301 => 2 | 0o302 => 1 | 0o303 => 1 | 0o304 => 2 | 0o305 => 3 | 0o306 => 3 | 0o307 => 2 | 0o310 => 2
  | 0o340 => 3 | 0o341 => 2 | 0o342 => 3 | 0o350 => 3 | 0o351 => 4 | 0o352 => 3
  | 0o401 => 2 | 0o440 => (if tb oparg 9 then 1 else 0) | 0o441 => 2
  | 0o501 => 2 | 0o502 => 1 | 0o503 => 1 | 0o504 => 1
  | _ => if 0o140 ≤ op ∧ op ≤ 0o151 then (if tb oparg 5 || tb oparg 4 then 2 else 1) else 0

/-- Descriptor cells of an opcode's operands, a LINE_ITEM's inner cells apart. -/
def baseDescs (op : Nat) (oparg : BitVec 32) : List Nat :=
  match op with
  | 0o010 => [1] | 0o011 => [1] | 0o023 => [2] | 0o030 => [1]
  | 0o040 => [2, 3] | 0o041 => [2, 3] | 0o042 => [3, 4] | 0o043 => [3, 4] | 0o044 => [3, 4]
  | 0o045 => [3, 4, 5] | 0o046 => [3, 4, 5] | 0o047 => [3, 4, 5] | 0o050 => [3, 4, 5] | 0o051 => [2] | 0o052 => [2]
  | 0o053 => [2, 3] | 0o054 => [2, 3] | 0o055 => [2, 3] | 0o056 => [2, 3]
  | 0o160 => [2] | 0o161 => [2]
  | 0o200 => [1, 2, 3, 4] | 0o201 => [1, 2, 3, 4] | 0o202 => [1, 2, 3, 4] | 0o203 => [1, 2, 3, 4]
  | 0o204 => [1, 2, 3] | 0o205 => [1, 2, 3, 4, 5]
  | 0o300 => [2, 3, 4] | 0o301 => [2] | 0o302 => [1] | 0o303 => [1] | 0o304 => [2] | 0o305 => [2] | 0o307 => [2]
  | 0o340 => [2, 3] | 0o341 => [1, 2] | 0o342 => [2, 3] | 0o350 => [2, 3] | 0o351 => [2, 3, 4] | 0o352 => [1, 2, 3]
  | 0o401 => [1, 2] | 0o441 => [1, 2]
  | _ => if 0o140 ≤ op ∧ op ≤ 0o151 then (if tb oparg 5 || tb oparg 4 then [1, 2] else [1]) else []

/-- An inner opcode that LINE_ITEM may carry (R428). -/
def innerKnown (op : Nat) : Bool := (0o400 ≤ op && op ≤ 0o403) || (0o440 ≤ op && op ≤ 0o442)

/-- Operand cells of an entry: the opcode's own, a park descriptor where PARKOUT asks for one (R187, R204), and for
LINE_ITEM cell 1 and the inner cells (R552). A GB2 entry has one descriptor cell (R95). -/
def operandCells (gb : Bool) (op : Nat) (oparg : BitVec 32) : Nat :=
  if gb then 1
  else if op = 0o500 then
    let inner := bits oparg 8 0
    if innerKnown inner then 1 + (if inner = 0o440 then 0 else baseCells inner 0) else 1
  else baseCells op oparg + (if hasChain op && tb oparg 7 then 1 else 0)

/-- Descriptor cells of an entry. -/
def descCells (gb : Bool) (op : Nat) (oparg : BitVec 32) : List Nat :=
  if gb then (if op = 0 ∨ op = 0o024 ∨ op = 0o025 then [] else [1])
  else if op = 0o500 then (baseDescs (bits oparg 8 0) 0).map (· + 1)
  else baseDescs op oparg ++ (if hasChain op && tb oparg 7 then [baseCells op oparg + 1] else [])

/-- Descriptor cells that name data the job reads; the others name output buffers. -/
def inputCells (gb : Bool) (op : Nat) (oparg : BitVec 32) : List Nat :=
  if gb then (if op = 0o030 then [] else descCells gb op oparg)
  else match op with
    | 0o010 => [1] | 0o023 => [2]
    | 0o040 => [2] | 0o041 => [2] | 0o042 => [3] | 0o043 => [3] | 0o044 => [3]
    | 0o045 => [3, 4] | 0o046 => [3, 4] | 0o047 => [3, 4] | 0o050 => [3, 4] | 0o051 => [2] | 0o052 => [2]
    | 0o053 => [2] | 0o054 => [2] | 0o055 => [2] | 0o056 => [2]
    | 0o160 => [2] | 0o161 => [2]
    | 0o200 => [1, 2, 3] | 0o201 => [1, 2, 3] | 0o202 => [1, 2, 3] | 0o203 => [1, 2, 3]
    | 0o204 => [1, 2] | 0o205 => [1, 2, 3, 4, 5]
    | 0o300 => [2, 3] | 0o301 => [2] | 0o302 => [1] | 0o303 => [1] | 0o304 => [2] | 0o305 => [2] | 0o307 => [2]
    | 0o341 => [1] | 0o342 => [2, 3] | 0o351 => [2, 3] | 0o352 => [1, 2, 3]
    | 0o401 => [1] | 0o441 => [1]
    | 0o500 => if bits oparg 8 0 = 0o401 ∨ bits oparg 8 0 = 0o441 then [2] else []
    | _ => if 0o140 ≤ op ∧ op ≤ 0o151 then (if tb oparg 4 then [1, 2] else [1]) else []

/-- The cells of an entry that must be sound data descriptors (Table 2-4 RESERVED): cell 1 of every GB2 entry is one
(R95), whether its opcode uses it or not. -/
def checkedCells (gb : Bool) (op : Nat) (oparg : BitVec 32) : List Nat := if gb then [1] else descCells gb op oparg

/-- Result cells that must follow RESOFF in a cipher entry (R173): AKA_MILENAGE returns 54 octets, the others at most 16. -/
def resultNeed (op : Nat) : Nat := if op = 0o060 then 4 else 1

/-- Whether an opcode returns result cells (RESOFF must then be non-zero, Table 2-4). -/
def hasResult (op : Nat) (oparg : BitVec 32) : Bool :=
  match op with
  | 0o500 => [0o400, 0o401, 0o403, 0o440, 0o441].contains (bits oparg 8 0)
  | _ => [0o010, 0o011, 0o012, 0o013, 0o020, 0o021, 0o022, 0o023, 0o025, 0o045, 0o047, 0o051, 0o060, 0o061, 0o160,
      0o301, 0o304, 0o305, 0o306, 0o307, 0o310, 0o341, 0o342, 0o400, 0o401, 0o403, 0o440, 0o441, 0o504].contains op ||
      (decide (0o140 ≤ op) && decide (op ≤ 0o151) && !tb oparg 5)

end Sys2Proof.Machine
end

