-- ==== Sys2Proof/Machine/Gates.lean ====
section
/-! DEFINITION. Lagg gates (R316 to R328): what an address is, the colour of what it touches, rules, the default map,
fixed refusals, and the record of a refusal at a memory gate. -/
namespace Sys2Proof.Machine

/-- What a request carries (R317). -/
structure Who where
  /-- the requester -/
  req : Requester
  /-- the colour key -/
  key : BitVec 16
  /-- supervisor privilege -/
  sup : Bool
  /-- bank B -/
  bankB : Bool
  /-- made by a unit command on behalf of the core -/
  unit : Bool
  deriving DecidableEq, Repr

/-- An access type (R317). -/
inductive AType where
  | r | w | x
  deriving DecidableEq, Repr

abbrev RSN.noMatch : Nat := 1
abbrev RSN.rights : Nat := 2
abbrev RSN.dflt : Nat := 3
abbrev RSN.fixed : Nat := 4
abbrev RSN.sealed : Nat := 5
abbrev RSN.lifecycle : Nat := 6

/-- What Table 1-15 assigns an address to. -/
inductive Place where
  /-- word of a cluster's SRAM -/
  | sram (n off : Nat)
  /-- word of credential memory -/
  | cred (i : Nat)
  /-- word of the session contexts -/
  | ctx (i : Nat)
  /-- register slot -/
  | page (p w : Nat)
  /-- word of the flash read window -/
  | flash (i : Nat)
  | unassigned
  deriving DecidableEq, Repr

/-- The assignment of an address (R53); the alias means the SRAM of the cluster given, if one is. -/
def placeOf (alias_ : Option Nat) (a : Nat) : Place :=
  if a < 0o000200000000 then
    (if a % 0o10000000 < sramWords then .sram (a / 0o10000000) (a % 0o10000000) else .unassigned)
  else if a < 0o000400000000 then .cred (a - 0o000200000000)
  else if a < 0o000404000000 then .ctx (a - 0o000400000000)
  else if a < 0o001000000000 then .unassigned
  else if a < 0o001020000000 then .page ((a - 0o001000000000) / 1024) (a % 1024)
  else if a < 0o002000000000 then .unassigned
  else if a < 0o002200000000 then .flash (a - 0o002000000000)
  else if a < 0o004000000000 then .unassigned
  else if a < 0o004010000000 then
    match alias_ with
    | some n => if a - 0o004000000000 < sramWords then .sram n (a - 0o004000000000) else .unassigned
    | none => .unassigned
  else .unassigned

/-- The cluster whose alias a requester sees. -/
def Who.cluster (r : Who) : Option Nat := match r.req with | .core c => some (c / 4) | _ => none

/-- The bit of a rule word that grants a type for a privilege (Table 11-4). -/
def rightBit (t : AType) (sup : Bool) : Nat := (match t with | .r => 2 | .w => 1 | .x => 0) + (if sup then 0 else 3)

/-- The first rule of a bank that matches (R321). -/
def matchRule (rules : List Word) (key : BitVec 16) (colour : Nat) : Option Word :=
  rules.find? (fun r => tb r 17 && bits r 12 9 == colour && tb key colour)

/-- The rules of a bank of a cluster gate. -/
def State.cRules (s : State) (n : Nat) (bankB : Bool) : List Word :=
  (List.range 16).map (fun i =>
    let w := (if bankB then 0o60 else 0o40) + i
    if s.isBad (P.cgate n * 1024 + w) then 0 else s.reg (P.cgate n) w)

/-- The rules of a bank of a GATE group. -/
def State.gRules (s : State) (g : Nat) (bankB : Bool) : List Word :=
  (List.range 16).map (fun i =>
    let k := 32 * g + (if bankB then 16 else 0) + i
    if s.isBad (ruleKey k) then 0 else Map.get (dflt 0) s.gates.rules k)

/-- The colour a granule resets to (R327). -/
def gcolReset (k : Nat) : Nat := if 1212 ≤ k % 2048 then 15 else 0

/-- A granule's colour. -/
def State.gcol (s : State) (n g : Nat) : Nat := if 1212 ≤ g then 15 else Map.get gcolReset s.gates.gcol (2048 * n + g)

/-- The debug lifecycle state (Table 11-7). -/
def State.life (s : State) : Nat := s.rfld P.dbg 0o20 1 0

/-- The default map of Table 11-5 for a supervisor. -/
def State.defaultRight (s : State) (r : Who) (pl : Place) (t : AType) : Bool :=
  match r.req with
  | .core c =>
    (match pl with
      | .sram n off => decide (off / 1024 < 1212) && (decide (n = c / 4) || (decide (n / 4 = c / 16) && t != .x))
      | .page _ _ => t != .x
      | .flash _ => t == .r
      | _ => false)
  | .debug =>
    decide (s.life = 0) && (match pl with
      | .sram _ off => decide (off / 1024 < 1212) && t != .x
      | .page _ _ => t != .x
      | .flash _ => t == .r
      | _ => false)
  | .host => (match pl with | .page _ _ => t != .x | _ => false)

/-- The rules and the default map for a target of a colour (R321, R322): the reason of a refusal. -/
def State.ruleCheck (s : State) (r : Who) (pl : Place) (rules : List Word) (colour : Nat) (t : AType) : Option Nat :=
  match matchRule rules r.key colour with
  | some rule => if tb rule (rightBit t r.sup) then none else some RSN.rights
  | none =>
    if !r.sup then some RSN.noMatch
    else if s.defaultRight r pl t then none else some RSN.dflt

/-- The journal sectors' words are refused to every requester (R323); a sector is 32,768 words (R463). -/
def State.flashFixed (s : State) (i : Nat) : Bool :=
  let sec := i / 32768
  let base := s.rfld P.peat R.PEAT_STORE_BASE 9 0
  let n := s.rfld P.peat R.PEAT_STORE_COUNT 6 0
  decide (base ≤ sec) && decide (sec < base + (if 2 ≤ n ∧ n ≤ 64 then n else 2))

/-- The colour of what an address touches (Table 11-1). -/
def State.colourAt (s : State) (pl : Place) : Nat :=
  match pl with
  | .sram n off => s.gcol n (off / 1024)
  | .cred i => bits (s.word (0o000200000000 + i / 8 * 8 + 7)) 9 6
  | .ctx i => bits (s.word (0o000400000000 + i / 64 * 64)) 3 0
  | .page p _ => s.rfld p R.PG_COLOUR 3 0
  | .flash i => if s.isBad (P.gate * 1024 + 0o23) then 15 else bits (s.reg P.gate 0o23) (4 * (i / 8388608) + 3) (4 * (i / 8388608))
  | .unassigned => 0

/-- The refusals of R323 and R430. -/
def State.fixedRefusal (s : State) (r : Who) (pl : Place) (t : AType) : Bool :=
  match pl with
  | .sram n off => decide (1212 ≤ off / 1024) || s.isBad (granKey n (off / 1024))
  | .cred i => t == .w || decide (i % 8 ≠ 7)
  | .ctx _ => t == .w
  | .page p _ => t == .w && !r.sup && (match blockOf p with
      | some (.gate, _) | some (.cgate, _) | some (.dbg, _) | some (.tamp0, _) | some (.tamp1, _) | some (.moss, _)
      | some (.wisp, _) => true
      | _ => false)
  | .flash i => t == .w || s.flashFixed i
  | .unassigned => false

/-- The rules in force at a target. -/
def State.rulesAt (s : State) (r : Who) (pl : Place) : List Word :=
  match pl with
  | .sram n _ => s.cRules n r.bankB
  | .cred _ => s.gRules 0 r.bankB
  | .ctx _ => s.gRules 1 r.bankB
  | .page _ _ => s.gRules 2 r.bankB
  | .flash _ => s.gRules 3 r.bankB
  | .unassigned => []

/-- One target's check (R321 to R323, R329): the reason of a refusal. -/
def State.check1 (s : State) (r : Who) (pl : Place) (t : AType) : Option Nat :=
  let c := s.colourAt pl
  if r.req = .debug ∧ 2 ≤ s.life then some RSN.lifecycle
  else if r.req = .debug ∧ c = 15 then some RSN.sealed
  else if s.fixedRefusal r pl t then some RSN.fixed
  else if t = .x ∧ (match pl with | .sram _ _ => false | _ => true) = true then some RSN.rights
  else s.ruleCheck r pl (s.rulesAt r pl) c t

/-- The first word of the unit that is checked as a whole: granule, entry, context, slot (R324). -/
def Place.unitBase (pl : Place) (a : Nat) : Nat :=
  match pl with
  | .sram _ off => a - off % 1024
  | .cred i => a - i % 8
  | .ctx i => a - i % 64
  | _ => a

/-- Addresses of an access at which a check is made: its first word, and the first word of each further unit it reaches
(R324). Only the two word boundaries of granules matter in SRAM. DEDUCED, log entry 59. -/
def State.checkPoints (cl : Option Nat) (a n : Nat) : List Nat :=
  match placeOf cl a with
  | .sram _ _ => (List.range ((a % 1024 + n + 1023) / 1024)).map (fun i => if i = 0 then a else a / 1024 * 1024 + 1024 * i)
  | _ => (List.range n).map (fun i => a + i)

/-- The outcome of a check: allowed, unassigned, or refused at an address with a reason. -/
inductive Verdict where
  | allowed
  | unassigned
  | refused (at_ reason : Nat)
  deriving DecidableEq, Repr

/-- The SRAM of a quarantined cluster takes no request (R346). -/
def State.placeAt (s : State) (cl : Option Nat) (a : Nat) : Place :=
  match placeOf cl a with
  | .sram n off => if s.stat (P.clu n) ST.quar then .unassigned else .sram n off
  | pl => pl

/-- Check points in order. -/
def State.checkList (s : State) (r : Who) (t : AType) : List Nat → Verdict
  | [] => .allowed
  | a :: l => match s.placeAt r.cluster a with
    | .unassigned => .unassigned
    | pl => match s.check1 r pl t with
      | some rsn => .refused a rsn
      | none => s.checkList r t l

/-- A whole access of `n` words from `a` (R324, R325). DEDUCED, log entry 59. -/
def State.checkAccess (s : State) (r : Who) (a n : Nat) (t : AType) : Verdict :=
  s.checkList r t (State.checkPoints r.cluster a n ++ (if n = 0 then [] else [a + n - 1]))

/-- FAULT_INFO of a refusal (Table 11-6). -/
def faultInfo (r : Who) (t : AType) (reason : Nat) (straddle : Bool) : Word :=
  wd (2 ^ 17 + reason * 2 ^ 14 + b2n straddle * 2 ^ 13 + (match t with | .r => 0 | .w => 1 | .x => 2) * 2 ^ 11 +
    b2n r.sup * 2 ^ 10 + b2n r.bankB * 2 ^ 9 + b2n r.unit * 2 ^ 8 + reqCode r.req)

/-- Record a refusal at a memory gate (R328); at a register page the page's PG_ERR.GATE records it. -/
def State.recordRefusal (s : State) (r : Who) (a at_ : Nat) (t : AType) (reason : Nat) : State :=
  let straddle := decide (at_ ≠ a)
  let info := faultInfo r t reason straddle
  match placeOf r.cluster at_ with
  | .sram n off =>
    let p := P.cgate n
    if s.rbit p 0o24 17 then s.inc36 p 0o26
    else (((s.setReg36 p 0o22 (BitVec.ofNat 36 (sramBase n + off))).setReg p 0o24 info).setReg p 0o25
      (wd (s.gcol n (off / 1024)))).event p 0
  | .page p w => s.pgErr p ERR.gate r.req w
  | .unassigned => s
  | pl =>
    let g := match pl with | .cred i => i / 8388608 | .ctx i => 4 + i / 262144 | _ => 8
    if s.rbit P.gate 0o26 17 then s.inc36 P.gate 0o30
    else (((s.setReg36 P.gate 0o24 (BitVec.ofNat 36 at_)).setReg P.gate 0o26 info).setReg P.gate 0o27
      (wd (s.colourAt pl * 16 + g))).event P.gate 0

/-- A data word by address: SRAM by its cluster's own window. -/
def flatAddr (cl : Option Nat) (a : Nat) : Nat :=
  match placeOf cl a with
  | .sram n off => sramBase n + off
  | _ => a

/-- The requester values of a core now (R317). -/
def State.coreWho (s : State) (c : Nat) (unit : Bool := false) : Who :=
  let x := s.core c
  let b := tb x.gateBank 32
  { req := .core c, key := BitVec.ofNat 16 (if b then bits x.gateBank 31 16 else bits x.gateBank 15 0), sup := x.sup,
    bankB := b, unit := unit }

/-- The requester values of a register access (Table 11-2). -/
def State.whoOf (s : State) (req : Requester) : Who :=
  match req with
  | .host => ⟨req, if s.isBad (P.gate * 1024 + 0o22) then 0 else BitVec.ofNat 16 (s.rfld P.gate 0o22 15 0), true, false, false⟩
  | .debug => ⟨req, BitVec.ofNat 16 (s.rfld P.dbg 0o23 14 0), true, false, false⟩
  | .core c => s.coreWho c

/-- The requester values a unit command carries (R207, R225). -/
def Cmd.who (c : Cmd) : Who := { req := .core c.core, key := c.key, sup := c.sup, bankB := c.bankB, unit := true }

/-- Check every range of a command, in order; a refusal is recorded (R325). -/
def State.checkRanges (s : State) (r : Who) : List (Nat × Nat × AType) → State × Bool
  | [] => (s, true)
  | (a, n, t) :: l =>
    if n = 0 then s.checkRanges r l
    else match s.checkAccess r a n t with
      | .allowed => s.checkRanges r l
      | .unassigned => (s, false)
      | .refused at_ reason => (s.recordRefusal r a at_ t reason, false)

/-- The words of a range a command reads. -/
def State.rangeWords (s : State) (r : Who) (a n : Nat) : List Word := s.words (flatAddr r.cluster a) n

/-- Write the words of a range. -/
def State.putRange (s : State) (r : Who) (a : Nat) (l : List Word) : State := s.setWords (flatAddr r.cluster a) l

end Sys2Proof.Machine
end

