-- ==== Sys2Proof/Machine/CmdBlock.lean ====
section
/-! DEFINITION. The command blocks of unit commands as written (Tables 6-6, 8-9, 8-10) and the ranges each names, which the
gates check as the command starts (R325). -/
namespace Sys2Proof.Machine

/-! ### Cipher commands (R272) -/

/-- Fields of a cipher command block (Table 8-9). -/
structure CCmd where
  /-- MODE -/
  mode : Nat
  /-- KSRC -/
  ksrc : Nat
  /-- KREF -/
  kref : Nat
  /-- a reserved bit is set -/
  resv : Bool
  /-- SRC -/
  src : Nat
  /-- LEN -/
  len : Nat
  /-- DEST -/
  dest : Nat
  /-- IVA -/
  iva : Nat
  /-- the slot reference of KEYID -/
  ref : BitVec 32
  /-- the handle of KEYID -/
  handle : Nat
  deriving DecidableEq, Repr

/-- Decode a cipher command block. DEDUCED, log entry 42. -/
def ccmdOf (w : List Word) : CCmd :=
  let w0 := cw w 0
  let ksrc := bits w0 13 12
  { mode := bits w0 17 14, ksrc := ksrc, kref := bits w0 11 10,
    resv := decide (bits w0 9 0 ≠ 0) || decide (cw w 13 ≠ 0) ||
      (decide (ksrc = 0) && (decide (bits (cw w 8) 17 16 ≠ 0) || decide (bits (cw w 9) 17 9 ≠ 0) || decide (cw w 10 ≠ 0))),
    src := (dword (cw w 1) (cw w 2)).toNat, len := (cw w 3).toNat, dest := (dword (cw w 4) (cw w 5)).toNat,
    iva := (dword (cw w 6) (cw w 7)).toNat,
    ref := BitVec.ofNat 32 (bits (cw w 9) 8 0 * 2 ^ 16 + bits (cw w 8) 15 0),
    handle := (cw w 8).toNat + (cw w 9).toNat * 2 ^ 18 + (cw w 10).toNat * 2 ^ 36 }

/-- The opcode whose mode a command runs. -/
def CCmd.op (d : CCmd) : Nat := [0o040, 0o041, 0o042, 0o043, 0o044, 0o051].getD d.mode 0
/-- The modes with a chaining value in memory. -/
def CCmd.usesIv (d : CCmd) : Bool := 2 ≤ d.mode && d.mode ≤ 4
/-- The usage bit of R272. -/
def CCmd.usage (d : CCmd) : Nat :=
  if d.mode = 5 then U.mac else if d.mode = 1 ∨ d.mode = 3 then U.decrypt else U.encrypt
/-- Octets written to DEST. -/
def CCmd.outLen (d : CCmd) : Nat := if d.mode = 5 then 16 else d.len

/-- Blocks of a command's message; CMAC pads an empty one to one block. -/
def CCmd.blocks (d : CCmd) : Nat := if d.mode = 5 then max 1 ((d.len + 15) / 16) else (d.len + 15) / 16

/-- The form rules of R272. -/
def CCmd.ok (d : CCmd) : Bool :=
  !d.resv && decide (d.mode < 6) && decide (d.ksrc < 3) && decide (d.len ≤ 65536) &&
    (if d.mode < 4 then decide (16 ≤ d.len) && decide (d.len % 16 = 0) else decide (d.mode = 5) || decide (1 ≤ d.len))

/-- The ranges a cipher command names. -/
def CCmd.ranges (d : CCmd) : List (Nat × Nat × AType) :=
  [(d.src, (d.len + 1) / 2, .r), (d.dest, (d.outLen + 1) / 2, .w)] ++
    (if d.usesIv then [(d.iva, 8, .r), (d.iva, 8, .w)] else [])

/-! ### Digest commands (R206) -/

/-- Fields of a digest command block (Table 6-6). -/
structure DCmd where
  /-- ALG -/
  alg : Nat
  /-- FIRST -/
  first : Bool
  /-- LAST -/
  last : Bool
  /-- KEYED -/
  keyed : Bool
  /-- PREFIX -/
  pre : Nat
  /-- the reserved bit -/
  resv : Bool
  /-- OUTLEN as it acts -/
  out : Nat
  /-- OUTLEN of a record: for SHAKE as it acts -/
  outlen : Nat
  /-- SRC -/
  src : Nat
  /-- LEN -/
  len : Nat
  /-- DEST -/
  dest : Nat
  /-- STATE -/
  state : Nat
  /-- the slot reference -/
  ref : BitVec 32
  deriving DecidableEq, Repr

/-- Decode a digest command block. -/
def dcmdOf (w : List Word) : DCmd :=
  let w0 := cw w 0
  let alg := bits w0 17 14
  let ol := bits w0 7 0
  { alg := alg, first := tb w0 13, last := tb w0 12, keyed := tb w0 11 || decide (bits w0 10 9 ≠ 0), pre := bits w0 10 9,
    resv := tb w0 8, out := if alg = 8 then (if ol = 0 then 32 else ol) else if alg = 9 then (if ol = 0 then 64 else ol) else algOut alg,
    outlen := if alg = 8 ∧ ol = 0 then 32 else if alg = 9 ∧ ol = 0 then 64 else ol,
    src := (dword (cw w 1) (cw w 2)).toNat, len := (cw w 3).toNat, dest := (dword (cw w 4) (cw w 5)).toNat,
    state := (dword (cw w 6) (cw w 7)).toNat,
    ref := BitVec.ofNat 32 (bits (cw w 9) 8 0 * 2 ^ 16 + bits (cw w 8) 15 0) }

/-- The rules of R206 that a block must keep. DEDUCED, log entry 43. -/
def DCmd.ok (d : DCmd) : Bool :=
  !d.resv && decide (d.alg ≤ 10) && decide (d.pre ≠ 3) && (decide (d.pre = 0) || d.first) &&
    !(d.keyed && decide (d.dest = 0)) &&
    (d.alg != 10 || (d.first && d.last && decide (d.len = 200) && decide (d.pre = 0) && decide (d.dest ≠ 0))) &&
    ((d.first && d.last) || decide (d.state ≠ 0)) && (d.last || decide (d.len % algBlock d.alg = 0))

/-- The ranges a digest command names (R325). -/
def DCmd.ranges (d : DCmd) : List (Nat × Nat × AType) :=
  [(d.src, (d.len + 1) / 2, .r)] ++ (if d.last ∧ d.dest ≠ 0 then [(d.dest, (d.out + 1) / 2, .w)] else []) ++
    (if d.first && d.last then [] else [(d.state, 116, .r), (d.state, 116, .w)])

/-! ### The check at the start (R325) -/

/-- The range a host transfer names (Table 8-10); a block whose own fields are refused names none. -/
def hostRanges (typ : Nat) (w : List Word) : List (Nat × Nat × AType) :=
  let len := (cw w 3).toNat
  if bits (cw w 0) 17 6 ≠ 0 ∨ len = 0 ∨ 65536 < len then []
  else [((dword (cw w 4) (cw w 5)).toNat, (len + 1) / 2, if typ = 4 then .r else .w)]

/-- The ranges a command names; none where its block is refused. The commands of a bignum program name their own. -/
def Cmd.ranges (c : Cmd) : List (Nat × Nat × AType) :=
  match c.typ with
  | 0 => let d := ccmdOf c.words; if d.ok then d.ranges else []
  | 1 => let d := dcmdOf c.words; if d.ok then d.ranges else []
  | 2 => []
  | n => hostRanges n c.words

/-- A command starts: the gates check every range it names, and the outcome holds for all of it (R325). -/
def State.grantRanges (s : State) (j : Job) : State × Job :=
  match j.cmd with
  | some c => if j.granted.isSome then (s, j)
    else let (t, ok) := s.checkRanges c.who c.ranges; (t, { j with granted := some ok })
  | none => (s, j)

/-- A command the gates let pass covers a granule and has not ended (R327). -/
def State.commandOn (s : State) (n g : Nat) : Bool :=
  let lo := sramBase n + 1024 * g
  s.anyJob (fun j => match j.cmd with
    | some c => j.granted == some true && c.ranges.any (fun r =>
        let a := flatAddr c.who.cluster r.1
        decide (a < lo + 1024) && decide (lo < a + r.2.1))
    | none => false)

end Sys2Proof.Machine
end

