-- ==== Sys2Proof/Machine/Denlet.lean ====
section
/-! DEFINITION. Denlet ports and routing (R116 to R122): where a message goes, the flits that carry it and their protection,
the egress of a port, failing a link; the Sluice arbiters' state, which an egress shares with every other. -/

/-- The octets of a Denlet message, header first: R111 to R115 give what a message carries and not its layout.
DESIGN CHOICE, log entry 40. -/
opaque Sys2Proof.Config.netText : Sys2Proof.Machine.NetMsg → List Sys2Proof.Octet

/-- The device that asks for resynchronisation in a received message, where it is such a request: its layout is not given
(R109). DESIGN CHOICE, log entry 40. -/
opaque Sys2Proof.Config.asksResync : List Sys2Proof.Octet → Option Nat

/-- The secret of the ECDH and ML-KEM agreement of an attestation (R119), by a fresh number. DESIGN CHOICE, log entry 89. -/
opaque Sys2Proof.Config.linkSecret : Nat → List Sys2Proof.Octet

/-- Label and context of a link key: sender, receiver and rekey count (R118, R119 give the KDF alone).
DESIGN CHOICE, log entry 89. -/
opaque Sys2Proof.Config.linkLabel : Nat → Nat → Nat → List Sys2Proof.Octet

/-- The direction constant of an IV, by sender and receiver (R118). DESIGN CHOICE, log entry 89. -/
opaque Sys2Proof.Config.dirConst : Nat → Nat → BitVec 32

namespace Sys2Proof.Machine

/-! ### Sluice arbiters -/

/-- An arbiter at rest. -/
def Arb.idle : Arb := ⟨0, [], [], false, (0, 1)⟩

/-- A Sluice arbiter. -/
def State.arb (s : State) (kind inst : Nat) : Arb := Map.get (dflt Arb.idle) s.sluice.arbs (4096 * kind + inst)

/-- Store a Sluice arbiter. -/
def State.setArb (s : State) (kind inst : Nat) (v : Arb) : State :=
  { s with sluice := { s.sluice with arbs := Map.put (dflt Arb.idle) s.sluice.arbs (4096 * kind + inst) v } }

/-- The arbiter MON_SEL selects is this one (R347). -/
def State.monitored (s : State) (kind inst : Nat) : Bool :=
  decide (s.rfld P.sluice R.SLUICE_MON_SEL 17 12 = kind) && decide (s.rfld P.sluice R.SLUICE_MON_SEL 11 0 = inst)

/-- A grant at an arbiter after a wait, as the monitor counts it (R347). DEDUCED, log entry 61. -/
def State.monGrant (s : State) (kind inst wait : Nat) : State :=
  if s.monitored kind inst then
    let s := s.inc36 P.sluice R.SLUICE_MON_GRANTS
    let s := s.setReg P.sluice R.SLUICE_MON_MAXWAIT
      (wd (max (s.reg P.sluice R.SLUICE_MON_MAXWAIT).toNat (min wait (2 ^ 18 - 1))))
    if (s.reg P.sluice R.SLUICE_MON_LIMIT).toNat < wait then s.event P.sluice 0 else s
  else s

/-! ### Ports and links -/

/-- The own device ID. -/
def State.devId (s : State) : Nat := s.rfld P.dnlx R.DNLX_DEV_ID 15 0

abbrev L.down : Nat := 0
abbrev L.train : Nat := 1
abbrev L.attest : Nat := 2
abbrev L.up : Nat := 3
abbrev L.failed : Nat := 4

/-- LSTATE of a port (Table 3-3). -/
def State.lstate (s : State) (i : Nat) : Nat := s.rfld (P.dnl i) R.DNL_STATE 2 0

/-- Enter a port state with a cause (Tables 3-3 and 3-4). -/
def State.setLink (s : State) (i st cause : Nat) : State := s.setReg (P.dnl i) R.DNL_STATE (wd (cause * 16 + st))

/-- A port at rest. -/
def Port.idle : Port := ⟨0, 4095, [], 0, [], 0, 0, 0, 0, 0, 0, [], [], [], [], 0, false, 0, 0, 0⟩

/-- A port. -/
def State.port (s : State) (i : Nat) : Port := Map.get (dflt Port.idle) s.net.ports i

/-- Store a port. -/
def State.setPort (s : State) (i : Nat) (v : Port) : State :=
  { s with net := { s.net with ports := Map.put (dflt Port.idle) s.net.ports i v } }

/-- The port takes new messages: UP and not shutting down (R120). -/
def State.portOpen (s : State) (i : Nat) : Bool := decide (s.lstate i = L.up) && !s.stat (P.dnl i) ST.stopping

/-! ### Routes (R122) -/

/-- The shorter way from `a` to `b` on a ring of `n` is the positive one; a tie takes it. -/
def upward (a b n : Nat) : Bool := decide ((b + n - a) % n ≤ (a + n - b) % n)

/-- Where a message goes (R122): the primary port and an alternate. -/
def State.route (s : State) (dst : Nat) : Option (Nat × Option Nat) :=
  let self := s.devId
  let dim := s.rfld P.dnlx R.DNLX_DIM 15 0
  match s.rfld P.dnlx R.DNLX_TOPO 1 0 with
  | 0 =>
    let e := Map.get (dflt 0) s.net.routes dst
    if tb e 17 then some (bits e 16 15, if tb e 14 then some (bits e 13 12) else none) else none
  | 1 =>
    let n := dim + 1
    if dst < n ∧ dst ≠ self then some (if upward (self % n) dst n then 0 else 1, none) else none
  | _ =>
    let x := dim / 256 + 1
    let y := dim % 256 + 1
    if x * y ≤ dst ∨ dst = self then none
    else if self % x ≠ dst % x then some (if upward (self % x) (dst % x) x then 0 else 1, none)
    else some (if upward (self / x % y) (dst / x) y then 2 else 3, none)

/-- On a torus, a message that leaves on a port crosses the wrap link of its dimension (R122). -/
def State.wraps (s : State) (port : Nat) : Bool :=
  let dim := s.rfld P.dnlx R.DNLX_DIM 15 0
  let x := dim / 256 + 1
  let y := dim % 256 + 1
  decide (s.rfld P.dnlx R.DNLX_TOPO 1 0 = 2) && (match port with
    | 0 => decide (s.devId % x = x - 1)
    | 1 => decide (s.devId % x = 0)
    | 2 => decide (s.devId / x = y - 1)
    | _ => decide (s.devId / x = 0))

/-! ### Messages -/

/-- The destination of a message; certificates stay on their link. -/
def NetMsg.dst : NetMsg → Nat
  | .membership d _ _ _ _ => d | .resync d _ => d | .askResync d => d | .forward d _ _ => d | .fwdAck d _ => d
  | .moved d _ _ => d | .result d _ _ _ _ _ => d | .resultAck d _ => d | .abort d _ => d | .abortAck d _ => d
  | .heartbeat d => d | .through d _ _ _ => d | .certs _ _ => 0

/-- Octets of a message beyond its 24-octet header (R111, DESIGN CHOICE, log entry 40). -/
def NetMsg.size : NetMsg → Nat
  | .membership _ _ m o _ => 4 * m.length + 12 * o.length
  | .resync _ p => 4 * p.members.length + 12 * p.ovr.length
  | .forward _ _ m => m.cells.length - 16 + ((m.data.map (fun e => e.2.length)).foldl (· + ·) 0) + 9 * m.ctx.length / 4
  | .result _ _ _ o l c => o.length + ((l.map (fun e => e.2.length)).foldl (· + ·) 0) + (match c with | some _ => 144 | none => 0)
  | .through _ _ _ o => o.length - 24
  | .certs _ _ | .askResync _ | .fwdAck _ _ | .moved _ _ _ | .resultAck _ _ | .abort _ _ | .abortAck _ _ | .heartbeat _ => 0

/-- The octets of a message before its protection: what came, for one routed on. DESIGN CHOICE, log entry 40. -/
def NetMsg.text : NetMsg → List Octet
  | .through _ _ _ o => o
  | m => sliceOct (Config.netText m) 0 (24 + m.size)

/-- Flits of a message of `n` octets: the message and its 16-octet tag in payloads of 56 octets (R116). -/
def flitsOf (n : Nat) : Nat := (n + 16 + 55) / 56

/-- The class of the job a message is about, by the key it stands under. -/
def State.classAt (s : State) (f : Job → Bool) : Nat :=
  match (s.jobs.filterMap (fun e => e.2)).find? f with | some j => j.cls | none => 0

/-- The class a message carries (R336): 3 for membership frames and heartbeats, a forwarded job's own for every message about
it, else the queue engine's class. DEDUCED, log entry 61. -/
def State.msgClass (s : State) (m : NetMsg) : Nat :=
  let held (d t : Nat) : Nat := s.classAt (fun j => j.origin == some (d, t))
  let sent (t : Nat) : Nat := s.classAt (fun j => match j.fwd with | some f => f.tag == t | none => false)
  match m with
  | .membership _ _ _ _ _ | .heartbeat _ => 3
  | .forward _ _ f => f.cls
  | .fwdAck d t | .moved d t _ | .result d t _ _ _ _ | .abortAck d t => held d t
  | .resultAck _ t | .abort _ t => sent t
  | .resync _ _ | .askResync _ | .through _ _ _ _ | .certs _ _ => Map.get (dflt 2) s.sluice.classes 66

/-! ### Flits (R116 to R118, R121) -/

/-- One flit (Table 3-2): TYPE and VC, the two sequence numbers, payload and CRC. DEDUCED, log entry 41. -/
def flit (typ vc seq ackseq : Nat) (payload : List Octet) : List Octet :=
  let b := BitVec.ofNat 8 (typ * 16 + vc * 4) :: (beOctets 3 (seq * 4096 + ackseq) ++ sliceOct payload 0 56)
  b ++ leOctets 4 (crc32 b).toNat

/-- EQ_FREEZE holds the settings of a port (R121). -/
def State.eqFrozen (s : State) (i : Nat) : Bool := s.rbit (P.dnl i) R.DNL_CFG 1

/-- An idle slot of a port: an adaptation step is taken there, so no idle flit is inserted any more (R121). -/
def State.idleSlot (s : State) (i : Nat) : State :=
  if s.eqFrozen i then s else s.setPort i { s.port i with eqInsert := false, eqRun := 0 }

/-- A flit leaves on a port: it enters the replay buffer and is counted (R117); while idle flits are inserted, one follows
every 4,096 (R121). -/
def State.sendFlit (s : State) (i typ vc : Nat) (payload : List Octet) : State :=
  let v := s.port i
  let v := { v with txSeq := (v.txSeq + 1) % 4096, replay := v.replay ++ [(v.txSeq, flit typ vc v.txSeq v.rxSeq payload)],
                    eqRun := v.eqRun + 1 }
  let s := (s.setPort i v).inc36 (P.dnl i) R.DNL_TX_FLITS
  if v.eqInsert && decide (4096 ≤ v.eqRun) then (s.setPort i { v with eqRun := 0, eqIdles := v.eqIdles + 1 }).idleSlot i else s

/-- The IV of a message: the direction constant and the 64-bit counter (R118). -/
def netIv (src dst n : Nat) : List Octet := beOctets 4 (Config.dirConst src dst).toNat ++ beOctets 8 n

/-- The peer a port's link leads to. -/
def State.peerOf (s : State) (i : Nat) : Nat := s.rfld (P.dnl i) R.DNL_PEER_ID 15 0

/-- The TYPE of flit `k` of `n` (Table 3-2). -/
def flitType (n k : Nat) : Nat := if n ≤ 1 then 4 else if k = 0 then 1 else if k + 1 = n then 3 else 2

/-- The virtual channel a message leaves on (R122). -/
def State.msgVc (s : State) (i : Nat) (m : NetMsg) : Nat :=
  if s.wraps i then 1 else match m with | .through _ _ vc _ => vc | _ => 0

/-- A whole message leaves on a port, protected under the key of its direction (R116, R118). DESIGN CHOICE, log entry 40. -/
def State.sendMsg (s : State) (i : Nat) (m : NetMsg) : State :=
  let v := s.port i
  let (ct, tag) := gcmEnc (beOctets 32 v.txKey.toNat) (netIv s.devId (s.peerOf i) v.txMsg) [] m.text
  let fl := chunks 56 (ct ++ tag)
  let vc := s.msgVc i m
  let s := s.each (List.range fl.length) (fun t k => t.sendFlit i (flitType fl.length k) vc (fl.getD k []))
  let s := s.setPort i { s.port i with txMsg := v.txMsg + 1 }
  { s with net := { s.net with out := s.net.out ++ [m] } }

/-! ### The egress of a port (R122, R337) -/

/-- The requester of a message at a port's egress (Table 12-1): 0 the device itself, 1 to 3 the other ports. -/
def egressRq (i : Nat) : NetMsg → Nat
  | .through _ p _ _ => if p < i then p + 1 else p
  | _ => 0

/-- The first message that a requester has waiting. -/
def egressHead (rq : Nat) (l : List (Nat × NetMsg)) : Option (Nat × NetMsg) := l.find? (fun e => e.1 == rq)

/-- The message a port's egress grants next: the highest class among the heads, and within it the first requester at or
after the pointer (R337). -/
def State.egressNext (s : State) (i : Nat) : Option (Nat × NetMsg) :=
  let l := (s.port i).wait
  let hs := (List.range 4).filterMap (fun d => egressHead (((s.arb 8 i).ptr + d) % 4) l)
  let top := (hs.map (fun e => s.msgClass e.2)).foldl Nat.max 0
  hs.find? (fun e => s.msgClass e.2 == top)

/-- Grant up to `n` waiting messages of a port while it is open and its replay buffer of 256 flits takes them (R117). -/
def State.pump (s : State) (i : Nat) : Nat → State
  | 0 => s
  | n + 1 =>
    match s.egressNext i with
    | some (rq, m) =>
      if s.portOpen i && decide ((s.port i).replay.length + flitsOf m.text.length ≤ 256) then
        let t := s.setPort i { s.port i with wait := (s.port i).wait.erase (rq, m) }
        let t := (t.setArb 8 i { t.arb 8 i with ptr := (rq + 1) % 4 }).monGrant 8 i 0
        (t.sendMsg i m).pump i n
      else s
    | none => s

/-- A message is presented at a port's egress. -/
def State.transmit (s : State) (i : Nat) (m : NetMsg) : State :=
  let t := s.setPort i { s.port i with wait := (s.port i).wait ++ [(egressRq i m, m)] }
  t.pump i (t.port i).wait.length

/-- Hold a message until a port opens for it (R122). -/
def State.hold (s : State) (m : NetMsg) : State := { s with net := { s.net with held := s.net.held ++ [m] } }

/-- Send a message by its route, or hold it while no port of its route is open (R120, R122). -/
def State.send (s : State) (m : NetMsg) : State :=
  match s.route m.dst with
  | none => s.hold m
  | some (p, alt) =>
    if s.portOpen p then s.transmit p m
    else match alt with
      | some a => if s.portOpen a then s.transmit a m else s.hold m
      | none => s.hold m

/-- Send a message (R122): without a route it is held and ROUTE_MISS is raised. -/
def State.post (s : State) (m : NetMsg) : State :=
  if (s.route m.dst).isNone then (s.send m).event P.dnlx 2 else s.send m

/-- Try held messages again. -/
def State.retry (s : State) : State :=
  s.net.held.foldl State.send { s with net := { s.net with held := [] } }

/-- The messages waiting at a port that no longer takes any go another way or are held (R120). -/
def State.spill (s : State) (i : Nat) : State :=
  ((s.port i).wait.map (fun e => e.2)).foldl State.send (s.setPort i { s.port i with wait := [] })

/-- A link fails with a cause (R117, R118); the loss of an UP link raises LINK_DOWN. -/
def State.failLink (s : State) (i cause : Nat) : State :=
  let up := decide (s.lstate i = L.up)
  let s := ((s.setLink i L.failed cause).setStat (P.dnl i) ST.ready false).spill i
  if up then s.event (P.dnl i) 1 else s

/-! ### The keeper and epochs (R109, R110) -/

/-- Ask the keeper for the placement state (R109). -/
def State.askNow (s : State) : State :=
  let k := s.rfld P.place R.PLACE_CFG 15 0
  if k ≠ s.devId then s.post (.askResync k) else s

/-- Ask the keeper for the placement state, at most once per 100 µs (R110). -/
def State.askResync (s : State) : State :=
  let k := s.rfld P.place R.PLACE_CFG 15 0
  if k ≠ s.devId ∧ (s.net.asked = 0 ∨ s.net.asked + 100000 ≤ s.now + 1) then
    { s.post (.askResync k) with net := { (s.post (.askResync k)).net with asked := s.now + 1 } }
  else s

/-- How far a received epoch is ahead of the own one; none where neither is ahead (R110). -/
inductive EpochRel where
  | equal | behind | ahead | rejected
  deriving DecidableEq, Repr

/-- Compare epochs (R110). -/
def epochRel (own received : BitVec 18) : EpochRel :=
  let d := (own - received).toNat
  if d = 0 then .equal else if d < 2 ^ 17 then .behind else if d = 2 ^ 17 then .rejected else .ahead

/-- This device is the keeper (R109). -/
def State.isKeeper (s : State) : Bool := s.rfld P.place R.PLACE_CFG 15 0 == s.devId

end Sys2Proof.Machine
end

