-- ==== Sys2Proof/Machine/Jobs.lean ====
section
/-! DEFINITION. Jobs: keys, ring positions, operand cells and data descriptors, host data and lengths, unit queues,
completion, discard and publication (R55 to R95). -/
namespace Sys2Proof.Machine

/-! ### Keys and positions -/

/-- The key of a job of a queue. -/
def jobKey (q pos : Nat) : Nat := q * 2 ^ 17 + pos

/-- The key of a job held for another device. -/
def foreignKey (origin tag : Nat) : Nat := 2 ^ 26 + origin * 2 ^ 13 + tag

/-- The job under a key. -/
def State.job (s : State) (k : Nat) : Option Job := Map.get (dflt none) s.jobs k

/-- Store a job. -/
def State.setJob (s : State) (k : Nat) (j : Job) : State := { s with jobs := Map.put (dflt none) s.jobs k (some j) }

/-- Forget a job. -/
def State.dropJob (s : State) (k : Nat) : State := { s with jobs := Map.put (dflt none) s.jobs k none }

/-- Change a job that exists. -/
def State.modJob (s : State) (k : Nat) (f : Job → Job) : State :=
  match s.job k with
  | some j => s.setJob k (f j)
  | none => s

/-- An idle queue engine. DESIGN CHOICE, log entry 4. -/
def Queue.idle : Queue := ⟨[], false, false, false, none, 0, [], none⟩

/-- A queue engine. -/
def State.queue (s : State) (q : Nat) : Queue := Map.get (dflt Queue.idle) s.queues q

/-- Store a queue engine. -/
def State.setQueue (s : State) (q : Nat) (v : Queue) : State :=
  { s with queues := Map.put (dflt Queue.idle) s.queues q v }

/-- LOG2SIZE of a queue (Table 2-12). -/
def State.log2size (s : State) (q : Nat) : Nat := s.rfld (P.wq q) R.WQ_CFG 4 0

/-- The counter value of a position (R56). -/
def posCtr (k : Nat) (p : Word) : Nat := bits p 16 16 * 2 ^ k + bits p 15 0

/-- The position of a counter value (R56). -/
def ctrPos (k c : Nat) : Word := wd ((c / 2 ^ k % 2) * 2 ^ 16 + c % 2 ^ k)

/-- The count of cells from one position to another (R56). -/
def posCount (k : Nat) (h t : Word) : Nat := (posCtr k t + 2 ^ (k + 1) - posCtr k h % 2 ^ (k + 1)) % 2 ^ (k + 1)

/-- The position `n` cells further. -/
def posAdd (k : Nat) (p : Word) (n : Nat) : Word := ctrPos k ((posCtr k p + n) % 2 ^ (k + 1))

/-- A doorbell value is in range: its index below 2^k and at most 2^k cells after the published head (R57). -/
def State.dbInRange (s : State) (q : Nat) (t : Word) : Bool :=
  let k := s.log2size q
  decide (bits t 15 0 < 2 ^ k) && decide (posCount k (s.reg (P.wq q) R.WQ_HEAD) t ≤ 2 ^ k)

/-- A 54-bit host address held in two or three slots from word `w`. -/
def State.hostAddr (s : State) (p w hi : Nat) : Nat := (s.reg36 p w).toNat + (s.reg p hi).toNat * 2 ^ 36

/-- The host address of cell `idx` of a queue's ring (R55). -/
def State.cellAddr (s : State) (q idx : Nat) : Nat :=
  s.hostAddr (P.wq q) R.WQ_RING_BASE R.WQ_RING_BASE_HI + 16 * idx

/-! ### Operand cells and descriptors -/

/-- `n` octets of a job's cell `c` from offset `i`. -/
def Job.oct (j : Job) (c i n : Nat) : List Octet := sliceOct j.body ((c - 1) * 16 + i) n

/-- Doubleword `d` of a job's cell `c`. -/
def Job.dw (j : Job) (c d : Nat) : BitVec 32 := BitVec.ofNat 32 (leNat (j.oct c (4 * d) 4))

/-- The declared length of a data descriptor cell (Table 2-2). -/
def Job.declared (j : Job) (c : Nat) : Nat := (j.dw c 2).toNat

/-- The address of a data descriptor cell. -/
def Job.addr (j : Job) (c : Nat) : Nat := (j.dw c 0).toNat + bits (j.dw c 1) 21 0 * 2 ^ 32

/-- SG of a data descriptor cell. -/
def Job.sg (j : Job) (c : Nat) : Bool := tb (j.dw c 3) 31

/-- A reserved field of a data descriptor cell is non-zero (Table 2-4 RESERVED). DEDUCED, log entry 26. -/
def descReserved (cell : List Octet) : Bool :=
  decide (bits (dw cell 4) 31 22 ≠ 0) || decide (bits (dw cell 12) 30 0 ≠ 0)

/-- What has arrived for a descriptor cell. -/
def Job.inp (j : Job) (c : Nat) : Option HostIn := j.inputs.find? (fun h => h.cell == c)

/-- The scatter elements of a descriptor cell: one buffer where SG is 0. -/
def Job.elems (j : Job) (c : Nat) : List (Nat × Nat) :=
  if j.sg c then (match j.inp c with | some h => h.elems | none => []) else [(j.addr c, j.declared c)]

/-- The supplied length of a descriptor cell (R61). -/
def Job.supplied (j : Job) (c : Nat) : Nat := ((j.elems c).map (fun e => e.2)).foldl (· + ·) 0

/-- The scatter list of a descriptor cell is malformed (R61). -/
def Job.sgBad (j : Job) (c : Nat) : Bool :=
  j.sg c && (decide (j.addr c % 16 ≠ 0) || (match j.inp c with | some h => h.bad | none => false))

/-- The lengths of a descriptor cell are known: no list, or the list has been read. -/
def Job.lenKnown (j : Job) (c : Nat) : Bool := !j.sg c || (j.inp c).isSome || j.sgBad c

/-- The data of an input cell, its declared length of it. -/
def Job.data (j : Job) (c : Nat) : List Octet :=
  match j.inp c with
  | some h => h.octets.take (j.declared c)
  | none => []

/-- The data of an input cell has arrived in full, or none is declared. -/
def Job.dataHere (j : Job) (c : Nat) : Bool :=
  decide (j.declared c = 0) || (match j.inp c with | some h => decide (min (j.declared c) h.supplied ≤ h.octets.length) | none => false)

/-- The job's input cells. -/
def Job.ins (j : Job) : List Nat := inputCells j.gb j.opcode j.oparg

/-- The job's output cells. -/
def Job.outs (j : Job) : List Nat := (descCells j.gb j.opcode j.oparg).filter (fun c => !j.ins.contains c)

/-- The inner opcode of a LINE_ITEM, 0 for others. -/
def Job.inner (j : Job) : Nat := if j.opcode = 0o500 then bits j.oparg 8 0 else 0

/-- The verdict on the inputs' lengths (Table 2-8): SHORT before OK_TRUNCATED; a forward carries its own (R111). -/
def Job.lenVerdict (j : Job) : Nat :=
  if j.origin.isSome then j.verdict
  else if j.ins.any (fun c => decide (j.supplied c < j.declared c)) then 2
  else if j.ins.any (fun c => decide (j.declared c < j.supplied c)) then 1 else 0

/-- Authenticated decryption under Table 2-8. -/
def authDec (op : Nat) : Bool := op == 0o046 || op == 0o050 || op == 0o056

/-- The status of the length outcome of Table 2-8; `none` where the lengths agree. -/
def Job.lenStatus (j : Job) : Option Nat :=
  if j.lenVerdict = 0 then none
  else if authDec j.opcode then some S.authFail
  else if j.lenVerdict = 2 then some S.short else none

/-- The status of a job that has passed every check (R76). -/
def Job.goodStatus (j : Job) : Nat := if j.lenVerdict = 1 then S.okTruncated else S.ok

/-- Write octets over the elements of a buffer, in order. -/
def State.toElems (s : State) : List (Nat × Nat) → List Octet → State
  | [], _ => s
  | (a, n) :: r, l => (s.toHost a (l.take n)).toElems r (l.drop n)

/-- Write octets to the output buffer a descriptor cell names. -/
def State.toBuffer (s : State) (j : Job) (c : Nat) (l : List Octet) : State :=
  if j.origin.isSome then s else s.toElems (j.elems c) l

/-! ### Sessions -/

/-- The context slot of a session, if it has one (R99). -/
def State.sessSlot (s : State) (n : Nat) : Option Nat :=
  let v := Map.get (dflt 0) s.lode.slotOf n
  if v = 0 then none else some (v - 1)

/-- The committed context of a session; zeros where it has no slot. -/
def State.sessCtx (s : State) (n : Nat) : List Word :=
  match s.sessSlot n with
  | some c => s.words (ctxBase c) 64
  | none => List.replicate 64 0

/-- The keys that stand before `k` in a list. -/
def before (k : Nat) : List Nat → List Nat
  | [] => []
  | x :: r => if x = k then [] else x :: before k r

/-- The earlier jobs of a local job's queue, in order. -/
def State.earlier (s : State) (k : Nat) (j : Job) : List Job :=
  (before k (s.queue j.queue).fifo).filterMap s.job

/-- A session as a job sees it: as the earlier jobs left it, with their pending changes (R70, R74); a forwarded job
sees the context it brought (R111). -/
def State.sessView (s : State) (k : Nat) (j : Job) (n : Nat) : List Word :=
  if j.origin.isSome then j.pendSess.getD (List.replicate 64 0)
  else
    (s.earlier k j).foldl (fun acc e => if e.sess = some n ∧ e.st = .done then e.pendSess.getD acc else acc) (s.sessCtx n)

/-- Replace words of a context from `i`. -/
def cput (c : List Word) (i : Nat) (v : List Word) : List Word := c.take i ++ v ++ c.drop (i + v.length)

/-- OPEN of a context (Table 4-14). -/
def ctxOpen (c : List Word) : Bool := tb (cw c 0) 17
/-- The owning queue. -/
def ctxOwner (c : List Word) : Nat := bits (cw c 0) 15 8
/-- SEQ. -/
def ctxSeq (c : List Word) : Nat := (dword (cw c 1) (cw c 2)).toNat
/-- A context with SEQ replaced. -/
def ctxSetSeq (c : List Word) (n : Nat) : List Word := cput c 1 [wd n, wd (n / 2 ^ 18)]

/-- KEYREF n of a context as a slot reference with VALID in bit 31 (Table 4-14). -/
def ctxKeyref (c : List Word) (n : Nat) : BitVec 32 :=
  let lo := cw c (4 + 2 * n)
  let hi := cw c (5 + 2 * n)
  BitVec.ofNat 32 ((b2n (tb hi 17)) * 2 ^ 31 + bits hi 8 0 * 2 ^ 16 + bits lo 15 0)

/-- Opcodes whose completion leaves SEQ alone (R161). -/
def seqExempt (op : Nat) : Bool := op == 0o001 || op == 0o002 || op == 0o003

/-! ### Units -/

/-- The type of unit that runs a job: a unit command's type says it (R269). -/
def Job.utype (j : Job) : UType :=
  match j.cmd with
  | some c => if c.typ = 0 then .cipher else if c.typ = 1 then .digest else if c.typ = 2 then .bignum else .none
  | none => unitType j.opcode j.inner

/-- The core number of a KZ page. -/
def coreOf (p : Nat) : Option Nat := match blockOf p with | some (.kz, c) => some c | _ => none

/-- Drop a requester's pending requests at an arbiter; its deficit counters return to 0 (R346). -/
def State.arbDrop (s : State) (kind inst rq : Nat) : State :=
  let a := s.arb kind inst
  s.setArb kind inst { a with pend := a.pend.filter (fun r => r.rq != rq),
                              deficit := a.deficit.filter (fun e => e.1 / 4 != rq) }

/-- Drop every request pending for a resource (R346). -/
def State.arbClear (s : State) (kind inst : Nat) : State :=
  let a := s.arb kind inst
  s.setArb kind inst { a with pend := [], deficit := [] }

/-- The instance of a unit page's input arbiter (Table 12-5). -/
def arbInst (p : Nat) : Nat :=
  match blockOf p with
  | some (.kz, i) => i
  | some (.ciph, i) => 64 + i
  | some (.dig, i) => 96 + i
  | some (.bn, i) => 128 + i
  | some (.cst, i) => 144 + i
  | some (.fst, i) => 160 + i
  | _ => 176

/-- The requester of a job at a unit input: its queue, or the core that issued the command (Table 12-1). -/
def Job.rq (j : Job) : Nat := match j.cmd with | some c => 256 + c.core % 16 | none => j.queue

/-- An empty operand memory. -/
def BnCtx.empty : BnCtx := ⟨[], 0, 0, 0⟩

/-! ### Unit queues (R97) -/

/-- Keys in a unit's input queue. -/
def State.inQ (s : State) (p : Nat) : List Nat := Map.get (dflt []) s.lode.inQ p
/-- Replace a unit's input queue. -/
def State.setInQ (s : State) (p : Nat) (l : List Nat) : State :=
  { s with lode := { s.lode with inQ := Map.put (dflt []) s.lode.inQ p l } }
/-- The job a unit is running. -/
def State.runsOn (s : State) (p : Nat) : Option Nat :=
  let v := Map.get (dflt 0) s.lode.runs p
  if v = 0 then none else some (v - 1)
/-- Say which job a unit runs. -/
def State.setRuns (s : State) (p : Nat) (k : Option Nat) : State :=
  { s with lode := { s.lode with runs := Map.put (dflt 0) s.lode.runs p (match k with | some k => k + 1 | none => 0) } }

/-- The page is that of a cipher, digest or bignum unit: one that starts jobs from its input queue by itself. -/
def selfStarting (p : Nat) : Bool :=
  match blockOf p with
  | some (.ciph, _) | some (.dig, _) | some (.bn, _) => true
  | _ => false

/-- The region of a page's unit (R24). -/
def regionOf (p : Nat) : Nat := (p - 0x200) / 0x80

/-- Opcodes that need a staging buffer (R176, R177). -/
def needsStaging (op : Nat) : Bool := op == 0o046 || op == 0o050 || (0o053 ≤ op && op ≤ 0o056)

/-- The first free number below `n` not in a list. -/
def firstFree (n base : Nat) (l : List Nat) : Option Nat := (List.range n).find? (fun i => !l.contains (base + i))

/-- A free staging buffer of a region (R178). -/
def State.freeStaging (s : State) (rg : Nat) : Option Nat := firstFree 16 (rg * 16) s.units.staging

/-- The page's register that counts jobs completed. -/
def jobsReg (p : Nat) : Option Nat :=
  match blockOf p with
  | some (.ciph, _) => some R.CIPH_JOBS
  | some (.dig, _) => some R.DIG_JOBS
  | some (.bn, _) => some R.BN_JOBS
  | some (.kz, _) => some R.KZ_JOBS
  | _ => none

/-- The words of a cipher park record: granules 1,363 and 1,364 of the record's cluster (R176, R186). -/
def cipherRecAddr (rg i : Nat) : Nat := sramBase (rg * 4 + i / 64) + 1363 * 1024 + (i % 64) * 24

/-- The words of a staging buffer, in packed form: granules 1,235 to 1,362 of its cluster, 32 each (R176). -/
def stagingAddr (rg b : Nat) : Nat := sramBase (rg * 4 + b / 4) + 1235 * 1024 + (b % 4) * 32768

/-- The words of a digest park record: granules 1,228 to 1,234 (R203). -/
def digestRecAddr (rg i : Nat) : Nat := sramBase (rg * 4 + i / 64) + 1228 * 1024 + (i % 64) * 108

/-- Clear the park record a job holds (R186, R189, R235). -/
def State.freeRec (s : State) (j : Job) : State :=
  if j.parkMode = 1 then
    match j.utype with
    | .digest =>
      { s.clearWords (digestRecAddr j.region j.parkIdx) 108 with
        units := { s.units with digestRecs := drop1 s.units.digestRecs (j.region * 256 + j.parkIdx) } }
    | .cipher =>
      { s.clearWords (cipherRecAddr j.region j.parkIdx) 24 with
        units := { s.units with cipherRecs := drop1 s.units.cipherRecs (j.region * 256 + j.parkIdx) } }
    | _ => s
  else s

/-- A Peat slot. -/
def State.slot (s : State) (n : Nat) : Slot := Map.get (dflt ⟨0, 0, 0⟩) s.cust.slots n

/-- The slot whose HMAC states a starting GB_HMAC job's unit is given (R212, R215): KEYREF0 of its session. -/
def State.pairOf (s : State) (k : Nat) (j : Job) : Option Slot :=
  if j.opcode = 0o162 ∧ j.cmd.isNone then
    j.sess.map (fun n => s.slot (bits (ctxKeyref (s.sessView k j n) 0) 15 0))
  else none

/-! ### Result windows (R208 to R210) -/

/-- Clear a digest unit's window: its words, the count of octets and RES_VALID; STATUS and KEYED stay (R208, R210). -/
def State.clearWindow (s : State) (p : Nat) : State :=
  (s.modReg p R.DIG_WSTAT (fun v => putBits (sb v 17 false) 15 9 0)).each (List.range 32)
    (fun t i => t.setReg p (R.DIG_RESULT + i) 0)

/-- A digest job or command is keyed (R202). -/
def Job.isKeyed (j : Job) : Bool :=
  match j.cmd with
  | some c => tb (c.words.getD 0 0) 11 || decide (bits (c.words.getD 0 0) 10 9 ≠ 0)
  | none => j.keyed || j.opcode == 0o162

/-- What a completing job or command leaves in the window, WSTAT and STAT.TRUNC (R199, R208). DEDUCED, log entry 43. -/
def State.noteWindow (s : State) (p status : Nat) (keyed : Bool) (out : List Octet) : State :=
  let show_ := statusGood status && !keyed && decide (out.length ≤ 64)
  let ws := if show_ then packWords out else []
  let n := if show_ then out.length else 0
  let s := s.each (List.range 32) (fun t i => t.setReg p (R.DIG_RESULT + i) (ws.getD i 0))
  (s.setReg p R.DIG_WSTAT (wd (2 ^ 17 + b2n keyed * 2 ^ 16 + n * 2 ^ 9 + status))).setRbit p R.DIG_STAT 12
    (status == S.okTruncated)

/-- A command with DEST 0 holds the window of the unit it completes on (R210). -/
def State.holdWindow (s : State) (p : Nat) (j : Job) : State :=
  match j.cmd with
  | some c =>
    if c.words.getD 4 0 = 0 ∧ c.words.getD 5 0 = 0 then
      { s with units := { s.units with hold := Map.put (dflt 0) s.units.hold p (c.core + 1) } }
    else s
  | none => s

/-- A bignum job runs exclusive on a unit (R231). -/
def State.bnExclusive (s : State) (p : Nat) (j : Job) : Bool := decide (s.rfld p R.BN_CFG 1 0 = 1) || j.gb

/-- What completing on a unit leaves in its registers: JOBS, a digest unit's window, EXCL_DONE of an exclusive bignum job
(R192, R208, R214, R231). A discarded job completes nothing. -/
def State.noteJob (s : State) (p : Nat) (j : Job) (status : Nat) (out : List Octet) : State :=
  if j.orphan then s
  else
    let s := match jobsReg p with | some r => s.inc36 p r | none => s
    match blockOf p with
    | some (.dig, _) => (s.noteWindow p status j.isKeyed out).holdWindow p j
    | some (.bn, _) => if j.st = .running ∧ s.bnExclusive p j = true then s.event p 4 else s
    | _ => s

/-- The CTX_RESTORE register of a unit page (Tables 5-8 and 6-7). -/
def restoreReg (p : Nat) : Option Nat :=
  match blockOf p with
  | some (.ciph, _) => some R.CIPH_CTX_RESTORE
  | some (.dig, _) => some R.DIG_CTX_RESTORE
  | _ => none

/-- A unit starts or resumes a job: RUNNING, with a staging buffer where it needs one; a digest unit clears its window
(R208); a resumed job's park record is read and cleared (R186). -/
def State.startJob (s : State) (p k : Nat) (j : Job) : State :=
  let stg := match j.staging with
    | some b => some b
    | none => if needsStaging j.opcode then s.freeStaging (regionOf p) else none
  let s := match stg with
    | some b => { s with units := { s.units with staging := add1 s.units.staging (regionOf p * 16 + b) } }
    | none => s
  let s := match blockOf p with
    | some (.dig, _) => s.clearWindow p
    | _ => s
  let s := if j.st = .parked then
      (match restoreReg p with
        | some r => s.setReg p r (wd (j.parkIdx * 1024 + j.parkMode))
        | none => s).freeRec j
    else s
  let s := (s.setRuns p (some k)).setInQ p (drop1 (s.inQ p) k)
  let s := { s with lode := { s.lode with starts := s.lode.starts + 1 } }
  let a := s.arb 1 (arbInst p)
  let s := (s.setArb 1 (arbInst p) { a with ptr := (j.rq + 1) % 272 }).monGrant 1 (arbInst p) 0
  let (s, j) := s.grantRanges j
  s.setJob k { j with st := .running, unit := some p, staging := stg, startNo := s.lode.starts, waitUnit := false,
                      bn := { j.bn with ran := if j.st = .parked then 0 else 32, last := if j.st = .parked then 0 else 32 },
                      parkMode := 0, parkIdx := 0, savedBy := none, refused := !s.peatServes, pair := s.pairOf k j }

/-- A job of a unit's input queue can start: not forwarded, and no staging buffer it needs is missing (R178). -/
def State.startable (s : State) (p k : Nat) : Bool :=
  match s.job k with
  | some j => (decide (j.st = .dispatched) || decide (j.st = .parked)) &&
      (!needsStaging j.opcode || j.staging.isSome || (s.freeStaging (regionOf p)).isSome)
  | none => false

/-- The job an input arbiter grants first (R337): the highest class; within it the requester at or after the pointer;
within the requester a parked job, else the oldest. DEDUCED, log entry 22. -/
def State.pickJob (s : State) (p : Nat) : Option Nat :=
  let ptr := (s.arb 1 (arbInst p)).ptr
  let cand := ((s.inQ p).filter (s.startable p)).filterMap (fun k => (s.job k).map (fun j => (k, j)))
  let top := (cand.map (fun x => x.2.cls)).foldl Nat.max 0
  let cand := cand.filter (fun x => decide (x.2.cls = top))
  let d (x : Nat × Job) := (x.2.rq + 272 - ptr) % 272
  let near := (cand.map d).foldl Nat.min 272
  let cand := cand.filter (fun x => decide (d x = near))
  match cand.find? (fun x => decide (x.2.st = .parked)) with
  | some x => some x.1
  | none => (cand.head?).map (fun x => x.1)

/-- The unit has the fresh randomness that its masks or checks need (R170, R230). -/
def State.unitFed (s : State) (p : Nat) : Bool :=
  match blockOf p with
  | some (.ciph, u) => s.rngOk (u / 8)
  | some (.bn, n) => s.rngOk (n / 4)
  | _ => true

/-- A function takes up the work it holds: it is READY, or it has started and drains after STOP (R42) with the randomness it
needs. -/
def State.serves (s : State) (p : Nat) : Bool :=
  s.ready p || (s.lev.draining.contains p && !s.lev.starting.contains p && s.unitFed p)

/-- An idle READY unit starts the job its input arbiter grants; a digest unit holding its window starts none (R210).
DEDUCED, log entry 22. -/
def State.startNext (s : State) (p : Nat) : State :=
  if selfStarting p && s.serves p && (s.runsOn p).isNone && decide (Map.get (dflt 0) s.units.hold p = 0) then
    match s.pickJob p with
    | some k => match s.job k with | some j => s.startJob p k j | none => s
    | none => s
  else s

/-- Clear and free the staging buffer a job holds (R177). -/
def State.dropStaging (s : State) (j : Job) : State :=
  match j.staging with
  | some b => { s.clearWords (stagingAddr j.region b) 32768 with units := { s.units with staging := drop1 s.units.staging (j.region * 16 + b) } }
  | none => s

/-- A core that holds a job lets it go. -/
def State.freeCore (s : State) (k p : Nat) : State :=
  match coreOf p with
  | some c => if (s.core c).held = k + 1 then s.modCore c (fun x => { x with held := 0, aborting := false }) else s
  | none => s

/-- Take a job off its unit, free its staging buffer, and let the unit start its next job. -/
def State.leaveUnit (s : State) (k : Nat) (j : Job) : State :=
  let s := s.dropStaging j
  match j.unit with
  | none => s
  | some p =>
    let s := if s.runsOn p = some k then (s.setRuns p none).leaveStation p j.begun else s
    let s := (s.setInQ p (drop1 (s.inQ p) k)).freeCore k p
    s.startNext p

/-! ### Completion -/

/-- DW3 of a completed entry: RESLEN and STATUS (Table 2-1). -/
def dw3 (reslen status : Nat) : BitVec 32 := BitVec.ofNat 32 (reslen * 2 ^ 16 + status)

/-- Octets of the result cells, the last written cell filled with zero (R59). -/
def resultCells (l : List Octet) : List Octet := padZ l

/-- Octets that the result cells of a job hold: RESLEN never exceeds them (R59). A GB2 entry has cells 2 and 3 (R95). -/
def Job.room (j : Job) : Nat := if j.gb then 32 else if j.resoff = 0 then 0 else 16 * (j.len - j.resoff)

/-- Write the results and DW3 of a local job into its entry in host memory (R69, R72). DESIGN CHOICE, log entry 24. -/
def State.writeEntry (s : State) (j : Job) : State :=
  if j.origin.isSome then s
  else
    let a := s.cellAddr j.queue (j.pos % 2 ^ 16)
    let s := if j.result.isEmpty then s else
      s.toHost (a + 16 * (if j.gb then 2 else j.resoff)) (resultCells j.result)
    s.toHost (a + 12) (leOctets 4 (dw3 j.result.length j.status).toNat)

/-- Send a result to the originator of a job held for another device (R112). DESIGN CHOICE, log entry 24. -/
def State.sendResult (s : State) (j : Job) : State :=
  match j.origin with
  | some (d, t) => s.post (.result d t j.status j.result j.outData j.pendSess)
  | none => s

/-- The session change a completing job leaves pending: SEQ advances on success (R161); any other status leaves the
session as the job saw it (R76). -/
def State.sessChange (s : State) (k : Nat) (j : Job) (status : Nat) : Option (List Word) :=
  match j.sess with
  | none => none
  | some n =>
    if statusGood status then
      let c := j.pendSess.getD (s.sessView k j n)
      if seqExempt j.opcode then some c else some (ctxSetSeq c (ctxSeq c + 1))
    else none

/-- The element with the least key; the first one on a tie. -/
def argMin (f : Nat → Nat × Nat × Nat) : List Nat → Option Nat
  | [] => none
  | x :: r => match argMin f r with
    | none => some x
    | some y =>
      let a := f x
      let b := f y
      if b.1 < a.1 ∨ (b.1 = a.1 ∧ (b.2.1 < a.2.1 ∨ (b.2.1 = a.2.1 ∧ b.2.2 < a.2.2))) then some y else some x

/-- The context slots in use: those of sessions, and the ones sessions move to (R99, R100). -/
def State.slotsTaken (s : State) : List Nat :=
  s.lode.slotOf.map (fun e => e.2 - 1) ++ s.lode.moving.map (fun m => m.2)

/-- A session's context is being moved (R100). -/
def State.isMoving (s : State) (n : Nat) : Bool := s.lode.moving.any (fun m => m.1 == n)

/-- The region with the most free context slots, the lowest on a tie (R99); a quarantined region has none (R21). -/
def State.slotRegion (s : State) : Nat :=
  let used (rg : Nat) := if s.regionQuar rg then 4096 else (s.slotsTaken.filter (fun c => decide (c / 4096 = rg))).length
  (argMin (fun rg => (used rg, rg, 0)) (List.range 4)).getD 0

/-- A free context slot of a region that is in service (R21, R99). -/
def State.freeSlot (s : State) (rg : Nat) : Option Nat :=
  if s.regionQuar rg then none else (firstFree 4096 (rg * 4096) s.slotsTaken).map (fun i => rg * 4096 + i)

/-- A job that has run in a region (R96): on a unit or core of it, or as a custody opcode that needs none. Forwarded and
station jobs have not, nor has a job that completed before it was placed. -/
def Job.ranInRegion (j : Job) : Bool :=
  j.origin.isNone && j.fwd.isNone && (match j.unit with
    | some p => decide (p < 0x400)
    | none => decide (j.st = .running) && decide (j.opcode ≤ 0o037))

/-- The count of R100: a job that ran outside its session's home region adds one, one that ran at home resets it;
forwarded and station jobs leave it. The 64th moves the context, or raises MIGRATE_BLOCKED. -/
def State.countForeign (s : State) (j : Job) : State :=
  match j.sess.filter (fun _ => j.ranInRegion) with
  | some n =>
    (match s.sessSlot n with
    | none => s
    | some c =>
      if c / 4096 = j.region then { s with lode := { s.lode with count := Map.put (dflt 0) s.lode.count n 0 } }
      else
        let cnt := min 64 (Map.get (dflt 0) s.lode.count n + 1)
        let s : State := { s with lode := { s.lode with count := Map.put (dflt 0) s.lode.count n cnt } }
        if cnt < 64 ∨ s.isMoving n = true then s
        else
          match s.freeSlot j.region with
          | some t => { s with lode := { s.lode with moving := s.lode.moving ++ [(n, t)] } }
          | none => s.event P.lode 0)
  | none => s

/-- Where a command block of each type holds DONE and STATUS (Tables 6-6, 7-1, 8-9, 8-10). -/
def doneWord (typ : Nat) : Nat := match typ with | 0 => 11 | 1 => 10 | 2 => 1 | _ => 6

/-- The instance number of a unit page, modulo 32 (R206). -/
def unitNo (p : Nat) : Nat := match blockOf p with | some (_, i) => i % 32 | none => 0

/-- A unit command ends: DONE, UNIT, STATUS and its length, or a program's IDX, are written into its block, and the
core's wake latch is set (R206, R219, R269, R270). -/
def State.endCmd (s : State) (k : Nat) (j : Job) (c : Cmd) (status reslen : Nat) : State :=
  let u := match j.unit with | some p => unitNo p | none => 0
  let a := c.addr + doneWord c.typ
  let s := s.setWord a (wd (2 ^ 17 + (if c.typ < 3 then u * 2 ^ 12 else 0) + status))
  let s := s.setWord (a + 1) (wd (if c.typ = 2 then min j.bn.idx (bits (c.words.getD 0 0) 6 0 - 1) else reslen))
  let s := s.modCore c.core (fun x => { x with wake := true, cmds := drop1 x.cmds k })
  s.dropJob k

/-- The session a local job names was lost with its region and has not been opened anew (R24). -/
def State.sessLost (s : State) (k : Nat) (j : Job) : Bool :=
  match j.sess with
  | some n => j.origin.isNone && j.opcode != 0o001 && s.lev.lostSess.contains n && !ctxOpen (s.sessView k j n)
  | none => false

/-- The owner of an aborted forward acknowledges the abort once the job has ended (R115). -/
def State.ackOrphan (s : State) (j : Job) : State :=
  match j.origin with
  | some (d, t) => s.post (.abortAck d t)
  | none => s

/-- Complete a job: results and status reach host memory, the job is DONE_UNPUBLISHED with its changes pending (R69). A
result is cut at the entry's result cells (R59). A job whose queue has been shut down is dropped instead (R84); one whose
session was lost completes DEVICE_FAULT (R24). DESIGN CHOICE, log entry 93. -/
def State.finish (s : State) (k : Nat) (j : Job) (status : Nat) (result : List Octet := []) : State :=
  let lost := s.sessLost k j
  let status := if lost then S.deviceFault else status
  let out := if lost then [] else result
  let result := if j.cmd.isSome then out else out.take j.room
  let s := s.countForeign j
  let s := match j.unit with
    | some p => s.noteJob p j status out
    | none => s
  match j.cmd with
  | some c => (s.endCmd k j c status result.length).leaveUnit k j
  | none =>
    let good := statusGood status || status == S.policyRefused
    let j' := { j with
      st := .done, status := status, result := result,
      pendSess := s.sessChange k j status,
      pendCred := if good then j.pendCred else [],
      pendSlot := if good then j.pendSlot else none,
      unit := none, staging := none, pair := none, waitPage := none, waitUnit := false }
    if j.orphan then ((s.dropJob k).leaveUnit k j).ackOrphan j
    else (((s.writeEntry j').sendResult j').setJob k j').leaveUnit k j

/-- Complete without result. -/
def State.fail (s : State) (k : Nat) (j : Job) (status : Nat) : State := s.finish k j status []

/-- Frames' default: free. -/
def Frame.free : Frame := ⟨false, false, false, false, 0, 0⟩

/-- A credential frame. -/
def State.frame (s : State) (f : Nat) : Frame := Map.get (dflt Frame.free) s.cust.frames f

/-- Store a credential frame. -/
def State.setFrame (s : State) (f : Nat) (v : Frame) : State :=
  { s with cust := { s.cust with frames := Map.put (dflt Frame.free) s.cust.frames f v } }

/-- Store a Peat slot. -/
def State.setSlot (s : State) (n : Nat) (v : Slot) : State :=
  { s with cust := { s.cust with slots := Map.put (dflt ⟨0, 0, 0⟩) s.cust.slots n v }, diag := s.diag.written (2 ^ 40 + n) 1 }

/-- The frame that holds a page and is not being evicted. -/
def State.frameOf (s : State) (page : Nat) : Option Nat :=
  (s.cust.frames.find? (fun e => e.2.used && !e.2.evicting && e.2.page == page)).map (fun e => e.1)

/-! ### Discard (R83, R189) -/

/-- Release the context slot of a session that is not open in its committed state. -/
def State.freeSlotIfClosed (s : State) (n : Nat) : State :=
  if ctxOpen (s.sessCtx n) then s
  else { s with lode := { s.lode with slotOf := Map.put (dflt 0) s.lode.slotOf n 0,
                                      count := Map.put (dflt 0) s.lode.count n 0 } }

/-- Put a frame whose evict is discarded back in use; free one whose load is discarded (R156). -/
def State.dropFrame (s : State) (j : Job) : State :=
  match j.frame with
  | none => s
  | some f =>
    if j.opcode = 0o011 then s.setFrame f { s.frame f with evicting := false }
    else if j.opcode = 0o010 ∧ j.st ≠ .done then (s.clearWords (frameBase f) 32768).setFrame f Frame.free
    else s

/-- A bignum unit aborts the running job that is discarded (R236): counted, and ABORT_DONE. -/
def State.noteAbort (s : State) (j : Job) : State :=
  match j.unit with
  | some p => if j.utype = .bignum ∧ j.st = .running then (s.incSat p R.BN_ABORTS).event p 5 else s
  | none => s

/-- Discard a job: it leaves its unit, its saved context is cleared, its pending changes are rolled back (R83).
DEDUCED, log entry 33. -/
def State.discard (s : State) (k : Nat) : State :=
  match s.job k with
  | none => s
  | some j =>
    let s := (((s.leaveUnit k j).noteAbort j).freeRec j).dropFrame j
    let s := s.dropJob k
    match j.sess.filter (fun _ => j.origin.isNone) with
    | some n => s.freeSlotIfClosed n
    | none => s

/-! ### Publication (R72) -/

/-- The effective number of journal sectors (Table 4-20). -/
def State.storeCount (s : State) : Nat :=
  let n := s.rfld P.peat R.PEAT_STORE_COUNT 6 0
  if 2 ≤ n ∧ n ≤ 64 then n else 2

/-- Records the journal can hold: 128 pages of 8 segments in each sector (R465). DEDUCED, log entry 37. -/
def State.journalCap (s : State) : Nat := s.storeCount * 1024

/-- JOURNAL_FULL (R144). -/
def State.journalFull (s : State) : Bool := s.rbit P.peat R.PEAT_STAT 2

/-- The journal's records. -/
def State.setJournal (s : State) (l : List JRec) : State := { s with cust := { s.cust with journal := l } }

/-- Journal segment `i`, or its commit mark, is programmed (R465). -/
def State.progSeg (s : State) (i : Nat) (mark : Bool) : State :=
  let k := 16 * (s.rfld P.peat R.PEAT_STORE_BASE 9 0 * 128 + i / 8) + 2 * (i % 8) + b2n mark
  let s := if mark then s else s.drawIv (2 ^ 17 + k / 2) 8
  { s with flash := { s.flash with segs := add1 s.flash.segs k } }

/-- A journal without a free segment is compacted (R144). -/
def State.journalFills (s : State) : State :=
  if s.journalCap ≤ s.cust.journal.length ∧ s.journalFull = false then
    (({ s with cust := { s.cust with compacting := true } } : State).setRbit P.peat R.PEAT_STAT 1 true)
  else s

/-- STORE_COUNT has been raised or a slot destroyed: JOURNAL_FULL ends (R144). DEDUCED, log entry 37. -/
def State.journalRelief (s : State) : State :=
  if s.journalFull then (s.setRbit P.peat R.PEAT_STAT 2 false).journalFills else s

/-- A change is committed: the commit mark of its record is programmed (R144). A slot destroyed while the journal had no free
segment has no record: its older ones no longer count. DEDUCED, log entry 37. -/
def State.markRec (s : State) (n : Option Nat) (v : Slot) : State :=
  match s.cust.journal.findIdx? (fun r => r.slot == n && r.val == v && !r.mark) with
  | some i => (s.setJournal (s.cust.journal.modify i (fun r => { r with mark := true }))).progSeg i true
  | none => s.setJournal (s.cust.journal.map (fun r => if r.slot = n then { r with mark := false } else r))

/-- The slots whose cached HMAC states are held (R212). -/
def State.setGbCache (s : State) (l : List Nat) : State := { s with cust := { s.cust with gbCache := l } }

/-- Give a session a context slot: in the region given, or where most are free (R99). -/
def State.allocSlot (s : State) (n rg : Nat) : State :=
  if (s.sessSlot n).isSome then s
  else
    match (s.freeSlot rg).or (s.freeSlot s.slotRegion) with
    | some c => { s with lode := { s.lode with slotOf := Map.put (dflt 0) s.lode.slotOf n (c + 1) } }
    | none => s

/-- The jobs of a session whose SESS_OPEN is done and not yet published, in a queue (R99). -/
def State.openPending (s : State) (q n : Nat) : List Job :=
  ((s.queue q).fifo.filterMap s.job).filter (fun j => decide (j.opcode = 0o001) && decide (j.st = .done) &&
    decide (j.sess = some n) && statusGood j.status)

/-- A session opens with its home in the region where its SESS_OPEN ran (R99): a slot that an earlier life of its number
left in another region is given up. -/
def State.rehome (s : State) (n rg : Nat) : State :=
  match s.sessSlot n with
  | some c => if c / 4096 = rg then s
    else { s.clearWords (ctxBase c) 64 with
      lode := { s.lode with slotOf := Map.put (dflt 0) s.lode.slotOf n 0, count := Map.put (dflt 0) s.lode.count n 0 } }
  | none => s

/-- Commit one job's changes (R72, R74, R151): the session context, credential entries and the slot. A close gives the
context slot up unless the session has been opened anew behind it (R99). DEDUCED, log entry 33. -/
def State.commit (s : State) (j : Job) : State :=
  let s := match j.sess, j.pendSess with
    | some n, some c =>
      let s : State := if ctxOpen c then { s with lev := { s.lev with lostSess := drop1 s.lev.lostSess n } } else s
      let s := if j.opcode = 0o001 then s.rehome n j.region else s
      let s := if ctxOpen c then s.allocSlot n j.region else s
      let s := match s.sessSlot n with | some x => s.setWords (ctxBase x) c | none => s
      if ctxOpen c || !(s.openPending j.queue n).isEmpty then s else s.freeSlotIfClosed n
    | some n, none => s.freeSlotIfClosed n
    | none, _ => s
  let s := j.pendCred.foldl (fun t e => match t.frameOf e.1 with
      | some f => (t.setWords (frameBase f + 8 * e.2.1) e.2.2).setFrame f { t.frame f with dirty := true }
      | none => t) s
  let s := match j.pendSlot with
    | some (n, v) =>
      let old := s.slot n
      let s := s.setSlot n v
      let s := if tb v.attr0 0 || tb old.attr0 0 then s.markRec (some n) v else s
      let s := if tb old.attr0 0 && !tb v.attr0 0 then s.journalRelief else s
      s.setGbCache (if tb v.attr1 6 then add1 s.cust.gbCache n else drop1 s.cust.gbCache n)
    | none => s
  if j.opcode = 0o011 ∧ statusGood j.status = true then
    match j.frame with
    | some f => (s.clearWords (frameBase f) 32768).setFrame f Frame.free
    | none => s
  else s

/-- The jobs at the front of a queue that are DONE_UNPUBLISHED. -/
def State.donePrefix (s : State) : List Nat → List Nat
  | [] => []
  | k :: r => match s.job k with
    | some j => if j.st = .done then k :: s.donePrefix r else []
    | none => []

/-- A job in flight counts toward WAITS while it waits for a page (Table 2-11). -/
def State.qCount (s : State) (q : Nat) (f : Job → Bool) : Nat :=
  (((s.queue q).fifo.filterMap s.job).filter f).length

end Sys2Proof.Machine
end

