-- ==== Sys2Proof/Machine/Ledger.lean ====
section
/-! DEFINITION. The item ledger as bound jobs see it (R413 to R420, R428): items, windows, what binds a job to an item,
marking a reject, recording a bound job's outcome; and the replay records of unbound station jobs (R369). -/
namespace Sys2Proof.Machine

/-! ### Station jobs -/

/-- The station opcode of a job: the inner one of a LINE_ITEM. -/
def Job.stnOp (j : Job) : Nat := if j.opcode = 0o500 then j.inner else j.opcode

/-- The OPARG of the station operation (R552: cell 1 DW3 of a LINE_ITEM). -/
def Job.stnArg (j : Job) : BitVec 32 := if j.opcode = 0o500 then j.dw 1 3 else j.oparg

/-- The entry cell of an operand cell of the station operation (R552). -/
def Job.stnCell (j : Job) (c : Nat) : Nat := if j.opcode = 0o500 then c + 1 else c

/-- The job is bound to an item. -/
def Job.bound (j : Job) : Bool := j.opcode == 0o500

/-- The line's number of the station a job names: 0 to 15 CST, 16 to 31 FST. -/
def Job.stnNo (j : Job) : Nat := bits j.stnArg 3 0 + (if j.stnOp < 0o440 then 0 else 16)

/-- The page of a line station. -/
def stnPage (k : Nat) : Nat := if k < 16 then P.cst k else P.fst (k - 16)

/-- The contact or field station page of a station job. -/
def Job.stationPage (j : Job) : Nat := stnPage j.stnNo

/-- The item a line job names (R428). -/
def Job.itemNo (j : Job) : Nat := (j.dw 1 0).toNat + bits (j.dw 1 1) 3 0 * 2 ^ 32

/-- WRITE of a station APDU: OPARG bit 6 of CST_APDU, bit 8 of FST_APDU. -/
def Job.isWrite (j : Job) : Bool :=
  (decide (j.stnOp = 0o401) && tb j.stnArg 6) || (decide (j.stnOp = 0o441) && tb j.stnArg 8)

/-- The operation is a CST_APDU or FST_APDU. -/
def Job.isApdu (j : Job) : Bool := decide (j.stnOp = 0o401) || decide (j.stnOp = 0o441)

/-! ### Items and windows -/

/-- A line register. -/
abbrev State.lreg (s : State) (w : Nat) : Nat := (s.reg P.line w).toNat

/-- The item of a number. -/
def State.item (s : State) (n : Nat) : Option Item := s.line.items.find? (fun i => i.num == n)

/-- Change an item. -/
def State.modItem (s : State) (n : Nat) (f : Item → Item) : State :=
  { s with line := { s.line with items := s.line.items.map (fun i => if i.num = n then f i else i) } }

/-- The number the next item gets. -/
def State.nextItem (s : State) : Nat := (s.reg36 P.line R.LINE_NEXT_ITEM).toNat

/-- HOLD is asserted. -/
def State.holding (s : State) : Bool := s.rbit P.line R.LINE_STAT 0

/-- The furthest distance after a mark that the medium has reached: what has happened at a distance stays happened when the
medium runs back (R415 to R418, R424). DEDUCED, log entry 70. -/
def State.dist (s : State) (m : Int) : Int := s.line.high - m

/-- STN_OPEN of a line station. -/
def State.openAt (s : State) (k : Nat) : Nat := s.lreg (R.LINE_STN_OPEN + k)
/-- STN_CLOSE of a line station. -/
def State.closeAt (s : State) (k : Nat) : Nat := s.lreg (R.LINE_STN_CLOSE + k)
/-- A station is on the line (R416). -/
def State.onLine (s : State) (k : Nat) : Bool := !(s.openAt k == 0 && s.closeAt k == 0)

/-- The open window of an item at a station. -/
def State.window (s : State) (n k : Nat) : Option Window := s.line.windows.find? (fun w => w.item == n && w.stn == k)

/-- Whether a LINE_ITEM's own fields are as R428 and R552 lay down; inner fields are the station's to check.
DEDUCED, log entry 71. -/
def Job.lineFieldsBad (j : Job) : Bool :=
  let idread := tb j.oparg 9
  let len := bits (j.dw 1 2) 11 8
  decide (bits j.oparg 31 10 ≠ 0) || decide (bits (j.dw 1 1) 31 4 ≠ 0) || decide (bits (j.dw 1 2) 31 12 ≠ 0) ||
    !innerKnown j.inner || (idread && decide (j.inner ≠ 0o401)) ||
    (if idread then !([4, 7, 10].contains len) else decide (j.dw 1 2 ≠ 0))

/-! ### Rejects (R414, R415) -/

/-- REASON after a further reason: MISMATCH prevails, then INDET, then the first. -/
def nextReason (old new : Nat) : Nat := if old = 3 ∨ new = 3 then 3 else if old = 2 ∨ new = 2 then 2 else if old = 0 then new else old

/-- Mark an item reject (R414): REASON, REJECTS, event REJECT. -/
def State.markItem (s : State) (n reason : Nat) : State :=
  match s.item n with
  | none => s
  | some i =>
    let t := s.modItem n (fun x => { x with reject := true, reason := nextReason x.reason reason })
    if i.reject then t else (t.inc36 P.line R.LINE_REJECTS).event P.line 2

/-- An item has reached DECIDE (R415): a window that closes there still rejects it. DEDUCED, log entry 71. -/
def State.decided (s : State) (i : Item) : Bool := i.final || decide ((s.lreg R.LINE_DECIDE : Int) < s.dist i.m)

/-- Mark an item reject before it has reached DECIDE (R414, R415). DEDUCED, log entry 71. -/
def State.rejectItem (s : State) (n reason : Nat) : State :=
  match s.item n with
  | none => s
  | some i => if s.decided i then s else s.markItem n reason

/-! ### Outcomes (R369, R413, R414) -/

/-- The replay records of a line station. -/
def State.replays (s : State) (k : Nat) : List Replay := if k < 16 then (s.cst k).replay else (s.fst (k - 16)).replay

/-- Replace the replay records of a line station. -/
def State.setReplays (s : State) (k : Nat) (l : List Replay) : State :=
  if k < 16 then s.setCst k { s.cst k with replay := l } else s.setFst (k - 16) { s.fst (k - 16) with replay := l }

/-- Release the replay records of a queue that a predicate names, at every station (R369). -/
def State.dropReplays (s : State) (q : Nat) (f : Nat → Bool) : State :=
  s.each (List.range 32) (fun t k =>
    if (t.replays k).any (fun r => r.queue == q && f r.pos) then
      t.setReplays k ((t.replays k).filter (fun r => !(r.queue == q && f r.pos)))
    else t)

/-- A replayed APDU result has flag REPLAYED set (Table 13-8). -/
def replayed (apdu : Bool) (l : List Octet) : List Octet :=
  if apdu && decide (l.length = 8) then l.take 7 ++ [l.getD 7 0 ||| 8] else l

/-- Record a bound job's outcome with its item, and mark the item reject where the status asks for it (R413, R414). -/
def State.recordBound (s : State) (j : Job) (status : Nat) (result : List Octet) : State :=
  let n := j.itemNo
  let s := s.modItem n (fun i => if 8 ≤ i.recs.length then i else
    { i with recs := i.recs ++ [⟨j.queue, j.pos, j.inner, j.stnNo, status, result.take 40⟩] })
  if status = S.ok ∨ status = S.okTruncated ∨ status = S.cardStatus then s
  else s.rejectItem n (if status = S.indeterminate then 2 else 1)

/-- Complete a bound job that has not run at its station. DEDUCED, log entry 71. -/
def State.failBound (s : State) (k : Nat) (j : Job) (status : Nat) : State := (s.recordBound j status []).fail k j status

/-- The recorded outcome of a bound job that is replayed (R413). DEDUCED, log entry 64. -/
def State.boundReplay (s : State) (j : Job) : Option JobRec :=
  match s.item j.itemNo with
  | some i => i.recs.find? (fun r => r.queue == j.queue && r.pos == j.pos && r.opcode == j.inner && r.stn == j.stnNo)
  | none => none

/-- Bound jobs of an item that have left FETCHED and not yet completed. DEDUCED, log entry 71. -/
def State.boundLive (s : State) (n : Nat) : Nat :=
  (s.jobs.filter (fun e => match e.2 with
    | some j => j.bound && j.itemNo == n && (decide (j.st = .dispatched) || decide (j.st = .running))
    | none => false)).length

/-- What becomes of a bound job that leaves FETCHED (R413, R418, R552): placed when it may be, completed at once, or it
stays. -/
inductive Bound where
  /-- it waits in FETCHED -/
  | wait
  /-- it goes to its station's input queue -/
  | place
  /-- it completes with a recorded outcome -/
  | replay (r : JobRec)
  /-- it completes with a status -/
  | fail (status : Nat)
  deriving DecidableEq, Repr

/-- R418 for a bound job. DEDUCED, log entry 71. -/
def State.bind (s : State) (j : Job) : Bound :=
  let n := j.itemNo
  if j.lineFieldsBad then .fail S.invalidOperand
  else match s.boundReplay j with
    | some r => .replay r
    | none =>
      if s.nextItem + 4096 ≤ n ∨ s.onLine j.stnNo = false then .fail S.invalidOperand
      else if s.nextItem ≤ n then .wait
      else match s.item n with
        | none => .fail S.windowMissed
        | some i =>
          if (s.closeAt j.stnNo : Int) ≤ s.dist i.m ∨ (s.window n j.stnNo).any (fun w => !w.admitted) = true then
            .fail S.windowMissed
          else if i.reject || i.done then .fail S.policyRefused
          else if 8 ≤ i.recs.length + s.boundLive n then .fail S.policyRefused
          else .place

end Sys2Proof.Machine
end

