-- ==== Sys2Proof/Machine/Cred.lean ====
section
/-! DEFINITION. Handles, slot references and credential entries, and the checks of R104, R138 and R149 that every job
naming one goes through. -/
namespace Sys2Proof.Machine

/-! ### Handles (R103, R104) -/

/-- One bit step of the CRC-8 with polynomial 0x07. -/
def crc8Bit (c : Nat) : Nat := if c.testBit 7 then ((c <<< 1) ^^^ 0x07) % 256 else c <<< 1

/-- One octet of the CRC-8. -/
def crc8Step (c : Nat) (o : Octet) : Nat :=
  crc8Bit (crc8Bit (crc8Bit (crc8Bit (crc8Bit (crc8Bit (crc8Bit (crc8Bit (c ^^^ o.toNat))))))))

/-- CHECK of handle bits 53:8 (R104). DEDUCED, log entry 35. -/
def handleCheck (top : Nat) : Nat := ((beOctets 6 top).foldl crc8Step 0) ^^^ 0x23

/-- A handle's page number (Table 3-1). -/
def hPage (h : Nat) : Nat := h / 2 ^ 28 % 2 ^ 26
/-- A handle's entry number. -/
def hEntry (h : Nat) : Nat := h / 2 ^ 16 % 4096
/-- A handle's generation. -/
def hGen (h : Nat) : Nat := h / 256 % 256
/-- A handle whose CHECK matches (R104). -/
def handleOk (h : Nat) : Bool := h % 256 == handleCheck (h / 256)
/-- The handle of an entry at a generation. -/
def mkHandle (page entry gen : Nat) : Nat :=
  let top := page * 2 ^ 20 + entry * 2 ^ 8 + gen
  top * 256 + handleCheck top

/-- The handle in a cell's doublewords `d` and `d + 1`, 54 bits. -/
def Job.handle (j : Job) (c d : Nat) : Nat := ((j.dw c d).toNat + (j.dw c (d + 1)).toNat * 2 ^ 32) % 2 ^ 54

/-- The reserved bits 63:54 above a handle are zero. -/
def Job.handlePad (j : Job) (c d : Nat) : Bool := decide (bits (j.dw c (d + 1)) 31 22 = 0)

/-! ### Slot references (R138) -/

/-- The slot of a reference. -/
def refSlot (r : BitVec 32) : Nat := bits r 15 0
/-- The generation of a reference. -/
def refGen (r : BitVec 32) : Nat := bits r 24 16
/-- No reserved bit of a reference is set, VALID apart. DEDUCED, log entry 26. -/
def refClean (r : BitVec 32) : Bool := decide (bits r 30 25 = 0)
/-- A reference to a slot at a generation. -/
def mkRef (slot gen : Nat) : Nat := gen * 2 ^ 16 + slot

/-- ATTR0.ALG. -/
def Slot.alg (v : Slot) : Nat := bits v.attr0 17 14
/-- ATTR0.COLOUR. -/
def Slot.colour (v : Slot) : Nat := bits v.attr0 5 2
/-- ATTR0.EXPORT. -/
def Slot.export (v : Slot) : Bool := tb v.attr0 1
/-- ATTR0.PERSIST. -/
def Slot.persist (v : Slot) : Bool := tb v.attr0 0
/-- ATTR1.GEN. -/
def Slot.gen (v : Slot) : Nat := bits v.attr1 17 9
/-- ATTR1.STATE. -/
def Slot.state (v : Slot) : Nat := bits v.attr1 8 7

/-- The key octets a slot's algorithm uses (Table 4-6). -/
def Slot.keyOctets (v : Slot) : List Octet :=
  (beOctets 32 v.key.toNat).take (if v.alg = 1 then 16 else if v.alg = 2 then 24 else 32)

/-- The colour `c` of a slot or a session is in the job's colour key (R142). -/
def Job.keyHolds (j : Job) (c : Nat) : Bool := tb j.qkey c

/-- The colour `c` of a credential is in the job's colour key; a GB2 job is checked as if every credential had colour 0
(R142, R95). -/
def Job.colourOk (j : Job) (c : Nat) : Bool := j.keyHolds (if j.gb then 0 else c)

/-- PEAT refuses the job's slot request (R549): a unit asked for its key when it started the job, other requests come as
the job runs. -/
def State.refuses (s : State) (j : Job) : Bool :=
  match j.unit with
  | some p => if (coreOf p).isSome || j.utype == .bignum then !s.peatServes else j.refused
  | none => !s.peatServes

/-- The slot a reference of a job names: the one its unit holds the HMAC states of (R212), else the slot itself. -/
def State.slotFor (s : State) (j : Job) (r : BitVec 32) : Slot := j.pair.getD (s.slot (refSlot r))

/-- The checks of R138: live, generation, colour, usage bit (Table 4-7). DEDUCED, log entry 32. -/
def State.slotCheck (s : State) (j : Job) (r : BitVec 32) (usage : Nat) : Option Nat :=
  let v := s.slotFor j r
  if !refClean r then some S.invalidOperand
  else if s.refuses j then some S.notReady
  else if v.state ≠ 1 ∨ v.gen ≠ refGen r then some S.staleHandle
  else if !j.keyHolds v.colour || !tb v.attr0 usage then some S.denied
  else none

/-- A slot's attribute combination is allowed (R137). DEDUCED, log entry 32. -/
def attrOk (attr0 : Word) : Bool :=
  let alg := bits attr0 17 14
  let usage := bits attr0 13 6
  decide (alg ≠ 0) && decide (alg < 12) && decide (usage ≠ 0) && (!(alg == 9 || alg == 11) || usage == 1)

/-! ### Credential entries (Table 4-8) -/

/-- Word 7's GEN. -/
def eGen (w : List Word) : Nat := bits (cw w 7) 17 10
/-- Word 7's COLOUR. -/
def eColour (w : List Word) : Nat := bits (cw w 7) 9 6
/-- Word 7's STATE. -/
def eState (w : List Word) : Nat := bits (cw w 7) 5 4
/-- Word 7's KIND. -/
def eKind (w : List Word) : Nat := bits (cw w 7) 3 2
/-- The 16 octets of the secret (R147). -/
def eSecret (w : List Word) : List Octet :=
  beOctets 16 ((List.range 8).foldl (fun a i => a + (if i = 7 then bits (cw w 7) 1 0 else (cw w i).toNat) * 2 ^ (18 * i)) 0)
/-- The words of an entry. -/
def mkEntry (secret : List Octet) (gen colour state kind : Nat) : List Word :=
  let n := beNat secret
  (List.range 7).map (fun i => wd (n / 2 ^ (18 * i))) ++
    [wd (gen * 2 ^ 10 + colour * 2 ^ 6 + state * 2 ^ 4 + kind * 4 + n / 2 ^ 126 % 4)]

/-- An entry as a job sees it: with the pending content an earlier job of its queue left (R151). -/
def State.credView (s : State) (k : Nat) (j : Job) (page entry : Nat) : List Word :=
  let base := match s.frameOf page with
    | some f => s.words (frameBase f + 8 * entry) 8
    | none => List.replicate 8 0
  if j.origin.isSome then base
  else (s.earlier k j).foldl (fun acc e =>
    if e.st = .done then
      (match e.pendCred.find? (fun c => c.1 == page && c.2.1 == entry) with | some c => c.2.2 | none => acc)
    else acc) base

/-- The chunk of an entry has verified, so the entry is usable (R154). -/
def State.usable (s : State) (page entry : Nat) : Bool :=
  match s.frameOf page with
  | some f => (s.frame f).chunks.getLsbD (entry / 256)
  | none => false

/-- A follower is live and of a kind (R148). -/
def State.follower (s : State) (k : Nat) (j : Job) (page entry kind : Nat) : Bool :=
  let w := s.credView k j page entry
  decide (entry < 4096) && decide (eState w = 1) && decide (eKind w = kind)

/-- Kind and followers: `need` lists offset and kind of each (R148, Table 4-9). -/
def State.kindOk (s : State) (k : Nat) (j : Job) (page entry kind : Nat) (need : List (Nat × Nat)) : Bool :=
  decide (eKind (s.credView k j page entry) = kind) && need.all (fun f => s.follower k j page (entry + f.1) f.2)

/-- R149, steps 1 to 5, of a job that uses an entry's secret. DEDUCED, log entry 35. -/
def State.credCheck (s : State) (k : Nat) (j : Job) (h : Nat) : Option Nat :=
  let w := s.credView k j (hPage h) (hEntry h)
  if !handleOk h then some S.staleHandle
  else if !s.usable (hPage h) (hEntry h) then some S.notResident
  else if eState w = 3 then some S.deviceFault
  else if eState w ≠ 1 then some S.staleHandle
  else if eGen w ≠ hGen h then some S.staleHandle
  else if !j.colourOk (eColour w) then some S.denied
  else none

/-! ### KEYREF and HANDLE of a context (Table 4-14) -/

/-- HANDLE n of a context. -/
def ctxHandle (c : List Word) (n : Nat) : Nat :=
  (cw c (0o14 + 3 * n)).toNat + (cw c (0o15 + 3 * n)).toNat * 2 ^ 18 + (cw c (0o16 + 3 * n)).toNat * 2 ^ 36

/-- The words of a key reference. -/
def keyrefWords (r : BitVec 32) : List Word := [wd (bits r 15 0), wd (b2n (tb r 31) * 2 ^ 17 + bits r 24 16)]

/-- The words of a handle. -/
def handleWords (h : Nat) : List Word := [wd h, wd (h / 2 ^ 18), wd (h / 2 ^ 36)]

/-! ### Messages over several jobs (R179, R180) -/

/-- Opcodes whose message may span jobs (R179). -/
def chains (op : Nat) : Bool := op == 0o042 || op == 0o043 || op == 0o044 || op == 0o045 || op == 0o051 || op == 0o052

abbrev Job.more (j : Job) : Bool := tb j.oparg 5
abbrev Job.cont (j : Job) : Bool := tb j.oparg 4

/-- The session's CHAIN words as a job sees them. DEDUCED, log entry 42. -/
def State.chain (s : State) (k : Nat) (j : Job) : List Word :=
  match j.sess with
  | some n => ((s.sessView k j n).drop 0o22).take 24
  | none => List.replicate 24 0

/-- The job continues the message in CHAIN: cell 1, KSRC and KREF say nothing (R180). -/
def Job.chained (j : Job) : Bool := !j.gb && j.cont

/-- CHAIN holds a message of the job's opcode (R175, R179). -/
def State.chainOk (s : State) (k : Nat) (j : Job) : Bool :=
  let w := cw (s.chain k j) 0
  decide (w ≠ 0) && decide (bits w 17 9 = j.opcode)

/-- KSRC of CHAIN: the message's key is a credential. -/
def State.chainCred (s : State) (k : Nat) (j : Job) : Bool := tb (cw (s.chain k j) 0) 0

/-- The handle in CHAIN.KREF. -/
def State.chainHandle (s : State) (k : Nat) (j : Job) : Nat :=
  let c := s.chain k j
  (cw c 1).toNat + (cw c 2).toNat * 2 ^ 18 + (cw c 3).toNat * 2 ^ 36

/-- The slot reference in CHAIN.KREF. -/
def State.chainRef (s : State) (k : Nat) (j : Job) : BitVec 32 :=
  let c := s.chain k j
  BitVec.ofNat 32 ((cw c 1).toNat + bits (cw c 2) 6 0 * 2 ^ 18)

/-- The handle of the credential a job names, found from its opcode (R96 step 1). -/
def State.credOf (s : State) (k : Nat) (j : Job) : Option Nat :=
  match j.opcode with
  | 0o012 => some (j.handle 1 0) | 0o013 => some (j.handle 1 0) | 0o014 => some (j.handle 1 0)
  | 0o015 => if tb j.oparg 0 then none else some (j.handle 1 0)
  | 0o060 => if j.gb then some (leNat ((j.data 1).take 8) % 2 ^ 54)
      else if tb j.oparg 0 then none else some (j.handle 1 0)
  | 0o061 => if tb j.oparg 0 then none else some (j.handle 1 0)
  | 0o305 => some (j.handle 1 0)
  | 0o310 => some (j.handle 1 0)
  | op =>
    if 0o040 ≤ op ∧ op ≤ 0o056 ∧ !j.gb then
      if j.cont then (if s.chainOk k j && s.chainCred k j then some (s.chainHandle k j) else none)
      else if bits j.oparg 1 0 = 1 then some (j.handle 1 0) else none
    else none

/-- The slots a job's opcode reads (R137, R171, R182, R197); a GB_HMAC job that holds its slot's states reads it no more
(R212). DESIGN CHOICE, log entry 90. -/
def State.slotRefs (s : State) (k : Nat) (j : Job) : List (BitVec 32) :=
  let r (c : Nat) : BitVec 32 := j.dw 1 c &&& 0x7FFFFFFF
  let ref (n : Nat) : List (BitVec 32) := match j.sess with
    | some x => [ctxKeyref (s.sessView k j x) n &&& 0x7FFFFFFF]
    | none => []
  let op := j.opcode
  if op = 0o012 ∨ op = 0o013 then [r 2]
  else if op = 0o021 ∨ op = 0o023 then [r 0]
  else if op = 0o022 then [r 0, j.oparg]
  else if op = 0o025 then [j.oparg]
  else if op = 0o061 ∨ (op = 0o060 ∧ !j.gb) then (if tb j.oparg 0 then [r 0, r 1] else [])
  else if (0o040 ≤ op ∧ op ≤ 0o056) ∨ op = 0o160 ∨ op = 0o161 then
    (if j.gb then ref 0
    else if j.cont then (if s.chainOk k j && !s.chainCred k j then [s.chainRef k j] else [])
    else match bits j.oparg 1 0 with
      | 0 => [r 0] | 2 => ref (bits j.oparg 3 2) | _ => [])
  else if op = 0o162 then (if j.pair.isSome then [] else ref 0)
  else if op = 0o306 then [r 0, r 1]
  else if op = 0o300 ∨ op = 0o301 ∨ op = 0o304 ∨ op = 0o307 ∨ op = 0o340 ∨ op = 0o342 ∨ op = 0o350 ∨ op = 0o351 then [r 0]
  else []

/-- Opcodes that change credential memory or Peat and are never forwarded (R108). -/
def neverForwarded (op : Nat) : Bool :=
  [0o010, 0o011, 0o012, 0o013, 0o014, 0o015, 0o020, 0o021, 0o023, 0o024, 0o304, 0o307].contains op

/-- A job names a Peat slot or a credential (R131); GB_HMAC's unit is given its slot's HMAC states (R212, R215). -/
def State.namesKey (s : State) (k : Nat) (j : Job) : Bool :=
  (s.credOf k j).isSome || !(s.slotRefs k j).isEmpty || j.opcode == 0o162

/-- Credential entry fields of a word 7 with a new state, secret cleared where asked. -/
def entryWithState (w : List Word) (st : Nat) (clear : Bool) : List Word :=
  let w7 := putBits (cw w 7) 5 4 st
  (if clear then List.replicate 7 0 else w.take 7) ++ [if clear then putBits w7 1 0 0 else w7]

end Sys2Proof.Machine
end

