-- ==== Sys2Proof/Machine/Queue.lean ====
section
/-! DEFINITION. The queue engine (R55 to R95): doorbells, fetching and checking entries, host data, publication,
malformed entries, shutdown. -/
namespace Sys2Proof.Machine

/-! ### Helpers -/

/-- Two handles name the same credential entry, whatever their generations (R151). -/
def sameEntry (h g : Nat) : Bool := hPage h == hPage g && hEntry h == hEntry g

/-- A job may leave FETCHED: its fence and its session's order are satisfied (R70), no earlier job of its queue is still
changing the credential entry it names (R151), and its session is not being moved (R100). -/
def State.canLeave (s : State) (k : Nat) (j : Job) : Bool :=
  if j.origin.isSome then true
  else
    let e := s.earlier k j
    (!j.fence || e.all (fun x => decide (x.st = .done))) &&
    (match j.sess with
     | some n => e.all (fun x => decide (x.sess ≠ some n) || decide (x.st = .done)) &&
        !s.isMoving n
     | none => true) &&
    (match s.credOf k j with
     | some h => e.all (fun x => decide (x.st = .done) || !([0o012, 0o013, 0o014, 0o015].contains x.opcode &&
        (match s.credOf 0 x with | some g => sameEntry g h | none => false)))
     | none => true)

/-- The queue's position after its last taken entry goes back to a position. -/
def State.setFetch (s : State) (q : Nat) (p : Word) : State := s.setReg (P.wq q) R.WQ_FETCH p

/-- Remove a key from a queue's jobs in flight. -/
def State.unqueue (s : State) (q k : Nat) : State :=
  s.setQueue q { s.queue q with fifo := drop1 (s.queue q).fifo k }

/-- A job begun on a core, a bignum unit or a medium cannot be discarded in the same step: it runs to its safe point
(R83 items 3 and 6, R84, R236, R271). So does a running cipher job whose only safe point is its end (R184). -/
def runsOn2 (j : Job) : Bool :=
  decide (j.st = .running) && (match unitType j.opcode j.inner with
    | .core => true | .bignum => true | .contact => j.begun | .field => j.begun
    | .cipher => j.cmd.isNone && ([0o053, 0o054, 0o055, 0o056, 0o060, 0o061].contains j.opcode) && j.ins.all j.dataHere
    | .none => false | .digest => false)

/-- Discard one job of a queue that shuts down: at once, or marked to end at its safe point; a forwarded job's owner is
sent an abort (R83 item 5, R115). DEDUCED, log entry 25. -/
def State.discardFrom (s : State) (q k : Nat) : State :=
  match s.job k with
  | none => s.unqueue q k
  | some j =>
    let s := s.unqueue q k
    if runsOn2 j then s.setJob k { j with orphan := true, pendSess := none, pendCred := [], pendSlot := none }
    else match j.fwd with
      | some f =>
        if j.st = .dispatched then
          let s := s.discard k
          let s := s.post (.abort f.owner f.tag)
          s.setQueue q { s.queue q with aborts := (s.queue q).aborts ++ [f.tag] }
        else s.discard k
      | none => s.discard k

/-- Discard every job of a queue, newest first (R83 items 2 to 7). DEDUCED, log entry 25. -/
def State.discardAll (s : State) (q : Nat) : State :=
  s.each (s.queue q).fifo.reverse (fun t k => t.discardFrom q k)

/-- A shut-down queue has nothing left that must end at a safe point or be acknowledged. -/
def State.queueQuiet (s : State) (q : Nat) : Bool :=
  (s.queue q).aborts.isEmpty &&
    s.jobs.all (fun e => match e.2 with | some j => !(j.orphan && j.queue == q && j.origin.isNone) | none => true)

/-- EN written 0 on a queue page (R83): no head from now on, every job discarded, STOPPING until the rest has ended. -/
def State.queueShutdown (s : State) (q : Nat) : State :=
  let p := P.wq q
  let s := ((s.setEn p false).setStat p ST.ready false).setStat p ST.stopping true
  let s := s.discardAll q
  s.setQueue q { s.queue q with draining := false, failed := none, hdr := none }

/-- The queue's shutdown ends: STOPPING clears and STOPPED is raised (R83); a pending restart begins (R43). -/
def State.queueStopped (s : State) (q : Nat) : State :=
  (s.setStat (P.wq q) ST.stopping false).event (P.wq q) 3

/-- EN written 1 on a queue page: LOG2SIZE must be in range (R93); ERROR clears, fetching resumes at the published head
(R85, R90). -/
def State.queueStart (s : State) (req : Requester) (q : Nat) : State :=
  let p := P.wq q
  let k := s.log2size q
  if 6 ≤ k ∧ k ≤ 16 then
    let s := ((s.setEn p true).setStat p ST.error false).setStat p ST.ready true
    let s := s.setFetch q (s.reg p R.WQ_HEAD)
    s.setQueue q { s.queue q with stalled := false, draining := false, failed := none, hdr := none }
  else s.pgErr p 1 req R.PG_CTRL

/-- The queue has stopped on an error, or drained, and every job in flight is published: it clears EN with nothing to
discard (R87, R89). The shutdown lasts until what its jobs left on cores, units, stations or other devices has ended.
DEDUCED, log entry 25. -/
def State.settleFailed (s : State) (q : Nat) : State :=
  if ((s.queue q).failed.isSome || (s.queue q).draining) && (s.queue q).fifo.isEmpty then
    let t := s.queueShutdown q
    if t.queueQuiet q then t.queueStopped q else t
  else s

/-- The queue stops on an error at a position (R89, R91): position and cause latched, ERROR, the event; jobs from the
failing one on are discarded. DEDUCED, log entry 25. -/
def State.queueError (s : State) (q : Nat) (pos : Word) (cause : Nat) : State :=
  let p := P.wq q
  let s := (s.setReg p R.WQ_ERR_IDX pos).setReg p R.WQ_ERR_CAUSE (wd cause)
  let s := ((s.setStat p ST.error true).setStat p ST.ready false).event p 1
  let s := s.setFetch q pos
  let s := s.setQueue q { s.queue q with failed := some pos.toNat, hdr := none }
  s.settleFailed q

/-! ### Taking entries (R65 to R68, R95) -/

/-- The fields of a header cell, native (Table 2-1) or GB2 (Table 2-9). -/
structure Header where
  /-- OWN -/
  own : Bool
  /-- LAP -/
  lap : Bool
  /-- LEN -/
  len : Nat
  /-- OPCODE -/
  opcode : Nat
  /-- RESOFF -/
  resoff : Nat
  /-- KEYED -/
  keyed : Bool
  /-- FENCE -/
  fence : Bool
  /-- TAG -/
  tag : Nat
  /-- the session named -/
  sess : Option Nat
  /-- OPARG -/
  oparg : BitVec 32
  /-- a reserved field is non-zero -/
  resv : Bool
  deriving DecidableEq, Repr

/-- Decode a header cell. DEDUCED, log entry 26. -/
def decodeHeader (gb : Bool) (c : List Octet) : Header :=
  let d0 := dw c 0
  let d1 := dw c 4
  if gb then
    { own := tb d0 31, lap := tb d0 30, len := 4, opcode := bits d0 29 21, resoff := 2, keyed := false, fence := false,
      tag := bits d0 15 0, sess := (if bits d1 13 0 = 0 then none else some (bits d1 13 0)), oparg := dw c 8,
      resv := decide (bits d0 20 16 ≠ 0) || decide (bits d1 31 14 ≠ 0) }
  else
    { own := tb d0 31, lap := tb d0 30, len := bits d0 29 23, opcode := bits d0 22 14, resoff := bits d0 13 8,
      keyed := tb d0 1, fence := tb d0 0, tag := bits d1 31 16,
      sess := (if tb d1 14 then some (bits d1 13 0) else none), oparg := dw c 8,
      resv := decide (bits d0 7 2 ≠ 0) || tb d1 15 }

/-- The first failing check of Table 2-4, in table order (R68); a cipher entry's cells hold its result too (R173).
DEDUCED, log entry 26. -/
def entryCause (gb : Bool) (k : Nat) (pos : Word) (h : Header) (body : List Octet) (err : Bool) : Option Nat :=
  let need := operandCells gb h.opcode h.oparg
  let descs := checkedCells gb h.opcode h.oparg
  let cipher := decide (0o040 ≤ h.opcode) && decide (h.opcode < 0o140)
  if h.len = 0 then some 0o001
  else if 64 < h.len then some 0o002
  else if 2 ^ k < bits pos 15 0 + h.len then some 0o003
  else if gb ∧ bits pos 15 0 % 4 ≠ 0 then some 0o004
  else if !(if gb then gbKnown h.opcode else nativeKnown h.opcode) then some 0o005
  else if !gb ∧ (hasResult h.opcode h.oparg ∧ h.resoff = 0 ∨ h.len ≤ h.resoff) then some 0o006
  else if !gb ∧ h.opcode ≠ 0 ∧ (if hasResult h.opcode h.oparg then
      decide (h.resoff < 1 + need) || (cipher && decide (h.len < h.resoff + resultNeed h.opcode))
    else decide (h.len < 1 + need)) then some 0o007
  else if h.resv ∨ (h.opcode ≠ 0 ∧ !err ∧ descs.any (fun c => descReserved (sliceOct body ((c - 1) * 16) 16))) then some 0o010
  else if err then some 0o011
  else none

/-- A job new from its header. -/
def newJob (q pos : Nat) (gb : Bool) (h : Header) (body : List Octet) (cls : Nat) (qkey : BitVec 16) (rw dw : Bool) : Job :=
  { queue := q, pos := pos, opcode := h.opcode, len := h.len, resoff := h.resoff, keyed := h.keyed, fence := h.fence,
    tag := h.tag, sess := h.sess, oparg := h.oparg, body := body, gb := gb, cls := cls, qkey := qkey, resWait := rw,
    rdyWait := dw, st := .fetched, waitPage := none, waitUnit := false, unit := none, region := 0, inputs := [],
    hostErr := false, status := 0, result := [], pendSess := none, pendCred := [], pendSlot := none, frame := none,
    parks := 0, parkMode := 0, parkIdx := 0, parkDone := 0, startNo := 0, staging := none, fwd := none, origin := none,
    verdict := 0, begun := false, orphan := false, outData := [], savedBy := none, cmd := none, bn := BnCtx.empty,
    saved := [], refused := false, pair := none, granted := none }

/-- How far FETCH stands beyond the last doorbell value, in cells; 0 where it stands before it. A head that has passed
the doorbell over prefetched entries leaves it out of the range of R57 (R66). -/
def State.pastDb (s : State) (q : Nat) : Nat :=
  let p := P.wq q
  let k := s.log2size q
  let f := posCount k (s.reg p R.WQ_HEAD) (s.reg p R.WQ_FETCH)
  let d := posCount k (s.reg p R.WQ_HEAD) (s.reg p R.WQ_TAIL_DB)
  if d ≤ 2 ^ k then f - d else f + (2 ^ (k + 1) - d)

/-- FETCH stands at or beyond the last doorbell value (R66). -/
def State.beyondDb (s : State) (q : Nat) : Bool :=
  decide (0 < s.pastDb q) || s.reg (P.wq q) R.WQ_FETCH == s.reg (P.wq q) R.WQ_TAIL_DB

/-- The queue engine may fetch at FETCH: enabled, rung, not stalled, draining or failed, fewer than 512 in flight, and at
most 32 cells beyond the doorbell (R66, R67, R87, R89). DEDUCED, log entry 9. -/
def State.mayFetch (s : State) (q : Nat) : Bool :=
  let p := P.wq q
  let k := s.log2size q
  let qu := s.queue q
  s.en p && !s.stat p ST.stopping && qu.rung && !qu.stalled && !qu.draining && qu.failed.isNone &&
    decide (qu.fifo.length < 512) && decide (s.pastDb q < 32) &&
    decide (posCount k (s.reg p R.WQ_HEAD) (s.reg p R.WQ_FETCH) < 2 ^ k)

/-- The entry at FETCH is checked and taken (R67, R68): its header, and the body that has come or an error in its place. -/
def State.takeEntry (s : State) (q : Nat) (h : Header) (body : List Octet) (err : Bool) : State :=
  let p := P.wq q
  let k := s.log2size q
  let pos := s.reg p R.WQ_FETCH
  let gb := s.rbit p R.WQ_CFG 17
  match entryCause gb k pos h body err with
  | some c => s.queueError q pos c
  | none =>
    if body.length < 16 * (h.len - 1) then s
    else
      let key := jobKey q pos.toNat
      let j := newJob q pos.toNat gb h body (s.rfld p R.WQ_CFG 16 15)
        (Map.get (dflt 0) s.cust.qkeys q) (s.rbit p R.WQ_CFG 14) (s.rbit p R.WQ_CFG 13)
      let s := s.setJob key j
      let s := s.setFetch q (posAdd k pos h.len)
      s.setQueue q { s.queue q with fifo := (s.queue q).fifo ++ [key], hdr := none }

/-- Cells read at FETCH arrive: `cells` from the header on, or a host error. The first read looks for a valid header;
the body is taken only from the read that follows it, so what came with the header is not used (R65, R66, R68). An error
on a header read at or beyond the doorbell stalls the prefetch, as a header that is not valid does.
DESIGN CHOICE, log entry 93. -/
def State.fetchEntry (s : State) (q : Nat) (cells : List Octet) (err : Bool) : State :=
  let pos := s.reg (P.wq q) R.WQ_FETCH
  let gb := s.rbit (P.wq q) R.WQ_CFG 17
  match (s.queue q).hdr with
  | some hc =>
    let h := decodeHeader gb hc
    s.takeEntry q h ((cells.drop 16).take (16 * (h.len - 1))) err
  | none =>
    if cells.length < 16 then
      -- the header itself could not be read
      if err then
        if s.beyondDb q then s.setQueue q { s.queue q with stalled := true } else s.queueError q pos 0o011
      else s
    else
      let h := decodeHeader gb (cells.take 16)
      if !h.own || h.lap != tb pos 16 then s.setQueue q { s.queue q with stalled := true }
      else if h.len ≤ 1 then s.takeEntry q h [] false
      else s.setQueue q { s.queue q with hdr := some (cells.take 16) }

/-! ### Host data (R61, R77) -/

/-- Read scatter elements up to the one marked LAST: elements, whether one has a reserved bit, whether LAST was seen. -/
def sgParse : List (List Octet) → List (Nat × Nat) → List (Nat × Nat) × Bool × Bool
  | [], acc => (acc, false, false)
  | c :: r, acc =>
    let acc' := acc ++ [((dw c 0).toNat + bits (dw c 4) 21 0 * 2 ^ 32, (dw c 8).toNat)]
    if descReserved c then (acc', true, true)
    else if tb (dw c 12) 31 then (acc', false, true)
    else sgParse r acc'

/-- What arrives for a descriptor cell of a job. -/
def hostIn (j : Job) (c : Nat) (sg data : List Octet) : Option HostIn :=
  if j.sg c then
    let (el, bad, last) := sgParse (chunks 16 sg) []
    if !last ∧ sg.length < 4096 then none
    else some { cell := c, supplied := (el.map (fun e => e.2)).foldl (· + ·) 0, elems := el, bad := bad || !last,
                octets := data }
  else some { cell := c, supplied := j.declared c, elems := [(j.addr c, j.declared c)], bad := false, octets := data }

/-- More data arrives for a descriptor cell that has had some. -/
def Job.moreIn (j : Job) (c : Nat) (data : List Octet) : Job :=
  { j with inputs := j.inputs.map (fun h => if h.cell = c then { h with octets := h.octets ++ data } else h) }

/-! ### Publication (R72, R75) -/

/-- The head the device would publish: the oldest job that is not DONE_UNPUBLISHED, or the fetch position (R72).
DESIGN CHOICE, log entry 24. -/
def State.newHead (s : State) (q : Nat) (left : List Nat) : Word :=
  match left with
  | [] => s.reg (P.wq q) R.WQ_FETCH
  | k :: _ => match s.job k with
    | some j => wd j.pos
    | none => s.reg (P.wq q) R.WQ_FETCH

/-- Commit and forget the jobs a head passes, in queue order (R72 step 3). -/
def State.publishJobs (s : State) : List Nat → State
  | [] => s
  | k :: r => match s.job k with
    | some j => ((s.commit j).dropJob k).publishJobs r
    | none => s.publishJobs r

/-- HEAD_MOVED after `n` more jobs are passed (R75). -/
def State.reportHead (s : State) (q n : Nat) : State :=
  let count := max 1 (s.rfld (P.wq q) R.WQ_IRQ_MOD 17 9)
  let u := (s.queue q).unreported + n
  if count ≤ u then (s.setQueue q { s.queue q with unreported := 0 }).event (P.wq q) 0
  else s.setQueue q { s.queue q with unreported := u }

/-- Publish the newest head of a queue (R72). DESIGN CHOICE, log entry 24. -/
def State.publish (s : State) (q : Nat) : State :=
  let p := P.wq q
  let fifo := (s.queue q).fifo
  let passed := s.donePrefix fifo
  let left := fifo.drop passed.length
  let hd := s.newHead q left
  let s := s.toHost (s.hostAddr p R.WQ_HEAD_ADDR R.WQ_HEAD_ADDR_HI) (leOctets 4 hd.toNat)
  let k := s.log2size q
  let old := s.reg p R.WQ_HEAD
  let s := (s.setReg p R.WQ_HEAD hd).dropReplays q (fun x => decide (posCount k old (wd x) < posCount k old hd))
  let s := s.publishJobs passed
  let s := s.setQueue q { s.queue q with fifo := left }
  (s.reportHead q passed.length).settleFailed q

/-! ### Commands -/

/-- TAIL_DB_WRITE (R57, R86). DEDUCED, log entry 9. -/
def execTailDbWrite (req : Requester) (q : Nat) (val : Word) (s : State) : Host.Outcome State Fault Refusal :=
  let p := P.wq q
  let t := val &&& 0o377777
  s.written (P.wq q) (if s.dbInRange q t then
      let s := s.setReg p R.WQ_TAIL_DB t
      if s.en p && !s.stat p ST.stopping then s.setQueue q { s.queue q with rung := true, stalled := false } else s
    else s.pgErr p 2 req R.WQ_TAIL_DB)

/-- ENTRY_FETCH_DATA (R65, R68). -/
def execEntryFetchData (q : Nat) (cells : List Octet) (err : Bool) (s : State) : Host.Outcome State Fault Refusal :=
  when (s.mayFetch q) s (s.fetchEntry q cells err)

/-- HOST_DATA_ARRIVE (R61, R77): data or a scatter list for a descriptor cell, or an error completion. A cell's data may
come in several arrivals; what comes once it is all there is not used. -/
def execHostDataArrive (key cell : Nat) (sg data : List Octet) (err : Bool) (s : State) :
    Host.Outcome State Fault Refusal :=
  match s.job key with
  | none => .next s
  | some j =>
    if !((descCells j.gb j.opcode j.oparg).contains cell ||
        (decide (j.utype = .core) && decide (0 < cell) && decide (cell < j.len))) || decide (j.st = .done) ||
        ((j.inp cell).isSome && j.dataHere cell) then .next s
    else if err then .next (s.setJob key { j with hostErr := true })
    else if (j.inp cell).isSome then .next (s.setJob key (j.moreIn cell data))
    else match hostIn j cell sg data with
      | some h => .next (s.setJob key { j with inputs := j.inputs ++ [h] })
      | none => .next s

/-- HOST_WRITE_ERROR (R91): a write of results, status or head failed. DEDUCED, log entry 25. -/
def execHostWriteError (key : Nat) (s : State) : Host.Outcome State Fault Refusal :=
  match s.job key with
  | none => .next s
  | some j =>
    let q := j.queue
    let p := P.wq q
    let fifo := (s.queue q).fifo
    let later := key :: (fifo.drop ((before key fifo).length + 1))
    when (j.origin.isNone && decide (j.st = .done) && fifo.contains key && s.en p) s
      (((s.each later.reverse (fun t k => t.discardFrom q k)).pgErr p 3 .host R.WQ_HEAD).queueError q (wd j.pos) 0o012)

/-- HEAD_PUBLISH (R72). -/
def execHeadPublish (q : Nat) (s : State) : Host.Outcome State Fault Refusal :=
  when (s.en (P.wq q) && !s.stat (P.wq q) ST.stopping && !(s.donePrefix (s.queue q).fifo).isEmpty) s (s.publish q)

/-- IRQ_MOD_TIMER (R75). -/
def execIrqModTimer (q : Nat) (s : State) : Host.Outcome State Fault Refusal :=
  when (decide (s.rfld (P.wq q) R.WQ_IRQ_MOD 8 0 ≠ 0) && decide ((s.queue q).unreported ≠ 0)) s
    ((s.setQueue q { s.queue q with unreported := 0 }).event (P.wq q) 0)

/-! ### The session a job names (R71, R160, R161) -/

/-- The session checks of a job that names one (R71, R160, R161, R24, Table 19-3). -/
def State.sessionCheck (s : State) (k : Nat) (j : Job) : Option Nat :=
  match j.sess with
  | none => if seqExempt j.opcode then some S.invalidOperand else none
  | some n =>
    if j.origin.isSome then none
    else if s.diag.failSess.contains n then (if j.opcode = 0o002 then none else some S.deviceFault)
    else
      let c := s.sessView k j n
      if j.opcode = 0o001 then (if ctxOpen c then some S.denied else none)
      else if s.lev.lostSess.contains n && !ctxOpen c then some S.deviceFault
      else if !ctxOpen c ∨ ctxOwner c ≠ j.queue then some S.denied
      else if !seqExempt j.opcode ∧ ctxSeq c = 2 ^ 36 - 1 then some S.sessionExhausted
      else none

/-- NOP (R63, R71): completes OK with RESLEN 0 from FETCHED, or with what the session it names gives.
DEDUCED, log entry 26. -/
def execWqNop (key : Nat) (s : State) : Host.Outcome State Fault Refusal :=
  match s.job key with
  | some j => when (decide (j.opcode = 0) && decide (j.st = .fetched) && s.canLeave key j) s
      (s.finish key j ((s.sessionCheck key j).getD S.ok))
  | none => .next s

end Sys2Proof.Machine
end

