-- ==== Sys2Proof/Machine/Lode.lean ====
section
/-! DEFINITION. The Lode dispatcher: owners of credential pages (R105, R106), page requests (R79 to R82, R548), placement
of jobs in regions and units (R96 to R100), forwarding (R108, R111). -/
namespace Sys2Proof.Machine

/-! ### Owners of credential pages (R106) -/

/-- An empty override entry. -/
def Ovr.none : Ovr := ⟨0, 0, 0, 0⟩

/-- The page an override entry names. -/
def Ovr.page (o : Ovr) : Nat := o.data0.toNat + bits o.data1 7 0 * 2 ^ 18

/-- The valid override entry of lowest index that names a page. -/
def findOvr (pl : Placement) (page : Nat) : Option Ovr :=
  (pl.ovr.find? (fun e => tb e.2.data1 17 && e.2.page == page)).map (fun e => e.2)

/-- h_d of a member and bucket: the first 36 bits of one AES-128 block (R106 step 2). -/
def bucketHash (salt : BitVec 36) (bucket dev : Nat) : Nat :=
  beNat (aesEnc (beOctets 5 salt.toNat ++ zeros 11) (beOctets 2 bucket ++ beOctets 2 dev ++ zeros 12)) / 2 ^ 92

/-- The next `n` bits of log2 of a number in [1, 2) held with 128 fractional bits. -/
def log2Bits : Nat → Nat → Nat → Nat
  | 0, _, acc => acc
  | n + 1, m, acc =>
    let sq := m * m / 2 ^ 128
    if 2 ^ 129 ≤ sq then log2Bits n (sq / 2) (2 * acc + 1) else log2Bits n sq (2 * acc)

/-- L of a hash: ⌊(36 − log2(h + 1)) · 2^30⌋ (R106 step 3). DEDUCED, log entry 27. -/
def scoreL (h : Nat) : Nat :=
  let n := h + 1
  let e := n.log2
  36 * 2 ^ 30 - (e * 2 ^ 30 + log2Bits 30 (n * 2 ^ (128 - e)) 0) - (if n = 2 ^ e then 0 else 1)

/-- A member ranks above another: weight and score of each (R106 step 3). -/
def ranksAbove (d e : Nat × Nat) : Bool := decide (e.1 * d.2 < d.1 * e.2)

/-- The members that may own a page, with weight and score for a bucket, in ID order. -/
def candidates (pl : Placement) (bucket : Nat) : List (Nat × Nat × Nat) :=
  (pl.members.filter (fun m => tb m.2 17 && decide (bits m.2 8 0 ≠ 0))).map
    (fun m => (m.1, bits m.2 8 0, scoreL (bucketHash pl.salt bucket m.1)))

/-- The highest-ranked candidate; equal products rank the lower ID higher. DEDUCED, log entry 27. -/
def bestOf : List (Nat × Nat × Nat) → Option (Nat × Nat × Nat)
  | [] => none
  | c :: r => match bestOf r with
    | none => some c
    | some b => if ranksAbove (b.2.1, b.2.2) (c.2.1, c.2.2) then some b else some c

/-- Owner, replica and whether an override gave them; with no candidate the device is a system of one and owns every page
(R105, R106). DEDUCED, log entry 27. -/
def ownerOf (pl : Placement) (self page : Nat) (replicas : Bool) : Nat × Option Nat × Bool :=
  match findOvr pl page with
  | some o => (bits o.data2 15 0, if tb o.data1 16 then some (bits o.data3 15 0) else none, true)
  | none =>
    let cs := candidates pl (page % 2 ^ 16)
    match bestOf cs with
    | none => (self, none, false)
    | some b =>
      (b.1, if replicas then (bestOf (cs.filter (fun c => c.1 != b.1))).map (fun c => c.1) else none, false)

/-- Owner, replica and source of a page under the applied placement state. -/
def State.owner (s : State) (page : Nat) : Nat × Option Nat × Bool :=
  ownerOf s.net.applied s.devId page (s.rbit P.place R.PLACE_CFG 17)

/-- This device owns a page. -/
def State.ownsPage (s : State) (page : Nat) : Bool := (s.owner page).1 == s.devId

/-- A page is resident in a frame here, whole or in part (R108). -/
def State.resident (s : State) (page : Nat) : Bool := (s.frameOf page).isSome

/-! ### Page requests (R79 to R82, R548) -/

/-- The page-request ring is full: 2^n records between consumer and producer. -/
def State.prqFull (s : State) : Bool :=
  let n := s.rfld P.cred R.CRED_PRQ_SIZE 4 0
  decide (posCount n (s.reg P.cred R.CRED_PRQ_CONS) (s.reg P.cred R.CRED_PRQ_PROD) = 2 ^ n)

/-- The record of Table 2-10. -/
def prqRecord (page : Nat) (fwd : Option Nat) (waiting : Bool) (queue pos time : Nat) : List Octet :=
  leOctets 4 page ++
    leOctets 4 (b2n fwd.isSome * 2 ^ 31 + b2n waiting * 2 ^ 16 + (match fwd with | some _ => 0o377 | none => queue)) ++
    leOctets 4 (match fwd with | some d => d % 2 ^ 16 | none => pos) ++ leOctets 4 time

/-- Every page request that could not be posted: PRQ_LOST counts and the event is raised (R82, R548). -/
def State.prqLose (s : State) : State := (s.inc36 P.cred R.CRED_PRQ_LOST).event P.cred 1

/-- Post a page request for a job unless one is outstanding: the new state, and whether one is outstanding now. -/
def State.requestPage (s : State) (j : Job) (page : Nat) : State × Bool :=
  if s.cust.requested.contains page then (s, true)
  else if !s.en P.cred || s.stat P.cred ST.stopping || s.prqFull then (s.prqLose, false)
  else
    let n := s.rfld P.cred R.CRED_PRQ_SIZE 4 0
    let prod := s.reg P.cred R.CRED_PRQ_PROD
    let rec_ := prqRecord page (j.origin.map (fun o => o.1)) j.resWait j.queue j.pos
      (s.clock.sys.toNat / 2 ^ 10 % 2 ^ 32)
    let s := s.toHost (s.hostAddr P.cred R.CRED_PRQ_BASE R.CRED_PRQ_BASE_HI + 16 * bits prod 15 0) rec_
    let prod' := posAdd n prod 1
    let s := s.toHost (s.hostAddr P.cred R.CRED_PRQ_PRODADDR R.CRED_PRQ_PRODADDR_HI) (leOctets 4 prod'.toNat)
    let s := (s.setReg P.cred R.CRED_PRQ_PROD prod').event P.cred 0
    ({ s with cust := { s.cust with requested := s.cust.requested ++ [page], lastReq := some page } }, true)

/-- A page request ends: jobs still waiting for the page complete NOT_RESIDENT; `wait` raises PAGE_WAIT on their queues
(R82, R155, R548, R550). A job that completed NOT_RESIDENT at once, because its queue does not wait, is no longer held and
raises nothing. DESIGN CHOICE, log entry 93. -/
def State.endRequest (s : State) (page : Nat) (failJobs wait : Bool) : State :=
  let s := { s with cust := { s.cust with requested := drop1 s.cust.requested page } }
  if failJobs then
    s.each (s.jobs.map (fun e => e.1)) (fun t k => match t.job k with
      | some j =>
        if j.st = .fetched ∧ j.waitPage = some page then
          let t := if wait && j.origin.isNone then t.event (P.wq j.queue) 2 else t
          t.fail k { j with waitPage := none } S.notResident
        else t
      | none => t)
  else s

/-- A job whose page is not resident and owned here (R79): it posts a request, and waits or completes NOT_RESIDENT. -/
def State.notResidentJob (s : State) (k : Nat) (j : Job) (page : Nat) : State :=
  let (s, out) := s.requestPage j page
  let evt (t : State) : State := if j.origin.isSome then t else t.event (P.wq j.queue) 2
  if !out then (evt s).fail k j S.notResident
  else if j.resWait then
    if j.waitPage.isSome then s else evt (s.setJob k { j with waitPage := some page, waitUnit := false })
  else s.fail k j S.notResident

/-! ### Units (R97) -/

/-- The unit pages of a type in a region, in instance order. -/
def unitPages (t : UType) (rg : Nat) : List Nat :=
  match t with
  | .cipher => (List.range 8).map (fun i => P.ciph (8 * rg + i))
  | .digest => (List.range 8).map (fun i => P.dig (8 * rg + i))
  | .bignum => (List.range 4).map (fun i => P.bn (4 * rg + i))
  | .core => (List.range 16).map (fun i => P.kz (16 * rg + i))
  | .none | .contact | .field => []

/-- The cluster of a unit page. -/
def clusterOf (p : Nat) : Nat := (p - 0x200) / 0x20

/-- A unit is a candidate: READY, its cluster not gated, and a core takes jobs (CFG.JOBS). DEDUCED, log entry 27. -/
def State.candidate (s : State) (p : Nat) : Bool :=
  s.ready p && !s.rbit P.pwr R.PWR_CL_GATED (clusterOf p) &&
    (match blockOf p with | some (.kz, _) => s.rbit p R.KZ_CFG 0 | _ => true)

/-- Jobs queued or running on a unit; a digest unit holding its window counts as busy (R210). -/
def State.load (s : State) (p : Nat) : Nat :=
  (s.inQ p).length + (if (s.runsOn p).isSome || decide (Map.get (dflt 0) s.units.hold p ≠ 0) then 1 else 0)

/-- Free input slots of the candidate units of a type in a region. -/
def State.freeSlots (s : State) (t : UType) (rg : Nat) : Nat :=
  (((unitPages t rg).filter s.candidate).map (fun p => 4 - (s.inQ p).length)).foldl (· + ·) 0

/-- The power headroom PWR reports for a region: the points it may still rise (DEDUCED, log entry 10). -/
def State.headroom (s : State) (rg : Nat) : Nat :=
  min 8 (s.rfld P.pwr R.PWR_RG_FMAX (4 * rg + 3) (4 * rg)) - s.rfld P.pwr R.PWR_RG_POINT (4 * rg + 3) (4 * rg)

/-- R96 step 3: most free input slots, then greater power headroom, then the lowest region at or after the last.
DEDUCED, log entry 10. DEDUCED, log entry 27. -/
def State.pickRegion (s : State) (t : UType) : Nat :=
  ((argMin (fun rg => (1000 - s.freeSlots t rg, 100 - s.headroom rg, (rg + 4 - s.lode.lastRegion) % 4))
    (List.range 4)).getD 0)

/-- A number for each unit type, for the table of last choices. -/
def typeNo : UType → Nat
  | .none => 0 | .cipher => 1 | .digest => 2 | .bignum => 3 | .core => 4 | .contact => 5 | .field => 6

/-- R97: the candidate with a free input slot and the fewest jobs; a tie to the lowest instance at or after the last.
DEDUCED, log entry 27. -/
def State.pickUnit (s : State) (t : UType) (rg : Nat) : Option Nat :=
  let last := Map.get (dflt 0) s.lode.lastUnit (rg * 64 + typeNo t)
  argMin (fun p => (s.load p, (p + 4096 - last) % 4096, 0))
    ((unitPages t rg).filter (fun p => s.candidate p && decide ((s.inQ p).length < 4)))

/-- A parked job of a type and class waits in a region for a unit: it goes ahead of jobs that have not started (R102). -/
def State.parkedAhead (s : State) (t : UType) (rg cls : Nat) : Bool :=
  s.jobs.any (fun e => match e.2 with
    | some x => decide (x.st = .parked) && x.unit.isNone && decide (x.utype = t) && decide (x.region = rg) &&
        decide (x.cls = cls)
    | none => false)

/-- Put a job into a unit's input queue; a parked job goes ahead within its class (R102). DEDUCED, log entry 22. -/
def State.enqueue (s : State) (k : Nat) (j : Job) (p rg : Nat) : State :=
  let s := s.setJob k { j with st := .dispatched, unit := some p, region := rg, waitPage := none, waitUnit := false }
  let s := s.setInQ p (s.inQ p ++ [k])
  s.startNext p

/-- No READY unit: NOT_READY, or wait with RDY_WAIT; the first wait raises RDY_WAIT (R80, R94). DEDUCED, log entry 27. -/
def State.notReadyJob (s : State) (k : Nat) (j : Job) : State :=
  if j.rdyWait then
    if j.waitUnit then s
    else
      let s := s.setJob k { j with waitUnit := true, waitPage := none }
      if j.origin.isSome then s else s.event (P.wq j.queue) 4
  else s.fail k j S.notReady

/-- Place a job on a unit of a region, or leave it FETCHED while every input queue is full (R97) or a parked job of its
class goes ahead of it (R102). DEDUCED, log entry 22. -/
def State.placeUnit (s : State) (k : Nat) (j : Job) (t : UType) (rg : Nat) : State :=
  if s.parkedAhead t rg j.cls then s
  else match s.pickUnit t rg with
    | some p =>
      let s := { s with lode := { s.lode with lastRegion := rg,
                                              lastUnit := Map.put (dflt 0) s.lode.lastUnit (rg * 64 + typeNo t) p } }
      s.enqueue k j p rg
    | none => s

/-- A region has a candidate unit of a type (R97). -/
def State.hasUnit (s : State) (t : UType) (rg : Nat) : Bool := (unitPages t rg).any s.candidate

/-- Place a job in the region it must run in (R96 steps 1 and 2). DEDUCED, log entry 22. -/
def State.placeIn (s : State) (k : Nat) (j : Job) (t : UType) (rg : Nat) : State :=
  if s.hasUnit t rg then s.placeUnit k j t rg else s.notReadyJob k j

/-- Place a job in the region that R96 step 3 chooses: it stays FETCHED while every unit is full, and is NOT_READY only
where no region has a READY unit (R80, R97). -/
def State.placeAny (s : State) (k : Nat) (j : Job) (t : UType) : State :=
  if (List.range 4).any (s.hasUnit t) then s.placeUnit k j t (s.pickRegion t) else s.notReadyJob k j

/-- Place a job that needs no unit in a region: DISPATCHED to the custody function, which starts it (R69, R96). -/
def State.placeHere (s : State) (k : Nat) (j : Job) (rg : Nat) : State :=
  { s.setJob k { j with st := .dispatched, unit := none, region := rg, waitPage := none, waitUnit := false } with
    lode := { s.lode with lastRegion := rg } }

/-- The home region of a session as a job sees it (R99): where an earlier SESS_OPEN of its queue that is not yet published
ran, else where its context slot is. -/
def State.homeOf (s : State) (k : Nat) (j : Job) (n : Nat) : Nat :=
  match ((s.earlier k j).filter (fun e => decide (e.opcode = 0o001) && decide (e.st = .done) && decide (e.sess = some n) &&
      statusGood e.status)).getLast? with
  | some e => e.region
  | none => (s.sessSlot n).getD 0 / 4096

/-! ### Checks before placement (Table 2-6) -/

/-- Custody must be able to serve the job (R131, R549): the custody opcodes need PEAT READY under a LIVE key, a slot PEAT
taking slot requests, a credential a key that is LIVE or whose entries are kept (R132). DEDUCED, log entry 34. -/
def State.custodyReady (s : State) (k : Nat) (j : Job) : Bool :=
  (!(decide (0o001 ≤ j.opcode) && decide (j.opcode ≤ 0o037)) || s.hmkLive && s.ready P.peat) &&
    ((s.slotRefs k j).isEmpty || s.peatServes) && ((s.credOf k j).isNone || s.hmkLive || s.keysKept)

/-- The sizes of host data in and out of a job (R111). -/
def Job.hostSize (j : Job) : Nat × Nat :=
  ((j.ins.map j.declared).foldl (· + ·) 0, (j.outs.map j.declared).foldl (· + ·) 0)

/-- The header cell of a job's entry (Tables 2-1 and 2-9). -/
def Job.header (j : Job) : List Octet :=
  let lap := bits (wd j.pos) 16 16
  let d0 := if j.gb then 2 ^ 31 + lap * 2 ^ 30 + j.opcode * 2 ^ 21 + j.tag
    else 2 ^ 31 + lap * 2 ^ 30 + j.len * 2 ^ 23 + j.opcode * 2 ^ 14 + j.resoff * 2 ^ 8 + b2n j.keyed * 2 + b2n j.fence
  let d1 := if j.gb then j.sess.getD 0 else j.tag * 2 ^ 16 + b2n j.sess.isSome * 2 ^ 14 + j.sess.getD 0
  leOctets 4 d0 ++ leOctets 4 d1 ++ leOctets 4 j.oparg.toNat ++ zeros 4

/-- The message that forwards a job (R111). -/
def State.fwdMsg (s : State) (k : Nat) (j : Job) : FwdMsg :=
  { epoch := s.net.applied.epoch.toNat, cls := j.cls, resWait := j.resWait, rdyWait := j.rdyWait, qkey := j.qkey, gb := j.gb,
    cells := j.header ++ j.body, data := j.ins.map (fun c => (c, j.data c)), verdict := j.lenVerdict,
    ctx := match j.sess with | some n => s.sessView k j n | none => [] }

/-- A local job leaves for another device under a free forward tag (R111). -/
def State.sendForward (s : State) (k : Nat) (j : Job) (owner : Nat) : State :=
  match firstFree 8192 0 s.net.tags with
  | none => s
  | some t =>
    let s := ({ s with net := { s.net with tags := s.net.tags ++ [t] } } : State).post (.forward owner t (s.fwdMsg k j))
    s.setJob k { j with st := .dispatched, unit := none, waitPage := none, waitUnit := false,
                        fwd := some ⟨owner, t, false, false, owner, false⟩ }

/-- Send a job to the device that owns its page (R111): its scatter lists and all its host data are read first. A malformed
list completes it here (R61); a SHORT job reads no data (R77), and its verdict travels with it. DEDUCED, log entry 31. -/
def State.forwardJob (s : State) (k : Nat) (j : Job) (owner : Nat) : State :=
  let cells := descCells j.gb j.opcode j.oparg
  if 8192 < j.hostSize.1 ∨ 8192 < j.hostSize.2 then s.fail k j S.unsupported
  else if cells.any j.sgBad then s.fail k j S.invalidOperand
  else if !cells.all j.lenKnown then (if j.hostErr then s.fail k j S.aborted else s)
  else if j.lenVerdict = 2 then s.sendForward k j owner
  else if j.hostErr then s.fail k j S.aborted
  else if !j.ins.all j.dataHere then s
  else s.sendForward k j owner

/-- Place a job by the credential it names: resident here, owned here, or elsewhere (R96, R108). -/
def State.placeCred (s : State) (k : Nat) (j : Job) (t : UType) (h : Nat) : State :=
  let page := hPage h
  if !handleOk h then s.fail k j S.staleHandle
  else match s.frameOf page with
    | some f =>
      if (s.frame f).chunks.getLsbD (hEntry h / 256) then
        if t = .none then s.placeHere k j (f / 256)
        else s.placeIn k j t (f / 256)
      else s.notResidentJob k j page
    | none =>
      if s.ownsPage page || j.origin.isSome then s.notResidentJob k j page
      else if neverForwarded j.opcode then s.fail k j S.denied
      else s.forwardJob k j (s.owner page).1

/-- Place a station job in its station's input queue (R349); a custodian slot's is refused (R163). -/
def State.placeAtStation (s : State) (k : Nat) (j : Job) : State :=
  let p := j.stationPage
  if p < 0x410 ∧ s.rbit P.peat R.PEAT_CUST_STN (p - 0x400) = true then
    (if j.bound then s.failBound k j S.policyRefused else s.fail k j S.policyRefused)
  else if !s.ready p then (if j.bound && !j.rdyWait then s.failBound k j S.notReady else s.notReadyJob k j)
  else if 4 ≤ (s.inQ p).length then s
  else s.enqueue k j p 0

/-- Place a station job; a bound one by its item (R418). -/
def State.placeStation (s : State) (k : Nat) (j : Job) : State :=
  if j.bound then
    match s.bind j with
    | .wait => s
    | .place => s.placeAtStation k j
    | .replay r => s.finish k j r.status (replayed j.isApdu r.result)
    | .fail st => s.failBound k j st
  else s.placeAtStation k j

/-- The GB2 AKA_MILENAGE job names its credential in its host data, which it waits for (R193); what its length gives comes
before an error on the data (R77). -/
def State.gbAkaWait (s : State) (k : Nat) (j : Job) : Option State :=
  if j.gb && decide (j.opcode = 0o060) && !j.dataHere 1 then
    if j.oparg ≠ 0 ∨ j.declared 1 ≠ 64 ∨ j.sgBad 1 = true then some (s.fail k j S.invalidOperand)
    else if j.lenKnown 1 && decide (j.supplied 1 < 64) then some (s.fail k j S.short)
    else if j.hostErr then some (s.fail k j S.aborted)
    else some s
  else none

/-- Where a job that has left FETCHED goes (R96). DEDUCED, log entry 22. -/
def State.placeJob (s : State) (k : Nat) (j : Job) : State :=
  let t := j.utype
  match s.sessionCheck k j with
  | some st => s.fail k j st
  | none =>
    if j.cmd.isSome then s.placeIn k j t j.region
    else if !s.custodyReady k j then s.notReadyJob k j
    else if let some s' := s.gbAkaWait k j then s'
    else match t with
      | .contact => s.placeStation k j
      | .field => s.placeStation k j
      | _ =>
        match s.credOf k j with
        | some h => s.placeCred k j t h
        | none =>
          match j.sess.filter (fun _ => decide (j.opcode ≠ 0o001)) with
          | some n => if t = .none then s.placeHere k j (s.homeOf k j n) else s.placeIn k j t (s.homeOf k j n)
          | none => if t = .none then s.placeHere k j (s.pickRegion t) else s.placeAny k j t

/-- The job has ended: it is DONE_UNPUBLISHED or gone. -/
def State.ended (s : State) (k : Nat) : Bool := match s.job k with | some j => decide (j.st = .done) | none => true

/-- The placement of a job; a PAGE_LOAD that completes here ends the request for its page (R82). -/
def State.place (s : State) (k : Nat) (j : Job) : State :=
  let t := s.placeJob k j
  if j.opcode = 0o010 ∧ t.ended k = true then t.endRequest (bits j.oparg 25 0) true false else t

/-- A DISPATCHED job whose unit can no longer take it moves to another READY unit of the region (R22, R191). -/
def State.moveJob (s : State) (k : Nat) (j : Job) : State :=
  match j.unit with
  | none => s
  | some p =>
    if s.serves p || decide (0x400 ≤ p) then s
    else match s.pickUnit (j.utype) j.region with
      | some p' =>
        let s := s.setInQ p (drop1 (s.inQ p) k)
        s.enqueue k j p' j.region
      | none => s

/-- A bignum program, which its own row enqueues (R221). -/
def Job.isProg (j : Job) : Bool := match j.cmd with | some c => c.typ == 2 | none => false

/-- What JOB_PLACE does once the tables it reads are sound (R69, R96, R97, R108, R191): a FETCHED job that may leave is
placed, forwarded or completed; a DISPATCHED job that needs no unit starts; one of a unit that is no longer READY is moved.
DEDUCED, log entry 22. -/
def State.placeNext (s : State) (key : Nat) : Host.Outcome State Fault Refusal :=
  match s.job key with
  | none => .next s
  | some j =>
    match j.st with
    | .fetched => when (s.canLeave key j && decide (j.opcode ≠ 0) && !j.isProg) s (s.place key j)
    | .dispatched => .next (if j.fwd.isSome then s
        else if j.unit.isNone then s.setJob key { j with st := .running } else s.moveJob key j)
    | _ => .next s

/-- PRQ_HOST_ERROR (R548): the host answered the last record, or its producer index, with an error completion. -/
def execPrqHostError (s : State) : Host.Outcome State Fault Refusal :=
  match s.cust.lastReq with
  | none => .next s
  | some page =>
    let n := s.rfld P.cred R.CRED_PRQ_SIZE 4 0
    let back := posAdd n (s.reg P.cred R.CRED_PRQ_PROD) (2 ^ (n + 1) - 1)
    let s := ((s.setReg P.cred R.CRED_PRQ_PROD back).prqLose).pgErr P.cred 2 .host R.CRED_PRQ_BASE
    let s := { s with cust := { s.cust with lastReq := none } }
    .next (s.endRequest page true true)

/-- A session's move ends (R100): the context reaches the target slot, the map is updated and the count is reset. -/
def State.migrate (s : State) (sess : Nat) : Host.Outcome State Fault Refusal :=
  match s.lode.moving.find? (fun m => m.1 == sess), s.sessSlot sess with
  | some (_, t), some c =>
    let s' := (s.setWords (ctxBase t) (s.words (ctxBase c) 64)).clearWords (ctxBase c) 64
    .next ({ s' with lode := { s'.lode with
      slotOf := Map.put (dflt 0) s'.lode.slotOf sess (t + 1), count := Map.put (dflt 0) s'.lode.count sess 0,
      moving := s'.lode.moving.filter (fun m => m.1 != sess) } }.inc36 P.lode R.LODE_MIGRATIONS)
  | _, _ => .next s

end Sys2Proof.Machine
end

