-- ==== Sys2Proof/Machine/Custody.lean ====
section
/-! DEFINITION. The custody opcodes (R137 to R162): sessions, credential pages and entries, Peat slots, random octets. -/
namespace Sys2Proof.Machine

/-! ### Shared -/

/-! ### Uncorrectable words (R512, R513) -/

/-- Latch the first uncorrectable error, and count it: memory 0 to 7 of UE_INFO. -/
def State.latchUe (s : State) (addr mem : Nat) (scrub : Bool) : State :=
  let s := if s.rbit P.diag R.DIAG_UE_INFO 17 then s
    else (s.setReg36 P.diag R.DIAG_UE_ADDR (BitVec.ofNat 36 addr)).setReg P.diag R.DIAG_UE_INFO
      (wd (2 ^ 17 + b2n scrub * 8 + mem))
  (s.incSat P.diag R.DIAG_UNCORR).event P.diag 1

/-- A credential entry is quarantined (R150): word 7 keeps GEN, COLOUR and KIND unless it was the word lost. -/
def State.quarEntry (s : State) (a word : Nat) : State :=
  if word = 7 then s.setWord (a + 7) (wd 0o60) else s.setWord (a + 7) (putBits (s.word (a + 7)) 5 4 3)

/-- Entries a job reads from the one it names on: its followers with it (R148). DESIGN CHOICE, log entry 90. -/
def State.entrySpan (s : State) (k : Nat) (j : Job) (h : Nat) : Nat :=
  if j.opcode = 0o310 then 4
  else if j.opcode = 0o060 ∨ eKind (s.credView k j (hPage h) (hEntry h)) = 1 then 2
  else 1

/-- The first lost word of the entry a handle names, and of the follower its KIND gives it. -/
def State.entryStruck (s : State) (k : Nat) (j : Job) (h : Nat) : Option Nat :=
  match s.frameOf (hPage h) with
  | some f => s.struckIn (frameBase f + 8 * hEntry h) (8 * s.entrySpan k j h)
  | none => none

/-- The slot a reference names has lost a word. -/
def State.slotStruck (s : State) (r : BitVec 32) : Option Nat := s.struckIn (2 ^ 40 + refSlot r) 1

/-- The first storage the job reads that has lost a word: its session context, its credential entry (word 7 alone where
the opcode writes the entry), a Peat slot (R512). DESIGN CHOICE, log entry 90. -/
def State.jobStruck (s : State) (k : Nat) (j : Job) : Option Nat :=
  let ctx := match j.sess with
    | some n => if j.opcode = 0o002 then none else (match s.sessSlot n with | some c => s.struckIn (ctxBase c) 64 | none => none)
    | none => none
  let cred := match s.credOf k j with
    | some h =>
      if 0o012 ≤ j.opcode ∧ j.opcode ≤ 0o015 then
        (match s.frameOf (hPage h) with | some f => s.struckIn (frameBase f + 8 * hEntry h + 7) 1 | none => none)
      else s.entryStruck k j h
    | none => none
  (ctx <|> cred) <|> (s.slotRefs k j).findSome? s.slotStruck

/-- The reaction of Table 19-3 to an uncorrectable word of a credential entry, a session context or a Peat slot. No part
of the word is used: a context word's value is free (log entry 6). DESIGN CHOICE, log entry 90. -/
def State.storeUe (s : State) (a : Nat) : State :=
  let s : State := { s with diag := s.diag.written a 1 }
  if a < ctxBase 0 then ((s.quarEntry (a / 8 * 8) (a % 8)).latchUe a 1 false).detect 7
  else if a < 2 ^ 36 then
    let n := (a - ctxBase 0) / 64
    let lost := (s.lode.slotOf.filter (fun e => decide (e.2 = n + 1))).map (fun e => e.1)
    let s : State := { s with diag := { s.diag with failSess := lost.foldl add1 s.diag.failSess } }
    let s := ({ s with fresh := s.fresh + 1 } : State).setWord a (Config.freeWord s.fresh)
    (s.latchUe a 2 false).detect 7
  else
    let n := a - 2 ^ 40
    let v := s.slot n
    ((s.setSlot n { v with key := 0, attr1 := putBits v.attr1 8 7 2 }).latchUe 0 3 false).detect 7

/-- A session whose context has lost a word fails when the context is read (Table 19-3). DESIGN CHOICE, log entry 90. -/
def State.ctxUe (s : State) (sess : Option Nat) : State :=
  match sess.bind s.sessSlot with
  | some c => (match s.struckIn (ctxBase c) 64 with | some a => s.storeUe a | none => s)
  | none => s

/-- The lost entries of a frame are quarantined as its words are read (Table 19-3). DESIGN CHOICE, log entry 90. -/
def State.frameUe (s : State) (f : Nat) : State :=
  s.each (s.diag.upset.filter (fun a => decide (frameBase f ≤ a) && decide (a < frameBase (f + 1)))) State.storeUe

/-- SESSION_MIGRATE (R100, R512): the context is read, and reaches the target slot. -/
def execSessionMigrate (sess : Nat) (s : State) : Host.Outcome State Fault Refusal :=
  (s.ctxUe (if s.isMoving sess then some sess else none)).migrate sess

/-- Run an opcode's meaning on the RUNNING job of a key whose opcode is `op`. DESIGN CHOICE, log entry 23. -/
def State.onJob (s : State) (key op : Nat) (f : Job → State) : Host.Outcome State Fault Refusal :=
  match s.job key with
  | some j => .next (if j.st = .running ∧ j.opcode = op then f j else s)
  | none => .next s

/-- The same, once the job's storage is found sound; a job that reads a lost word completes DEVICE_FAULT (R512, R518).
DESIGN CHOICE, log entry 23. -/
def State.onRun (s : State) (key op : Nat) (f : Job → State) : Host.Outcome State Fault Refusal :=
  s.onJob key op (fun j => match s.jobStruck key j with
    | some a => (s.storeUe a).fail key j S.deviceFault
    | none => f j)

/-- The device is in GB mode (R502). -/
def State.gbMode (s : State) : Bool := s.rbit P.dev R.DEV_STAT 0

/-- The input of the SP 800-108 KDF after the counter: label, a zero octet, context, output length in bits.
DEDUCED, log entry 35. -/
def kdfInput (label context : List Octet) (octets : Nat) : List Octet :=
  label ++ [0] ++ context ++ beOctets 4 (8 * octets)

/-! ### Keys of the device root (R130, R464, R450) -/

/-- The device root (R130). -/
def State.deviceRoot (s : State) : List Octet :=
  kdfHmac 2 (beOctets 32 s.cust.hmk.toNat ++ beOctets 32 s.cust.fk.toNat) (kdfInput (ascii "SKX-ROOT") [] 32) 32

/-- A key of Table 4-1. -/
def State.rootKey (s : State) (label context : List Octet) (octets : Nat) : List Octet :=
  kdfHmac 2 s.deviceRoot (kdfInput label context octets) octets

/-- The Peat storage key (Table 4-1), under which the journal is encrypted and MAC'd (R144). -/
def State.storageKey (s : State) : BitVec 256 := BitVec.ofNat 256 (beNat (s.rootKey (ascii "PEAT-STORE") [] 32))

/-- The context key of a region (Table 4-1). -/
def State.regionKey (s : State) (rg : Nat) : List Octet :=
  s.rootKey (ascii "RGN-CTX") (BitVec.ofNat 8 rg :: beOctets 16 s.cust.nonce.toNat) 32

/-- The device fingerprint, 9 octets (Table 4-1). -/
def State.fingerprint (s : State) : List Octet := s.rootKey (ascii "FPRINT") [] 9

/-- A key of die V from the fuse key alone (R450, R464). -/
def State.fuseKey (s : State) (label : List Octet) (octets : Nat) : List Octet :=
  kdfHmac 2 (beOctets 32 s.cust.fk.toNat) (kdfInput label [] octets) octets

/-- FLK, under which the flash array is encrypted and authenticated (R464): zeroisation of HMK leaves it. -/
def State.flashKey (s : State) : List Octet := s.fuseKey (ascii "FLASH-DATA") 32

/-- What the raw array holds of a programmed page (R464): its 12-octet IV, the ciphertext, the 12-octet tag. The model keeps
the plaintext beside the drawn octets of the IV. -/
def State.rawPage (s : State) (q : Nat) : List Octet × List Octet × List Octet :=
  let iv := beOctets 3 q ++ Map.get (dflt []) s.flash.ivs q
  let (ct, tag) := gcmEnc s.flashKey iv [] (Map.get (dflt []) s.flash.pages q)
  (iv, ct, tag.take 12)

/-- What the raw array holds of journal segment `g` of page `q` with 64 octets programmed (R465): its 12-octet IV, the
ciphertext, the 12-octet tag and the commit mark that only the device can compute. -/
def State.rawSegment (s : State) (q g : Nat) (plain : List Octet) : List Octet × List Octet × List Octet × List Octet :=
  let iv := beOctets 3 q ++ [BitVec.ofNat 8 g] ++ Map.get (dflt []) s.flash.ivs (2 ^ 17 + 8 * q + g)
  let (ct, tag) := gcmEnc s.flashKey iv [] plain
  (iv, ct, tag.take 12, (cmac s.flashKey (tag.take 12)).take 16)

/-! ### The journal (R144) -/

/-- Program the record of a change into the next free segment, under the storage key; a full journal starts compaction (R144).
DEDUCED, log entry 37. -/
def State.record (s : State) (n : Option Nat) (v : Slot) : State :=
  let i := s.cust.journal.length
  ((s.setJournal (s.cust.journal ++ [⟨n, v, s.storageKey, false⟩])).progSeg i false).journalFills

/-- Another job's change of a slot is not published yet. DESIGN CHOICE, log entry 94. -/
def State.slotPending (s : State) (k n : Nat) : Bool :=
  s.jobs.any (fun e => decide (e.1 ≠ k) && (match e.2 with
    | some j => decide (j.st = .done) && (match j.pendSlot with | some p => p.1 == n | none => false)
    | none => false))

/-- Custodian slots (R143). -/
def custodianFirst : Nat := 65528

/-! ### Filling a slot (R137, R139, R212) -/

/-- Key bits beyond the algorithm's length are zero (R137). -/
def keyBits (attr0 : Word) (k : List Octet) : BitVec 256 :=
  let alg := bits attr0 17 14
  BitVec.ofNat 256 (beNat (sliceOct ((sliceOct k 0 32).take (if alg = 1 then 16 else if alg = 2 then 24 else 32)) 0 32))

/-- Peat caches the HMAC states of a slot with these attributes: GB mode, ALG 4 to 6 with MAC usage, room in the cache
(R212). -/
def State.pairFits (s : State) (attr0 : Word) : Bool :=
  s.gbMode && decide (4 ≤ bits attr0 17 14) && decide (bits attr0 17 14 ≤ 6) && tb attr0 U.mac &&
    decide (s.cust.gbCache.length < 1024)

/-- ATTR1 of a filled slot: GEN, live, and GBHMAC where the cache takes the pair (R212). -/
def State.liveAttr1 (s : State) (attr0 : Word) (gen : Nat) : Word :=
  wd (gen * 2 ^ 9 + 1 * 2 ^ 7 + b2n (s.pairFits attr0) * 2 ^ 6)

/-- The pairs of restored slots are computed anew (R212). -/
def State.cachePairs (s : State) : State :=
  (s.setGbCache []).each (s.cust.slots.map (fun e => e.1)) (fun t n =>
    let v := t.slot n
    let gb := decide (v.state = 1) && t.pairFits v.attr0
    let t := if tb v.attr1 6 = gb then t else t.setSlot n { v with attr1 := sb v.attr1 6 gb }
    if gb then t.setGbCache (t.cust.gbCache ++ [n]) else t)

/-- Complete a job whose change of slot `n` to `v` is recorded where it is persistent and takes effect at publication
(R139, R144). It stays RUNNING while another change of the slot is unpublished, and a persistent change while the journal is
compacted; in a full journal only the end of a persistent slot goes on. DEDUCED, log entry 33. DESIGN CHOICE, log entry 94. -/
def State.finishSlot (s : State) (k : Nat) (j : Job) (n : Nat) (v : Slot) (persist : Bool) (status : Nat)
    (result : List Octet) : State :=
  let frees := !tb v.attr0 0
  let room := decide (s.cust.journal.length < s.journalCap)
  if s.slotPending k n then s
  else if persist && s.journalFull && !frees then s.fail k j S.policyRefused
  else if persist && (s.cust.compacting || (!room && !s.journalFull)) then s.journalFills
  else
    let s := if persist && room then s.record (some n) v else s
    s.finish k { j with pendSlot := some (n, v) } status result

/-- Fill an empty slot with a key (R139): GEN advances; at GEN 511 the slot retires instead. DEDUCED, log entry 32. -/
def State.fillSlot (s : State) (k : Nat) (j : Job) (n : Nat) (attr0 : Word) (key : List Octet) : State :=
  let v := s.slot n
  if v.gen = 511 then
    s.finishSlot k j n { v with attr1 := putBits v.attr1 8 7 2 } v.persist S.policyRefused []
  else
    s.finishSlot k j n ⟨keyBits attr0 key, attr0, s.liveAttr1 attr0 (v.gen + 1)⟩ (tb attr0 0) j.goodStatus
      (leOctets 4 (mkRef n (v.gen + 1)))

/-- The target checks of a slot fill: not a custodian slot, attributes allowed, colour permitted, empty
(R137, R139, R142, R143). DEDUCED, log entry 32. DEDUCED, log entry 45. -/
def State.targetCheck (s : State) (j : Job) (n : Nat) (attr0 : Word) : Option Nat :=
  if custodianFirst ≤ n then some S.denied
  else if !attrOk attr0 then some S.invalidOperand
  else if !j.keyHolds (bits attr0 5 2) then some S.denied
  else if (s.slot n).state = 2 then some S.policyRefused
  else if (s.slot n).state ≠ 0 then some S.invalidOperand
  else none

/-- OPARG names only a slot number. -/
def slotArg (j : Job) : Bool := decide (bits j.oparg 31 16 = 0)

/-! ### Sessions (R160) -/

/-- A valid key reference is stale. -/
def State.keyrefStale (s : State) (r : BitVec 32) : Bool :=
  tb r 31 && (decide ((s.slot (refSlot r)).state ≠ 1) || decide ((s.slot (refSlot r)).gen ≠ refGen r))

/-- A handle is stale: its CHECK fails, or its entry is usable here and not live at its generation. -/
def State.handleStale (s : State) (k : Nat) (j : Job) (h : Nat) : Bool :=
  decide (h ≠ 0) && (!handleOk h || (s.usable (hPage h) (hEntry h) &&
    (let w := s.credView k j (hPage h) (hEntry h); decide (eState w ≠ 1) || decide (eGen w ≠ hGen h))))

/-- The references and handles of cells 1 and 2 (Table 4-15). -/
def sessRefs (j : Job) : List (BitVec 32) := [j.dw 1 0, j.dw 1 1, j.dw 1 2, j.dw 1 3]

/-- Reserved bits of the references and handles are zero. -/
def sessClean (j : Job) : Bool := (sessRefs j).all refClean && j.handlePad 2 0 && j.handlePad 2 2

/-- A reference or handle given to a session is stale (R160). -/
def State.sessStale (s : State) (k : Nat) (j : Job) : Bool :=
  (sessRefs j).any s.keyrefStale || s.handleStale k j (j.handle 2 0) || s.handleStale k j (j.handle 2 2)

/-- The context words 4 to 0o21 the cells give. -/
def sessKeys (j : Job) : List Word :=
  ((sessRefs j).map keyrefWords).flatten ++ handleWords (j.handle 2 0) ++ handleWords (j.handle 2 2)

/-- The context of a new session (R159, R160). -/
def newCtx (j : Job) : List Word :=
  [wd (2 ^ 17 + b2n (tb j.oparg 4) * 2 ^ 16 + j.queue * 2 ^ 8 + bits j.oparg 3 0), 0, 0, 0] ++ sessKeys j ++
    List.replicate 46 0

/-- SESS_OPEN (R160, R99). -/
def execSessOpen (key : Nat) (s : State) : Host.Outcome State Fault Refusal :=
  s.onRun key 0o001 (fun j =>
    if bits j.oparg 31 5 ≠ 0 ∨ !sessClean j then s.fail key j S.invalidOperand
    else if !j.keyHolds (bits j.oparg 3 0) then s.fail key j S.denied
    else if s.sessStale key j then s.fail key j S.staleHandle
    else
      let n := j.sess.getD 0
      let s := s.allocSlot n j.region
      let s := { s with lode := { s.lode with count := Map.put (dflt 0) s.lode.count n 0 } }
      s.finish key { j with pendSess := some (newCtx j) } S.ok)

/-- SESS_CLOSE (R160): the whole context is cleared. -/
def execSessClose (key : Nat) (s : State) : Host.Outcome State Fault Refusal :=
  s.onRun key 0o002 (fun j =>
    if j.oparg ≠ 0 then s.fail key j S.invalidOperand
    else
      let s : State := { s with diag := { s.diag with failSess := drop1 s.diag.failSess (j.sess.getD 0) } }
      s.finish key { j with pendSess := some (List.replicate 64 0) } S.ok)

/-- SESS_REKEY (R160): references and handles replaced, SEQ 0, CHAIN and OPSTATE cleared. -/
def execSessRekey (key : Nat) (s : State) : Host.Outcome State Fault Refusal :=
  s.onRun key 0o003 (fun j =>
    if j.oparg ≠ 0 ∨ !sessClean j then s.fail key j S.invalidOperand
    else if s.sessStale key j then s.fail key j S.staleHandle
    else
      let c := s.sessView key j (j.sess.getD 0)
      s.finish key { j with pendSess := some ([cw c 0, 0, 0, 0] ++ sessKeys j ++ List.replicate 46 0) } S.ok)

/-! ### Page images (R152 to R156) -/

/-- Octets of a whole image. -/
def imageLen : Nat := 74065

/-- The zero fields of Table 4-10 are zero and FORMAT is right. DEDUCED, log entry 34. -/
def headerForm (h : List Word) : Bool :=
  let n := (cw h 7).toNat
  decide (cw h 0 = 0o513001) && decide (bits (cw h 2) 17 8 = 0) && decide (bits (cw h 4) 17 16 = 0) &&
    decide (bits (cw h 5) 17 9 = 0) && decide (bits (cw h 6) 17 13 = 0) && decide (bits (cw h 7) 17 5 = 0) &&
    (List.range 16).all (fun i => decide (bits (cw h (8 + i)) 17 16 = 0) && (decide (i < n) || decide (cw h (8 + i) = 0))) &&
    decide (bits (cw h 0o40) 17 8 = 0) && decide (cw h 0o41 = 0) && decide (cw h 0o42 = 0) && decide (cw h 0o43 = 0)

/-- The page a header names. -/
def headerPage (h : List Word) : Nat := (cw h 1).toNat + bits (cw h 2) 7 0 * 2 ^ 18

/-- The 10 nonce octets of a header. -/
def headerNonce (h : List Word) : List Octet :=
  beOctets 10 ((List.range 5).foldl (fun a i => a + (cw h (0o34 + i)).toNat * 2 ^ (18 * i)) 0)

/-- The epoch check of R110 and Table 4-11: not ahead of the own epoch, and not 2^17 from it. -/
def epochAhead (own got : BitVec 18) : Bool := decide (2 ^ 17 ≤ (own - got).toNat)

/-- A domain slot (R145, R153): the device key matches every colour; live, generation, usage, AES-256.
DEDUCED, log entry 34. -/
def State.domainCheck (s : State) (slot gen usage : Nat) : Option Nat :=
  let v := s.slot slot
  if v.state ≠ 1 ∨ v.gen ≠ gen then some S.staleHandle
  else if !tb v.attr0 usage || decide (v.alg ≠ 3) then some S.denied
  else none

/-- Free frames of a region. -/
def State.freeFrames (s : State) (rg : Nat) : Nat :=
  if s.regionQuar rg then 0
  else 256 - (s.cust.frames.filter (fun e => e.2.used && decide (e.1 / 256 = rg))).length

/-- The frame a load takes: the region with the most free frames, its lowest free frame (R154). DEDUCED, log entry 34. -/
def State.pickFrame (s : State) : Option Nat :=
  let rg := (argMin (fun r => (256 - s.freeFrames r, r, 0)) (List.range 4)).getD 0
  if s.freeFrames rg = 0 then none
  else (firstFree 256 (256 * rg) ((s.cust.frames.filter (fun e => e.2.used)).map (fun e => e.1))).map (fun i => 256 * rg + i)

/-- The first failing header check of Table 4-11, the supplied length apart. -/
def State.headerCheck (s : State) (h : List Word) (page : Nat) : Option Nat :=
  let own := s.net.applied.epoch
  let n := bits (cw h 7) 4 0
  if !headerForm h then some S.invalidOperand
  else if headerPage h ≠ page then some S.invalidOperand
  else if s.cust.frames.any (fun e => e.2.used && e.2.page == page) then some S.invalidOperand
  else if !s.ownsPage page then some S.denied
  else match s.domainCheck (bits (cw h 4) 15 0) (bits (cw h 5) 8 0) U.unwrap with
    | some st => some st
    | none =>
      if 16 < n ∨ (n ≠ 0 ∧ (List.range n).all (fun i => decide ((cw h (8 + i)).toNat ≠ s.devId)) = true) then some S.denied
      else if epochAhead own (cw h 3) then some S.denied
      else none

/-- The domain slot a header names has lost a word, and the checks before it pass. DESIGN CHOICE, log entry 90. -/
def State.headerStruck (s : State) (h : List Word) (page : Nat) : Option Nat :=
  if headerForm h && headerPage h == page && !s.cust.frames.any (fun e => e.2.used && e.2.page == page) && s.ownsPage page then
    s.slotStruck ((cw h 4).setWidth 32)
  else none

/-- A load ends with a status other than OK: the request for its page ends and waiting jobs complete NOT_RESIDENT, but
for the INVALID_OPERAND of a page already here (R82). -/
def State.loadFail (s : State) (k : Nat) (j : Job) (status : Nat) : State :=
  let page := bits j.oparg 25 0
  let here := s.cust.frames.any (fun e => e.2.used && e.2.page == page)
  let s := s.fail k j status
  if status = S.invalidOperand ∧ here then s else s.endRequest page true false

/-- PAGE_LOAD (R153): the header checks, then a frame is taken and the chunks are awaited; host data that fails raises
LOAD_FAIL (R155). DEDUCED, log entry 34. -/
def execPageLoad (key : Nat) (s : State) : Host.Outcome State Fault Refusal :=
  s.onRun key 0o010 (fun j =>
    if j.frame.isSome then s
    else if bits j.oparg 31 26 ≠ 0 ∨ j.sgBad 1 then s.loadFail key j S.invalidOperand
    else if !j.lenKnown 1 then (if j.hostErr then (s.event P.cred 3).loadFail key j S.aborted else s)
    else if j.supplied 1 < imageLen then s.loadFail key j S.short
    else if j.hostErr then (s.event P.cred 3).loadFail key j S.aborted
    else
      let d := match j.inp 1 with | some h => h.octets.take 81 | none => []
      if d.length < 81 then s
      else
        if let some a := s.headerStruck (streamWords 36 d) (bits j.oparg 25 0) then (s.storeUe a).loadFail key j S.deviceFault
        else match s.headerCheck (streamWords 36 d) (bits j.oparg 25 0) with
        | some st => s.loadFail key j st
        | none => match s.pickFrame with
          | none => (s.event P.cred 2).loadFail key j S.notResident
          | some f =>
            let s := s.setFrame f ⟨true, true, false, false, 0, bits j.oparg 25 0⟩
            s.setJob key { j with frame := some f, region := f / 256 })

/-- The load of a frame stops: the frame is cleared and freed, LOAD_FAIL is raised (R155). -/
def State.loadStop (s : State) (k : Nat) (j : Job) (f status : Nat) : State :=
  let s := ((s.clearWords (frameBase f) 32768).setFrame f Frame.free).event P.cred 3
  s.loadFail k { j with frame := none } status

/-- The 14 result octets of a load or evict: GEN_DIGEST, LIVE and EPOCH of the image's header. -/
def imageResult (h : List Word) : List Octet :=
  wordStream ((h.drop 0o30).take 4) ++ leOctets 2 (bits (cw h 6) 12 0) ++ leOctets 3 (cw h 3).toNat

/-- CHUNK_VERIFY (R154, R155): one chunk's 4,624 octets are authenticated and its entries become usable together. -/
def execChunkVerify (key chunk : Nat) (data : List Octet) (err : Bool) (s : State) : Host.Outcome State Fault Refusal :=
  s.onRun key 0o010 (fun j =>
    match j.frame with
    | none => s
    | some f =>
      let fr := s.frame f
      if fr.chunks.getLsbD chunk then s
      else if err || j.hostErr then s.loadStop key j f S.aborted
      else
        let hd := match j.inp 1 with | some h => h.octets.take 81 | none => []
        let hw := streamWords 36 hd
        let k256 := beOctets 32 (s.slot (bits (cw hw 4) 15 0)).key.toNat
        if let some a := s.slotStruck ((cw hw 4).setWidth 32) then (s.storeUe a).loadStop key j f S.deviceFault
        else match gcmDec k256 (headerNonce hw ++ beOctets 2 chunk) (hd ++ [BitVec.ofNat 8 chunk]) (data.take 4608)
            (sliceOct data 4608 16) with
        | none => s.loadStop key j f S.authFail
        | some pt =>
          let s := s.setWords (frameBase f + 2048 * chunk) (streamWords 2048 pt)
          let ch := fr.chunks ||| BitVec.ofNat 16 (2 ^ chunk)
          if ch = 0xFFFF then
            let s := s.setFrame f { fr with chunks := ch, loading := false }
            let s := s.endRequest (bits j.oparg 25 0) false false
            s.finish key j (if imageLen < j.supplied 1 then S.okTruncated else S.ok) (imageResult hw)
          else s.setFrame f { fr with chunks := ch })

/-- PAGE_EVICT (R156): the page goes out of use at once; the job stays RUNNING until EVICT_WRITE. DEDUCED, log entry 34. -/
def execPageEvict (key : Nat) (s : State) : Host.Outcome State Fault Refusal :=
  s.onRun key 0o011 (fun j =>
    let page := bits j.oparg 25 0
    let disc := tb j.oparg 31
    let r := j.dw 2 0
    if j.frame.isSome then s
    else if bits j.oparg 30 26 ≠ 0 ∨ !refClean r ∨ bits (j.dw 2 1) 31 5 ≠ 0 ∨ 16 < bits (j.dw 2 1) 4 0 then
      s.fail key j S.invalidOperand
    else match s.frameOf page with
      | none => s.fail key j (if s.ownsPage page then S.invalidOperand else S.denied)
      | some f =>
        if (s.frame f).loading then s.fail key j S.invalidOperand
        else if let some a := (if disc then none else s.slotStruck r) then (s.storeUe a).fail key j S.deviceFault
        else match (if disc then none else s.domainCheck (refSlot r) (refGen r) U.wrap) with
          | some st => s.fail key j st
          | none =>
            if !disc ∧ j.sgBad 1 then s.fail key j S.invalidOperand
            else if !disc ∧ !j.lenKnown 1 then (if j.hostErr then s.fail key j S.aborted else s)
            else if !disc ∧ j.supplied 1 < imageLen then s.fail key j S.invalidOperand
            else if disc ∧ (s.frame f).dirty then s.fail key j S.denied
            else
              let s := s.setFrame f { s.frame f with evicting := true }
              let s := s.endRequest page false false
              s.setJob key { j with frame := some f, region := f / 256 })

/-- No placed job uses the page and no change to it is pending (R156). -/
def State.pageQuiet (s : State) (key page : Nat) : Bool :=
  s.jobs.all (fun e => match e.2 with
    | some j => decide (e.1 = key) ||
        !((decide (j.st = .dispatched) || decide (j.st = .running) || decide (j.st = .parked)) && j.fwd.isNone &&
          (match s.credOf e.1 j with | some h => hPage h == page | none => false)) &&
        !(decide (j.st = .done) && j.pendCred.any (fun c => c.1 == page))
    | none => true)

/-- The header words of a new image. -/
def imageHeader (page : Nat) (epoch : BitVec 18) (r : BitVec 32) (live n : Nat) (ids : List Nat) (gens : List Octet)
    (nonce : Nat) : List Word :=
  [0o513001, wd page, wd (page / 2 ^ 18), epoch, wd (refSlot r), wd (refGen r), wd live, wd n] ++
    (List.range 16).map (fun i => if i < n then wd (ids.getD i 0) else 0) ++
    streamWords 4 ((sha3_256 gens).take 9) ++ (List.range 5).map (fun i => wd (nonce / 2 ^ (18 * i))) ++ [0, 0, 0]

/-- One encrypted chunk with its tag. -/
def imageChunk (key hdr : List Octet) (nonce : List Octet) (ws : List Word) (i : Nat) : List Octet :=
  let (c, t) := gcmEnc key (nonce ++ beOctets 2 i) (hdr ++ [BitVec.ofNat 8 i]) (wordStream ws)
  c ++ t

/-- The header of an image of a frame as it stands (Table 4-10). -/
def State.frameHeader (s : State) (j : Job) (f nonce : Nat) : List Word :=
  let w7 := (List.range 4096).map (fun e => s.word (frameBase f + 8 * e + 7))
  let live := (w7.filter (fun w => bits w 5 4 == 1)).length
  let gens := w7.map (fun w => BitVec.ofNat 8 (bits w 17 10))
  let ids := (List.range 16).map (fun i => leNat (j.oct 3 (2 * i) 2))
  imageHeader (bits j.oparg 25 0) s.net.applied.epoch (j.dw 2 0) live (bits (j.dw 2 1) 4 0) ids gens nonce

/-- An evict that cannot be carried out: the page is back in use. -/
def State.evictFail (s : State) (k : Nat) (j : Job) (f status : Nat) : State :=
  (s.setFrame f { s.frame f with evicting := false }).fail k { j with frame := none } status

/-- EVICT_WRITE (R156): once its conditions hold, the image is written, but for DISCARD. The frame is held, and cleared and
freed at publication. DEDUCED, log entry 34. -/
def execEvictWrite (key : Nat) (s : State) : Host.Outcome State Fault Refusal :=
  s.onRun key 0o011 (fun j =>
    match j.frame with
    | none => s
    | some f =>
      if !s.pageQuiet key (bits j.oparg 25 0) then s
      else if tb j.oparg 31 then
        if (s.frame f).dirty then s.evictFail key j f S.denied
        else s.finish key j S.ok (imageResult (s.frameHeader j f 0))
      else if let some a := s.slotStruck (j.dw 2 0) then (s.storeUe a).evictFail key j f S.deviceFault
      else if !s.rngOk custodyInst then s.evictFail key j f S.deviceFault
      else
        let s := s.frameUe f
        let (nonce, s) := s.drawFrom custodyInst 10
        let ws := s.words (frameBase f) 32768
        let hw := s.frameHeader j f (beNat nonce)
        let hd := wordStream hw
        let k256 := beOctets 32 (s.slot (refSlot (j.dw 2 0))).key.toNat
        let img := hd ++ ((List.range 16).map (fun i =>
          imageChunk k256 hd nonce ((ws.drop (2048 * i)).take 2048) i)).flatten
        (s.toBuffer j 1 img).finish key j S.ok (imageResult hw))

/-! ### Credential entries (R149, R157, R158) -/

/-- Steps 3 to 5 of Table 4-21 for CRED_WRITE and CRED_DERIVE. -/
def State.writeCheck (s : State) (k : Nat) (j : Job) (h colour : Nat) : Option Nat :=
  let w := s.credView k j (hPage h) (hEntry h)
  if eState w = 2 ∨ (eState w = 3 ∧ eGen w = 0) then some S.staleHandle
  else if eGen w ≠ hGen h then some S.staleHandle
  else if (eState w ≠ 0 ∧ !j.colourOk (eColour w)) ∨ !j.colourOk colour then some S.denied
  else none

/-- Store a new secret in an entry (R157): GEN advances; an entry at GEN 255 retires and the job completes
POLICY_REFUSED. DEDUCED, log entry 33. -/
def State.storeSecret (s : State) (k : Nat) (j : Job) (h colour kind : Nat) (secret : List Octet) : State :=
  let w := s.credView k j (hPage h) (hEntry h)
  if eGen w = 255 then
    s.finish k { j with pendCred := [(hPage h, hEntry h, entryWithState w 2 true)] } S.policyRefused
  else
    s.finish k { j with pendCred := [(hPage h, hEntry h, mkEntry secret (eGen w + 1) colour 1 kind)] } S.ok
      (leOctets 7 (mkHandle (hPage h) (hEntry h) (eGen w + 1)))

/-- The operand checks CRED_WRITE and CRED_DERIVE share, and their slot under a usage; an AES slot is needed. -/
def State.credSlotCheck (s : State) (k : Nat) (j : Job) (usage : Nat) : Option Nat :=
  let h := j.handle 1 0
  if j.oparg ≠ 0 ∨ !j.handlePad 1 0 ∨ bits (j.dw 1 3) 31 6 ≠ 0 ∨ tb (j.dw 1 2) 31 then some S.invalidOperand
  else match s.writeCheck k j h (bits (j.dw 1 3) 3 0) with
    | some st => some st
    | none => match s.slotCheck j (j.dw 1 2) usage with
      | some st => some st
      | none => if 3 < (s.slot (refSlot (j.dw 1 2))).alg then some S.invalidOperand else none

/-- CRED_WRITE (R157). -/
def execCredWrite (key : Nat) (s : State) : Host.Outcome State Fault Refusal :=
  s.onRun key 0o012 (fun j =>
    match s.credSlotCheck key j U.unwrap with
    | some st => s.fail key j st
    | none =>
      if j.oct 2 24 8 ≠ zeros 8 then s.fail key j S.invalidOperand
      else match kwUnwrap (s.slot (refSlot (j.dw 1 2))).keyOctets (j.oct 2 0 24) with
        | none => s.fail key j S.authFail
        | some sec => s.storeSecret key j (j.handle 1 0) (bits (j.dw 1 3) 3 0) (bits (j.dw 1 3) 5 4) sec)

/-- CRED_DERIVE (R162): the KDF with CMAC-AES, label CRED and the diversification data as context. -/
def execCredDerive (key : Nat) (s : State) : Host.Outcome State Fault Refusal :=
  s.onRun key 0o013 (fun j =>
    match s.credSlotCheck key j U.derive with
    | some st => s.fail key j st
    | none =>
      let sec := kdfCmac (s.slot (refSlot (j.dw 1 2))).keyOctets (kdfInput (ascii "CRED") (j.oct 2 0 16) 16) 16
      s.storeSecret key j (j.handle 1 0) (bits (j.dw 1 3) 3 0) (bits (j.dw 1 3) 5 4) sec)

/-- CRED_RETIRE (Table 4-21, R157). -/
def execCredRetire (key : Nat) (s : State) : Host.Outcome State Fault Refusal :=
  s.onRun key 0o014 (fun j =>
    let h := j.handle 1 0
    let w := s.credView key j (hPage h) (hEntry h)
    if j.oparg ≠ 0 ∨ !j.handlePad 1 0 ∨ j.dw 1 2 ≠ 0 ∨ j.dw 1 3 ≠ 0 then s.fail key j S.invalidOperand
    else if eState w = 0 ∨ eState w = 2 then s.fail key j S.staleHandle
    else if eGen w ≠ hGen h then s.fail key j S.staleHandle
    else if !j.colourOk (eColour w) then s.fail key j S.denied
    else s.finish key { j with pendCred := [(hPage h, hEntry h, entryWithState w 2 false)] } S.ok)

/-- An open session holds a handle to the entry, whatever its GEN (R158). -/
def State.sessionHolds (s : State) (page entry : Nat) : Bool :=
  s.lode.slotOf.any (fun e =>
    let c := s.words (ctxBase (e.2 - 1)) 64
    ctxOpen c && (List.range 2).any (fun i =>
      let h := ctxHandle c i
      decide (h ≠ 0) && hPage h == page && hEntry h == entry))

/-- RECLAIM (R158): a retired entry, or with SLOT a retired slot, becomes empty with GEN 0. -/
def execReclaim (key : Nat) (s : State) : Host.Outcome State Fault Refusal :=
  s.onRun key 0o015 (fun j =>
    if bits j.oparg 31 1 ≠ 0 then s.fail key j S.invalidOperand
    else if tb j.oparg 0 then
      let r := j.dw 1 0
      let v := s.slot (refSlot r)
      if !refClean r ∨ tb r 31 ∨ j.dw 1 1 ≠ 0 ∨ j.dw 1 2 ≠ 0 ∨ j.dw 1 3 ≠ 0 then s.fail key j S.invalidOperand
      else if custodianFirst ≤ refSlot r then s.fail key j S.denied
      else if v.state ≠ 2 then s.fail key j S.invalidOperand
      else if v.gen ≠ refGen r then s.fail key j S.staleHandle
      else if !j.keyHolds v.colour then s.fail key j S.denied
      else s.finishSlot key j (refSlot r) ⟨0, 0, 0⟩ v.persist S.ok []
    else
      let h := j.handle 1 0
      let w := s.credView key j (hPage h) (hEntry h)
      if !j.handlePad 1 0 ∨ j.dw 1 2 ≠ 0 ∨ j.dw 1 3 ≠ 0 then s.fail key j S.invalidOperand
      else if eState w ≠ 2 then s.fail key j S.invalidOperand
      else if eGen w ≠ hGen h then s.fail key j S.staleHandle
      else if !j.colourOk (eColour w) ∨ s.sessionHolds (hPage h) (hEntry h) then s.fail key j S.denied
      else s.finish key { j with pendCred := [(hPage h, hEntry h, w.take 7 ++ [putBits (putBits (cw w 7) 5 4 0) 17 10 0])] }
        S.ok)

/-! ### Slots -/

/-- SLOT_GENERATE (R139). -/
def execSlotGenerate (key : Nat) (s : State) : Host.Outcome State Fault Refusal :=
  s.onRun key 0o020 (fun j =>
    let n := bits j.oparg 15 0
    let a := wd (j.dw 1 0).toNat
    if !slotArg j ∨ bits (j.dw 1 0) 31 18 ≠ 0 ∨ j.dw 1 1 ≠ 0 ∨ j.dw 1 2 ≠ 0 ∨ j.dw 1 3 ≠ 0 then s.fail key j S.invalidOperand
    else match s.targetCheck j n a with
      | some st => s.fail key j st
      | none =>
        if !s.rngOk custodyInst then s.fail key j S.deviceFault
        else
          let (o, s) := s.drawFrom custodyInst 32
          s.fillSlot key j n a o)

/-- SLOT_UNWRAP (R141). DEDUCED, log entry 32. -/
def execSlotUnwrap (key : Nat) (s : State) : Host.Outcome State Fault Refusal :=
  s.onRun key 0o021 (fun j =>
    let n := bits j.oparg 15 0
    if !slotArg j ∨ tb (j.dw 1 0) 31 ∨ j.dw 1 1 ≠ 0 ∨ j.dw 1 2 ≠ 0 ∨ j.dw 1 3 ≠ 0 then s.fail key j S.invalidOperand
    else if custodianFirst ≤ n then s.fail key j S.denied
    else match s.slotCheck j (j.dw 1 0) U.unwrap with
      | some st => s.fail key j st
      | none =>
        if 3 < (s.slot (refSlot (j.dw 1 0))).alg then s.fail key j S.invalidOperand
        else match kwpUnwrap (s.slot (refSlot (j.dw 1 0))).keyOctets (j.oct 2 0 48) with
          | none => s.fail key j S.authFail
          | some p =>
            let a := beNat (p.drop 32)
            if p.length ≠ 35 ∨ 2 ^ 18 ≤ a then s.fail key j S.authFail
            else match s.targetCheck j n (wd a) with
              | some st => s.fail key j st
              | none => s.fillSlot key j n (wd a) (p.take 32))

/-- SLOT_WRAP (R141). -/
def execSlotWrap (key : Nat) (s : State) : Host.Outcome State Fault Refusal :=
  s.onRun key 0o022 (fun j =>
    let r := j.oparg
    let v := s.slot (refSlot r)
    let w := s.slot (refSlot (j.dw 1 0))
    if !refClean r ∨ tb r 31 ∨ tb (j.dw 1 0) 31 ∨ j.dw 1 1 ≠ 0 ∨ j.dw 1 2 ≠ 0 ∨ j.dw 1 3 ≠ 0 then
      s.fail key j S.invalidOperand
    else if custodianFirst ≤ refSlot r then s.fail key j S.denied
    else if v.state ≠ 1 ∨ v.gen ≠ refGen r then s.fail key j S.staleHandle
    else if !j.keyHolds v.colour ∨ !v.export then s.fail key j S.denied
    else match s.slotCheck j (j.dw 1 0) U.wrap with
      | some st => s.fail key j st
      | none =>
        if 3 < w.alg then s.fail key j S.invalidOperand
        else s.finish key j S.ok (kwpWrap w.keyOctets (beOctets 32 v.key.toNat ++ beOctets 3 v.attr0.toNat)))

/-- The key SLOT_DERIVE makes from a source slot and the host octets (R162). DEDUCED, log entry 35. -/
def derivedKey (v : Slot) (input : List Octet) : List Octet :=
  let inp := input ++ beOctets 4 256
  if v.alg = 7 then kdfHmac 1 (beOctets 32 v.key.toNat) inp 32 else kdfCmac v.keyOctets inp 32

/-- The attributes of a derived key: the source's COLOUR; EXPORT only where the source has it (R162).
DEDUCED, log entry 35. -/
def derivedAttr (v : Slot) (attr0 : Word) : Word :=
  let a := putBits attr0 5 2 v.colour
  if v.export then a else sb a 1 false

/-- SLOT_DERIVE (R162). -/
def execSlotDerive (key : Nat) (s : State) : Host.Outcome State Fault Refusal :=
  s.onRun key 0o023 (fun j =>
    let n := bits j.oparg 15 0
    let v := s.slot (refSlot (j.dw 1 0))
    let a := derivedAttr v (wd (j.dw 1 1).toNat)
    if !slotArg j ∨ tb (j.dw 1 0) 31 ∨ bits (j.dw 1 1) 31 18 ≠ 0 ∨ j.dw 1 2 ≠ 0 ∨ j.dw 1 3 ≠ 0 then
      s.fail key j S.invalidOperand
    else match s.slotCheck j (j.dw 1 0) U.derive with
      | some st => s.fail key j st
      | none =>
        if ¬ (v.alg ≤ 3 ∨ v.alg = 7) then s.fail key j S.invalidOperand
        else match s.targetCheck j n a with
          | some st => s.fail key j st
          | none =>
            if j.declared 2 = 0 ∨ 256 < j.declared 2 ∨ j.sgBad 2 then s.fail key j S.invalidOperand
            else if !j.lenKnown 2 then (if j.hostErr then s.fail key j S.aborted else s)
            else match j.lenStatus with
              | some st => s.fail key j st
              | none =>
                if j.hostErr then s.fail key j S.aborted
                else if !j.dataHere 2 then s
                else s.fillSlot key j n a (derivedKey v (j.data 2)))

/-- SLOT_DESTROY (R162): the slot becomes empty; its generation stays, so old references are stale. -/
def execSlotDestroy (key : Nat) (s : State) : Host.Outcome State Fault Refusal :=
  s.onRun key 0o024 (fun j =>
    let r := j.oparg
    let v := s.slot (refSlot r)
    if !refClean r ∨ tb r 31 then s.fail key j S.invalidOperand
    else if custodianFirst ≤ refSlot r then s.fail key j S.denied
    else if v.state ≠ 1 ∨ v.gen ≠ refGen r then s.fail key j S.staleHandle
    else if !j.keyHolds v.colour then s.fail key j S.denied
    else s.finishSlot key j (refSlot r) ⟨0, 0, wd (v.gen * 2 ^ 9)⟩ v.persist S.ok [])

/-- SLOT_INFO (R140): the attribute words only. -/
def execSlotInfo (key : Nat) (s : State) : Host.Outcome State Fault Refusal :=
  s.onRun key 0o025 (fun j =>
    let v := s.slot (bits j.oparg 15 0)
    if !slotArg j then s.fail key j S.invalidOperand
    else if v.state = 1 ∧ !j.keyHolds v.colour then s.fail key j S.denied
    else s.finish key j S.ok (leOctets 4 v.attr0.toNat ++ leOctets 4 v.attr1.toNat))

/-- RNG_GET (R162): random octets from the region's DRBG. -/
def execRngGet (key : Nat) (s : State) : Host.Outcome State Fault Refusal :=
  s.onRun key 0o030 (fun j =>
    let n := bits j.oparg 12 0
    if bits j.oparg 31 13 ≠ 0 ∨ n = 0 ∨ 4096 < n ∨ j.sgBad 1 then s.fail key j S.invalidOperand
    else if !j.lenKnown 1 then (if j.hostErr then s.fail key j S.aborted else s)
    else if j.supplied 1 < n then s.fail key j S.invalidOperand
    else if !s.rngOk j.region then s.fail key j S.deviceFault
    else
      let (o, s) := s.drawFrom j.region n
      (s.toBuffer j 1 o).finish key j S.ok)

/-! ### Entropy -/

/-- The pages of units that need fresh randomness: cipher units for their masks, bignum units for their checks
(R170, R230). -/
def fedPages : List Nat := (List.range 32).map P.ciph ++ (List.range 16).map P.bn

/-- Units lose their fresh randomness (R170, R230): READY 0, the running job completes DEVICE_FAULT.
DEDUCED, log entry 38. -/
def State.starveUnits (s : State) : State :=
  (s.each fedPages (fun t p => t.setStat p ST.ready false)).each fedPages (fun t p =>
    match t.runsOn p with
    | some k => (match t.job k with
        | some j => t.fail k j S.deviceFault
        | none => t)
    | none => t)

/-- A restart of RNG that followed a failure began less than 1 s ago (R135); such a restart is kept as its `now` plus 2.
DEDUCED, log entry 38. -/
def State.rngRestarted (s : State) : Bool :=
  decide (2 ≤ s.cust.restart) && decide (s.now + 2 - s.cust.restart ≤ 1000000000)

/-- A health test fails (R135): the repetition count test, the adaptive proportion test, or both. DEDUCED, log entry 38. -/
def State.healthFail (s : State) (rct apt : Bool) : State :=
  let s := s.modReg P.rng R.RNG_STAT (fun v =>
    let v := putBits (sb v 10 false) 4 0 0
    sb (sb v 8 (rct || tb v 8)) 9 (apt || tb v 9))
  let s := (((s.setStat P.rng ST.error true).setStat P.rng ST.ready false).inc36 P.rng R.RNG_FAILS).detect 17
  let s : State := { s with cust := { s.cust with rngDead := s.cust.rngDead || s.rngRestarted },
                            lev := { s.lev with starting := drop1 s.lev.starting P.rng } }
  s.starveUnits.event P.rng 0

/-- The repetition count test (R134): the newest of the samples has come RCT_CUT times in a row; cutoffs below 0o20 act as
0o20. -/
def State.rctFails (s : State) (last : List Octet) : Bool :=
  let cut := max 0o20 (s.rfld P.rng R.RNG_RCT_CUT 7 0)
  let run := last.drop (last.length - cut)
  decide (run.length = cut) && run.all (fun o => o == last.getLastD 0)

/-- The adaptive proportion test (R134): the first value of a window has come APT_CUT times within it. -/
def State.aptFails (s : State) (window : List Octet) : Bool :=
  match window with
  | [] => false
  | o :: _ => decide (s.rfld P.rng R.RNG_APT_CUT 8 0 ≤ (window.filter (fun x => x == o)).length)

/-- HEALTH_FAIL (R134, R135): a raw sample fails a test; `last` are the samples up to it, `window` those of the 512-sample
window it stands in, oldest first. -/
def execHealthFail (last window : List Octet) (s : State) : Host.Outcome State Fault Refusal :=
  when (s.en P.rng && !s.stat P.rng ST.error && (s.rctFails last || s.aptFails window)) s
    (s.healthFail (s.rctFails last) (s.aptFails window))

/-- An instance is seeded with fresh entropy: its request count and its time start again (R133). -/
def State.seed (s : State) (inst : Nat) : State :=
  { s with cust := { s.cust with reqs := Map.put (dflt 0) s.cust.reqs inst 0,
                                 seeded := Map.put (dflt 0) s.cust.seeded inst (s.now + 1) } }

/-- An instance's reseed is due (R133): RESEED × 4,096 requests, 0 acting as 1, or 1 s. -/
def State.reseedDue (s : State) (inst : Nat) : Bool :=
  decide (max 1 (s.rfld P.rng R.RNG_CFG 15 0) * 4096 ≤ Map.get (dflt 0) s.cust.reqs inst) ||
    decide (Map.get (dflt 0) s.cust.seeded inst + 1000000000 ≤ s.now + 1)

/-- DRBG_RESEED (R133): an instance whose reseed is due is reseeded. -/
def execDrbgReseed (inst : Nat) (s : State) : Host.Outcome State Fault Refusal :=
  when (s.rngOk inst && s.reseedDue inst) s ((s.seed inst).inc36 P.rng R.RNG_RESEEDS)

/-- The records a compaction keeps: of each slot and of the quorum the newest committed one, where it still stands, and
those of changes not yet published. DEDUCED, log entry 37. -/
def State.journalKept (s : State) : List JRec :=
  let newest (r : JRec) (rest : List JRec) : Bool := r.mark && !rest.any (fun x => x.mark && x.slot == r.slot) &&
    (r.slot.isNone || tb r.val.attr0 0)
  let waits (r : JRec) : Bool := !r.mark && s.jobs.any (fun e => match e.2 with
    | some j => decide (j.st = .done) && (match j.pendSlot with | some p => r.slot == some p.1 && r.val == p.2 | none => false)
    | none => false)
  (List.range s.cust.journal.length).filterMap (fun i => match s.cust.journal.drop i with
    | [] => none
    | r :: rest => if newest r rest || waits r then some r else none)

/-- The journal's sectors hold these records and nothing else. -/
def State.rewriteJournal (s : State) (l : List JRec) : State :=
  let base := s.rfld P.peat R.PEAT_STORE_BASE 9 0
  let other (k : Nat) : Bool := decide (k / 16 / 128 < base) || decide (base + s.storeCount ≤ k / 16 / 128)
  let s : State := { s.setJournal l with flash := { s.flash with segs := s.flash.segs.filter other } }
  s.each (List.range l.length) (fun t i =>
    let t := t.progSeg i false
    match l[i]? with | some r => if r.mark then t.progSeg i true else t | none => t)

/-- JOURNAL_COMPACT (R144): the journal is rewritten with the records still needed; JOURNAL_FULL when fewer than 64
segments became free. DEDUCED, log entry 37. -/
def execJournalCompact (s : State) : Host.Outcome State Fault Refusal :=
  if s.cust.compacting then
    let kept := s.journalKept
    let t := s.rewriteJournal kept
    let full := decide (t.journalCap < kept.length + 64)
    let t : State := { t with cust := { t.cust with compacting := false } }
    let t := (t.setRbit P.peat R.PEAT_STAT 1 false).setRbit P.peat R.PEAT_STAT 2 full
    .next (if full then t.event P.peat 3 else t)
  else .next s

/-- QKEY_DATA_WRITE (R142): stored for the selected queue, or dropped with QKEY_BUSY while that queue runs. -/
def execQkeyDataWrite (req : Requester) (val : Word) (s : State) : Host.Outcome State Fault Refusal :=
  let q := s.rfld P.peat R.PEAT_QKEY_SEL 7 0
  s.written P.peat (if s.en (P.wq q) || s.stat (P.wq q) ST.stopping then s.pgErr P.peat 0 req R.PEAT_QKEY_DATA
    else { s with cust := { s.cust with qkeys := Map.put (dflt 0) s.cust.qkeys q (val.setWidth 16) } })

end Sys2Proof.Machine
end

