-- ==== Sys2Proof/Machine/Units.lean ====
section
/-! DEFINITION. Quarantine of units, clusters and regions (R21 to R24), and what a unit's shutdown, start-up and reset do
to the jobs it holds. -/
namespace Sys2Proof.Machine

/-! ### Member pages -/

/-- The member pages of a cluster: cores, cipher, digest and bignum units (R23). -/
def clusterPages (n : Nat) : List Nat :=
  (List.range 4).map (fun i => P.kz (4 * n + i)) ++ (List.range 2).map (fun i => P.ciph (2 * n + i)) ++
    (List.range 2).map (fun i => P.dig (2 * n + i)) ++ [P.bn n]

/-- The station pages. -/
def stationPages : List Nat := (List.range 16).map P.cst ++ (List.range 16).map P.fst

/-- The event bit of QUARANTINE of a unit page; `none` for pages that define none. -/
def quarEvent (p : Nat) : Option Nat :=
  match blockOf p with
  | some (.ciph, _) | some (.dig, _) | some (.bn, _) => some 1
  | some (.cst, _) => some 4
  | some (.fst, _) => some 6
  | _ => none

/-! ### Jobs of a unit -/

/-- Complete a running or parked job DEVICE_FAULT; a PAGE_LOAD's request ends with it (R82). -/
def State.faultJob (s : State) (k : Nat) : State :=
  match s.job k with
  | some j =>
    if j.st = .done then s
    else
      let t := ((s.freeRec j).dropStaging j).finish k { j with parkMode := 0, staging := none } S.deviceFault
      if j.opcode = 0o010 then t.endRequest (bits j.oparg 25 0) true false else t
  | none => s

/-- Complete every job DEVICE_FAULT that a predicate names. -/
def State.faultJobs (s : State) (f : Job → Bool) : State :=
  s.each ((s.jobs.filter (fun e => match e.2 with | some j => f j | none => false)).map (fun e => e.1))
    (fun t k => t.faultJob k)

/-- The job running on a unit completes DEVICE_FAULT (R22). -/
def State.faultRunning (s : State) (p : Nat) : State := match s.runsOn p with | some k => s.faultJob k | none => s

/-- The jobs whose saved context a unit made complete DEVICE_FAULT (Table 2-6). DEDUCED, log entry 28. -/
def State.faultSaved (s : State) (p : Nat) : State :=
  s.faultJobs (fun j => decide (j.st = .parked) && j.savedBy == some p)

/-- A core stops (R23, R275): no instruction, no held job, nothing outstanding. -/
def State.stopCore (s : State) (c : Nat) : State :=
  let x := s.core c
  let s := s.each x.cmds (fun t k => t.discard k)
  s.setCore c { x with run := false, waiting := false, held := 0, cmds := [], aborting := false, loads := [], delay := none }

/-- The commands a core has outstanding are discarded (R271, R189, R236). -/
def State.dropCmds (s : State) (c : Nat) : State :=
  let s := s.each (s.core c).cmds (fun t k => t.discard k)
  s.modCore c (fun x => { x with cmds := [] })

/-- The number of a core, cipher, digest or bignum unit among its cluster's requesters (Table 12-1, kinds 2 and 3). -/
def clusterRq (p : Nat) : Option (Nat × Nat) :=
  match blockOf p with
  | some (.kz, c) => some (c / 4, c % 4)
  | some (.ciph, u) => some (u / 2, 4 + u % 2)
  | some (.dig, u) => some (u / 2, 6 + u % 2)
  | some (.bn, n) => some (n, 8)
  | _ => none

/-- The requests a unit has pending at its cluster's arbiters are dropped (R346). -/
def State.dropReqs (s : State) (p : Nat) : State :=
  match clusterRq p with
  | some (n, rq) => (s.each (List.range 8) (fun t b => t.arbDrop 2 (8 * n + b) rq)).arbDrop 3 n rq
  | none => s

/-- A page reads QUARANTINED 1 and READY 0 and takes up no work; STOPPING ends and a pending restart is dropped (R501). -/
def State.quarMark (s : State) (p : Nat) : State :=
  let s := ((s.setStat p ST.ready false).setStat p ST.quar true).setStat p ST.busy false
  let s := (s.setStat p ST.restart false).setStat p ST.stopping false
  { s with lev := { s.lev with starting := drop1 s.lev.starting p, draining := drop1 s.lev.draining p } }

/-- A unit is quarantined (R22): QUARANTINED 1, READY 0; its running job and the contexts it saved complete DEVICE_FAULT.
Jobs waiting in its input queue stay DISPATCHED. -/
def State.quarUnit (s : State) (p : Nat) : State :=
  let s := s.quarMark p
  let s := match coreOf p with | some c => (s.dropCmds c) | none => s
  let s := ((s.faultRunning p).faultSaved p).dropReqs p
  match coreOf p with
  | some c => s.stopCore c
  | none => s

/-- A unit quarantines itself by its own fault detection (R22): it is counted, and its QUARANTINE event is raised. -/
def State.quarOwn (s : State) (p : Nat) : State :=
  let s := s.quarUnit p
  let s := { s with lev := { s.lev with ownCount := Map.put (dflt 0) s.lev.ownCount p (Map.get (dflt 0) s.lev.ownCount p + 1),
                                        ownNow := add1 s.lev.ownNow p } }
  match quarEvent p with
  | some b => s.event p b
  | none => s

/-- A job's park record lies in a cluster (R186, R203, R234). -/
def Job.recIn (j : Job) (n : Nat) : Bool := decide (j.parkMode = 1) && decide (j.region * 4 + j.parkIdx / 64 = n)

/-- A job's staging buffer lies in a cluster (R176). -/
def Job.stagingIn (j : Job) (n : Nat) : Bool :=
  match j.staging with | some b => decide (j.region * 4 + b / 4 = n) | none => false

/-- A cluster is quarantined (R23): its cores and units stop, every job running there completes DEVICE_FAULT, its SRAM is
cleared; jobs whose saved state or staged plaintext lay in that SRAM complete DEVICE_FAULT. DEDUCED, log entry 28. -/
def State.quarCluster (s : State) (n : Nat) : State :=
  if s.stat (P.clu n) ST.quar then s
  else
    let s := { s with lev := { s.lev with
      members := s.lev.members ++ (clusterPages n).filter (fun p => s.en p && !s.lev.members.contains p) } }
    let s := ((s.setStat (P.clu n) ST.ready false).setStat (P.clu n) ST.quar true)
    let s := { s with lev := { s.lev with clPassed := drop1 s.lev.clPassed n, clBist := drop1 s.lev.clBist n } }
    let s := (s.each (clusterPages n) State.quarMark).each (clusterPages n) State.quarUnit
    let s := s.faultJobs (fun j => (j.recIn n && decide (j.st = .parked)) || (j.stagingIn n && decide (j.st ≠ .done)))
    let s := (s.each (List.range 8) (fun t b => t.arbClear 2 (8 * n + b))).arbClear 3 n
    s.clearWords (sramBase n) sramWords

/-- The sessions homed in a region. -/
def State.homedIn (s : State) (rg : Nat) : List Nat :=
  (s.lode.slotOf.filter (fun e => decide (e.2 ≠ 0) && decide ((e.2 - 1) / 4096 = rg))).map (fun e => e.1)

/-- A job in flight names a lost session and can end in this step: not at a medium, not sent to another device (R24). -/
def State.namesLost (s : State) (j : Job) : Bool :=
  decide (j.st ≠ .done) && decide (j.st ≠ .fetched) && j.origin.isNone && j.fwd.isNone &&
    (match j.sess with | some n => s.lev.lostSess.contains n | none => false) &&
    !(decide (j.st = .running) && (match j.utype with | .contact => true | .field => true | _ => false))

/-- A region is quarantined (R24): its clusters stop, its credential frames and session contexts are cleared, the
sessions homed there are lost until opened anew: a job that names one completes DEVICE_FAULT, and a change that an
unpublished job left pending in one is lost with it. DEDUCED, log entry 28. -/
def State.quarRegion (s : State) (rg : Nat) : State :=
  if s.rbit P.rstc 0o22 (4 + rg) then s
  else
    let s := s.setRbit P.rstc 0o22 (4 + rg) true
    let s := s.each ((List.range 4).flatMap (fun i => if s.stat (P.clu (4 * rg + i)) ST.quar then [] else clusterPages (4 * rg + i)))
      State.quarMark
    let s := s.each (List.range 4) (fun t i => t.quarCluster (4 * rg + i))
    let s := (s.each (List.range 16) (fun t b => t.arbClear 5 (16 * rg + b))).arbClear 4 rg
    let lost := s.homedIn rg
    let s := { s with lev := { s.lev with lostSess := s.lev.lostSess ++ lost.filter (fun n => !s.lev.lostSess.contains n) },
                      diag := { s.diag with failSess := s.diag.failSess.filter (fun n => !lost.contains n) } }
    -- every job running in the region that is on no unit of it, and every job in flight that names a lost session
    let s := { s with lode := { s.lode with
      slotOf := s.lode.slotOf.filter (fun e => !lost.contains e.1),
      moving := s.lode.moving.filter (fun m => !lost.contains m.1 && decide (m.2 / 4096 ≠ rg)) } }
    let s := s.clearWords (ctxBase (4096 * rg)) (4096 * 64)
    let here (e : Nat × Nat × List Word) : Bool := match s.frameOf e.1 with | some f => decide (f / 256 = rg) | none => false
    let s := s.each (s.jobs.map (fun e => e.1)) (fun t k => t.modJob k (fun j =>
      if j.st = .done then { j with pendSess := if (match j.sess with | some n => lost.contains n | none => false) then none else j.pendSess,
                                    pendCred := j.pendCred.filter (fun e => !here e) }
      else j))
    let s := s.faultJobs (fun j => s.namesLost j || decide (j.st ≠ .done) && (
      (decide (j.st = .running) && j.unit.isNone && decide (j.region = rg)) ||
      (match j.frame with | some f => decide (f / 256 = rg) | none => false)))
    let s := s.clearWords (frameBase (256 * rg)) (256 * 32768)
    { s with cust := { s.cust with frames := Map.keep (fun f => !decide (f / 256 = rg)) s.cust.frames } }

/-- Quarantine a cluster; a region whose four clusters are all quarantined is quarantined too (R24). -/
def State.quarClusterUp (s : State) (n : Nat) : State :=
  let s := s.quarCluster n
  let rg := n / 4
  if (List.range 4).all (fun i => s.stat (P.clu (4 * rg + i)) ST.quar) then s.quarRegion rg else s

/-- The reaction to an uncorrectable word of any memory (Table 19-3): the cluster of an SRAM word, the unit of an operand
memory, else what `storeUe` says. DESIGN CHOICE, log entry 90. -/
def State.memUe (s : State) (a : Nat) : State :=
  let t : State := { s with diag := s.diag.written a 1 }
  if a < frameBase 0 then ((t.latchUe a 0 false).detect 7).quarClusterUp (a / sramBase 1)
  else if 2 ^ 41 ≤ a ∧ a < 2 ^ 42 then ((t.latchUe 0 4 false).detect 7).quarOwn (a - 2 ^ 41)
  else s.storeUe a

/-- The first word that has lost its value in the ranges a requester reads. DESIGN CHOICE, log entry 90. -/
def State.rangesStruck (s : State) (r : Who) (l : List (Nat × Nat × AType)) : Option Nat :=
  l.findSome? (fun x => if x.2.2 = .r then s.struckIn (flatAddr r.cluster x.1) x.2.1 else none)

/-- A unit command reads a lost word (R512, R518): the memory's reaction, and DEVICE_FAULT where the command still runs.
DESIGN CHOICE, log entry 90. -/
def State.cmdUe (s : State) (k a : Nat) : State := (s.memUe a).faultJob k

/-- A unit's fault detection finds a mismatch: counted in CHK_FAILS, CHECK_FAIL raised, the unit quarantined
(R169, R195, R230). -/
def State.checkFail (s : State) (p : Nat) : State :=
  let r := match blockOf p with
    | some (.ciph, _) => R.CIPH_CHK_FAILS
    | some (.dig, _) => R.DIG_CHK_FAILS
    | _ => 0o35
  let c := match blockOf p with | some (.ciph, _) => 2 | some (.dig, _) => 4 | _ => 5
  (((s.incSat p r).event p 0).detect c).quarOwn p

/-- The parity of a key transfer fails at a unit (R146): the key is discarded, the running job completes DEVICE_FAULT, the unit
is quarantined. -/
def State.parityFail (s : State) (p : Nat) : State := (s.detect 6).quarOwn p

/-- A unit carries a job or command out unless its fault detection stops it; `keyed`: it takes a key over the Culvert. -/
def State.checked (s : State) (p : Nat) (chk : UnitCheck) (keyed : Bool) (f : State) : State :=
  match chk with
  | .pass => f
  | .mismatch => s.checkFail p
  | .parity => if keyed then s.parityFail p else f

end Sys2Proof.Machine
end

