-- ==== Sys2Proof/Machine/Cipher.lean ====
section
/-! DEFINITION. Cipher units (R166 to R193): key sources, the order of checks, the modes as steps over 16-octet blocks so
that a job can stop at any block boundary, chaining over jobs, MILENAGE, the GB2 forms. -/
namespace Sys2Proof.Machine

/-! ### Running a job of a unit -/

/-- Complete a job with octets for its output buffers; a job held for another device sends them back (R112). -/
def State.finishOut (s : State) (k : Nat) (j : Job) (status : Nat) (outs : List (Nat × List Octet)) (result : List Octet) : State :=
  let s := outs.foldl (fun t o => t.toBuffer j o.1 o.2) s
  s.finish k { j with outData := outs } status result

/-- The length outcomes of a job that has passed its other checks: malformed lists, output buffers too small (R62), the
outcomes of Table 2-8, host errors (R77); `need` gives cell and result length of each output buffer. It waits for what
has not arrived. -/
def State.lenGate (s : State) (k : Nat) (j : Job) (need : List (Nat × Nat)) (f : State) : State :=
  let cells := descCells j.gb j.opcode j.oparg
  if j.origin.isSome then
    match j.lenStatus with
    | some st => s.fail k j st
    | none => f
  else if cells.any j.sgBad then s.fail k j S.invalidOperand
  else if !cells.all j.lenKnown then (if j.hostErr then s.fail k j S.aborted else s)
  else if need.any (fun o => decide (j.supplied o.1 < o.2)) then s.fail k j S.invalidOperand
  else match j.lenStatus with
    | some st => s.fail k j st
    | none => if j.hostErr then s.fail k j S.aborted else if !j.ins.all j.dataHere then s else f

/-- A job's lists are known and sound and its output buffers long enough (R61, R62), and no read of its data has failed. -/
def Job.listsOk (j : Job) (need : List (Nat × Nat)) : Bool :=
  j.origin.isSome || !(descCells j.gb j.opcode j.oparg).any j.sgBad && (descCells j.gb j.opcode j.oparg).all j.lenKnown &&
    !need.any (fun o => decide (j.supplied o.1 < o.2)) && !j.hostErr

/-- A job has passed `lenGate` but for data that has yet to arrive. -/
def Job.gated (j : Job) (need : List (Nat × Nat)) : Bool := j.lenStatus.isNone && j.listsOk need

/-! ### Keys (R171, R180) -/

/-- A key as a job uses it. -/
structure CKey where
  /-- the key's octets -/
  key : List Octet
  /-- KSRC as the record holds it: 0 slot, 1 credential -/
  ksrc : Nat
  /-- the three KREF words of Table 5-5 -/
  kref : List Word
  deriving DecidableEq, Repr

/-- KSIZE of a key (Table 5-5). -/
def CKey.size (c : CKey) : Nat := if c.key.length = 16 then 1 else if c.key.length = 24 then 2 else 3

/-- A usage's slot key for AES. -/
def State.slotKey (s : State) (j : Job) (r : BitVec 32) (usage : Nat) : Except Nat CKey :=
  match s.slotCheck j r usage with
  | some st => .error st
  | none =>
    let v := s.slot (refSlot r)
    if v.alg = 1 ∨ v.alg = 2 ∨ v.alg = 3 then
      .ok ⟨v.keyOctets, 0, [wd (bits r 17 0), wd (bits r 24 18), 0]⟩
    else .error S.invalidOperand

/-- A credential's AES key: KIND 0, or KIND 1 and its follower (R148, R171). -/
def State.credKey (s : State) (k : Nat) (j : Job) (h : Nat) : Except Nat CKey :=
  match s.credCheck k j h with
  | some st => .error st
  | none =>
    let w := s.credView k j (hPage h) (hEntry h)
    if eKind w = 0 then .ok ⟨eSecret w, 1, handleWords h⟩
    else if eKind w = 1 ∧ s.follower k j (hPage h) (hEntry h + 1) 2 = true then
      .ok ⟨eSecret w ++ eSecret (s.credView k j (hPage h) (hEntry h + 1)), 1, handleWords h⟩
    else .error S.invalidOperand

/-- The key a session's KEYREF names. -/
def State.keyrefKey (s : State) (k : Nat) (j : Job) (n usage : Nat) : Except Nat CKey :=
  match j.sess with
  | none => .error S.invalidOperand
  | some x =>
    let r := ctxKeyref (s.sessView k j x) n
    if tb r 31 then s.slotKey j (r &&& 0x7FFFFFFF) usage else .error S.invalidOperand

/-- The usage bit Table 5-3 names. -/
def cipherUsage (op : Nat) : Nat :=
  match op with
  | 0o041 | 0o043 | 0o046 | 0o050 => U.decrypt
  | 0o051 | 0o052 => U.mac
  | 0o053 | 0o055 => U.wrap
  | 0o054 | 0o056 => U.unwrap
  | _ => U.encrypt

/-- KW and KWP opcodes. -/
def isWrapOp (op : Nat) : Bool := 0o053 ≤ op && op ≤ 0o056

/-- Step 1 of R175: the key of a cipher job. -/
def State.cipherKey (s : State) (k : Nat) (j : Job) : Except Nat CKey :=
  let usage := cipherUsage j.opcode
  if j.gb then s.keyrefKey k j 0 usage
  else if j.chained then
    if !s.chainOk k j then .error S.invalidOperand
    else if s.chainCred k j then s.credKey k j (s.chainHandle k j)
    else s.slotKey j (s.chainRef k j) usage
  else match bits j.oparg 1 0 with
    | 0 => s.slotKey j (j.dw 1 0 &&& 0x7FFFFFFF) usage
    | 1 => if isWrapOp j.opcode then .error S.denied else s.credKey k j (j.handle 1 0)
    | 2 => s.keyrefKey k j (bits j.oparg 3 2) usage
    | _ => .error S.invalidOperand

/-! ### Step 2: OPARG and operand cells (R172, R173, R179, R187) -/

/-- TAGLEN in octets. DEDUCED, log entry 42. -/
def Job.tagLen (j : Job) : Nat := if bits j.oparg 11 8 = 0 then 16 else bits j.oparg 11 8
/-- NLEN. -/
def Job.nLen (j : Job) : Nat := bits j.oparg 15 12

def isGcm (op : Nat) : Bool := op == 0o045 || op == 0o046
def isCcm (op : Nat) : Bool := op == 0o047 || op == 0o050
def isCmac (op : Nat) : Bool := op == 0o051 || op == 0o052

/-- The payload's descriptor cell. -/
def payCell (op : Nat) : Nat :=
  match op with
  | 0o042 | 0o043 | 0o044 => 3
  | 0o045 | 0o046 | 0o047 | 0o050 => 4
  | _ => 2

/-- The output buffer's cell, 0 for none. -/
def outCell (op : Nat) : Nat :=
  match op with
  | 0o040 | 0o041 | 0o053 | 0o054 | 0o055 | 0o056 => 3
  | 0o042 | 0o043 | 0o044 => 4
  | 0o045 | 0o046 | 0o047 | 0o050 => 5
  | _ => 0

/-- The declared payload length. -/
def Job.payLen (j : Job) : Nat := j.declared (payCell j.opcode)
/-- The declared header-data length. -/
def Job.hdrLen (j : Job) : Nat := if isGcm j.opcode || isCcm j.opcode then j.declared 3 else 0

/-- The key cell holds the key alone (R173). -/
def Job.keyCellClean (j : Job) : Bool :=
  match bits j.oparg 1 0 with
  | 0 => decide (bits (j.dw 1 0) 31 25 = 0) && j.oct 1 4 12 == zeros 12
  | 1 => j.handlePad 1 0 && j.oct 1 8 8 == zeros 8
  | _ => j.oct 1 0 16 == zeros 16

/-- The octets of the IV cell that the mode does not use are zero. -/
def Job.ivClean (j : Job) : Bool :=
  if isGcm j.opcode then j.oct 2 12 4 == zeros 4
  else if isCcm j.opcode then sliceOct (j.oct 2 0 16) j.nLen (16 - j.nLen) == zeros (16 - j.nLen)
  else true

/-- The cell of an expected tag, 0 for none. -/
def expectCell (op : Nat) : Nat := match op with | 0o046 | 0o050 => 6 | 0o052 => 3 | _ => 0

/-- The session of a job has EXPORT 1 (R187). -/
def State.exportSess (s : State) (k : Nat) (j : Job) : Bool :=
  match j.sess with
  | some n => tb (cw (s.sessView k j n) 0) 16
  | none => false

/-- Step 2 of R175 for a native job: the status of the first failure. DEDUCED, log entry 42. -/
def State.cipherForm (s : State) (k : Nat) (j : Job) : Option Nat :=
  let op := j.opcode
  if bits j.oparg 31 16 ≠ 0 ∨ tb j.oparg 6 = true ∨ (!isCcm op ∧ j.nLen ≠ 0) ∨
      (!(isGcm op || isCcm op || isCmac op) ∧ bits j.oparg 11 8 ≠ 0) then some S.invalidOperand
  else if tb j.oparg 7 = true ∧ s.exportSess k j = false then some S.invalidOperand
  else if (!j.chained ∧ ((bits j.oparg 3 2 ≠ 0 ∧ bits j.oparg 1 0 ≠ 2) ∨ !j.keyCellClean)) ∨ !j.ivClean then
    some S.invalidOperand
  else if expectCell op ≠ 0 ∧ sliceOct (j.oct (expectCell op) 0 16) j.tagLen (16 - j.tagLen) ≠ zeros (16 - j.tagLen) then
    some S.invalidOperand
  else if j.more || j.cont then
    if j.sess.isNone ∨ !(chains op || isGcm op || isCcm op) then some S.invalidOperand
    else if op = 0o046 ∨ isCcm op = true then some S.unsupported
    else if j.more ∧ (j.payLen % 16 ≠ 0 ∨ (isCmac op ∧ j.payLen = 0)) then some S.invalidOperand
    else if j.cont ∧ (j.hdrLen ≠ 0 ∨ (isCmac op ∧ j.payLen = 0 ∧ !j.more)) then some S.invalidOperand
    else if op = 0o045 ∧ 2 ^ 36 - 32 < j.payLen +
        (if j.cont then (dword (cw (s.chain k j) 20) (cw (s.chain k j) 21)).toNat else 0) then some S.invalidOperand
    else none
  else none

/-! ### Step 3: Table 5-4 -/

/-- The limits of Table 5-4: INVALID_OPERAND, then UNSUPPORTED beyond the staging limit. -/
def Job.cipherLimits (j : Job) : Option Nat :=
  let l := j.payLen
  let bad := match j.opcode with
    | 0o040 | 0o041 | 0o042 | 0o043 => decide (l % 16 ≠ 0)
    | 0o045 | 0o046 => decide (j.tagLen < 12)
    | 0o047 | 0o050 => decide (j.nLen < 7) || decide (13 < j.nLen) || decide (j.tagLen < 4) || decide (j.tagLen % 2 ≠ 0) ||
        decide (2 ^ (8 * (15 - j.nLen)) ≤ l)
    | 0o051 | 0o052 => decide (j.tagLen < 4)
    | 0o053 => decide (l % 8 ≠ 0) || decide (l < 16)
    | 0o054 => decide (l % 8 ≠ 0) || decide (l < 24)
    | 0o055 => decide (l < 1)
    | 0o056 => decide (l % 8 ≠ 0) || decide (l < 16)
    | _ => false
  let stage := match j.opcode with
    | 0o046 | 0o050 | 0o053 | 0o055 => some 65536
    | 0o054 | 0o056 => some 65544
    | _ => none
  if bad then some S.invalidOperand
  else match stage with
    | some n => if n < l then some S.unsupported else none
    | none => none

/-- The output length that R62 compares (Table 5-4). -/
def Job.cipherOut (j : Job) : Nat :=
  let l := j.payLen
  match j.opcode with
  | 0o053 => l + 8
  | 0o054 | 0o056 => l - 8
  | 0o055 => (l + 7) / 8 * 8 + 8
  | _ => l

/-! ### The modes, block by block -/

/-- The state of a mode between two blocks (Table 5-5). -/
structure CSt where
  /-- V -/
  v : List Octet
  /-- ACC -/
  acc : List Octet
  /-- payload octets processed -/
  pc : Nat
  /-- header-data octets processed -/
  hc : Nat
  deriving DecidableEq, Repr

/-- GHASH over one block. -/
def ghBlock (ks : List (List Octet)) (acc b : List Octet) : List Octet := beOctets 16 (ghash (gcmH ks) (beNat acc) [b])

/-- One block of header data. -/
def hdrStep (op : Nat) (ks : List (List Octet)) (st : CSt) (b : List Octet) : CSt :=
  if isGcm op then { st with acc := ghBlock ks st.acc b, hc := st.hc + b.length }
  else { st with acc := encBlk ks (xorO st.acc b), hc := st.hc + b.length }

/-- One block of payload: the next state and the output octets. -/
def payStep (op nlen : Nat) (ks : List (List Octet)) (st : CSt) (b : List Octet) : CSt × List Octet :=
  let adv (st : CSt) : CSt := { st with pc := st.pc + b.length }
  match op with
  | 0o040 => (adv st, encBlk ks b)
  | 0o041 => (adv st, decBlk ks b)
  | 0o042 => let o := encBlk ks (xorO st.v b); (adv { st with v := o }, o)
  | 0o043 => (adv { st with v := b }, xorO st.v (decBlk ks b))
  | 0o044 => (adv { st with v := incCtr 16 st.v }, xorO b (encBlk ks st.v))
  | 0o045 => let o := xorO b (encBlk ks st.v)
    (adv { st with v := incCtr 4 st.v, acc := ghBlock ks st.acc o }, o)
  | 0o046 => (adv { st with v := incCtr 4 st.v, acc := ghBlock ks st.acc b }, xorO b (encBlk ks st.v))
  | 0o047 => (adv { st with v := incCtr (15 - nlen) st.v, acc := encBlk ks (xorO st.acc (sliceOct b 0 16)) },
      xorO b (encBlk ks st.v))
  | 0o050 => let o := xorO b (encBlk ks st.v)
    (adv { st with v := incCtr (15 - nlen) st.v, acc := encBlk ks (xorO st.acc (sliceOct o 0 16)) }, o)
  | _ => (adv { st with acc := encBlk ks (xorO st.acc b) }, [])

/-- All blocks of header data. -/
def hdrSteps (op : Nat) (ks : List (List Octet)) (st : CSt) : List (List Octet) → CSt
  | [] => st
  | b :: r => hdrSteps op ks (hdrStep op ks st b) r

/-- All blocks of payload. -/
def paySteps (op nlen : Nat) (ks : List (List Octet)) (st : CSt) : List (List Octet) → CSt × List Octet
  | [] => (st, [])
  | b :: r =>
    let (st', o) := payStep op nlen ks st b
    let (st'', o') := paySteps op nlen ks st' r
    (st'', o ++ o')

/-- The blocks of header data: CCM formats it with its length prefix. -/
def hdrBlocks (op : Nat) (h : List Octet) : List (List Octet) := chunks 16 (if isCcm op then ccmHeader h else h)

/-- A 128-bit value in eight words, low word first (Table 5-5). -/
def words128 (l : List Octet) : List Word := (List.range 8).map (fun i => wd (beNat l / 2 ^ (18 * i) % 2 ^ (if i = 7 then 2 else 18)))

/-- The octets of such a value. -/
def octets128 (l : List Word) : List Octet :=
  beOctets 16 ((List.range 8).foldl (fun a i => a + bits (cw l i) (if i = 7 then 1 else 17) 0 * 2 ^ (18 * i)) 0)

/-- The start of a job's message, or its continuation from CHAIN. -/
def State.cStart (s : State) (k : Nat) (j : Job) (ks : List (List Octet)) : CSt :=
  if j.chained then
    let c := s.chain k j
    ⟨octets128 (c.drop 4), octets128 (c.drop 12), (dword (cw c 20) (cw c 21)).toNat, (dword (cw c 22) (cw c 23)).toNat⟩
  else
    let iv := j.oct 2 0 16
    if isGcm j.opcode then ⟨incCtr 4 (gcmJ0 iv), zeros 16, 0, 0⟩
    else if isCcm j.opcode then
      let n := iv.take j.nLen
      ⟨ccmCtr n 1, encBlk ks (ccmB0 n j.hdrLen j.tagLen j.payLen), 0, 0⟩
    else if isCmac j.opcode then ⟨zeros 16, zeros 16, 0, 0⟩
    else if 0o042 ≤ j.opcode ∧ j.opcode ≤ 0o044 then ⟨iv, zeros 16, 0, 0⟩
    else ⟨zeros 16, zeros 16, 0, 0⟩

/-- The 24 state words of Table 5-5. -/
def stateWords (op taglen phase : Nat) (ck : CKey) (st : CSt) : List Word :=
  [wd (op * 512 + phase * 128 + ck.size * 32 + taglen * 2 + ck.ksrc)] ++ ck.kref ++ words128 st.v ++ words128 st.acc ++
    [wd st.pc, wd (st.pc / 2 ^ 18), wd st.hc, wd (st.hc / 2 ^ 18)]

/-- The GCM tag of a finished message: J0 is recomputed from V. -/
def gcmFinal (ks : List (List Octet)) (st : CSt) : List Octet := gcmTag ks st.v (beNat st.acc) st.hc st.pc

/-- The CCM tag of a finished message: A0 is recomputed from V. -/
def ccmFinal (ks : List (List Octet)) (nlen : Nat) (st : CSt) : List Octet :=
  xorO st.acc (encBlk ks (st.v.take (nlen + 1) ++ zeros (15 - nlen)))

/-- What a job's run gives: an authentication failure, or output, result octets and the new CHAIN words. -/
structure COut where
  /-- the output buffer's octets -/
  out : List Octet
  /-- the result octets -/
  res : List Octet
  /-- CHAIN words to leave, where the job has them -/
  chain : Option (List Word)
  deriving DecidableEq, Repr

/-- The state a record of Table 5-5 holds. -/
def cstOf (w : List Word) : CSt :=
  ⟨octets128 (w.drop 4), octets128 (w.drop 12), (dword (cw w 20) (cw w 21)).toNat, (dword (cw w 22) (cw w 23)).toNat⟩

/-- The state of a message after `n` blocks, header data first, with the payload's output so far. -/
def stepsTo (op nlen : Nat) (ks : List (List Octet)) (st : CSt) (hdr pay : List (List Octet)) (n : Nat) : CSt × List Octet :=
  paySteps op nlen ks (hdrSteps op ks st (hdr.take n)) (pay.take (n - hdr.length))

/-- Run a message to its end: from the start, or from the state words a job resumed with after `n` blocks (R188). -/
def stepsAll (op nlen : Nat) (ks : List (List Octet)) (st : CSt) (hdr pay : List (List Octet)) (saved : List Word) (n : Nat) :
    CSt × List Octet :=
  if saved.isEmpty then stepsTo op nlen ks st hdr pay (hdr.length + pay.length)
  else
    let out := (stepsTo op nlen ks st hdr pay n).2
    let (st', rest) := paySteps op nlen ks (hdrSteps op ks (cstOf saved) (hdr.drop n)) (pay.drop (n - hdr.length))
    (st', out ++ rest)

/-- Run a native job over its data. DEDUCED, log entry 42. -/
def State.cipherRun (s : State) (k : Nat) (j : Job) (ck : CKey) : Option COut :=
  let op := j.opcode
  let ks := aesSchedule ck.key
  let pay := j.data (payCell op)
  match op with
  | 0o053 => some ⟨kwWrap ck.key pay, [], none⟩
  | 0o054 => (kwUnwrap ck.key pay).map (fun p => ⟨p, [], none⟩)
  | 0o055 => some ⟨kwpWrap ck.key pay, [], none⟩
  | 0o056 => (kwpUnwrap ck.key pay).map (fun p => ⟨p, [], none⟩)
  | _ =>
    let st0 := s.cStart k j ks
    let hdr := if isGcm op || isCcm op then j.data 3 else []
    let hb := hdrBlocks op hdr
    let fix (st : CSt) : CSt := { st with hc := st0.hc + hdr.length }
    let done (st : CSt) (out res : List Octet) : Option COut :=
      if j.more then some ⟨out, [], some (stateWords op (bits j.oparg 11 8) 1 ck st)⟩
      else some ⟨out, res, if j.cont then some [0] else none⟩
    if isCmac op then
      if j.more then
        done (stepsAll op 0 ks st0 [] (chunks 16 pay) j.saved j.parkDone).1 [] []
      else
        let (st, left) := if j.saved.isEmpty then (st0, pay) else (cstOf j.saved, pay.drop (16 * j.parkDone))
        let mac := (cmacFrom ks st.acc left).take j.tagLen
        if op = 0o051 then done st [] mac
        else if mac = (j.oct 3 0 16).take j.tagLen then done st [] [] else none
    else
      let (st, out) := stepsAll op j.nLen ks st0 hb (chunks 16 pay) j.saved j.parkDone
      let st := fix st
      match op with
      | 0o045 => done st out ((gcmFinal ks st).take j.tagLen)
      | 0o046 => if (gcmFinal ks st).take j.tagLen = (j.oct 6 0 16).take j.tagLen then done st out [] else none
      | 0o047 => done st out ((ccmFinal ks j.nLen st).take j.tagLen)
      | 0o050 => if (ccmFinal ks j.nLen st).take j.tagLen = (j.oct 6 0 16).take j.tagLen then done st out [] else none
      | _ => done st out []

/-- Octets of the length prefix before CCM header data (R173). -/
def Job.hdrPrefix (j : Job) : Nat := if !isCcm j.opcode ∨ j.hdrLen = 0 then 0 else if j.hdrLen < 0xFF00 then 2 else 6

/-- Blocks of a job's header data, the prefix included. -/
def Job.hdrCount (j : Job) : Nat := (j.hdrPrefix + j.hdrLen + 15) / 16

/-- Octets of payload a job's mode works on: a GB2 buffer may start with the chaining value (R193). -/
def Job.modeLen (j : Job) : Nat :=
  if j.gb then j.declared 1 - (if 0o042 ≤ j.opcode ∧ j.opcode ≤ 0o044 then 16 else 0) else j.payLen

/-- Blocks of a job's payload; CMAC pads an empty message to one. -/
def Job.payCount (j : Job) : Nat :=
  let n := (j.modeLen + 15) / 16
  if isCmac j.opcode && !(j.more && !j.gb) then max 1 n else n

/-- Blocks through the forward datapath from a job's block `a` to its block `b` in one stretch on a unit: GCM computes H and
E(J0), CCM B0 and A0, of which a resumed job recomputes A0 alone; CCM encrypts its header data and takes two operations a
block of payload (R166, R167, R188). DEDUCED, log entry 42. -/
def Job.stretch (j : Job) (a b : Nat) : Nat :=
  let h := j.hdrCount
  let hn := min b h - min a h
  let pn := (b - h) - (a - h)
  if isGcm j.opcode then 2 + pn
  else if isCcm j.opcode then (if j.saved.isEmpty then 2 else 1) + hn + 2 * pn
  else pn

/-- Blocks through the forward datapath up to a job's end: six operations a semiblock for wraps, one for a KWP text of one
semiblock (R167). DEDUCED, log entry 42. -/
def Job.aesBlocks (j : Job) : Nat :=
  match j.opcode with
  | 0o053 => 6 * (j.payLen / 8)
  | 0o055 => if j.payLen ≤ 8 then 1 else 6 * ((j.payLen + 7) / 8)
  | 0o054 => 6 * (j.payLen / 8 - 1)
  | 0o056 => if j.payLen = 16 then 1 else 6 * (j.payLen / 8 - 1)
  | 0o060 => 5 | 0o061 => 3
  | _ => j.stretch j.parkDone (j.hdrCount + j.payCount)

/-- A cipher unit's mask generator is reseeded with 256 bits from its region's DRBG (R170). -/
def State.reseedMask (s : State) (p : Nat) : State :=
  match blockOf p with
  | some (.ciph, u) => (s.drawFrom (u / 8) 32).2
  | _ => s

/-- Count `n` blocks on a job's unit; the mask generator of a cipher unit is reseeded every 4,096 of them (R170). -/
def State.countBlocks (s : State) (j : Job) (r n : Nat) : State :=
  match j.unit with
  | some p =>
    let t := s.add36 p r n
    t.each (List.range (((s.reg36 p r).toNat + n) / 4096 - (s.reg36 p r).toNat / 4096)) (fun t _ => t.reseedMask p)
  | none => s

/-- Leave new CHAIN words in the session's pending context. DEDUCED, log entry 42. -/
def State.withChain (s : State) (k : Nat) (j : Job) (c : Option (List Word)) : Job :=
  match j.sess, c with
  | some n, some w => { j with pendSess := some (cput (s.sessView k j n) 0o22 w) }
  | _, _ => j

/-- A CHAIN saved or restored shows in CTX_SAVE or CTX_RESTORE with MODE 2 (Table 5-8). -/
def State.noteChain (s : State) (j : Job) : State :=
  match j.unit with
  | some p =>
    let s := if j.chained then s.setReg p R.CIPH_CTX_RESTORE 2 else s
    if j.more ∧ j.gb = false then s.setReg p R.CIPH_CTX_SAVE 2 else s
  | none => s

/-- The buffer a job with PARKOUT 1 names, and the octets it needs (R187, R204). -/
def Job.parkNeed (j : Job) (n : Nat) : List (Nat × Nat) :=
  if !j.gb && tb j.oparg 7 then [(operandCells j.gb j.opcode j.oparg, n)] else []

/-- The output and park buffers of a native job with the octets each needs (R62, R174, R187). -/
def Job.cipherNeed (j : Job) : List (Nat × Nat) :=
  (if outCell j.opcode = 0 then [] else [(outCell j.opcode, j.cipherOut)]) ++ j.parkNeed 72

/-- A native block-mode or wrap job (R175 to R180). -/
def State.cipherNative (s : State) (k : Nat) (j : Job) : State :=
  match s.cipherKey k j with
  | .error st => s.fail k j st
  | .ok ck =>
    match s.cipherForm k j with
    | some st => s.fail k j st
    | none => match j.cipherLimits with
      | some st => s.fail k j st
      | none =>
        s.lenGate k j j.cipherNeed
          (match s.cipherRun k j ck with
            | none => (s.countBlocks j R.CIPH_BLOCKS j.aesBlocks).fail k j S.authFail
            | some o =>
              ((s.countBlocks j R.CIPH_BLOCKS j.aesBlocks).noteChain j).finishOut k (s.withChain k j o.chain) j.goodStatus
                (if outCell j.opcode = 0 then [] else [(outCell j.opcode, o.out)]) o.res)

/-! ### GB2 forms (R193) -/

/-- A GB2 buffer starts with the chaining value (R193). -/
def Job.gbIv (j : Job) : Bool := 0o042 ≤ j.opcode && j.opcode ≤ 0o044

/-- A GB2 block-mode job is malformed: OPARG, or a length outside Table 5-4 (R174, R193). -/
def Job.gbBad (j : Job) : Bool :=
  decide (j.oparg ≠ 0) || (j.gbIv && decide (j.declared 1 < 16)) ||
    (!(j.opcode == 0o044 || j.opcode == 0o051) && decide (j.declared 1 % 16 ≠ 0))

/-- A GB2 block-mode job: the key is KEYREF0; data is processed in place. -/
def State.cipherGb (s : State) (k : Nat) (j : Job) : State :=
  match s.cipherKey k j with
  | .error st => s.fail k j st
  | .ok ck =>
    let iv := j.gbIv
    if j.gbBad then s.fail k j S.invalidOperand
    else
      s.lenGate k j []
        (let ks := aesSchedule ck.key
        let d := j.data 1
        let s := s.countBlocks j R.CIPH_BLOCKS j.aesBlocks
        if j.opcode = 0o051 then
          let (acc, left) := if j.saved.isEmpty then (zeros 16, d) else ((cstOf j.saved).acc, d.drop (16 * j.parkDone))
          s.finish k j j.goodStatus (cmacFrom ks acc left)
        else
          let st0 : CSt := ⟨if iv then d.take 16 else zeros 16, zeros 16, 0, 0⟩
          let (st, out) := stepsAll j.opcode 0 ks st0 [] (chunks 16 (if iv then d.drop 16 else d)) j.saved j.parkDone
          s.finishOut k j j.goodStatus [(1, (if iv then d.take 16 else []) ++ out)] (if iv then st.v else []))

/-! ### MILENAGE (R181 to R183) -/

/-- Rotate a block left by whole octets. -/
def rotO (n : Nat) (l : List Octet) : List Octet := l.drop n ++ l.take n

/-- XOR a constant into the last octet. -/
def xorLast (l : List Octet) (c : Octet) : List Octet := xorO l (zeros 15 ++ [c])

/-- OUT2 to OUT5 of R181. -/
def milOut (k opc temp : List Octet) (r : Nat) (c : Octet) : List Octet :=
  xorO (aesEnc k (xorLast (rotO r (xorO temp opc)) c)) opc

/-- OUT1 of R181. -/
def milOut1 (k opc temp sqn amf : List Octet) : List Octet :=
  let in1 := sqn ++ amf ++ sqn ++ amf
  xorO (aesEnc k (xorO temp (rotO 8 (xorO in1 opc)))) opc

/-- TEMP of R181. -/
def milTemp (k opc rand : List Octet) : List Octet := aesEnc k (xorO rand opc)

/-- The 54 result octets of AKA_MILENAGE: MAC-A, RES, CK, IK, AK (R182). PRESUMED, log entry 8. -/
def milenage (k opc rand sqn amf : List Octet) : List Octet :=
  let t := milTemp k opc rand
  let o2 := milOut k opc t 0 1
  (milOut1 k opc t sqn amf).take 8 ++ o2.drop 8 ++ milOut k opc t 4 2 ++ milOut k opc t 8 4 ++ o2.take 6

/-- SQN_MS of R183, or none when MAC-S differs. -/
def milResync (k opc rand auts : List Octet) : Option (List Octet) :=
  let t := milTemp k opc rand
  let sqn := xorO (auts.take 6) (milOut k opc t 12 8)
  if (milOut1 k opc t sqn (zeros 2)).drop 8 = (auts.drop 6).take 8 then some sqn else none

/-- K and OPc of an AKA job from its slots or its credential (R182). -/
def State.akaKeys (s : State) (k : Nat) (j : Job) (slots : Bool) (r0 r1 : BitVec 32) (h : Nat) :
    Except Nat (List Octet × List Octet) :=
  if slots then
    match s.slotCheck j r0 U.encrypt with
    | some st => .error st
    | none => match s.slotCheck j r1 U.encrypt with
      | some st => .error st
      | none =>
        let a := s.slot (refSlot r0)
        let b := s.slot (refSlot r1)
        if a.alg = 1 ∧ b.alg = 1 then .ok (a.keyOctets, b.keyOctets) else .error S.invalidOperand
  else match s.credCheck k j h with
    | some st => .error st
    | none =>
      if s.kindOk k j (hPage h) (hEntry h) 0 [(1, 3)] then
        .ok (eSecret (s.credView k j (hPage h) (hEntry h)), eSecret (s.credView k j (hPage h) (hEntry h + 1)))
      else .error S.invalidOperand

/-- AKA_MILENAGE, native (R182). -/
def State.akaNative (s : State) (k : Nat) (j : Job) : State :=
  let slot := tb j.oparg 0
  match s.akaKeys k j slot (j.dw 1 0 &&& 0x7FFFFFFF) (j.dw 1 1 &&& 0x7FFFFFFF) (j.handle 1 0) with
  | .error st => s.fail k j st
  | .ok (kk, opc) =>
    if bits j.oparg 31 1 ≠ 0 ∨ (if slot then tb (j.dw 1 0) 31 || tb (j.dw 1 1) 31 else !j.handlePad 1 0) then
      s.fail k j S.invalidOperand
    else (s.countBlocks j R.CIPH_BLOCKS j.aesBlocks).finish k j S.ok
      (milenage kk opc (j.oct 2 0 16) (j.oct 1 8 6) (j.oct 1 14 2))

/-- AKA_MILENAGE on a GB2 queue: operands and results in the buffer of cell 1 (R193). -/
def State.akaGb (s : State) (k : Nat) (j : Job) : State :=
  if j.oparg ≠ 0 ∨ j.declared 1 ≠ 64 then s.fail k j S.invalidOperand
  else
    let d := j.data 1
    s.lenGate k j []
      (let h := leNat (d.take 8)
      match s.akaKeys k j false 0 0 (h % 2 ^ 54) with
      | .error st => s.fail k j st
      | .ok (kk, opc) =>
        if h / 2 ^ 54 ≠ 0 then s.fail k j S.invalidOperand
        else (s.countBlocks j R.CIPH_BLOCKS j.aesBlocks).finishOut k j j.goodStatus
          [(1, milenage kk opc (sliceOct d 16 16) (sliceOct d 8 6) (sliceOct d 14 2) ++ d.drop 54)] [])

/-! ### Commands -/

/-- Run a cipher job of an opcode; `chk`: the inverse checks (R168, R169) and the key transfer (R146). -/
def State.onCipher (s : State) (key op : Nat) (chk : UnitCheck) (f : Job → State) : Host.Outcome State Fault Refusal :=
  s.onRun key op (fun j => match j.unit with
    | some p => if j.utype = .cipher ∧ j.cmd.isNone then (s.checked p chk (s.namesKey key j) (f j)) else s
    | none => s)

/-- A block-mode opcode in its native or its GB2 form. DESIGN CHOICE, log entry 23. -/
def State.cipherJob (s : State) (key : Nat) (j : Job) : State := if j.gb then s.cipherGb key j else s.cipherNative key j

/-- ECB_ENC (R173). -/
def execEcbEnc (key : Nat) (chk : UnitCheck) (s : State) : Host.Outcome State Fault Refusal :=
  s.onCipher key 0o040 chk (s.cipherJob key)
/-- ECB_DEC (R173). -/
def execEcbDec (key : Nat) (chk : UnitCheck) (s : State) : Host.Outcome State Fault Refusal :=
  s.onCipher key 0o041 chk (s.cipherJob key)
/-- CBC_ENC (R173). -/
def execCbcEnc (key : Nat) (chk : UnitCheck) (s : State) : Host.Outcome State Fault Refusal :=
  s.onCipher key 0o042 chk (s.cipherJob key)
/-- CBC_DEC (R173). -/
def execCbcDec (key : Nat) (chk : UnitCheck) (s : State) : Host.Outcome State Fault Refusal :=
  s.onCipher key 0o043 chk (s.cipherJob key)
/-- CTR (R173). -/
def execCtr (key : Nat) (chk : UnitCheck) (s : State) : Host.Outcome State Fault Refusal :=
  s.onCipher key 0o044 chk (s.cipherJob key)
/-- GCM_ENC (R173, R177). -/
def execGcmEnc (key : Nat) (chk : UnitCheck) (s : State) : Host.Outcome State Fault Refusal :=
  s.onCipher key 0o045 chk (s.cipherNative key)
/-- GCM_DEC (R176, R177). -/
def execGcmDec (key : Nat) (chk : UnitCheck) (s : State) : Host.Outcome State Fault Refusal :=
  s.onCipher key 0o046 chk (s.cipherNative key)
/-- CCM_ENC (R173). -/
def execCcmEnc (key : Nat) (chk : UnitCheck) (s : State) : Host.Outcome State Fault Refusal :=
  s.onCipher key 0o047 chk (s.cipherNative key)
/-- CCM_DEC (R176, R177). -/
def execCcmDec (key : Nat) (chk : UnitCheck) (s : State) : Host.Outcome State Fault Refusal :=
  s.onCipher key 0o050 chk (s.cipherNative key)
/-- CMAC_GEN (R173). -/
def execCmacGen (key : Nat) (chk : UnitCheck) (s : State) : Host.Outcome State Fault Refusal :=
  s.onCipher key 0o051 chk (s.cipherJob key)
/-- CMAC_VER (R173). -/
def execCmacVer (key : Nat) (chk : UnitCheck) (s : State) : Host.Outcome State Fault Refusal :=
  s.onCipher key 0o052 chk (s.cipherNative key)
/-- KW_WRAP (R177). -/
def execKwWrap (key : Nat) (chk : UnitCheck) (s : State) : Host.Outcome State Fault Refusal :=
  s.onCipher key 0o053 chk (s.cipherNative key)
/-- KW_UNWRAP (R177). -/
def execKwUnwrap (key : Nat) (chk : UnitCheck) (s : State) : Host.Outcome State Fault Refusal :=
  s.onCipher key 0o054 chk (s.cipherNative key)
/-- KWP_WRAP (R177). -/
def execKwpWrap (key : Nat) (chk : UnitCheck) (s : State) : Host.Outcome State Fault Refusal :=
  s.onCipher key 0o055 chk (s.cipherNative key)
/-- KWP_UNWRAP (R177). -/
def execKwpUnwrap (key : Nat) (chk : UnitCheck) (s : State) : Host.Outcome State Fault Refusal :=
  s.onCipher key 0o056 chk (s.cipherNative key)
/-- AKA_MILENAGE (R182, R193). -/
def execAkaMilenage (key : Nat) (chk : UnitCheck) (s : State) : Host.Outcome State Fault Refusal :=
  s.onCipher key 0o060 chk (fun j => if j.gb then s.akaGb key j else s.akaNative key j)
/-- AKA_RESYNC (R183). -/
def execAkaResync (key : Nat) (chk : UnitCheck) (s : State) : Host.Outcome State Fault Refusal :=
  s.onCipher key 0o061 chk (fun j =>
    let slot := tb j.oparg 0
    match s.akaKeys key j slot (j.dw 1 0 &&& 0x7FFFFFFF) (j.dw 1 1 &&& 0x7FFFFFFF) (j.handle 1 0) with
    | .error st => s.fail key j st
    | .ok (kk, opc) =>
      if bits j.oparg 31 1 ≠ 0 ∨ (if slot then tb (j.dw 1 0) 31 || tb (j.dw 1 1) 31 else !j.handlePad 1 0) ∨
          j.oct 1 8 8 ≠ zeros 8 ∨ j.oct 3 14 2 ≠ zeros 2 then s.fail key j S.invalidOperand
      else
        let s := s.countBlocks j R.CIPH_BLOCKS j.aesBlocks
        match milResync kk opc (j.oct 2 0 16) (j.oct 3 0 16) with
        | some sqn => s.finish key j S.ok sqn
        | none => s.fail key j S.authFail)

end Sys2Proof.Machine
end

