-- ==== Sys2Proof/Machine/Digest.lean ====
section
/-! DEFINITION. Digest units (R194 to R215): queue jobs, messages over several jobs, state records clear and wrapped, unit
commands, result windows, HMAC. -/
namespace Sys2Proof.Machine

/-! ### State records (R201, R204) -/

/-- A digest state between two blocks. -/
structure DSt where
  /-- the 200 octets of STATE -/
  st : List Octet
  /-- message octets absorbed, key block excluded -/
  count : Nat
  deriving DecidableEq, Repr

/-- The 108 words of Table 6-4. -/
def recordWords (alg : Nat) (keyed : Bool) (phase outlen kref : Nat) (d : DSt) : List Word :=
  [wd (0o522 * 512 + alg * 32 + b2n keyed * 16 + phase * 8), wd d.count, wd (d.count / 2 ^ 18), wd outlen, wd kref, wd (kref / 2 ^ 18),
    0, 0] ++ packWords (sliceOct d.st 0 200)

/-- STATE of a record is 200 octets in packed form (R6, R201). -/
def recordPacked (w : List Word) : Bool :=
  match unpackWords (w.drop 8) with
  | some st => decide (st.length = 200)
  | none => false

/-- The state of a record whose CTL is as expected; `none` for any other record (R200). -/
def recordState (w : List Word) (ctl : Nat) : Option DSt :=
  if w.length = 108 ∧ cw w 0 = wd ctl ∧ recordPacked w = true then
    some ⟨(unpackWords (w.drop 8)).getD [], (dword (cw w 1) (cw w 2)).toNat⟩
  else none

/-- CTL of an unkeyed record. -/
def clearCtl (alg : Nat) : Nat := 0o522 * 512 + alg * 32

/-- What binds a wrapped record to its job: queue, position, session (R187). -/
def Job.bind (j : Job) : List Octet := beOctets 1 j.queue ++ beOctets 3 j.pos ++ beOctets 2 (j.sess.getD 0)

/-- Words 0 to 3 of a wrapped record (Tables 5-7, 6-5). -/
def wrapHead (format rg parkno counter : Nat) : List Word :=
  [wd (format * 512 + rg * 128 + parkno % 32), wd counter, wd (counter / 2 ^ 18), 0]

/-- The IV of a wrapped record: four octets of prefix, the region, three zero octets, COUNTER (R187, R204). -/
def wrapIv (prefix_ : List Octet) (rg counter : Nat) : List Octet :=
  prefix_ ++ [BitVec.ofNat 8 rg, 0, 0, 0] ++ beOctets 4 counter

abbrev ivCipher : List Octet := [0x43, 0x54, 0x58, 0x57]
abbrev ivDigest : List Octet := [0x44, 0x47, 0x53, 0x57]

/-- The tag words of a wrapped record: 64 bits, low word first. -/
def tagWords (t : List Octet) : List Word := (List.range 4).map (fun i => wd (beNat (t.take 8) / 2 ^ (18 * i)))

/-- Whether a region can make another wrapped record: COUNTER below 2^32 − 1, and a context key (R187, R131).
DEDUCED, log entry 28. -/
def State.canWrap (s : State) (rg : Nat) : Bool := decide (Map.get (dflt 0) s.units.counter rg < 2 ^ 32 - 1) && s.hmkLive

/-- Wrap state words for a job (R187, R204): the record, with COUNTER advanced. -/
def State.wrapRecord (s : State) (j : Job) (rg format parkno : Nat) (prefix_ : List Octet) (ws : List Word) : List Word × State :=
  let ctr := Map.get (dflt 0) s.units.counter rg
  let hd := wrapHead format rg parkno ctr
  let (c, t) := gcmEnc (s.regionKey rg) (wrapIv prefix_ rg ctr) (wordStream hd ++ j.bind) (wordStream ws)
  (hd ++ streamWords ws.length c ++ tagWords t,
    { s with units := { s.units with counter := Map.put (dflt 0) s.units.counter rg (ctr + 1) } })

/-- Open a wrapped record of `n` state words for a job; `none` on a wrong FORMAT, region or PARKNO or a wrong tag (R188). -/
def State.openRecord (s : State) (j : Job) (rg format parkno : Nat) (prefix_ : List Octet) (n : Nat) (w : List Word) :
    Option (List Word) :=
  if w.length = n + 8 ∧ cw w 0 = wd (format * 512 + rg * 128 + parkno % 32) then
    let ctr := (cw w 1).toNat + bits (cw w 2) 13 0 * 2 ^ 18
    let t := (List.range 4).foldl (fun a i => a + (cw w (n + 4 + i)).toNat * 2 ^ (18 * i)) 0
    (gcmDec (s.regionKey rg) (wrapIv prefix_ rg ctr) (wordStream (w.take 4) ++ j.bind) (wordStream ((w.drop 4).take n))
      (beOctets 8 t)).map (streamWords n)
  else none

/-! ### Result windows (R208 to R210) -/

/-- The hold of a digest unit's window: the issuing core plus one; 0 none. -/
def State.holdOf (s : State) (p : Nat) : Nat := Map.get (dflt 0) s.units.hold p

/-- End a window's hold; the unit may start its next job (R210). -/
def State.endHold (s : State) (p : Nat) : State :=
  ({ s with units := { s.units with hold := Map.put (dflt 0) s.units.hold p 0 } } : State).startNext p

/-- A read of RESULTidx of a digest unit, past its page gate (R209, R210). DEDUCED, log entry 43. -/
def State.readResult (s : State) (req : Requester) (u idx : Nat) : State × Word :=
  let p := P.dig u
  match req with
  | .core c =>
    if c / 16 ≠ u / 8 then (s.pgErr p ERR.gate req (R.DIG_RESULT + idx), 0)
    else if s.rbit p R.DIG_WSTAT 17 then
      let v := s.reg p (R.DIG_RESULT + idx)
      (if idx = 0 ∧ s.holdOf p = c + 1 then s.endHold p else s, v)
    else (s.pgErr p 1 req (R.DIG_RESULT + idx), 0)
  | _ => (s.pgErr p ERR.gate req (R.DIG_RESULT + idx), 0)

/-- WINDOW_EXPIRED (R210). -/
def execWindowExpired (unit : Nat) (s : State) : Host.Outcome State Fault Refusal :=
  when (decide (s.holdOf (P.dig unit) ≠ 0)) s (((s.clearWindow (P.dig unit)).event (P.dig unit) 4).endHold (P.dig unit))

/-! ### Queue jobs (R196 to R200) -/

/-- OUTLEN of a digest job. -/
def Job.outLen (j : Job) : Nat := bits j.oparg 25 16
/-- MACLEN. -/
def Job.macLen (j : Job) : Nat := bits j.oparg 14 8

/-- The octets a digest opcode produces. -/
def Job.digestOut (j : Job) (alg : Nat) : Nat := if j.more && !j.gb then 0 else if alg = 8 ∨ alg = 9 then j.outLen else algOut alg

/-- Steps 2 and 3 of R175 for SHA and SHAKE jobs (R196 to R200, R202, R204). DEDUCED, log entry 43. -/
def State.digestForm (s : State) (k : Nat) (j : Job) (alg : Nat) : Option Nat :=
  let shake := decide (alg = 8 ∨ alg = 9)
  if j.gb then (if j.oparg ≠ 0 then some S.invalidOperand else none)
  else if bits j.oparg 31 26 ≠ 0 ∨ tb j.oparg 15 = true ∨ j.macLen ≠ 0 ∨ tb j.oparg 6 = true ∨ bits j.oparg 3 0 ≠ 0 then
    some S.invalidOperand
  else if j.keyed && (j.more || j.cont) then some S.unsupported
  else if tb j.oparg 7 && j.keyed && !s.exportSess k j then some S.invalidOperand
  else if (if shake && !j.more then decide (j.outLen < 1) || decide (512 < j.outLen) else decide (j.outLen ≠ 0)) then
    some S.invalidOperand
  else if (j.more || j.cont) && decide (j.declared 2 < 243) then some S.invalidOperand
  else if j.more && decide (j.declared 1 % algBlock alg ≠ 0) then some S.invalidOperand
  else if j.room < j.digestOut alg ∧ j.more = false then some S.invalidOperand
  else none

/-- Padding of a function after `total` octets of message (FIPS 180-4, FIPS 202). -/
def algPad (alg total : Nat) : List Octet :=
  if alg < 2 then shaPad sha32 total else if alg < 4 then shaPad sha64 total
  else keccakPad (algBlock alg) (if alg < 8 then 0x06 else 0x1F) total

/-- One permutation of a Keccak state. -/
def keccakPerm (st : List Octet) : List Octet := lanesOut (keccakF (lanesOf st))

/-- `n` permutations. -/
def keccakPerms : Nat → List Octet → List Octet
  | 0, st => st
  | n + 1, st => keccakPerms n (keccakPerm st)

/-- What a digest job or command has to do: its steps are the blocks of `text`, then a permutation for each SHAKE output
block beyond the first (R194). -/
structure DWork where
  /-- ALG -/
  alg : Nat
  /-- the state it starts from -/
  start : DSt
  /-- the octets to absorb: key block, message, padding -/
  text : List Octet
  /-- octets of the key block in `text` -/
  pre : Nat
  /-- octets of the message in `text` -/
  len : Nat
  /-- octets of output; 0 where the state is saved instead -/
  out : Nat
  deriving DecidableEq, Repr

/-- Blocks to absorb. -/
def DWork.blocks (w : DWork) : Nat := w.text.length / algBlock w.alg

/-- Blocks and permutations in all. -/
def DWork.steps (w : DWork) : Nat := w.blocks + (if w.alg < 8 then 0 else (w.out - 1) / algBlock w.alg)

/-- The state at step `b` from the state at step `a`. -/
def DWork.go (w : DWork) (st : List Octet) (a b : Nat) : List Octet :=
  let n := algBlock w.alg
  keccakPerms (b - max a w.blocks) (algAbsorb w.alg st ((w.text.take (b * n)).drop (a * n)))

/-- Message octets absorbed at step `n`, the key block excluded (Table 6-4). -/
def DWork.count (w : DWork) (n : Nat) : Nat := w.start.count + min w.len (n * algBlock w.alg - w.pre)

/-- Where a job stands when it starts or resumes: state, step, output so far. -/
def Job.workAt (j : Job) (w : DWork) : List Octet × Nat × List Octet :=
  if j.saved.isEmpty then (w.start.st, 0, []) else ((unpackWords (j.saved.drop 8)).getD [], j.parkDone, j.result)

/-- The output octets between two steps, from the state at step `a`. -/
def DWork.squeezed (w : DWork) (st : List Octet) (a b : Nat) : List Octet :=
  let m := max a w.blocks
  keccakSqueeze (algBlock w.alg) (b - m + 1) (w.go st a m) ((b - m) * algBlock w.alg)

/-- The output of a job that stands at a step. -/
def DWork.finish (w : DWork) (x : List Octet × Nat × List Octet) : List Octet :=
  let st := w.go x.1 x.2.1 (max x.2.1 w.blocks)
  if w.alg < 8 then st.take w.out
  else x.2.2 ++ keccakSqueeze (algBlock w.alg) (w.out / algBlock w.alg + 1) st (w.out - x.2.2.length)

/-- The start of a message: new, or the record of the state cell (R200). -/
def Job.digestStart (j : Job) (alg : Nat) : Option DSt :=
  if j.cont && !j.gb then
    match recordState (streamWords 108 (sliceOct (j.data 2) 0 243)) (clearCtl alg) with
    | some d => if d.count + j.declared 1 ≤ 2 ^ 36 - 1 then some d else none
    | none => none
  else some ⟨algInit alg, 0⟩

/-- The work of a SHA or SHAKE job from a starting state: a job with MORE 1 saves the state, any other pads (R194, R200). -/
def Job.digestWork (j : Job) (alg : Nat) (d : DSt) : DWork :=
  let m := sliceOct (j.data 1) 0 (j.declared 1)
  ⟨alg, d, m ++ (if j.more && !j.gb then [] else algPad alg (d.count + m.length)), 0, m.length, j.digestOut alg⟩

/-- A state record saved or read shows in CTX_SAVE or CTX_RESTORE with MODE 2 (Table 6-7). -/
def State.noteRecord (s : State) (j : Job) (saved restored : Bool) : State :=
  match j.unit with
  | some p =>
    let s := if restored then s.setReg p R.DIG_CTX_RESTORE 2 else s
    if saved then s.setReg p R.DIG_CTX_SAVE 2 else s
  | none => s

/-- The output and park buffers of a SHA or SHAKE job with the octets each needs (R200, R204). -/
def Job.digestNeed (j : Job) : List (Nat × Nat) := (if j.more && !j.cont then [(2, 243)] else []) ++ j.parkNeed 261

/-- A SHA or SHAKE job that has its data runs to its end (R197 to R200). -/
def State.digestEnd (s : State) (k : Nat) (j : Job) (alg : Nat) (d : DSt) : State :=
  let w := j.digestWork alg d
  let x := j.workAt w
  let save := j.more && !j.gb
  let s := (s.countBlocks j R.DIG_BLOCKS (w.steps - x.2.1)).noteRecord j save (j.cont && !j.gb)
  if save then
    s.finishOut k j j.goodStatus [(2, wordStream (recordWords alg false 0 0 0 ⟨w.go x.1 x.2.1 w.blocks, d.count + w.len⟩))] []
  else s.finish k j j.goodStatus (w.finish x)

/-- Run a SHA or SHAKE job (R197 to R200): a continued one reads its record before anything else of the host's.
DESIGN CHOICE, log entry 23. -/
def State.digestJob (s : State) (k : Nat) (j : Job) (alg : Nat) : State :=
  match s.digestForm k j alg with
  | some st => s.fail k j st
  | none =>
    if j.cont && !j.gb && j.listsOk j.digestNeed && !j.dataHere 2 then s
    else if j.cont && !j.gb && j.listsOk j.digestNeed && (j.digestStart alg).isNone then s.fail k j S.invalidOperand
    else
      s.lenGate k j j.digestNeed
        (match j.digestStart alg with
        | none => s.fail k j S.invalidOperand
        | some d => s.digestEnd k j alg d)

/-! ### HMAC (R197, R211, R215) -/

/-- The function of an HMAC slot: SHA-256, SHA-384, SHA-512 for ALG 4, 5, 6. -/
def hmacAlg (slotAlg : Nat) : Option Nat := if 4 ≤ slotAlg ∧ slotAlg ≤ 6 then some (slotAlg - 3) else none

/-- The HMAC slot of a job: its function and key (R197). -/
def State.hmacSlot (s : State) (j : Job) (r : BitVec 32) : Except Nat (Nat × List Octet) :=
  match s.slotCheck j r U.mac with
  | some st => .error st
  | none => match hmacAlg (s.slotFor j r).alg with
    | some a => .ok (a, beOctets 32 (s.slotFor j r).key.toNat)
    | none => .error S.invalidOperand

/-- The key source of an HMAC job (R171, R197). -/
def State.hmacKeyOf (s : State) (k : Nat) (j : Job) : Except Nat (Nat × List Octet) :=
  let viaRef (n : Nat) : Except Nat (Nat × List Octet) :=
    match j.sess with
    | none => .error S.invalidOperand
    | some x =>
      let r := ctxKeyref (s.sessView k j x) n
      if tb r 31 then s.hmacSlot j (r &&& 0x7FFFFFFF) else .error S.invalidOperand
  if j.gb then viaRef 0
  else match bits j.oparg 1 0 with
    | 0 => s.hmacSlot j (j.dw 1 0 &&& 0x7FFFFFFF)
    | 1 => .error S.denied
    | 2 => viaRef (bits j.oparg 3 2)
    | _ => .error S.invalidOperand

/-- The expected tag of HMAC_VER, 64 octets. -/
def Job.expectTag (j : Job) : List Octet := j.oct 3 0 64

/-- Step 2 of R175 for HMAC_GEN and HMAC_VER (R196, R198, R200). DEDUCED, log entry 43. -/
def State.hmacForm (s : State) (k : Nat) (j : Job) (alg : Nat) : Option Nat :=
  let n := if j.macLen = 0 then algOut alg else j.macLen
  if bits j.oparg 31 15 ≠ 0 ∨ tb j.oparg 6 = true ∨ (bits j.oparg 3 2 ≠ 0 ∧ bits j.oparg 1 0 ≠ 2) ∨ !j.keyCellClean then
    some S.invalidOperand
  else if j.more || j.cont then some S.unsupported
  else if tb j.oparg 7 && !s.exportSess k j then some S.invalidOperand
  else if n < 10 ∨ algOut alg < n then some S.invalidOperand
  else if j.opcode = 0o160 ∧ j.room < n then some S.invalidOperand
  else if j.opcode = 0o161 ∧ sliceOct j.expectTag n (64 - n) ≠ zeros (64 - n) then some S.invalidOperand
  else none

/-- An idle digest unit of a region, for a command of the resident firmware (R97, R211). -/
def State.idleDigest (s : State) (rg : Nat) : Option Nat := (s.pickUnit .digest rg).filter (fun p => decide (s.load p = 0))

/-- A keyed command of the resident firmware runs on a digest unit: blocks, count of jobs, and a window that shows
nothing (R208, R211). -/
def State.keyedRun (s : State) (p blocks : Nat) : State :=
  ((s.add36 p R.DIG_BLOCKS blocks).inc36 p R.DIG_JOBS).noteWindow p S.ok true []

/-- The inner and the outer command of an HMAC (R211) on a region's digest units: a key block and `len` octets, then a key
block and a block. `none` where no unit is free. DEDUCED, log entry 43. -/
def State.hmacRuns (s : State) (rg alg len : Nat) : Option State :=
  let n := (len + algBlock alg + (algPad alg (len + algBlock alg)).length) / algBlock alg
  (s.idleDigest rg).bind (fun p =>
    let t := s.keyedRun p n
    (t.idleDigest rg).map (fun q => t.keyedRun q 2))

/-- HMAC_GEN and HMAC_VER as the resident firmware carries them out with two commands (R199, R211). -/
def State.hmacJob (s : State) (k : Nat) (j : Job) : State :=
  match s.hmacKeyOf k j with
  | .error st => s.fail k j st
  | .ok (alg, key) => match s.hmacForm k j alg with
    | some st => s.fail k j st
    | none =>
      s.lenGate k j (j.parkNeed 261)
        (match s.hmacRuns j.region alg (j.data 2).length with
        | none => s
        | some s =>
          let n := if j.macLen = 0 then algOut alg else j.macLen
          let t := (hmac alg key (j.data 2)).take n
          if j.opcode = 0o160 then s.finish k j j.goodStatus t
          else if t = j.expectTag.take n then s.finish k j j.goodStatus
          else s.fail k j S.authFail)

/-- The inner message of a GB_HMAC job, from the state after the inner key block. -/
def Job.gbWork (j : Job) (alg : Nat) (key : List Octet) : DWork :=
  let ip := hmacKey alg key 0x36
  let m := sliceOct (j.data 1) 0 (j.declared 1)
  ⟨alg, ⟨algAbsorb alg (algInit alg) ip, 0⟩, m ++ algPad alg (ip.length + m.length), 0, m.length, algOut alg⟩

/-- Key blocks a GB_HMAC job computes itself each time it starts: none where Peat holds the pair (R212). -/
def Job.keyBlocks (j : Job) : Nat := match j.pair with | some v => if tb v.attr1 6 then 0 else 2 | none => 2

/-- GB_HMAC (R215). -/
def State.gbHmac (s : State) (k : Nat) (j : Job) : State :=
  match s.hmacKeyOf k j with
  | .error st => s.fail k j st
  | .ok (alg, key) =>
    if j.oparg ≠ 0 then s.fail k j S.invalidOperand
    else
      s.lenGate k j []
        (let w := j.gbWork alg key
        let x := j.workAt w
        let inner := (w.go x.1 x.2.1 w.blocks).take (algOut alg)
        (s.countBlocks j R.DIG_BLOCKS (j.keyBlocks + (w.blocks + 1 - x.2.1))).finish k j j.goodStatus
          ((digest alg (hmacKey alg key 0x5C ++ inner) (algOut alg)).take 32))

/-! ### Unit commands (R206, R207) -/

/-- The key prefix of a command, zero-extended to a block and masked (R206): none where the slot is refused. -/
def State.prefixBlock (s : State) (j : Job) (d : DCmd) : Except Nat (List Octet) :=
  if d.pre = 0 then .ok []
  else match s.hmacSlot j d.ref with
    | .error st => .error st
    | .ok (alg, key) =>
      if alg = d.alg ∨ (alg = 2 ∧ d.alg = 3) then .ok (hmacKey d.alg key (if d.pre = 1 then 0x36 else 0x5C))
      else .error S.invalidOperand

/-- KREF of a record. -/
def recordKref (w : List Word) : Nat := (dword (cw w 4) (cw w 5)).toNat

/-- The starting state of a command with the KREF of its record, `w` the words at STATE: new, a clear record, or a wrapped record of the region
(R206); a clear record that is not in packed form is refused (R8). -/
def State.cmdStart (s : State) (j : Job) (c : Cmd) (d : DCmd) (w : List Word) : Except Nat (DSt × Nat) :=
  if d.first then .ok (⟨algInit d.alg, 0⟩, if d.pre = 0 then 0 else d.ref.toNat)
  else
    if d.keyed then
      match s.openRecord j (c.core / 16) 0o523 0 ivDigest 108 w with
      | some ws => (match recordState ws (clearCtl d.alg + 16) with
        | some x => .ok (x, recordKref ws)
        | none => .error S.authFail)
      | none => .error S.authFail
    else if !recordPacked (w.take 108) then .error S.invalidOperand
    else match recordState (w.take 108) (clearCtl d.alg) with
      | some x => .ok (x, 0)
      | none => .error S.authFail

/-- The work of a command: a state that a slot's key prefix began has one key block that COUNT leaves out (R201, R206). -/
def DCmd.work (d : DCmd) (x : DSt) (kref : Nat) (pre m : List Octet) : DWork :=
  let kb := if kref = 0 then 0 else algBlock d.alg
  ⟨d.alg, x, pre ++ m ++ (if d.last then algPad d.alg (kb + x.count + m.length) else []), pre.length, m.length,
    if d.last then d.out else 0⟩

/-- The record a command saves. -/
def DCmd.record (d : DCmd) (kref : Nat) (x : DSt) : List Word := recordWords d.alg d.keyed 0 d.outlen kref x

/-! ### Commands -/

/-- Run a digest job of an opcode; `chk`: the parity of its states (R195) and the key transfer (R146). -/
def State.onDigest (s : State) (key op : Nat) (chk : UnitCheck) (f : Job → State) : Host.Outcome State Fault Refusal :=
  s.onRun key op (fun j => match j.unit with
    | some p => if j.utype = .digest ∧ j.cmd.isNone then (s.checked p chk (s.namesKey key j) (f j)) else s
    | none => s)

/-- SHA224 (R197). -/
def execSha224 (key : Nat) (chk : UnitCheck) (s : State) : Host.Outcome State Fault Refusal :=
  s.onDigest key 0o140 chk (fun j => s.digestJob key j 0)
/-- SHA256 (R197, R215). -/
def execSha256 (key : Nat) (chk : UnitCheck) (s : State) : Host.Outcome State Fault Refusal :=
  s.onDigest key 0o141 chk (fun j => s.digestJob key j 1)
/-- SHA384 (R197). -/
def execSha384 (key : Nat) (chk : UnitCheck) (s : State) : Host.Outcome State Fault Refusal :=
  s.onDigest key 0o142 chk (fun j => s.digestJob key j 2)
/-- SHA512 (R197). -/
def execSha512 (key : Nat) (chk : UnitCheck) (s : State) : Host.Outcome State Fault Refusal :=
  s.onDigest key 0o143 chk (fun j => s.digestJob key j 3)
/-- SHA3_224 (R197). -/
def execSha3224 (key : Nat) (chk : UnitCheck) (s : State) : Host.Outcome State Fault Refusal :=
  s.onDigest key 0o144 chk (fun j => s.digestJob key j 4)
/-- SHA3_256 (R197). -/
def execSha3256 (key : Nat) (chk : UnitCheck) (s : State) : Host.Outcome State Fault Refusal :=
  s.onDigest key 0o145 chk (fun j => s.digestJob key j 5)
/-- SHA3_384 (R197). -/
def execSha3384 (key : Nat) (chk : UnitCheck) (s : State) : Host.Outcome State Fault Refusal :=
  s.onDigest key 0o146 chk (fun j => s.digestJob key j 6)
/-- SHA3_512 (R197). -/
def execSha3512 (key : Nat) (chk : UnitCheck) (s : State) : Host.Outcome State Fault Refusal :=
  s.onDigest key 0o147 chk (fun j => s.digestJob key j 7)
/-- SHAKE128 (R197). -/
def execShake128 (key : Nat) (chk : UnitCheck) (s : State) : Host.Outcome State Fault Refusal :=
  s.onDigest key 0o150 chk (fun j => s.digestJob key j 8)
/-- SHAKE256 (R197). -/
def execShake256 (key : Nat) (chk : UnitCheck) (s : State) : Host.Outcome State Fault Refusal :=
  s.onDigest key 0o151 chk (fun j => s.digestJob key j 9)
/-- GB_HMAC (R215). -/
def execGbHmac (key : Nat) (chk : UnitCheck) (s : State) : Host.Outcome State Fault Refusal :=
  s.onDigest key 0o162 chk (s.gbHmac key)

end Sys2Proof.Machine
end

