-- ==== Sys2Proof/Machine/UnitCmd.lean ====
section
/-! DEFINITION. Unit commands of cores other than bignum programs: cipher command blocks (R272), host transfers (R273),
how a unit command ends (R270). -/
namespace Sys2Proof.Machine

/-! ### The held job -/

/-- The job a core holds, with its key. -/
def State.heldJob (s : State) (c : Nat) : Option (Nat × Job) :=
  let h := (s.core c).held
  if h = 0 then none else (s.job (h - 1)).map (fun j => (h - 1, j))

/-! ### Cipher commands (R272) -/

/-- The key of a cipher command, checked against the job's colour key (R272, R171). -/
def State.ccmdKey (s : State) (j : Job) (c : Cmd) (d : CCmd) : Except Nat CKey :=
  match s.heldJob c.core with
  | none => .error S.denied
  | some (hk, hj) => match d.ksrc with
    | 0 => s.slotKey j d.ref d.usage
    | 1 => s.credKey hk hj d.handle
    | _ => s.keyrefKey hk hj d.kref d.usage

/-- The key a cipher command reads has lost a word. -/
def State.ccmdStruck (s : State) (c : Cmd) (d : CCmd) : Option Nat :=
  match s.heldJob c.core with
  | none => none
  | some (hk, hj) => match d.ksrc with
    | 0 => s.slotStruck d.ref
    | 1 => s.entryStruck hk hj d.handle
    | _ => (match hj.sess with
      | some x => s.slotStruck (ctxKeyref (s.sessView hk hj x) d.kref &&& 0x7FFFFFFF)
      | none => none)

/-- The input and the chaining value of a cipher command; `none` where a packed string is malformed (R8). -/
def CCmd.data (d : CCmd) (src iva : List Word) : Option (List Octet × List Octet) :=
  match unpackWords src, (if d.usesIv then unpackWords iva else some (zeros 16)) with
  | some m, some v => if m.length = d.len ∧ v.length = 16 then some (m, v) else none
  | _, _ => none

/-! ### Host transfers (R273) -/

/-- Drop the first octets of a list of buffer elements. -/
def dropElems : Nat → List (Nat × Nat) → List (Nat × Nat)
  | _, [] => []
  | n, (a, l) :: r => if l ≤ n then dropElems (n - l) r else (a + n, l - n) :: r

/-- Write octets at an offset of an output kept for another device (R112). -/
def putOut (outs : List (Nat × List Octet)) (cell off : Nat) (l : List Octet) : List (Nat × List Octet) :=
  let old := match outs.find? (fun e => e.1 == cell) with | some e => e.2 | none => []
  let new := sliceOct old 0 off ++ l ++ old.drop (off + l.length)
  outs.filter (fun e => e.1 != cell) ++ [(cell, new)]

/-- Write octets at an offset of the output buffer a cell of a held job names. -/
def State.putHost (s : State) (hk : Nat) (hj : Job) (cell off : Nat) (l : List Octet) : State :=
  if hj.origin.isSome then s.setJob hk { hj with outData := putOut hj.outData cell off l }
  else s.toElems (dropElems off (hj.elems cell)) l

end Sys2Proof.Machine
end

