-- ==== Sys2Proof/Machine/Bignum.lean ====
section
/-! DEFINITION. Bignum units (R216 to R242): operand slots, programs and their form, commands with validation and refusal,
queue jobs, the GB2 form, times that decide a yield, park space, aborts. -/
namespace Sys2Proof.Machine

/-! ### Operand slots (R216, R217) -/

/-- An empty operand slot. -/
def BnSlot.empty : BnSlot := ⟨[], false, 0⟩

/-- An operand slot of a job. -/
def BnCtx.slot (b : BnCtx) (n : Nat) : BnSlot := Map.get (dflt BnSlot.empty) b.slots n

/-- Store an operand slot. -/
def BnCtx.setSlot (b : BnCtx) (n : Nat) (v : BnSlot) : BnCtx := { b with slots := Map.put (dflt BnSlot.empty) b.slots n v }

/-- The number in the first `n` limbs (R10, R217). -/
def limbsNat (l : List Word) (n : Nat) : Nat := (l.take n).foldr (fun w a => w.toNat + 2 ^ 18 * a) 0

/-- `n` limbs of a number. -/
def natLimbs : Nat → Nat → List Word
  | 0, _ => []
  | n + 1, v => wd v :: natLimbs n (v / 2 ^ 18)

/-- The value of a slot read at length `n`. -/
def BnCtx.val (b : BnCtx) (i n : Nat) : Nat := limbsNat (b.slot i).words n

/-- LEN of a slot. -/
def BnCtx.slen (b : BnCtx) (i : Nat) : Nat := (b.slot i).words.length

/-! ### Command words (R220) -/

/-- A decoded command (Table 7-2). -/
structure BnCmd where
  /-- OP -/
  op : Nat
  /-- D -/
  d : Nat
  /-- A -/
  a : Nat
  /-- B -/
  b : Nat
  /-- M -/
  m : Nat
  /-- C -/
  c : Nat
  /-- N -/
  n : Nat
  /-- ARG -/
  arg : Nat
  /-- the reserved bits -/
  resv : Nat
  deriving DecidableEq, Repr

/-- Decode the four words of a command. -/
def bnCmdOf (w : List Word) : BnCmd :=
  let w0 := cw w 0
  let w1 := cw w 1
  { op := bits w0 17 14, d := bits w0 13 10, a := bits w0 9 6, b := bits w0 5 2, m := bits w1 17 14, c := bits w1 13 10,
    n := bits w1 9 0 + 1, arg := (dword (cw w 2) (cw w 3)).toNat, resv := bits w0 1 0 }

/-- COUNT of a program. -/
def progCount (w : List Word) : Nat := bits (cw w 0) 6 0

/-- Command `k` of a program. -/
def progCmd (w : List Word) (k : Nat) : BnCmd := bnCmdOf (w.drop (4 + 4 * k))

/-- A field the command does not use is zero, selectors and arguments lie in range (R221, Table 7-3). -/
def BnCmd.formOk (x : BnCmd) : Bool :=
  let z (l : List Nat) : Bool := l.all (fun v => v == 0)
  z [x.resv] && (match x.op with
    | 0 => z [x.a, x.b, x.m] && decide (x.c < 2) && (decide (x.c = 0) || decide (x.arg < 2 ^ 25))
    | 1 => z [x.d, x.b, x.m, x.c]
    | 2 => z [x.b, x.m] && decide (x.c < 2) && decide (1 ≤ x.arg) && decide (x.arg ≤ 2304)
    | 3 => z [x.b, x.c, x.arg]
    | 4 => z [x.b, x.c, x.arg]
    | 5 => z [x.c, x.arg]
    | 6 => z [x.c, x.arg]
    | 7 => z [x.c, x.arg]
    | 8 => z [x.b, x.c, x.arg]
    | 9 => z [x.c] && decide (x.arg < 1024)
    | 10 => z [x.arg]
    | _ => false)

/-- The form check of a program (R221): the status and the index of the first offending command. -/
def progForm (w : List Word) (sup : Bool) : Option (Nat × Nat) :=
  let n := progCount w
  if n = 0 ∨ 64 < n ∨ bits (cw w 0) 17 7 ≠ 0 ∨ tb (cw w 1) 16 = true ∨ bits (cw w 1) 11 9 ≠ 0 ∨ bits (cw w 2) 17 6 ≠ 0 ∨
      cw w 3 ≠ 0 then some (S.invalidOperand, 0)
  else match (List.range n).find? (fun k => let x := progCmd w k
      !x.formOk || (!sup && decide (x.op = 0) && decide (x.c = 1))) with
    | some k => some (if (progCmd w k).formOk then S.denied else S.invalidOperand, k)
    | none => none

/-! ### Validation (R226) -/

/-- The exponent's length in words. -/
def BnCmd.e (x : BnCmd) : Nat := x.arg + 1

/-- The command has a modulus slot. -/
def BnCmd.hasMod (x : BnCmd) : Bool := 3 ≤ x.op && x.op ≤ 10

/-- The command writes its destination slot. -/
def BnCmd.writesD (x : BnCmd) : Bool := x.op != 1 && x.op != 10

/-- The first refused operand slot in the order M, A, B, C, D (R226, R227). DEDUCED, log entry 44. -/
def BnCtx.refused (t : BnCtx) (x : BnCmd) : Option Nat :=
  let n := x.n
  let m := t.val x.m n
  let long (i len : Nat) : Bool := decide (len < t.slen i)
  let bad (i : Nat) : Bool := long i n || decide (m ≤ t.val i n)
  let first (l : List (Nat × Bool)) : Option Nat := (l.find? (fun p => p.2)).map (fun p => p.1)
  let modBad := decide (m = 0) || decide (m = 1) || decide (m % 2 = 0) || long x.m n || (x.writesD && decide (x.m = x.d))
  let mm : List (Nat × Bool) := if x.hasMod then [(x.m, modBad)] else []
  match x.op with
  | 2 =>
    let l := x.arg
    if x.c = 0 then
      match unpackWords (t.slot x.a).words with
      | some o => if (t.slen x.a) = (l + 1) / 2 ∧ o.length = l ∧ beNat o < 2 ^ (18 * n) then none else some x.a
      | none => some x.a
    else first [(x.a, long x.a n || decide (2 ^ (8 * l) ≤ t.val x.a n))]
  | 3 => first (mm ++ [(x.a, bad x.a)])
  | 4 => first (mm ++ [(x.a, long x.a (2 * n) || decide (m * 2 ^ (18 * n) ≤ t.val x.a (2 * n)))])
  | 5 => first (mm ++ [(x.a, bad x.a), (x.b, bad x.b)])
  | 6 => first (mm ++ [(x.a, bad x.a), (x.b, bad x.b)])
  | 7 => first (mm ++ [(x.a, bad x.a), (x.b, bad x.b)])
  | 8 => first (mm ++ [(x.a, bad x.a || decide (t.val x.a n < 2))])
  | 9 => first (mm ++ [(x.a, bad x.a || decide (t.val x.a n < 2)), (x.b, long x.b x.e || decide (t.val x.b x.e = 0))])
  | 10 => first (mm ++ [(x.a, bad x.a), (x.b, bad x.b), (x.c, bad x.c), (x.d, bad x.d)])
  | _ => none

/-- The command computes Montgomery constants where its modulus slot holds none: [S] of Table 7-3. -/
def BnCmd.keepsConst (x : BnCmd) : Bool := x.hasMod && x.op != 5 && x.op != 6 && x.op != 8

/-- The constants a modulus command leaves with its modulus slot (R216, R224). -/
def BnCtx.noteMod (t : BnCtx) (x : BnCmd) : BnCtx :=
  if x.keepsConst then t.setSlot x.m { t.slot x.m with consts := x.n } else t

/-- What a command computes of its operands: the words for its destination; `none` where its result refuses it (R228). -/
def BnCtx.compute (t : BnCtx) (x : BnCmd) : Option (List Word) :=
  let n := x.n
  let m := t.val x.m n
  let a := t.val x.a n
  let b := t.val x.b n
  let r := 2 ^ (18 * n)
  match x.op with
  | 2 => if x.c = 0 then some (natLimbs n (beNat ((unpackWords (t.slot x.a).words).getD [])))
    else some (packWords (beOctets x.arg a))
  | 3 => some (natLimbs n (a * r % m))
  | 4 => some (natLimbs n (t.val x.a (2 * n) * inv0 (r % m) m % m))
  | 5 => some (natLimbs n ((a + b) % m))
  | 6 => some (natLimbs n (subMod a b m))
  | 7 => some (natLimbs n (a * b % m * inv0 (r % m) m % m))
  | 8 => (invMod a m).map (natLimbs n)
  | 9 => some (natLimbs n (powMod a (t.val x.b x.e) m))
  | _ =>
    let c := t.val x.c n
    let d := t.val x.d n
    if b * b % m = (a * a * a + c * a + d) % m then some [] else none

/-- Montgomery multiplications of a command (Table 7-3). -/
def BnCmd.muls (x : BnCmd) : Nat :=
  match x.op with
  | 3 => 1 | 4 => 1 | 7 => 1 | 8 => 2 | 9 => 5 * ((18 * x.e + 3) / 4) + 16 | 10 => 8 | _ => 0

/-! ### Times (R222) -/

/-- ⌈N / 16⌉. -/
def BnCmd.q (x : BnCmd) : Nat := (x.n + 15) / 16

/-- Montgomery multiplication M. -/
def BnCmd.mont (x : BnCmd) : Nat := 2 * x.q * x.q + 24

/-- Validation V and, where the modulus slot holds no constants, setup [S]. -/
def BnCmd.lead (x : BnCmd) (held : Bool) : Nat := 3 * x.n + 40 + (if held || !x.keepsConst then 0 else 36 * x.n + 40)

/-- MODINV's steps before its two multiplications (Table 7-3, R232). -/
def BnCmd.invSteps (x : BnCmd) : Nat := 36 * x.n + 64

/-- The time of a command; `held` says that its modulus slot holds constants for N (Table 7-3). -/
def BnCmd.cycles (x : BnCmd) (held : Bool) : Nat :=
  let v := x.lead held
  match x.op with
  | 0 => if x.c = 0 then (x.n + 1) / 2 + 24 else 32
  | 1 => (x.n + 1) / 2 + 24
  | 2 => let k := max x.n ((x.arg + 1) / 2); 3 * k + 40 + (k + 3) / 4 + 8
  | 5 => v + x.q + 12
  | 6 => v + x.q + 12
  | 8 => v + x.invSteps * (x.q + 1) + 2 * x.mont
  | 10 => v + x.muls * x.mont + 40
  | _ => v + x.muls * x.mont

/-- Boundaries at which a command may yield, its end among them: after each multiplication or MODINV step (R232). -/
def BnCmd.bounds (x : BnCmd) : Nat :=
  match x.op with
  | 8 => x.invSteps + 2
  | 10 => x.muls + 1
  | _ => max 1 x.muls

/-- Cycles from the start of a command to its boundary `i`; boundary 0 is its start. -/
def BnCmd.upTo (x : BnCmd) (held : Bool) (i : Nat) : Nat :=
  if i = 0 then 0
  else if x.bounds ≤ i then x.cycles held
  else x.lead held + (if x.op = 8 then min i x.invSteps * (x.q + 1) + (i - x.invSteps) * x.mont else i * x.mont)

/-- Multiplications of a command up to its boundary `i`. -/
def BnCmd.mulsTo (x : BnCmd) (i : Nat) : Nat := if x.op = 8 then i - x.invSteps else min i x.muls

/-- Words a command writes to its destination. -/
def BnCmd.outWords (x : BnCmd) : Nat := if x.op = 2 ∧ x.c = 1 then (x.arg + 1) / 2 else x.n

/-- What a unit's operand memory holds while a program runs, as far as times and park records ask: lengths of slots, and
lengths of the constants of slots. -/
structure BnFill where
  /-- slot and LEN -/
  lens : List (Nat × Nat)
  /-- slot and length of its constants -/
  cons : List (Nat × Nat)
  deriving DecidableEq, Repr

/-- The modulus slot of a command holds constants for its length. -/
def BnFill.holds (f : BnFill) (x : BnCmd) : Bool := f.cons.any (fun e => e.1 == x.m && e.2 == x.n)

/-- Constants that a command has computed before its first multiplication. -/
def BnFill.setup (f : BnFill) (x : BnCmd) : BnFill :=
  if x.keepsConst then { f with cons := (x.m, x.n) :: f.cons.filter (fun e => e.1 != x.m) } else f

/-- What a command leaves. -/
def BnFill.after (f : BnFill) (x : BnCmd) : BnFill :=
  let f := f.setup x
  if x.writesD then ⟨(x.d, x.outWords) :: f.lens.filter (fun e => e.1 != x.d), f.cons.filter (fun e => e.1 != x.d)⟩ else f

/-- Words in all. -/
def sumSnd (l : List (Nat × Nat)) : Nat := (l.map (fun e => e.2)).foldl (· + ·) 0

/-- Cycles from the start of the first of these commands to the end of the job, 4 cycles of issue each (R222).
DEDUCED, log entry 44. -/
def cyclesLeft : List BnCmd → BnFill → Nat
  | [], f => 16 + (sumSnd f.lens + 63) / 64
  | x :: r, f => x.cycles (f.holds x) + 4 + cyclesLeft r (f.after x)

/-- Cycles from the end of what came before these commands to their boundary `i`. DEDUCED, log entry 44. -/
def boundTime : List BnCmd → BnFill → Nat → Nat
  | [], _, _ => 0
  | x :: r, f, i =>
    if i = 0 then 0
    else if i < x.bounds then 4 + x.upTo (f.holds x) i
    else 4 + x.cycles (f.holds x) + boundTime r (f.after x) (i - x.bounds)

/-- What the operand memory holds at boundary `i` of these commands, and the words of a MODEXP in progress there (R234). -/
def boundFill : List BnCmd → BnFill → Nat → BnFill × Nat
  | [], f, _ => (f, 0)
  | x :: r, f, i =>
    if i = 0 then (f, 0)
    else if i < x.bounds then (f.setup x, if x.op = 9 then 17 * x.n else 0)
    else boundFill r (f.after x) (i - x.bounds)

/-- Multiplications of these commands up to boundary `i`. -/
def boundMuls : List BnCmd → Nat → Nat
  | [], _ => 0
  | x :: r, i => if i < x.bounds then x.mulsTo i else x.muls + boundMuls r (i - x.bounds)

/-! ### Queue jobs (R237 to R239) -/

/-- Limbs for a number of `l` octets (R218). -/
def limbs (l : Nat) : Nat := (8 * l + 17) / 18

/-- Declared lengths of the modulus and the other operands of a queue job; the modulus of BN_CURVECHK is p. -/
def Job.bnLens (j : Job) : Nat × List Nat :=
  if j.gb then (bits j.oparg 9 0, [bits j.oparg 9 0, bits j.oparg 9 0])
  else match j.opcode with
    | 0o204 => (j.declared 1, [j.declared 2])
    | 0o205 => (j.declared 1, [2, 3, 4, 5].map j.declared)
    | _ => (j.declared 1, [2, 3].map j.declared)

/-- The program a unit builds for a queue job (R238), for its times; slots are the unit's own. The exponent is converted
at its own length. -/
def Job.bnBuilt (j : Job) : List BnCmd :=
  let (lm, ls) := j.bnLens
  let n := limbs lm
  let conv (sel l d len : Nat) : BnCmd := ⟨2, d, 15, 0, 0, sel, len, l, 0⟩
  let ins := ((lm :: ls).zip (List.range 6)).map (fun p =>
    conv 0 p.1 p.2 (if j.opcode = 0o200 ∧ p.2 = 2 then limbs p.1 else n))
  let cmd : List BnCmd := match j.opcode with
    | 0o200 => [⟨9, 8, 1, 2, 0, 0, n, limbs (ls.getD 1 1) - 1, 0⟩]
    | 0o201 => [⟨3, 1, 1, 0, 0, 0, n, 0, 0⟩, ⟨7, 8, 1, 2, 0, 0, n, 0, 0⟩]
    | 0o202 => [⟨5, 8, 1, 2, 0, 0, n, 0, 0⟩]
    | 0o203 => [⟨6, 8, 1, 2, 0, 0, n, 0, 0⟩]
    | 0o204 => [⟨8, 8, 1, 0, 0, 0, n, 0, 0⟩]
    | _ => [⟨10, 2, 3, 4, 0, 1, n, 0, 0⟩]
  ins ++ cmd ++ (if j.opcode = 0o205 then [] else [conv 1 lm 9 n])

/-- The commands a bignum job has left, the one it has come to first. -/
def Job.bnRest (j : Job) : List BnCmd :=
  match j.cmd with
  | some c => ((List.range (progCount c.words)).drop j.bn.idx).map (progCmd c.words)
  | none => j.bnBuilt

/-- The commands whose boundaries a park position counts: a program's next command, or all of a queue job's. -/
def Job.bnSpan (j : Job) : List BnCmd := if j.cmd.isSome then j.bnRest.take 1 else j.bnRest

/-- What the unit's operand memory holds when those commands begin. -/
def Job.bnFill (j : Job) : BnFill :=
  ⟨j.bn.slots.map (fun e => (e.1, e.2.words.length)),
    (j.bn.slots.filter (fun e => decide (e.2.consts ≠ 0))).map (fun e => (e.1, e.2.consts))⟩

/-- The cycles a bignum job has left at boundary `i`; its whole time where it has not started (R233). -/
def Job.bnLeft (j : Job) (i : Nat) : Nat :=
  (if j.st = .dispatched then 32 else 0) + (cyclesLeft j.bnRest j.bnFill - boundTime j.bnSpan j.bnFill i)

/-- The cycles it has run since it started or resumed, at boundary `i` (R232). -/
def Job.bnRan (j : Job) (i : Nat) : Nat :=
  j.bn.ran + (boundTime j.bnSpan j.bnFill i - boundTime j.bnSpan j.bnFill j.parkDone)

/-- Boundary `i` is a yield point (R232): the first at or after a multiple of 4,096 cycles. -/
def Job.yieldPoint (j : Job) (i : Nat) : Bool :=
  let before_ := if i ≤ j.parkDone then j.bn.last else j.bnRan (i - 1)
  decide (before_ / 4096 < j.bnRan i / 4096)

/-- The words of a bignum job's park record at boundary `i` (R234). -/
def Job.bnRecord (j : Job) (i : Nat) : Nat :=
  let f := boundFill j.bnSpan j.bnFill i
  32 + sumSnd f.1.lens + sumSnd f.1.cons + f.2

/-- Words free in the park area of cluster `c` of a region (R234). -/
def State.bnFree (s : State) (rg c : Nat) : Nat :=
  16384 - ((s.jobs.filterMap (fun e => match e.2 with
    | some j => if j.utype = .bignum ∧ j.st = .parked ∧ j.parkMode = 1 ∧ j.region = rg ∧ j.parkIdx = 64 * c then some (j.bnRecord j.parkDone)
      else none
    | none => none)).foldl (· + ·) 0)

/-- The area the record of a job at boundary `i` goes to: the one with most space, the lowest cluster on a tie; `none`
where it does not fit. -/
def State.bnArea (s : State) (j : Job) (i : Nat) : Option Nat :=
  match argMin (fun c => (16384 - s.bnFree j.region c, c, 0)) (List.range 4) with
  | some c => if j.bnRecord i ≤ s.bnFree j.region c then some c else none
  | none => none

/-! ### Ending a job -/

/-- The residue checks of `n` commands draw 12 bits each from the region's DRBG (R230). -/
def State.drawRho (s : State) (p n : Nat) : State := s.each (List.range n) (fun t _ => (t.drawFrom (regionOf p) 2).2)

/-- Record a refusal in BN.REFUSE (R227). DEDUCED, log entry 44. -/
def State.bnRefuse (s : State) (j : Job) (idx slot : Nat) : State :=
  match j.unit with
  | some p => s.setReg p R.BN_REFUSE (wd (2 ^ 17 + idx * 256 + slot % 16))
  | none => s

/-- After a command: the next one, or the end with OK (R219). -/
def State.progNext (s : State) (k : Nat) (j : Job) (t : BnCtx) : State :=
  let n := ((j.bnSpan.map BnCmd.bounds).getD 0 1)
  s.setJob k { j with bn := { t with idx := j.bn.idx + 1, ran := j.bnRan n, last := j.bnRan (n - 1) }, parkDone := 0 }

/-- Run a command that computes (R223 to R228). -/
def State.progCompute (s : State) (k : Nat) (j : Job) (x : BnCmd) : State :=
  let t := j.bn
  if x.op = 2 ∧ x.c = 1 ∧ (t.slot x.a).keyed = true then s.fail k j S.denied
  else match t.refused x with
    | some i => (s.bnRefuse j j.bn.idx i).fail k j S.invalidOperand
    | none =>
      let s := s.countBlocks j R.BN_MULS (x.muls - x.mulsTo j.parkDone)
      match t.compute x with
      | none => (s.bnRefuse j j.bn.idx x.a).fail k j S.invalidOperand
      | some w =>
        let t := t.noteMod x
        s.progNext k j (if x.writesD then t.setSlot x.d ⟨w, false, 0⟩ else t)

/-- A discarded job is still on its unit: a mismatch quarantines the unit, and the job is gone (R236). -/
def State.orphanCheck (s : State) (p : Nat) (j : Job) (chk : UnitCheck) : State :=
  if chk = .mismatch then (s.checkFail p).noteAbort j else s

/-- The running program's next command is of an OP: run it on its unit; `chk`: the residues (R230) and the key transfer (R146). -/
def State.onProg (s : State) (unit op : Nat) (chk : UnitCheck) (f : State → Nat → Job → Cmd → BnCmd → State) :
    Host.Outcome State Fault Refusal :=
  let p := P.bn unit
  match s.runsOn p with
  | none => .next s
  | some k => match s.job k with
    | none => .next s
    | some j => match j.cmd with
      | none => .next s
      | some c =>
        let x := progCmd c.words j.bn.idx
        when (decide (j.st = .running) && decide (j.bn.idx < progCount c.words) && decide (x.op = op)) s
          (if let some a := s.struckIn (2 ^ 41 + p) 1 then s.memUe a
          else if j.orphan then s.orphanCheck p j chk
          else s.checked p chk (x.op == 0 && x.c != 0) (f (s.drawRho p 1) k j c x))

/-- CONVERT (R223). -/
def execConvert (unit : Nat) (chk : UnitCheck) (s : State) : Host.Outcome State Fault Refusal :=
  s.onProg unit 2 chk (fun t k j _ x => t.progCompute k j x)
/-- TO_MONT (R223). -/
def execToMont (unit : Nat) (chk : UnitCheck) (s : State) : Host.Outcome State Fault Refusal :=
  s.onProg unit 3 chk (fun t k j _ x => t.progCompute k j x)
/-- FROM_MONT (R223). -/
def execFromMont (unit : Nat) (chk : UnitCheck) (s : State) : Host.Outcome State Fault Refusal :=
  s.onProg unit 4 chk (fun t k j _ x => t.progCompute k j x)
/-- MODADD (R223). -/
def execModadd (unit : Nat) (chk : UnitCheck) (s : State) : Host.Outcome State Fault Refusal :=
  s.onProg unit 5 chk (fun t k j _ x => t.progCompute k j x)
/-- MODSUB (R223). -/
def execModsub (unit : Nat) (chk : UnitCheck) (s : State) : Host.Outcome State Fault Refusal :=
  s.onProg unit 6 chk (fun t k j _ x => t.progCompute k j x)
/-- MODMUL (R223). -/
def execModmul (unit : Nat) (chk : UnitCheck) (s : State) : Host.Outcome State Fault Refusal :=
  s.onProg unit 7 chk (fun t k j _ x => t.progCompute k j x)
/-- MODINV (R228). -/
def execModinv (unit : Nat) (chk : UnitCheck) (s : State) : Host.Outcome State Fault Refusal :=
  s.onProg unit 8 chk (fun t k j _ x => t.progCompute k j x)
/-- MODEXP (R229). -/
def execModexp (unit : Nat) (chk : UnitCheck) (s : State) : Host.Outcome State Fault Refusal :=
  s.onProg unit 9 chk (fun t k j _ x => t.progCompute k j x)
/-- CURVECHK (R228). -/
def execCurvechk (unit : Nat) (chk : UnitCheck) (s : State) : Host.Outcome State Fault Refusal :=
  s.onProg unit 10 chk (fun t k j _ x => t.progCompute k j x)

/-! ### Queue jobs: checks and results -/

/-- The limits of R238 and R239. -/
def Job.bnLimits (j : Job) : Bool :=
  let (lm, ls) := j.bnLens
  if j.gb then decide (bits j.oparg 31 10 = 0) && decide (1 ≤ lm) && decide (lm ≤ 512) && decide (j.declared 1 = 3 * lm)
  else decide (j.oparg = 0) && decide (1 ≤ lm) && decide (lm ≤ 2304) &&
    (if j.opcode = 0o200 then decide (1 ≤ ls.getD 0 0) && decide (ls.getD 0 0 ≤ lm) && decide (1 ≤ ls.getD 1 0) && decide (ls.getD 1 0 ≤ 2304)
     else ls.all (fun l => decide (1 ≤ l) && decide (l ≤ lm)))

/-- The output cell of a queue job. -/
def Job.bnOut (j : Job) : List (Nat × Nat) :=
  if j.gb || decide (j.opcode = 0o205) then [] else [(if j.opcode = 0o204 then 3 else 4, j.declared 1)]

/-- The operands of a queue job as numbers, the modulus first. -/
def Job.bnNums (j : Job) : List Nat :=
  if j.gb then
    let l := j.bnLens.1
    let d := j.data 1
    [beNat (d.take l), beNat ((d.drop l).take l), beNat ((d.drop (2 * l)).take l)]
  else (j.ins.map (fun c => beNat (j.data c)))

/-- What a queue job computes: an error with the index of its refused command after the operand conversions, or the
result (R226, R228, R238). -/
def bnResult (op : Nat) (nums : List Nat) : Except Nat Nat :=
  let m := nums.getD 0 0
  let a := nums.getD 1 0
  let b := nums.getD 2 0
  let badM := decide (m < 2) || decide (m % 2 = 0)
  match op with
  | 0o200 => if badM ∨ a < 2 ∨ m ≤ a ∨ b = 0 then .error 0 else .ok (powMod a b m)
  | 0o201 => if badM ∨ m ≤ a then .error 0 else if m ≤ b then .error 1 else .ok (a * b % m)
  | 0o202 => if badM ∨ m ≤ a ∨ m ≤ b then .error 0 else .ok ((a + b) % m)
  | 0o203 => if badM ∨ m ≤ a ∨ m ≤ b then .error 0 else .ok (subMod a b m)
  | 0o204 => if badM ∨ a < 2 ∨ m ≤ a then .error 0
    else match invMod a m with | some r => .ok r | none => .error 0
  | _ =>
    -- p, a, b, x, y
    let x := nums.getD 3 0
    let y := nums.getD 4 0
    if badM ∨ m ≤ a ∨ m ≤ b ∨ m ≤ x ∨ m ≤ y then .error 0
    else if y * y % m = (x * x * x + a * x + b) % m then .ok 0 else .error 0

/-- Run a queue job (R237 to R239): the operand slot a refusal records is the unit's own choice, a free value. -/
def State.bnJob (s : State) (k : Nat) (j : Job) : State :=
  if !j.bnLimits then s.fail k j S.invalidOperand
  else
    s.lenGate k j j.bnOut
      (let muls := (j.bnBuilt.map BnCmd.muls).foldl (· + ·) 0 - boundMuls j.bnBuilt j.parkDone
      let s := match j.unit with | some p => s.drawRho p j.bnBuilt.length | none => s
      match bnResult j.opcode j.bnNums with
      | .error i =>
        let s := (s.bnRefuse j (j.bnLens.2.length + 1 + i) (bits (Config.freeWord s.fresh) 3 0))
        ({ s with fresh := s.fresh + 1 } : State).fail k j S.invalidOperand
      | .ok r =>
        let l := j.bnLens.1
        let out := beOctets l r
        (s.countBlocks j R.BN_MULS muls).finishOut k j j.goodStatus
          (if j.gb then [(1, (j.data 1).take l ++ out)]
           else j.bnOut.map (fun o => (o.1, out))) [])

/-- Run a bignum queue job of an opcode. -/
def State.onBignum (s : State) (key op : Nat) (chk : UnitCheck) : Host.Outcome State Fault Refusal :=
  s.onRun key op (fun j => match j.unit with
    | some p =>
      if j.utype = .bignum ∧ j.cmd.isNone then
        (if let some a := s.struckIn (2 ^ 41 + p) 1 then s.memUe a
        else if j.orphan then s.orphanCheck p j chk
        else s.checked p chk false (s.bnJob key j))
      else s
    | none => s)

/-- BN_MODEXP (R237, R239). -/
def execBnModexp (key : Nat) (chk : UnitCheck) (s : State) : Host.Outcome State Fault Refusal := s.onBignum key 0o200 chk
/-- BN_MODMUL (R237). -/
def execBnModmul (key : Nat) (chk : UnitCheck) (s : State) : Host.Outcome State Fault Refusal := s.onBignum key 0o201 chk
/-- BN_MODADD (R237). -/
def execBnModadd (key : Nat) (chk : UnitCheck) (s : State) : Host.Outcome State Fault Refusal := s.onBignum key 0o202 chk
/-- BN_MODSUB (R237). -/
def execBnModsub (key : Nat) (chk : UnitCheck) (s : State) : Host.Outcome State Fault Refusal := s.onBignum key 0o203 chk
/-- BN_MODINV (R237). -/
def execBnModinv (key : Nat) (chk : UnitCheck) (s : State) : Host.Outcome State Fault Refusal := s.onBignum key 0o204 chk
/-- BN_CURVECHK (R237). -/
def execBnCurvechk (key : Nat) (chk : UnitCheck) (s : State) : Host.Outcome State Fault Refusal := s.onBignum key 0o205 chk

/-! ### Programs: entry and end -/

/-- A program whose form is bad ends where it enters the input queue of a unit, as a job of that unit (R219, R221). -/
def State.progRefused (s : State) (k : Nat) (j : Job) (st : Nat) : State :=
  if s.hasUnit .bignum j.region then
    match s.pickUnit .bignum j.region with
    | some p => s.fail k { j with unit := some p } st
    | none => s
  else s.notReadyJob k j

/-- BN_PROGRAM_ENQUEUE (R219, R221): the program is read once; a good one enters the input queue of a unit. -/
def execBnProgramEnqueue (key : Nat) (s : State) : Host.Outcome State Fault Refusal :=
  match s.job key with
  | none => .next s
  | some j => match j.cmd with
    | none => .next s
    | some c =>
      let n := progCount (s.words c.addr 1)
      let w := s.words c.addr (4 + 4 * n)
      when (decide (c.typ = 2) && decide (j.st = .fetched)) s
        (match s.struckIn c.addr (4 + 4 * n), progForm w c.sup with
        | some a, _ => s.cmdUe key a
        | none, some (st, i) => s.progRefused key { j with cmd := some { c with words := w }, bn := { j.bn with idx := i } } st
        | none, none => s.placeIn key { j with cmd := some { c with words := w } } .bignum j.region)

/-! ### Aborts (R236) -/

/-- BN_ABORT (R236): the operand memory of a discarded running job is overwritten and cleared, the unit is idle. -/
def execBnAbort (key : Nat) (s : State) : Host.Outcome State Fault Refusal :=
  match s.job key with
  | none => .next s
  | some j => match j.unit with
    | none => .next s
    | some _ =>
      when (decide (j.st = .running) && j.orphan && decide (j.utype = .bignum)) s
        (((s.dropJob key).leaveUnit key j).noteAbort j)

/-- Discard a core's outstanding commands (R271): a bignum program that runs ends by its abort (R236). -/
def State.discardCmds (s : State) (c : Nat) : State :=
  let s := s.each (s.core c).cmds (fun t k => match t.job k with
    | some j => if j.st = .running ∧ j.utype = .bignum then t.setJob k { j with orphan := true } else t.discard k
    | none => t)
  s.modCore c (fun x => { x with cmds := [] })

/-- A read of BN.REFUSE (Table 7-6), past the page's gate: host and supervisor cores of the region read and clear it; any
other read gives zero and sets PG_ERR.GATE. -/
def State.readRefuse (s : State) (r : Who) (u : Nat) : State × Word :=
  let p := P.bn u
  let okay := match r.req with
    | .host => true
    | .core c => r.sup && decide (c / 16 = u / 4)
    | .debug => false
  if okay then (s.setReg p R.BN_REFUSE 0, s.reg p R.BN_REFUSE) else (s.pgErr p ERR.gate r.req R.BN_REFUSE, 0)

end Sys2Proof.Machine
end

