-- ==== Sys2Proof/Machine/Lattice.lean ====
section
/-! DEFINITION. ML-KEM (FIPS 203) and ML-DSA (FIPS 204) over octet strings: what the lattice opcodes compute (R290, R291,
log entry 8). A polynomial is its 256 coefficients in order, each in 0 to q − 1 (R277). -/
namespace Sys2Proof.Machine

/-! ### Transforms -/

/-- ζ^e mod q. -/
def zpow (q z : Nat) : Nat → Nat
  | 0 => 1
  | e + 1 => zpow q z e * z % q

/-- The low `n` bits of `i` reversed. -/
def bitRev : Nat → Nat → Nat
  | 0, _ => 0
  | n + 1, i => i % 2 * 2 ^ n + bitRev n (i / 2)

/-- The forward transform: `d` layers from block `i`, twiddles ζ^br(i) (FIPS 203 algorithm 9, FIPS 204 algorithm 41). -/
def ntt (q z br : Nat) : Nat → Nat → List Nat → List Nat
  | 0, _, l => l
  | d + 1, i, l =>
    let h := l.length / 2
    let lo := l.take h
    let w := zpow q z (bitRev br i)
    let t := (l.drop h).map (fun x => x * w % q)
    ntt q z br d (2 * i) (List.zipWith (fun a b => (a + b) % q) lo t) ++
      ntt q z br d (2 * i + 1) (List.zipWith (fun a b => (a + (q - b)) % q) lo t)

/-- The inverse of the forward transform but for the factor 2^layers; ζ has order `ord`. -/
def nttInv (q z br ord : Nat) : Nat → Nat → List Nat → List Nat
  | 0, _, l => l
  | d + 1, i, l =>
    let h := l.length / 2
    let a := nttInv q z br ord d (2 * i) (l.take h)
    let b := nttInv q z br ord d (2 * i + 1) (l.drop h)
    let w := zpow q z (ord - bitRev br i)
    List.zipWith (fun x y => (x + y) % q) a b ++ List.zipWith (fun x y => (x + (q - y)) * w % q) a b

/-! ### Lane-scaled form (R278 to R280) -/

/-- How a transform lies on the lanes (Table 9-1). -/
structure LaneForm where
  /-- q -/
  q : Nat
  /-- ζ -/
  z : Nat
  /-- the order of ζ -/
  ord : Nat
  /-- bits of a twiddle's exponent -/
  br : Nat
  /-- elements of a vector -/
  els : Nat

/-- ML-KEM: 16 lanes, positions of lane bits 3, 2 and 1. -/
def kemLanes : LaneForm := ⟨3329, 17, 256, 7, 16⟩
/-- ML-DSA: 8 elements, positions of element bits 2, 1 and 0. -/
def dsaLanes : LaneForm := ⟨8380417, 1753, 512, 8, 8⟩

/-- The position bits (h, m, l) of an element, as a number of three bits (R279). -/
def LaneForm.pos (f : LaneForm) (i : Nat) : Nat := i * 8 / f.els % 8

/-- κ(j), or its inverse. -/
def LaneForm.kappa (f : LaneForm) (j : Nat) (inv : Bool) : Nat :=
  let e := f.ord / 8 * bitRev 2 j
  zpow f.q f.z (if inv then f.ord - e else e)

/-- An element of W_A (0), W_B (1) or W_C (2) at an element of a vector (Table 9-2). -/
def LaneForm.twiddle (f : LaneForm) (n i : Nat) : Nat :=
  let p := f.pos i
  let (own, j) := if n = 0 then (p / 4 % 2, 0) else if n = 1 then (p / 2 % 2, p / 4 % 2) else (p % 2, p / 4 % 2 * 2 + p / 2 % 2)
  if own = 0 then f.kappa j false else f.q - f.kappa j true

/-- σ at an element (Table 9-2). -/
def LaneForm.sigma (f : LaneForm) (i : Nat) : Nat :=
  let p := f.pos i
  let t (n bit : Nat) : Nat := if p / bit % 2 = 1 then f.twiddle n i else 1
  t 0 4 * t 1 2 % f.q * t 2 1 % f.q

/-- S_v at an element (Table 9-2). -/
def LaneForm.scale (f : LaneForm) (v i : Nat) : Nat :=
  let p := f.pos i
  let n := 256 / f.els
  let t (k bit : Nat) : Nat := if p / bit % 2 = 1 then zpow f.q f.z (bitRev f.br (k * (n + v))) else 1
  t 1 4 * t 2 2 % f.q * t 4 1 % f.q

/-- The partner of an element in the within-vector layer `n` (R280). -/
def LaneForm.partner (f : LaneForm) (n i : Nat) : Nat := i ^^^ (f.els / 2 ^ (n + 1))

/-- A twiddle as it is stored: its residue is the twiddle, its low bits name the partner (R280). -/
def LaneForm.stored (f : LaneForm) (n i : Nat) : Nat :=
  let w := f.twiddle n i
  w + (((f.partner n i : Int) - w) % f.els).toNat * f.q

/-- A transformed polynomial in lane-scaled form (R278). -/
def LaneForm.scaled (f : LaneForm) (l : List Nat) : List Nat := l.mapIdx (fun c x => f.sigma (c % f.els) * x % f.q)

/-- Sum of polynomials. -/
def polyAdd (q : Nat) (a b : List Nat) : List Nat := List.zipWith (fun x y => (x + y) % q) a b
/-- Difference of polynomials. -/
def polySub (q : Nat) (a b : List Nat) : List Nat := List.zipWith (fun x y => (x + (q - y % q)) % q) a b
/-- The zero polynomial. -/
def poly0 : List Nat := List.replicate 256 0

/-- The bits of octets, least significant first. -/
def bitsOf (l : List Octet) : List Nat := (l.map (fun o => (List.range 8).map (fun i => o.toNat / 2 ^ i % 2))).flatten

/-- A list of numbers packed in `d` bits each, least significant first (ByteEncode, SimpleBitPack). -/
def packD (d : Nat) (l : List Nat) : List Octet :=
  leOctets (l.length * d / 8) (l.foldr (fun x a => x % 2 ^ d + 2 ^ d * a) 0)

/-- `n` numbers of `d` bits each (ByteDecode, SimpleBitUnpack). -/
def unpackD (d n : Nat) (l : List Octet) : List Nat :=
  let v := leNat l
  (List.range n).map (fun i => v / 2 ^ (d * i) % 2 ^ d)

/-- SHAKE128 and SHAKE256. -/
def shake128 (l : List Octet) (n : Nat) : List Octet := digest 8 l n
/-- SHAKE256. -/
def shake256 (l : List Octet) (n : Nat) : List Octet := digest 9 l n

/-- The absorbed state of a SHAKE input, ready to squeeze. -/
def shakeState (alg : Nat) (l : List Octet) : List Octet :=
  algAbsorb alg (algInit alg) (l ++ keccakPad (algBlock alg) 0x1F l.length)

/-- Sample from successive squeezed blocks until 256 values are accepted; `f` gives a block's accepted values. -/
def sampleBlocks (alg n : Nat) (f : List Octet → List Nat) : Nat → List Octet → List Nat → List Nat
  | 0, _, acc => (acc ++ List.replicate n 0).take n
  | k + 1, st, acc =>
    let acc := acc ++ f (st.take (algBlock alg))
    if n ≤ acc.length then acc.take n else sampleBlocks alg n f k (lanesOut (keccakF (lanesOf st))) acc

/-- An octet of a list as a number. -/
def oc (l : List Octet) (i : Nat) : Nat := (l.getD i 0).toNat

/-! ### ML-KEM -/

/-- A parameter set of ML-KEM. -/
structure KemSet where
  /-- k -/
  k : Nat
  /-- η1 -/
  eta1 : Nat
  /-- d_u -/
  du : Nat
  /-- d_v -/
  dv : Nat

/-- ML-KEM-512, -768, -1024. -/
def kemSet (n : Nat) : KemSet := if n = 0 then ⟨2, 3, 10, 4⟩ else if n = 1 then ⟨3, 2, 10, 4⟩ else ⟨4, 2, 11, 5⟩

/-- q of ML-KEM. -/
def kq : Nat := 3329

/-- NTT of FIPS 203. -/
def kNtt (l : List Nat) : List Nat := ntt kq 17 7 7 1 l
/-- Its inverse, with the factor 3303. -/
def kInv (l : List Nat) : List Nat := (nttInv kq 17 7 256 7 1 l).map (fun x => x * 3303 % kq)

/-- Products of coefficient pairs modulo X² − ζ^(2·br7(i)+1). -/
def kMulF : Nat → List Nat → List Nat → List Nat
  | i, a0 :: a1 :: ar, b0 :: b1 :: br =>
    let g := zpow kq 17 (2 * bitRev 7 i + 1)
    (a0 * b0 + a1 * b1 % kq * g) % kq :: (a0 * b1 + a1 * b0) % kq :: kMulF (i + 1) ar br
  | _, _, _ => []

/-- The product of two transformed polynomials. -/
def kMul (a b : List Nat) : List Nat := kMulF 0 a b

/-- Sum of products over two vectors. -/
def kDot (a b : List (List Nat)) : List Nat := (List.zipWith kMul a b).foldl (polyAdd kq) poly0

/-- The accepted coefficients of a block of SampleNTT. -/
def kAccept : List Octet → List Nat
  | a :: b :: c :: r =>
    let d1 := a.toNat + 256 * (b.toNat % 16)
    let d2 := b.toNat / 16 + 16 * c.toNat
    (if d1 < kq then [d1] else []) ++ (if d2 < kq then [d2] else []) ++ kAccept r
  | _ => []

/-- SampleNTT. -/
def sampleNtt (seed : List Octet) : List Nat := sampleBlocks 8 256 kAccept 280 (shakeState 8 seed) []

/-- Sums of runs of `e` bits. -/
def runSum (b : List Nat) (i e : Nat) : Nat := ((b.drop i).take e).foldl (· + ·) 0

/-- SamplePolyCBD. -/
def cbd (e : Nat) (l : List Octet) : List Nat :=
  let b := bitsOf l
  (List.range 256).map (fun i => (runSum b (2 * i * e) e + (kq - runSum b (2 * i * e + e) e)) % kq)

/-- PRF and CBD. -/
def kNoise (e : Nat) (s : List Octet) (n : Nat) : List Nat := cbd e (shake256 (s ++ [BitVec.ofNat 8 n]) (64 * e))

/-- Compress. -/
def kCompress (d x : Nat) : Nat := (2 ^ (d + 1) * x + kq) / (2 * kq) % 2 ^ d
/-- Decompress. -/
def kDecompress (d y : Nat) : Nat := (2 * kq * y + 2 ^ d) / 2 ^ (d + 1)

/-- The matrix Â, row i column j from ρ ‖ j ‖ i. -/
def kMatrix (k : Nat) (rho : List Octet) : List (List (List Nat)) :=
  (List.range k).map (fun i => (List.range k).map (fun j => sampleNtt (rho ++ [BitVec.ofNat 8 j, BitVec.ofNat 8 i])))

/-- Column `j` of a matrix. -/
def column (m : List (List (List Nat))) (j : Nat) : List (List Nat) := m.map (fun r => r.getD j poly0)

/-- Cut a string into `n` pieces of `l` octets. -/
def pieces (n l : Nat) (s : List Octet) : List (List Octet) := (List.range n).map (fun i => sliceOct s (i * l) l)

/-- K-PKE.KeyGen: ek and ŝ encoded. -/
def kpkeKeyGen (p : KemSet) (d : List Octet) : List Octet × List Octet :=
  let g := digest 7 (d ++ [BitVec.ofNat 8 p.k]) 64
  let rho := g.take 32
  let sg := g.drop 32
  let a := kMatrix p.k rho
  let s := (List.range p.k).map (fun i => kNtt (kNoise p.eta1 sg i))
  let e := (List.range p.k).map (fun i => kNtt (kNoise p.eta1 sg (p.k + i)))
  let t := List.zipWith (fun row ei => polyAdd kq (kDot row s) ei) a e
  ((t.map (packD 12)).flatten ++ rho, (s.map (packD 12)).flatten)

/-- K-PKE.Encrypt. -/
def kpkeEncrypt (p : KemSet) (ek m r : List Octet) : List Octet :=
  let t := (pieces p.k 384 ek).map (unpackD 12 256)
  let a := kMatrix p.k (ek.drop (384 * p.k))
  let y := (List.range p.k).map (fun i => kNtt (kNoise p.eta1 r i))
  let u := (List.range p.k).map (fun i => polyAdd kq (kInv (kDot (column a i) y)) (kNoise 2 r (p.k + i)))
  let mu := (bitsOf m).map (kDecompress 1)
  let v := polyAdd kq (polyAdd kq (kInv (kDot t y)) (kNoise 2 r (2 * p.k))) mu
  (u.map (fun x => packD p.du (x.map (kCompress p.du)))).flatten ++ packD p.dv (v.map (kCompress p.dv))

/-- K-PKE.Decrypt. -/
def kpkeDecrypt (p : KemSet) (dk c : List Octet) : List Octet :=
  let u := (pieces p.k (32 * p.du) c).map (fun x => (unpackD p.du 256 x).map (kDecompress p.du))
  let v := (unpackD p.dv 256 (c.drop (32 * p.du * p.k))).map (kDecompress p.dv)
  let s := (pieces p.k 384 dk).map (unpackD 12 256)
  packD 1 ((polySub kq v (kInv (kDot s (u.map kNtt)))).map (kCompress 1))

/-- The length of an encapsulation key. -/
def KemSet.ekLen (p : KemSet) : Nat := 384 * p.k + 32
/-- The length of a ciphertext. -/
def KemSet.ctLen (p : KemSet) : Nat := 32 * (p.du * p.k + p.dv)

/-- The modulus check of an encapsulation key. -/
def ekOk (p : KemSet) (ek : List Octet) : Bool := ((pieces p.k 384 ek).map (unpackD 12 256)).all (fun l => l.all (fun x => decide (x < kq)))

/-- ML-KEM.Encaps with randomness m: K and the ciphertext. PRESUMED, log entry 8. -/
def kemEncaps (p : KemSet) (ek m : List Octet) : List Octet × List Octet :=
  let g := digest 7 (m ++ sha3_256 ek) 64
  (g.take 32, kpkeEncrypt p ek m (g.drop 32))

/-- ML-KEM.Decaps from the seeds d and z. PRESUMED, log entry 8. -/
def kemDecaps (p : KemSet) (d z c : List Octet) : List Octet :=
  let (ek, dk) := kpkeKeyGen p d
  let m := kpkeDecrypt p dk c
  let g := digest 7 (m ++ sha3_256 ek) 64
  if kpkeEncrypt p ek m (g.drop 32) = c then g.take 32 else shake256 (z ++ c) 32

/-! ### ML-DSA -/

/-- A parameter set of ML-DSA. -/
structure DsaSet where
  /-- k -/
  k : Nat
  /-- ℓ -/
  l : Nat
  /-- τ -/
  tau : Nat
  /-- λ/4, octets of c̃ -/
  ct : Nat
  /-- γ1 -/
  g1 : Nat
  /-- γ2 -/
  g2 : Nat
  /-- η -/
  eta : Nat
  /-- ω -/
  om : Nat
  /-- bits of a packed z coefficient -/
  zb : Nat
  /-- bits of a packed w1 coefficient -/
  wb : Nat

/-- ML-DSA-44, -65, -87. -/
def dsaSet (n : Nat) : DsaSet :=
  if n = 0 then ⟨4, 4, 39, 32, 131072, 95232, 2, 80, 18, 6⟩
  else if n = 1 then ⟨6, 5, 49, 48, 524288, 261888, 4, 55, 20, 4⟩
  else ⟨8, 7, 60, 64, 524288, 261888, 2, 75, 20, 4⟩

/-- q of ML-DSA. -/
def dq : Nat := 8380417

/-- β. -/
def DsaSet.beta (p : DsaSet) : Nat := p.tau * p.eta
/-- Octets of a public key. -/
def DsaSet.pkLen (p : DsaSet) : Nat := 32 + 320 * p.k
/-- Octets of a signature. -/
def DsaSet.sigLen (p : DsaSet) : Nat := p.ct + 32 * p.zb * p.l + p.om + p.k

/-- NTT of FIPS 204. -/
def dNtt (l : List Nat) : List Nat := ntt dq 1753 8 8 1 l
/-- Its inverse, with the factor 8347681. -/
def dInv (l : List Nat) : List Nat := (nttInv dq 1753 8 512 8 1 l).map (fun x => x * 8347681 % dq)

/-- Products of transformed coefficients. -/
def dMul (a b : List Nat) : List Nat := List.zipWith (fun x y => x * y % dq) a b
/-- Sum of products over two vectors. -/
def dDot (a b : List (List Nat)) : List Nat := (List.zipWith dMul a b).foldl (polyAdd dq) poly0

/-- Accepted coefficients of RejNTTPoly. -/
def dAccept : List Octet → List Nat
  | a :: b :: c :: r =>
    let v := a.toNat + 256 * b.toNat + 65536 * (c.toNat % 128)
    (if v < dq then [v] else []) ++ dAccept r
  | _ => []

/-- ExpandA. -/
def dMatrix (p : DsaSet) (rho : List Octet) : List (List (List Nat)) :=
  (List.range p.k).map (fun r => (List.range p.l).map (fun c =>
    sampleBlocks 8 256 dAccept 500 (shakeState 8 (rho ++ [BitVec.ofNat 8 c, BitVec.ofNat 8 r])) []))

/-- CoeffFromHalfByte. -/
def halfCoeff (eta b : Nat) : List Nat :=
  if eta = 2 then (if b < 15 then [(2 + dq - b % 5) % dq] else []) else (if b < 9 then [(4 + dq - b) % dq] else [])

/-- Accepted coefficients of RejBoundedPoly. -/
def boundAccept (eta : Nat) (l : List Octet) : List Nat :=
  (l.map (fun o => halfCoeff eta (o.toNat % 16) ++ halfCoeff eta (o.toNat / 16))).flatten

/-- RejBoundedPoly. -/
def boundPoly (eta : Nat) (seed : List Octet) : List Nat := sampleBlocks 9 256 (boundAccept eta) 500 (shakeState 9 seed) []

/-- A residue centred on zero, by its absolute value. -/
def absC (x : Nat) : Nat := if 2 * x < dq then x else dq - x

/-- The greatest absolute value of a vector's coefficients. -/
def normInf (v : List (List Nat)) : Nat := (v.flatten.map absC).foldl Nat.max 0

/-- Power2Round: t1 and t0. -/
def power2Round (r : Nat) : Nat × Nat :=
  let m := r % 8192
  if m ≤ 4096 then ((r - m) / 8192, m) else ((r + 8192 - m) / 8192, (dq + m - 8192) % dq)

/-- Decompose: r1 and r0 as a residue. -/
def decompose (g2 r : Nat) : Nat × Nat :=
  let m := r % (2 * g2)
  -- r − r0 and r0, centred
  let (hi, r0) := if m ≤ g2 then (r - m, m) else (r + 2 * g2 - m, (dq + m - 2 * g2) % dq)
  if hi = dq - 1 then (0, (r0 + dq - 1) % dq) else (hi / (2 * g2), r0)

/-- UseHint. -/
def useHint (g2 h r : Nat) : Nat :=
  let m := (dq - 1) / (2 * g2)
  let (r1, r0) := decompose g2 r
  if h = 0 then r1 else if r0 ≠ 0 ∧ 2 * r0 < dq then (r1 + 1) % m else (r1 + m - 1) % m

/-- SampleInBall's next index not above `i`, from the stream; the stream that is left. -/
def ballIndex (i : Nat) : List Octet → Nat × List Octet
  | [] => (0, [])
  | o :: r => if o.toNat ≤ i then (o.toNat, r) else ballIndex i r

/-- SampleInBall over the positions left. -/
def ballSteps : Nat → Nat → List Nat → List Octet → List Nat → List Nat
  | 0, _, _, _, c => c
  | n + 1, i, sg, st, c =>
    let (j, st) := ballIndex i st
    let c := (c.set i (c.getD j 0)).set j (if sg.headD 0 = 0 then 1 else dq - 1)
    ballSteps n (i + 1) (sg.drop 1) st c

/-- SampleInBall; the stream is long enough for 60 indices but with negligible chance. DEDUCED, log entry 45. -/
def sampleInBall (tau : Nat) (seed : List Octet) : List Nat :=
  let st := shake256 seed 1088
  ballSteps tau (256 - tau) (bitsOf (st.take 8)) (st.drop 8) poly0

/-- The keys of a seed (KeyGen_internal). -/
structure DsaKey where
  /-- ρ -/
  rho : List Octet
  /-- K -/
  kk : List Octet
  /-- tr -/
  tr : List Octet
  /-- s1 -/
  s1 : List (List Nat)
  /-- s2 -/
  s2 : List (List Nat)
  /-- t0 -/
  t0 : List (List Nat)
  /-- the public key -/
  pk : List Octet

/-- ML-DSA.KeyGen_internal. -/
def dsaKeyGen (p : DsaSet) (xi : List Octet) : DsaKey :=
  let h := shake256 (xi ++ [BitVec.ofNat 8 p.k, BitVec.ofNat 8 p.l]) 128
  let rho := h.take 32
  let rp := (h.drop 32).take 64
  let a := dMatrix p rho
  let s1 := (List.range p.l).map (fun r => boundPoly p.eta (rp ++ leOctets 2 r))
  let s2 := (List.range p.k).map (fun r => boundPoly p.eta (rp ++ leOctets 2 (r + p.l)))
  let sn := s1.map dNtt
  let t := List.zipWith (fun row e => (polyAdd dq (dInv (dDot row sn)) e).map power2Round) a s2
  let pk := rho ++ (t.map (fun x => packD 10 (x.map (fun y => y.1)))).flatten
  ⟨rho, h.drop 96, shake256 pk 64, s1, s2, t.map (fun x => x.map (fun y => y.2)), pk⟩

/-- w1Encode. -/
def w1Encode (p : DsaSet) (w : List (List Nat)) : List Octet := (w.map (packD p.wb)).flatten

/-- ExpandMask. -/
def expandMask (p : DsaSet) (seed : List Octet) (kappa : Nat) : List (List Nat) :=
  (List.range p.l).map (fun r =>
    (unpackD p.zb 256 (shake256 (seed ++ leOctets 2 (kappa + r)) (32 * p.zb))).map (fun x => (p.g1 + dq - x) % dq))

/-- HintBitPack. -/
def hintPack (p : DsaSet) (h : List (List Nat)) : List Octet :=
  let idx := h.map (fun l => ((List.range 256).filter (fun i => decide (l.getD i 0 ≠ 0))))
  let all := idx.flatten
  let ends := (List.range p.k).map (fun i => ((idx.take (i + 1)).flatten).length)
  (all ++ List.replicate (p.om - all.length) 0 ++ ends).map (BitVec.ofNat 8)

/-- The indices rise strictly. -/
def rising : List Nat → Bool
  | a :: b :: r => decide (a < b) && rising (b :: r)
  | _ => true

/-- HintBitUnpack; `none` for a malformed encoding. -/
def hintUnpack (p : DsaSet) (y : List Octet) : Option (List (List Nat)) :=
  let ends := (List.range p.k).map (fun i => oc y (p.om + i))
  let starts := 0 :: ends.dropLast
  let parts := List.zipWith (fun a b => ((y.take p.om).drop a).take (b - a)) starts ends
  let okEnds := (List.zipWith (fun a b => decide (a ≤ b) && decide (b ≤ p.om)) starts ends).all (fun b => b)
  let nums := parts.map (fun l => l.map (fun o => o.toNat))
  if okEnds ∧ nums.all rising = true ∧ ((y.take p.om).drop (ends.getLastD 0)).all (fun o => o == 0) = true then
    some (nums.map (fun l => (List.range 256).map (fun i => if l.contains i then 1 else 0)))
  else none

/-- One signing attempt at κ: the signature, or a rejection. -/
def dsaAttempt (p : DsaSet) (key : DsaKey) (a : List (List (List Nat))) (mu rpp : List Octet) (kappa : Nat) : Option (List Octet) :=
  let y := expandMask p rpp kappa
  let yn := y.map dNtt
  let w := a.map (fun row => dInv (dDot row yn))
  let w1 := w.map (fun x => x.map (fun c => (decompose p.g2 c).1))
  let ct := shake256 (mu ++ w1Encode p w1) p.ct
  let c := dNtt (sampleInBall p.tau ct)
  let byC (v : List (List Nat)) : List (List Nat) := v.map (fun x => dInv (dMul c (dNtt x)))
  let z := List.zipWith (polyAdd dq) y (byC key.s1)
  let r := List.zipWith (polySub dq) w (byC key.s2)
  let r0 := r.map (fun x => x.map (fun v => (decompose p.g2 v).2))
  if p.g1 - p.beta ≤ normInf z ∨ p.g2 - p.beta ≤ normInf r0 then none
  else
    let ct0 := byC key.t0
    let hint := List.zipWith (fun x t => List.zipWith (fun u v =>
      if (decompose p.g2 ((u + v) % dq)).1 = (decompose p.g2 u).1 then 0 else 1) x t) r ct0
    if p.g2 ≤ normInf ct0 ∨ p.om < hint.flatten.foldl (· + ·) 0 then none
    else some (ct ++ (z.map (fun x => packD p.zb (x.map (fun v => (p.g1 + dq - v) % dq)))).flatten ++ hintPack p hint)

/-- Up to `n` attempts (R291). -/
def dsaTry (p : DsaSet) (key : DsaKey) (a : List (List (List Nat))) (mu rpp : List Octet) : Nat → Nat → Option (List Octet)
  | 0, _ => none
  | n + 1, kappa => match dsaAttempt p key a mu rpp kappa with
    | some s => some s
    | none => dsaTry p key a mu rpp n (kappa + p.l)

/-- ML-DSA.Sign_internal from the seed ξ, giving up after 1,000 attempts (R291). PRESUMED, log entry 8. -/
def dsaSign (p : DsaSet) (xi m rnd : List Octet) : Option (List Octet) :=
  let key := dsaKeyGen p xi
  let mu := shake256 (key.tr ++ m) 64
  dsaTry p key (dMatrix p key.rho) mu (shake256 (key.kk ++ rnd ++ mu) 64) 1000 0

/-- ML-DSA.Verify_internal. PRESUMED, log entry 8. -/
def dsaVerify (p : DsaSet) (pk m sig : List Octet) : Bool :=
  let ct := sig.take p.ct
  let z := (pieces p.l (32 * p.zb) (sig.drop p.ct)).map (fun x => (unpackD p.zb 256 x).map (fun v => (p.g1 + dq - v) % dq))
  match hintUnpack p (sig.drop (p.ct + 32 * p.zb * p.l)) with
  | none => false
  | some h =>
    let rho := pk.take 32
    let t1 := (pieces p.k 320 (pk.drop 32)).map (unpackD 10 256)
    let mu := shake256 (shake256 pk 64 ++ m) 64
    let c := dNtt (sampleInBall p.tau ct)
    let zn := z.map dNtt
    let w := List.zipWith (fun row t => dInv (polySub dq (dDot row zn) (dMul c (dNtt (t.map (fun x => x * 8192 % dq))))))
      (dMatrix p rho) t1
    let w1 := List.zipWith (fun hx x => List.zipWith (useHint p.g2) hx x) h w
    decide (normInf z < p.g1 - p.beta) && ct == shake256 (mu ++ w1Encode p w1) p.ct

end Sys2Proof.Machine
end

