-- ==== Sys2Proof/Machine/Park.lean ====
section
/-! DEFINITION. Suspension and resumption of jobs: the choice of a victim (R101), safe points and saved state of cipher,
digest and bignum units (R184 to R188, R203 to R205, R231 to R235), resumption (R102). -/
namespace Sys2Proof.Machine

/-! ### Waiting jobs and victims (R101) -/

/-- A FETCHED job waits for a unit of a region: every check before placement passes, its credential is usable there, and
nothing but a free input slot is missing (R96, R97, R101, R104). -/
def State.waitsIn (s : State) (k : Nat) (j : Job) (rg : Nat) : Bool :=
  decide (j.st = .fetched) && s.canLeave k j && (s.sessionCheck k j).isNone && s.custodyReady k j && !j.isProg &&
    (s.gbAkaWait k j).isNone && (!needsStaging j.opcode || (s.freeStaging rg).isSome) &&
    (if j.cmd.isSome then decide (j.region = rg)
    else match s.credOf k j with
      | some h => handleOk h && s.usable (hPage h) (hEntry h) && decide ((s.frameOf (hPage h)).map (fun f => f / 256) = some rg)
      | none => match j.sess with
        | some n => decide (s.homeOf k j n = rg)
        | none => true)

/-- The waiting jobs for a type in a region. -/
def State.waiters (s : State) (t : UType) (rg : Nat) : List (Nat × Job) :=
  (s.jobs.filterMap (fun e => e.2.map (fun j => (e.1, j)))).filter
    (fun x => decide (x.2.utype = t) && s.waitsIn x.1 x.2 rg)

/-- The waiting job of highest class. -/
def State.waiter (s : State) (t : UType) (rg : Nat) : Option (Nat × Job) :=
  let l := s.waiters t rg
  let top := (l.map (fun x => x.2.cls)).foldl Nat.max 0
  l.find? (fun x => decide (x.2.cls = top))

/-- The running jobs of a type in a region, with their keys. -/
def State.running (s : State) (t : UType) (rg : Nat) : List (Nat × Job) :=
  ((unitPages t rg).filterMap s.runsOn).filterMap (fun k => (s.job k).map (fun j => (k, j)))

/-- LODE.CFG.PARK_LIMIT. -/
def State.parkLimit (s : State) : Nat := s.rfld P.lode R.LODE_CFG 8 4

/-- The job that waits makes a job of its unit type the victim (R101, R186): `can` says which running jobs can be parked.
DEDUCED, log entry 28. -/
def State.isVictim (s : State) (can : Nat → Job → Bool) (k : Nat) (j : Job) : Option (Nat × Job) :=
  let t := j.utype
  let rg := j.region
  let units := (unitPages t rg).filter s.candidate
  match s.waiter t rg with
  | none => none
  | some w =>
    let below := units.all (fun p => decide (4 ≤ (s.inQ p).length) && (match s.runsOn p with
      | some r => (match s.job r with | some x => decide (x.cls < w.2.cls) | none => false)
      | none => false))
    let cand := (s.running t rg).filter (fun x => decide (x.2.parks < s.parkLimit) && can x.1 x.2)
    let best := argMin (fun r => match s.job r with | some x => (x.cls, x.startNo, 0) | none => (4, 0, 0)) (cand.map (fun x => x.1))
    if s.rbit P.lode R.LODE_CFG 0 ∧ below = true ∧ best = some k then some w else none

/-! ### What can be parked -/

/-- A job that may save its state in host memory: PARKOUT (R187, R204). -/
def Job.parkOut (j : Job) : Bool := j.cmd.isNone && !j.gb && hasChain j.opcode && tb j.oparg 7

/-- The first free park record of a region (R186, R203). -/
def State.freeRecord (s : State) (j : Job) : Option Nat :=
  firstFree 256 (j.region * 256) (if j.utype = .digest then s.units.digestRecs else s.units.cipherRecs)

/-- Where the state of a job goes at a safe point: MODE and index (R186, R187, R204, R234). DEDUCED, log entry 28. -/
def State.parkPlace (s : State) (j : Job) (done : Nat) : Option (Nat × Nat) :=
  match j.utype with
  | .bignum => (s.bnArea j done).map (fun c => (1, 64 * c))
  | .digest =>
    if j.parkOut && (!j.isKeyed || s.canWrap j.region) then some (3, 0) else (s.freeRecord j).map (fun i => (1, i))
  | .cipher => if j.parkOut && s.canWrap j.region then some (3, 0) else (s.freeRecord j).map (fun i => (1, i))
  | _ => none

/-- The algorithm of a digest job. -/
def Job.digestAlg (j : Job) : Nat := match j.cmd with | some c => (dcmdOf c.words).alg | none => j.opcode - 0o140

/-- How many of a job's blocks can have been processed with the data that has come: header data in full before the first
payload octet (R173). -/
def Job.blocksHere (j : Job) : Nat :=
  if j.gb then (if j.dataHere 1 then j.payCount else ((j.data 1).length - (if j.gbIv then 16 else 0)) / 16)
  else if j.hdrCount ≠ 0 ∧ !j.dataHere 3 then (j.hdrPrefix + (j.data 3).length) / 16
  else j.hdrCount + (if j.dataHere (payCell j.opcode) then j.payCount else (j.data (payCell j.opcode)).length / 16)

/-- HCOUNT after `n` blocks: octets of header data, without CCM's prefix and padding (Table 5-5). -/
def Job.hcount (j : Job) (n : Nat) : Nat := min j.hdrLen (16 * n - j.hdrPrefix)

/-- State words and partial output of a cipher command after `n` blocks, and how many blocks it has; `none` where it has not
passed its checks. -/
def State.cipherCmdAt (s : State) (j : Job) (c : Cmd) (n : Nat) : Option (List Word × List Octet × Nat) :=
  let d := ccmdOf c.words
  match s.ccmdKey j c d, d.data (s.rangeWords c.who d.src ((d.len + 1) / 2)) (s.rangeWords c.who d.iva 8) with
  | .ok ck, some (m, v) =>
    if !d.ok || decide (j.granted ≠ some true) then none
    else
      let (st, o) := stepsAll d.op 0 (aesSchedule ck.key) ⟨v, zeros 16, 0, 0⟩ [] ((chunks 16 m).take n) j.saved j.parkDone
      some (stateWords d.op 0 1 ck st, o, d.blocks)
  | _, _ => none

/-- State words and partial output of a cipher job after `n` blocks, and how many blocks it has; `none` where it has not
passed its checks or the data of those blocks has not come. -/
def State.cipherAt (s : State) (k : Nat) (j : Job) (n : Nat) : Option (List Word × List Octet × Nat) :=
  match j.cmd with
  | some c => s.cipherCmdAt j c n
  | none =>
    match s.cipherKey k j with
    | .error _ => none
    | .ok ck =>
      let ks := aesSchedule ck.key
      let total := j.hdrCount + j.payCount
      if j.blocksHere < n then none
      else if j.gb then
        let d := j.data 1
        if j.gbBad || !j.gated [] || (j.gbIv && decide (d.length < 16)) then none
        else
          let (st, o) := stepsAll j.opcode 0 ks ⟨if j.gbIv then d.take 16 else zeros 16, zeros 16, 0, 0⟩ []
            ((chunks 16 (if j.gbIv then d.drop 16 else d)).take n) j.saved j.parkDone
          some (stateWords j.opcode 0 1 ck st, (if j.gbIv then d.take 16 else []) ++ o, total)
      else if (s.cipherForm k j).isSome || j.cipherLimits.isSome || !j.gated j.cipherNeed then none
      else
        let hb := hdrBlocks j.opcode (sliceOct (j.data 3) 0 j.hdrLen)
        let st0 := s.cStart k j ks
        let (st, o) := stepsAll j.opcode j.nLen ks st0 (hb.take n)
          ((chunks 16 (j.data (payCell j.opcode))).take (n - hb.length)) j.saved j.parkDone
        some (stateWords j.opcode (bits j.oparg 11 8) (if n < hb.length then 0 else 1) ck { st with hc := st0.hc + j.hcount n },
          o, total)

/-- The record of a digest job's work at step `n`, the output so far, and how many steps there are. GB_HMAC has one more,
its outer block: its record then holds the inner state with PHASE 1. DEDUCED, log entry 43. -/
def Job.workRecord (j : Job) (w : DWork) (keyed : Bool) (outlen kref extra n : Nat) : List Word × List Octet × Nat :=
  let x := j.workAt w
  (recordWords w.alg keyed (if 0 < extra ∧ n = w.blocks then 1 else 0) outlen kref ⟨w.go x.1 x.2.1 n, w.count n⟩,
    x.2.2 ++ w.squeezed x.1 x.2.1 n, w.steps + extra)

/-- The record of a digest command at step `n`; `none` where it has not passed its checks. -/
def State.digestCmdAt (s : State) (j : Job) (c : Cmd) (n : Nat) : Option (List Word × List Octet × Nat) :=
  let d := dcmdOf c.words
  if !d.ok || decide (d.alg = 10) || decide (j.granted ≠ some true) then none
  else match s.prefixBlock j d, unpackWords (s.rangeWords c.who d.src ((d.len + 1) / 2)), s.cmdStart j c d (s.rangeWords c.who d.state 116) with
    | .ok pre, some m, .ok (x, kref) =>
      if m.length ≠ d.len then none else some (j.workRecord (d.work x kref pre m) d.keyed d.outlen kref 0 n)
    | _, _, _ => none

/-- The record of a digest job or command at step `n`, its output so far, and how many steps it has; `none` where it has not
passed its checks or the data of those steps has not come. -/
def State.digestAt (s : State) (k : Nat) (j : Job) (n : Nat) : Option (List Word × List Octet × Nat) :=
  match j.cmd with
  | some c => s.digestCmdAt j c n
  | none =>
    let here (alg : Nat) : Bool := j.dataHere 1 || decide (n ≤ (j.data 1).length / algBlock alg)
    if j.opcode = 0o162 then
      match s.hmacKeyOf k j with
      | .ok (alg, key) =>
        let r := match j.sess with | some y => bits (ctxKeyref (s.sessView k j y) 0) 24 0 | none => 0
        if j.oparg ≠ 0 ∨ !j.gated [] ∨ !here alg then none else some (j.workRecord (j.gbWork alg key) true 0 r 1 n)
      | .error _ => none
    else
      let alg := j.opcode - 0o140
      if (s.digestForm k j alg).isSome || !j.gated j.digestNeed || (j.cont && !j.gb && !j.dataHere 2) || !here alg then none
      else (j.digestStart alg).map (fun d => j.workRecord (j.digestWork alg d) j.keyed j.outLen 0 0 n)

/-- A job has safe points before its end on its unit (R184, R203, R231); KECCAK_P has none. -/
def State.hasSafePoint (s : State) (p : Nat) (j : Job) : Bool :=
  match j.utype with
  | .cipher => s.rbit p R.CIPH_CFG 0 && (j.cmd.isSome || !(isWrapOp j.opcode || j.opcode == 0o060 || j.opcode == 0o061))
  | .digest => s.rbit p R.DIG_CFG 0 && (match j.cmd with | some c => decide ((dcmdOf c.words).alg ≠ 10) | none => true)
  | .bignum => !s.bnExclusive p j
  | _ => false

/-- A running job that can be parked at all. DEDUCED, log entry 28. -/
def State.parkable (s : State) (_k : Nat) (j : Job) : Bool :=
  decide (j.st = .running) && !j.orphan && (match j.unit with | some p => s.hasSafePoint p j | none => false) &&
    (s.parkPlace j j.parkDone).isSome

/-! ### Parking -/

/-- The registers that show a save: CTX_SAVE, PARKS. -/
def State.noteSave (s : State) (p mode idx : Nat) : State :=
  let v := wd (idx * 1024 + mode)
  let s := match blockOf p with
    | some (.ciph, _) => (s.setReg p R.CIPH_CTX_SAVE v).inc36 p R.CIPH_PARKS
    | some (.dig, _) => (s.setReg p R.DIG_CTX_SAVE v).inc36 p R.DIG_PARKS
    | _ => s.inc36 p R.BN_PARKS
  s.event p 3

/-- Take a job off its unit as PARKED with its state at a place (R101, R184). DEDUCED, log entry 29. -/
def State.toParked (s : State) (k : Nat) (j : Job) (p mode idx done : Nat) : State :=
  let s := (s.noteSave p mode idx).setRuns p none
  let s := s.setJob k { j with st := .parked, unit := none, parks := j.parks + 1, parkMode := mode, parkIdx := idx,
                               parkDone := done, savedBy := some p, saved := [], pair := none }
  if j.parks + 1 = s.parkLimit then s.event P.lode 1 else s

/-- Save a cipher job's state: a park record, or a wrapped record in host memory (R186, R187). DEDUCED, log entry 29. -/
def State.saveCipher (s : State) (j : Job) (mode idx : Nat) (ws : List Word) : State :=
  if mode = 3 then
    let (w, s) := s.wrapRecord j j.region 0o521 (j.parks + 1) ivCipher ws
    s.toBuffer j (operandCells j.gb j.opcode j.oparg) (wordStream w)
  else
    { s.setWords (cipherRecAddr j.region idx) ws with
      units := { s.units with cipherRecs := add1 s.units.cipherRecs (j.region * 256 + idx) } }

/-- Save a digest job's state: a park record, or a clear or wrapped record in host memory (R203, R204).
DEDUCED, log entry 29. -/
def State.saveDigest (s : State) (j : Job) (mode idx : Nat) (ws : List Word) : State :=
  if mode = 3 then
    if j.isKeyed then
      let (w, s) := s.wrapRecord j j.region 0o523 (j.parks + 1) ivDigest ws
      s.toBuffer j (operandCells j.gb j.opcode j.oparg) (wordStream w)
    else s.toBuffer j (operandCells j.gb j.opcode j.oparg) (wordStream ws)
  else
    { s.setWords (digestRecAddr j.region idx) ws with
      units := { s.units with digestRecs := add1 s.units.digestRecs (j.region * 256 + idx) } }

/-- What a job has produced so far: its output where its mode releases it block by block, else its staging buffer (R176). -/
def State.partOut (s : State) (j : Job) (o : List Octet) : State :=
  match j.cmd with
  | some c => let d := ccmdOf c.words
    if d.mode = 5 ∨ o.isEmpty then s else s.putRange c.who d.dest (packWords o)
  | none => if o.isEmpty then s
    else if needsStaging j.opcode then
      (match j.staging with | some b => s.setWords (stagingAddr j.region b) (packWords o) | none => s)
    else if j.gb then s.toBuffer j 1 o
    else if outCell j.opcode = 0 then s else s.toBuffer j (outCell j.opcode) o

/-- A running bignum job has come to boundary `i`, a yield point before its end: no check has refused what it runs, and a
queue job's data is here (R226, R232). -/
def State.bnAt (s : State) (_k : Nat) (j : Job) (i : Nat) : Bool :=
  let span := j.bnSpan
  j.yieldPoint i && decide (j.parkDone ≤ i) && decide (i < (span.map BnCmd.bounds).foldl (· + ·) 0) &&
    (decide (i = 0) || (match j.cmd with
      | some _ => span.all (fun x => (j.bn.refused x).isNone)
      | none => j.bnLimits && j.gated j.bnOut && j.ins.all j.dataHere &&
          (match bnResult j.opcode j.bnNums with | .ok _ => true | .error _ => false)))

/-- The blocks a cipher job or command has put through the forward datapath when it parks after `n` of its blocks. -/
def Job.parkBlocks (j : Job) (n : Nat) : Nat := if j.cmd.isSome then n - j.parkDone else j.stretch j.parkDone n

/-- Key blocks a GB_HMAC job has computed since it started or resumed. -/
def Job.startBlocks (j : Job) : Nat := if j.cmd.isNone ∧ j.opcode = 0o162 then j.keyBlocks else 0

/-- Park a running job after `done` blocks, where it can be parked there. DEDUCED, log entry 29. -/
def State.park (s : State) (k : Nat) (j : Job) (done : Nat) : Option State :=
  match j.unit, s.parkPlace j done with
  | some p, some (mode, idx) =>
    (match j.utype with
    | .cipher =>
      (match s.cipherAt k j done with
      | some (ws, o, total) => if done < total ∧ j.parkDone ≤ done then
          some ((((s.countBlocks j R.CIPH_BLOCKS (j.parkBlocks done)).partOut j o).saveCipher j mode idx ws).toParked
            k j p mode idx done) else none
      | none => none)
    | .digest =>
      (match s.digestAt k j done with
      | some (ws, o, total) => if done < total ∧ j.parkDone ≤ done then
          some (((s.countBlocks j R.DIG_BLOCKS (j.startBlocks + (done - j.parkDone))).saveDigest j mode idx ws).toParked
            k { j with result := o } p mode idx done) else none
      | none => none)
    | .bignum => if s.bnAt k j done then
        some ((s.countBlocks j R.BN_MULS (boundMuls j.bnSpan done - boundMuls j.bnSpan j.parkDone)).toParked k j p mode idx done)
      else none
    | _ => none)
  | _, _ => none

/-- The unit is shutting down, so its running job parks at the next safe point (R191). DEDUCED, log entry 29. -/
def State.shutPark (s : State) (j : Job) : Bool :=
  match j.unit with | some p => s.stat p ST.stopping | none => false

/-- The waiting job is placed on the unit its victim left, and starts there (R101). -/
def State.placeOn (s : State) (w : Nat × Job) (p rg : Nat) : State :=
  s.startJob p w.1 { w.2 with st := .dispatched, unit := some p, region := rg, waitPage := none, waitUnit := false }

/-- JOB_PARK (R101, R184, R191, R203, R232): the job is the victim of a waiting job of higher class, or its unit shuts
down; it has completed `done` blocks. -/
def execJobPark (key done : Nat) (s : State) : Host.Outcome State Fault Refusal :=
  match s.job key with
  | none => .next s
  | some j => match j.unit with
    | none => .next s
    | some p =>
      if !s.parkable key j then .next s
      else if s.shutPark j then .next ((s.park key j done).getD s)
      else match s.isVictim s.parkable key j with
        | none => .next s
        | some w => match s.park key j done with
          | none => .next s
          | some t => .next ((t.inc36 P.lode R.LODE_PREEMPTS).placeOn w p j.region)

/-! ### Yielding (R233) -/

/-- The job a running bignum job yields to: the shortest of equal or higher class that is shorter than what is left.
DEDUCED, log entry 44. -/
def State.yieldTo (s : State) (p : Nat) (j : Job) (i : Nat) : Option Nat :=
  argMin (fun k => match s.job k with | some x => (x.bnLeft x.parkDone, 0, 0) | none => (0, 0, 0))
    ((s.inQ p).filter (fun k => match s.job k with
      | some x => decide (j.cls ≤ x.cls) && decide (x.bnLeft x.parkDone < j.bnLeft i)
      | none => false))

/-- BN_YIELD (R233): at boundary `done`, a yield point, the running job parks for a shorter job, which starts.
DEDUCED, log entry 44. -/
def execBnYield (unit done : Nat) (s : State) : Host.Outcome State Fault Refusal :=
  let p := P.bn unit
  match s.runsOn p with
  | none => .next s
  | some k => match s.job k with
    | none => .next s
    | some j => match s.yieldTo p j done, s.park k j done with
      | some k', some t =>
        (match s.job k' with
        | some j' => when (s.parkable k j && decide (j.utype = .bignum) && decide (j.parks < s.parkLimit)) s (t.startJob p k' j')
        | none => .next s)
      | _, _ => .next s

/-! ### Resumption (R102, R188, R205) -/

/-- What ends a parked job whose key is refused at resumption (R188): NOT_READY where PEAT serves no request (R549), else
STALE_HANDLE. -/
def keyStop {α : Type} (r : Except Nat α) : Option Nat :=
  match r with
  | .ok _ => none
  | .error st => some (if st = S.notReady then st else S.staleHandle)

/-- The key check of a resuming job (R188); a digest or bignum job without a key has none. -/
def State.resumeKey (s : State) (k : Nat) (j : Job) : Option Nat :=
  match j.utype with
  | .cipher => (match j.cmd with
    | some c => keyStop (s.ccmdKey j c (ccmdOf c.words))
    | none => keyStop (s.cipherKey k j))
  | .digest => (match j.cmd with
    | some c => keyStop (s.prefixBlock j (dcmdOf c.words))
    | none => if j.opcode = 0o162 then keyStop (s.hmacKeyOf k j) else none)
  | _ => none

/-- The state words a resuming job reads: its park record, or what host memory gives; `none` where that is refused.
DEDUCED, log entry 29. -/
def State.savedWords (s : State) (j : Job) (rec : List Octet) : Option (List Word) :=
  match j.utype with
  | .cipher =>
    if j.parkMode = 3 then s.openRecord j j.region 0o521 j.parks ivCipher 24 (streamWords 32 (sliceOct rec 0 72))
    else some (s.words (cipherRecAddr j.region j.parkIdx) 24)
  | .digest =>
    if j.parkMode = 3 then
      if j.isKeyed then s.openRecord j j.region 0o523 j.parks ivDigest 108 (streamWords 116 (sliceOct rec 0 261))
      else
        let w := streamWords 108 (sliceOct rec 0 243)
        if (recordState w (clearCtl j.digestAlg)).isSome then some w else none
    else some (s.words (digestRecAddr j.region j.parkIdx) 108)
  | _ => some []

/-- A lost word of the record a resuming job reads from cluster SRAM. DESIGN CHOICE, log entry 90. -/
def State.recStruck (s : State) (j : Job) : Option Nat :=
  if j.parkMode = 3 then none
  else match j.utype with
    | .cipher => s.struckIn (cipherRecAddr j.region j.parkIdx) 24
    | .digest => s.struckIn (digestRecAddr j.region j.parkIdx) 108
    | _ => none

/-- The first unit of a job's type in its region with a free input slot (R102). -/
def State.resumeUnit (s : State) (j : Job) : Option Nat :=
  (unitPages j.utype j.region).find? (fun p => s.candidate p && decide ((s.inQ p).length < 4))

/-- A parked job goes to a unit with the words it resumes with. DEDUCED, log entry 29. -/
def State.resumeOn (s : State) (k : Nat) (j : Job) (p : Nat) (ws : List Word) : State :=
  let s := s.setJob k { j with unit := some p, saved := ws }
  (s.setInQ p (s.inQ p ++ [k])).startNext p

/-- JOB_RESUME (R102, R188, R205, R235): the saved state is read, then the key requested again; `rec` is what host memory
holds for a job parked there, `err` a host error. -/
def execJobResume (key : Nat) (rec : List Octet) (err : Bool) (s : State) : Host.Outcome State Fault Refusal :=
  match s.job key with
  | none => .next s
  | some j =>
    if j.st ≠ .parked ∨ (match j.unit with | some p => s.serves p | none => false) = true then .next s
    else match s.resumeUnit j with
      | none => .next s
      | some p =>
        -- a job in the input queue of a unit that is no longer READY leaves it
        let s := match j.unit with | some q => s.setInQ q (drop1 (s.inQ q) key) | none => s
        let j := { j with unit := none }
        let stop (st : Nat) : State := (s.freeRec j).fail key { j with parkMode := 0 } st
        if j.parkMode = 3 ∧ err = true then .next (stop S.aborted)
        else if let some a := s.recStruck j then .next (s.memUe a)
        else match s.savedWords j rec with
          | none => .next (stop S.authFail)
          | some ws => match s.resumeKey key j with
            | some st => .next (stop st)
            | none => .next (s.resumeOn key j p ws)

end Sys2Proof.Machine
end

