-- ==== Sys2Proof/Machine/Composite.lean ====
section
/-! DEFINITION. Composite jobs as the resident firmware carries them out (R211, R274, R290, R291): each opcode runs on the
job a core holds, from its operands to its result. -/
namespace Sys2Proof.Machine

/-! ### Running a held job -/

/-- The word address of a core's job frame (R266). -/
def State.frameAddr (s : State) (c : Nat) : Nat := (s.reg36 (P.kz c) R.KZ_JFRAME).toNat

/-- Clear frame words 0o0000 to 0o1117 (R268). -/
def State.clearFrame (s : State) (c : Nat) : State := s.clearWords (s.frameAddr c) 592

/-- The held job is let go with nothing written (R271). -/
def State.releaseHeld (s : State) (k : Nat) (j : Job) : State := (s.dropJob k).leaveUnit k j

/-- A composite opcode acts on the job of that opcode a core holds; the frame is cleared when the job ends (R268); a
discarded one is only released (R271). DESIGN CHOICE, log entry 23. DEDUCED, log entry 45. -/
def State.onHeld (s : State) (key op : Nat) (f : Job → State) : Host.Outcome State Fault Refusal :=
  s.onJob key op (fun j => match j.unit.bind coreOf with
    | none => s
    | some c =>
      if (s.core c).held ≠ key + 1 then s
      else
        let t := if j.orphan then s.releaseHeld key j else match s.jobStruck key j with
          | some a => (s.storeUe a).fail key j S.deviceFault
          | none => f j
        if (t.core c).held = key + 1 then t else t.clearFrame c)

/-- HMAC_GEN (R211). -/
def execHmacGen (key : Nat) (s : State) : Host.Outcome State Fault Refusal := s.onHeld key 0o160 (s.hmacJob key)
/-- HMAC_VER (R211). -/
def execHmacVer (key : Nat) (s : State) : Host.Outcome State Fault Refusal := s.onHeld key 0o161 (s.hmacJob key)

/-- A slot reference of a cell's doubleword that must name a slot of one of some algorithms. DEDUCED, log entry 45. -/
def State.refSlotOf (s : State) (j : Job) (r : BitVec 32) (usage : Nat) (algs : List Nat) : Except Nat Slot :=
  match s.slotCheck j r usage with
  | some st => .error st
  | none => let v := s.slot (refSlot r)
    if algs.contains v.alg then .ok v else .error S.invalidOperand

/-- With the slot or the status that refuses it. -/
def State.withSlot (s : State) (k : Nat) (j : Job) (r : BitVec 32) (usage : Nat) (algs : List Nat) (f : Slot → State) : State :=
  match s.refSlotOf j r usage algs with
  | .error st => s.fail k j st
  | .ok v => f v

/-- With a form that must hold, INVALID_OPERAND otherwise. -/
def State.need (s : State) (k : Nat) (j : Job) (c : Bool) (f : State) : State := if c then f else s.fail k j S.invalidOperand

/-- With `n` octets of the region's DRBG, for a job that needs random output; DEVICE_FAULT where it is silent (R135, R551). -/
def State.withRandom (s : State) (k : Nat) (j : Job) (n : Nat) (f : List Octet → State → State) : State :=
  if s.rngOk j.region then (let (o, t) := s.drawFrom j.region n; f o t) else s.fail k j S.deviceFault

/-! ### RSA and the curves (R274) -/

/-- The RSA private operation as the bignum program of the resident firmware computes it, refusals included (R226).
DEDUCED, log entry 45. -/
def rsaProgram (n p q dp dq qinv x : Nat) : Option Nat :=
  let oddMod (m : Nat) : Bool := decide (2 ≤ m) && decide (m % 2 = 1)
  if !(oddMod n && oddMod p && oddMod q) ∨ dp = 0 ∨ dq = 0 ∨ x % p < 2 ∨ x % q < 2 then none
  else
    let m1 := powMod (x % p) dp p
    let m2 := powMod (x % q) dq q
    if p ≤ m2 ∨ p ≤ qinv ∨ n ≤ q then none
    else
      let h := qinv * subMod m1 m2 p % p
      if n ≤ h ∨ n ≤ m2 then none else some ((h * q + m2) % n)

/-- Octets of the KWP blob of `n` octets. DEDUCED, log entry 45. -/
def blobLen (n : Nat) : Nat := (n + 7) / 8 * 8 + 8

/-- RSA_CRT (R274). -/
def execRsaCrt (key : Nat) (s : State) : Host.Outcome State Fault Refusal :=
  s.onHeld key 0o300 (fun j =>
    let l := bits j.oparg 9 0
    let n := l + 5 * (l / 2)
    s.withSlot key j (j.dw 1 0) U.unwrap [3] (fun v =>
      s.need key j (decide (bits j.oparg 31 10 = 0) && decide (l % 2 = 0) && decide (128 ≤ l) && decide (l ≤ 512) &&
          decide (j.declared 2 = blobLen n) && decide (j.declared 3 = l))
        (s.lenGate key j [(4, l)]
          (match kwpUnwrap v.keyOctets (j.data 2) with
          | none => s.fail key j S.authFail
          | some b =>
            let part (i : Nat) : Nat := beNat (sliceOct b (l + i * (l / 2)) (l / 2))
            let nn := beNat (b.take l)
            let x := beNat (j.data 3)
            if b.length ≠ n ∨ nn ≤ x ∨ part 0 ≤ part 1 then s.fail key j S.invalidOperand
            else match rsaProgram nn (part 0) (part 1) (part 2) (part 3) (part 4) x with
              | none => s.fail key j S.invalidOperand
              | some r => s.finishOut key j j.goodStatus [(4, beOctets l r)] []))))

/-- ECDSA_P256_SIGN (R274); the nonce is a free value from 2 to n − 1. DESIGN CHOICE, log entry 39. -/
def execEcdsaP256Sign (key : Nat) (s : State) : Host.Outcome State Fault Refusal :=
  s.onHeld key 0o301 (fun j =>
    s.withSlot key j (j.dw 1 0) U.sign [8] (fun v =>
      s.need key j (decide (j.oparg = 0) && decide (j.declared 2 = 32))
        (s.lenGate key j []
          (s.withRandom key j 32 (fun o s =>
            let (r, t) := p256.signWith v.key.toNat (2 + beNat o % (p256.n - 2)) (j.data 2)
            s.finish key j j.goodStatus (beOctets 32 r ++ beOctets 32 t))))))

/-- ECDSA verification over Q ‖ e ‖ r ‖ s (R274). PRESUMED, log entry 8. -/
def State.ecdsaVer (s : State) (k : Nat) (j : Job) (c : Curve) : State :=
  let n := c.len
  s.need k j (decide (j.oparg = 0) && decide (j.declared 1 = 5 * n + 1))
    (s.lenGate k j []
      (let d := j.data 1
      match c.parse (d.take (2 * n + 1)) with
      | none => s.fail k j S.invalidOperand
      | some (x, y) =>
        let e := (d.drop (2 * n + 1)).take n
        let r := beNat ((d.drop (3 * n + 1)).take n)
        let t := beNat ((d.drop (4 * n + 1)).take n)
        if c.verify x y e r t then s.finish k j j.goodStatus else s.fail k j S.authFail))

/-- ECDSA_P256_VER (R274). -/
def execEcdsaP256Ver (key : Nat) (s : State) : Host.Outcome State Fault Refusal :=
  s.onHeld key 0o302 (fun j => s.ecdsaVer key j p256)
/-- ECDSA_P384_VER (R274). -/
def execEcdsaP384Ver (key : Nat) (s : State) : Host.Outcome State Fault Refusal :=
  s.onHeld key 0o303 (fun j => s.ecdsaVer key j p384)

/-- ATTR0 of an ECDH result: ALG 7, DERIVE, the source's COLOUR, EXPORT 0 (R274). DEDUCED, log entry 45. -/
def ecdhAttr (v : Slot) : Word := wd (7 * 2 ^ 14 + 2 ^ U.derive + v.colour * 4)

/-- ECDH_P256 (R274). -/
def execEcdhP256 (key : Nat) (s : State) : Host.Outcome State Fault Refusal :=
  s.onHeld key 0o304 (fun j =>
    s.withSlot key j (j.dw 1 0) U.derive [8] (fun v =>
      s.need key j (slotArg j && decide (j.declared 2 = 65))
        (match s.targetCheck j (bits j.oparg 15 0) (ecdhAttr v) with
        | some st => s.fail key j st
        | none => s.lenGate key j []
          (match p256.parse (j.data 2) with
          | none => s.fail key j S.invalidOperand
          | some q => s.fillSlot key j (bits j.oparg 15 0) (ecdhAttr v)
              (beOctets 32 (xOf (p256.mul v.key.toNat (some q))))))))

/-! ### Cards, PINs, derivation (R274) -/

/-- CRYPTOGRAM_VER once its credential is checked: the session key from the counter, the check, the response. -/
def State.cryptogram (s : State) (key : Nat) (j : Job) (h : Nat) : State :=
  s.need key j (s.kindOk key j (hPage h) (hEntry h) 0 [] && decide (j.oparg = 0) && j.handlePad 1 0 &&
      decide (1 ≤ j.declared 2) && decide (j.declared 2 ≤ 256))
    (s.lenGate key j []
      (let sk := aesEnc (eSecret (s.credView key j (hPage h) (hEntry h)))
        (beOctets 2 (bits (j.dw 1 2) 15 0) ++ [0xF0] ++ zeros 13)
      let c := j.oct 3 0 8
      if (cmac sk (j.data 2)).take 8 = c then
        s.finish key j j.goodStatus ((cmac sk (c ++ j.oct 3 8 2)).take 8)
      else s.fail key j S.authFail))

/-- CRYPTOGRAM_VER (R274). -/
def execCryptogramVer (key : Nat) (s : State) : Host.Outcome State Fault Refusal :=
  s.onHeld key 0o305 (fun j => match s.credCheck key j (j.handle 1 0) with
    | some st => s.fail key j st
    | none => s.cryptogram key j (j.handle 1 0))

/-- The nibbles of octets, high first. -/
def nibbles (l : List Octet) : List Nat := (l.map (fun o => [o.toNat / 16, o.toNat % 16])).flatten

/-- A good format 4 PIN field: control 4, 4 to 12 digits, fill 0xA to the eighth octet (ISO 9564-1). -/
def pinFieldOk (f : List Octet) : Bool :=
  let n := nibbles (f.take 8)
  let len := n.getD 1 0
  decide (n.getD 0 0 = 4) && decide (4 ≤ len) && decide (len ≤ 12) &&
    ((n.drop 2).take len).all (fun d => decide (d < 10)) && (n.drop (2 + len)).all (fun d => d == 10)

/-- PIN_TRANSLATE (R274). -/
def execPinTranslate (key : Nat) (s : State) : Host.Outcome State Fault Refusal :=
  s.onHeld key 0o306 (fun j =>
    s.withSlot key j (j.dw 1 0) U.decrypt [1, 2, 3] (fun a =>
      s.withSlot key j (j.dw 1 1) U.encrypt [1, 2, 3] (fun b =>
        s.need key j (decide (j.oparg = 0))
          (let da := decBlk (aesSchedule a.keyOctets)
          let pan := j.oct 3 0 16
          let f := da (xorO (da (j.oct 2 0 16)) pan)
          if pinFieldOk f then
            s.finish key j S.ok (aesEnc b.keyOctets (xorO (aesEnc b.keyOctets f) pan))
          else s.fail key j S.invalidOperand))))

/-- The key after each label, one KDF per level (R274). DEDUCED, log entry 45. -/
def kdfTree (v : Slot) : List (List Octet) → List Octet
  | [] => beOctets 32 v.key.toNat
  | l :: r => kdfTree { v with key := BitVec.ofNat 256 (beNat (derivedKey v (l ++ [0]))) } r

/-- KDF_TREE (R274). -/
def execKdfTree (key : Nat) (s : State) : Host.Outcome State Fault Refusal :=
  s.onHeld key 0o307 (fun j =>
    let depth := bits (j.dw 1 2) 3 0
    let n := bits j.oparg 15 0
    s.withSlot key j (j.dw 1 0) U.derive [1, 2, 3, 7] (fun v =>
      let a := derivedAttr v (wd (j.dw 1 1).toNat)
      s.need key j (slotArg j && decide (bits (j.dw 1 1) 31 18 = 0) && decide (bits (j.dw 1 2) 31 4 = 0) &&
          decide (1 ≤ depth) && decide (depth ≤ 8) && decide (j.declared 2 = 16 * depth))
        (match s.targetCheck j n a with
        | some st => s.fail key j st
        | none => s.lenGate key j [] (s.fillSlot key j n a (kdfTree v (chunks 16 (j.data 2)))))))

/-! ### TUAK (3GPP TS 35.231) -/

/-- Octets in reverse order, as the TUAK input and output blocks hold them. -/
def rev (l : List Octet) : List Octet := l.reverse

/-- The TUAK permutation of its input block. PRESUMED, log entry 8. -/
def tuakCore (inst : Nat) (k topc rand amf sqn : List Octet) : List Octet :=
  lanesOut (keccakF (lanesOf (rev topc ++ [BitVec.ofNat 8 inst] ++ rev (ascii "TUAK1.0") ++ rev rand ++ rev amf ++ rev sqn ++
    rev k ++ [0x1F] ++ zeros 38 ++ [0x80] ++ zeros 64)))

/-- MAC-A, RES, CK, IK, AK for a 256-bit key. -/
def tuak (k topc rand sqn amf : List Octet) (mac res : Nat) (long : Bool) : List Octet :=
  let f1 := tuakCore (1 + (if mac = 8 then 0x08 else if mac = 16 then 0x10 else 0x20)) k topc rand amf sqn
  let f25 := tuakCore (0x41 + (if res = 4 then 0 else if res = 8 then 0x08 else if res = 16 then 0x10 else 0x20) +
    (if long then 0x06 else 0)) k topc rand (zeros 2) (zeros 6)
  let n := if long then 32 else 16
  rev (f1.take mac) ++ rev (f25.take res) ++ rev ((f25.drop 32).take n) ++ rev ((f25.drop 64).take n) ++
    rev ((f25.drop 96).take 6)

/-- AKA_TUAK once its credential is checked. -/
def State.tuakJob (s : State) (key : Nat) (j : Job) (h : Nat) : State :=
  s.need key j (s.kindOk key j (hPage h) (hEntry h) 1 [(1, 2), (2, 3), (3, 3)] && decide (bits j.oparg 31 5 = 0) &&
      decide (bits j.oparg 1 0 < 3) && j.handlePad 1 0)
    (let e (i : Nat) : List Octet := eSecret (s.credView key j (hPage h) (hEntry h + i))
    s.finish key j S.ok (tuak (e 0 ++ e 1) (e 2 ++ e 3) (j.oct 2 0 16) (j.oct 1 8 6) (j.oct 1 14 2)
      ([8, 16, 32].getD (bits j.oparg 1 0) 8) ([4, 8, 16, 32].getD (bits j.oparg 3 2) 4) (tb j.oparg 4)))

/-- AKA_TUAK (R274, R148). -/
def execAkaTuak (key : Nat) (s : State) : Host.Outcome State Fault Refusal :=
  s.onHeld key 0o310 (fun j => match s.credCheck key j (j.handle 1 0) with
    | some st => s.fail key j st
    | none => s.tuakJob key j (j.handle 1 0))

/-! ### Lattice opcodes (R290, R291) -/

/-- OPARG holds a SET and no other bit, HEDGED apart where the opcode has it. -/
def Job.setOk (j : Job) (hedged : Bool) : Bool :=
  decide (bits j.oparg 1 0 < 3) && decide (bits j.oparg 31 3 = 0) && (hedged || !tb j.oparg 2)

/-- MLKEM_KEYGEN (R290). -/
def execMlkemKeygen (key : Nat) (s : State) : Host.Outcome State Fault Refusal :=
  s.onHeld key 0o340 (fun j =>
    let p := kemSet (bits j.oparg 1 0)
    s.withSlot key j (j.dw 1 0) U.wrap [3] (fun v =>
      s.need key j (j.setOk false && decide (j.declared 2 = p.ekLen) && decide (j.declared 3 = 72))
        (s.lenGate key j [(2, p.ekLen), (3, 72)]
          (s.withRandom key j 64 (fun r s =>
            s.finishOut key j j.goodStatus [(2, (kpkeKeyGen p (r.take 32)).1), (3, kwpWrap v.keyOctets r)] [])))))

/-- MLKEM_ENCAPS (R290). -/
def execMlkemEncaps (key : Nat) (s : State) : Host.Outcome State Fault Refusal :=
  s.onHeld key 0o341 (fun j =>
    let p := kemSet (bits j.oparg 1 0)
    s.need key j (j.setOk false && decide (j.declared 1 = p.ekLen) && decide (j.declared 2 = p.ctLen))
      (s.lenGate key j [(2, p.ctLen)]
        (if ekOk p (j.data 1) then
          s.withRandom key j 32 (fun m s =>
            let (kk, c) := kemEncaps p (j.data 1) m
            s.finishOut key j j.goodStatus [(2, c)] kk)
        else s.fail key j S.invalidOperand)))

/-- MLKEM_DECAPS (R290, R291). -/
def execMlkemDecaps (key : Nat) (s : State) : Host.Outcome State Fault Refusal :=
  s.onHeld key 0o342 (fun j =>
    let p := kemSet (bits j.oparg 1 0)
    s.withSlot key j (j.dw 1 0) U.unwrap [3] (fun v =>
      s.need key j (j.setOk false && decide (j.declared 2 = 72) && decide (j.declared 3 = p.ctLen))
        (s.lenGate key j []
          (match kwpUnwrap v.keyOctets (j.data 2) with
          | none => s.fail key j S.authFail
          | some b =>
            if b.length ≠ 64 then s.fail key j S.authFail
            else s.finish key j j.goodStatus (kemDecaps p (b.take 32) (b.drop 32) (j.data 3))))))

/-- MLDSA_KEYGEN (R290). -/
def execMldsaKeygen (key : Nat) (s : State) : Host.Outcome State Fault Refusal :=
  s.onHeld key 0o350 (fun j =>
    let p := dsaSet (bits j.oparg 1 0)
    s.withSlot key j (j.dw 1 0) U.wrap [3] (fun v =>
      s.need key j (j.setOk false && decide (j.declared 2 = p.pkLen) && decide (j.declared 3 = 40))
        (s.lenGate key j [(2, p.pkLen), (3, 40)]
          (s.withRandom key j 32 (fun r s =>
            s.finishOut key j j.goodStatus [(2, (dsaKeyGen p r).pk), (3, kwpWrap v.keyOctets r)] [])))))

/-- MLDSA_SIGN (R290, R291). -/
def execMldsaSign (key : Nat) (s : State) : Host.Outcome State Fault Refusal :=
  s.onHeld key 0o351 (fun j =>
    let p := dsaSet (bits j.oparg 1 0)
    s.withSlot key j (j.dw 1 0) U.unwrap [3] (fun v =>
      s.need key j (j.setOk true && decide (j.declared 2 = 40) && decide (2 ≤ j.declared 3) && decide (j.declared 3 ≤ 65536) &&
          decide (j.declared 4 = p.sigLen))
        (s.lenGate key j [(4, p.sigLen)]
          (match kwpUnwrap v.keyOctets (j.data 2) with
          | none => s.fail key j S.authFail
          | some xi =>
            if xi.length ≠ 32 then s.fail key j S.authFail
            else
              let sign (r : List Octet) (s : State) : State := match dsaSign p xi (j.data 3) r with
                | none => s.fail key j S.aborted
                | some sig => s.finishOut key j j.goodStatus [(4, sig)] []
              if tb j.oparg 2 then s.withRandom key j 32 sign else sign (zeros 32) s))))

/-- MLDSA_VERIFY (R290, R291). -/
def execMldsaVerify (key : Nat) (s : State) : Host.Outcome State Fault Refusal :=
  s.onHeld key 0o352 (fun j =>
    let p := dsaSet (bits j.oparg 1 0)
    s.need key j (j.setOk false && decide (j.declared 1 = p.pkLen) && decide (j.declared 3 = p.sigLen))
      (s.lenGate key j []
        (if dsaVerify p (j.data 1) (j.data 2) (j.data 3) then s.finish key j j.goodStatus else s.fail key j S.authFail)))

end Sys2Proof.Machine
end

