-- ==== Sys2Proof/Machine/Flash.lean ====
section
/-! DEFINITION. The vault flash (R463 to R480): operations of port H and port D, pulses, suspension, brown-out, scan, reads
through the window. -/
namespace Sys2Proof.Machine

/-- Statuses of Table 17-3. -/
abbrev FS.ok : Nat := 0o400
abbrev FS.badAddr : Nat := 0o420
abbrev FS.reserved : Nat := 0o421
abbrev FS.wp : Nat := 0o422
abbrev FS.suspended : Nat := 0o423
abbrev FS.interrupted : Nat := 0o424
abbrev FS.failed : Nat := 0o425
abbrev FS.notErased : Nat := 0o426
abbrev FS.brownout : Nat := 0o430
abbrev FS.reset : Nat := 0o431
abbrev FS.programFail : Nat := 0o440
abbrev FS.eraseFail : Nat := 0o441

/-- The sector of a page (R463). -/
def sectorOf (page : Nat) : Nat := page / 128

/-- The state of a sector (Table 17-4). -/
def State.sector (s : State) (n : Nat) : Nat := Map.get (dflt 0) s.flash.sectors n

/-- Change a sector's state. -/
def State.setSector (s : State) (n v : Nat) : State :=
  { s with flash := { s.flash with sectors := Map.put (dflt 0) s.flash.sectors n v } }

/-- A stored protection bit (R473). -/
def State.protected (s : State) (sector : Nat) : Bool := tb (Map.get (dflt 0) s.flash.map (sector / 16)) (sector % 16)

/-- FLASH_WP_N is low, debounced. -/
def State.wpActive (s : State) : Bool := s.rbit P.flash R.FLASH_FL_STAT 5

/-- The brown-out detector is tripped. -/
def State.brownedOut (s : State) : Bool := s.rbit P.flash R.FLASH_FL_STAT 4

/-- A sector of the Peat journal (R465). -/
def State.journalSector (s : State) (n : Nat) : Bool :=
  let b := s.rfld P.peat R.PEAT_STORE_BASE 9 0
  decide (b ≤ n) && decide (n < b + s.storeCount)

/-- A port H operation is accepted, running or queued (R467). DEDUCED, log entry 77. -/
def State.portHBusy (s : State) : Bool :=
  (match s.flash.running with | some o => !o.portD | none => false) || s.flash.queued.isSome ||
    (match s.flash.susp with | some (_, byD) => byD | none => false)

/-- FL_STAT (Table 17-5). -/
def State.flStat (s : State) : Word :=
  let f := s.flash
  let bank := match f.running with | some o => sectorOf o.page / 256 | none => 0
  let sus := match f.susp with | some (o, _) => sectorOf o.page | none => 0
  wd (b2n s.portHBusy + 2 * b2n f.susp.isSome + 4 * bank + 16 * b2n s.brownedOut + 32 * b2n s.wpActive +
    64 * b2n f.queued.isSome + 128 * b2n (match f.running with | some o => o.portD | none => false) + 256 * sus)

/-- The end of a port H operation: LASTOP, LASTPAGE, OP_DONE. -/
def State.portHEnd (s : State) (o : FlOp) (status : Nat) : State :=
  if o.portD then s
  else
    let retries := if o.op = 2 then 0 else min 8 (o.pulses - 1)
    ((s.setReg P.flash R.FLASH_FL_LASTOP (wd (2 ^ 17 + retries * 2 ^ 13 + min 12 o.pulses * 512 + status))).setReg
      P.flash R.FLASH_FL_LASTPAGE (wd o.page)).event P.flash 0

/-- Clear what an erase of a sector erases. -/
def State.eraseSector (s : State) (n : Nat) : State :=
  { s with flash := { s.flash with
      pages := Map.keep (fun q => sectorOf q != n) s.flash.pages,
      aborted := s.flash.aborted.filter (fun q => sectorOf q != n),
      segs := s.flash.segs.filter (fun k => sectorOf (k / 16) != n),
      ivs := Map.keep (fun k => sectorOf (if k < 2 ^ 17 then k else (k - 2 ^ 17) / 8) != n) s.flash.ivs,
      markers := drop1 s.flash.markers n } }

/-- The 64 words of a protection map, two octets each. -/
def mapWords (l : List Octet) : Map Word :=
  (List.range 64).foldl (fun m i => Map.put (dflt 0) m i (wd (beNat (sliceOct l (2 * i) 2)))) []

/-- What an operation leaves in the array when it ends (R470, R476, R478). -/
def State.arrayEnd (s : State) (o : FlOp) (status : Nat) : State :=
  match o.op with
  | 2 =>
    if status = FS.ok then (s.eraseSector (sectorOf o.page)).setSector (sectorOf o.page) 0
    else s.setSector (sectorOf o.page) (if status = FS.eraseFail then 4 else 3)
  | 5 =>
    if status = FS.ok then { s with flash := { s.flash with map := mapWords o.data } }
    else
      let (r, s) := s.draw 128
      { s with flash := { s.flash with map := mapWords r } }
  | _ =>
    match o.seg with
    | some k => { s with flash := { s.flash with segs := add1 s.flash.segs k } }
    | none =>
      if status = FS.ok then { s with flash := { s.flash with pages := Map.put (dflt []) s.flash.pages o.page o.data } }
      else { s with flash := { s.flash with aborted := add1 s.flash.aborted o.page } }

/-- An operation starts: an erase sets its marker first (R468), a program draws its IV (R464, R465). DEDUCED, log entry 77. -/
def State.opStart (s : State) (o : FlOp) : State :=
  let s : State := { s with flash := { s.flash with running := some o } }
  if o.op = 2 then
    ({ s with flash := { s.flash with markers := add1 s.flash.markers (sectorOf o.page) } } : State).setSector (sectorOf o.page) 1
  else if o.op = 1 then
    match o.seg with
    | none => s.drawIv o.page 9
    | some k => if k % 2 = 0 then s.drawIv (2 ^ 17 + k / 2) 8 else s
  else s

/-- With nothing running: an erase suspended for port D, or to be resumed, goes on; else a queued operation starts. Nothing
starts in a brown-out. -/
def State.opNext (s : State) : State :=
  if s.flash.running.isSome || s.brownedOut then s
  else match s.flash.susp with
    | some (o, true) => ({ s with flash := { s.flash with susp := none } } : State).opStart o
    | _ => match s.flash.queued with
      | some o => ({ s with flash := { s.flash with queued := none } } : State).opStart o
      | none => s

/-- The running operation ends. DEDUCED, log entry 77. -/
def State.opEnd (s : State) (o : FlOp) (status : Nat) : State :=
  let s : State := { s with flash := { s.flash with running := none } }
  ((s.arrayEnd o status).portHEnd o status).opNext

/-- A page cannot be programmed: it is programmed or aborted since its sector's erase. -/
def State.pageUsed (s : State) (o : FlOp) : Bool :=
  match o.seg with
  | some k => s.flash.segs.contains k
  | none => !(Map.get (dflt []) s.flash.pages o.page).isEmpty || s.flash.aborted.contains o.page

/-- The checks at acceptance, in the order of Table 17-3; `form`: the address or buffer is malformed. -/
def State.opRefused (s : State) (o : FlOp) (form : Bool) : Option Nat :=
  let n := sectorOf o.page
  let target := o.op ≠ 5
  if form then some FS.badAddr
  else if target ∧ o.portD = false ∧ s.journalSector n = true then some FS.reserved
  else if s.wpActive && (decide (o.op = 5) || s.protected n) then some FS.wp
  else if (o.op = 1 ∧ s.sector n = 2) ∨ (o.op = 2 ∧ s.flash.susp.isSome = true) then some FS.suspended
  else if o.op = 1 ∧ s.sector n = 3 then some FS.interrupted
  else if o.op = 1 ∧ s.sector n = 4 then some FS.failed
  else if o.op = 1 ∧ s.pageUsed o = true then some FS.notErased
  else if s.brownedOut then some FS.brownout
  else none

/-- A write of PROGRAM, ERASE or MAP_PROGRAM to FL_CMD (R467 to R469, R479). DEDUCED, log entry 77. -/
def State.portH (s : State) (req : Requester) (o : FlOp) (form : Bool) : State :=
  if !s.en P.flash || s.stat P.flash ST.stopping then s
  else if s.portHBusy then s.pgErr P.flash 0 req R.FLASH_FL_CMD
  else match s.opRefused o form with
    | some st => s.portHEnd o st
    | none => if s.flash.running.isSome then { s with flash := { s.flash with queued := some o } } else s.opStart o

/-- The page buffer. -/
def State.flBuf (s : State) : List Word := (List.range 256).map (fun i => s.reg P.flash (R.FLASH_FL_BUF + i))

/-- FL_ADDR. -/
def State.flAddr (s : State) : Nat := s.rfld P.flash R.FLASH_FL_ADDR 16 0

/-- PROGRAM (R469). -/
def execProgram (req : Requester) (s : State) : Host.Outcome State Fault Refusal :=
  let good := s.flBuf.all (fun w => tb w 17 && tb w 8)
  s.written P.flash (s.portH req ⟨1, s.flAddr, (unpackWords s.flBuf).getD [], 0, false, none⟩ (!good))

/-- ERASE (R468). -/
def execErase (req : Requester) (s : State) : Host.Outcome State Fault Refusal :=
  s.written P.flash (s.portH req ⟨2, s.flAddr, [], 0, false, none⟩ (decide (s.flAddr % 128 ≠ 0)))

/-- MAP_PROGRAM (R473). -/
def execMapProgram (req : Requester) (s : State) : Host.Outcome State Fault Refusal :=
  let l := (List.range 64).flatMap (fun i => beOctets 2 (s.rfld P.flash (R.FLASH_FL_WPMAP + i) 15 0))
  s.written P.flash (s.portH req ⟨5, s.flAddr, l, 0, false, none⟩ false)

/-- The running erase of port H is suspended; a pulse that is cut short counts (R471). DEDUCED, log entry 77. -/
def State.suspendErase (s : State) (o : FlOp) (inPulse byD : Bool) : State :=
  let o := { o with pulses := min 12 (o.pulses + b2n inPulse) }
  ({ s with flash := { s.flash with running := none, susp := some (o, byD) } } : State).setSector (sectorOf o.page) 2

/-- SUSPEND (R471). -/
def execSuspend (req : Requester) (inPulse : Bool) (s : State) : Host.Outcome State Fault Refusal :=
  s.written P.flash (match s.flash.running with
    | some o => if o.op = 2 then s.suspendErase o inPulse false else s.pgErr P.flash 1 req R.FLASH_FL_CMD
    | none => s.pgErr P.flash 1 req R.FLASH_FL_CMD)

/-- RESUME (R471). -/
def execResume (req : Requester) (s : State) : Host.Outcome State Fault Refusal :=
  s.written P.flash (match s.flash.susp with
    | some (o, _) => ({ s with flash := { s.flash with susp := some (o, true) } } : State).opNext
    | none => s.pgErr P.flash 1 req R.FLASH_FL_CMD)

/-- PORT_D_PROGRAM (R465, R467): a device program of a page, or of a journal segment or commit mark. DEDUCED, log entry 77. -/
def execPortDProgram (page : Nat) (seg : Option (Nat × Bool)) (data : List Octet) (inPulse : Bool) (s : State) :
    Host.Outcome State Fault Refusal :=
  let o : FlOp := ⟨1, page, data, 0, true, seg.map (fun x => 16 * page + 2 * x.1 + b2n x.2)⟩
  if (s.opRefused o false).isSome then .next s
  else .next (match s.flash.running with
    | none => s.opStart o
    | some r => if r.op = 2 ∧ sectorOf r.page ≠ sectorOf page then (s.suspendErase r inPulse true).opStart o else s)

/-- FLASH_PULSE_DONE (R468): a pulse and its verify end. -/
def execFlashPulseDone (pass : Bool) (s : State) : Host.Outcome State Fault Refusal :=
  match s.flash.running with
  | none => .next s
  | some o =>
    let o := { o with pulses := min 12 (o.pulses + 1) }
    .next (if pass then s.opEnd o FS.ok
      else if o.op = 2 then
        (if 12 ≤ o.pulses then (s.opEnd o FS.eraseFail).event P.flash 4
        else { s with flash := { s.flash with running := some o } })
      else if 9 ≤ o.pulses then s.opEnd o FS.programFail
      else { s with flash := { s.flash with running := some o } })

/-- End the operations that run or are queued, without starting another (R474, R479). DEDUCED, log entry 77. -/
def State.abortOps (s : State) (status : Nat) (h d : Bool) : State :=
  let s := match s.flash.running with
    | some o => if (if o.portD then d else h) then
        ((({ s with flash := { s.flash with running := none } } : State).arrayEnd o status).portHEnd { o with pulses := min 12 (o.pulses + 1) } status)
      else s
    | none => s
  match s.flash.queued with
  | some o => if h then ({ s with flash := { s.flash with queued := none } } : State).portHEnd o status else s
  | none => s

/-- BROWNOUT (R474). -/
def execBrownout (s : State) : Host.Outcome State Fault Refusal :=
  when (!s.brownedOut) s (((s.setRbit P.flash R.FLASH_FL_STAT 4 true).event P.flash 1).abortOps FS.brownout true true)

/-- BROWNOUT_CLEAR (R474). -/
def execBrownoutClear (s : State) : Host.Outcome State Fault Refusal :=
  when s.brownedOut s ((s.setRbit P.flash R.FLASH_FL_STAT 4 false).opNext)

/-- FLASH_WP_CHANGE (R473). -/
def execFlashWpChange (low : Bool) (s : State) : Host.Outcome State Fault Refusal :=
  .next (s.setRbit P.flash R.FLASH_FL_STAT 5 low)

/-- FLASH_SCAN_DONE (R473, R475): the scan of a start-up. DEDUCED, log entry 18. -/
def execFlashScanDone (s : State) : Host.Outcome State Fault Refusal :=
  let t := s.each s.flash.markers (fun t n => t.setSector n 3)
  let n := ((List.range 1024).filter (fun k => t.sector k = 3)).length
  let t := t.setReg P.flash R.FLASH_FL_SCAN (wd (2 ^ 17 + n))
  let t := t.each (List.range 64) (fun u i => u.setReg P.flash (R.FLASH_FL_WPMAP + i) (Map.get (dflt 0) u.flash.map i))
  when (s.lev.starting.contains P.flash && s.flash.running.isNone && s.flash.susp.isNone) s (if n = 0 then t else t.event P.flash 3)

/-- SRESET of FLASH (R476, R479): the running port H operation ends, a suspended erase is interrupted. -/
def State.flashReset (s : State) : State :=
  let s := s.abortOps FS.reset true false
  match s.flash.susp with
  | some (o, _) => ({ s with flash := { s.flash with susp := none } } : State).setSector (sectorOf o.page) 3
  | none => s

/-- A package reset or loss of supply: no operation goes on; a program under way leaves its page aborted, an erase its marker
(R470, R476). -/
def State.flashLoss (s : State) : State :=
  let s := match s.flash.running with
    | some o => if o.op = 2 then s else s.arrayEnd o FS.reset
    | none => s
  { s with flash := { s.flash with running := none, queued := none, susp := none } }

/-- FLASH's shutdown has ended (R479). -/
def State.flashQuiet (s : State) : Bool := !s.portHBusy

/-! ### Reads (R466, R472, R476) -/

/-- The status word of a read in a busy bank or a suspended sector, if any. -/
def State.flashBusyWord (s : State) (page : Nat) : Option Nat :=
  let own (o : FlOp) : Bool := decide (sectorOf o.page / 256 = sectorOf page / 256)
  match s.flash.running with
  | some o =>
    if o.op = 5 then some 0o777404
    else if own o then some (if o.op = 2 then 0o777402 else 0o777401)
    else if s.sector (sectorOf page) = 2 then some 0o777403 else none
  | none => if s.sector (sectorOf page) = 2 then some 0o777403 else none

/-- A read of a window word: `corr` bits corrected, `fail` where a read unit is uncorrectable or the tag fails.
DEDUCED, log entry 77. -/
def State.flashRead (s : State) (req : Requester) (i corr : Nat) (fail : Bool) : State × Word :=
  let page := i / 256
  match s.flashBusyWord page with
  | some w => (s.pgErr P.flash 2 req 0 (wd (page % 2 ^ 17)), wd w)
  | none =>
    let s := if s.sector (sectorOf page) = 3 then s.pgErr P.flash 3 req 0 else s
    let d := Map.get (dflt []) s.flash.pages page
    if d.isEmpty && !s.flash.aborted.contains page then (s, 0o777777)
    else if fail || d.isEmpty then
      (((((s.pgErr P.flash 4 req 0).event P.flash 2).incSat P.flash R.FLASH_FL_UNCORR).detect 18), 0o400400)
    else
      let s := s.each (List.range corr) (fun t _ => t.incSat P.flash (R.FLASH_FL_CORR + i / 8388608))
      (s, wd (2 ^ 17 + (d.getD (2 * (i % 256)) 0).toNat * 512 + 256 + (d.getD (2 * (i % 256) + 1) 0).toNat))

/-- FLASH_WINDOW_READ (R472): a register-bus read of window word `i`, after the gate. -/
def execFlashWindowRead (req : Requester) (i corr : Nat) (fail : Bool) (s : State) : Host.Outcome State Fault Refusal :=
  let a := 0o002000000000 + i
  let r := s.whoOf req
  match s.checkAccess r a 1 .r with
  | .allowed => (let (t, w) := s.flashRead req i corr fail; .next { t with bus := { t.bus with rdata := w.setWidth 72 } })
  | .unassigned => .next { s with bus := { s.bus with rdata := 0 } }
  | .refused at_ rsn => (let t := s.recordRefusal r a at_ .r rsn; .next { t with bus := { t.bus with rdata := 0 } })

/-- The octets of pages from `page`, where they can be read; an erased page reads octets 0xFF. DESIGN CHOICE, log entry 5. -/
def State.flashOctets (s : State) (page : Nat) : Nat → Option (List Octet)
  | 0 => some []
  | n + 1 =>
    let d := Map.get (dflt []) s.flash.pages page
    if s.flash.aborted.contains page then none
    else (s.flashOctets (page + 1) n).map (fun r => (if d.isEmpty then List.replicate 512 0xFF else d) ++ r)

end Sys2Proof.Machine
end

