-- ==== Sys2Proof/Machine/Net.lean ====
section
/-! DEFINITION. Placement state, forwarding, Denlet links and system time as commands (R105 to R128). -/
namespace Sys2Proof.Machine

/-! ### The placement state (R109, R126) -/

/-- The placement state this device has learned of last: the one being recomputed, or the applied one. The own epoch is the
applied state's until the recompute ends (R107). -/
def State.known (s : State) : Placement := s.net.next.getD s.net.applied

/-- The entries of a table that differ between two states, with their new values. -/
def changed {α : Type} [DecidableEq α] (d : α) (old new : Map α) : List (Nat × α) :=
  let ks := new.map (fun e => e.1) ++ (old.map (fun e => e.1)).filter (fun k => !(new.any (fun e => e.1 == k)))
  (ks.filter (fun k => decide (Map.get (dflt d) old k ≠ Map.get (dflt d) new k))).map (fun k => (k, Map.get (dflt d) new k))

/-- A COMMIT is still being sent: a membership frame waits for a port (R109). -/
def State.committing (s : State) : Bool :=
  let frame (m : NetMsg) : Bool := match m with | .membership _ _ _ _ _ => true | _ => false
  s.net.held.any frame || (List.range 4).any (fun i => (s.port i).wait.any (fun e => frame e.2))

/-- The membership frame that leads a member from one placement state to another (R109). -/
def frameTo (old new : Placement) (d : Nat) : NetMsg :=
  .membership d new.epoch (changed 0 old.members new.members) (changed Ovr.none old.ovr new.ovr)
    (if old.salt = new.salt then none else some new.salt)

/-- Begin the recompute that leads to a placement state (R107). DEDUCED, log entry 30. -/
def State.recompute (s : State) (pl : Placement) : State := { s with net := { s.net with next := some pl } }

/-- A staging write: on the keeper the staged state changes, elsewhere it is dropped (R109). -/
def State.stagePl (s : State) (req : Requester) (word : Nat) (f : Placement → Placement) : State :=
  if s.isKeeper then
    ({ s with net := { s.net with staged := f s.net.staged } } : State).setRbit P.place R.PLACE_STATE 0 true
  else s.pgErr P.place 0 req word

/-- The placement state the staging registers read (R126). -/
def State.shown (s : State) : Placement := if s.isKeeper then s.net.staged else s.net.applied

/-- A write of MEMBER_DATA. -/
def State.wMemberData (s : State) (req : Requester) (val : Word) : State :=
  s.stagePl req R.PLACE_MEMBER_DATA (fun p => { p with
    members := Map.put (dflt 0) p.members (s.rfld P.place R.PLACE_MEMBER_SEL 15 0) (val &&& 0o400777) })

/-- An override entry. -/
def Placement.entry (p : Placement) (i : Nat) : Ovr := Map.get (dflt Ovr.none) p.ovr i

/-- A write of OVR_DATA0 to OVR_DATA3. -/
def State.wOvrData (s : State) (req : Requester) (word : Nat) (val : Word) : State :=
  let i := s.rfld P.place R.PLACE_OVR_SEL 15 0
  s.stagePl req word (fun p =>
    let e := p.entry i
    let e := if word = R.PLACE_OVR_DATA0 then { e with data0 := val }
      else if word = R.PLACE_OVR_DATA1 then { e with data1 := val &&& 0o600377 }
      else if word = R.PLACE_OVR_DATA2 then { e with data2 := val &&& 0o177777 }
      else { e with data3 := val &&& 0o177777 }
    { p with ovr := Map.put (dflt Ovr.none) p.ovr i e })

/-- A write of SALT. -/
def State.wSalt (s : State) (req : Requester) (val : DWord) : State :=
  s.stagePl req R.PLACE_SALT (fun p => { p with salt := val })

/-- The members a keeper sends to: the present ones other than itself (R109). DEDUCED, log entry 30. -/
def State.peers (s : State) (pl : Placement) : List Nat :=
  (pl.members.filter (fun m => tb m.2 17 && m.1 != s.devId)).map (fun m => m.1)

/-- PLACE_COMMIT (R109). DEDUCED, log entry 30. -/
def execPlaceCommit (req : Requester) (s : State) : Host.Outcome State Fault Refusal :=
  s.written P.place (if !s.isKeeper then s.pgErr P.place 0 req R.PLACE_CMD
    else if s.committing then (s.pgErr P.place 1 req R.PLACE_CMD).event P.place 1
    else
      let pl := { s.net.staged with epoch := s.known.epoch + 1 }
      let s := (s.peers pl).foldl (fun t d => t.post (frameTo s.known pl d)) s
      (s.recompute pl).setRbit P.place R.PLACE_STATE 0 false)

/-- PLACE_DISCARD: the staged state goes back to the committed one (Table 3-7). DEDUCED, log entry 30. -/
def execPlaceDiscard (req : Requester) (s : State) : Host.Outcome State Fault Refusal :=
  s.written P.place (if !s.isKeeper then s.pgErr P.place 0 req R.PLACE_CMD
    else ({ s with net := { s.net with staged := s.known } } : State).setRbit P.place R.PLACE_STATE 0 false)

/-- PLACE_LOOKUP (R126): DONE clears. -/
def execPlaceLookup (_req : Requester) (s : State) : Host.Outcome State Fault Refusal :=
  s.written P.place (({ s with net := { s.net with looking := true } } : State).setReg P.place R.PLACE_LOOKUP_RES 0)

/-- LOOKUP_DONE (R126). -/
def execLookupDone (s : State) : Host.Outcome State Fault Refusal :=
  let page := (s.reg36 P.place R.PLACE_LOOKUP_PAGE).toNat % 2 ^ 26
  let (o, r, ovr) := s.owner page
  let t : State := { s with net := { s.net with looking := false } }
  let t := t.setReg P.place R.PLACE_LOOKUP_RES (wd (2 ^ 17 + b2n (s.resident page) * 2 ^ 16 + o))
  let t := t.setReg P.place R.PLACE_LOOKUP_REP (wd (b2n r.isSome * 2 ^ 17 + b2n ovr * 2 ^ 16 + r.getD 0))
  when s.net.looking s (t.event P.place 3)

/-- RECOMPUTE_DONE (R107, R109). -/
def execRecomputeDone (s : State) : Host.Outcome State Fault Refusal :=
  match s.net.next with
  | none => .next s
  | some pl =>
    let st : Placement := if s.isKeeper && s.rbit P.place R.PLACE_STATE 0 then s.net.staged else pl
    let t : State := { s with net := { s.net with applied := pl, next := none, staged := st } }
    .next (t.event P.place 0)

/-- Changes of a frame put over a placement state. -/
def Placement.change (p : Placement) (members : List (Nat × Word)) (ovrs : List (Nat × Word × Word × Word × Word))
    (salt : Option (BitVec 36)) (epoch : BitVec 18) : Placement :=
  { members := members.foldl (fun m e => Map.put (dflt 0) m e.1 (e.2 &&& 0o400777)) p.members,
    ovr := ovrs.foldl (fun m e => Map.put (dflt Ovr.none) m e.1
      ⟨e.2.2.1 &&& 0o600377, e.2.1, e.2.2.2.1 &&& 0o177777, e.2.2.2.2 &&& 0o177777⟩) p.ovr,
    salt := salt.getD p.salt, epoch := epoch }

/-- MEMBERSHIP_FRAME_RECEIVE (R107, R109, R110): applied only when exactly one ahead of the own epoch, which a recompute in
progress leaves as it was; otherwise the member asks for the whole state, and the keeper answers a newer epoch with its
own. DEDUCED, log entry 30. -/
def execMembershipFrameReceive (src : Nat) (epoch : BitVec 18) (members : List (Nat × Word))
    (ovrs : List (Nat × Word × Word × Word × Word)) (salt : Option (BitVec 36)) (s : State) :
    Host.Outcome State Fault Refusal :=
  .next (match epochRel s.net.applied.epoch epoch with
    | .rejected => s
    | r =>
      if s.isKeeper then (if r = .ahead then s.post (.resync src s.known) else s)
      else if epoch = s.net.applied.epoch + 1 then s.recompute (s.net.applied.change members ovrs salt epoch)
      else s.askNow)

/-- RESYNC_RECEIVE (R109). -/
def execResyncReceive (epoch : BitVec 18) (members : List (Nat × Word)) (ovrs : List (Nat × Word × Word × Word × Word))
    (salt : BitVec 36) (s : State) : Host.Outcome State Fault Refusal :=
  .next (if s.isKeeper then s else s.recompute ((⟨[], [], 0, 0⟩ : Placement).change members ovrs (some salt) epoch))

/-! ### Forwarding (R111 to R115) -/

/-- The local job that holds a forward tag. DEDUCED, log entry 31. -/
def State.fwdJob (s : State) (tag : Nat) : Option (Nat × Job) :=
  ((s.jobs.filterMap (fun e => e.2.map (fun j => (e.1, j)))).find? (fun x => match x.2.fwd with
    | some f => f.tag == tag && decide (x.2.st = .dispatched)
    | none => false))

/-- A forward tag is free again. -/
def State.freeTag (s : State) (tag : Nat) : State := { s with net := { s.net with tags := drop1 s.net.tags tag } }

/-- Send a forward to a device. DEDUCED, log entry 31. -/
def State.sendFwd (s : State) (k : Nat) (j : Job) (f : Fwd) : State :=
  (s.post (.forward f.owner f.tag (s.fwdMsg k j))).setJob k { j with fwd := some f }

/-- A newer epoch in a forward or at link-up: a member asks the keeper, the keeper answers with its own (R110). -/
def State.seeEpoch (s : State) (src : Nat) (epoch : BitVec 18) : State :=
  if epochRel s.net.applied.epoch epoch = .ahead then
    (if s.isKeeper then s.post (.resync src s.known) else s.askResync)
  else s

/-- The job a forward's message describes (R111). -/
def foreignJob (origin tag cls : Nat) (resWait rdyWait : Bool) (qkey : BitVec 16) (gb : Bool) (cells : List Octet)
    (data : List (Nat × List Octet)) (verdict : Nat) (ctx : Option (List Word)) : Job :=
  let h := decodeHeader gb (cells.take 16)
  { newJob 0o377 0 gb h (cells.drop 16) cls qkey resWait rdyWait with
    inputs := data.map (fun d => ⟨d.1, d.2.length, [], false, d.2⟩), origin := some (origin, tag), verdict := verdict,
    pendSess := ctx }

/-- FORWARD_RECEIVE (R110 to R114). The size of an owner's forward table is not given: this one takes every forward.
DEDUCED, log entry 31. DESIGN CHOICE, log entry 93. -/
def execForwardReceive (origin tag : Nat) (epoch : BitVec 18) (cls : Nat) (resWait rdyWait : Bool) (qkey : BitVec 16)
    (gb : Bool) (cells : List Octet) (data : List (Nat × List Octet)) (verdict : Nat) (ctx : Option (List Word)) (s : State) :
    Host.Outcome State Fault Refusal :=
  let key := foreignKey origin tag
  let j := foreignJob origin tag cls resWait rdyWait qkey gb cells data verdict ctx
  .next (if epochRel s.net.applied.epoch epoch = .rejected then s
    else
      let s := s.seeEpoch origin epoch
      if (s.job key).isSome then s.post (.fwdAck origin tag)
      else match s.credOf key j with
        | some h =>
          if s.resident (hPage h) || s.ownsPage (hPage h) then (s.setJob key j).post (.fwdAck origin tag)
          else s.post (.moved origin tag s.net.applied.epoch.toNat)
        | none => (s.setJob key j).post (.fwdAck origin tag))

/-- FORWARD_ACK_RECEIVE (R113). -/
def execForwardAckReceive (src tag : Nat) (s : State) : Host.Outcome State Fault Refusal :=
  match s.fwdJob tag with
  | some (k, j) => match j.fwd with
    | some f => when (decide (f.owner = src)) s (s.setJob k { j with fwd := some { f with acked := true, resend := false } })
    | none => .next s
  | none => .next s

/-- The replica a forwarded job may go to (R106, R113). DEDUCED, log entry 31. -/
def State.replicaOf (s : State) (k : Nat) (j : Job) : Option Nat :=
  match s.credOf k j with
  | some h => (s.owner (hPage h)).2.1
  | none => none

/-- FORWARD_TIMEOUT (R113). A replica that is this device itself counts as none. DESIGN CHOICE, log entry 93. -/
def execForwardTimeout (tag : Nat) (s : State) : Host.Outcome State Fault Refusal :=
  match s.fwdJob tag with
  | some (k, j) => match j.fwd with
    | some f => .next (match s.replicaOf k j with
      | some r =>
        if f.onReplica ∨ r = f.owner ∨ r = s.devId then
          (((s.freeTag tag).inc36 P.place R.PLACE_FWD_FAILS).event P.place 2).fail k j S.forwardFail
        else s.sendFwd k j { f with owner := r, acked := false, onReplica := true, resend := false }
      | none => (((s.freeTag tag).inc36 P.place R.PLACE_FWD_FAILS).event P.place 2).fail k j S.forwardFail)
    | none => .next s
  | none => .next s

/-- MOVED (R69, R114): the owner is resolved again; a new owner is sent the forward at once, the same one after 2 µs. The job
stays DISPATCHED even where the new owner is this device: the limit of R113 runs on. DEDUCED, log entry 31. -/
def execMoved (tag : Nat) (epoch : BitVec 18) (s : State) : Host.Outcome State Fault Refusal :=
  match s.fwdJob tag with
  | some (k, j) => match j.fwd with
    | some f =>
      let s := (s.inc36 P.place R.PLACE_REDIRECTS).seeEpoch f.owner epoch
      .next (match s.credOf k j with
        | some h =>
          let o := (s.owner (hPage h)).1
          if o = f.owner then s.setJob k { j with fwd := some { f with resend := true } }
          else s.sendFwd k j { f with owner := o, acked := false, resend := false }
        | none => s)
    | none => .next s
  | none => .next s

/-- MOVED_RESEND (R114). -/
def execMovedResend (tag : Nat) (s : State) : Host.Outcome State Fault Refusal :=
  match s.fwdJob tag with
  | some (k, j) => match j.fwd with
    | some f => when f.resend s (s.sendFwd k j { f with acked := false, resend := false })
    | none => .next s
  | none => .next s

/-- HEARTBEAT (R113). -/
def execHeartbeat (dst : Nat) (s : State) : Host.Outcome State Fault Refusal :=
  when (s.jobs.any (fun e => match e.2 with
    | some j => (match j.origin with | some o => o.1 == dst | none => false)
    | none => false)) s (s.post (.heartbeat dst))

/-- An output buffer of a forwarded job is smaller than what came back for it (R62); the plaintext of KWP_UNWRAP is compared
as its input less 8 octets (R174). -/
def Job.outSmall (j : Job) (outs : List (Nat × List Octet)) : Bool :=
  outs.any (fun o => decide (j.supplied o.1 < max o.2.length (if j.opcode = 0o056 then j.declared 2 - 8 else 0)))

/-- FORWARD_RESULT_RECEIVE (R62, R112): the job completes with the owner's status, results and context, or INVALID_OPERAND
with nothing written where an output buffer is too small; a result that is no longer awaited is acknowledged and dropped.
DEDUCED, log entry 31. -/
def execForwardResultReceive (src tag status : Nat) (octets : List Octet) (outs : List (Nat × List Octet))
    (ctx : Option (List Word)) (s : State) : Host.Outcome State Fault Refusal :=
  let s := s.post (.resultAck src tag)
  match s.fwdJob tag with
  | some (k, j) => match j.fwd with
    | some f => when (decide (f.owner = src)) s
        (let s := s.freeTag tag
        if j.outSmall outs then s.fail k j S.invalidOperand
        else
          let s := outs.foldl (fun t o => t.toBuffer j o.1 o.2) s
          let s := s.finish k j status octets
          s.modJob k (fun x => { x with pendSess := if statusGood status then ctx else none }))
    | none => .next s
  | none => .next s

/-- RESULT_ACK_RECEIVE (R112). -/
def execResultAckReceive (src tag : Nat) (s : State) : Host.Outcome State Fault Refusal :=
  match s.job (foreignKey src tag) with
  | some j => when (decide (j.st = .done)) s (s.dropJob (foreignKey src tag))
  | none => .next s

/-- FORWARD_ABORT_RECEIVE (R115): the job is discarded and the abort acknowledged, both at its safe point where that cannot
be at once; a job no longer held is acknowledged too. -/
def execForwardAbortReceive (src tag : Nat) (s : State) : Host.Outcome State Fault Refusal :=
  let k := foreignKey src tag
  .next (match s.job k with
    | some j => if runsOn2 j then s.setJob k { j with orphan := true } else (s.discard k).post (.abortAck src tag)
    | none => s.post (.abortAck src tag))

/-- FORWARD_ABORT_ACK (R83, R115). -/
def execForwardAbortAck (q tag : Nat) (s : State) : Host.Outcome State Fault Refusal :=
  when ((s.queue q).aborts.contains tag) s
    ((s.setQueue q { s.queue q with aborts := drop1 (s.queue q).aborts tag }).freeTag tag)

/-! ### Links (R116 to R121) -/

/-- A port sends a NAK (R117). -/
def State.nak (s : State) (i : Nat) : State :=
  (s.setPort i { s.port i with naks := (s.port i).naks + 1 }).inc36 (P.dnl i) R.DNL_TX_FLITS

/-- A CRC error counts and is answered with a NAK; 16 within 1 ms are a burst, and the count begins anew (R117, R127).
DEDUCED, log entry 41. DEDUCED, log entry 46. -/
def State.crcError (s : State) (i : Nat) : State :=
  let l := (s.port i).crcAt.filter (fun t => decide (s.now < t + 1000000)) ++ [s.now]
  let burst := decide (16 ≤ l.length)
  let s := s.setPort i { s.port i with crcAt := if burst then [] else l }
  let s := ((s.nak i).inc36 (P.dnl i) R.DNL_CRC_ERRS).detect 16
  if burst then s.event (P.dnl i) 4 else s

/-- Flits up to an acknowledged one leave the replay buffer. -/
def ackReplay (l : List (Nat × List Octet)) (a : Nat) : List (Nat × List Octet) :=
  if l.any (fun f => f.1 == a) then (l.dropWhile (fun f => f.1 != a)).drop 1 else l

/-- A flit acknowledges what was sent (R117): waiting messages may follow, and a port with nothing to send has an idle
slot (R121). -/
def State.acked (s : State) (i ackseq : Nat) : State :=
  let v := s.port i
  let rest := ackReplay v.replay ackseq
  let t := s.setPort i { v with replay := rest, tries := if rest.length < v.replay.length then 0 else v.tries }
  let t := t.pump i v.wait.length
  if (t.port i).replay.isEmpty && (t.port i).wait.isEmpty then t.idleSlot i else t

/-- The payload of an in-order flit joins its message (R116); a link-control or time exchange flit carries none. -/
def Port.join (v : Port) (typ vc : Nat) (payload : List Octet) : Port :=
  if typ = 4 then { v with ready := v.ready ++ [(vc, payload)] }
  else if typ = 1 then { v with asm := payload }
  else if typ = 2 then { v with asm := v.asm ++ payload }
  else if typ = 3 then { v with ready := v.ready ++ [(vc, v.asm ++ payload)], asm := [] }
  else v

/-- A flit with a good CRC and a TYPE of Table 3-2: idle flits are not counted, an ACK/NAK flit only acknowledges, any other
is taken in order or answered with a NAK. -/
def State.takeFlit (s : State) (i typ vc seq ackseq : Nat) (payload : List Octet) : State :=
  let s := s.acked i ackseq
  let v := s.port i
  if typ = 0 then s
  else
    let s := s.inc36 (P.dnl i) R.DNL_RX_FLITS
    if typ = 5 then s
    else if seq = (v.rxSeq + 1) % 4096 then s.setPort i ({ v with rxSeq := seq }.join typ vc payload)
    else s.nak i

/-- FLIT_RECEIVE (R116, R117): the 64 octets of a flit. DEDUCED, log entry 41. DESIGN CHOICE, log entry 88. -/
def execFlitReceive (port : Nat) (flit : List Octet) (s : State) : Host.Outcome State Fault Refusal :=
  let o := (flit.getD 0 0).toNat
  let sq := beNat (sliceOct flit 1 3)
  let live := decide (s.lstate port = L.attest) || decide (s.lstate port = L.up)
  when live s
    (if leNat (sliceOct flit 60 4) ≠ (crc32 (sliceOct flit 0 60)).toNat ∨ 128 ≤ o then s.crcError port
    else s.takeFlit port (o / 16) (o / 4 % 4) (sq / 4096) (sq % 4096) (sliceOct flit 4 56))

/-- NAK_RECEIVE (R117): replay from the first unacknowledged flit; eight without acknowledgement fail the link. -/
def execNakReceive (port : Nat) (s : State) : Host.Outcome State Fault Refusal :=
  let v := s.port port
  let t := (s.setPort port { v with tries := v.tries + 1 }).inc36 (P.dnl port) R.DNL_REPLAYS
  let t := t.add36 (P.dnl port) R.DNL_TX_FLITS v.replay.length
  when (decide (s.lstate port = L.up) && !v.replay.isEmpty) s (if 8 ≤ v.tries + 1 then t.failLink port 7 else t)

/-- What a message for this device does that no command of its own carries out: the keeper answers a request for
resynchronisation (R109). -/
def State.delivered (s : State) (text : List Octet) : State :=
  match Config.asksResync text with
  | some src => if s.isKeeper then s.post (.resync src s.known) else s
  | none => s

/-- The text of a received message of `len` octets: its flits are of the right number, its tag is right and what follows it
is zero (R116, R118). -/
def State.opened (s : State) (i len : Nat) (raw : List Octet) : Option (List Octet) :=
  if raw.length = 56 * flitsOf len ∧ (raw.drop (len + 16)).all (fun o => o == 0) = true then
    gcmDec (beOctets 32 (s.port i).rxKey.toNat) (netIv (s.peerOf i) s.devId (s.port i).rxMsg) [] (raw.take len)
      (sliceOct raw len 16)
  else none

/-- DENLET_MESSAGE_RECEIVE (R118, R122): the oldest whole message received, `len` octets long, is decrypted; a tag failure
fails the link; a message for another device is routed on; one for this device is delivered. -/
def execDenletMessageReceive (port len dst : Nat) (s : State) : Host.Outcome State Fault Refusal :=
  let v := s.port port
  match v.ready with
  | [] => .next s
  | (vc, raw) :: rest =>
    when (decide (s.lstate port = L.up)) s
      (match s.opened port len raw with
      | none => (s.detect 16).failLink port 6
      | some text =>
        let s := s.setPort port { v with ready := rest, rxMsg := v.rxMsg + 1 }
        if dst = s.devId then s.delivered text else s.post (.through dst port vc text))

/-- A link key (R118, R119): the KDF with HMAC-SHA-384 over the agreement's secret. -/
def netKey (secret : List Octet) (src dst gen : Nat) : BitVec 256 :=
  BitVec.ofNat 256 (beNat (kdfHmac 2 secret (Config.linkLabel src dst gen) 32))

/-- LINK_REKEY (R118): the counter of a direction starts anew under its next key. -/
def execLinkRekey (port : Nat) (tx : Bool) (s : State) : Host.Outcome State Fault Refusal :=
  let v := s.port port
  let peer := s.peerOf port
  when (decide (s.lstate port = L.up) && decide (2 ^ 32 ≤ (if tx then v.txMsg else v.rxMsg))) s
    (s.setPort port (if tx then
      { v with txMsg := 0, txGen := v.txGen + 1, txKey := netKey v.secret s.devId peer (v.txGen + 1) }
    else { v with rxMsg := 0, rxGen := v.rxGen + 1, rxKey := netKey v.secret peer s.devId (v.rxGen + 1) }))

/-- DENLET_SILENCE (R117). -/
def execDenletSilence (port : Nat) (s : State) : Host.Outcome State Fault Refusal :=
  when (decide (s.lstate port = L.up)) s ((s.detect 16).failLink port 5)

/-- TRAIN_DONE (R119): in ATTEST the port presents the certificates of CERT_SECTOR. -/
def execTrainDone (port : Nat) (ok : Bool) (s : State) : Host.Outcome State Fault Refusal :=
  let t := s.setLink port L.attest 0
  when (decide (s.lstate port = L.train)) s
    (if ok then { t with net := { t.net with out := t.net.out ++ [.certs port (s.rfld P.dnlx R.DNLX_CERT_SECTOR 9 0)] } }
    else s.failLink port 1)

/-- The trust anchors a peer's chains lead to are the system's: their SHA3-256 digest is the key of TRUST_SLOT (R119). -/
def State.anchored (s : State) (anchors : List Octet) : Bool :=
  let v := s.slot (s.rfld P.dnlx R.DNLX_TRUST_SLOT 15 0)
  decide (v.state = 1) && v.key == BitVec.ofNat 256 (beNat (sha3_256 anchors))

/-- The slot of the identity seed is live, so this device can sign and agree on keys (R119). -/
def State.hasIdentity (s : State) : Bool := decide ((s.slot (s.rfld P.dnlx R.DNLX_ID_SLOT 15 0)).state = 1)

/-- The port goes UP with fresh link keys (R119). -/
def State.linkUpNow (s : State) (i peer : Nat) : State :=
  let sec := Config.linkSecret s.fresh
  let s : State := { s with fresh := s.fresh + 1 }
  let s := s.setPort i { s.port i with
    txMsg := 0, rxMsg := 0, txGen := 0, rxGen := 0, secret := sec, txKey := netKey sec s.devId peer 0,
    rxKey := netKey sec peer s.devId 0, asm := [], ready := [], eqInsert := false, eqRun := 0, tries := 0 }
  ((s.setLink i L.up 0).setStat (P.dnl i) ST.ready true).event (P.dnl i) 0

/-- ATTEST_DONE (R119, R110): whether the chains are sound, the anchors they lead to, whether signatures and key agreement
pass, and what the peer presents. A refused epoch raises EPOCH_REJECT alone. DESIGN CHOICE, log entry 89.
DESIGN CHOICE, log entry 93. -/
def execAttestDone (port : Nat) (certOk : Bool) (anchors : List Octet) (sigOk : Bool) (peer : Nat) (epoch : BitVec 18)
    (s : State) : Host.Outcome State Fault Refusal :=
  let p := P.dnl port
  let t := s.setReg p R.DNL_PEER_EPOCH epoch
  let bad (c : Nat) : State := (t.failLink port c).event p 2
  when (decide (s.lstate port = L.attest)) s
    (if !certOk || !s.anchored anchors then bad 2
    else if !sigOk || !s.hasIdentity then bad 3
    else
      let t := t.setReg p R.DNL_PEER_ID (wd (2 ^ 17 + peer))
      if peer = s.devId then ((t.failLink port 4).event p 2)
      else if epochRel s.net.applied.epoch epoch = .rejected then ((t.failLink port 8).event p 3)
      else ((t.linkUpNow port peer).seeEpoch peer epoch).retry)

/-- EQ_IDLE_INSERT (R121): from now on one idle flit in every 4,096, until an adaptation step has been taken. -/
def execEqIdleInsert (port : Nat) (s : State) : Host.Outcome State Fault Refusal :=
  when (decide (s.lstate port = L.up) && !s.eqFrozen port) s
    (s.setPort port { s.port port with eqInsert := true, eqRun := 0 })

/-- EN written 1 on a port: it trains (R119). -/
def State.startPort (s : State) (i : Nat) : State := (s.setLink i L.train 0).setPort i Port.idle

/-- EN written 0 on a port (R119, R120): one that is not UP is DOWN at once; an UP port takes no new message, lets waiting
ones go another way, and sends a link-control close behind the message in progress. -/
def State.stopPort (s : State) (i : Nat) : State :=
  if s.lstate i = L.up then
    (((s.setStat (P.dnl i) ST.stopping true).setStat (P.dnl i) ST.ready false).sendFlit i 7 0 []).spill i
  else (s.setLink i L.down 9).setStat (P.dnl i) ST.ready false

/-- A port's shutdown ends: DOWN with cause STOPPED (R120). LINK_DOWN is raised also where the link was not UP when EN was
written 0. DESIGN CHOICE, log entry 93. -/
def State.portStopped (s : State) (i : Nat) : State := ((s.setLink i L.down 9).setPort i Port.idle).event (P.dnl i) 1

/-! ### Routes and topology (R122, R128) -/

/-- Advance ROUTE_SEL under AUTOINC. -/
def State.netRouteNext (s : State) : State :=
  if s.rbit P.dnlx R.DNLX_ROUTE_SEL 17 then
    s.setRfld P.dnlx R.DNLX_ROUTE_SEL 15 0 (s.rfld P.dnlx R.DNLX_ROUTE_SEL 15 0 + 1)
  else s

/-- A read of DNLX.ROUTE_DATA. -/
def State.rNetRoute (s : State) : State × Word :=
  (s.netRouteNext, Map.get (dflt 0) s.net.routes (s.rfld P.dnlx R.DNLX_ROUTE_SEL 15 0))

/-- A write of DNLX.ROUTE_DATA: messages held for want of a route are tried again. -/
def State.wNetRoute (s : State) (val : Word) : State :=
  let r := Map.put (dflt 0) s.net.routes (s.rfld P.dnlx R.DNLX_ROUTE_SEL 15 0) (val &&& 0o770000)
  let t : State := { s with net := { s.net with routes := r } }
  t.netRouteNext.retry

/-- A write of TOPO: MODE 3 is dropped (R122). -/
def State.wTopo (s : State) (req : Requester) (val : Word) : State :=
  if bits val 1 0 = 3 then s.pgErr P.dnlx 0 req R.DNLX_TOPO else (s.setReg P.dnlx R.DNLX_TOPO (val &&& 3)).retry

/-! ### System time (R123, R124) -/

/-- TIME_STAT.MASTER shows whether this device is the master from the first write of TIME_CFG or DEV_ID on; it resets to 0
(Table 3-9). DESIGN CHOICE, log entry 93. -/
def State.showMaster (s : State) : State :=
  s.setRbit P.dnlx R.DNLX_TIME_STAT 16 (s.rfld P.dnlx R.DNLX_TIME_CFG 15 0 == s.devId)

/-- This device is the time master. -/
def State.timeMaster (s : State) : Bool := s.rfld P.dnlx R.DNLX_TIME_CFG 15 0 == s.devId

/-- TIME_STAT.LOCKED goes to 0. -/
def State.timeUnlock (s : State) : State :=
  let s : State := { s with clock := { s.clock with good := 0 } }
  if s.rbit P.dnlx R.DNLX_TIME_STAT 17 then (s.setRbit P.dnlx R.DNLX_TIME_STAT 17 false).event P.dnlx 1 else s

/-- The offset register: 18 bits, two's complement, saturating (Table 3-9). -/
def satOfs (o : Int) : Word := BitVec.ofInt 18 (max (-131072) (min 131071 o))

/-- Follow the master (R123): a step forward when more than 1 ms behind, otherwise the offset is left to be slewed, which a
tick does by at most 100 ppm. -/
def Clock.toward (c : Clock) (ofs : Int) : Clock :=
  if ofs < -1000000 then { c with sys := c.sys + BitVec.ofNat 72 (-ofs).toNat, slew := 0 } else { c with slew := ofs }

/-- The own offset from the master, the lock and the slew after an exchange (R123): `ofs` is own time less the master's, in
ns. -/
def State.follow (s : State) (ofs : Int) : State :=
  let good := if ofs.natAbs ≤ 100 then min 16 (s.clock.good + 1) else 0
  let t := s.setReg P.dnlx R.DNLX_TIME_OFS (satOfs ofs)
  let t : State := { t with clock := { t.clock.toward ofs with good := good } }
  if 1000 < ofs.natAbs then t.timeUnlock
  else if good = 16 ∧ t.rbit P.dnlx R.DNLX_TIME_STAT 17 = false then (t.setRbit P.dnlx R.DNLX_TIME_STAT 17 true).event P.dnlx 0
  else t

/-- The port toward the time master. -/
def State.masterPort (s : State) : Option Nat := (s.route (s.rfld P.dnlx R.DNLX_TIME_CFG 15 0)).map (fun r => r.1)

/-- TIME_EXCHANGE (R123): the four time stamps of an exchange on a port in ns: own send, peer receive, peer send, own
receive. Every UP port measures its path delay; the exchange toward the master gives the offset. DEDUCED, log entry 41. -/
def execTimeExchange (port t1 t2 t3 t4 : Nat) (s : State) : Host.Outcome State Fault Refusal :=
  let delay := ((t4 - t1) - (t3 - t2)) / 2
  let ofs : Int := (((t1 : Int) - t2) + ((t4 : Int) - t3)) / 2
  let t := s.setPort port { s.port port with delay := delay }
  when (decide (s.lstate port = L.up)) s
    (if !s.timeMaster && decide (s.masterPort = some port) then t.follow ofs else t)

/-- TIME_MASTER_LOSS (R123): the device runs free on SYSCLK. -/
def execTimeMasterLoss (s : State) : Host.Outcome State Fault Refusal :=
  when (!s.timeMaster) s { s.timeUnlock with clock := { s.timeUnlock.clock with slew := 0 } }

/-- TIME_SET0 to TIME_SET2 keep their word; only the master accepts them (R124). -/
def State.wTimeSet (s : State) (req : Requester) (word : Nat) (val : Word) : State :=
  if !s.timeMaster then s.pgErr P.dnlx 2 req word
  else if word = R.DNLX_TIME_SET then { s with clock := { s.clock with set0 := val } }
  else if word = R.DNLX_TIME_SET + 1 then { s with clock := { s.clock with set1 := val } }
  else if word = R.DNLX_TIME_SET + 2 then { s with clock := { s.clock with set2 := val } }
  else
    let v : BitVec 72 := val ++ s.clock.set2 ++ s.clock.set1 ++ s.clock.set0
    if v < s.clock.sys then s.pgErr P.dnlx 1 req word else { s with clock := { s.clock with sys := v } }

/-- TIME_SET (R124): the write of word 3. -/
def execTimeSet (req : Requester) (val : Word) (s : State) : Host.Outcome State Fault Refusal :=
  s.written P.dnlx (s.wTimeSet req (R.DNLX_TIME_SET + 3) val)

end Sys2Proof.Machine
end

