-- ==== Sys2Proof/Machine/Station.lean ====
section
/-! DEFINITION. What contact and contactless stations share (R349, R364 to R369, R400): check sequences, the form of a
command APDU, starting a job at a station, its outcome, replay records, identification of an item's medium (R419). -/
namespace Sys2Proof.Machine

/-! ### Check sequences -/

/-- One octet into a 16-bit CRC with polynomial x^16 + x^12 + x^5 + 1, least significant bit first (PRESUMED, log entry 48). -/
def crc16Step (c : BitVec 16) (o : Octet) : BitVec 16 :=
  (List.range 8).foldl (fun c i => if c.getLsbD 0 != o.getLsbD i then (c >>> 1) ^^^ 0x8408 else c >>> 1) c

/-- The CRC of octets from an initial value. -/
def crc16 (init : BitVec 16) (l : List Octet) : BitVec 16 := l.foldl crc16Step init

/-- CRC_A of ISO/IEC 14443-3, least significant octet first. PRESUMED, log entry 48. -/
def crcA (l : List Octet) : List Octet := leOctets 2 (crc16 0x6363 l).toNat

/-- CRC_B of ISO/IEC 14443-3. PRESUMED, log entry 48. -/
def crcB (l : List Octet) : List Octet := leOctets 2 (~~~(crc16 0xFFFF l)).toNat

/-- The longitudinal redundancy check of T=1. PRESUMED, log entry 48. -/
def lrc (l : List Octet) : Octet := l.foldl (· ^^^ ·) 0

/-- The EDC of a T=1 block: LRC, or the CRC of ISO/IEC 13239 (PRESUMED, log entry 48). -/
def edc (crc : Bool) (l : List Octet) : List Octet :=
  if crc then beOctets 2 (~~~(crc16 0xFFFF l)).toNat else [lrc l]

/-! ### APDUs (ISO/IEC 7816-4) -/

/-- The form of a command APDU. -/
structure Apdu where
  /-- extended lengths -/
  ext : Bool
  /-- the command data -/
  data : List Octet
  /-- Ne, the response octets expected -/
  ne : Nat
  /-- P3 of a T=0 header -/
  p3 : Octet
  deriving DecidableEq, Repr

/-- The form of `l`; `none` for a form that is none of cases 1 to 4 (R367). -/
def apduForm (l : List Octet) : Option Apdu :=
  let n := l.length
  let b (i : Nat) : Nat := (l.getD i 0).toNat
  let short (v : Nat) : Nat := if v = 0 then 256 else v
  let ext (i : Nat) : Nat := let v := b i * 256 + b (i + 1); if v = 0 then 65536 else v
  if n < 4 then none
  else if n = 4 then some ⟨false, [], 0, 0⟩
  else if n = 5 then some ⟨false, [], short (b 4), l.getD 4 0⟩
  else if b 4 ≠ 0 then
    let lc := b 4
    if n = 5 + lc then some ⟨false, l.drop 5, 0, l.getD 4 0⟩
    else if n = 6 + lc then some ⟨false, (l.drop 5).take lc, short (b (n - 1)), l.getD 4 0⟩
    else none
  else if n = 7 then some ⟨true, [], ext 5, 0⟩
  else
    let lc := b 5 * 256 + b 6
    if lc = 0 then none
    else if n = 7 + lc then some ⟨true, l.drop 7, 0, 0⟩
    else if n = 9 + lc then some ⟨true, (l.drop 7).take lc, ext (n - 2), 0⟩
    else none

/-- The form of the APDU an exchange sends. -/
def Exch.form (x : Exch) : Apdu := (apduForm x.cmd).getD ⟨false, [], 0, 0⟩

/-! ### Jobs at a station -/

/-- The job a station runs. -/
def State.stnJob (s : State) (p : Nat) : Option (Nat × Job) :=
  match s.runsOn p with
  | some k => (s.job k).map (fun j => (k, j))
  | none => none

/-- Complete a job of a station: LAST, INDET, the replay record or the item's record, and the job itself (R365, R369,
R413). -/
def State.stnFinish (s : State) (k : Nat) (j : Job) (status : Nat) (result : List Octet := []) : State :=
  let n := j.stnNo
  let p := stnPage n
  let s := s.setReg p (if n < 16 then R.CST_LAST else R.FST_LAST) (wd (2 ^ 17 + status))
  let s := if status = S.indeterminate then
      (if n < 16 then (s.setRbit p R.CST_STAT 8 true).event p 1 else (s.setRbit p R.FST_STAT 6 true).event p 2)
    else s
  let s := if j.bound then s.recordBound j status result
    else if j.orphan && decide ((s.replays n).length < 4) then
      s.setReplays n (s.replays n ++ [⟨j.queue, j.pos, j.stnOp, status, result⟩])
    else s
  s.finish k j status result

/-- A job may start at its station: oldest of a READY station that runs none (R349); a bound one in its admitted window
(R416). -/
def State.stnTurn (s : State) (k : Nat) (j : Job) : Bool :=
  let p := j.stationPage
  decide (j.st = .dispatched) && decide (j.unit = some p) && decide ((s.inQ p).head? = some k) && (s.runsOn p).isNone && s.serves p &&
    (!j.bound || (match s.window j.itemNo j.stnNo with | some w => w.admitted | none => false))

/-- The outcome a job gets from replay records alone (R369): its recorded one, or POLICY_REFUSED while all are held.
DEDUCED, log entry 64. -/
def State.replayOf (s : State) (j : Job) : Option (Nat × List Octet) :=
  if j.bound then none
  else
    let l := s.replays j.stnNo
    match l.find? (fun r => r.queue == j.queue && r.pos == j.pos && r.opcode == j.stnOp) with
    | some r => some (r.status, replayed j.isApdu r.result)
    | none => if 4 ≤ l.length then some (S.policyRefused, []) else none

/-- Reserved or unused OPARG fields of a station operation (R366, R398). -/
def Job.stnArgBad (j : Job) : Bool :=
  let a := j.stnArg.toNat
  let allowed : Nat := match j.stnOp with
    | 0o400 => 0x3F | 0o401 => 0x4F | 0o440 => 0x6FF | 0o441 => 0x10F | _ => 0xF
  decide (a &&& allowed ≠ a) || ((decide (j.stnOp = 0o400) || decide (j.stnOp = 0o440)) && decide (a / 16 % 4 = 3))

/-- The checks of a station APDU that need neither card nor tag (R367 items 1 to 4): the status it fails with, or none;
the outer answer is `none` while something has not arrived. DEDUCED, log entry 62. -/
def State.apduCheck (_s : State) (j : Job) : Option (Option Nat) :=
  let c := j.stnCell 1
  let o := j.stnCell 2
  if j.sgBad c || j.sgBad o then some (some S.invalidOperand)
  else if !(j.lenKnown c && j.lenKnown o) then (if j.hostErr then some (some S.aborted) else none)
  else if j.declared c < 4 ∨ 65544 < j.declared c then some (some S.invalidOperand)
  else if j.supplied c < j.declared c then some (some S.short)
  else if j.hostErr then some (some S.aborted)
  else if !j.dataHere c then none
  else if (apduForm (j.data c)).isNone then some (some S.invalidOperand)
  else some none

/-- An output buffer below Ne (R62, R367 item 6). -/
def Job.respSmall (j : Job) : Bool :=
  match apduForm (j.data (j.stnCell 1)) with
  | some f => decide (j.supplied (j.stnCell 2) < f.ne)
  | none => true

/-! ### Identification (R419) -/

/-- The card or tag of a station is no longer the one identified. DEDUCED, log entry 64. -/
def State.clearIdent (s : State) (k : Nat) : State :=
  { s with line := { s.line with windows := s.line.windows.map (fun w => if w.stn = k then { w with ident := false } else w) } }

/-- An association failure. DEDUCED, log entry 64. -/
def State.assocFail (s : State) (n : Nat) : State :=
  ((((s.rejectItem n 3).incSat P.line R.LINE_ASSOC_FAILS).event P.line 3).detect 20)

/-- The card or tag at a station is identified as an item's, and its identifier stored where none is set. -/
def State.identified (s : State) (n k : Nat) (id : List Octet) : State :=
  let s := s.modItem n (fun i => if i.ident = [] then { i with ident := id } else i)
  { s with line := { s.line with
      windows := s.line.windows.map (fun w => if w.item = n ∧ w.stn = k then { w with ident := true } else w),
      matched := if s.line.matched.contains (n, k) then s.line.matched else s.line.matched ++ [(n, k)] } }

/-- The identifier the ledger holds for an item; empty while ID_SET is 0. -/
def State.ledgerId (s : State) (n : Nat) : List Octet := match s.item n with | some i => i.ident | none => []

/-- A bound WRITE APDU without an identification in its window (R419). DEDUCED, log entry 64. -/
def State.unidentified (s : State) (j : Job) : Bool :=
  j.bound && j.isWrite && (match s.window j.itemNo j.stnNo with | some w => !w.ident | none => true)

/-! ### The outcome of an APDU (R368, Table 13-8) -/

/-- The 8 result octets; `extra` is what the rate or protocol octet holds. -/
def apduResult (x : Exch) (sw : List Octet) (written extra : Nat) (trunc : Bool) : List Octet :=
  sliceOct sw 0 2 ++ beOctets 3 written ++ [BitVec.ofNat 8 extra, BitVec.ofNat 8 (min 255 x.reps),
    BitVec.ofNat 8 (b2n trunc + 2 * b2n (decide (x.follow ≠ 0)) + 4 * b2n x.implicit)]

/-- An APDU whose final status word has arrived: response data up to Ne and the result are written (R368); an IDREAD
compares or stores the identifier (R419). DEDUCED, log entry 63. -/
def State.apduEnd (s : State) (k : Nat) (j : Job) (x : Exch) (sw data : List Octet) (extra : Nat) : State :=
  let ne := x.form.ne
  let w := data.take ne
  let r := apduResult x sw w.length extra (decide (ne < data.length))
  let status := if sw = [0x90, 0x00] then j.goodStatus else S.cardStatus
  let s := s.toBuffer j (j.stnCell 2) w
  if j.bound && tb j.oparg 9 && decide (status ≠ S.cardStatus) then
    let off := bits (j.dw 1 2) 7 0
    let len := bits (j.dw 1 2) 11 8
    let id := (data.drop off).take len
    let led := s.ledgerId j.itemNo
    if id.length = len ∧ (led = [] ∨ led = id) then (s.identified j.itemNo j.stnNo id).stnFinish k j status r
    else (s.assocFail j.itemNo).stnFinish k j S.policyRefused r
  else s.stnFinish k j status r

end Sys2Proof.Machine
end

