-- ==== Sys2Proof/Machine/Contact.lean ====
section
/-! DEFINITION. Contact stations (R349 to R371): activation and the ATR, parameters, T=0, T=1, clock stop, removal and
deactivation, the station's jobs. -/
namespace Sys2Proof.Machine

/-! ### The ATR (R355) -/

/-- An interface octet: its group i, the protocol T its group belongs to, its letter (0 TA, 1 TB, 2 TC, 3 TD), the octet. -/
structure IfOct where
  /-- i -/
  grp : Nat
  /-- T -/
  prot : Nat
  /-- letter -/
  let_ : Nat
  /-- value -/
  oct : Octet
  deriving DecidableEq, Repr

/-- The octets of one group present under a Y nibble, and what follows. -/
def groupOcts (i prot y : Nat) : List Nat → List Octet → Option (List IfOct × List Octet)
  | [], l => some ([], l)
  | b :: bs, l =>
    if y.testBit b then
      match l with
      | [] => none
      | o :: r => (groupOcts i prot y bs r).map (fun x => (⟨i, prot, b, o⟩ :: x.1, x.2))
    else groupOcts i prot y bs l

/-- All interface octets, group by group. -/
def ifOcts : Nat → Nat → Nat → Nat → List Octet → Option (List IfOct × List Octet)
  | 0, _, _, _, _ => none
  | f + 1, i, prot, y, l =>
    match groupOcts i prot y [0, 1, 2, 3] l with
    | none => none
    | some (g, r) =>
      match g.find? (fun o => o.let_ == 3) with
      | none => some (g, r)
      | some td => (ifOcts f (i + 1) (td.oct.toNat % 16) (td.oct.toNat / 16) r).map (fun x => (g ++ x.1, x.2))

/-- A valid ATR's interface octets; `none` for one that fails (R355): TS, length, TCK. DEDUCED, log entry 62. -/
def parseAtr (l : List Octet) : Option (List IfOct) :=
  match l with
  | ts :: t0 :: r =>
    if (ts ≠ 0x3B ∧ ts ≠ 0x3F) ∨ 33 < l.length then none
    else match ifOcts 33 1 0 (t0.toNat / 16) r with
      | none => none
      | some (f, r) =>
        let tck := f.any (fun o => o.let_ == 3 && decide (o.oct.toNat % 16 ≠ 0))
        if r.length ≠ t0.toNat % 16 + b2n tck then none
        else if tck && lrc (l.drop 1) ≠ 0 then none
        else some f
  | _ => none

/-- The interface octet of a group and letter. -/
def atrOct (f : List IfOct) (i let_ : Nat) : Option Octet := (f.find? (fun o => o.grp == i && o.let_ == let_)).map (·.oct)

/-- The first octet of a letter that belongs to a protocol, from group 3 on. -/
def atrFor (f : List IfOct) (prot let_ : Nat) : Option Octet :=
  (f.find? (fun o => decide (3 ≤ o.grp) && o.prot == prot && o.let_ == let_)).map (·.oct)

/-- The protocols offered, in order: T=0 where no TD1 is present. -/
def atrProts (f : List IfOct) : List Nat :=
  let l := ((f.filter (fun o => o.let_ == 3)).map (fun o => o.oct.toNat % 16)).filter (fun t => t != 15)
  if l = [] then [0] else l

/-- The interface octets of the ATR a station holds. -/
def Cst.ifs' (c : Cst) : List IfOct := (parseAtr c.atr).getD []

/-- The clock stop indicator X: 0 none, 1 low, 2 high, 3 either (R363). -/
def Cst.stopInd (c : Cst) : Nat := match atrFor c.ifs' 15 0 with | some o => o.toNat / 64 | none => 0

/-- fmax of an FI code in units of 40 kHz (ISO/IEC 7816-3, PRESUMED, log entry 47). -/
def fmaxOf (fi : Nat) : Nat :=
  match fi with
  | 0 => 100 | 1 => 125 | 2 => 150 | 3 => 200 | 4 => 300 | 5 => 400 | 6 => 500 | 9 => 125 | 10 => 187 | 11 => 250
  | 12 => 375 | 13 => 500
  | n => (Config.freeWord (n + 4096)).toNat % 512

/-! ### Station state -/

/-- STAT.PHASE. -/
def State.cphase (s : State) (n : Nat) : Nat := s.rfld (P.cst n) R.CST_STAT 2 0
/-- Set STAT.PHASE. -/
def State.setCphase (s : State) (n v : Nat) : State := s.setRfld (P.cst n) R.CST_STAT 2 0 v
/-- STAT.PRESENT. -/
def State.cpresent (s : State) (n : Nat) : Bool := s.rbit (P.cst n) R.CST_STAT 3
/-- A card is active: idle, clock stopped or in an exchange. -/
def State.cactive (s : State) (n : Nat) : Bool := decide (2 ≤ s.cphase n) && decide (s.cphase n ≤ 4)
/-- STAT.EXPOSED. -/
def State.cexposed (s : State) (n : Nat) : Bool := s.rbit (P.cst n) R.CST_STAT 7
/-- Set STAT.EXPOSED. -/
def State.setCexposed (s : State) (n : Nat) (b : Bool) : State := s.setRbit (P.cst n) R.CST_STAT 7 b
/-- STAT.PROTO: T=1. -/
def State.cT1 (s : State) (n : Nat) : Bool := s.rbit (P.cst n) R.CST_STAT 6
/-- Change a station's exchange. -/
def State.modCx (s : State) (n : Nat) (f : Exch → Exch) : State := s.setCst n { s.cst n with x := f (s.cst n).x }
/-- A field of CFG that acts as 1 when 0. -/
def State.ccfg1 (s : State) (n hi lo : Nat) : Nat := max 1 (s.rfld (P.cst n) R.CST_CFG hi lo)

/-- One more repetition, retransmission or follow-up (REPEATS, Table 13-8 octet 6). -/
def State.crep (s : State) (n k : Nat) : State :=
  s.each (List.range k) (fun t _ => (t.incSat (P.cst n) R.CST_REPEATS).modCx n (fun x => { x with reps := x.reps + 1 }))

/-! ### Activation and deactivation (R353, R354, R365) -/

/-- The permitted classes, the lowest voltage first: 3 C, 2 B, 1 A. -/
def State.cclasses (s : State) (n : Nat) : List Nat := [3, 2, 1].filter (fun c => s.rbit (P.cst n) R.CST_CFG (c - 1))

/-- Begin an activation at a class: it waits for its power first (R352, R489). -/
def State.cbegin (s : State) (n cls : Nat) (noPps : Bool) : State :=
  let p := P.cst n
  let s := (s.setCphase n 1).setRfld p R.CST_STAT 5 4 cls
  let s := ((s.setRbit p R.CST_STAT 8 false).setRbit p R.CST_STAT 10 false).setRbit p R.CST_STAT 6 false
  let s := s.setCst n { s.cst n with
    cls := cls, noPps := noPps, warmed := false, pps := [], next := .rest, endWith := none, t0 := .idle, resync := 0,
    ifs := 0, wtx := 1 }
  s.setWaits (s.stn.waits ++ [p])

/-- The first octet of a command has gone to the card; the IFS request of R361 comes before it. -/
def Cst.cmdBegun (c : Cst) : Bool := c.x.sent && decide (c.ifs ≠ 1)

/-- The result of an APDU that ended without a status word; none before its first octet. -/
def State.cfailResult (s : State) (n : Nat) (j : Job) : List Octet :=
  let x := (s.cst n).x
  if j.isApdu && (s.cst n).cmdBegun then apduResult x [] 0 (b2n (s.cT1 n)) false else []

/-- What follows once a card is deactivated. -/
def State.cafter (s : State) (n : Nat) : State :=
  let p := P.cst n
  let c := s.cst n
  let s := ((s.setCphase n 0).setRfld p R.CST_STAT 5 4 0).setCexposed n false
  let s := s.releasePower p
  match s.stnJob p with
  | none => s.setCst n { s.cst n with next := .rest, endWith := none }
  | some (k, j) =>
    let gone := !s.cpresent n
    match c.next with
    | .rest =>
      let s := s.setCst n { s.cst n with endWith := none }
      (match c.endWith with
        | some st => s.stnFinish k j st (if st = S.ok then [] else s.cfailResult n j)
        | none => s)
    | .retry _ => if gone then (s.setCst n { s.cst n with next := .rest }).stnFinish k j S.removed else s
    | .again => if gone then (s.setCst n { s.cst n with next := .rest }).stnFinish k j S.removed else s.cbegin n c.cls true
    | .fresh =>
      if gone then (s.setCst n { s.cst n with next := .rest }).stnFinish k j S.removed
      else match s.cclasses n with
        | cl :: _ => s.cbegin n cl false
        | [] => (s.setCst n { s.cst n with next := .rest }).stnFinish k j S.protocolError

/-- Begin a deactivation (Table 13-4). A card that is not powered yet needs none. DEDUCED, log entry 62. -/
def State.cdeact (s : State) (n : Nat) (next : CstNext) (endWith : Option Nat) : State :=
  let s := (s.setCst n { s.cst n with next := next, endWith := endWith, pps := [], t0 := .idle }).clearIdent n
  if s.cphase n = 0 ∨ (s.cphase n = 1 ∧ (s.cst n).admitted = false) then s.cafter n
  else s.setCphase n 5

/-- The status of a failed exchange or an over-current (R351, Table 13-5). -/
def State.cfailStatus (s : State) (n : Nat) (j : Job) : Nat :=
  if j.isWrite && s.cexposed n then S.indeterminate else S.protocolError

/-- A failed exchange: the card is deactivated (R359, R362, R365). DEDUCED, log entry 63. -/
def State.cfail (s : State) (n : Nat) : State :=
  match s.stnJob (P.cst n) with
  | some (_, j) => s.cdeact n .rest (some (s.cfailStatus n j))
  | none => s.cdeact n .rest none

/-- The next permitted class, or the end of the attempts (R354). -/
def State.cnextClass (s : State) (n : Nat) : State :=
  match (s.cclasses n).filter (fun c => decide (c < (s.cst n).cls)) with
  | c :: _ => s.cdeact n (.retry c) none
  | [] => s.cdeact n .rest (some S.protocolError)

/-- A shutting station whose job has ended deactivates its card (R371). -/
def State.crest (s : State) (n : Nat) : State :=
  if s.stat (P.cst n) ST.stopping && (s.runsOn (P.cst n)).isNone && (s.cphase n == 2 || s.cphase n == 3) then
    s.cdeact n .rest none
  else s

/-! ### Sending to the card -/

/-- Begin the T=0 command given by a header and its data (R358 to R360, R364). -/
def State.t0Send (s : State) (n : Nat) (hdr data : List Octet) (expect : Nat) : State :=
  let s := s.setCst n { s.cst n with
    t0 := .proc, expect := expect,
    x := { (s.cst n).x with left := data, tx := hdr, out := hdr, sent := true } }
  if data = [] ∧ (s.cst n).x.past = false then s.setCexposed n true else s

/-- A T=1 block. -/
def State.t1Block (s : State) (n pcb : Nat) (inf : List Octet) : List Octet :=
  let b : List Octet := [0, BitVec.ofNat 8 pcb, BitVec.ofNat 8 inf.length] ++ inf
  b ++ edc (s.rbit (P.cst n) R.CST_T1STAT 10) b

/-- Send an S- or R-block. -/
def State.t1Ctl (s : State) (n pcb : Nat) (inf : List Octet) : State :=
  s.modCx n (fun x => { x with out := s.t1Block n pcb inf })

/-- Send the next I-block of the command; the last one begins exposure (R361, R364). -/
def State.t1Next (s : State) (n : Nat) : State :=
  let p := P.cst n
  let x := (s.cst n).x
  let size := max 1 (s.rfld p R.CST_T1STAT 7 0)
  let rest := x.left.drop size
  let b := s.t1Block n (b2n (s.rbit p R.CST_T1STAT 8) * 64 + b2n (!rest.isEmpty) * 32) (x.left.take size)
  let s := s.setRbit p R.CST_T1STAT 8 (!s.rbit p R.CST_T1STAT 8)
  let s := s.modCx n (fun x => { x with left := rest, tx := b, out := b, sent := true })
  if rest = [] then s.setCexposed n true else s

/-- The first octet of a command goes to the card: T=0 its header, T=1 its first block, after the IFS request (R361).
DEDUCED, log entry 63. -/
def State.csend (s : State) (n : Nat) : State :=
  let s := s.inc36 (P.cst n) R.CST_EXCHANGES
  let c := s.cst n
  let f := c.x.form
  if s.cT1 n then
    if c.ifs = 0 then
      (s.setCst n { c with ifs := 1, x := { c.x with sent := true } }).t1Ctl n 0xC1 [254]
    else s.t1Next n
  else s.t0Send n (c.x.cmd.take 4 ++ [f.p3]) f.data (if f.data = [] then f.ne else 0)

/-- Begin the exchange of an APDU on an active card (R367 items 5 and 6): a stopped clock is restarted first, and the
command follows with the job's next CST_APDU or LINE_ITEM (R363). DEDUCED, log entry 63. -/
def State.ccommand (s : State) (n k : Nat) (j : Job) (implicit : Bool) : State :=
  let cmd := j.data (j.stnCell 1)
  let x : Exch := { Exch.none with cmd := cmd, left := cmd, implicit := implicit }
  if x.form.ext && !s.cT1 n then (s.setCphase n 2).stnFinish k j S.unsupported
  else if j.respSmall then (s.setCphase n 2).stnFinish k j S.invalidOperand
  else if s.unidentified j then (s.setCphase n 2).stnFinish k j S.policyRefused
  else
    let stopped := decide (s.cphase n = 3)
    let s := s.setCst n { s.cst n with x := x, t0 := .idle, resync := 0, wtx := 1 }
    let s := s.setCphase n 4
    if stopped then s else (s.setJob k { j with begun := true }).csend n

/-! ### Parameters (R356, R357) -/

/-- The activation is complete: parameters settled, the job goes on (R356, Table 13-7). DEDUCED, log entry 62. -/
def State.csettle (s : State) (n : Nat) (pair : Octet) (t1 : Bool) : State :=
  let p := P.cst n
  let c := s.cst n
  let num := min (s.rfld p R.CST_FMAX 8 0) (fmaxOf (pair.toNat / 16))
  let s := s.setReg p R.CST_PARAM (wd (num * 256 + pair.toNat))
  let s := (s.setCphase n 2).setRbit p R.CST_STAT 6 t1
  let ifsc := match atrFor c.ifs' 1 0 with | some o => o.toNat | none => 32
  let crc := match atrFor c.ifs' 1 2 with | some o => o.toNat % 2 | none => 0
  let s := s.setReg p R.CST_T1STAT (if t1 then wd (crc * 1024 + ifsc) else 0)
  let s := s.setCst n { s.cst n with pps := [], ifs := 0 }
  match s.stnJob p with
  | none => s
  | some (k, j) =>
    if j.isApdu then s.ccommand n k j true
    else
      let stop := if s.rbit p R.CST_CFG 12 then
          (match c.stopInd with | 0 => 0 | 1 => 1 | 2 => 2 | _ => if s.rbit p R.CST_CFG 13 then 2 else 1)
        else 0
      s.stnFinish k j S.ok (BitVec.ofNat 8 c.atr.length :: sliceOct c.atr 0 33 ++
        [BitVec.ofNat 8 c.cls, BitVec.ofNat 8 (b2n t1), pair] ++ beOctets 2 num ++ [BitVec.ofNat 8 stop])

/-- Settle the parameters after an accepted ATR (R356). DEDUCED, log entry 62. -/
def State.cparams (s : State) (n : Nat) (f : List IfOct) : State :=
  let c := s.cst n
  let ta1 := atrOct f 1 0
  let usable := (atrProts f).filter (fun t => decide (t ≤ 1))
  match atrOct f 2 0 with
  | some ta2 =>
    let t := ta2.toNat % 16
    if 1 < t then s.cdeact n .rest (some S.unsupported)
    else s.csettle n (if tb ta2 5 then 0x11 else ta1.getD 0x11) (t == 1)
  | none =>
    match usable with
    | [] => s.cdeact n .rest (some S.unsupported)
    | first :: _ =>
      if c.noPps then s.csettle n 0x11 (first == 1)
      else
        let want := if c.wantT1 then 1 else 0
        let use := if usable.contains want then want else first
        if (ta1 = none ∨ ta1 = some 0x11) ∧ (atrProts f).head? = some use then s.csettle n 0x11 (use == 1)
        else
          let r : List Octet := [0xFF, BitVec.ofNat 8 (use + 16 * b2n ta1.isSome)] ++ ta1.toList
          s.setCst n { c with pps := r ++ [lrc r] }

/-- The ATR has failed: one warm reset, then the end (R355). -/
def State.catrFail (s : State) (n : Nat) : State :=
  if (s.cst n).warmed then s.cdeact n .rest (some S.protocolError)
  else s.setCst n { s.cst n with warmed := true }

/-- An activation's ATR is awaited. -/
def State.cawaitAtr (s : State) (n : Nat) : Bool :=
  decide (s.cphase n = 1) && (s.cst n).admitted && (s.cst n).pps.isEmpty

/-! ### Jobs (R366, R367) -/

/-- Start a contact job at its station. DEDUCED, log entry 62. -/
def State.cstStart (s : State) (k : Nat) (j : Job) : State :=
  let n := j.stnNo
  let p := P.cst n
  let go (t : State) (b : Bool) : State := (t.startJob p k j).modJob k (fun x => { x with begun := b })
  if j.stnArgBad then s.stnFinish k j S.invalidOperand
  else match s.replayOf j with
    | some (st, r) => s.stnFinish k { j with orphan := j.orphan } st r
    | none =>
      match j.stnOp with
      | 0o400 =>
        if !s.cpresent n then s.stnFinish k j S.removed
        else
          let t := go (s.setCst n { s.cst n with wantT1 := decide (bits j.stnArg 5 4 ≠ 0) }) true
          if t.cactive n then t.cdeact n .fresh none
          else (match t.cclasses n with
            | c :: _ => t.cbegin n c false
            | [] => t.cdeact n .rest (some S.protocolError))
      | 0o401 =>
        match s.apduCheck j with
        | none => s
        | some (some st) => s.stnFinish k j st
        | some none =>
          if !s.cpresent n then s.stnFinish k j S.removed
          else if s.cactive n then (let t := go s false; match t.job k with | some j' => t.ccommand n k j' false | none => t)
          else if s.unidentified j then s.stnFinish k j S.policyRefused
          else
            let t := go (s.setCst n { s.cst n with wantT1 := false }) true
            match t.cclasses n with
            | c :: _ => t.cbegin n c false
            | [] => t.cdeact n .rest (some S.protocolError)
      | 0o402 => if s.cactive n then (go s true).cdeact n .rest (some S.ok) else s.stnFinish k j S.ok
      | _ =>
        if s.cactive n then
          let t := (go s true).setCphase n 1
          t.setCst n { t.cst n with warmed := false, pps := [] }
        else s.stnFinish k j S.removed

/-- A job row of a contact station: it starts the job when its turn has come; for an APDU whose card's clock was stopped,
it sends the command now that the clock runs again (R363). -/
def State.cstRow (s : State) (k : Nat) (j : Job) : State :=
  let n := j.stnNo
  if s.runsOn (P.cst n) = some k ∧ s.cphase n = 4 ∧ (s.cst n).x.sent = false then
    (s.setJob k { j with begun := true }).csend n
  else if s.stnTurn k j ∧ s.cphase n ≠ 5 then (s.cstStart k j).crest n
  else s

/-- The commands CST_ACTIVATE to CST_WARM_RESET. -/
def State.cstCmd (s : State) (key op : Nat) : Host.Outcome State Fault Refusal :=
  match s.job key with
  | some j => when (decide (j.opcode = op)) s (s.cstRow key j)
  | none => .next s

/-- CST_ACTIVATE (R353, R367). -/
def execCstActivate (key : Nat) (s : State) : Host.Outcome State Fault Refusal := s.cstCmd key 0o400
/-- CST_APDU (R367). -/
def execCstApdu (key : Nat) (s : State) : Host.Outcome State Fault Refusal := s.cstCmd key 0o401
/-- CST_DEACTIVATE (R367). -/
def execCstDeactivate (key : Nat) (s : State) : Host.Outcome State Fault Refusal := s.cstCmd key 0o402
/-- CST_WARM_RESET (R353). -/
def execCstWarmReset (key : Nat) (s : State) : Host.Outcome State Fault Refusal := s.cstCmd key 0o403

/-! ### The card answers -/

/-- ATR_RECEIVE (R354 to R357). -/
def execAtrReceive (stn : Nat) (octets : List Octet) (parity : Bool) (s : State) : Host.Outcome State Fault Refusal :=
  let p := P.cst stn
  let t := (s.setReg p R.CST_ATRLEN (wd (min 33 octets.length))).each (List.range 17) (fun t i =>
    t.setReg p (R.CST_ATR + i) ((packWords (octets.take 33)).getD i 0))
  let t := t.setCst stn { t.cst stn with atr := octets.take 33 }
  when (s.cawaitAtr stn) s
    ((match (if parity then none else parseAtr octets) with
      | none => t.catrFail stn
      | some f =>
        match atrFor f 15 0 with
        | some o => if tb o ((s.cst stn).cls - 1) then t.cparams stn f else t.cnextClass stn
        | none => t.cparams stn f).crest stn)

/-- ATR_TIMEOUT (R354): the next class. -/
def execAtrTimeout (stn : Nat) (s : State) : Host.Outcome State Fault Refusal :=
  when (s.cawaitAtr stn) s (s.cnextClass stn)

/-- ATR_CHARACTER_TIMEOUT (R355). -/
def execAtrCharacterTimeout (stn : Nat) (s : State) : Host.Outcome State Fault Refusal :=
  when (s.cawaitAtr stn) s (s.catrFail stn)

/-- CLASS_RETRY_WAIT (R354): the 10 ms have passed. -/
def execClassRetryWait (stn : Nat) (s : State) : Host.Outcome State Fault Refusal :=
  match (s.cst stn).next with
  | .retry c => when (decide (s.cphase stn = 0)) s (s.cbegin stn c false)
  | _ => .next s

/-- A PPS has failed: the card is activated again without one (R356). -/
def State.cppsFail (s : State) (n : Nat) : State := s.cdeact n .again none

/-- PPS_RESPONSE (R356). -/
def execPpsResponse (stn : Nat) (octets : List Octet) (parity : Bool) (s : State) : Host.Outcome State Fault Refusal :=
  let r := (s.cst stn).pps
  let t1 := decide ((r.getD 1 0).toNat % 16 = 1)
  let short : List Octet := [0xFF, (r.getD 1 0) &&& 0x0F]
  when (decide (s.cphase stn = 1) && !r.isEmpty) s
    ((if parity then s.cppsFail stn
    else if octets = r then s.csettle stn (if r.length = 4 then r.getD 2 0x11 else 0x11) t1
    else if r.length = 4 ∧ octets = short ++ [lrc short] then s.csettle stn 0x11 t1
    else s.cppsFail stn).crest stn)

/-- PPS_TIMEOUT (R356). -/
def execPpsTimeout (stn : Nat) (s : State) : Host.Outcome State Fault Refusal :=
  when (decide (s.cphase stn = 1) && !(s.cst stn).pps.isEmpty) s (s.cppsFail stn)

/-! ### T=0 (R358 to R360) -/

/-- A status word ends the command: a follow-up, or the job's end (R360, R364, R368). DEDUCED, log entry 63. -/
def State.t0Status (s : State) (n : Nat) (sw1 sw2 : Octet) : State :=
  let s := s.setCexposed n false
  let s := s.setCst n { s.cst n with t0 := .idle, x := { (s.cst n).x with past := true } }
  let x := (s.cst n).x
  let f := x.form
  let xx := if sw2 = 0 then 256 else sw2.toNat
  let room := f.ne - x.recv.length
  let follow := s.rbit (P.cst n) R.CST_CFG 4 && ((sw1 == 0x61 && decide (room ≠ 0)) || sw1 == 0x6C)
  match s.stnJob (P.cst n) with
  | none => s
  | some (k, j) =>
    if follow then
      if 8 ≤ x.follow then s.cfail n
      else
        let s := (s.modCx n (fun x => { x with follow := x.follow + 1 })).crep n 1
        if sw1 = 0x61 then
          let le := min xx room
          s.t0Send n [x.cmd.getD 0 0, 0xC0, 0, 0, BitVec.ofNat 8 le] [] le
        else s.t0Send n (x.cmd.take 4 ++ [sw2]) f.data (if f.data = [] then xx else 0)
    else ((s.setCphase n 2).apduEnd k j x [sw1, sw2] x.recv 0)

/-- One character from the card. DEDUCED, log entry 63. -/
def State.t0Octet (s : State) (n : Nat) (o : Octet) : State :=
  let c := s.cst n
  let ins := c.x.tx.getD 1 0
  match c.t0 with
  | .idle => s
  | .data m =>
    s.setCst n { c with t0 := if m ≤ 1 then .proc else .data (m - 1), expect := c.expect - 1,
                        x := { c.x with recv := c.x.recv ++ [o] } }
  | .sw2 sw1 => s.t0Status n sw1 o
  | .proc =>
    if o = 0x60 then s
    else if o = ins ∨ o = ins ^^^ 0xFF then
      let all := decide (o = ins)
      if c.x.left ≠ [] then
        let m := if all then c.x.left.length else 1
        let s := s.setCst n { c with x := { c.x with left := c.x.left.drop m, out := c.x.left.take m } }
        if c.x.past then s else s.setCexposed n true
      else if c.expect ≠ 0 then s.setCst n { c with t0 := .data (if all then c.expect else 1) }
      else s
    else if o.toNat / 16 = 6 ∨ o.toNat / 16 = 9 then s.setCst n { c with t0 := .sw2 o }
    else s.cfail n

/-- T0_PROCEDURE_BYTE (R358, R359): characters from the card, the first a procedure byte where one is due; `errs` is how
often one character was signalled or received in error. -/
def execT0ProcedureByte (stn errs : Nat) (octets : List Octet) (s : State) : Host.Outcome State Fault Refusal :=
  let rep := s.ccfg1 stn 8 5
  let t := s.crep stn (min errs rep)
  when (decide (s.cphase stn = 4) && decide ((s.cst stn).t0 ≠ .idle)) s
    ((if rep ≤ errs then t.cfail stn
    else octets.foldl (fun t o => if t.cphase stn = 4 then t.t0Octet stn o else t) t).crest stn)

/-- WWT_EXPIRY (R359). -/
def execWwtExpiry (stn : Nat) (s : State) : Host.Outcome State Fault Refusal :=
  when (decide (s.cphase stn = 4) && decide ((s.cst stn).t0 ≠ .idle)) s (s.cfail stn)

/-- BUSY_LIMIT_EXPIRY (R359): the busy phase runs from the end of the data phase to SW1. -/
def execBusyLimitExpiry (stn : Nat) (s : State) : Host.Outcome State Fault Refusal :=
  let c := s.cst stn
  when (decide (s.cphase stn = 4) && decide (c.t0 = .proc) && c.x.left.isEmpty && decide (c.expect = 0) &&
    decide (s.rfld (P.cst stn) R.CST_BUSY_LIMIT 15 0 ≠ 0)) s (s.cfail stn)

/-! ### T=1 (R361, R362) -/

/-- An invalid block, or none in time (R362). DEDUCED, log entry 63. -/
def State.t1Invalid (s : State) (n code : Nat) : State :=
  let c := s.cst n
  let p := P.cst n
  if c.resync = 0 ∧ c.x.tries < s.ccfg1 n 11 9 then
    ((s.modCx n (fun x => { x with tries := x.tries + 1 })).crep n 1).t1Ctl n (0x80 + b2n (s.rbit p R.CST_T1STAT 9) * 16 + code) []
  else if c.ifs = 1 then
    (s.setCst n { c with ifs := 2, x := { c.x with tries := 0 } }).t1Next n
  else if c.resync < 3 then ((s.setCst n { c with resync := c.resync + 1 }).crep n 1).t1Ctl n 0xC0 []
  else s.cfail n

/-- A valid S(RESYNCH response) (R362). -/
def State.t1Resynch (s : State) (n : Nat) : State :=
  let p := P.cst n
  let s := (s.setRbit p R.CST_T1STAT 8 false).setRbit p R.CST_T1STAT 9 false
  match s.stnJob p with
  | none => s
  | some (k, j) =>
    if j.isWrite && s.cexposed n then
      ((s.setCphase n 2).setCexposed n false).stnFinish k j S.indeterminate (s.cfailResult n j)
    else
      let s := s.setCst n { s.cst n with
        resync := 0, wtx := 1,
        x := { (s.cst n).x with left := (s.cst n).x.cmd, recv := [], tries := 0 } }
      (s.setCexposed n false).t1Next n

/-- A received I-block (R361). DEDUCED, log entry 63. -/
def State.t1Info (s : State) (n : Nat) (more : Bool) (inf : List Octet) : State :=
  let p := P.cst n
  let s := s.setRbit p R.CST_T1STAT 9 (!s.rbit p R.CST_T1STAT 9)
  let s := s.setCst n { s.cst n with wtx := 1, x := { (s.cst n).x with tries := 0, recv := (s.cst n).x.recv ++ inf } }
  if more then s.t1Ctl n (0x80 + b2n (s.rbit p R.CST_T1STAT 9) * 16) []
  else match s.stnJob p with
    | none => s
    | some (k, j) =>
      let x := (s.cst n).x
      if x.recv.length < 2 then s.cdeact n .rest (some (if j.isWrite then S.indeterminate else S.protocolError))
      else
        let m := x.recv.length - 2
        let s := ((s.setCexposed n false).modCx n (fun x => { x with past := true })).setCphase n 2
        s.apduEnd k j x (x.recv.drop m) (x.recv.take m) 1

/-- A received R-block: an acknowledgement in the command's chain, or a request to send again (R361). -/
def State.t1Ack (s : State) (n : Nat) (nr : Bool) : State :=
  let p := P.cst n
  let x := (s.cst n).x
  let ns := s.rbit p R.CST_T1STAT 8
  if x.recv ≠ [] then s.t1Ctl n (0x80 + b2n (s.rbit p R.CST_T1STAT 9) * 16) []
  else if nr = ns then
    (if x.left = [] then s.t1Invalid n 2 else (s.modCx n (fun x => { x with tries := 0 })).t1Next n)
  else if x.tries < s.ccfg1 n 11 9 then
    (s.modCx n (fun x => { x with tries := x.tries + 1, out := x.tx })).crep n 1
  else s.t1Invalid n 2

/-- What a received block is (R361, R362): its PCB and INF, or why it is invalid. -/
def State.t1Parse (s : State) (n : Nat) (octets : List Octet) (parity : Bool) : Option (Nat × List Octet) ⊕ Nat :=
  let crc := s.rbit (P.cst n) R.CST_T1STAT 10
  let e := if crc then 2 else 1
  let len := (octets.getD 2 0).toNat
  if octets.length ≠ 3 + len + e then .inr 2
  else if parity ∨ edc crc (octets.take (3 + len)) ≠ octets.drop (3 + len) then .inr 1
  else if octets.getD 0 0 ≠ 0 then .inr 2
  else .inl (some ((octets.getD 1 0).toNat, (octets.drop 3).take len))

/-- T1_BLOCK_RECEIVE (R361, R362). DEDUCED, log entry 63. -/
def State.t1Receive (s : State) (n : Nat) (octets : List Octet) (parity : Bool) : State :=
  let p := P.cst n
  let c := s.cst n
  match s.t1Parse n octets parity with
  | .inr code => s.t1Invalid n code
  | .inl none => s
  | .inl (some (pcb, inf)) =>
    if c.resync ≠ 0 then (if pcb = 0xE0 ∧ inf = [] then s.t1Resynch n else s.t1Invalid n 2)
    else if c.ifs = 1 then
      (if pcb = 0xE1 ∧ inf = [254] then (s.setCst n { c with ifs := 2, x := { c.x with tries := 0 } }).t1Next n
      else s.t1Invalid n 2)
    else if pcb < 0x80 then
      if pcb % 32 ≠ 0 ∨ (pcb.testBit 6) ≠ s.rbit p R.CST_T1STAT 9 ∨ c.x.left ≠ [] then s.t1Invalid n 2
      else s.t1Info n (pcb.testBit 5) inf
    else if pcb < 0xC0 then
      if pcb / 32 ≠ 4 ∨ 2 < pcb % 16 ∨ inf ≠ [] then s.t1Invalid n 2 else s.t1Ack n (pcb.testBit 4)
    else if pcb = 0xC3 ∧ inf.length = 1 then
      (s.setCst n { c with wtx := (inf.getD 0 0).toNat, x := { c.x with tries := 0 } }).t1Ctl n 0xE3 inf
    else if pcb = 0xC1 ∧ inf.length = 1 then
      ((s.setRfld p R.CST_T1STAT 7 0 (inf.getD 0 0).toNat).modCx n (fun x => { x with tries := 0 })).t1Ctl n 0xE1 inf
    else if pcb = 0xC2 ∧ inf = [] then (s.t1Ctl n 0xE2 []).cfail n
    else s.t1Invalid n 2

/-- A T=1 exchange is running. -/
def State.t1Live (s : State) (n : Nat) : Bool := decide (s.cphase n = 4) && s.cT1 n && (s.cst n).x.sent

/-- T1_BLOCK_RECEIVE (R361, R362). DESIGN CHOICE, log entry 88. -/
def execT1BlockReceive (stn : Nat) (octets : List Octet) (parity : Bool) (s : State) : Host.Outcome State Fault Refusal :=
  when (s.t1Live stn) s ((s.t1Receive stn octets parity).crest stn)

/-- BWT_EXPIRY (R362). -/
def execBwtExpiry (stn : Nat) (s : State) : Host.Outcome State Fault Refusal :=
  when (s.t1Live stn) s (s.t1Invalid stn 2)

/-- CWT_EXPIRY (R362). -/
def execCwtExpiry (stn : Nat) (s : State) : Host.Outcome State Fault Refusal :=
  when (s.t1Live stn) s (s.t1Invalid stn 2)

/-! ### Clock stop, removal, faults (R351, R363, R365, R371) -/

/-- CLOCK_STOP (R363). -/
def execClockStop (stn : Nat) (s : State) : Host.Outcome State Fault Refusal :=
  when (s.rbit (P.cst stn) R.CST_CFG 12 && decide ((s.cst stn).stopInd ≠ 0) && decide (s.cphase stn = 2) &&
    (s.runsOn (P.cst stn)).isNone) s (s.setCphase stn 3)

/-- A removal with a card powered or being activated (Table 13-5). DEDUCED, log entry 64. -/
def State.cremove (s : State) (n : Nat) : State :=
  match s.stnJob (P.cst n) with
  | none => if s.cactive n then s.cdeact n .rest none else s
  | some (k, j) =>
    let s := if j.begun then s.incSat (P.cst n) R.CST_REMOVALS else s
    if s.cphase n = 5 then s
    else if s.cphase n = 0 then (s.setCst n { s.cst n with next := .rest }).stnFinish k j S.removed
    else if s.cphase n = 4 ∧ (s.cst n).cmdBegun then s.cdeact n .rest (some (s.cfailStatus n j))
    else s.cdeact n .rest (some S.removed)

/-- PRES_CHANGE (R365): a debounced level of PRES. -/
def execPresChange (stn : Nat) (high : Bool) (s : State) : Host.Outcome State Fault Refusal :=
  let p := P.cst stn
  let here := high == s.rbit p R.CST_CFG 3
  let t := (s.setRbit p R.CST_STAT 3 here).event p 0
  when (here != s.cpresent stn) s (if here then t else t.cremove stn)

/-- OVERCURRENT (R351). -/
def execOvercurrent (stn : Nat) (s : State) : Host.Outcome State Fault Refusal :=
  let p := P.cst stn
  when (decide (s.cphase stn = 1) && (s.cst stn).admitted || s.cactive stn) s
    (((s.setRbit p R.CST_STAT 10 true).event p 2).cfail stn)

/-- DEACT_DONE (R365, Table 13-4 step 5). DEDUCED, log entry 62. -/
def execDeactDone (stn : Nat) (s : State) : Host.Outcome State Fault Refusal :=
  when (decide (s.cphase stn = 5)) s ((s.event (P.cst stn) 3).cafter stn)

/-- A contact station is quarantined (R371): the card is deactivated, the job completes DEVICE_FAULT. -/
def State.cquar (s : State) (n : Nat) : State :=
  let p := P.cst n
  let on := s.cactive n || (decide (s.cphase n = 1) && (s.cst n).admitted)
  let s := match s.stnJob p with
    | some (k, j) =>
      let s := if j.isWrite && s.cexposed n then s.setRbit p R.CST_STAT 8 true else s
      s.stnFinish k j S.deviceFault
    | none => s
  let s := s.quarOwn p
  if on then (s.setCphase n 2).cdeact n .rest none else s

/-- A contact station fails (R371, R510). -/
def State.cfault (s : State) (n : Nat) : State := (s.detect 19).cquar n

/-- STATION_FAULT (R371): while a card is active or being supplied. -/
def execStationFault (stn : Nat) (s : State) : Host.Outcome State Fault Refusal :=
  when (s.cactive stn || (decide (s.cphase stn = 1) && (s.cst stn).admitted)) s (s.cfault stn)

/-! ### Control (R371) -/

/-- The jobs in a station's input queue complete NOT_READY (R371, R405). -/
def State.stnFlush (s : State) (p : Nat) : State :=
  s.each (s.inQ p) (fun t k => match t.job k with
    | some j => if t.runsOn p = some k then t else t.stnFinish k j S.notReady
    | none => t)

/-- EN written 0: an exchange that has begun runs on, the queue is emptied, an idle card is deactivated. -/
def State.cstStop (s : State) (n : Nat) : State := (s.stnFlush (P.cst n)).crest n

/-- The shutdown has ended: the card is off and no job runs. -/
def State.cstQuiet (s : State) (n : Nat) : Bool := decide (s.cphase n = 0) && (s.runsOn (P.cst n)).isNone

/-- A job's exchange is broken off with a status, INDETERMINATE for a WRITE APDU in exposure unless the link
has failed (R30); the card is deactivated (R371, R417). -/
def State.cstBreak (s : State) (n status : Nat) : State :=
  let s := match s.stnJob (P.cst n) with
    | some (k, j) =>
      let st := if j.isWrite && s.cexposed n && status != S.deviceFault then S.indeterminate else status
      s.stnFinish k j st (s.cfailResult n j)
    | none => s
  if s.cphase n = 5 ∨ s.cphase n = 0 then s.setCst n { s.cst n with next := .rest, endWith := none }
  else s.cdeact n .rest none

/-- VFIELD is lost: an exchange that has begun is a failed exchange (R484). -/
def State.cstLoss (s : State) (n : Nat) : State :=
  let s := s.stnFlush (P.cst n)
  if s.cphase n = 5 ∨ s.cphase n = 0 then s else s.cfail n

end Sys2Proof.Machine
end

