-- ==== Sys2Proof/Machine/Field.lean ====
section
/-! DEFINITION. Contactless stations (R373 to R407): identity records, the field, pings and live calibration, singulation,
activation, ISO-DEP exchanges, the station's jobs. -/
namespace Sys2Proof.Machine

/-! ### Station state -/

/-- STAT.PHASE. -/
def State.fphase (s : State) (n : Nat) : Nat := s.rfld (P.fst n) R.FST_STAT 2 0
/-- Set STAT.PHASE. -/
def State.setFphase (s : State) (n v : Nat) : State := s.setRfld (P.fst n) R.FST_STAT 2 0 v
/-- The field is on. -/
def State.fieldIsOn (s : State) (n : Nat) : Bool := decide (3 ≤ s.fphase n) && decide (s.fphase n ≤ 6)
/-- A bit of STAT. -/
def State.fbit (s : State) (n i : Nat) : Bool := s.rbit (P.fst n) R.FST_STAT i
/-- Set a bit of STAT. -/
def State.setFbit (s : State) (n i : Nat) (b : Bool) : State := s.setRbit (P.fst n) R.FST_STAT i b
/-- CFG.RETRY. -/
def State.fretry (s : State) (n : Nat) : Nat := s.rfld (P.fst n) R.FST_CFG 8 7
/-- Change a station's exchange. -/
def State.modFx (s : State) (n : Nat) (f : Exch → Exch) : State := s.setFst n { s.fst n with x := f (s.fst n).x }
/-- Send a frame. -/
def State.fsend (s : State) (n : Nat) (l : List Octet) : State := s.modFx n (fun x => { x with out := l })

/-! ### Identity records (R387, R388) -/

/-- I_MAX of a record. -/
def recIMax (r : List Octet) : Nat := beNat (sliceOct r 8 2)
/-- CAP of a tuning entry. -/
def recCap (r : List Octet) (e : Nat) : Nat := (r.getD (10 + 4 * e) 0).toNat % 64
/-- DRIVE of a tuning entry. -/
def recDrive (r : List Octet) (e : Nat) : Nat := (r.getD (11 + 4 * e) 0).toNat
/-- A_t of a tuning entry. -/
def recTarget (r : List Octet) (e : Nat) : Nat := beNat (sliceOct r (12 + 4 * e) 2)
/-- SERIAL. -/
def recSerial (r : List Octet) : List Octet := sliceOct r 42 16

/-- The cause of a record that has been read (Table 14-5): `old` is the accepted record it is compared with, if any.
DEDUCED, log entry 66. -/
def recCause (r : List Octet) (plimit : Nat) (old : Option (List Octet)) : Nat :=
  if beNat (sliceOct r 252 4) ≠ (crc32 (r.take 252)).toNat then 3
  else if sliceOct r 0 3 ≠ [0x59, 0x4D, 0x01] then 4
  else if r.getD 3 0 ≠ 1 ∧ r.getD 3 0 ≠ 2 then 5
  else
    let l := beNat (sliceOct r 4 2)
    let i := recIMax r
    if l < 100 ∨ 5000 < l ∨ i < 1 ∨ 1023 < i ∨ (List.range 8).any (fun e => decide (recTarget r e < 1) || decide (i < recTarget r e)) then 6
    else if recPower r = 0 ∨ plimit < recPower r then 7
    else match old with
      | some o => if recSerial o ≠ recSerial r then 8 else 0
      | none => 0

/-! ### The field (R375 to R378, R385) -/

/-- The field goes off (R376): the tag is lost. -/
def State.fieldOff (s : State) (n : Nat) : State :=
  if s.fieldIsOn n then
    let v := s.fst n
    let s := s.setFst n { v with
      sing := .idle, tag := none, tags := [], lastType := s.rfld (P.fst n) R.FST_STAT 9 8, tuned := true, high := 0, low := 0 }
    let s := (((s.setFphase n 7).setFbit n 5 false).setRfld (P.fst n) R.FST_STAT 11 8 0).setFbit n 13 false
    s.clearIdent (16 + n)
  else if s.fphase n = 2 then
    ((s.setFphase n 0).setFst n { s.fst n with wait := .none }).releasePower (P.fst n)
  else s

/-- The tuning entry of the type and rate in use (Table 14-4). -/
def State.tuneEntry (s : State) (n : Nat) : Nat :=
  2 * s.rfld (P.fst n) R.FST_STAT 11 10 + (if s.rfld (P.fst n) R.FST_STAT 9 8 = 2 then 1 else 0)

/-- Wait for OFF_MIN and for power (R377 steps 1 and 2). -/
def State.fpower (s : State) (n : Nat) : State :=
  let s := (s.setFphase n 2).setFst n { s.fst n with wait := .power }
  s.setWaits (s.stn.waits ++ [P.fst n])

/-- An activation with the field off: WAIT first (R399 step 2). -/
def State.farrive (s : State) (n : Nat) (j : Job) : State :=
  if tb j.stnArg 10 && !s.fbit n 3 then s.setFst n { s.fst n with wait := .arrive } else s.fpower n

/-- The station's job ends while its field stays as it is; a station that is shutting or whose head has changed turns its
field off (R389, R405). -/
def State.frest (s : State) (n : Nat) : State :=
  let p := P.fst n
  if (s.runsOn p).isSome then s
  else if (s.fst n).recBad then (((s.setFst n { s.fst n with recBad := false }).fieldOff n).quarOwn p)
  else if s.stat p ST.stopping then s.fieldOff n
  else s

/-- Complete the station's job and turn its field off. -/
def State.fend (s : State) (n status : Nat) (result : List Octet := []) : State :=
  match s.stnJob (P.fst n) with
  | some (k, j) => (s.fieldOff n).stnFinish k j status result
  | none => s.fieldOff n

/-! ### Results (Table 14-11) -/

/-- Octets 0 to 15 of an activation result. -/
def tagOctets (count : Nat) (t : Tag) : List Octet :=
  [BitVec.ofNat 8 (if t.typeB then 2 else 1), BitVec.ofNat 8 count, BitVec.ofNat 8 t.id.length] ++ sliceOct t.id 0 10 ++
    [t.sak] ++ sliceOct t.atq 0 2

/-- Tags counted: 9 for more than 8. -/
def Fst.count (v : Fst) : Nat := if v.ninth then 9 else v.tags.length

/-- A tag is active: the activation completes OK (R394, R399). -/
def State.factive (s : State) (n : Nat) (t : Tag) (isodep : Bool) (rate : Nat) (ats : List Octet) (fsc fwi : Nat) : State :=
  let s := s.setFst n { s.fst n with
    sing := .idle, tag := some t, ats := ats, fsc := fsc, fwi := fwi, bn := 0, wtxm := 1, tries := 0 }
  let s := ((s.setFphase n 5).setRfld (P.fst n) R.FST_STAT 11 10 rate).setFbit n 13 isodep
  let c := (s.fst n).count
  let r := tagOctets c t ++ [BitVec.ofNat 8 (min 20 ats.length)] ++ sliceOct (ats.take 20) 0 20 ++
    [BitVec.ofNat 8 rate, BitVec.ofNat 8 fwi,
      BitVec.ofNat 8 (b2n isodep + 2 * b2n (decide (2 ≤ c)) + 4 * b2n (s.fbit n 12))]
  match s.stnJob (P.fst n) with
  | some (k, j) => ((if j.bound then s.identified j.itemNo (16 + n) t.id else s).stnFinish k j S.ok r).frest n
  | none => s

/-! ### Singulation (R390 to R393) -/

/-- The octets of 32 bits, first bit least significant. -/
def bitsOct (l : List Bool) : List Octet :=
  (List.range ((l.length + 7) / 8)).map (fun i =>
    BitVec.ofNat 8 ((List.range 8).foldl (fun a b => a + b2n (l.getD (8 * i + b) false) * 2 ^ b) 0))

/-- Bit `i` of an answer, first bit least significant. -/
def ansBit (l : List Octet) (i : Nat) : Bool := (l.getD (i / 8) 0).getLsbD (i % 8)

/-- SEL of a cascade level. -/
def selCode (level : Nat) : Octet := match level with | 1 => 0x93 | 2 => 0x95 | _ => 0x97

/-- Send SELECT with four octets (R391). -/
def selFrame (level : Nat) (o : List Octet) : List Octet :=
  let f := [selCode level, 0x70] ++ o ++ [lrc o]
  f ++ crcA f

/-- Await the answer to a frame. -/
def State.fask (s : State) (n : Nat) (w : Sing) (l : List Octet) : State :=
  (s.setFst n { s.fst n with sing := w }).fsend n l

/-- Send ANTICOLLISION with the bits known so far, or SELECT once all 32 are known (R391). DEDUCED, log entry 67. -/
def State.fanti (s : State) (n level : Nat) (known : List Bool) (uid : List Octet) : State :=
  if 32 ≤ known.length then
    let o := bitsOct (known.take 32)
    s.fask n (.sel level o uid) (selFrame level o)
  else
    let nvb := BitVec.ofNat 8 ((2 + known.length / 8) * 16 + known.length % 8)
    s.fask n (.anti level known uid) ([selCode level, nvb] ++ bitsOct known)

/-- Send the opening request of a Type A round. -/
def State.freq (s : State) (n : Nat) (first : Bool) : State := s.fask n (.req first) [if first then 0x52 else 0x26]

/-- The slots of a Type B round. -/
def State.fslots (s : State) (n : Nat) : Nat := 2 ^ min 4 (s.rfld (P.fst n) R.FST_CFG 4 2)

/-- Begin a Type B round with WUPB (R392). -/
def State.fround (s : State) (n round : Nat) : State :=
  let f : List Octet := [0x05, 0x00, BitVec.ofNat 8 (8 + min 4 (s.rfld (P.fst n) R.FST_CFG 4 2))]
  (s.setRfld (P.fst n) R.FST_STAT 9 8 2).fask n (.slot round 0 false false) (f ++ crcB f)

/-- The identifier a search is for, and whether several tags may be present (R393, R419). -/
def State.fexpect (s : State) (n : Nat) (j : Job) : Option (List Octet) × Bool :=
  let occ := s.rbit (P.fst n) R.FST_CFG 5
  if j.bound then
    let l := s.ledgerId j.itemNo
    if l = [] then (none, false) else (some l, occ)
  else if tb j.stnArg 9 then (some (j.oct 1 1 (j.oct 1 0 1).head!.toNat), occ)
  else (none, occ)

/-- ISO-DEP is offered by a counted tag (R374). -/
def Tag.isodep (t : Tag) : Bool := if t.typeB then tb (t.atq.getD 0 0) 0 else tb t.sak 5

/-- The highest rate that a capability octet, the job and CFG permit, the same in both directions (R394). -/
def rateOf (cap : Octet) (limit : Nat) : Nat :=
  let ok (r : Nat) : Bool := decide (r ≤ limit) && tb cap (r - 1) && tb cap (r + 3)
  if ok 3 then 3 else if ok 2 then 2 else if ok 1 then 1 else 0

/-- The rate limit of the station's job. -/
def State.flimit (s : State) (n : Nat) : Nat :=
  min (s.rfld (P.fst n) R.FST_CFG 1 0) (match s.stnJob (P.fst n) with | some (_, j) => bits j.stnArg 7 6 | none => 0)

/-- FSC of an FSCI (ISO/IEC 14443-4): values above 8 act as 8 (R394). -/
def fscOf (i : Nat) : Nat := [16, 24, 32, 40, 48, 64, 96, 128, 256].getD i 256

/-- Activate a counted tag: a Type A tag is woken again first (R393, R394). -/
def State.fwake (s : State) (n : Nat) (t : Tag) : State :=
  if t.typeB then
    if t.isodep then
      let rate := rateOf t.sak (s.flimit n)
      let f := [0x1D] ++ t.id ++ [0x00, BitVec.ofNat 8 (8 + rate * 16 + rate * 64), 0x01, 0x00]
      s.fask n (.attrib t rate) (f ++ crcB f)
    else s.factive n t false 0 [] 16 4
  else (s.setRfld (P.fst n) R.FST_STAT 9 8 1).fask n (.wake t) [0x52]

/-- The search ends (Table 14-6). DEDUCED, log entry 67. -/
def State.fsearchEnd (s : State) (n : Nat) : State :=
  let v := s.fst n
  let c := v.count
  let s := s.setFst n { v with tries := 0 }
  match s.stnJob (P.fst n) with
  | none => s.fieldOff n
  | some (_, j) =>
    let (exp, many) := s.fexpect n j
    match v.tags with
    | [] => s.fend n S.removed
    | t :: r =>
      let first : List Octet := tagOctets c t ++ List.replicate 24 0
      let ambiguous (s : State) : State :=
        ((s.incSat (P.fst n) R.FST_AMBIGS).event (P.fst n) 3).fend n S.ambiguous first
      if r = [] ∧ v.ninth = false then
        match exp with
        | none => s.fwake n t
        | some e =>
          if t.id = e then s.fwake n t
          else (if j.bound then s.assocFail j.itemNo else s).fend n S.policyRefused first
      else if many then
        match exp with
        | some e => (match v.tags.find? (fun t => t.id == e) with | some t => s.fwake n t | none => ambiguous s)
        | none => ambiguous s
      else ambiguous s

/-- Type A singulation has ended: Type B follows under TYPE 2 (R390). -/
def State.ftypeAEnd (s : State) (n : Nat) : State :=
  match s.stnJob (P.fst n) with
  | some (_, j) => if bits j.stnArg 5 4 = 2 ∧ (s.fst n).ninth = false then s.fround n 1 else s.fsearchEnd n
  | none => s.fieldOff n

/-- A round fails: it is repeated, or the search fails (R391). DEDUCED, log entry 67. -/
def State.froundFail (s : State) (n : Nat) : State :=
  let v := s.fst n
  if v.tries < s.fretry n then (s.setFst n { v with tries := v.tries + 1 }).freq n v.tags.isEmpty
  else s.fend n S.protocolError

/-- A reactivation or activation step fails: it is repeated, or the activation fails (R393, R394). DEDUCED, log entry 67. -/
def State.factFail (s : State) (n : Nat) (again : State → State) : State :=
  let v := s.fst n
  if v.tries < s.fretry n then again (s.setFst n { v with tries := v.tries + 1 }) else s.fend n S.protocolError

/-- A tag is counted; the ninth ends the search (R390). -/
def State.fcount (s : State) (n : Nat) (t : Tag) : State :=
  let v := s.fst n
  if 8 ≤ v.tags.length then s.setFst n { v with ninth := true } else s.setFst n { v with tags := v.tags ++ [t] }

/-- A Type A tag's UID is complete: it is counted and halted (R391). -/
def State.fuid (s : State) (n : Nat) (uid : List Octet) (sak : Octet) : State :=
  let s := s.fcount n ⟨false, uid, sak, (s.fst n).atqa⟩
  let s := s.setFst n { s.fst n with tries := 0 }
  if (s.fst n).ninth then s.fsearchEnd n else s.fask n .halt ([0x50, 0x00] ++ crcA [0x50, 0x00])

/-- A slot of a Type B round is over (R392). -/
def State.fslotDone (s : State) (n round slot : Nat) (coll new : Bool) : State :=
  if (s.fst n).ninth then s.fsearchEnd n
  else if slot + 1 < s.fslots n then
    let f : List Octet := [BitVec.ofNat 8 ((slot + 1) * 16 + 5)]
    s.fask n (.slot round (slot + 1) coll new) (f ++ crcB f)
  else if (coll || new) && decide (round < 8) then s.fround n (round + 1)
  else s.fsearchEnd n

/-- The octets of a UID that belong to a cascade level: CT and three octets on all but the last (R391). -/
def uidLevel (uid : List Octet) (level : Nat) : List Octet :=
  let levels := if uid.length = 4 then 1 else if uid.length = 7 then 2 else 3
  if level < levels then 0x88 :: sliceOct uid (3 * (level - 1)) 3 else sliceOct uid (3 * (level - 1)) 4

/-- Send RATS, or end the activation of a tag without ISO-DEP (R394). -/
def State.frats (s : State) (n : Nat) (t : Tag) : State :=
  if t.isodep then s.fask n (.rats t) ([0xE0, 0x80] ++ crcA [0xE0, 0x80]) else s.factive n t false 0 [] 16 4

/-- An ATS: TA(1), FWI, FSC; `none` where its length is wrong. -/
def parseAts (l : List Octet) : Option (Octet × Nat × Nat) :=
  match l with
  | [] => none
  | tl :: r =>
    if tl.toNat ≠ l.length then none
    else match r with
      | [] => some (0, 4, 32)
      | t0 :: r =>
        let a := if tb t0 4 then r.take 1 else []
        let r' := if tb t0 4 then r.drop 1 else r
        let b := if tb t0 5 then r'.take 1 else []
        if (tb t0 4 && a.isEmpty) || (tb t0 5 && b.isEmpty) then none
        else
          let fwi := match b with | o :: _ => (if o.toNat / 16 = 15 then 4 else o.toNat / 16) | [] => 4
          some (a.headD 0, fwi, fscOf (t0.toNat % 16))

/-- The frame minus its CRC, where that is right. -/
def unCrc (typeB : Bool) (l : List Octet) : Option (List Octet) :=
  let n := l.length - 2
  if 3 ≤ l.length ∧ (if typeB then crcB (l.take n) else crcA (l.take n)) = l.drop n then some (l.take n) else none

/-- A tag's answer in singulation or activation (R391 to R394). DEDUCED, log entry 67. -/
def State.ftagFrame (s : State) (n : Nat) (octets : List Octet) (coll : Option Nat) (parity : Bool) : State :=
  let v := s.fst n
  let good (b : Bool) : Option (List Octet) := if parity || coll.isSome then none else unCrc b octets
  match v.sing with
  | .idle => s
  | .halt => s
  | .req _ => (s.setFst n { v with atqa := octets.take 2 }).fanti n 1 [] []
  | .anti level known uid =>
    let full := (List.range 32).map (fun i => if i < known.length then known.getD i false else ansBit octets i)
    match coll with
    | some c => if c < 32 then s.fanti n level (full.take c ++ [true]) uid else s.fanti n level full uid
    | none =>
      if parity ∨ lrc (bitsOct full) ≠ octets.getD 4 0 then s.froundFail n else s.fanti n level full uid
  | .sel level o uid =>
    match good false with
    | some [sak] =>
      if tb sak 2 then
        (if 3 ≤ level then s.froundFail n else s.fanti n (level + 1) [] (uid ++ o.drop 1))
      else s.fuid n (uid ++ o) sak
    | _ => s.froundFail n
  | .slot round slot c new =>
    match good true with
    | some l =>
      if l.length = 12 ∧ l.head? = some 0x50 then
        let t : Tag := ⟨true, sliceOct l 1 4, l.getD 9 0, sliceOct l 10 2⟩
        if v.tags.any (fun x => x.typeB && x.id == t.id) then s.fslotDone n round slot c new
        else (s.fcount n t).fslotDone n round slot c true
      else s.fslotDone n round slot true new
    | none => s.fslotDone n round slot true new
  | .wake t => s.fask n (.wakeSel t 1) (selFrame 1 (uidLevel t.id 1))
  | .wakeSel t level =>
    match good false with
    | some [sak] =>
      if tb sak 2 then s.fask n (.wakeSel t (level + 1)) (selFrame (level + 1) (uidLevel t.id (level + 1)))
      else (s.setFst n { v with tries := 0 }).frats n t
    | _ => s.factFail n (fun u => u.fwake n t)
  | .rats t =>
    match (match good false with | some l => (parseAts l).map (fun a => (l, a)) | none => none) with
    | some (l, ta, fwi, fsc) =>
      let rate := rateOf ta (s.flimit n)
      let s := s.setFst n { s.fst n with ats := l, fsc := fsc, fwi := fwi, tries := 0 }
      if rate = 0 then s.factive n t true 0 l fsc fwi
      else
        let f : List Octet := [0xD0, 0x11, BitVec.ofNat 8 (rate * 4 + rate)]
        s.fask n (.pps t rate) (f ++ crcA f)
    | none => s.factFail n (fun u => u.frats n t)
  | .pps t rate =>
    if good false = some [0xD0] then s.factive n t true rate v.ats v.fsc v.fwi
    else s.factFail n (fun u => u.fsend n v.x.out)
  | .attrib t rate =>
    match good true with
    | some l =>
      let fwi := (t.atq.getD 1 0).toNat / 16
      s.factive n t true rate l (fscOf ((t.atq.getD 0 0).toNat / 16)) (if fwi = 15 then 4 else fwi)
    | none => s.factFail n (fun u => u.fwake n t)
  | .deselect => s.fend n S.ok

/-- No answer in time (R391, R392, R395). -/
def State.fsilent (s : State) (n : Nat) : State :=
  let v := s.fst n
  match v.sing with
  | .req _ => s.ftypeAEnd n
  | .anti _ _ _ => s.froundFail n
  | .sel _ _ _ => s.froundFail n
  | .slot round slot c new => s.fslotDone n round slot c new
  | .wake t => s.factFail n (fun u => u.fwake n t)
  | .wakeSel t _ => s.factFail n (fun u => u.fwake n t)
  | _ => s

/-- TAG_FRAME_RECEIVE. DESIGN CHOICE, log entry 88. -/
def execTagFrameReceive (stn : Nat) (octets : List Octet) (coll : Option Nat) (parity : Bool) (s : State) :
    Host.Outcome State Fault Refusal :=
  when (decide (s.fphase stn = 4) || decide ((s.fst stn).sing = .deselect)) s ((s.ftagFrame stn octets coll parity).frest stn)

/-- NO_ANSWER_TIMEOUT (R391, R395). -/
def execNoAnswerTimeout (stn : Nat) (s : State) : Host.Outcome State Fault Refusal :=
  when (decide (s.fphase stn = 4)) s ((s.fsilent stn).frest stn)

/-- HLTA_ACCEPTED (R391, R395): the next REQA. -/
def execHltaAccepted (stn : Nat) (s : State) : Host.Outcome State Fault Refusal :=
  when (decide (s.fphase stn = 4) && decide ((s.fst stn).sing = .halt)) s (s.freq stn false)

/-! ### Block exchange (R396, R397) -/

/-- A frame with its CRC under the type in use. -/
def State.fframe (s : State) (n : Nat) (l : List Octet) : List Octet :=
  l ++ (if s.rfld (P.fst n) R.FST_STAT 9 8 = 2 then crcB l else crcA l)

/-- Send the next I-block; the last one begins exposure (R397). -/
def State.fnext (s : State) (n : Nat) : State :=
  let v := s.fst n
  let size := max 1 (v.fsc - 3)
  let rest := v.x.left.drop size
  let f := s.fframe n (BitVec.ofNat 8 (2 + v.bn + 16 * b2n (!rest.isEmpty)) :: v.x.left.take size)
  let s := s.setFst n { v with wtxm := 1, x := { v.x with left := rest, tx := f, out := f, sent := true } }
  if rest = [] then s.setFbit n 5 true else s

/-- A failed exchange: the field goes off (R397, Table 14-8). -/
def State.fxfail (s : State) (n : Nat) : State :=
  match s.stnJob (P.fst n) with
  | some (_, j) =>
    let st := if j.isWrite && s.fbit n 5 then S.indeterminate else S.protocolError
    s.fend n st (if (s.fst n).x.sent then apduResult (s.fst n).x [] 0 (s.rfld (P.fst n) R.FST_STAT 11 10) false else [])
  | none => s.fieldOff n

/-- An invalid block, or none within FWT: R(NAK), then failure (R396). DEDUCED, log entry 67. -/
def State.fxinvalid (s : State) (n : Nat) : State :=
  let v := s.fst n
  if v.x.tries < s.fretry n then
    (s.setFst n { v with wtxm := 1, x := { v.x with tries := v.x.tries + 1, reps := v.x.reps + 1 } }).fsend n
      (s.fframe n [BitVec.ofNat 8 (0xB2 + v.bn)])
  else s.fxfail n

/-- A valid I-block of the response. -/
def State.fxinfo (s : State) (n : Nat) (more : Bool) (inf : List Octet) : State :=
  let v := s.fst n
  let x := { v.x with past := true, tries := 0, recv := v.x.recv ++ inf }
  let s := (s.setFst n { v with bn := 1 - v.bn, wtxm := 1, x := x }).setFbit n 5 false
  if more then s.fsend n (s.fframe n [BitVec.ofNat 8 (0xA2 + (1 - v.bn))])
  else match s.stnJob (P.fst n) with
    | none => s
    | some (k, j) =>
      let rate := s.rfld (P.fst n) R.FST_STAT 11 10
      if x.recv.length < 2 then s.fend n (if j.isWrite then S.indeterminate else S.protocolError) (apduResult x [] 0 rate false)
      else
        let m := x.recv.length - 2
        ((s.setFphase n 5).apduEnd k j x (x.recv.drop m) (x.recv.take m) rate)

/-- A received block (R396). DEDUCED, log entry 67. -/
def State.fxreceive (s : State) (n : Nat) (octets : List Octet) (parity : Bool) : State :=
  let v := s.fst n
  match (if parity then none else unCrc (s.rfld (P.fst n) R.FST_STAT 9 8 == 2) octets) with
  | some (pcb :: inf) =>
    let c := pcb.toNat
    if c / 2 = 1 ∨ c / 2 = 9 then
      (if c % 2 ≠ v.bn ∨ v.x.left ≠ [] then s.fxinvalid n else s.fxinfo n (tb pcb 4) inf)
    else if c / 2 = 0x51 ∧ inf = [] then
      if c % 2 = v.bn then
        (if v.x.left = [] then s.fxinvalid n
        else (s.setFst n { v with bn := 1 - v.bn, x := { v.x with tries := 0 } }).fnext n)
      else if v.x.tries < s.fretry n then
        s.setFst n { v with x := { v.x with tries := v.x.tries + 1, out := v.x.tx } }
      else s.fxfail n
    else if c = 0xF2 ∧ inf.length = 1 then
      let m := (inf.getD 0 0).toNat % 64
      if 1 ≤ m ∧ m ≤ 59 then
        (s.setFst n { v with wtxm := m, x := { v.x with reps := v.x.reps + 1 } }).fsend n (s.fframe n [pcb, BitVec.ofNat 8 m])
      else s.fxinvalid n
    else s.fxinvalid n
  | _ => s.fxinvalid n

/-- An APDU exchange is running. -/
def State.fxlive (s : State) (n : Nat) : Bool := decide (s.fphase n = 6) && decide ((s.fst n).sing = .idle)

/-- ISODEP_BLOCK_RECEIVE (R396). -/
def execIsodepBlockReceive (stn : Nat) (octets : List Octet) (parity : Bool) (s : State) : Host.Outcome State Fault Refusal :=
  when (s.fxlive stn) s ((s.fxreceive stn octets parity).frest stn)

/-- FWT_EXPIRY (R394, R396, R401): in an exchange an invalid block, in an activation step a retry, after S(DESELECT) the
end. -/
def State.fwtExpiry (s : State) (n : Nat) : State :=
  let v := s.fst n
  match v.sing with
  | .deselect => s.fend n S.ok
  | .rats t => s.factFail n (fun u => u.frats n t)
  | .pps _ _ => s.factFail n (fun u => u.fsend n v.x.out)
  | .attrib t _ => s.factFail n (fun u => u.fwake n t)
  | _ => if s.fphase n = 6 then s.fxinvalid n else s

/-- FWT_EXPIRY. DEDUCED, log entry 68. -/
def execFwtExpiry (stn : Nat) (s : State) : Host.Outcome State Fault Refusal :=
  when (decide (s.fphase stn = 4) || decide (s.fphase stn = 6)) s ((s.fwtExpiry stn).frest stn)

/-! ### Jobs (R398 to R402) -/

/-- What is wrong with an FST_ACTIVATE before any field-on (R393, R398, R399, R419). DEDUCED, log entry 68. -/
def State.fstCheck (s : State) (n : Nat) (j : Job) : Option Nat :=
  let exp := tb j.stnArg 9
  let idLen := (j.oct 1 0 1).headD 0
  if j.bound && exp then some S.invalidOperand
  else if !j.bound && s.rbit (P.fst n) R.FST_CFG 5 && !exp then some S.invalidOperand
  else if !j.bound && exp && !([4, 7, 10].contains idLen.toNat) then some S.invalidOperand
  else none

/-- WAIT asks for arrivals that the channel does not detect (R399 step 2). -/
def State.waitBlind (s : State) (n : Nat) (j : Job) : Bool :=
  tb j.stnArg 10 && !(s.rbit (P.fst n) R.FST_CFG 6 && s.fbit n 4)

/-- Start a contactless job at its station. DEDUCED, log entry 68. -/
def State.fstStart (s : State) (k : Nat) (j : Job) : State :=
  let n := j.stnNo - 16
  let p := P.fst n
  let go (t : State) (b : Bool) : State := (t.startJob p k j).modJob k (fun x => { x with begun := b })
  if j.stnArgBad then s.stnFinish k j S.invalidOperand
  else match s.replayOf j with
    | some (st, r) => s.stnFinish k j st r
    | none =>
      match j.stnOp with
      | 0o440 =>
        (match s.fstCheck n j with
        | some st => s.stnFinish k j st
        | none =>
          if s.waitBlind n j then (s.fieldOff n).stnFinish k j S.unsupported
          else
          let t := (go s false).setFbit n 6 false
          let t := t.setFst n { t.fst n with tags := [], ninth := false, tries := 0, sing := .idle }
          if t.fieldIsOn n then (t.fieldOff n).setFst n { (t.fieldOff n).fst n with wait := .off } else t.farrive n j)
      | 0o441 =>
        (match s.apduCheck j with
        | none => s
        | some (some st) => s.stnFinish k j st
        | some none =>
          if j.respSmall then s.stnFinish k j S.invalidOperand
          else if s.fphase n ≠ 5 ∨ (s.fst n).tag = none then s.stnFinish k j S.removed
          else if !s.fbit n 13 then s.stnFinish k j S.unsupported
          else if s.unidentified j then s.stnFinish k j S.policyRefused
          else
            let cmd := j.data (j.stnCell 1)
            let t := ((go s true).setFphase n 6).inc36 p R.FST_EXCHANGES
            (t.modFx n (fun _ => { Exch.none with cmd := cmd, left := cmd })).fnext n)
      | _ =>
        if s.fieldIsOn n ∧ (s.fst n).tag.isSome ∧ s.fbit n 13 = true then
          let t := (go s true).setFphase n 6
          t.fask n .deselect (t.fframe n [0xC2])
        else (s.fieldOff n).stnFinish k j S.ok

/-- A job row of a contactless station. -/
def State.fstRow (s : State) (k : Nat) (j : Job) : State :=
  let n := j.stnNo - 16
  if s.stnTurn k j ∧ s.fphase n ≠ 7 then (s.fstStart k j).frest n else s

/-- The commands FST_ACTIVATE to FST_DEACTIVATE. -/
def State.fstCmd (s : State) (key op : Nat) : Host.Outcome State Fault Refusal :=
  match s.job key with
  | some j => when (decide (j.opcode = op)) s (s.fstRow key j)
  | none => .next s

/-- FST_ACTIVATE (R399). -/
def execFstActivate (key : Nat) (s : State) : Host.Outcome State Fault Refusal := s.fstCmd key 0o440
/-- FST_APDU (R400). -/
def execFstApdu (key : Nat) (s : State) : Host.Outcome State Fault Refusal := s.fstCmd key 0o441
/-- FST_DEACTIVATE (R401). -/
def execFstDeactivate (key : Nat) (s : State) : Host.Outcome State Fault Refusal := s.fstCmd key 0o442

/-! ### Field-on and field-off (R376, R377) -/

/-- FIELD_ON (R377 step 3, R385): OFF_MIN has passed and the power is reserved. -/
def execFieldOn (stn : Nat) (s : State) : Host.Outcome State Fault Refusal :=
  let p := P.fst stn
  let v := s.fst stn
  let typ := match s.stnJob p with | some (_, j) => (if bits j.stnArg 5 4 = 1 then 2 else 1) | none => 1
  let e := if typ = 2 then 1 else 0
  let t := (s.setFphase stn 3).setFst stn { v with wait := .none, stuck := 0, high := 0, low := 0 }
  let t := (t.setRfld p R.FST_STAT 11 8 typ).setFbit stn 12 false
  let t := if v.tuned && v.lastType == typ then t
    else t.setReg p R.FST_TUNE (wd (recCap v.record e * 256 + recDrive v.record e))
  let t := match s.runsOn p with | some k => t.modJob k (fun j => { j with begun := true }) | none => t
  when (decide (s.fphase stn = 2) && decide (v.wait = .power) && v.admitted) s t

/-- GUARD_END (R377 step 4): the first frame. DEDUCED, log entry 68. -/
def execGuardEnd (stn : Nat) (s : State) : Host.Outcome State Fault Refusal :=
  let t := s.setFphase stn 4
  let b := decide (s.rfld (P.fst stn) R.FST_STAT 9 8 = 2)
  when (decide (s.fphase stn = 3)) s (if b then t.fround stn 1 else t.freq stn true)

/-- FIELD_OFF_DONE (R376). -/
def execFieldOffDone (stn : Nat) (s : State) : Host.Outcome State Fault Refusal :=
  let p := P.fst stn
  let v := s.fst stn
  let t := ((s.setFphase stn 0).releasePower p).setFst stn { (s.releasePower p).fst stn with hits := 0, stuck := 0, wait := .none }
  when (decide (s.fphase stn = 7)) s
    (if v.wait = .off then
      match s.stnJob p with
      | some (_, j) => t.farrive stn j
      | none => t
    else t)

/-- ARRIVE_TIMEOUT (R399). DEDUCED, log entry 68. -/
def execArriveTimeout (stn : Nat) (s : State) : Host.Outcome State Fault Refusal :=
  match s.stnJob (P.fst stn) with
  | some (k, j) => when (decide ((s.fst stn).wait = .arrive)) s
      (((s.setFst stn { s.fst stn with wait := .none }).stnFinish k j S.removed).frest stn)
  | none => .next s

/-! ### Pings (R379 to R381) -/

/-- The largest d up to 4,095 with d² · b ≤ 4,096² · a. DEDUCED, log entry 65. -/
def detuneOf (a b : Nat) : Nat :=
  (List.range 12).reverse.foldl (fun d i => if (d + 2 ^ i) * (d + 2 ^ i) * b ≤ 4096 * 4096 * a then d + 2 ^ i else d) 0

/-- A component rounded to the nearest unit, as a 9-bit field. -/
def round9 (x : Int) (k : Nat) : Nat := (BitVec.ofInt 9 ((2 * x + 16 ^ k).fdiv (2 * 16 ^ k))).toNat

/-- Store the baseline and show it in IQ_BASE. DEDUCED, log entry 65. -/
def State.setBase (s : State) (n : Nat) (i q : Int) (k : Nat) : State :=
  (s.setFst n { s.fst n with bI := i, bQ := q, bK := k }).setReg (P.fst n) R.FST_IQ_BASE (wd (round9 i k * 512 + round9 q k))

/-- One ping measures m = (i, q) (R379 to R381). DEDUCED, log entry 65. -/
def State.fping (s : State) (n : Nat) (i q : Int) : State :=
  let p := P.fst n
  let v := s.fst n
  let s := if s.fphase n = 0 then s.setFphase n 1 else s
  if v.learn ≠ 0 then
    let s := s.setFst n { v with learn := v.learn - 1 }
    let first := decide (v.learn = 16)
    let s := s.setBase n ((if first then 0 else v.bI) + i) ((if first then 0 else v.bQ) + q) 1
    if v.learn = 1 then s.setFbit n 4 true else s
  else
    let sc : Int := 16 ^ v.bK
    let di := i * sc - v.bI
    let dq := q * sc - v.bQ
    let b := (v.bI * v.bI + v.bQ * v.bQ).toNat
    let d := if b = 0 then (Config.freeWord s.fresh).toNat % 4096 else detuneOf (di * di + dq * dq).toNat b
    let s := if b = 0 then { s with fresh := s.fresh + 1 } else s
    let s := s.setReg p R.FST_DETUNE (wd d)
    let th := s.rfld p R.FST_DET_THRESH 11 0
    let tag := s.fbit n 3
    let s := if tag then s.setFst n { s.fst n with stuck := v.stuck + 1 } else s.setFst n { s.fst n with stuck := 0 }
    let s := if tag ∧ v.stuck + 1 = 4096 then s.event p 5 else s
    let hit := if tag then decide (2 * d < th) else (s.fbit n 4 && decide (th ≤ d))
    let h := if hit then v.hits + 1 else 0
    let s := s.setFst n { s.fst n with hits := if 2 ≤ h then 0 else h }
    let s := if 2 ≤ h then
        (if tag then (s.setFbit n 3 false).event p 1 else ((s.setFbit n 3 true).event p 0).incSat p R.FST_ARRIVALS)
      else s
    let s := if !tag && s.fbit n 4 && decide (4 * d < th) then s.setBase n (15 * v.bI + i * sc) (15 * v.bQ + q * sc) (v.bK + 1) else s
    if v.wait = .arrive ∧ s.fbit n 3 = true then s.fpower n else s

/-- PING (R379): the field is off, OFF_MIN has passed. DEDUCED, log entry 65. -/
def execPing (stn : Nat) (i q : Int) (s : State) : Host.Outcome State Fault Refusal :=
  when (s.ready (P.fst stn) && s.rbit (P.fst stn) R.FST_CFG 6 && decide (s.fphase stn ≤ 2)) s (s.fping stn i q)

/-- RELEARN (R381). -/
def execRelearn (req : Requester) (stn : Nat) (s : State) : Host.Outcome State Fault Refusal :=
  s.written (P.fst stn) (if s.fieldIsOn stn ∨ s.rbit (P.fst stn) R.FST_CFG 6 = false then s.pgErr (P.fst stn) 1 req R.FST_CMD
    else (s.setFst stn { s.fst stn with learn := 16 }).setFbit stn 4 false)

/-! ### Live calibration and station faults (R382 to R384, R404) -/

/-- A contactless station is quarantined (R404): the field goes off, the job completes DEVICE_FAULT. DEDUCED, log entry 66. -/
def State.fquar (s : State) (n : Nat) : State :=
  let p := P.fst n
  let s := match s.stnJob p with
    | some (k, j) =>
      let s := if j.isWrite && s.fbit n 5 then s.setFbit n 6 true else s
      s.stnFinish k j S.deviceFault
    | none => s
  (s.fieldOff n).quarOwn p

/-- A contactless station fails (R404, R510). DEDUCED, log entry 46. -/
def State.ffault (s : State) (n : Nat) : State := (s.detect 19).fquar n

/-- The DRIVE steps a bound of CAL_STEP × 0.5 % allows that do not pass the target (R384, DEDUCED, log entry 49). -/
def driveStep (drive a target step : Nat) : Nat :=
  if a = 0 then 0
  else min (drive * step / 200) ((if target < a then a - target else target - a) * drive / a)

/-- One correction step after a measurement of A and φ, φ in hundredths of a degree (R382, R384). DEDUCED, log entry 49.
DEDUCED, log entry 65. -/
def State.fcal (s : State) (n a : Nat) (phi : Int) : State :=
  let p := P.fst n
  let v := s.fst n
  let e := s.tuneEntry n
  let target := recTarget v.record e
  let tune := s.reg p R.FST_TUNE
  let cap := bits tune 13 8
  let drive := bits tune 7 0
  let step := max 1 (s.rfld p R.FST_CFG 13 10)
  let up := decide (0 < phi)
  if 200 < phi.natAbs ∧ (if up then cap < 63 else 0 < cap) then
    let w := (Config.freeWord s.fresh).toNat % 256
    let s := { s with fresh := s.fresh + 1 }
    (s.setReg p R.FST_TUNE (wd ((if up then cap + 1 else cap - 1) * 256 + w))).inc36 p R.FST_CAL_STEPS
  else if target < 100 * (if target < a then a - target else target - a) then
    let d := driveStep drive a target step
    let new := if target < a then drive - d else min 255 (drive + d)
    let past := decide (recIMax v.record * drive < a * new) && decide (a < target)
    if d = 0 ∨ new = drive ∨ past = true then s
    else (s.setReg p R.FST_TUNE (wd (cap * 256 + new))).inc36 p R.FST_CAL_STEPS
  else s

/-- A measurement (R382, R384, R404). DEDUCED, log entry 65. -/
def State.fmeasure (s : State) (n a : Nat) (phi : Int) (gap : Bool) : State :=
  let p := P.fst n
  let v := s.fst n
  let e := s.tuneEntry n
  let drive := s.rfld p R.FST_TUNE 7 0
  let cap := s.rfld p R.FST_TUNE 13 8
  let target := recTarget v.record e
  let s := s.setReg p R.FST_ANT (wd a)
  let hi := if 11 * recIMax v.record < 10 * a then v.high + 1 else 0
  let lo := if 20 * a * recDrive v.record e < target * drive then v.low + 1 else 0
  let s := s.setFst n { s.fst n with high := hi, low := lo }
  if 3 ≤ hi ∨ 3 ≤ lo then s.ffault n
  else
    let out := decide (target < 5 * (if target < a then a - target else target - a))
    let limit := decide (cap = 0) || decide (cap = 63) || decide (recIMax v.record * drive < a * (drive + 1))
    let s := if out && limit && !s.fbit n 12 then (s.setFbit n 12 true).event p 4 else s
    if s.rbit p R.FST_CFG 9 && (decide (s.fphase n = 3) || decide (s.fphase n = 5) || gap) then s.fcal n a phi else s

/-- CAL_MEASURE (R382): `gap` says that the measurement falls between a tag frame and the next reader frame where R383
lets a step follow. -/
def execCalMeasure (stn a : Nat) (phi : Int) (gap : Bool) (s : State) : Host.Outcome State Fault Refusal :=
  when (s.fieldIsOn stn) s ((s.fmeasure stn a phi gap).frest stn)

/-- FIELD_STATION_FAULT (R404). -/
def execFieldStationFault (stn : Nat) (s : State) : Host.Outcome State Fault Refusal :=
  when (s.fieldIsOn stn) s (s.ffault stn)

/-! ### Identity reads (R386 to R389, R403, R407) -/

/-- MIDR_READ: CMD READ of the selected station (R407). DEDUCED, log entry 69. -/
def execMidrRead (req : Requester) (s : State) : Host.Outcome State Fault Refusal :=
  s.written P.midr (if s.rbit P.midr R.MIDR_STAT 16 then s.pgErr P.midr 0 req R.MIDR_CMD
    else
      let n := s.rfld P.midr R.MIDR_SEL 3 0
      let s := (s.setRbit P.midr R.MIDR_STAT 16 true).setRbit P.midr R.MIDR_STAT 17 false
      { s with stn := { s.stn with midr := { s.stn.midr with reading := some n } } })

/-- The end of a read: cause, map, counts and events (R388, R407). DEDUCED, log entry 66. -/
def State.readEnd (s : State) (n cause fails : Nat) (octets : Option (List Octet)) : State :=
  let m := s.stn.midr
  let m := { m with causes := Map.put (dflt 0) m.causes n cause,
                    records := match octets with | some o => Map.put (dflt []) m.records n o | none => m.records }
  let s : State := { s with stn := { s.stn with midr := m } }
  let s := (s.setRbit P.midr R.MIDR_OK_MAP n (cause == 0)).each (List.range fails) (fun t _ => t.incSat P.midr R.MIDR_BUS_ERRS)
  let s := s.event P.midr 0
  let s := if cause ≠ 0 then s.event P.midr 1 else s
  if cause = 2 then s.event P.midr 2 else s

/-- IDENTITY_READ_DONE (R386 to R389, R403): the read of a start-up, or of CMD; `outcome` 0 read, 1 no acknowledge, 2 any
other failure. DEDUCED, log entry 66. DEDUCED, log entry 69. -/
def execIdentityReadDone (stn : Nat) (start : Bool) (outcome fails : Nat) (octets : List Octet) (s : State) :
    Host.Outcome State Fault Refusal :=
  let p := P.fst stn
  let v := s.fst stn
  let off := !s.rbit P.midr R.MIDR_CFG (stn / 4)
  let cause := if off ∨ outcome = 1 then 1 else if outcome = 2 then 2
    else recCause octets (min 250 (s.rfld p R.FST_PLIMIT 8 0)) (if start ∨ v.record = [] then none else some v.record)
  let t := s.readEnd stn cause (if off then 0 else fails) (if off || decide (outcome ≠ 0) then none else some octets)
  if start then
    when (s.lev.starting.contains p && !v.recRead) s
      (if cause = 0 then (t.setFst stn { v with record := octets, recRead := true }).setFbit stn 7 true
      else
        let t : State := { t with lev := { t.lev with starting := drop1 t.lev.starting p } }
        (t.setFbit stn 7 false).setStat p ST.error true)
  else
    let t := (t.setRbit P.midr R.MIDR_STAT 16 false).setRbit P.midr R.MIDR_STAT 17 true
    let t : State := { t with stn := { t.stn with midr := { t.stn.midr with reading := none } } }
    when (decide (s.stn.midr.reading = some stn)) s
      (if 3 ≤ cause ∧ s.en p = true ∧ s.stat p ST.quar = false then (t.setFst stn { v with recBad := true }).frest stn else t)

/-! ### Control (R378, R403, R405) -/

/-- A field-on in steps 1 to 4 of R377 is abandoned. -/
def State.fabandon (s : State) (n status : Nat) : State :=
  if s.fphase n = 2 ∨ s.fphase n = 3 ∨ (s.fst n).wait ≠ .none then
    match s.stnJob (P.fst n) with
    | some (k, j) =>
      let s := (s.setFst n { s.fst n with wait := .none }).fieldOff n
      s.stnFinish k j status
    | none => s.fieldOff n
  else s

/-- EN written 0 (R405): a field-on is abandoned, the queue is emptied, an idle field goes off. -/
def State.fstStop (s : State) (n : Nat) : State := ((s.stnFlush (P.fst n)).fabandon n S.notReady).frest n

/-- The shutdown has ended: no job, the field off. -/
def State.fstQuiet (s : State) (n : Nat) : Bool := decide (s.fphase n ≤ 1) && (s.runsOn (P.fst n)).isNone

/-- The job of a station is broken off with a status, INDETERMINATE for a WRITE APDU in exposure unless the link
has failed (R30); the field goes off (R405, R417). -/
def State.fstBreak (s : State) (n status : Nat) : State :=
  let s := s.setFst n { s.fst n with wait := .none }
  match s.stnJob (P.fst n) with
  | some (_, j) =>
    let st := if j.isWrite && s.fbit n 5 && status != S.deviceFault then S.indeterminate else status
    s.fend n st (if j.isApdu && (s.fst n).x.sent then apduResult (s.fst n).x [] 0 (s.rfld (P.fst n) R.FST_STAT 11 10) false else [])
  | none => s.fieldOff n

/-- VFIELD is lost (R484). DEDUCED, log entry 65. -/
def State.fstLoss (s : State) (n : Nat) : State :=
  let s := (s.stnFlush (P.fst n)).fabandon n S.notReady
  if s.fphase n = 6 then s.fxfail n else if s.fphase n = 4 then s.fend n S.protocolError else s.fieldOff n

/-- A passing self-test: BASE_VALID waits for 16 pings (R381, R403). DEDUCED, log entry 69. -/
def State.fstUp (s : State) (n : Nat) : State := (s.setFst n { s.fst n with learn := 16, tuned := false, hits := 0 }).setFbit n 4 false

end Sys2Proof.Machine
end

