-- ==== Sys2Proof/Machine/Sources.lean ====
section
/-! DEFINITION. The tamper sources of Table 16-1: default set, floor, scope and whether they stay active on the backup
cell; the active and staged response sets (R434, R437, R439, R443). -/
namespace Sys2Proof.Machine

/-- What QUARANTINE_CLUSTER and QUARANTINE_REGION of a source act on (R439). -/
inductive Scope where
  | device
  | region (k : Nat)
  | cluster (n : Nat)
  deriving DecidableEq, Repr

/-- The response set at commissioning (Table 16-1). -/
def respDefault (s : Nat) : Nat :=
  if s < 56 then 0o1747 else if s < 88 then 0o1347 else if s < 96 then 0o1747 else if s < 112 then 0o13
  else if s < 118 then 0o1747 else if s < 120 then 0o3
  else match s with | 120 => 0o1403 | 121 => 0o1003 | 122 => 0o1747 | 123 => 0o1003 | 124 => 0o1 | _ => 0o3

/-- The part of a set that can never be removed (Table 16-1). -/
def respFloor (s : Nat) : Nat :=
  if s < 56 then 0o401 else if s < 82 then 0o3 else if s < 88 then 0o1 else if s < 96 then 0o401 else if s < 112 then 0o11
  else if s < 118 then 0o401 else if s < 120 then 0o1
  else match s with | 120 => 0o401 | 121 => 0o1001 | 122 => 0o401 | _ => 0o1

/-- The scope of a source (Table 16-1). -/
def scopeOf (s : Nat) : Scope :=
  if s < 16 then .region (s / 4) else if 77 ≤ s ∧ s ≤ 80 then .region (s - 77) else if 88 ≤ s ∧ s ≤ 91 then .region (s - 88)
  else if 96 ≤ s ∧ s ≤ 111 then .cluster (s - 96) else .device

/-- The source stays active while only the backup cell supplies the device (Table 16-1). DEDUCED, log entry 87. -/
def onVbat (s : Nat) : Bool :=
  (16 ≤ s && s ≤ 19) || (24 ≤ s && s ≤ 55) || s == 68 || s == 69 || s == 76 || s == 84 || s == 85 ||
    (112 ≤ s && s ≤ 118) || s == 120 || (122 ≤ s && s ≤ 127)

/-- The clusters of a scope (R439). -/
def Scope.clusters : Scope → List Nat
  | .device => List.range 16
  | .region k => (List.range 4).map (fun i => 4 * k + i)
  | .cluster n => [n]

/-- The regions of a scope (R439). -/
def Scope.regions : Scope → List Nat
  | .device => List.range 4
  | .region k => [k]
  | .cluster n => [n / 4]

/-- RESP_SCOPE of a source (Table 16-8). -/
def Scope.word : Scope → Word
  | .device => 0
  | .region k => wd (k * 4 + 1)
  | .cluster n => wd (n * 4 + 2)

/-- What an unlisted source holds in the table of active sets. -/
def respWord (s : Nat) : Word := wd (respDefault s)

/-- The set in force for a source. -/
def State.activeSet (s : State) (src : Nat) : Word := Map.get respWord s.tamper.active src

/-- The staged set of a source; an unstaged source shows its active set, floor bits read 1 (R443, R460). -/
def State.stagedSet (s : State) (src : Nat) : Word :=
  (match Map.get (dflt 0) s.tamper.staged src with | 0 => s.activeSet src | w => w - 1) ||| wd (respFloor src)

/-- Stage a set for a source. DEDUCED, log entry 75. -/
def State.stage (s : State) (src : Nat) (w : Word) : State :=
  let v := wd (w.toNat % 2048) ||| wd (respFloor src)
  { s with tamper := { s.tamper with staged := Map.put (dflt 0) s.tamper.staged src (v + 1) } }

/-- A staged set differs from its active set (STAGE_STAT). -/
def State.stagedDiffers (s : State) : Bool := (List.range 128).any (fun i => s.stagedSet i != s.activeSet i)

/-- Main power supplies the device: power-on reset is not asserted. DEDUCED, log entry 87. -/
def State.mainPower (s : State) : Bool := !s.boot.por

end Sys2Proof.Machine
end

