-- ==== Sys2Proof/Machine/Line.lean ====
section
/-! DEFINITION. The line transport (chapter 15): encoder counts, speed, marks and check marks, station windows, HOLD, reject
outputs, the line opcodes, start-up and reset of LINE. -/
namespace Sys2Proof.Machine

/-! ### Jobs at a window's end (R416, R417) -/

/-- The jobs bound to an item that wait at a station complete with a status. -/
def State.failWaiting (s : State) (k n status : Nat) : State :=
  s.each (s.inQ (stnPage k)) (fun t key => match t.job key with
    | some j => if j.bound ∧ j.itemNo = n ∧ t.runsOn (stnPage k) ≠ some key then t.failBound key j status else t
    | none => t)

/-- The running job of a station is broken off with a status, and its card or field goes off (R365, R376, R417). -/
def State.stnBreak (s : State) (k status : Nat) : State := if k < 16 then s.cstBreak k status else s.fstBreak (k - 16) status

/-- A window closes (R417): nothing of an unbound job is touched (R423). DEDUCED, log entry 64. -/
def State.closeWindow (s : State) (n k : Nat) : State :=
  let w := s.window n k
  let s : State := { s with line := { s.line with windows := s.line.windows.filter (fun w => !(w.item == n && w.stn == k)) } }
  let mine := match s.stnJob (stnPage k) with
    | some (_, j) => j.bound && j.itemNo == n
    | none => (match w with | some w => w.admitted | none => false)
  let s := if mine then s.stnBreak k S.windowMissed else s
  s.failWaiting k n S.windowMissed

/-- The signed SPEED register (R409). -/
def State.speed (s : State) : Int := (s.reg P.line R.LINE_SPEED).toInt

/-- Whether the speed leaves a window enough time (R416): spans are counts, speeds counts per ms, times 10 µs. -/
def State.windowFits (s : State) (k : Nat) : Bool :=
  let need := s.rfld P.line R.LINE_MIN_WORK 15 0 + (if k < 16 then 0 else max 500 (s.rfld (stnPage k) R.FST_GUARD 15 0))
  let span : Int := (s.closeAt k : Int) - s.openAt k
  decide (s.speed ≤ 0) || decide ((need : Int) * s.speed ≤ span * 100)

/-- A window opens (R416); none is admitted under HOLD (R424). DEDUCED, log entry 71. -/
def State.openWindow (s : State) (n k : Nat) : State :=
  let a := !s.holding && s.windowFits k
  let s : State := { s with line := { s.line with windows := s.line.windows ++ [⟨n, k, a, false⟩] } }
  if a then s else s.failWaiting k n S.windowMissed

/-! ### HOLD (R421 to R425) -/

/-- The line stations. -/
def lineStations : List Nat := List.range 32

/-- An item that HOLD rejects (R424): a window of it is not yet closed and is open, or opens before the line can stop.
DEDUCED, log entry 72. -/
def State.holdMarks (s : State) (i : Item) : Bool :=
  lineStations.any (fun k => s.onLine k && decide (s.dist i.m < (s.closeAt k : Int)) &&
    decide ((s.openAt k : Int) ≤ s.line.pos - i.m + s.lreg R.LINE_STOP_DIST))

/-- POS as the register shows it (R409). -/
def State.posReg (s : State) : DWord := BitVec.ofInt 36 s.line.pos

/-- HOLD is asserted (R421, R423, R424); a cause in force stays. DEDUCED, log entry 72. -/
def State.assertHold (s : State) (cause : Nat) : State :=
  if s.holding then s
  else
    let s := ((s.setRbit P.line R.LINE_STAT 0 true).setRfld P.line R.LINE_STAT 6 3 cause).setReg36 P.line R.LINE_HOLD_POS s.posReg
    let s := (s.incSat P.line R.LINE_HOLDS).event P.line 0
    let s := s.each ((s.line.items.filter s.holdMarks).map (fun i => i.num)) (fun t n => t.markItem n 4)
    s.each (List.range s.line.windows.length) (fun t _ => match t.line.windows with
      | w :: _ => t.closeWindow w.item w.stn
      | [] => t)

/-- A fault condition of Table 15-2 that persists (R425). DEDUCED, log entry 72. -/
def State.holdPersists (s : State) : Bool :=
  !s.rbit P.line R.LINE_STAT 2 || decide (4096 ≤ s.line.items.length) || !s.line.overflow.isEmpty ||
    decide ((105 * s.lreg R.LINE_SPEED_MAX : Int) < 100 * s.speed) ||
    s.tamper.present.any (fun src => tb (s.activeSet src) 2)

/-- HOLD_SET (R421). -/
def execHoldSet (_req : Requester) (s : State) : Host.Outcome State Fault Refusal :=
  s.written P.line (s.assertHold 10)

/-- HOLD_CLR (R425, R410). DEDUCED, log entry 72. -/
def execHoldClr (req : Requester) (s : State) : Host.Outcome State Fault Refusal :=
  s.written P.line (if !s.en P.line || s.stat P.line ST.stopping || !s.rbit P.line R.LINE_STAT 1 || s.holdPersists then
      s.pgErr P.line 2 req R.LINE_CMD
    else if !s.holding then s
    else
      let s := (s.setRbit P.line R.LINE_STAT 0 false).setRfld P.line R.LINE_STAT 6 3 0
      let s : State := { s with line := { s.line with revHigh := s.line.pos, snaps := [(s.line.pos, s.line.enc1)] } }
      s.event P.line 1)

/-- LINE_OK_CHANGE (R421, Table 15-2 cause 9). -/
def execLineOkChange (level : Bool) (s : State) : Host.Outcome State Fault Refusal :=
  let t := s.setRbit P.line R.LINE_STAT 2 level
  .next (if level ∨ s.holding = true then t else (t.detect 22).assertHold 9)

/-! ### Items on their way (R412 to R416) -/

/-- A mark input is a check mark (R412). -/
def State.isCheck (s : State) (j : Nat) : Bool := s.rbit P.line (R.LINE_CHK + j) 17 && decide (j ≠ s.rfld P.line R.LINE_CFG 1 0)

/-- The stations whose window opens or closes at a distance after an item's mark (R416, R417). -/
def State.reachWindows (s : State) (n d : Nat) : State :=
  let s := s.each lineStations (fun t k => if t.onLine k ∧ t.openAt k = d ∧ d < t.closeAt k then t.openWindow n k else t)
  s.each lineStations (fun t k => if t.onLine k ∧ t.closeAt k = d then t.closeWindow n k else t)

/-- A check mark of an item has not come by a distance after its mark (R412). -/
def State.checkMissed (s : State) (n d : Nat) : Bool :=
  match s.item n with
  | some i => (List.range 4).any (fun j => s.isCheck j && !i.checks.contains j &&
      decide (d = s.rfld P.line (R.LINE_CHK + j) 16 0 + s.lreg R.LINE_CHK_TOL + 1))
  | none => false

/-- The item reaches DECIDE (R414): not done, it is marked reject. -/
def State.decideItem (s : State) (n : Nat) : State :=
  match s.item n with
  | some i => if i.done then s else s.markItem n 6
  | none => s

/-- An item leaves the ledger (R413). -/
def State.retireItem (s : State) (n : Nat) : State :=
  let s := s.each lineStations (fun t k => if (t.window n k).isSome then t.closeWindow n k else t)
  { s with line := { s.line with items := s.line.items.filter (fun i => i.num != n),
                                 matched := s.line.matched.filter (fun p => p.1 != n) } }

/-- What happens to an item when the medium reaches a distance after its mark for the first time. DEDUCED, log entry 70. -/
def State.reach (s : State) (n d : Nat) : State :=
  let s := s.reachWindows n d
  let s := if s.checkMissed n d then s.assertHold 6 else s
  let s := if d = s.lreg R.LINE_DECIDE then
      (if s.rbit P.line R.LINE_CFG 3 then s.decideItem n else s).modItem n (fun i => { i with final := true })
    else s
  if d = s.lreg R.LINE_RETIRE_POS then s.retireItem n else s

/-- Marks in the overflow list whose distance has reached RETIRE_POS leave it (R413). -/
def State.retireOverflow (s : State) : State :=
  let l := s.line.overflow.filter (fun m => decide (s.dist m < (s.lreg R.LINE_RETIRE_POS : Int)))
  { s with line := { s.line with overflow := l, flood := s.line.flood && decide (256 ≤ l.length) } }

/-! ### Encoders (R408 to R410) -/

/-- Travel of the two encoders since the reference snapshot differs by more than PITCH (R410). DEDUCED, log entry 70.
DEDUCED, log entry 72. -/
def State.disagree (s : State) : Bool :=
  match s.line.snaps.getLast? with
  | some (p, e) =>
    let d := 4096 * (s.line.pos - p) - (s.lreg R.LINE_ENC1_RATIO : Int) * (s.line.enc1 - e)
    decide (s.lreg R.LINE_PITCH ≠ 0) && decide (4096 * s.lreg R.LINE_PITCH < d.natAbs)
  | none => false

/-- Take a snapshot of both positions (R410). DEDUCED, log entry 70. -/
def State.snapshot (s : State) : State :=
  { s with line := { s.line with snaps := ((s.line.pos, s.line.enc1) :: s.line.snaps).take 16 } }

/-- PITCH counts of travel without a snapshot (R410). -/
def State.snapDue (s : State) : Bool :=
  match s.line.snaps with
  | (p, _) :: _ => decide (s.lreg R.LINE_PITCH ≠ 0) && decide (s.lreg R.LINE_PITCH ≤ (s.line.pos - p).natAbs)
  | [] => false

/-- The position moves by one count; items meet what lies at a position reached for the first time. DEDUCED, log entry 70. -/
def State.count (s : State) (up : Bool) : State :=
  let p := if up then s.line.pos + 1 else s.line.pos - 1
  let new := decide (s.line.high < p)
  let s : State := { s with line := { s.line with
    pos := p, high := max s.line.high p, revHigh := max s.line.revHigh p, trail := ((p, new) :: s.line.trail).take 512 } }
  let s := if new then
      (s.each (s.line.items.map (fun i => i.num)) (fun t n => match t.item n with
        | some i => t.reach n (t.dist i.m).toNat
        | none => t)).retireOverflow
    else s
  let s := if s.snapDue then s.snapshot else s
  if (s.lreg R.LINE_REV_TOL : Int) < s.line.revHigh - s.line.pos then s.assertHold 4 else s

/-- ENCODER_COUNT (R408 to R410): one count of an encoder, by quadrature phase up (0) or down (1), or an encoder error
(2). -/
def execEncoderCount (enc1 : Bool) (kind : Nat) (s : State) : Host.Outcome State Fault Refusal :=
  let was := s.disagree
  let up := (kind == 0) != s.rbit P.line R.LINE_CFG (if enc1 then 5 else 4)
  .next (if kind = 2 then s.assertHold 2
    else
      let t := if enc1 then ({ s with line := { s.line with enc1 := if up then s.line.enc1 + 1 else s.line.enc1 - 1 } } : State)
        else s.count up
      if t.disagree && !was then (t.detect 21).assertHold 1 else t)

/-- SPEED_UPDATE (R409, Table 15-2 cause 3). DEDUCED, log entry 70. -/
def execSpeedUpdate (s : State) : Host.Outcome State Fault Refusal :=
  let v := s.line.pos - s.line.samples.getD 9 0
  let zeros := if v = 0 then min 1001 (s.line.zeros + 1) else 0
  let past := if (105 * s.lreg R.LINE_SPEED_MAX : Int) < 100 * v then min 10 (s.line.past + 1) else 0
  let still := decide (zeros = 1001)
  let was := s.rbit P.line R.LINE_STAT 1
  let t : State := { s with line := { s.line with samples := (s.line.pos :: s.line.samples).take 10, zeros := zeros, past := past } }
  let t := (t.setReg P.line R.LINE_SPEED (BitVec.ofInt 18 v)).setRbit P.line R.LINE_STAT 1 still
  let t := if still && !was then t.event P.line 4 else t
  .next (if past = 10 then t.assertHold 3 else t)

/-! ### Marks (R411 to R413) -/

/-- Where the raw edge of a debounced mark lay, `ago` counts before now, if it counts (R411). DEDUCED, log entry 70. -/
def State.edgeAt (s : State) (ago : Nat) : Option Int :=
  match s.line.trail[ago]? with
  | some (m, true) => some m
  | _ => none

/-- A source mark that finds the ledger full (R413). DEDUCED, log entry 71. -/
def State.overflowMark (s : State) (m : Int) : State :=
  let s := s.assertHold 7
  let s := (s.inc36 P.line R.LINE_REJECTS).event P.line 2
  if s.line.overflow.length < 256 then { s with line := { s.line with overflow := s.line.overflow ++ [m] } }
  else { s with line := { s.line with flood := true } }

/-- A source mark enters the ledger (R413, R424). -/
def State.enterItem (s : State) (n : Nat) (m : Int) (ago : Nat) : State :=
  let s : State := { s with line := { s.line with items := s.line.items ++ [⟨n, m, [], false, 0, false, [], [], false⟩] } }
  let s := if s.holding then s.markItem n 4 else s
  let s := if s.line.items.length = 3584 then s.event P.line 5 else s
  s.each (List.range (ago + 1)) (fun t d => if (t.item n).isSome then t.reach n d else t)

/-- MARK_EDGE (R411, R413): a debounced source edge whose raw edge came `ago` counts before now. DEDUCED, log entry 70. -/
def execMarkEdge (ago : Nat) (s : State) : Host.Outcome State Fault Refusal :=
  match s.edgeAt ago with
  | none => .next s
  | some m =>
    let double := match s.line.lastMark with
      | some l => decide (m - l < (s.lreg R.LINE_PITCH_MIN : Int))
      | none => false
    .next (if double then s.assertHold 5
      else
        let n := s.nextItem
        let t := (s.snapshot).inc36 P.line R.LINE_NEXT_ITEM
        let t : State := { t with line := { t.line with lastMark := some m } }
        if 4096 ≤ t.line.items.length then t.overflowMark m else t.enterItem n m ago)

/-- CHECK_MARK_EDGE (R412): a debounced edge of check mark input `j`. -/
def execCheckMarkEdge (j ago : Nat) (s : State) : Host.Outcome State Fault Refusal :=
  match s.edgeAt ago with
  | none => .next s
  | some p =>
    let near (i : Item) : Bool := decide ((p - i.m - s.rfld P.line (R.LINE_CHK + j) 16 0).natAbs ≤ s.lreg R.LINE_CHK_TOL)
    when (s.isCheck j) s
      (match s.line.items.find? near with
      | none => s.assertHold 6
      | some i => if i.checks.contains j then s.assertHold 6 else s.modItem i.num (fun x => { x with checks := x.checks ++ [j] }))

/-! ### Reject outputs (R420) -/

/-- Whether a reason falls in a CLASS. -/
def inClass (cls reason : Nat) : Bool :=
  match cls with | 0 => true | 1 => reason == 2 | 2 => reason == 3 | _ => reason != 2 && reason != 3

/-- The level of a reject output. -/
def State.rejOut (s : State) (j : Nat) : Bool :=
  let c := s.reg P.line (R.LINE_REJ_CFG + j)
  let at_ : Int := s.lreg (R.LINE_REJ_POS + j)
  let on (m : Int) : Bool := decide (at_ ≤ s.line.pos - m) && decide (s.line.pos - m < at_ + (max 1 (bits c 11 0) : Nat))
  tb c 17 && (s.line.flood || s.line.items.any (fun i => i.reject && inClass (bits c 16 15) i.reason && on i.m) ||
    s.line.overflow.any (fun m => inClass (bits c 16 15) 4 && on m))

/-! ### Line opcodes (R428, R552) -/

/-- LINE_ITEM: its station operation runs at its station (R416, R418). -/
def execLineItem (key : Nat) (s : State) : Host.Outcome State Fault Refusal :=
  match s.job key with
  | some j => when (decide (j.opcode = 0o500)) s (if j.stnNo < 16 then s.cstRow key j else s.fstRow key j)
  | none => .next s

/-- Fields that a line opcode other than LINE_ITEM leaves zero. DEDUCED, log entry 71. -/
def lineClean (j : Job) : Bool :=
  decide (j.oparg = 0) && decide (bits (j.dw 1 1) 31 4 = 0) && decide (j.dw 1 2 = 0) && decide (j.dw 1 3 = 0)

/-- LINE_SET_ID (R419, R428). DEDUCED, log entry 71. -/
def execLineSetId (key : Nat) (s : State) : Host.Outcome State Fault Refusal :=
  s.onRun key 0o501 (fun j =>
    let len := (j.oct 2 0 1).headD 0
    if !lineClean j || !([4, 7, 10].contains len.toNat) then s.fail key j S.invalidOperand
    else match s.item j.itemNo with
      | none => s.fail key j S.windowMissed
      | some i =>
        if i.ident ≠ [] then s.fail key j S.policyRefused
        else (s.modItem j.itemNo (fun x => { x with ident := j.oct 2 1 len.toNat })).finish key j S.ok)

/-- LINE_DONE (R428). -/
def execLineDone (key : Nat) (s : State) : Host.Outcome State Fault Refusal :=
  s.onRun key 0o502 (fun j =>
    if !lineClean j then s.fail key j S.invalidOperand
    else match s.item j.itemNo with
      | none => s.fail key j S.windowMissed
      | some _ => (s.modItem j.itemNo (fun x => { x with done := true })).finish key j S.ok)

/-- LINE_REJECT (R415, R428). -/
def execLineReject (key : Nat) (s : State) : Host.Outcome State Fault Refusal :=
  s.onRun key 0o503 (fun j =>
    if !lineClean j then s.fail key j S.invalidOperand
    else match s.item j.itemNo with
      | none => s.fail key j S.windowMissed
      | some i =>
        if i.reject then (s.markItem i.num 5).finish key j S.ok
        else if s.decided i then (s.assertHold 8).fail key j S.policyRefused
        else (s.markItem i.num 5).finish key j S.ok)

/-- ITEM_STAT of an item (Table 15-4). -/
def Item.stat (i : Item) : Word :=
  wd (2 ^ 17 + b2n i.reject * 2 ^ 16 + b2n i.done * 2 ^ 15 + b2n (!i.ident.isEmpty) * 2 ^ 14 + i.reason * 2 ^ 10 + i.ident.length)

/-- LINE_QUERY (R552). -/
def execLineQuery (key : Nat) (s : State) : Host.Outcome State Fault Refusal :=
  s.onRun key 0o504 (fun j =>
    if !lineClean j || decide (s.nextItem + 4096 ≤ j.itemNo) then s.fail key j S.invalidOperand
    else
      let r := match s.item j.itemNo with
        | none => List.replicate 8 0 ++ List.replicate 8 (0xFF : Octet)
        | some i => beOctets 3 i.stat.toNat ++ beOctets 5 (BitVec.ofInt 36 i.m).toNat ++
            (List.range 8).map (fun n => match i.recs[n]? with | some x => BitVec.ofNat 8 x.status | none => 0xFF)
      s.finish key j S.ok r)

/-! ### Start-up, shutdown and reset (R422, R426, R427) -/

/-- The checks of R422 for one station. -/
def State.lineStnOk (s : State) (k : Nat) : Bool :=
  let o := s.openAt k
  let c := s.closeAt k
  let v := s.lreg R.LINE_SPEED_MAX
  let w := s.rfld P.line R.LINE_MIN_WORK 15 0
  let p := stnPage k
  let g := if k < 16 then 0 else max 500 (s.rfld p R.FST_GUARD 15 0)
  let off := if k < 16 then 10 else s.rfld p R.FST_OFF_MIN 15 0
  !s.onLine k || (decide (o < c) && decide (c ≤ s.lreg R.LINE_DECIDE) && decide ((g + w) * v ≤ (c - o) * 100) &&
    decide ((c - o) * 100 + off * v ≤ s.lreg R.LINE_PITCH_MIN * 100))

/-- The checks of R422 for one reject output. -/
def State.lineOutOk (s : State) (j : Nat) : Bool :=
  let c := s.reg P.line (R.LINE_REJ_CFG + j)
  let r := s.lreg (R.LINE_REJ_POS + j)
  !tb c 17 || (decide (s.lreg R.LINE_DECIDE ≤ r) && decide (r + max 1 (bits c 11 0) < s.lreg R.LINE_RETIRE_POS))

/-- The checks of R422. -/
def State.lineCfgOk (s : State) : Bool :=
  let v := s.lreg R.LINE_SPEED_MAX
  let d := s.lreg R.LINE_STOP_DIST
  decide (d ≠ 0) && decide (s.lreg R.LINE_PITCH ≠ 0) && decide (1 ≤ v) && decide (v ≤ 2000) &&
    decide (d ≤ 255 * s.lreg R.LINE_PITCH_MIN) && decide (s.lreg R.LINE_PITCH_MIN ≤ s.lreg R.LINE_PITCH) &&
    lineStations.all s.lineStnOk && (List.range 16).all s.lineOutOk

/-- A start-up begins (R426): HOLD with cause RESET. -/
def State.lineUp (s : State) : State :=
  let s := if s.holding then s.setRfld P.line R.LINE_STAT 6 3 13 else s.assertHold 13
  { s with line := { s.line with revHigh := s.line.pos, snaps := [(s.line.pos, s.line.enc1)] } }

/-- Every bound job completes ABORTED (R427). -/
def State.abortBound (s : State) : State :=
  let s := s.each lineStations (fun t k => match t.stnJob (stnPage k) with
    | some (_, j) => if j.bound then t.stnBreak k S.aborted else t
    | none => t)
  let ks := (s.jobs.filter (fun e => match e.2 with | some j => j.bound && decide (j.st ≠ .done) | none => false)).map (fun e => e.1)
  s.each ks (fun t k => match t.job k with
    | some j => t.failBound k j S.aborted
    | none => t)

/-- What SRESET of LINE does before its registers return to their reset values (R427): bound jobs end, the windows close,
the ledger and both positions clear. -/
def State.lineReset (s : State) : State :=
  let s := s.abortBound
  let s := if s.holding then s else ((s.incSat P.line R.LINE_HOLDS).event P.line 0).setReg36 P.line R.LINE_HOLD_POS s.posReg
  { s with line := { State.reset.line with flood := false } }

end Sys2Proof.Machine
end

