-- ==== Sys2Proof/Machine/Wisp.lean ====
section
/-! DEFINITION. The Wisp log and its tag (R448 to R458, R462): the Hummock clock, appends, entries and their MAC, reads by
host and by field. -/
namespace Sys2Proof.Machine

/-! ### The Hummock clock (R448) -/

/-- Hummock ticks since a time in ns. -/
def ticksSince (now t : Nat) : Nat := (now - t) * 32768 / 1000000000

/-- RTC: counts from 0 since VBAT was applied; 0 without VBAT. DEDUCED, log entry 76. -/
def State.rtc (s : State) : Nat := if s.wisp.vbat then ticksSince s.now s.wisp.vbatAt % 2 ^ 48 else 0

/-- The Hummock domain is supplied. DEDUCED, log entry 87. -/
def State.hummockOn (s : State) : Bool := s.mainPower || s.wisp.vbat

/-- The Hummock domain has no supply: the latch and the queue are lost, and no source is active (R485). -/
def State.hummockStop (s : State) : State :=
  { s with cust := { s.cust with hmk := 0 }, wisp := { s.wisp with queue := [] }, tamper := { s.tamper with present := [] } }

/-- VBAT is lost (R448): the RTC stops; without main power so does the domain. DEDUCED, log entry 76. -/
def State.vbatLost (s : State) : State :=
  let t : State := { s with wisp := { s.wisp with vbat := false } }
  let t := t.setRbit P.hmk R.HMK_STAT 2 false
  if s.mainPower then t else t.hummockStop

/-- VBAT is there again: the RTC counts from 0 (R448). DEDUCED, log entry 76. -/
def State.vbatBack (s : State) : State := { s with wisp := { s.wisp with vbat := true, vbatAt := s.now } }

/-! ### Appends (R449 to R452) -/

/-- Queue an entry; one that finds 16 queued is lost. -/
def State.logEntry (s : State) (kind source time : Nat) (data : Word) : State :=
  if s.wisp.queue.length < 16 then
    { s with wisp := { s.wisp with queue := s.wisp.queue ++ [⟨kind, source, time, data⟩] } }
  else
    let s := (s.incSat P.wisp R.WISP_LOST).event P.wisp 2
    { s with wisp := { s.wisp with dropped := s.wisp.dropped + 1 } }

/-- The kind of the entry in a slot; EMPTY where none was written. -/
def State.slotKind (s : State) (n : Nat) : Nat := bits (cw (Map.get (dflt []) s.wisp.slots n) 0) 17 14

/-- The slot an entry takes (R451): a slot never written counts as the oldest; none when an annotation finds only ALARM
entries. -/
def State.logSlot (s : State) (annot : Bool) : Option Nat :=
  match (List.range 256).find? (fun n => !s.wisp.order.contains n) with
  | some n => some n
  | none => s.wisp.order.find? (fun n => !annot || s.slotKind n != 1)

/-- The log key HLK (R450). -/
def State.logKey (s : State) : List Octet := s.fuseKey (ascii "WISP-LOG") 16

/-- The MAC over words 0 to 5 and two zero words (R450). -/
def logMac (key : List Octet) (w : List Word) : DWord :=
  BitVec.ofNat 36 (beNat ((cmac key (wordStream (w.take 6 ++ [0, 0]))).take 5) / 16)

/-- The eight words of an entry (Table 16-3). -/
def logWords (key : List Octet) (e : LogEntry) (power : Bool) (seq : Nat) : List Word :=
  let w := [wd (e.kind * 2 ^ 14 + e.source * 2 ^ 7 + b2n power * 2 ^ 6 + seq / 2 ^ 18), wd (seq % 2 ^ 18), wd (e.time % 2 ^ 18),
    wd (e.time / 2 ^ 18 % 2 ^ 18), wd (e.time / 2 ^ 36 % 2 ^ 12 * 64), e.data]
  let m := logMac key w
  w ++ [loWord m, hiWord m]

/-- SEQ of the newest entry (Table 16-10). -/
def State.logSeq (s : State) : Nat := (s.reg36 P.wisp R.WISP_SEQ).toNat

/-- Write an entry into the slot it replaces. -/
def State.writeLog (s : State) (e : LogEntry) : State :=
  match s.logSlot (e.kind == 6) with
  | none => s.pgErr P.wisp 2 .host R.WISP_CMD
  | some n =>
    let seq := if s.wisp.order.isEmpty then 0 else (s.logSeq + 1) % 2 ^ 24
    let w := s.wisp
    let w := { w with slots := Map.put (dflt []) w.slots n (logWords s.logKey e (!s.mainPower) seq), order := drop1 w.order n ++ [n] }
    let s : State := { s with wisp := w }
    ((s.setReg P.wisp R.WISP_HEAD (wd n)).setReg36 P.wisp R.WISP_SEQ (BitVec.ofNat 36 seq)).event P.wisp 0

/-- LOG_APPEND (R451): the oldest queued entry is written; an OVERFLOW entry follows as soon as there is room. -/
def execLogAppend (s : State) : Host.Outcome State Fault Refusal :=
  match s.wisp.queue with
  | [] => .next s
  | e :: r =>
    let t : State := { s with wisp := { s.wisp with queue := r } }
    let t := t.writeLog e
    let d := t.wisp.dropped
    let t := if d = 0 then t
      else ({ t with wisp := { t.wisp with dropped := 0 } } : State).logEntry 9 0 t.rtc (wd (min d (2 ^ 18 - 1)))
    when s.hummockOn s t

/-- APPEND (R451). DEDUCED, log entry 76. -/
def execAppend (req : Requester) (s : State) : Host.Outcome State Fault Refusal :=
  let early := decide (s.wisp.lastAppend ≠ 0) && decide (s.now + 1 < s.wisp.lastAppend + 10000000)
  s.written P.wisp (if early || decide (12 < s.wisp.queue.length) then s.pgErr P.wisp 1 req R.WISP_CMD
    else
      let s := s.logEntry 6 0 s.rtc (s.reg P.wisp R.WISP_ANNOT)
      { s with wisp := { s.wisp with lastAppend := s.now + 1 } })

/-! ### Host side (R457, R458) -/

/-- Write a number into registers of 18 bits, lowest first. -/
def State.setRegs (s : State) (p w n v : Nat) : State :=
  s.each (List.range n) (fun t i => t.setReg p (w + i) (wd (v / 2 ^ (18 * i))))

/-- WISP_LINK (R458): the RTC at its next tick edge and the system time at that edge. -/
def execWispLink (_req : Requester) (s : State) : Host.Outcome State Fault Refusal :=
  let r := ticksSince s.now s.wisp.vbatAt + 1
  let edge := s.wisp.vbatAt + (r * 1000000000 + 32767) / 32768
  let t := (s.setRegs P.wisp R.WISP_LINK_RTC 3 (r % 2 ^ 48)).setRegs P.wisp R.WISP_LINK_SYS 4 (s.clock.sys.toNat + (edge - s.now))
  s.written P.wisp (if s.wisp.vbat then t.setRbit P.wisp R.WISP_STAT 3 true else s)

/-- WISP_CHECK (R457): the MAC of the selected slot. -/
def execWispCheck (_req : Requester) (s : State) : Host.Outcome State Fault Refusal :=
  let w := Map.get (dflt []) s.wisp.slots (s.rfld P.wisp R.WISP_ENT_SEL 7 0)
  let good := decide (logMac s.logKey ((List.range 6).map (cw w)) = dword (cw w 6) (cw w 7))
  s.written P.wisp (((s.setRbit P.wisp R.WISP_STAT 1 true).setRbit P.wisp R.WISP_STAT 2 good).event P.wisp 3)

/-- ENT0_READ (R457); `busy`: the array port is held by a field copy or an append. DEDUCED, log entry 76. -/
def execEnt0Read (req : Requester) (busy : Bool) (s : State) : Host.Outcome State Fault Refusal :=
  .next (s.readLive P.wisp R.WISP_ENT (if busy && s.rbit P.wisp R.WISP_CFG 0 then
      (({ s with wisp := { s.wisp with copy := [] } } : State).answer 0).pgErr P.wisp 0 req R.WISP_ENT
    else
      let w := Map.get (dflt []) s.wisp.slots (s.rfld P.wisp R.WISP_ENT_SEL 7 0)
      ({ s with wisp := { s.wisp with copy := w } } : State).answer (cw w 0)))

/-- RTC0_READ (R462): all three words are latched. -/
def execRtc0Read (_req : Requester) (s : State) : Host.Outcome State Fault Refusal :=
  let l := (List.range 3).map (fun i => wd (s.rtc / 2 ^ (18 * i)))
  .next (s.readLive P.wisp R.WISP_RTC (({ s with wisp := { s.wisp with rtcLatch := l } } : State).answer (cw l 0)))

/-! ### The tag (R453 to R456) -/

/-- The tag's answer. DEDUCED, log entry 76. -/
def State.tagSays (s : State) (l : List Octet) : State := { s with wisp := { s.wisp with answer := l } }

/-- The tag's state. -/
def State.tagGoes (s : State) (t : TagState) : State := { s with wisp := { s.wisp with tag := t } }

/-- WISP_FIELD_ON (R453): a new random identifier. -/
def execWispFieldOn (s : State) : Host.Outcome State Fault Refusal :=
  let (o, t) := s.draw 3
  when (decide (s.wisp.tag = .off)) s
    { t with wisp := { t.wisp with tag := .idle, uid := 0x08 :: o, held := 0, heldOcts := [], answer := [] } }

/-- WISP_FIELD_OFF (R453). -/
def execWispFieldOff (s : State) : Host.Outcome State Fault Refusal :=
  .next { s with wisp := { s.wisp with tag := .off, uid := [], held := 0, heldOcts := [], answer := [] } }

/-- WISP_REQA (R453): REQA, or WUPA, which a halted tag answers too. DEDUCED, log entry 76. -/
def execWispReqa (wupa : Bool) (s : State) : Host.Outcome State Fault Refusal :=
  .next (if s.wisp.tag = .idle ∨ (wupa ∧ s.wisp.tag = .halted) then (s.tagSays [0x04, 0x00]).tagGoes .ready
    else s.tagSays [])

/-- The bits of the identifier and its check octet, first bit first. -/
def uidBits (uid : List Octet) : List Bool := (List.range 40).map (ansBit (uid ++ [lrc uid]))

/-- WISP_SELECT (R453): ANTICOLLISION with the bits the reader knows, or SELECT with all 40. DEDUCED, log entry 76. -/
def execWispSelect (known : List Bool) (crcOk : Bool) (s : State) : Host.Outcome State Fault Refusal :=
  let u := uidBits s.wisp.uid
  .next (if s.wisp.tag ≠ .ready ∨ u.take known.length ≠ known then s.tagSays []
    else if known.length < 40 then s.tagSays (bitsOct (u.drop known.length))
    else if crcOk then ((s.tagSays (0x00 :: crcA [0x00])).tagGoes .selected).event P.wisp 1
    else s.tagSays [])

/-- WISP_HLTA (R453). -/
def execWispHlta (crcOk : Bool) (s : State) : Host.Outcome State Fault Refusal :=
  let t := s.tagSays []
  .next (if s.wisp.tag = .selected ∧ crcOk = true then t.tagGoes .halted else t)

/-- The header blocks (Table 16-6). DEDUCED, log entry 76. -/
def State.tagHeader (s : State) : List Octet :=
  let flags := b2n s.mainPower + 2 * b2n s.wisp.vbat + 4 * s.rfld P.hmk R.HMK_STAT 1 0 + 16 * b2n (s.rbit P.tamp0 R.TAMP0_PENDING 17)
  [0x57, 0x53, 0x01, BitVec.ofNat 8 flags] ++ beOctets 9 s.wisp.fprint.toNat ++ beOctets 3 s.logSeq ++
    beOctets 6 s.rtc ++ beOctets 2 s.wisp.order.length ++ beOctets 2 (s.rfld P.tamp0 R.TAMP0_PENDING 10 0) ++
    beOctets 3 (s.reg P.wisp R.WISP_LOST).toNat ++ [0, 0, 0]

/-- The two blocks of a slot (R454). -/
def State.tagSlot (s : State) (n : Nat) : List Octet :=
  let w := Map.get (dflt []) s.wisp.slots n
  wordStream ((List.range 8).map (cw w)) ++ zeros 14

/-- RDBLK (R454, R455). DEDUCED, log entry 76. -/
def execRdblk (block : Nat) (crcOk : Bool) (s : State) : Host.Outcome State Fault Refusal :=
  .next (if s.wisp.tag ≠ .selected ∨ crcOk = false then s.tagSays []
    else
      let s := s.incSat P.wisp R.WISP_FIELD_READS
      if 513 < block then ({ s with wisp := { s.wisp with held := 0 } } : State).tagSays [0x00]
      else
        let h := block / 2 + 1
        let keep := decide (block % 2 = 1) && decide (3 ≤ block) && decide (s.wisp.held = h)
        let o := if keep then s.wisp.heldOcts else if block < 2 then s.tagHeader else s.tagSlot (block / 2 - 1)
        let a := sliceOct o (16 * (block % 2)) 16
        let s : State := { s with wisp := { s.wisp with held := if block % 2 = 0 ∧ 2 ≤ block then h else 0, heldOcts := o } }
        s.tagSays (a ++ crcA a))

end Sys2Proof.Machine
end

