-- ==== Sys2Proof/Machine/Tamper.lean ====
section
/-! DEFINITION. The Moss mesh, the tamper controller and its responses (R431 to R447, R459 to R461). -/
namespace Sys2Proof.Machine

/-! ### Master key states (R131, R132) -/

/-- HMK leaves LIVE, or changes state: STATE_CHANGE, no root, PEAT and CRED not READY. -/
def State.setHmk (s : State) (st : Nat) : State :=
  let s := ((s.setRfld P.hmk R.HMK_STAT 1 0 st).setRbit P.hmk R.HMK_STAT 4 false).setRegs P.hmk R.HMK_FPRINT 4 0
  let s := (s.setStat P.peat ST.ready false).setStat P.cred ST.ready false
  s.event P.hmk 0

/-! ### Zeroisations (R440) -/

/-- A job that has ended but is not published ends DEVICE_FAULT and commits nothing. -/
def State.voidDone (s : State) (k : Nat) : State :=
  match s.job k with
  | some j =>
    let j' := { j with status := S.deviceFault, result := [], pendSess := none, pendCred := [], pendSlot := none }
    (s.writeEntry j').setJob k j'
  | none => s

/-- Complete every unpublished job DEVICE_FAULT that a predicate names. -/
def State.voidJobs (s : State) (f : Job → Bool) : State :=
  s.each ((s.jobs.filter (fun e => match e.2 with | some j => f j | none => false)).map (fun e => e.1))
    (fun t k => match t.job k with
      | some j => if j.st = .done then t.voidDone k else t.faultJob k
      | none => t)

/-- ZERO_SESSIONS. DEDUCED, log entry 74. -/
def State.zeroSessions (s : State) : State :=
  let s := s.voidJobs (fun j => j.sess.isSome || decide (j.st = .parked))
  let s := s.clearWords (ctxBase 0) (16384 * 64)
  let s := s.each (List.range 16) (fun t n => t.clearWords (sramBase n + 1212 * 1024) (153 * 1024))
  { s with lode := { s.lode with slotOf := [], count := [], moving := [] },
           units := { s.units with cipherRecs := [], digestRecs := [] },
           diag := { s.diag with failSess := [] } }

/-- ZERO_CREDENTIALS. -/
def State.zeroCredentials (s : State) : State :=
  let ks := (s.jobs.filter (fun e => match e.2 with
    | some j => decide (j.st ≠ .done) && (j.frame.isSome || (decide (j.st ≠ .fetched) && (s.credOf e.1 j).isSome))
    | none => false)).map (fun e => e.1)
  let s := s.each ks (fun t k => t.faultJob k)
  let s := s.clearWords (frameBase 0) (1024 * 32768)
  { s with cust := { s.cust with frames := [] } }

/-- A running job's unit holds a key delivered over the Culvert bus (R145): of its slot or credential, of a keyed command of
a core, or loaded into a program's operand memory. DEDUCED, log entry 74. -/
def State.holdsKey (s : State) (k : Nat) (j : Job) : Bool :=
  decide (j.st = .running) && j.unit.isSome && (s.namesKey k j || j.bn.slots.any (fun e => e.2.keyed) ||
    (match j.utype, j.cmd with
    | .cipher, some _ => true
    | .digest, some _ => j.isKeyed
    | _, _ => false))

/-- ZERO_PEAT. -/
def State.zeroPeat (s : State) : State :=
  let ks := (s.jobs.filter (fun e => match e.2 with | some j => s.holdsKey e.1 j | none => false)).map (fun e => e.1)
  let s := s.each ks (fun t k => t.faultJob k)
  let s := s.each (List.range 32) (fun t u => t.setReg (P.ciph u) R.CIPH_KEY 0)
  let s : State := { s with cust := { s.cust with slots := Map.keep (fun n => decide (65528 ≤ n)) s.cust.slots, gbCache := [] },
                            diag := s.diag.written (2 ^ 40) 65528 }
  s.setRbit P.tamp0 R.TAMP0_PENDING 17 true

/-- ZERO_MASTER (R132): LIVE becomes ZEROED; the latch is cleared. -/
def State.zeroMaster (s : State) : State :=
  let live := s.hmkLive
  let s : State := { s with cust := { s.cust with hmk := 0 } }
  if live then s.setHmk 2 else s

/-- One zeroisation by its bit of Table 16-2. DEDUCED, log entry 74. -/
def State.zeroise (s : State) (bit : Nat) : State :=
  match bit with | 5 => s.zeroSessions | 6 => s.zeroCredentials | 7 => s.zeroPeat | 8 => s.zeroMaster | _ => s

/-- The zeroisations. -/
def zeroBits : List Nat := [8, 7, 6, 5]

/-- The actions that RESET_DEVICE waits for. -/
def waitBits : List Nat := [10, 8, 7, 6, 5]

/-! ### Pending actions (R444) -/

/-- PENDING changes; HMK.STAT shows whether an action is pending. DEDUCED, log entry 75. -/
def State.setPending (s : State) (v : Nat) : State :=
  (s.setRfld P.tamp0 R.TAMP0_PENDING 10 0 v).setRbit P.hmk R.HMK_STAT 3 (decide (v ≠ 0))

/-- Record a set's actions as pending, with the scopes of its quarantines. -/
def State.defer (s : State) (src time : Nat) (set : Word) : State :=
  let s := s.setPending (set.toNat ||| s.rfld P.tamp0 R.TAMP0_PENDING 10 0)
  let s : State := { s with tamper := { s.tamper with pendTime := time } }
  let mask (l : List Nat) : Word := l.foldl (fun w n => sb w n true) 0
  let s := if tb set 3 then s.modReg P.tamp0 R.TAMP0_PEND_CL (fun w => w ||| mask (scopeOf src).clusters) else s
  let s := if tb set 4 then s.modReg P.tamp0 R.TAMP0_PEND_RG (fun w => w ||| mask (scopeOf src).regions) else s
  s.logEntry 3 src time set

/-- Main power fails: what has not completed is pending, but for LOG and ZERO_MASTER, which the Hummock domain carries out;
a set with nothing else left is done (R444). DEDUCED, log entry 75. -/
def State.deferRunning (s : State) : State :=
  let l := s.tamper.running
  let s : State := { s with tamper := { s.tamper with running := [], bist := none } }
  l.foldl (fun t r =>
    let later := r.set &&& ~~~(r.done ||| (0o401 : Word))
    if later = 0 then t.logEntry 2 r.src r.time r.set else t.defer r.src r.time later) s

/-! ### Running a set (R436 to R442) -/

/-- The failure class of Table 19-1 that an alarm counts in. DEDUCED, log entry 74. -/
def alarmClass (src : Nat) : Option Nat :=
  if src < 56 then some 14 else if src < 70 then some 12
  else if (70 ≤ src ∧ src ≤ 75) ∨ (77 ≤ src ∧ src ≤ 81) then some 11
  else if src = 76 then some 23
  else if 88 ≤ src ∧ src ≤ 111 then some 13
  else none

/-- RETIRE carries out every zeroisation and RESET_DEVICE, in the set or not (R441). DEDUCED, log entry 74. -/
def withRetire (set : Word) : Word := if tb set 10 then set ||| 0o1740 else set

/-- The actions of a set that take effect when it starts, most severe first; `fresh` are the bits to start.
DEDUCED, log entry 74. -/
def State.startActions (s : State) (src : Nat) (fresh quar : Word) : State :=
  let s := s.each (zeroBits.filter (tb fresh)) State.zeroise
  let s := if tb quar 4 then s.each (scopeOf src).regions (fun t k => t.quarRegion k) else s
  let s := if tb quar 3 then s.each (scopeOf src).clusters (fun t n => t.quarClusterUp n) else s
  let s := if tb fresh 2 then s.assertHold 11 else s
  if tb fresh 1 then s.event P.tamp0 0 else s

/-- Actions in progress, of every running set (ACTIVE, Table 16-7). -/
def State.inProgress (s : State) : Word := s.tamper.running.foldl (fun v r => v ||| (r.set &&& ~~~r.done)) 0

/-- DONE_SET shows the actions completed of the last set (Table 16-7). -/
def State.showDone (s : State) : State :=
  match s.tamper.running.getLast? with
  | some r => s.setReg P.tamp0 R.TAMP0_DONE_SET r.done
  | none => s

/-- A set starts; sets of one Hummock tick run as one union, and an action in progress is not restarted (R442).
DEDUCED, log entry 74. -/
def State.startSet (s : State) (src : Nat) (set : Word) : State :=
  let set := withRetire set
  let tick := ticksSince s.now s.wisp.vbatAt
  let busy := s.inProgress
  match s.tamper.running.findIdx? (fun r => r.tick == tick) with
  | some i =>
    let old := (s.tamper.running[i]?.map (fun r => r.set)).getD 0
    let s := s.startActions src (set &&& ~~~(old ||| busy)) set
    let l := s.tamper.running.modify i (fun r => { r with set := r.set ||| set, done := r.done ||| (set &&& 0o37) })
    ({ s with tamper := { s.tamper with running := l } } : State).showDone
  | none =>
    let s := s.startActions src (set &&& ~~~busy) set
    ({ s with tamper := { s.tamper with running := s.tamper.running ++ [⟨src, set, set &&& 0o37, s.rtc, tick⟩] } } : State).showDone

/-- A source alarms (R435, R436, R444). DEDUCED, log entry 74. -/
def State.alarm (s : State) (src : Nat) : State :=
  let set := s.activeSet src
  let s := (s.setRbit P.tamp0 (R.TAMP0_LATCH + src / 16) (src % 16) true).setReg P.tamp0 R.TAMP0_LAST (wd (2 ^ 17 + src))
  let s := s.inc36 P.tamp0 R.TAMP0_ALARMS
  let s := match alarmClass src with | some c => if s.mainPower then s.detect c else s | none => s
  let n := Map.get (dflt 0) s.tamper.counted src
  let s : State := { s with tamper := { s.tamper with counted := Map.put (dflt 0) s.tamper.counted src (n + 1) } }
  let s := if n = 0 ∧ tb set 0 = true then s.logEntry 1 src s.rtc set else s
  if s.mainPower then s.startSet src set
  else
    let s := if tb set 8 then s.zeroMaster else s
    let later := set &&& ~~~(0o401 : Word)
    if later = 0 then s.logEntry 2 src s.rtc set else s.defer src s.rtc later

/-- A condition becomes present: it alarms, unless it is what a built-in test stimulates (R435, R446); while only VBAT
supplies the device, only the sources marked in Table 16-1 are active. DEDUCED, log entry 79. -/
def State.raiseCond (s : State) (src : Nat) : State :=
  if s.tamper.present.contains src ∨ !s.hummockOn ∨ (!s.mainPower ∧ !onVbat src) ∨ s.tamper.bist = some src then s
  else
    let s : State := { s with tamper := { s.tamper with present := s.tamper.present ++ [src] } }
    let s := if src = 118 then (s.setRbit P.hmk R.HMK_STAT 2 false).event P.hmk 1 else s
    let s := if s.mainPower ∧ 70 ≤ src ∧ src ≤ 76 then s.event P.clk 0
      else if s.mainPower ∧ 77 ≤ src ∧ src ≤ 81 then s.event P.clk 1 else s
    s.alarm src

/-- TAMPER_ALARM (R435); VBAT below 1.0 V (source 119) is a loss of VBAT, with or without main power (R448).
DEDUCED, log entry 76. -/
def execTamperAlarm (src : Nat) (s : State) : Host.Outcome State Fault Refusal :=
  let t := s.raiseCond src
  .next (if src = 119 ∧ s.tamper.bist ≠ some 119 then t.vbatLost else t)

/-- TAMPER_CONDITION_CLEAR (R435): VBAT is back where source 119 clears (R448), and VBAT_OK with source 118. DEDUCED, log entry 76. -/
def execTamperConditionClear (src : Nat) (s : State) : Host.Outcome State Fault Refusal :=
  let t : State := { s with tamper := { s.tamper with present := drop1 s.tamper.present src } }
  let t := if src = 119 ∧ t.wisp.vbat = false then t.vbatBack else t
  .next (if src = 118 ∨ src = 119 then
      t.setRbit P.hmk R.HMK_STAT 2 (t.wisp.vbat && !t.tamper.present.contains 118)
    else t)

/-- The first running set of a source for which a predicate holds. -/
def State.runIdx (s : State) (src : Nat) (f : RunSet → Bool) : Option Nat :=
  s.tamper.running.findIdx? (fun r => r.src == src && f r)

/-- An action of a set has still to complete. -/
def RunSet.open (r : RunSet) (bit : Nat) : Bool := tb r.set bit && !tb r.done bit

/-- An action in progress has completed, for every running set that waits for it (R442). DEDUCED, log entry 74. -/
def State.actionDone (s : State) (bit : Nat) : State :=
  let l := s.tamper.running.map (fun r => if r.open bit then { r with done := sb r.done bit true } else r)
  ({ s with tamper := { s.tamper with running := l } } : State).showDone

/-- ZEROISE_DONE (R440): what entered the scope since its start is cleared too. -/
def execZeroiseDone (src bit : Nat) (s : State) : Host.Outcome State Fault Refusal :=
  match s.runIdx src (fun r => r.open bit) with
  | some _ => when (zeroBits.contains bit) s ((s.zeroise bit).actionDone bit)
  | none => .next s

/-- The retire fuse is blown: no unit is READY (R441). -/
def State.retireFuse (s : State) : State :=
  let s : State := { s with cust := { s.cust with hmk := 0 } }
  let s := s.each ((List.range 16).flatMap clusterPages ++ stationPages) (fun t p => t.setStat p ST.ready false)
  ((s.setHmk 3).setRbit P.hmk R.HMK_FUSE_STAT 1 true).setRfld P.dbg R.DBG_LIFE 1 0 3

/-- The device is retired. -/
def State.retired (s : State) : Bool := s.rbit P.hmk R.HMK_FUSE_STAT 1

/-- RETIRE (R441): the fuse is blown and verified. -/
def execRetire (src : Nat) (s : State) : Host.Outcome State Fault Refusal :=
  match s.runIdx src (fun r => r.open 10) with
  | some _ => .next (s.retireFuse.actionDone 10)
  | none => .next s

/-- TAMPER_ACTIONS_DONE (R438): the DONE entry. -/
def execTamperActionsDone (src : Nat) (s : State) : Host.Outcome State Fault Refusal :=
  match s.runIdx src (fun r => decide (r.done = r.set)) with
  | some i =>
    (match s.tamper.running[i]? with
    | some r =>
      let t : State := { s with tamper := { s.tamper with running := s.tamper.running.eraseIdx i } }
      .next (((t.logEntry 2 src r.time r.done).setReg P.tamp0 R.TAMP0_DONE_SET r.done).event P.tamp0 4)
    | none => .next s)
  | none => .next s

/-- TAMPER_PERIOD_END (R436). -/
def execTamperPeriodEnd (src : Nat) (s : State) : Host.Outcome State Fault Refusal :=
  let n := Map.get (dflt 0) s.tamper.counted src
  let t : State := { s with tamper := { s.tamper with counted := Map.put (dflt 0) s.tamper.counted src 0 } }
  .next (if n ≤ 1 then t else t.logEntry 7 src t.rtc (wd (min (n - 1) (2 ^ 18 - 1))))

/-- LATCH_WRITE (R435): word `k` of LATCH. -/
def execLatchWrite (_req : Requester) (k : Nat) (val : Word) (s : State) : Host.Outcome State Fault Refusal :=
  s.written P.tamp0 (s.each ((List.range 16).filter (fun j => tb val j && !s.tamper.present.contains (16 * k + j)))
    (fun t j => t.setRbit P.tamp0 (R.TAMP0_LATCH + k) j false))

/-! ### Built-in test (R446, R447) -/

/-- BIST_START. DEDUCED, log entry 75. -/
def execBistStart (req : Requester) (s : State) : Host.Outcome State Fault Refusal :=
  let src := s.rfld P.tamp0 R.TAMP0_BIST_SEL 6 0
  let last := Map.get (dflt 0) s.tamper.tested src
  s.written P.tamp0 (if s.tamper.bist.isSome || !s.mainPower || (decide (last ≠ 0) && decide (s.now + 1 < last + 100000000)) then
      s.pgErr P.tamp0 0 req R.TAMP0_BIST_CTRL
    else
      let s : State := { s with tamper := { s.tamper with bist := some src, tested := Map.put (dflt 0) s.tamper.tested src (s.now + 1) } }
      s.setReg P.tamp0 R.TAMP0_BIST_STAT (wd (2 ^ 15)))

/-- BIST_DONE: the expected response after `us` µs (0), none in 1 ms (1), one of another form after `us` µs (2); `still`:
the source's condition persists. A test that fails by silence has no time of response: that field is free.
DEDUCED, log entry 75. -/
def execBistDone (outcome us : Nat) (still : Bool) (s : State) : Host.Outcome State Fault Refusal :=
  match s.tamper.bist with
  | none => .next s
  | some src =>
    let f := bits (Config.freeWord s.fresh) 9 0
    let n := (if outcome = 1 then f else us % 1024) + (if outcome = 0 then 2 ^ 17 else 0)
    let t : State := { s with tamper := { s.tamper with bist := none }, fresh := s.fresh + 1 }
    let t := (t.setReg P.tamp0 R.TAMP0_BIST_STAT (wd (2 ^ 17 + (if outcome = 0 then 2 ^ 16 else 0) + n % 1024))).event P.tamp0 1
    let t := t.logEntry 5 src t.rtc (wd n)
    let t := if outcome = 1 then (t.incSat P.tamp0 R.TAMP0_BIST_FAILS).event P.tamp0 2 else t
    .next (if outcome = 2 ∨ still = true then t.raiseCond src else t)

/-! ### Staged sets (R443, R460) -/

/-- A SET_TAMPER ceremony runs: its state is COLLECTING or EXECUTING (Table 4-17). -/
def State.setTamperRuns (s : State) : Bool :=
  let st := s.rfld P.peat R.PEAT_CER_STAT 2 0
  (st == 1 || st == 2) && s.cust.cer.func == 2

/-- RESP_STAGE_ACCESS: a write where `wr` holds a value, else a read. DEDUCED, log entry 75. -/
def execRespStageAccess (req : Requester) (wr : Option Word) (s : State) : Host.Outcome State Fault Refusal :=
  let sel := s.reg P.tamp1 R.TAMP1_RESP_SEL
  let src := bits sel 6 0
  let step (t : State) : State := if tb sel 17 then t.setRfld P.tamp1 R.TAMP1_RESP_SEL 6 0 ((src + 1) % 128) else t
  match wr with
  | none => .next (s.readLive P.tamp1 R.TAMP1_RESP_STAGE ((step s).answer (s.stagedSet src)))
  | some w => s.written P.tamp1 (if s.setTamperRuns then s.pgErr P.tamp1 0 req R.TAMP1_RESP_STAGE else step (s.stage src w))

/-- RESP_DISCARD. -/
def execRespDiscard (req : Requester) (s : State) : Host.Outcome State Fault Refusal :=
  s.written P.tamp1 (if s.setTamperRuns then s.pgErr P.tamp1 0 req R.TAMP1_CMD
    else { s with tamper := { s.tamper with staged := [] } })

/-- SET_TAMPER applies all 128 sets (R443). -/
def State.applySets (s : State) : State :=
  let n := ((List.range 128).filter (fun i => s.stagedSet i != s.activeSet i)).length
  let a := (List.range 128).foldl (fun m i => Map.put respWord m i (s.stagedSet i)) s.tamper.active
  let s : State := { s with tamper := { s.tamper with active := a, staged := [] } }
  (s.logEntry 11 0 s.rtc (wd n)).event P.tamp1 0

/-! ### The Moss mesh (R431 to R433, R461) -/

/-- The Moss source that contains a net (Table 16-1). DEDUCED, log entry 73. -/
def mossSource (net : Nat) : Nat :=
  if net < 256 then net / 16 else if net < 320 then 16 + (net - 256) / 16 else if net < 384 then 20 + (net - 320) / 16
  else 24 + (net - 384)

/-- One step of the pattern register, x^18 + x^11 + 1 (R431). DEDUCED, log entry 73. -/
def lfsrStep (v : Word) : Word := (v <<< 1) ||| wd (b2n (tb v 17 != tb v 10))

/-- Many steps of it. -/
def lfsrSteps (n : Nat) (v : Word) : Word := (List.range n).foldl (fun w _ => lfsrStep w) v

/-- The pairs checked, in order: all on main power, those of die V and the substrate on the backup cell (R432). -/
def State.mossPairs (s : State) : List Nat :=
  if s.mainPower then List.range 208 else (List.range 32).map (128 + ·) ++ (List.range 16).map (192 + ·)

/-- The pattern driven into the first net of a pair: the register's 18 bits, highest first (R431). DEDUCED, log entry 73. -/
def State.mossPattern (s : State) (pair : Nat) : Option Word :=
  (s.mossPairs.idxOf? pair).map (fun i => lfsrSteps (18 * i) s.tamper.lfsr)

/-- The nets of a pair that are received wrong, and the kind of the failure (R431): `a` and `b` are the words received, first
bit highest. DEDUCED, log entry 73. -/
def mossNets (pair : Nat) (pat a b : Word) : List Nat × Nat :=
  let l := (if a = pat then [] else [2 * pair]) ++ (if b = ~~~pat then [] else [2 * pair + 1])
  (l, if a = b then 2 else if l.length = 2 then 1 else 0)

/-- The pattern register after a check, reseeded where it has made 65,536 steps since its last seed: from the custody DRBG on
main power, from the noise of the Hummock domain on the backup cell (R432); a custody DRBG that gives nothing leaves it.
DEDUCED, log entry 73. -/
def State.mossNext (s : State) : State :=
  let n := 18 * s.mossPairs.length
  let put (t : State) (v : Word) (k : Nat) : State := { t with tamper := { t.tamper with lfsr := v, steps := k } }
  let k := s.tamper.steps + n
  let on := put s (lfsrSteps n s.tamper.lfsr) k
  if k < 65536 then on
  else if !s.mainPower then
    let t := put s (Config.freeWord s.fresh) (k % 65536)
    { t with fresh := s.fresh + 1 }
  else if s.rngOk custodyInst then
    let (o, t) := s.drawFrom custodyInst 3
    ((put t (wd (beNat o)) (k % 65536)).incSat P.moss R.MOSS_RESEEDS).setRbit P.moss R.MOSS_STAT 1 true
  else on

/-- MOSS_CHECK (R431 to R433): one check of every pair; `bad`: a pair whose two words arrive other than driven, and the words.
DEDUCED, log entry 73. -/
def execMossCheck (bad : Option (Nat × Word × Word)) (s : State) : Host.Outcome State Fault Refusal :=
  let t := s.setRbit P.moss R.MOSS_STAT 0 s.mainPower
  let t := (if s.mainPower then t.inc36 P.moss R.MOSS_SCANS else t).mossNext
  let wrong := bad.bind (fun x => (s.mossPattern x.1).map (fun pat => mossNets x.1 pat x.2.1 x.2.2))
  let t := match wrong with
    | some (net :: more, kind) =>
      let u := ((t.incSat P.moss R.MOSS_FAILS).setReg P.moss R.MOSS_LAST_FAIL (wd (2 ^ 17 + kind * 2 ^ 15 + net))).event P.moss 0
      (net :: more).foldl (fun v m => v.raiseCond (mossSource m)) u
    | _ => t
  when s.hummockOn s t

/-- LAST_FAIL_READ (R461). -/
def execLastFailRead (_req : Requester) (s : State) : Host.Outcome State Fault Refusal :=
  .next (s.readLive P.moss R.MOSS_LAST_FAIL ((s.answer (s.reg P.moss R.MOSS_LAST_FAIL)).setReg P.moss R.MOSS_LAST_FAIL 0))

end Sys2Proof.Machine
end

