-- ==== Sys2Proof/Machine/Control.lean ====
section
/-! DEFINITION. The control bits of every page: EN, STOP, SRESET, start-up and shutdown (R42 to R44, R501), with what each
block's chapter adds. -/
namespace Sys2Proof.Machine

/-! ### Shared -/

/-- A page's functions that are starting. -/
def State.setStarting (s : State) (p : Nat) (b : Bool) : State :=
  { s with lev := { s.lev with starting := if b then add1 s.lev.starting p else drop1 s.lev.starting p } }

/-- A page's functions that drain. -/
def State.setDraining (s : State) (p : Nat) (b : Bool) : State :=
  { s with lev := { s.lev with draining := if b then add1 s.lev.draining p else drop1 s.lev.draining p } }

/-- A requester other than the device has written PG_CTRL of a page (R500). -/
def State.touch (s : State) (p : Nat) : State := { s with boot := { s.boot with touched := add1 s.boot.touched p } }

/-- A write of PG_CTRL that reaches its page: one to a page held in reset or behind a quarantined link is dropped (R38). -/
def State.commanded (s : State) (p : Nat) (f : State → State) : Host.Outcome State Fault Refusal := s.written p (f (s.touch p))

/-- The cluster a member page belongs to, if it is one. -/
def memberOf (p : Nat) : Option Nat :=
  match blockOf p with
  | some (.kz, c) => some (c / 4)
  | some (.ciph, u) | some (.dig, u) => some (u / 2)
  | some (.bn, n) => some n
  | _ => none

/-- A member page's start-up must wait: its cluster is gated or runs its self-test (R23, R490). -/
def State.held (s : State) (p : Nat) : Bool :=
  match memberOf p with
  | some n => s.rbit P.pwr R.PWR_CL_GATED n || s.lev.clBist.contains n
  | none => false

/-- A configuration register of the page disagrees with its complement (R516). -/
def State.mismatched (s : State) (p : Nat) : Bool := s.diag.mism.any (fun k => k / 1024 == p)

/-- Pages whose mismatch stops the function and keeps EN from being written (Table 19-4). -/
def stopsOnMismatch (p : Nat) : Bool :=
  match blockOf p with
  | some (.wq, _) | some (.line, _) | some (.dnl, _) | some (.flash, _) | some (.rng, _) | some (.peat, _) | some (.cred, _) => true
  | _ => false

/-- VFIELD is good. -/
def State.vfield (s : State) : Bool := s.rbit P.pwr R.PWR_STAT 3

/-- A KZ page's JFRAME lies in the words of the core's own cluster window (R275). -/
def State.frameOk (s : State) (c : Nat) : Bool :=
  let a := (s.reg36 (P.kz c) R.KZ_JFRAME).toNat
  decide (sramBase (c / 4) ≤ a) && decide (a < sramBase (c / 4) + sramWords)

/-! ### Start (R42) -/

/-- PEAT and CRED become READY when the key is live and the store restored (R131, Table 18-4). -/
def State.custodyUp (s : State) : State :=
  let up := s.hmkLive && s.peatRestored && !s.retired
  let s := if up && s.en P.peat && !s.stat P.peat ST.stopping then s.setStat P.peat ST.ready true else s
  if up && s.en P.cred && s.ready P.peat then s.setStat P.cred ST.ready true else s

/-- FMAX and FATR of a contact station lie in their ranges and CFG permits a class (R371). -/
def State.contactOk (s : State) (p : Nat) : Bool :=
  let f := s.rfld p R.CST_FMAX 8 0
  let a := s.rfld p R.CST_FATR 8 0
  decide (25 ≤ f) && decide (f ≤ 500) && decide (25 ≤ a) && decide (a ≤ 125) && decide (s.rfld p R.CST_CFG 2 0 ≠ 0)

/-- EN written 1 on an idle page: the function starts, where the block's own conditions hold. DEDUCED, log entry 16. -/
def State.startPage (s : State) (req : Requester) (p : Nat) : State :=
  let on := s.setEn p true
  match blockOf p with
  | some (.wq, q) => s.queueStart req q
  | some (.line, _) => if s.lineCfgOk then on.lineUp.setStarting p true else s.pgErr p 1 req R.PG_CTRL
  | some (.cred, _) =>
    let n := s.rfld p R.CRED_PRQ_SIZE 4 0
    if 6 ≤ n ∧ n ≤ 16 then on.custodyUp else s.pgErr p 0 req R.PG_CTRL
  | some (.peat, _) => on.custodyUp
  | some (.rng, _) =>
    if s.cust.rngDead then s
    else if s.stat p ST.error then on
    else
      let t : State := if s.cust.restart = 1 then { on with cust := { on.cust with restart := s.now + 2 } } else on
      (t.setRbit p R.RNG_STAT 10 true).setStarting p true
  | some (.flash, _) => (on.setRbit p R.FLASH_FL_SCAN 17 false).setStarting p true
  | some (.dnl, i) => on.startPort i
  | some (.place, _) | some (.dnlx, _) => on.setStat p ST.ready true
  | some (.clu, n) => on.setStat p ST.ready (s.lev.clPassed.contains n)
  | some (.kz, c) =>
    if s.frameOk c then
      let t := (on.setCore c { Core.zero with ctxKey := (s.core c).ctxKey }).setReg36 p R.KZ_INSTRET 0
      if s.held p then t else t.setStarting p true
    else s.pgErr p 1 req R.PG_CTRL
  | some (.ciph, _) =>
    let t := on.setReg p R.CIPH_KAT 0
    if s.held p then t else t.setStarting p true
  | some (.dig, _) =>
    let t := on.setReg p R.DIG_KAT 0
    if s.held p then t else t.setStarting p true
  | some (.bn, _) =>
    let t := on.setReg p R.BN_KAT 0
    if s.held p then t else t.setStarting p true
  | some (.cst, _) =>
    if s.contactOk p then
      let t := on.setReg p R.CST_KAT 0
      if s.vfield then t.setStarting p true else t
    else s.pgErr p 1 req R.PG_CTRL
  | some (.fst, n) =>
    let t := (on.setReg p R.FST_KAT 0).setFst n { s.fst n with recRead := false }
    let t := t.setStat p ST.error false
    if s.vfield then t.setStarting p true else t
  | _ => s

/-- EN_WRITE_1 (R42 to R44, R516). -/
def execEnWrite1 (req : Requester) (page : Nat) (s : State) : Host.Outcome State Fault Refusal :=
  s.commanded page (fun s => match blockOf page with
    | none => s
    | some (b, _) =>
      if b.alwaysOn then s
      else if s.stat page ST.quar || (stopsOnMismatch page && s.mismatched page) then s.pgErr page ERR.quar req R.PG_CTRL
      else if s.stat page ST.stopping then s.setStat page ST.restart true
      else if s.en page then s
      else s.startPage req page)

/-! ### Shutdown (R42, R83, R191, R371, R405, R426, R479) -/

/-- Nothing that a block's shutdown waits for is left. -/
def State.quiet (s : State) (p : Nat) : Bool :=
  match blockOf p with
  | some (.wq, q) => s.jobs.all (fun e => match e.2 with | some j => !(j.orphan && j.queue == q && j.origin.isNone) | none => true)
  | some (.line, _) => s.rbit P.line R.LINE_STAT 1
  | some (.dnl, i) => decide (s.lstate i ≠ L.up) || (s.port i).replay.isEmpty
  | some (.flash, _) => s.flashQuiet
  | some (.cst, n) => s.cstQuiet n
  | some (.fst, n) => s.fstQuiet n
  | some (.kz, c) => decide ((s.core c).held = 0) && (s.runsOn p).isNone
  | some (.ciph, _) | some (.dig, _) | some (.bn, _) => (s.runsOn p).isNone
  | _ => true

/-- Abort tags a queue still waits on are given up (R83 item 5). -/
def State.dropAborts (s : State) (q : Nat) : State :=
  let s := s.each (s.queue q).aborts (fun t a => t.freeTag a)
  s.setQueue q { s.queue q with aborts := [] }

/-- What the end of a shutdown does in a block. -/
def State.stopped (s : State) (p : Nat) : State :=
  match blockOf p with
  | some (.wq, q) => (s.dropAborts q).queueStopped q
  | some (.dnl, i) => s.portStopped i
  | some (.kz, c) => s.stopCore c
  | _ => s

/-- A ceremony in progress ends FAILED with a cause (R165). -/
def State.cerFail (s : State) (cause : Nat) : State :=
  let st := s.rfld P.peat R.PEAT_CER_STAT 2 0
  if st = 1 ∨ st = 2 then
    let s := ((s.setRfld P.peat R.PEAT_CER_STAT 2 0 4).setRfld P.peat R.PEAT_CER_STAT 11 8 cause).event P.peat 1
    if s.cust.cer.func = 2 then s.event P.tamp1 1 else s
  else s

/-- Cause CANCELLED of a ceremony (Table 4-17). -/
abbrev cerCancelled : Nat := 6

/-- A shutdown ends: STOPPING and RESTART_PENDING clear together, and a pending restart begins (R43); on a station page
the restart waits for VFIELD (R501). -/
def State.shutEnd (s : State) (p : Nat) : State :=
  let again := s.stat p ST.restart
  let s := ((s.setStat p ST.stopping false).setStat p ST.restart false).stopped p
  if again then s.startPage .host p else s

/-- The shutdown work a block starts. DEDUCED, log entry 16. -/
def State.stopWork (s : State) (p : Nat) : State :=
  match blockOf p with
  | some (.wq, q) => s.queueShutdown q
  | some (.line, _) => s.assertHold 12
  | some (.dnl, i) => s.stopPort i
  | some (.peat, _) => s.cerFail cerCancelled
  | some (.rng, _) => ((s.setRfld p R.RNG_STAT 4 0 0).setRbit p R.RNG_STAT 10 false).starveUnits
  | some (.dig, _) => ({ s with units := { s.units with hold := Map.put (dflt 0) s.units.hold p 0 } } : State)
  | some (.cst, n) => s.cstStop n
  | some (.fst, n) => s.fstStop n
  | _ => s

/-- EN becomes 0 and the block's shutdown starts; one without work left completes at once (R42). DEDUCED, log entry 16. -/
def State.shutdown (s : State) (p : Nat) : State :=
  let s := (((s.setEn p false).setStat p ST.ready false).setStat p ST.stopping true).setStarting p false
  let s := (s.setDraining p false).stopWork p
  if !s.stat p ST.stopping then s
  else if s.quiet p && (match blockOf p with | some (.wq, q) => (s.queue q).aborts.isEmpty | _ => true) then s.shutEnd p else s

/-- EN_WRITE_0 (R42, R44): while STOPPING nothing changes, and a pending restart stays pending (R43). -/
def execEnWrite0 (req : Requester) (page : Nat) (s : State) : Host.Outcome State Fault Refusal :=
  s.commanded page (fun s => match blockOf page with
    | none => s
    | some (b, _) =>
      if b.alwaysOn then s
      else if s.stat page ST.quar then s.pgErr page ERR.quar req R.PG_CTRL
      else if s.en page then s.shutdown page
      else s)

/-! ### Drain (R42, R87) -/

/-- STATE of CER_STAT (Table 4-17). -/
def State.cerState (s : State) : Nat := s.rfld P.peat R.PEAT_CER_STAT 2 0

/-- A ceremony is COLLECTING or EXECUTING. -/
def State.cerRuns (s : State) : Bool := s.cerState == 1 || s.cerState == 2

/-- A custody opcode that credential pages serve (Table 4-15). -/
def pageOp (op : Nat) : Bool := decide (0o010 ≤ op) && decide (op ≤ 0o015)

/-- The page holds no work (Table 1-12 BUSY): what counts as work of a block is what its chapter has it take up and end.
DEDUCED, log entry 16. -/
def State.drained (s : State) (p : Nat) : Bool :=
  match blockOf p with
  | some (b, i) =>
    (match b with
    | .wq => (s.queue i).fifo.isEmpty
    | .flash => s.flashQuiet
    | .line => s.line.items.isEmpty
    | .kz | .ciph | .dig | .bn | .cst | .fst => (s.runsOn p).isNone && (s.inQ p).isEmpty
    | .lode => !s.anyJob (fun j => decide (j.st ≠ .fetched)) && s.lode.moving.isEmpty
    | .peat => !s.cerRuns && !s.anyJob (fun j => decide (j.st = .running) && decide (0o020 ≤ j.opcode) && decide (j.opcode ≤ 0o037)) &&
        !s.cust.compacting
    | .cred => s.cust.requested.isEmpty && !s.anyJob (fun j => decide (j.st = .running) && pageOp j.opcode)
    | .dnl => (s.port i).replay.isEmpty && (s.port i).wait.isEmpty
    | .dnlx => s.net.held.isEmpty
    | .place => !s.net.looking && s.net.next.isNone
    | .midr => s.stn.midr.reading.isNone
    | .clu => !s.lev.clBist.contains i
    | .cgate => !s.gates.clearing.any (fun x => x.1 == i)
    | .evt0 | .evt1 | .evt2 | .evt3 => s.evt.raised.isEmpty
    | .sluice => s.sluice.arbs.all (fun e => e.2.pend.isEmpty)
    | .tamp0 => s.tamper.bist.isNone && s.tamper.running.isEmpty
    | .wisp => s.wisp.queue.isEmpty
    | .pwr => s.power.step.isNone && s.power.ungating.isEmpty
    | .rstc => s.boot.rgReset.isEmpty
    | .diag => s.diag.inject.isNone
    | .dev | .rng | .clk | .hmk | .tamp1 | .moss | .gate | .dbg => true)
  | none => true

/-- STOP (R42, R44, R87): a draining stop; it has no effect while EN is 0. -/
def execStop (req : Requester) (page : Nat) (s : State) : Host.Outcome State Fault Refusal :=
  s.commanded page (fun s => match blockOf page with
    | none => s
    | some (b, i) =>
      if b.alwaysOn then s
      else if s.stat page ST.quar then s.pgErr page ERR.quar req R.PG_CTRL
      else if !s.en page then s
      else
        let t := s.setStat page ST.ready false
        let t := if b = .wq then t.setQueue i { t.queue i with draining := true } else t.setDraining page true
        if t.drained page then t.shutdown page else t)

/-- SHUTDOWN_COMPLETE (R42, R43): a drain that has nothing left goes through the shutdown; a shutdown with nothing left
ends. -/
def execShutdownComplete (page : Nat) (s : State) : Host.Outcome State Fault Refusal :=
  let drains := s.en page && (match blockOf page with
    | some (.wq, q) => (s.queue q).draining
    | _ => s.lev.draining.contains page)
  .next (if drains then (if s.drained page then s.shutdown page else s)
    else if s.stat page ST.stopping && s.quiet page then s.shutEnd page
    else s)

/-! ### End of a start-up (R42, R190, R213, R240, R275, R371, R403, R426) -/

/-- The KAT register of a page and its KAT_FAIL event. -/
def katOf (p : Nat) : Option (Nat × Nat) :=
  match blockOf p with
  | some (.ciph, _) => some (R.CIPH_KAT, 2)
  | some (.dig, _) => some (R.DIG_KAT, 2)
  | some (.bn, _) => some (R.BN_KAT, 2)
  | some (.cst, _) => some (R.CST_KAT, 5)
  | some (.fst, _) => some (R.FST_KAT, 7)
  | _ => none

/-- A unit that has passed its start-up may be READY: enabled, not quarantined, stopping, draining or held, with the
randomness it needs (R22, R42, R170, R230). -/
def State.unitFit (s : State) (p : Nat) : Bool :=
  s.en p && !s.stat p ST.quar && !s.stat p ST.stopping && !s.lev.draining.contains p && !s.held p && s.unitFed p &&
    !s.retired

/-- The unit's known-answer test has passed since its last start. -/
def State.tested (s : State) (p : Nat) : Bool := match katOf p with | some (r, _) => s.rbit p r 1 | none => false

/-- Units whose randomness has returned are READY again, their masks reseeded, and start a job (R170, R230). -/
def State.feedUnits (s : State) : State :=
  s.each (fedPages.filter s.tested) (fun t p => (if t.unitFit p then (t.reseedMask p).setStat p ST.ready true else t).startNext p)

/-- A core is released at KZ.BOOT (R275): a context key is drawn from its region's DRBG (R310). -/
def State.releaseCore (s : State) (c : Nat) : State :=
  let n := s.fresh
  let (_, s) := s.drawFrom (c / 16) 9
  s.setCore c { Core.zero with
    pc := s.reg36 (P.kz c) R.KZ_BOOT, run := true, ctxKey := n, cyc0 := Map.get (dflt 0) s.power.cycles (c / 16) }

/-- The boot nonce is drawn from the custody DRBG once after each package reset (R130). -/
def State.bootNonce (s : State) : State :=
  if s.cust.nonce = 0 then
    let (o, s) := s.drawFrom custodyInst 16
    { s with cust := { s.cust with nonce := BitVec.ofNat 128 (beNat o) } }
  else s

/-- What follows a passing start-up. DEDUCED, log entry 18. -/
def State.startPass (s : State) (p : Nat) : State :=
  match blockOf p with
  | some (.rng, _) =>
    let t := ((s.setRbit p R.RNG_STAT 10 false).setRfld p R.RNG_STAT 4 0 31).setStat p ST.ready true
    (t.each (List.range 5) State.seed).bootNonce.feedUnits
  | some (.kz, c) => (s.releaseCore c).setStat p ST.ready (!s.lev.draining.contains p)
  | some (.ciph, _) | some (.dig, _) | some (.bn, _) =>
    (if s.unitFit p then (s.reseedMask p).setStat p ST.ready true else s).startNext p
  | some (.fst, n) => (s.fstUp n).setStat p ST.ready (!s.lev.draining.contains p)
  | _ => s.setStat p ST.ready (!s.lev.draining.contains p)

/-- What follows a failing start-up: a failing health test, a lockstep mismatch, or quarantine with KAT_FAIL.
DEDUCED, log entry 18. -/
def State.startFail (s : State) (p : Nat) (rct : Bool) : State :=
  match blockOf p with
  | some (.rng, _) => s.healthFail rct !rct
  | some (.kz, c) => (s.detect 1).quarClusterUp (c / 4)
  | some (.line, _) => s.assertHold 2
  | _ => match katOf p with
    | some (_, e) => (s.quarOwn p).event p e
    | none => s

/-- A start-up may end: the flash's own row ends its scan; a station's record has been read; a core needs its region's
DRBG (R310). DEDUCED, log entry 18. -/
def State.startable' (s : State) (p : Nat) : Bool :=
  s.lev.starting.contains p && !s.retired &&
    (match blockOf p with
    | some (.fst, n) => (s.fst n).recRead
    | some (.kz, c) => s.rngOk (c / 16)
    | some (.flash, _) => s.rbit P.flash R.FLASH_FL_SCAN 17
    | _ => true)

/-- The end of a start-up: `pass`, and the number of the first failing vector or check. DEDUCED, log entry 16. -/
def State.startEnd (s : State) (page : Nat) (pass : Bool) (vec : Nat) : State :=
  let t := s.setStarting page false
  let t := match katOf page with
    | some (r, _) => t.setReg page r (wd (if pass then 3 else vec * 4 + 1))
    | none => t
  if pass then t.startPass page else t.startFail page (tb (wd vec) 0)

/-! ### SRESET (R22, R42, R44, R501 and the block chapters) -/

/-- Words that a page's SRESET leaves: counts kept since power-on, values kept across resets, read-only registers that
show something which the SRESET does not change, and what chapters name. DEDUCED, log entry 16. -/
def keptWords (b : Block) (w : Nat) : Bool :=
  match b with
  | .ciph => w == R.CIPH_CHK_FAILS
  | .dig => w == R.DIG_CHK_FAILS
  | .bn => w == R.BN_CHK_FAILS || w == R.BN_ABORTS
  | .kz => w == R.KZ_ABORTS || w == R.KZ_VFAIL
  | .cst => w == R.CST_REPEATS || w == R.CST_REMOVALS
  | .fst => w == R.FST_ARRIVALS || w == R.FST_AMBIGS
  | .line => w == R.LINE_ASSOC_FAILS || w == R.LINE_HOLDS || w == R.LINE_HOLD_POS || w == R.LINE_HOLD_POS + 1
  | .flash => decide (R.FLASH_FL_CORR ≤ w ∧ w ≤ R.FLASH_FL_UNCORR) || w == R.FLASH_FL_STAT
  | .dev => w == R.DEV_STAT || w == R.DEV_BOOT_ERR || w == R.DEV_IMG_VER || w == R.DEV_FUSE_RB
  | .rstc => w == R.RSTC_RG_STAT || w == R.RSTC_PERSTS
  | .pwr => decide (R.PWR_RG_POINT ≤ w ∧ w ≤ R.PWR_STAT) || w == R.PWR_CL_GATED || w == R.PWR_IOUT
  | .clk | .hmk => decide (0o20 ≤ w)
  | .diag => w == R.DIAG_STAT || w == R.DIAG_CORR || w == R.DIAG_UNCORR
  | .tamp0 => decide (R.TAMP0_LATCH ≤ w ∧ w < R.TAMP0_LATCH + 8) || w == R.TAMP0_LAST ||
      decide (R.TAMP0_PENDING ≤ w ∧ w ≤ R.TAMP0_BIST_FAILS)
  | .moss => w == R.MOSS_STAT || w == R.MOSS_LAST_FAIL || w == R.MOSS_RESEEDS || w == R.MOSS_FAILS
  | .wisp => w == R.WISP_HEAD || w == R.WISP_SEQ || w == R.WISP_SEQ + 1 || w == R.WISP_LOST || w == R.WISP_FIELD_READS
  | .dbg => w == R.DBG_LIFE
  | .sluice => w == R.SLUICE_STAT
  | .midr => w == R.MIDR_STAT || w == R.MIDR_OK_MAP || w == R.MIDR_BUS_ERRS
  | .peat => !(w == R.PEAT_QKEY_SEL || decide (R.PEAT_CER_CTRL ≤ w ∧ w ≤ R.PEAT_CER_NONCE + 1)) && decide (0o13 ≤ w)
  | .cred => decide (R.CRED_FREE ≤ w ∧ w < R.CRED_FREE + 4)
  | .evt0 | .evt1 | .evt2 | .evt3 | .tamp1 | .rng | .lode | .place | .dnl | .dnlx | .gate | .wq | .clu | .cgate => false

/-- Whether SRESET leaves word `w` of a page (R22, R46): PG_LOCK, RWL fields while it is set, and the block's own. -/
def State.keeps (s : State) (p : Nat) (b : Block) (w : Nat) : Bool :=
  w == R.PG_LOCK || keptWords b w ||
    (match descOf b w with
    | some r => decide (r.acc = .rwl) && s.lockedPage p
    | none => false)

/-- Registers return to their reset values; READY of a page that cannot be disabled and QUARANTINED stay. -/
def State.regsReset (s : State) (p : Nat) (b : Block) : State :=
  let ready := s.ready p && b.alwaysOn
  let quar := s.stat p ST.quar
  let t := s.resetPage p (s.keeps p b)
  let t := ((t.setStat p ST.ready ready).setStat p ST.quar quar).setStat p ST.locked (s.lockedPage p)
  let t : State := { t with diag := { t.diag with mism := t.diag.mism.filter (fun k => !(k / 1024 == p) || s.keeps p b (k % 1024)) } }
  (t.setStarting p false).setDraining p false

/-- A unit's own quarantine may be released now (R22): its cluster is in service and it has not been quarantined three
times by its own detection. -/
def State.releasable (s : State) (p : Nat) : Bool :=
  decide (Map.get (dflt 0) s.lev.ownCount p < 3) &&
    (match memberOf p with | some n => !s.stat (P.clu n) ST.quar | none => true)

/-- Release a unit page from quarantine. -/
def State.release (s : State) (p : Nat) : State :=
  if s.releasable p then ({ s with lev := { s.lev with ownNow := drop1 s.lev.ownNow p } } : State).setStat p ST.quar false else s

/-- SRESET of a cipher, digest or bignum unit or of a core (R22, R275). DEDUCED, log entry 17. -/
def State.unitReset (s : State) (p : Nat) (b : Block) : State :=
  let s := (s.setStat p ST.ready false).setDraining p false
  let s := match coreOf p with | some c => (s.dropCmds c) | none => s
  let s := ((s.faultRunning p).dropReqs p)
  let s : State := { s with units := { s.units with hold := Map.put (dflt 0) s.units.hold p 0 } }
  let s := match coreOf p with | some c => (s.stopCore c).setCore c Core.zero | none => s
  (s.regsReset p b).release p

/-- SRESET of a station (R371, R405): the medium lets go at once, jobs in the input queue complete NOT_READY, replay
records stay. DEDUCED, log entry 17. -/
def State.stationReset (s : State) (p : Nat) (b : Block) (n : Nat) : State :=
  if b = .cst then
    let s := (s.stnFlush p).cstBreak n S.aborted
    let keep := bits (s.reg p R.CST_STAT) 3 0
    ((s.regsReset p b).setRfld p R.CST_STAT 3 0 keep).release p
  else
    let s := ((s.stnFlush p).fabandon n S.aborted).fstBreak n S.aborted
    let keep := bits (s.reg p R.FST_STAT) 2 0
    let s := s.setFst n { (Fst.idle : Fst) with
      record := (s.fst n).record, replay := (s.fst n).replay, lastType := (s.fst n).lastType,
      admitted := (s.fst n).admitted }
    ((s.regsReset p b).setRfld p R.FST_STAT 2 0 keep).release p

/-- A cluster's self-test starts; its quarantine and that of the members quarantined with it end (R23). -/
def State.clusterRelease (s : State) (n : Nat) : State :=
  let s := s.setStat (P.clu n) ST.quar false
  let s := s.each ((clusterPages n).filter (fun p => !s.lev.ownNow.contains p)) (fun t p => t.setStat p ST.quar false)
  { s with lev := { s.lev with clBist := add1 s.lev.clBist n, clPassed := drop1 s.lev.clPassed n } }

/-- SRESET of CLU (R23): the cluster stops as under a quarantine and restarts, unless its region stays quarantined.
DEDUCED, log entry 17. -/
def State.clusterReset (s : State) (n : Nat) : State :=
  let s := (s.quarCluster n).regsReset (P.clu n) .clu
  if s.regionQuar (n / 4) then s else s.clusterRelease n

/-- SRESET of CGATE (R327): every granule of colour 15 below 1,212 is cleared, then every colour is 0; a locked page keeps
its colours (R42). DEDUCED, log entry 17. -/
def State.gateReset (s : State) (n : Nat) : State :=
  let gs := (s.gates.gcol.filter (fun e => decide (e.1 / 2048 = n) && decide (e.2 = 15))).map (fun e => e.1 % 2048)
  let s := s.each gs (fun t g => t.clearWords (sramBase n + 1024 * g) 1024)
  if s.lockedPage (P.cgate n) then s
  else
  let g := s.gates
  let t : State := { s with gates := { g with gcol := Map.keep (fun k => !decide (k / 2048 = n)) g.gcol,
                                              clearing := g.clearing.filter (fun x => decide (x.1 ≠ n)) } }
  t.mendRange (granKey n 0) (granKey (n + 1) 0)

/-- SRESET of CRED (R550): every page request outstanding ends. DEDUCED, log entry 17. -/
def State.credReset (s : State) : State :=
  let s := s.each s.cust.requested (fun t p => t.endRequest p true true)
  { s with cust := { s.cust with requested := [], lastReq := none } }

/-- SRESET of RNG (R135, R551): a restart after it follows a failure where ERROR was 1. -/
def State.rngReset (s : State) : State :=
  if s.cust.rngDead then s
  else
    let r := if s.stat P.rng ST.error then 1 else s.cust.restart
    let s : State := { s with cust := { s.cust with restart := r } }
    (s.regsReset P.rng .rng).starveUnits

/-- A queue's SRESET (R88): the shutdown at once; replay records of its entries go (R369). STOPPING stays 1 while an
exchange, a core or a unit still ends one of its jobs, or an abort is not acknowledged (R83, R84, R115).
DEDUCED, log entry 9. DEDUCED, log entry 17. -/
def State.queueReset (s : State) (q : Nat) : State :=
  let s := s.queueShutdown q
  let s := (s.dropReplays q (fun _ => true)).setQueue q { Queue.idle with aborts := (s.queue q).aborts }
  (s.regsReset (P.wq q) .wq).setStat (P.wq q) ST.stopping (!s.queueQuiet q)

/-- GB mode is in force while GBMODE is 1 and GB_LEFT is 0 (R502). DEDUCED, log entry 83. -/
def State.gbForce (s : State) : State :=
  s.setRbit P.dev R.DEV_STAT 0 (s.rbit P.dev R.DEV_BOOTCFG 0 && !s.rbit P.dev R.DEV_STAT 2)

/-- GBMODE returns to its reset value, the sampled pin (R502). DEDUCED, log entry 83. -/
def State.gbDefault (s : State) (b : Bool) : State :=
  if b then (s.setRbit P.dev R.DEV_BOOTCFG 0 (s.rbit P.dev R.DEV_STAT 1)).gbForce else s

/-- A page whose chapter names SRESET as the release from quarantine (R44). -/
def releasesBySreset : Block → Bool
  | .ciph | .dig | .bn | .kz | .cst | .fst | .clu => true
  | .dev | .rstc | .pwr | .clk | .evt0 | .evt1 | .evt2 | .evt3 | .diag | .hmk | .tamp0 | .tamp1 | .moss | .wisp
  | .peat | .cred | .rng | .flash | .lode | .place | .dnl | .dnlx | .gate | .sluice | .dbg | .wq | .cgate | .line
  | .midr => false

/-- SRESET of a page of a block. DEDUCED, log entry 16. DEDUCED, log entry 17. -/
def State.sreset (s : State) (p : Nat) (b : Block) (i : Nat) : State :=
  match b with
  | .ciph | .dig | .bn | .kz => s.unitReset p b
  | .cst | .fst => s.stationReset p b i
  | .clu => s.clusterReset i
  | .wq => s.queueReset i
  | .cgate => (s.gateReset i).regsReset p b
  | .gate =>
    let t : State := if s.lockedPage p then s else { s.mendRange (ruleKey 0) (ruleKey 128) with gates := { s.gates with rules := [] } }
    t.regsReset p b
  | .sluice => ({ s with sluice := { s.sluice with classes := [] } } : State).regsReset p b
  | .evt0 => (({ s with evt := { s.evt with routes := [] } } : State).mendRange (routeKey 0) (routeKey 4096)).regsReset p b
  | .peat => (s.cerFail cerCancelled).regsReset p b
  | .cred => s.credReset.regsReset p b
  | .rng => s.rngReset
  | .flash =>
    let t := s.flashReset
    let op := t.reg p R.FLASH_FL_LASTOP
    let pg := t.reg p R.FLASH_FL_LASTPAGE
    let raw := t.reg p R.PG_EVT_RAW
    (((t.regsReset p b).setReg p R.FLASH_FL_LASTOP op).setReg p R.FLASH_FL_LASTPAGE pg).setReg p R.PG_EVT_RAW (raw &&& 1)
  | .line =>
    let ok := s.rbit p R.LINE_STAT 2
    let t := (s.lineReset).regsReset p b
    t.setRbit p R.LINE_STAT 2 ok
  | .dnl => ((((s.setStat p ST.stopping false).setLink i L.down 9).spill i).setPort i Port.idle).regsReset p b
  | .midr =>
    let t := s.regsReset p b
    t.setRbit p R.MIDR_STAT 17 false
  | .dev => (s.regsReset p b).gbDefault (!s.lockedPage p)
  | .pwr =>
    let l := (List.range 16).filter (fun n => s.rbit P.pwr R.PWR_CL_GATED n)
    let t := s.regsReset p b
    { t with power := { t.power with ungating := t.power.ungating ++ l.filter (fun n => !t.power.ungating.contains n) } }
  | .place =>
    let t := s.regsReset p b
    { t with net := { t.net with staged := t.net.applied, looking := false } }
  | .dnlx => ({ s with net := { s.net with routes := [] } } : State).regsReset p b
  | .tamp1 => (if s.setTamperRuns then s else { s with tamper := { s.tamper with staged := [] } }).regsReset p b
  | .rstc | .clk | .evt1 | .evt2 | .evt3 | .diag | .hmk | .tamp0 | .moss | .wisp | .lode | .dbg => s.regsReset p b

/-- SRESET (R22, R42, R44, R501). -/
def execSreset (req : Requester) (page : Nat) (s : State) : Host.Outcome State Fault Refusal :=
  s.commanded page (fun s => match blockOf page with
    | none => s
    | some (b, i) =>
      if s.stat page ST.quar && !releasesBySreset b then s.pgErr page ERR.quar req R.PG_CTRL
      else s.sreset page b i)

end Sys2Proof.Machine
end

