-- ==== Sys2Proof/Machine/Power.lean ====
section
/-! DEFINITION. The power manager (R484 to R491, R505): VFIELD, package power, region steps, admission of stations, cluster
gating, the regulator's bus. -/
namespace Sys2Proof.Machine

/-! ### Operating points (R486, Table 18-2) -/

/-- The level of a point in mV. -/
def pointLevel (n : Nat) : Nat := [580, 600, 620, 645, 670, 695, 720, 750, 780].getD n 780

/-- The frequency of a point in MHz. -/
def pointFreq (n : Nat) : Nat := 400 + 100 * n

/-- The point of a region. -/
def State.point (s : State) (k : Nat) : Nat := s.rfld P.pwr R.PWR_RG_POINT (4 * k + 3) (4 * k)

/-- The highest point a region may take; above 8 acts as 8. -/
def State.fmax (s : State) (k : Nat) : Nat := min 8 (s.rfld P.pwr R.PWR_RG_FMAX (4 * k + 3) (4 * k))

/-- The level commanded for four region points: the larger of 700 mV and the highest level plus 20 mV, rounded up to
5 mV. -/
def vcoreFor (points : List Nat) : Nat :=
  let v := max 700 (((points.map pointLevel).foldl max 0) + 20)
  (v + 4) / 5 * 5

/-- The points of the four regions. -/
def State.points (s : State) : List Nat := (List.range 4).map s.point

/-- A region takes steps: neither quarantined nor held in reset (R488). -/
def State.steps (s : State) (k : Nat) : Bool := !s.rbit P.rstc R.RSTC_RG_STAT k && !s.rbit P.rstc R.RSTC_RG_STAT (4 + k)

/-- CAPPING: a region is below its RG_FMAX because of a step under item 1 (R488); the event comes with the bit.
DEDUCED, log entry 78. -/
def State.capUpdate (s : State) : State :=
  let l := s.power.capped.filter (fun k => decide (s.point k < s.fmax k))
  let on := !l.isEmpty
  let was := s.rbit P.pwr R.PWR_STAT 0
  let s : State := { s with power := { s.power with capped := l } }
  let s := s.setRbit P.pwr R.PWR_STAT 0 on
  if on && !was then s.event P.pwr 0 else s

/-- PMB_OK. -/
def State.pmbOk (s : State) : Bool := s.rbit P.pwr R.PWR_STAT 2

/-- A region may step up: below its RG_FMAX and, while PMB_OK is 0, within what the last confirmed level allows (R491). -/
def State.mayRise (s : State) (k : Nat) : Bool :=
  s.steps k && decide (s.point k < s.fmax k) && (s.pmbOk || decide (pointLevel (s.point k + 1) + 20 ≤ s.power.vout))

/-- The step an update takes: region and direction (R488). -/
def State.choose (s : State) : Option (Nat × Bool) :=
  let pkg := s.rfld P.pwr R.PWR_PKG_POWER 17 0
  let cap := s.rfld P.pwr R.PWR_CAP 8 0 * 10
  if cap < pkg ∨ !s.stn.waits.isEmpty then
    (argMin (fun k => (8 - s.point k, k, 0)) ((List.range 4).filter (fun k => s.steps k && decide (0 < s.point k)))).map
      (fun k => (k, false))
  else if pkg + 100 < cap then
    (argMin (fun k => (s.point k, k, 0)) ((List.range 4).filter s.mayRise)).map (fun k => (k, true))
  else none

/-- Start a step (R487): a step up raises VCORE first, a step down switches the frequency first. DEDUCED, log entry 78. -/
def State.stepStart (s : State) (k : Nat) (up : Bool) : State :=
  let s : State := { s with power := { s.power with step := some (k, up) } }
  if up then s.setReg P.pwr R.PWR_VCORE (wd (vcoreFor ((List.range 4).map (fun i => if i = k then s.point k + 1 else s.point i))))
  else
    let s : State := { s with power := { s.power with capped := add1 s.power.capped k } }
    (s.setReg P.clk (R.CLK_RG_FREQ + k) (wd (pointFreq (s.point k - 1)))).inc36 P.pwr R.PWR_STEPS_DOWN

/-- POWER_UPDATE (R488): `vcore` is the VCORE power of the telemetry, `rest` the measured draw of die V, die F and the
stations, both in 10 mW. DEDUCED, log entry 78. -/
def execPowerUpdate (vcore rest : Nat) (s : State) : Host.Outcome State Fault Refusal :=
  let pkg := min 262143 ((if s.pmbOk then vcore else 2000) + rest)
  let t := s.setReg P.pwr R.PWR_PKG_POWER (wd pkg)
  let high := decide (3600 < pkg) && t.points.all (fun p => p == 0)
  let n := if high then min 11 (s.power.past + 1) else 0
  let t : State := { t with power := { t.power with past := n } }
  let t := if n = 10 then t.event P.pwr 4 else t
  let t := if t.power.step.isSome then t
    else match t.choose with
      | some (k, up) => t.stepStart k up
      | none => t
  .next t.capUpdate

/-- REGION_STEP_DONE (R487). DEDUCED, log entry 78. -/
def execRegionStepDone (s : State) : Host.Outcome State Fault Refusal :=
  match s.power.step with
  | none => .next s
  | some (k, up) =>
    let p := if up then s.point k + 1 else s.point k - 1
    let t : State := { s with power := { s.power with step := none } }
    let t := (t.setRfld P.pwr R.PWR_RG_POINT (4 * k + 3) (4 * k) p).setReg P.clk (R.CLK_RG_FREQ + k) (wd (pointFreq p))
    let t := if up then t else t.setReg P.pwr R.PWR_VCORE (wd (vcoreFor t.points))
    .next t.capUpdate

/-! ### Stations (R484, R489) -/

/-- A station's power is reserved. DEDUCED, log entry 78. -/
def State.letOn (s : State) (p : Nat) : State :=
  let s := s.setWaits (drop1 s.stn.waits p)
  let s := s.modReg P.pwr R.PWR_STN_RESERVED (fun v => wd (v.toNat + s.stnNeed p))
  if p < 0x410 then s.setCst (p - 0x400) { s.cst (p - 0x400) with admitted := true }
  else s.setFst (p - 0x410) { s.fst (p - 0x410) with admitted := true }

/-- STATION_ADMIT (R489): the oldest waiting activation or field-on, where budget and cap allow it. -/
def execStationAdmit (s : State) : Host.Outcome State Fault Refusal :=
  match s.stn.waits with
  | [] => .next s
  | p :: _ =>
    let need := s.stnNeed p
    when (decide (s.rfld P.pwr R.PWR_STN_RESERVED 17 0 + need ≤ s.rfld P.pwr R.PWR_STN_BUDGET 17 0) &&
      decide (s.rfld P.pwr R.PWR_PKG_POWER 17 0 * 10 + need ≤ s.rfld P.pwr R.PWR_CAP 8 0 * 100)) s (s.letOn p)

/-- A station shuts down for want of VFIELD (R484): EN keeps its value, and an exchange that has begun has failed. -/
def State.loseField (s : State) (p : Nat) : State :=
  if !s.en p then s
  else
    let s := ((s.setStat p ST.ready false).setStat p ST.stopping true).setStarting p false
    let s := if p < 0x410 then s.cstLoss (p - 0x400) else s.fstLoss (p - 0x410)
    if s.quiet p then (s.setStat p ST.stopping false) else s

/-- VFIELD_LOST (R484). -/
def execVfieldLost (s : State) : Host.Outcome State Fault Refusal :=
  when s.vfield s (((s.setRbit P.pwr R.PWR_STAT 3 false).event P.pwr 2).each stationPages (fun t p => t.loseField p))

/-- A station page that holds EN = 1 runs its full start-up, after a shutdown still in progress (R484, R501). -/
def State.gainField (s : State) (p : Nat) : State :=
  if !s.en p || s.stat p ST.quar then s
  else if s.stat p ST.stopping then s.setStat p ST.restart true
  else s.startPage .host p

/-- VFIELD_GOOD (R484). -/
def execVfieldGood (s : State) : Host.Outcome State Fault Refusal :=
  when (!s.vfield && s.mainPower) s
    (((s.setRbit P.pwr R.PWR_STAT 3 true).event P.pwr 3).each stationPages (fun t p => t.gainField p))

/-! ### Cluster gating (R490) -/

/-- Every member page of a cluster has EN = 0 and STOPPING = 0. -/
def State.clusterIdle (s : State) (n : Nat) : Bool := (clusterPages n).all (fun p => !s.en p && !s.stat p ST.stopping)

/-- A write of CL_GATE takes effect. DEDUCED, log entry 78. -/
def State.wClGate (s : State) (req : Requester) (val : Word) : State :=
  let old := s.reg P.pwr R.PWR_CL_GATE
  let on := (List.range 16).filter (fun n => tb val n && !tb old n)
  let off := (List.range 16).filter (fun n => !tb val n && tb old n)
  if on.all s.clusterIdle then
    let s := s.setReg P.pwr R.PWR_CL_GATE (wd (val.toNat % 65536))
    let s := s.each on (fun t n => t.setRbit P.pwr R.PWR_CL_GATED n true)
    { s with power := { s.power with ungating := s.power.ungating.filter (fun n => !on.contains n) ++ off } }
  else s.pgErr P.pwr 1 req R.PWR_CL_GATE

/-- CL_GATE_WRITE (R490). -/
def execClGateWrite (req : Requester) (val : Word) (s : State) : Host.Outcome State Fault Refusal := s.written P.pwr (s.wClGate req val)

/-- The members of a cluster that hold EN = 1 and have not started yet start. -/
def State.startMembers (s : State) (l : List Nat) : State :=
  s.each (l.filter (fun p => s.en p && !s.ready p && !s.stat p ST.quar && !s.stat p ST.stopping)) (fun t p => t.startPage .host p)

/-- UNGATE_DONE (R490). -/
def execUngateDone (cl : Nat) (s : State) : Host.Outcome State Fault Refusal :=
  let t : State := { s with power := { s.power with ungating := drop1 s.power.ungating cl } }
  when (s.power.ungating.contains cl) s ((t.setRbit P.pwr R.PWR_CL_GATED cl false).startMembers (clusterPages cl))

/-! ### The regulator's bus (R491) -/

/-- A transaction fails: the third in a row, or a VOUT_MODE other than linear, clears PMB_OK. DEDUCED, log entry 78. -/
def State.pmbFail (s : State) (at_once : Bool) : State :=
  let n := min 3 (s.power.fails + 1)
  let s : State := { s with power := { s.power with fails := n } }
  if (decide (n = 3) || at_once) && s.pmbOk then (s.setRbit P.pwr R.PWR_STAT 2 false).event P.pwr 1 else s

/-- A transaction succeeds with a level and, where it was read, a current. DEDUCED, log entry 78. -/
def State.pmbGood (s : State) (vout : Nat) : State :=
  { s with power := { s.power with fails := 0, vout := vout } }

/-- PMBUS_POLL (R491): READ_VOUT in mV and READ_IOUT in 10 mA, or a failed transaction. -/
def execPmbusPoll (good : Bool) (vout iout : Nat) (s : State) : Host.Outcome State Fault Refusal :=
  when s.mainPower s (if good then (s.pmbGood vout).setReg P.pwr R.PWR_IOUT (wd (min iout 262143)) else s.pmbFail false)

/-- PMB_ALERT (R491): STATUS_WORD is read and the faults are cleared, or the transaction fails. -/
def execPmbAlert (good : Bool) (s : State) : Host.Outcome State Fault Refusal :=
  when s.mainPower s (if good then { s with power := { s.power with fails := 0 } } else s.pmbFail false)

/-- PMBUS_RETRY (R491): one exchange of VOUT_COMMAND and READ_VOUT while PMB_OK is 0; the regulator's VOUT_MODE must be
linear. -/
def execPmbusRetry (good linear : Bool) (vout : Nat) (s : State) : Host.Outcome State Fault Refusal :=
  when (s.mainPower && !s.pmbOk) s
    (if good && linear then (s.pmbGood vout).setRbit P.pwr R.PWR_STAT 2 true
    else if linear then s.pmbFail false else s.event P.pwr 1)

end Sys2Proof.Machine
end

