-- ==== Sys2Proof/Machine/Sluice.lean ====
section
/-! DEFINITION. Sluice arbiters (R335 to R348): classes, the decision, parking, ageing, deficit round robin, the monitor. -/
namespace Sys2Proof.Machine

/-- The reset class of a requester (Table 12-4). -/
def rqReset (n : Nat) : Nat := if n = 64 ∨ n = 66 ∨ n = 70 then 2 else if n = 67 ∨ n = 68 then 1 else 0

/-- RQ_CLASS of a requester. -/
def State.rqClass (s : State) (n : Nat) : Nat := Map.get rqReset s.sluice.classes n

/-- Class and origin count of a request as it is presented (R336, R341): one that a lower tier passes on carries what that
arbiter gave it, every other has origin 1. -/
def State.srcOf (s : State) : ReqSrc → Nat × Nat
  | .job k => (match s.job k with | some j => j.cls | none => 0, 1)
  | .other n => (s.rqClass n, 1)
  | .carries c => (c, 1)
  | .passed k i => (s.arb k i).up

/-- Add presented requests behind those their requesters have pending (R339). DEDUCED, log entry 61. -/
def State.present (s : State) (a : Arb) (l : List Present) : Arb :=
  { a with pend := a.pend ++ l.map (fun p => ⟨p.rq, (s.srcOf p.src).1, if a.owm then (s.srcOf p.src).2 else 1, 0, 0⟩) }

/-- Head requests: the oldest of each requester (R337). -/
def heads : List SReq → List SReq
  | [] => []
  | r :: l => r :: (heads l).filter (fun x => x.rq != r.rq)

/-- The highest class of a list of requests. -/
def topClass (l : List SReq) : Nat := (l.map (fun r => r.cls)).foldl Nat.max 0

/-- The first request at or after a pointer among `n` requesters. -/
def atPointer (ptr n : Nat) (l : List SReq) : Option SReq :=
  match argMin (fun rq => ((rq + n - ptr) % n, 0, 0)) (l.map (fun r => r.rq)) with
  | some rq => l.find? (fun r => r.rq == rq)
  | none => none

/-- A deficit counter. -/
def Arb.def (a : Arb) (rq cls : Nat) : Nat := Map.get (dflt 0) a.deficit (4 * rq + cls)

/-- Store a deficit counter. -/
def Arb.setDef (a : Arb) (rq cls v : Nat) : Arb := { a with deficit := Map.put (dflt 0) a.deficit (4 * rq + cls) v }

/-- A new round for a class: each head's origin is added to its requester's counter (R342 step 1). -/
def Arb.newRound (a : Arb) (l : List SReq) : Arb := l.foldl (fun b r => b.setDef r.rq r.cls (b.def r.rq r.cls + r.origin)) a

/-- A requester with no request of a class left sets its counter to 0 (R342 step 3). DEDUCED, log entry 61. -/
def Arb.settle (a : Arb) (rq cls : Nat) : Arb :=
  if a.pend.any (fun r => r.rq == rq && r.cls == cls) then a else a.setDef rq cls 0

/-- Arbiters that serve in occupancy-weighted mode when it is on (R342). -/
def weighted (kind : Nat) : Bool := 2 ≤ kind && kind ≤ 7

/-- Remove the oldest request of a requester. -/
def dropHead (rq : Nat) : List SReq → List SReq
  | [] => []
  | r :: l => if r.rq = rq then l else r :: dropHead rq l

/-- The arbiter takes the mode of CFG.OWM at its next grant, with zero counters (R343). -/
def State.modeOf (s : State) (kind : Nat) (a : Arb) : Arb :=
  let on := weighted kind && s.rbit P.sluice R.SLUICE_CFG 0
  if a.owm = on then a else { a with owm := on, deficit := [] }

/-- The origin count a granted request takes to the tier above: the sum over the heads of its class, saturating at 1,023; 1
while OWM is 0 (R341). -/
def Arb.upOrigin (a : Arb) (l : List SReq) : Nat := if a.owm then min 1023 (l.map (fun r => r.origin)).sum else 1

/-- The request an arbiter grants among the heads of the highest class, with the arbiter's counters and pointer after the
grant (R337, R342). DEDUCED, log entry 61. -/
def Arb.choose (a : Arb) (n : Nat) : Option (SReq × Arb) :=
  let hs := heads a.pend
  let top := topClass hs
  let l := hs.filter (fun r => r.cls == top)
  if a.owm then
    let b := if l.any (fun r => decide (1 ≤ a.def r.rq top)) then a else a.newRound l
    match atPointer b.ptr n (l.filter (fun r => decide (1 ≤ b.def r.rq top))) with
    | none => none
    | some r =>
      let d := b.def r.rq top - 1
      let c := ({ b.setDef r.rq top d with pend := dropHead r.rq b.pend } : Arb).settle r.rq top
      some (r, { c with ptr := if 1 ≤ c.def r.rq top then r.rq else (r.rq + 1) % n, up := (top, a.upOrigin l) })
  else match atPointer a.ptr n l with
    | none => none
    | some r => some (r, { a with pend := dropHead r.rq a.pend, ptr := (r.rq + 1) % n, up := (top, a.upOrigin l) })

/-- The heads wait and lose the cycles of a grant (R340, R344). -/
def waitHeads (cycles : Nat) (hs : List SReq) (l : List SReq) : List SReq :=
  match l with
  | [] => []
  | r :: t => if hs.contains r then { r with wait := r.wait + cycles, lost := r.lost + cycles } :: waitHeads cycles (hs.erase r) t
    else r :: waitHeads cycles hs t

/-- A requester has more than 8 requests pending: it stalls (R339). DEDUCED, log entry 61. -/
def Arb.stalled (a : Arb) : Bool :=
  a.pend.any (fun r => decide (8 < (a.pend.filter (fun x => x.rq == r.rq)).length))

/-- ARBITER_GRANT (R337 to R342): requests are presented, one is granted, and the other heads wait `cycles`. A unit input
arbiter grants the next job of its input queue. DEDUCED, log entry 61. -/
def State.grant (s : State) (kind inst : Nat) (arrivals : List Present) (cycles : Nat) : State :=
  let a := s.present (s.modeOf kind (s.arb kind inst)) arrivals
  let s := if s.monitored kind inst && a.stalled then s.add36 P.sluice R.SLUICE_MON_STALLS cycles else s
  match a.choose (arbRequesters kind inst) with
  | none => s.setArb kind inst a
  | some (r, b) =>
    (s.setArb kind inst { b with pend := waitHeads cycles (heads b.pend |>.filter (fun x => x.rq != r.rq)) b.pend }).monGrant
      kind inst r.wait

/-- The page of a unit input arbiter (Table 12-5). -/
def arbPage (inst : Nat) : Nat :=
  if inst < 64 then P.kz inst else if inst < 96 then P.ciph (inst - 64) else if inst < 128 then P.dig (inst - 96)
  else if inst < 144 then P.bn (inst - 128) else if inst < 160 then P.cst (inst - 144) else P.fst (inst - 160)

/-- ARBITER_GRANT (R337, R342, R102). -/
def execArbiterGrant (kind inst : Nat) (arrivals : List Present) (cycles : Nat) (s : State) :
    Host.Outcome State Fault Refusal :=
  .next (if kind = 1 then s.startNext (arbPage inst) else s.grant kind inst arrivals cycles)

/-- Raise the head request of a requester by one class; the count restarts (R340). -/
def raiseHead (rq : Nat) : List SReq → List SReq
  | [] => []
  | r :: l => if r.rq = rq then { r with cls := r.cls + 1, lost := 0 } :: l else r :: raiseHead rq l

/-- AGE_RAISE (R340). -/
def execAgeRaise (kind inst rq : Nat) (s : State) : Host.Outcome State Fault Refusal :=
  let a := s.arb kind inst
  let s' := (s.setArb kind inst { a with pend := raiseHead rq a.pend }).inc36 P.sluice R.SLUICE_AGED_ALL
  when ((heads a.pend).any (fun r => r.rq == rq && decide (4096 ≤ r.lost) && decide (r.cls < 3))) s
    (if s.monitored kind inst then s'.inc36 P.sluice R.SLUICE_MON_AGED else s')

/-- A write of SLUICE.CFG (R343): SWITCHING until every arbiter has switched. -/
def State.wSluiceCfg (s : State) (val : Word) : State :=
  let s' := s.setReg P.sluice R.SLUICE_CFG (val &&& 1)
  if tb val 0 = s.rbit P.sluice R.SLUICE_CFG 0 then s' else s'.setRbit P.sluice R.SLUICE_STAT 1 true

/-- OWM_SWITCHED (R343). -/
def execOwmSwitched (s : State) : Host.Outcome State Fault Refusal :=
  let on := s.rbit P.sluice R.SLUICE_CFG 0
  let arbs := s.sluice.arbs.map (fun e => (e.1, if weighted (e.1 / 4096) && e.2.owm != on
    then { e.2 with owm := on, deficit := [] } else e.2))
  let s' : State := { s with sluice := { s.sluice with arbs := arbs.filter (fun e => e.2 != Arb.idle) } }
  when (s.rbit P.sluice R.SLUICE_STAT 1) s
    (((s'.setRbit P.sluice R.SLUICE_STAT 1 false).setRbit P.sluice R.SLUICE_STAT 0 on).event P.sluice 1)

/-- Advance RQ_SEL under AUTOINC, 70 followed by 0 (Table 12-3). -/
def State.rqAdvance (s : State) : State :=
  if s.rbit P.sluice R.SLUICE_RQ_SEL 17 then
    let n := s.rfld P.sluice R.SLUICE_RQ_SEL 6 0
    s.setRfld P.sluice R.SLUICE_RQ_SEL 6 0 (if 70 ≤ n then 0 else n + 1)
  else s

/-- A read of RQ_CLASS. -/
def State.rRqClass (s : State) : State × Word := (s.rqAdvance, wd (s.rqClass (s.rfld P.sluice R.SLUICE_RQ_SEL 6 0)))

/-- A write of RQ_CLASS (R345). -/
def State.wRqClass (s : State) (val : Word) : State :=
  ({ s with sluice := { s.sluice with
      classes := Map.put rqReset s.sluice.classes (s.rfld P.sluice R.SLUICE_RQ_SEL 6 0) (bits val 1 0) } } : State).rqAdvance

/-- A write of RQ_SEL: an unassigned requester drops it (R347). -/
def State.wRqSel (s : State) (req : Requester) (val : Word) : State :=
  if bits val 6 0 ≤ 70 then s.setReg P.sluice R.SLUICE_RQ_SEL (val &&& 0o400177)
  else s.pgErr P.sluice 0 req R.SLUICE_RQ_SEL

/-- A write of MON_SEL (R347). -/
def State.wMonSel (s : State) (req : Requester) (val : Word) : State :=
  if bits val 11 0 < arbInstances (bits val 17 12) then
    let s := (s.setReg P.sluice R.SLUICE_MON_SEL val).setReg P.sluice R.SLUICE_MON_MAXWAIT 0
    ((s.setReg36 P.sluice R.SLUICE_MON_GRANTS 0).setReg36 P.sluice R.SLUICE_MON_AGED 0).setReg36 P.sluice R.SLUICE_MON_STALLS 0
  else s.pgErr P.sluice 1 req R.SLUICE_MON_SEL

end Sys2Proof.Machine
end

