-- ==== Sys2Proof/Machine/Peek.lean ====
section
/-! DEFINITION. What a read of a register word shows (R16, R17, R32 to R34): the stored value, or what the word's table says
it shows of the state; the shadows of frozen pages. Reads with side effects are built on it in Bus. -/
namespace Sys2Proof.Machine

/-! ### Words that a table makes a view of other state -/

/-- The granule selected. -/
def State.gcolSel (s : State) (n : Nat) : Nat := s.rfld (P.cgate n) R.CGATE_GCOL_SEL 10 0

/-- What GCOL_DATA shows: the selected granule's colour; a number that names no granule shows a free value. -/
def State.gcolShown (s : State) (n : Nat) : Word :=
  let g := s.gcolSel n
  if g < 1365 then wd (s.gcol n g) else Config.shownWord (s.now + s.fresh) (P.cgate n * 1024 + R.CGATE_GCOL_DATA)

/-- The rule selected: group, bank and rule. -/
def State.ruleSel (s : State) : Nat := s.rfld P.gate R.GATE_RULE_SEL 6 0

/-- What RULE_DATA shows. -/
def State.ruleShown (s : State) : Word := Map.get (dflt 0) s.gates.rules s.ruleSel

/-- The debug page keeps its block registers: the lifecycle state is OPEN or CUSTOMER (R331). -/
def State.dbgOpen (s : State) : Bool := decide (s.life < 2)

/-- HALTED word `k`. -/
def State.haltedWord (s : State) (k : Nat) : Word :=
  (List.range 16).foldl (fun w j => sb w j (s.core (16 * k + j)).halted) 0

/-- A value the spec does not state: a measurement or a count of cycles left. DEDUCED, log entry 85. -/
def State.unstated (s : State) (p w : Nat) : Word := Config.shownWord (s.now + s.fresh) (p * 1024 + w)

/-- The low or high half of a 36-bit view at word `w`. -/
def half36 (w : Nat) (v : DWord) (x : Nat) : Word := if x = w then loWord v else hiWord v

/-- PG_STAT as read (Table 1-12). DEDUCED, log entry 85. -/
def State.pgStat (s : State) (p : Nat) : Word :=
  let settled := !(s.bus.posted.any (fun x => x.page == p) || s.bus.stalled.any (fun x => x.page == p)) &&
    (match blockOf p with | some (.cgate, n) => !s.gates.clearing.any (fun x => x.1 == n) | _ => true)
  sb (sb (sb (s.reg p R.PG_STAT) ST.settled settled) ST.locked (s.lockedPage p)) ST.busy (!s.drained p)

/-- Words of EVT0 and EVT1 (Table 1-14). -/
def State.peekEvt0 (s : State) (w : Nat) : Word :=
  let src := s.rfld P.evt0 R.EVT0_ROUTE_SEL 11 0
  if w = R.EVT0_ROUTE_DATA then Map.get (dflt 0) s.evt.routes src
  else if w = R.EVT0_SRC_STAT then wd (2 * b2n (s.srcRaw src) + b2n (s.srcPend src))
  else s.reg P.evt0 w

/-- PEND_SUM. -/
def State.peekEvt1 (s : State) (w : Nat) : Word :=
  if 0o20 ≤ w ∧ w < 0o420 then (List.range 16).foldl (fun v j => sb v j (s.srcPend (16 * (w - 0o20) + j))) 0 else s.reg P.evt1 w

/-- Words of a WQ page (Table 2-11). -/
def State.peekWq (s : State) (q w : Nat) : Word :=
  if w = R.WQ_INFLIGHT then wd (s.queue q).fifo.length
  else if w = R.WQ_WAITS then wd (s.qCount q (fun j => j.waitPage.isSome))
  else if w = R.WQ_WAITS_RDY then wd (s.qCount q (fun j => j.waitUnit))
  else s.reg (P.wq q) w

/-- A job stands in a region: on a unit or core of it, or with the custody function, not at a station or another device
(R96, R100). -/
def Job.inRegion (j : Job) (rg : Nat) : Bool :=
  j.region == rg && j.fwd.isNone && (match j.unit with
    | some p => decide (p < 0x400)
    | none => decide (j.opcode ≤ 0o037) && (decide (j.st = .dispatched) || decide (j.st = .running)))

/-- Jobs placed in a region and not ended that a predicate keeps. -/
def State.regionJobs (s : State) (rg : Nat) (f : Job → Bool) : Nat :=
  (s.jobs.filter (fun e => match e.2 with | some j => j.inRegion rg && f j | none => false)).length

/-- Words of LODE (Table 3-6). DEDUCED, log entry 85. -/
def State.peekLode (s : State) (w : Nat) : Word :=
  let n := s.rfld P.lode R.LODE_SESS_SEL 13 0
  if w = R.LODE_SESS_INFO then
    (match s.sessSlot n with
    | some c => wd (2 ^ 17 + c / 4096 * 2 ^ 15 + Map.get (dflt 0) s.lode.count n * 2 ^ 8)
    | none => 0)
  else if w = R.LODE_SESS_SLOT then wd ((s.sessSlot n).getD 0)
  else if R.LODE_REG_OCC ≤ w ∧ w < R.LODE_REG_OCC + 4 then
    let k := w - R.LODE_REG_OCC
    let parked := (s.jobs.filter (fun e => match e.2 with | some j => decide (j.st = .parked) && j.region == k | none => false)).length
    wd (min 511 (s.regionJobs k (fun j => decide (j.st = .dispatched ∨ j.st = .running))) * 512 + min 511 parked)
  else s.reg P.lode w

/-- Words of PLACE (Table 3-7, R126). -/
def State.peekPlace (s : State) (w : Nat) : Word :=
  let o := s.shown.entry (s.rfld P.place R.PLACE_OVR_SEL 15 0)
  if w = R.PLACE_EPOCH then s.net.applied.epoch
  else if w = R.PLACE_SALT ∨ w = R.PLACE_SALT + 1 then half36 R.PLACE_SALT s.shown.salt w
  else if w = R.PLACE_MEMBER_DATA then Map.get (dflt 0) s.shown.members (s.rfld P.place R.PLACE_MEMBER_SEL 15 0)
  else if w = R.PLACE_OVR_DATA0 then o.data0
  else if w = R.PLACE_OVR_DATA1 then o.data1
  else if w = R.PLACE_OVR_DATA2 then o.data2
  else if w = R.PLACE_OVR_DATA3 then o.data3
  else if w = R.PLACE_STATE then sb (sb (s.reg P.place w) 1 s.net.next.isSome) 2 s.committing
  else if w = R.PLACE_FWD_OUT then wd s.net.tags.length
  else s.reg P.place w

/-- Words of a DNL page (Table 3-8): EQ_ACTIVE shows that idle flits are inserted for adaptation; the spec gives the bit no
other meaning. DESIGN CHOICE, log entry 93. -/
def State.peekDnl (s : State) (i w : Nat) : Word :=
  if w = R.DNL_STATE then sb (s.reg (P.dnl i) w) 8 (s.port i).eqInsert
  else if w = R.DNL_EQ_STAT then s.unstated (P.dnl i) w
  else s.reg (P.dnl i) w

/-- Words of DNLX (Table 3-9). -/
def State.peekDnlx (s : State) (w : Nat) : Word :=
  if w = R.DNLX_ROUTE_DATA then Map.get (dflt 0) s.net.routes (s.rfld P.dnlx R.DNLX_ROUTE_SEL 15 0)
  else if R.DNLX_SYSTIME ≤ w ∧ w < R.DNLX_SYSTIME + 4 then wd (s.clock.sys.toNat / 2 ^ (18 * (w - R.DNLX_SYSTIME)))
  else s.reg P.dnlx w

/-- FRAME_INFO of a frame (Table 4-12). -/
def Frame.info (f : Frame) : Word :=
  let n := ((List.range 16).filter (fun i => tb f.chunks i)).length
  wd (b2n f.used * 2 ^ 17 + b2n f.loading * 2 ^ 16 + b2n f.dirty * 2 ^ 15 + b2n f.evicting * 2 ^ 14 + n)

/-- Words of CRED (Table 4-12). -/
def State.peekCred (s : State) (w : Nat) : Word :=
  let f := s.frame (s.rfld P.cred R.CRED_FRAME_SEL 9 0)
  if R.CRED_FREE ≤ w ∧ w < R.CRED_FREE + 4 then wd (s.freeFrames (w - R.CRED_FREE))
  else if w = R.CRED_FRAME_INFO then f.info
  else if w = R.CRED_FRAME_PAGE ∨ w = R.CRED_FRAME_PAGE + 1 then half36 R.CRED_FRAME_PAGE (BitVec.ofNat 36 f.page) w
  else s.reg P.cred w

/-- Words of PEAT (Table 4-20). -/
def State.peekPeat (s : State) (w : Nat) : Word :=
  if w = R.PEAT_QKEY_DATA then (Map.get (dflt 0) s.cust.qkeys (s.rfld P.peat R.PEAT_QKEY_SEL 7 0)).setWidth 18
  else if w = R.PEAT_SLOTS_LIVE then wd (s.cust.slots.filter (fun e => e.2.state == 1)).length
  else s.reg P.peat w

/-- The job running on a unit page. -/
def State.jobOn (s : State) (p : Nat) : Option Job := (s.runsOn p).bind s.job

/-- The depth of a unit's input queue. -/
def State.depth (s : State) (p : Nat) : Nat := (s.inQ p).length

/-- The opcode a unit's STAT shows: 0 for a command. -/
def Job.shownOp (j : Job) : Nat := if j.cmd.isSome then 0 else j.opcode

/-- STAT of a cipher unit (Table 5-8). DEDUCED, log entry 85. -/
def State.ciphStat (s : State) (p : Nat) : Word :=
  match s.runsOn p, s.jobOn p with
  | some k, some j =>
    let phase := if j.cmd.isNone && !j.gb && decide (j.hdrCount ≠ 0) && !j.dataHere 3 then 0 else 1
    let parking := s.parkable k j && (s.shutPark j || (s.isVictim s.parkable k j).isSome)
    wd (j.shownOp + 2 ^ 9 + b2n parking * 2 ^ 10 + b2n (s.namesKey k j) * 2 ^ 11 + phase * 2 ^ 12 + s.depth p * 2 ^ 14)
  | _, _ => wd (s.depth p * 2 ^ 14)

/-- STAT of a digest unit (Table 6-7). -/
def State.digStat (s : State) (p : Nat) : Word :=
  let base := b2n (s.rbit p R.DIG_STAT 12) * 2 ^ 12 + s.depth p * 2 ^ 14 + b2n (s.holdOf p != 0) * 2 ^ 17
  match s.runsOn p, s.jobOn p with
  | some k, some j =>
    let parking := s.parkable k j && (s.shutPark j || (s.isVictim s.parkable k j).isSome)
    wd (base + j.shownOp + 2 ^ 9 + b2n parking * 2 ^ 10 + b2n (s.namesKey k j) * 2 ^ 11 + b2n j.isKeyed * 2 ^ 13)
  | _, _ => wd base

/-- Words of a BN page (Table 7-6). DEDUCED, log entry 85. -/
def State.peekBn (s : State) (n w : Nat) : Word :=
  let p := P.bn n
  if w = R.BN_STAT then
    (match s.runsOn p, s.jobOn p with
    | some k, some j =>
      let parking := s.parkable k j && (s.shutPark j || (s.isVictim s.parkable k j).isSome)
      wd (s.depth p * 2 ^ 14 + b2n (s.bnExclusive p j) * 2 ^ 11 + j.shownOp + 2 ^ 9 + b2n parking * 2 ^ 10 + b2n j.orphan * 2 ^ 12)
    | _, _ => wd (s.depth p * 2 ^ 14 + b2n (s.rfld p R.BN_CFG 1 0 == 1) * 2 ^ 11))
  else if w = R.BN_PROG then
    (match s.jobOn p with
    | some j => (match j.cmd with
      | some c => wd ((progCmd c.words j.bn.idx).op * 2 ^ 14 + j.bn.idx % 64)
      | none => s.unstated p w &&& 0o740077)
    | none => 0)
  else if w = R.BN_REMAIN ∨ w = R.BN_REMAIN + 1 then (match s.jobOn p with
    | some j =>
      let n := (dword (s.unstated p R.BN_REMAIN) (s.unstated p (R.BN_REMAIN + 1))).toNat % (j.bnLeft j.parkDone + 1)
      wd (if w = R.BN_REMAIN then n else n / 2 ^ 18)
    | none => 0)
  else s.reg p w

/-- CYCLE of a core: core cycles of its region since its release (Table 8-2). -/
def State.cycleOf (s : State) (c : Nat) : DWord :=
  BitVec.ofNat 36 ((Map.get (dflt 0) s.power.cycles (c / 16) - (s.core c).cyc0) / 1000)

/-- Words of a KZ page (Tables 8-12 and 10-6). -/
def State.peekKz (s : State) (c w : Nat) : Word :=
  let p := P.kz c
  let x := s.core c
  if w = R.KZ_STAT then
    wd (b2n x.run + 2 * b2n x.waiting + 4 * b2n x.halted + 8 * b2n (x.run && x.sup) + 16 * b2n (x.held != 0) + 32 * b2n x.aborting +
      64 * b2n (s.rbit p w 6) + x.cmds.length * 2 ^ 8 + s.depth p * 2 ^ 12)
  else if w = R.KZ_JOBQ then
    (match x.held, s.job (x.held - 1) with
    | 0, _ => 0
    | _, some j => wd (2 ^ 17 + j.queue)
    | _, none => 0)
  else if w = R.KZ_JOBPOS then
    (match x.held, s.job (x.held - 1) with
    | 0, _ => 0
    | _, some j => wd j.pos
    | _, none => 0)
  else if w = R.KZ_CYCLES ∨ w = R.KZ_CYCLES + 1 then half36 R.KZ_CYCLES (s.cycleOf c) w
  else if w = R.KZ_EXC_STAT then
    wd (bits x.estat 9 0 + b2n x.unsaved * 2 ^ 10 + b2n (tb x.estat 35) * 2 ^ 11 + b2n (tb x.estat 17) * 2 ^ 12)
  else if w = R.KZ_EXC_LEVEL then wd (bits x.estat 16 10)
  else s.reg p w

/-- Words of a CLU page (Table 8-13). -/
def State.peekClu (s : State) (n w : Nat) : Word :=
  if w = R.CLU_RAND_STAT then (if s.rngOk (n / 4) then wd (1 + 2 * 256)
    else if Map.get (dflt 0) s.cust.seeded (n / 4) = 0 then 1
    else wd (2 * ((s.unstated (P.clu n) w).toNat % 257)))
  else s.reg (P.clu n) w

/-- Words of a CGATE page (Table 11-9). -/
def State.peekCgate (s : State) (n w : Nat) : Word :=
  if w = R.CGATE_GCOL_DATA then s.gcolShown n
  else if w = R.CGATE_CLEARING then
    (match s.gates.clearing.find? (fun x => x.1 == n) with
    | some (_, g, _) => wd (2 ^ 17 + g)
    | none => 0)
  else s.reg (P.cgate n) w

/-- Words of DBG (Table 11-11): from SEALED on, only LIFE and STAT. -/
def State.peekDbg (s : State) (w : Nat) : Word :=
  if !s.dbgOpen && w != R.DBG_LIFE && w != R.DBG_STAT then 0
  else if R.DBG_HALTED ≤ w ∧ w < R.DBG_HALTED + 4 then s.haltedWord (w - R.DBG_HALTED)
  else s.reg P.dbg w

/-- Words of a CST page (Table 13-9). -/
def State.peekCst (s : State) (n w : Nat) : Word :=
  let p := P.cst n
  if w = R.CST_STAT then
    putBits (putBits (sb (s.reg p w) 9 (s.rbit P.peat R.PEAT_CUST_STN n)) 13 11 (s.depth p)) 16 14 (s.cst n).replay.length
  else s.reg p w

/-- Words of an FST page (Table 14-6). -/
def State.peekFst (s : State) (n w : Nat) : Word :=
  let p := P.fst n
  if w = R.FST_STAT then putBits (s.reg p w) 16 14 (s.depth p)
  else if w = R.FST_REPLAY then wd (s.fst n).replay.length
  else s.reg p w

/-- Words of MIDR (Table 14-7): the selected station's record. -/
def State.peekMidr (s : State) (w : Nat) : Word :=
  let n := s.rfld P.midr R.MIDR_SEL 3 0
  if w = R.MIDR_STAT then putBits (s.reg P.midr w) 3 0 (Map.get (dflt 0) s.stn.midr.causes n)
  else if R.MIDR_RECORD ≤ w ∧ w < R.MIDR_RECORD + 128 then
    (packWords (Map.get (dflt []) s.stn.midr.records n)).getD (w - R.MIDR_RECORD) 0
  else s.reg P.midr w

/-- POS1: the ENC1 count times ENC1_RATIO / 4,096 (R409). -/
def State.pos1 (s : State) : DWord := BitVec.ofInt 36 ((s.line.enc1 * (s.reg P.line R.LINE_ENC1_RATIO).toNat) / 4096)

/-- ITEM_OUT: the last bound job of an item at a station. -/
def State.itemOut (s : State) (i : Item) (stn : Nat) : Word :=
  let back := b2n (s.line.matched.contains (i.num, stn)) * 2 ^ 16
  match (i.recs.filter (fun r => r.stn == stn)).getLast? with
  | some r => wd (2 ^ 17 + back + r.status)
  | none => wd back

/-- Words of LINE (Table 15-4). -/
def State.peekLine (s : State) (w : Nat) : Word :=
  let it := s.item (s.reg36 P.line R.LINE_ITEM_SEL).toNat
  if w = R.LINE_POS ∨ w = R.LINE_POS + 1 then half36 R.LINE_POS s.posReg w
  else if w = R.LINE_POS1 ∨ w = R.LINE_POS1 + 1 then half36 R.LINE_POS1 s.pos1 w
  else if w = R.LINE_INFLIGHT then wd s.line.items.length
  else if w = R.LINE_ITEM_STAT then (match it with | some i => i.stat | none => 0)
  else if w = R.LINE_ITEM_MARK ∨ w = R.LINE_ITEM_MARK + 1 then
    (match it with | some i => half36 R.LINE_ITEM_MARK (BitVec.ofInt 36 i.m) w | none => 0)
  else if w = R.LINE_ITEM_OUT then (match it with | some i => s.itemOut i (s.rfld P.line R.LINE_STN_SEL 4 0) | none => 0)
  else if R.LINE_ITEM_ID ≤ w ∧ w < R.LINE_ITEM_ID + 5 then
    (match it with | some i => (packWords i.ident).getD (w - R.LINE_ITEM_ID) 0 | none => 0)
  else s.reg P.line w

/-- Words of TAMP0 (Table 16-7). -/
def State.peekTamp0 (s : State) (w : Nat) : Word :=
  if R.TAMP0_COND ≤ w ∧ w < R.TAMP0_COND + 8 then
    (List.range 16).foldl (fun v j => sb v j (s.tamper.present.contains (16 * (w - R.TAMP0_COND) + j))) 0
  else if w = R.TAMP0_ACTIVE then s.inProgress
  else s.reg P.tamp0 w

/-- Words of TAMP1 (Table 16-8). -/
def State.peekTamp1 (s : State) (w : Nat) : Word :=
  let src := s.rfld P.tamp1 R.TAMP1_RESP_SEL 6 0
  if w = R.TAMP1_RESP_STAGE then s.stagedSet src
  else if w = R.TAMP1_RESP_ACTIVE then s.activeSet src
  else if w = R.TAMP1_RESP_FLOOR then wd (respFloor src)
  else if w = R.TAMP1_RESP_SCOPE then (scopeOf src).word
  else if w = R.TAMP1_STAGE_STAT then wd (b2n s.stagedDiffers)
  else s.reg P.tamp1 w

/-- Words of WISP (Table 16-10). -/
def State.peekWisp (s : State) (w : Nat) : Word :=
  if w = R.WISP_STAT then
    putBits (sb (s.reg P.wisp w) 0 (decide (s.wisp.tag ≠ .off))) 8 4 s.wisp.queue.length
  else if R.WISP_ENT ≤ w ∧ w < R.WISP_ENT + 8 then cw s.wisp.copy (w - R.WISP_ENT)
  else if w = R.WISP_RTC then wd s.rtc
  else if w = R.WISP_RTC + 1 ∨ w = R.WISP_RTC + 2 then cw s.wisp.rtcLatch (w - R.WISP_RTC)
  else s.reg P.wisp w

/-- Words of FLASH (Table 17-5). -/
def State.peekFlash (s : State) (w : Nat) : Word :=
  let n := s.rfld P.flash R.FLASH_FL_SECSEL 9 0
  if w = R.FLASH_FL_STAT then s.flStat
  else if w = R.FLASH_FL_SECSTAT then wd (s.sector n + 8 * b2n (s.protected n))
  else s.reg P.flash w

/-- CLK.STAT (Table 18-11): a clock monitor's source absent, from step 1 of bring-up on. DEDUCED, log entry 79. -/
def State.clkStat (s : State) : Word :=
  let on := s.mainPower && decide (1 ≤ s.rfld P.dev R.DEV_STAT 9 6)
  let good (l : List Nat) : Bool := on && l.all (fun n => !s.tamper.present.contains n)
  let l := [good [70, 71], good [72], good [73], good [74, 75], good [76], good [77], good [78], good [79], good [80], good [81],
    good [70]]
  (List.range 11).foldl (fun v i => sb v i (l.getD i false)) 0

/-- A block word as its table shows it. -/
def State.view (s : State) (p w : Nat) : Word :=
  match blockOf p with
  | none => 0
  | some (b, i) =>
    match b with
    | .evt0 => s.peekEvt0 w
    | .evt1 => s.peekEvt1 w
    | .wq => s.peekWq i w
    | .lode => s.peekLode w
    | .place => s.peekPlace w
    | .dnl => s.peekDnl i w
    | .dnlx => s.peekDnlx w
    | .cred => s.peekCred w
    | .peat => s.peekPeat w
    | .ciph => if w = R.CIPH_STAT then s.ciphStat p else s.reg p w
    | .dig => if w = R.DIG_STAT then s.digStat p else s.reg p w
    | .bn => s.peekBn i w
    | .kz => s.peekKz i w
    | .clu => s.peekClu i w
    | .cgate => s.peekCgate i w
    | .gate => if w = R.GATE_RULE_DATA then s.ruleShown else s.reg p w
    | .dbg => s.peekDbg w
    | .sluice => if w = R.SLUICE_RQ_CLASS then wd (s.rqClass (s.rfld p R.SLUICE_RQ_SEL 6 0)) else s.reg p w
    | .cst => s.peekCst i w
    | .fst => s.peekFst i w
    | .midr => s.peekMidr w
    | .line => s.peekLine w
    | .tamp0 => s.peekTamp0 w
    | .tamp1 => s.peekTamp1 w
    | .wisp => s.peekWisp w
    | .flash => s.peekFlash w
    | .clk => if w = R.CLK_STAT then s.clkStat else s.reg p w
    | .evt3 => if R.EVT3_SW_SET ≤ w ∧ w < R.EVT3_SW_SET + 7 then s.reg p (w - R.EVT3_SW_SET + R.EVT3_SW_RAW) else s.reg p w
    | .dev | .rstc | .pwr | .evt2 | .diag | .hmk | .moss | .rng => s.reg p w

/-- PG_CTRL as read: EN of a page that cannot be disabled reads 1 (R42). -/
def State.pgCtrl (s : State) (p : Nat) : Word :=
  match blockOf p with
  | some (b, _) => if b.alwaysOn then 1 else s.reg p R.PG_CTRL
  | none => 0

/-- A word of a page, frozen or not. -/
def State.live (s : State) (p w : Nat) : Word :=
  if (blockOf p).isNone then 0
  else if w = R.PG_STAT then s.pgStat p
  else if w = R.PG_CTRL then s.pgCtrl p
  else if w = R.PG_EVT_PEND then s.pend p
  else if w < 0o20 then s.reg p w
  else s.view p w

/-- What a read shows (R32 to R34): a frozen page its last shadow, with READY 0; WRITE_SETTLED, PG_LOCK and PG_ERR live.
DEDUCED, log entry 13. -/
def State.peek (s : State) (p w : Nat) : Word :=
  if s.frozen p && w != R.PG_LOCK && w != R.PG_ERR then
    let v := Map.get regReset s.bus.shadow (p * 1024 + w)
    if w = R.PG_STAT then sb (sb (sb v ST.ready false) ST.settled (tb (s.pgStat p) ST.settled)) ST.locked (s.lockedPage p) else v
  else s.live p w

/-- Both slots of a 36-bit register. -/
def State.peek36 (s : State) (p w : Nat) : DWord := dword (s.peek p w) (s.peek p (w + 1))

/-! ### Shadows (R34) -/

/-- The word offsets of a block's registers. -/
def regWords (b : Block) : List Nat :=
  (headerRegs ++ b.own).flatMap (fun r => (List.range (r.last + 1 - r.first)).map (fun i => r.first + i))

/-- Keep the shadow of a page as it reads now. DEDUCED, log entry 13. -/
def State.freezePage (s : State) (p : Nat) : State :=
  match blockOf p with
  | none => s
  | some (b, _) =>
    { s with bus := { s.bus with shadow := (regWords b).foldl (fun m w => Map.put regReset m (p * 1024 + w) (s.peek p w)) s.bus.shadow } }

/-- Keep the shadows of pages. DEDUCED, log entry 13. -/
def State.freeze (s : State) (l : List Nat) : State := l.foldl (fun t p => t.freezePage p) s

end Sys2Proof.Machine
end

