-- ==== Sys2Proof/Machine/Reset.lean ====
section
/-! DEFINITION. Resets and watchdogs (R492 to R495, R501), bring-up (R496 to R500, R23), GB mode selection (R502). -/
namespace Sys2Proof.Machine

/-! ### Package reset (R492, R493) -/

/-- The bits of RSTC.CAUSE. -/
inductive Cause where
  | por | pin | tamper | wdt
  deriving DecidableEq, Repr

/-- The bit number of a cause (Table 18-8). -/
def Cause.bit : Cause → Nat
  | .por => 0 | .pin => 1 | .tamper => 2 | .wdt => 3

/-- Counts kept since power-on reset: only power-on reset clears them. DEDUCED, log entry 80. -/
def sinceOn : Block → Nat → Bool
  | .ciph, w => w == R.CIPH_CHK_FAILS
  | .dig, w => w == R.DIG_CHK_FAILS
  | .bn, w => w == R.BN_CHK_FAILS || w == R.BN_ABORTS
  | .kz, w => w == R.KZ_ABORTS || w == R.KZ_VFAIL
  | .cst, w => w == R.CST_REPEATS || w == R.CST_REMOVALS
  | .fst, w => w == R.FST_ARRIVALS || w == R.FST_AMBIGS
  | .midr, w => w == R.MIDR_BUS_ERRS
  | .line, w => w == R.LINE_ASSOC_FAILS || w == R.LINE_HOLDS
  | .tamp0, w => w == R.TAMP0_BIST_FAILS
  | .moss, w => w == R.MOSS_RESEEDS
  | .flash, w => decide (R.FLASH_FL_CORR ≤ w ∧ w ≤ R.FLASH_FL_UNCORR)
  | .rstc, w => w == R.RSTC_PERSTS
  | .diag, w => w == R.DIAG_CORR || w == R.DIAG_UNCORR
  | _, _ => false

/-- What a package reset keeps of a page's words: the Hummock domain, fuses, levels of pins, counts since power-on and,
under the device watchdog, locks and what they hold (R492, R493). DEDUCED, log entry 80. -/
def State.pkgKeeps (s : State) (c : Cause) (p : Nat) (b : Block) (w : Nat) : Bool :=
  if sinceOn b w then decide (c ≠ .por)
  else
    (match b with
    | .tamp0 | .moss | .wisp => keptWords b w
    | .hmk => w == R.HMK_STAT || w == R.HMK_FUSE_STAT
    | .dbg => w == R.DBG_LIFE
    | .dev => w == R.DEV_FUSE_RB || (w == R.DEV_STAT && decide (c = .wdt))
    | .flash => w == R.FLASH_FL_STAT
    | .line => w == R.LINE_STAT
    | .rstc => w == R.RSTC_CAUSE
    | _ => false) ||
    (decide (c = .wdt) && s.lockedPage p && (w == R.PG_LOCK ||
      (match descOf b w with | some r => decide (r.acc = .rwl) | none => false)))

/-- The registers after a package reset. DEDUCED, log entry 80. -/
def State.pkgRegs (s : State) (c : Cause) : State :=
  let locked := (List.range 1058).filter s.lockedPage
  let keep (k : Nat) : Bool :=
    match blockOf (k / 1024) with
    | some (b, _) => s.pkgKeeps c (k / 1024) b (k % 1024)
    | none => false
  let t : State := { s with regs := Map.keep keep s.regs }
  let t := t.modReg P.dev R.DEV_FUSE_RB (fun v => v &&& 0o77)
  let t := t.modReg P.dev R.DEV_STAT (fun v => v &&& 0o6)
  let t := t.setRbit P.hmk R.HMK_STAT 4 false
  let t := t.modReg P.flash R.FLASH_FL_STAT (fun v => v &&& 0o60)
  let t := t.modReg P.line R.LINE_STAT (fun v => v &&& 4)
  let t := if c = .wdt then t.each locked (fun u p => u.setStat p ST.locked true) else t
  (if s.inReset then t else t.setReg P.rstc R.RSTC_CAUSE 0).setRbit P.rstc R.RSTC_CAUSE c.bit true

/-- A link after a package reset: keys and counters last from one power-up to the next (R28), all but the device watchdog
end a quarantine (R30), and what was on its way is dropped. DESIGN CHOICE, log entry 21. -/
def Link.afterReset (l : Link) (c : Cause) : Link :=
  match c with
  | .por => State.reset.linkV
  | .wdt => l
  | .pin | .tamper => { l with farRx := l.tx, rx := l.farTx, quar := false }

/-- A package reset (R493): registers, and every die C and die F memory; the Hummock domain, the Wisp log, the flash and
the fuses are kept. A gate page locked under the device watchdog keeps its rules. DEDUCED, log entry 80. -/
def State.packageReset (s : State) (c : Cause) : State :=
  let keepG := decide (c = .wdt) && s.lockedPage P.gate
  let rules := if keepG then s.gates.rules else []
  let msg := s.bus.rdata
  let s := (s.pkgRegs c).flashLoss
  let z := State.reset
  let cust : Custody := { z.cust with
    hmk := s.cust.hmk, fk := s.cust.fk, journal := s.cust.journal }
  let boot : Boot := { z.boot with
    por := s.boot.por, pin := s.boot.pin, tamper := s.boot.tamper, perst := s.boot.perst,
    gbcompat := s.boot.gbcompat, keyFuse := s.boot.keyFuse }
  { s with
    mem := [], bus := { z.bus with rdata := msg }, evt := { z.evt with msixSent := s.evt.msixSent },
    linkV := s.linkV.afterReset c, linkF := s.linkF.afterReset c,
    lev := z.lev, queues := [], jobs := [], lode := z.lode, net := z.net, clock := z.clock, cust := cust,
    units := z.units, cores := [], gates := { z.gates with rules := rules },
    sluice := z.sluice, stn := z.stn, line := z.line,
    tamper := { s.tamper with staged := [], bist := none },
    wisp := { s.wisp with copy := [], rtcLatch := [] },
    boot := boot, power := { z.power with cycles := s.power.cycles, vout := s.power.vout }, diag := z.diag }

/-! ### Release of a package reset (R496, R502) -/

/-- Pages whose function is up with step 1 of Table 18-4. -/
def firstPages : List Nat :=
  [P.dev, P.rstc, P.pwr, P.clk, P.evt0, P.evt1, P.evt2, P.evt3, P.diag, P.lode, P.gate, P.sluice, P.dbg, P.midr] ++
    (List.range 16).map P.cgate

/-- Pages of the Hummock domain. -/
def hummockPages : List Nat := [P.hmk, P.tamp0, P.tamp1, P.moss, P.wisp]

/-- DEV.STAT.STEP. -/
def State.bootStep (s : State) : Nat := s.rfld P.dev R.DEV_STAT 9 6

/-- STEP shows the last step completed. -/
def State.setStep (s : State) (n : Nat) : State := if s.bootStep < n then s.setRfld P.dev R.DEV_STAT 9 6 n else s

/-- Restart the count of watchdog `i`: regions 0 to 3, device 4 (R495). -/
def State.kick (s : State) (i : Nat) : State :=
  { s with boot := { s.boot with kicks := Map.put (dflt 0) s.boot.kicks i s.now } }

/-- The release: GBCOMPAT is sampled where the reset source has it so, VCORE and the regions start at 0.70 V and point 0,
and step 1 is carried out. -/
def State.start (s : State) (gb sample : Bool) : State :=
  let s : State := { s with boot := { s.boot with gbcompat := gb } }
  let s := if sample then s.setRbit P.dev R.DEV_STAT 1 gb else s
  let s := (s.gbDefault (!s.lockedPage P.dev)).gbForce
  let s := s.setReg P.pwr R.PWR_VCORE 700
  let s := s.each (List.range 4) (fun t k => t.setReg P.clk (R.CLK_RG_FREQ + k) 400)
  let s := s.each (List.range 5) State.kick
  let s : State := s.each (List.range 4) (fun t k =>
    { t with diag := { t.diag with passAt := Map.put (dflt 0) t.diag.passAt k t.now } })
  let s := if s.retired then s else s.each firstPages (fun t p => t.setStat p ST.ready true)
  s.setStep 1

/-- The device comes out of reset once no source asserts it. DEDUCED, log entry 80. -/
def State.tryStart (s : State) (gb : Bool) : State := if s.inReset then s else s.start gb true

/-- POR_RELEASE (R482): `gb` is the level of GBCOMPAT; both links get fresh keys (R28). -/
def execPorRelease (gb : Bool) (s : State) : Host.Outcome State Fault Refusal :=
  let t : State := { s with boot := { s.boot with por := false } }
  let t := (t.setRbit P.rstc R.RSTC_CAUSE 0 true).logEntry 8 0 s.rtc 1
  let t := (t.newLinkKey false).newLinkKey true
  when s.boot.por s (t.tryStart gb)

/-- SUPPLY_BROWNOUT (R483, R444, R485): power-on reset; without VBAT the Hummock domain stops and the latch is lost. A
tamper hold ends with main power (R441). DEDUCED, log entry 83. -/
def execSupplyBrownout (s : State) : Host.Outcome State Fault Refusal :=
  let v := s.wisp.vbat
  let t := s.deferRunning
  let t := if v then t.logEntry 8 0 s.rtc 0 else t
  let t := t.packageReset .por
  let t : State := { t with boot := { t.boot with por := true, tamper := false } }
  let t : State := { t with tamper := { t.tamper with present := t.tamper.present.filter onVbat } }
  let t := if v then t else t.hummockStop
  when (!s.boot.por) s t

/-- RESET_N (R492). -/
def execResetN (s : State) : Host.Outcome State Fault Refusal :=
  let t := s.packageReset .pin
  when (!s.boot.pin) s { t with boot := { t.boot with pin := true } }

/-- RESET_N_RELEASE (R496, R502). -/
def execResetNRelease (gb : Bool) (s : State) : Host.Outcome State Fault Refusal :=
  let t : State := { s with boot := { s.boot with pin := false } }
  when s.boot.pin s (t.tryStart gb)

/-- RESET_DEVICE (R437, R438, R441, R442): it starts once no running set has a zeroisation or RETIRE left. -/
def execResetDevice (src : Nat) (s : State) : Host.Outcome State Fault Refusal :=
  match s.runIdx src (fun r => r.open 9) with
  | some _ =>
    let t := (s.actionDone 9).packageReset .tamper
    when (s.tamper.running.all (fun r => waitBits.all (fun b => !r.open b)) && s.mainPower) s
      { t with boot := { t.boot with tamper := true } }
  | none => .next s

/-- TAMPER_RESET_RELEASE (R441): every source whose active set holds RESET_DEVICE has been absent for 10 ms. -/
def execTamperResetRelease (gb : Bool) (s : State) : Host.Outcome State Fault Refusal :=
  let t : State := { s with boot := { s.boot with tamper := false } }
  when (s.boot.tamper && s.tamper.present.all (fun n => !tb (s.activeSet n) 9)) s (t.tryStart gb)

/-! ### Watchdogs (R495) -/

/-- The time of a watchdog in ns since it was last armed or kicked. -/
def State.sinceKick (s : State) (i : Nat) : Nat := s.now - Map.get (dflt 0) s.boot.kicks i

/-- DEV_WDT in ns; 0 disarmed. -/
def State.devWdt (s : State) : Nat := s.rfld P.rstc R.RSTC_DEV_WDT 15 0 * 1000000

/-- RG_WDTk in ns; 0 disarmed. -/
def State.rgWdt (s : State) (k : Nat) : Nat := s.rfld P.rstc (R.RSTC_RG_WDT + k) 15 0 * 10000

/-- DEV_WDT_EXPIRY (R492, R493, R502): a package reset that is released at once; GBCOMPAT is resampled only while
DEV.PG_LOCK is clear. DEDUCED, log entry 80. -/
def execDevWdtExpiry (gb : Bool) (s : State) : Host.Outcome State Fault Refusal :=
  let t := s.packageReset .wdt
  when (!s.inReset && decide (s.devWdt ≠ 0) && decide (s.devWdt ≤ s.sinceKick 4)) s
    (t.start (if s.lockedPage P.dev then s.boot.gbcompat else gb) (!s.lockedPage P.dev))

/-- DEV_WDT_WARN (R495): half the timeout has passed. -/
def execDevWdtWarn (s : State) : Host.Outcome State Fault Refusal :=
  when (!s.inReset && decide (s.devWdt ≠ 0) && decide (s.devWdt ≤ 2 * s.sinceKick 4)) s (s.event P.rstc 2)

/-- RG_WDT_EXPIRY (R24, R495). -/
def execRgWdtExpiry (k : Nat) (s : State) : Host.Outcome State Fault Refusal :=
  when (!s.inReset && decide (s.rgWdt k ≠ 0) && decide (s.rgWdt k ≤ s.sinceKick k) && !s.rbit P.rstc R.RSTC_RG_STAT (8 + k)) s
    (((s.setRbit P.rstc R.RSTC_RG_STAT (8 + k) true).event P.rstc 0).quarRegion k)

/-- Whether a requester may kick region `k`: a core of it. DEDUCED, log entry 81. -/
def ofRegion (req : Requester) (k : Nat) : Bool := match req with | .core c => c / 16 == k | _ => false

/-- A write of KICK takes effect. DEDUCED, log entry 81. -/
def State.wKick (s : State) (req : Requester) (val : Word) : State :=
  let l := (List.range 4).filter (fun k => tb val k)
  if bits val 17 9 = 0o525 ∧ l.all (ofRegion req) then
    s.each (l ++ (if tb val 4 then [4] else [])) State.kick
  else s.pgErr P.rstc 0 req R.RSTC_KICK

/-- KICK (R495). -/
def execKick (req : Requester) (val : Word) (s : State) : Host.Outcome State Fault Refusal := s.written P.rstc (s.wKick req val)

/-- CAUSE_READ (R504): read and clear. -/
def execCauseRead (_req : Requester) (s : State) : Host.Outcome State Fault Refusal :=
  .next ((s.answer (s.reg P.rstc R.RSTC_CAUSE)).setReg P.rstc R.RSTC_CAUSE 0)

/-! ### PERST_N (R494, R88) -/

/-- PERST_N: every WQ page is reset, with the PCI Express controller and its MSI-X table. PRESUMED, log entry 7. -/
def execPerstN (s : State) : Host.Outcome State Fault Refusal :=
  let t := s.each (List.range 256) State.queueReset
  let t := (t.incSat P.rstc R.RSTC_PERSTS).event P.rstc 3
  when (!s.boot.perst) s
    { t with boot := { t.boot with perst := true }, evt := { t.evt with msix := [], msixPend := [] } }

/-- PERST_N_RELEASE (R494). -/
def execPerstNRelease (s : State) : Host.Outcome State Fault Refusal := .next { s with boot := { s.boot with perst := false } }

/-! ### Bring-up, steps 1 to 4 (R496, R497, R500, R445) -/

/-- The pages that the device enables at bring-up: EN = 1 unless another requester has written PG_CTRL (R500).
DEDUCED, log entry 82. -/
def State.autoStart (s : State) (l : List Nat) : State :=
  if s.rbit P.dev R.DEV_BOOTCFG 1 then
    s.each (l.filter (fun p => !s.boot.touched.contains p && !s.stat p ST.quar && !s.en p)) (fun t p => t.startPage .host p)
  else s

/-- The pages of AUTO_EN (R500). -/
def autoPages : List Nat :=
  [P.rng, P.flash, P.peat, P.cred] ++ (List.range 16).map P.clu ++ (List.range 16).flatMap clusterPages ++ stationPages

/-- The steps are past: the restore done, or not to be done (R496). -/
def State.stepsOver (s : State) : Bool :=
  decide (s.bootStep = 7) || (decide (s.bootStep = 6) && !s.hmkLive) ||
    (decide (s.bootStep = 5) && !s.rbit P.dev R.DEV_STAT 3)

/-- ALL_READY: every page that the device enabled is READY or quarantined. DEDUCED, log entry 82. -/
def State.allReady (s : State) : State :=
  if s.stepsOver && !s.rbit P.dev R.DEV_STAT 10 &&
      autoPages.all (fun p => s.boot.touched.contains p || !s.en p || s.ready p || s.stat p ST.quar) then
    (s.setRbit P.dev R.DEV_STAT 10 true).event P.dev 2
  else s

/-- A source found at the check (R497): its condition is present; it alarms only where its LATCH bit is 0. -/
def State.checkSource (s : State) (src : Nat) : State :=
  let s : State := { s with tamper := { s.tamper with present := add1 s.tamper.present src } }
  let s := if src = 118 then (s.setRbit P.hmk R.HMK_STAT 2 false).event P.hmk 1 else s
  if s.rbit P.tamp0 (R.TAMP0_LATCH + src / 16) (src % 16) then s else s.alarm src

/-- The clusters and regions that a register of 16 or 4 bits names. -/
def named (w : Word) (n : Nat) : List Nat := (List.range n).filter (fun i => tb w i)

/-- The pending actions run (R445). DEDUCED, log entry 75. -/
def State.runPending (s : State) : State :=
  let set := wd (s.rfld P.tamp0 R.TAMP0_PENDING 10 0)
  if set = 0 then s
  else
    let acts := withRetire set
    let s := if tb acts 10 then s.retireFuse else s
    let s := s.each (zeroBits.filter (tb acts)) State.zeroise
    let s := if tb acts 2 then s.assertHold 11 else s
    let s := if tb acts 1 then s.event P.tamp0 0 else s
    let s := s.each (named (s.reg P.tamp0 R.TAMP0_PEND_RG) 4) State.quarRegion
    let s := s.each (named (s.reg P.tamp0 R.TAMP0_PEND_CL) 16) State.quarClusterUp
    let s := s.logEntry 4 0 s.tamper.pendTime set
    let s := ((s.setPending 0).setReg P.tamp0 R.TAMP0_PEND_CL 0).setReg P.tamp0 R.TAMP0_PEND_RG 0
    s.event P.tamp0 3

/-- The root is derived while the key is live (R130, Table 4-3). -/
def State.showRoot (s : State) : State :=
  if s.hmkLive then
    let f := beNat s.fingerprint
    (s.setRegs P.hmk R.HMK_FPRINT 4 f).setRbit P.hmk R.HMK_STAT 4 true
  else s

/-- The device stops here when it is retired: it reports READY on no function (R441, R496). DEDUCED, log entry 82. -/
def State.stopRetired (s : State) : State :=
  (s.setRbit P.dev R.DEV_STAT 5 true).each (firstPages ++ hummockPages) (fun t p => t.setStat p ST.ready false)

/-- Steps 3 and 4 begin: RNG and FLASH, the self-test of every cluster not quarantined, units, stations with VFIELD.
DEDUCED, log entry 82. -/
def State.steps34 (s : State) : State :=
  let cl := (List.range 16).filter (fun n => !s.stat (P.clu n) ST.quar)
  let s : State := { s with lev := { s.lev with clBist := cl } }
  let s := s.autoStart [P.rng, P.flash]
  let s := s.autoStart (cl.map P.clu)
  let units := cl.flatMap (fun n => (clusterPages n).filter (fun p => (coreOf p).isNone))
  let s := s.autoStart units
  if s.vfield then s.autoStart stationPages else s

/-- HUMMOCK_CHECK (R497, R445): `found` are the sources whose condition the check finds; a lost master key latch is the
condition of source 120 (R485). An alarm raised here runs its set with RESET_DEVICE done. -/
def execHummockCheck (found : List Nat) (s : State) : Host.Outcome State Fault Refusal :=
  let lost := s.hmkLive && decide (s.cust.hmk = 0) && !found.contains 120
  let t := s.each (found ++ (if lost then [120] else [])) State.checkSource
  let l := t.tamper.running.map (fun r => { r with done := r.done ||| (r.set &&& 0o1000) })
  let t : State := { t with tamper := { t.tamper with running := l } }
  let t := (t.runPending.setStep 2).showRoot
  let t := if t.retired then t.stopRetired else (t.each hummockPages (fun u p => u.setStat p ST.ready true)).steps34
  when (!s.inReset && decide (s.bootStep = 1)) s t

/-- Steps 3 and 4 are complete once RNG and FLASH, then the clusters and their units have started or failed (R496).
DEDUCED, log entry 82. -/
def State.stepsDone (s : State) : State :=
  let up (p : Nat) : Bool := !s.lev.starting.contains p
  if decide (2 ≤ s.bootStep) && up P.rng && up P.flash then
    if s.lev.clBist.isEmpty && ((List.range 16).flatMap clusterPages).all up then s.setStep 4 else s.setStep 3
  else s

/-- CLUSTER_BIST_DONE (R23): the members that hold EN = 1 start up. DEDUCED, log entry 18. -/
def execClusterBistDone (cl : Nat) (pass : Bool) (s : State) : Host.Outcome State Fault Refusal :=
  let t : State := { s with lev := { s.lev with
    clBist := drop1 s.lev.clBist cl,
    clPassed := if pass then add1 s.lev.clPassed cl else drop1 s.lev.clPassed cl,
    members := s.lev.members.filter (fun p => !(clusterPages cl).contains p) } }
  let t := if pass then (t.setStat (P.clu cl) ST.ready (t.en (P.clu cl))).startMembers (clusterPages cl) else t
  when (s.lev.clBist.contains cl) s t.stepsDone

/-- START_UP_DONE (R42, R190, R213, R240, R275, R371, R403, R426): `pass`, and the number of the first failing vector or
check; the bring-up goes on. -/
def execStartUpDone (page : Nat) (pass : Bool) (vec : Nat) (s : State) : Host.Outcome State Fault Refusal :=
  when (s.startable' page) s ((s.startEnd page pass vec).stepsDone.allReady)

/-! ### Boot images (R498) -/

/-- Octets `i` to `i + n − 1` as a big-endian number. -/
def fieldOf (h : List Octet) (i n : Nat) : Nat := beNat (sliceOct h i n)

/-- ENTRY lies in the own-cluster alias: its word is one of the cluster's SRAM (Table 18-5, Table 1-15). -/
def entryOk (e : Nat) : Bool := decide (0o004000000000 ≤ e / 2) && decide (e / 2 < 0o004000000000 + sramWords)

/-- The checks of Table 18-6 on the header and the body of an image; 0 passes. DEDUCED, log entry 82. -/
def imageCause (fuse : Option (BitVec 256)) (count : Nat) (h : List Octet) (body : Nat → Option (List Octet)) : Nat :=
  let len := fieldOf h 8 4
  let fw := fieldOf h 12 3
  let keys := sliceOct h 512 2049
  let signed := h.take 2561
  if h.take 4 ≠ [0x53, 0x4B, 0x42, 0x49] then 1
  else if fieldOf h 4 1 ≠ 1 ∨ !(sliceOct h 86 426).all (fun o => o == 0) then 2
  else match fuse with
    | none => 3
    | some d =>
      if beNat (sha3_256 keys) ≠ d.toNat then 4
      else if len < 9 ∨ 2088960 < len ∨ fw < 9 ∨ 73728 < fw ∨ fw % 9 ≠ 0 ∨ len < fw ∨ !entryOk (fieldOf h 15 5) ∨
          fieldOf h 20 2 < 32 ∨ 1208 < fieldOf h 20 2 then 5
      else if fieldOf h 5 1 < count then 6
      else
        let sig := sliceOct h 2561 96
        if !(match p384.parse (sliceOct h 512 97) with
          | some (x, y) => p384.verify x y (digest 2 signed 48) (beNat (sig.take 48)) (beNat (sig.drop 48))
          | none => false) then 7
        else if !dsaVerify (dsaSet 1) (sliceOct h 609 1952) signed (sliceOct h 2657 3309) then 8
        else match body len with
          | none => 10
          | some b => if digest 7 b 64 ≠ sliceOct h 22 64 then 9 else 0

/-- The first flash page of a slot: sectors 0 to 31 and 32 to 63. -/
def slotPage (slot : Nat) : Nat := 4096 * slot

/-- The octets 0 to 5,965 of a slot, which the checks read. -/
def State.imageHead (s : State) (slot : Nat) : Option (List Octet) := s.flashOctets (slotPage slot) 12

/-- The body of a slot. -/
def State.imageBody (s : State) (slot len : Nat) : Option (List Octet) :=
  (s.flashOctets (slotPage slot + 16) ((len + 511) / 512)).map (fun l => l.take len)

/-- The cause of a slot; `bad`: a flash read of it failed. DEDUCED, log entry 82. -/
def State.slotCause (s : State) (slot : Nat) (bad : Bool) : Nat :=
  if bad then 10
  else match s.imageHead slot with
    | none => 10
    | some h => imageCause s.boot.keyFuse (s.rfld P.dev R.DEV_FUSE_RB 5 0) h (s.imageBody slot)

/-- The image of a slot is the running one. -/
def State.bootFrom (s : State) (slot : Nat) : State :=
  let h := (s.imageHead slot).getD []
  let fw := ((s.imageBody slot (fieldOf h 12 3)).getD [])
  let s : State := { s with boot := { s.boot with
    slot := some slot, fw := fw, entry := fieldOf h 15 5, jframe := fieldOf h 20 2, rollback := fieldOf h 5 1 } }
  let s := (s.setRbit P.dev R.DEV_STAT 3 true).setRbit P.dev R.DEV_STAT 4 (slot == 1)
  (s.setReg P.dev R.DEV_IMG_VER (wd (fieldOf h 6 2))).setRfld P.dev R.DEV_FUSE_RB 13 8 (fieldOf h 5 1)

/-- BOOT_VERIFY (R498): `badA`, `badB`: a flash read of that slot failed (R466). DEDUCED, log entry 82. -/
def execBootVerify (badA badB : Bool) (s : State) : Host.Outcome State Fault Refusal :=
  let first := b2n (s.rbit P.dev R.DEV_BOOTCFG 2)
  let bad (n : Nat) : Bool := if n = 0 then badA else badB
  let up := !s.lev.clPassed.isEmpty
  let c1 := if up then s.slotCause first (bad first) else 11
  let c2 := if up then (if c1 = 0 then 0 else s.slotCause (1 - first) (bad (1 - first))) else 11
  let t := (s.setRfld P.dev R.DEV_BOOT_ERR (5 * first + 4) (5 * first) c1).setRfld P.dev R.DEV_BOOT_ERR (9 - 5 * first)
    (5 - 5 * first) c2
  let t := if c1 = 0 then (t.bootFrom first).event P.dev 0
    else if c2 = 0 then (t.bootFrom (1 - first)).event P.dev 0
    else t.event P.dev 1
  when (!s.inReset && !s.retired && decide (2 ≤ s.bootStep) && decide (s.bootStep < 5) && s.lev.clBist.isEmpty && s.ready P.flash) s
    ((t.setStep 5).allReady)

/-! ### Firmware and the journal (R499, R144) -/

/-- The clusters that are up. -/
def State.upClusters (s : State) : List Nat := s.lev.clPassed.filter (fun n => !s.stat (P.clu n) ST.quar)

/-- The firmware in one cluster (R499). -/
def State.loadCluster (s : State) (n : Nat) : State :=
  let words := s.boot.fw.length / 9 * 4
  let s := s.setWords (sramBase n) (streamWords words s.boot.fw)
  let s : State := s.each (List.range ((words + 1023) / 1024)) (fun t g =>
    { t.mend (granKey n g) with gates := { t.gates with gcol := Map.put gcolReset t.gates.gcol (2048 * n + g) 15 } })
  s.each (List.range 4) (fun t k =>
    (t.setReg36 (P.kz (4 * n + k)) R.KZ_BOOT (BitVec.ofNat 36 t.boot.entry)).setReg36 (P.kz (4 * n + k)) R.KZ_JFRAME
      (BitVec.ofNat 36 (sramBase n + 1024 * (t.boot.jframe + k))))

/-- The cores of a cluster. -/
def coresOf (n : Nat) : List Nat := (List.range 4).map (fun i => P.kz (4 * n + i))

/-- FIRMWARE_COPY (R499, R500). -/
def execFirmwareCopy (s : State) : Host.Outcome State Fault Refusal :=
  let l := s.upClusters
  let t := (s.each l State.loadCluster).autoStart (l.flatMap coresOf)
  when (!s.inReset && decide (s.bootStep = 5) && s.rbit P.dev R.DEV_STAT 3) s ((t.setStep 6).allReady)

/-- The journal sectors are erased. DEDUCED, log entry 37. -/
def State.eraseJournal (s : State) : State :=
  let base := s.rfld P.peat R.PEAT_STORE_BASE 9 0
  let s := s.each (List.range s.storeCount) (fun t i => if base + i < 1024 then t.eraseSector (base + i) else t)
  { s with cust := { s.cust with journal := [], compacting := false } }

/-- The slots and the quorum that committed records give, in order: a slot that is no longer persistent is as never filled.
DEDUCED, log entry 37. -/
def State.replay (s : State) (l : List JRec) : State :=
  l.foldl (fun t r => match r.slot with
    | some n => { t with cust := { t.cust with
        slots := Map.put (dflt ⟨0, 0, 0⟩) t.cust.slots n (if tb r.val.attr0 0 then r.val else ⟨0, 0, 0⟩) } }
    | none => t.setReg P.peat R.PEAT_QUORUM r.val.attr0) s

/-- The restore itself (R144, R132, R440): the records with a commit mark that decrypt under the storage key; where PEAT_VOID
is set, the journal is erased and PEAT_VOID clears. DEDUCED, log entry 37. -/
def State.restoreJournal (s : State) : State :=
  let s := if s.rbit P.tamp0 R.TAMP0_PENDING 17 then s.eraseJournal.setRbit P.tamp0 R.TAMP0_PENDING 17 false
    else (s.replay (s.cust.journal.filter (fun r => r.mark && r.key == s.storageKey))).cachePairs
  s.setRbit P.peat R.PEAT_STAT 0 true

/-- JOURNAL_RESTORE (R144, R496, R500): PEAT, then CRED. -/
def execJournalRestore (s : State) : Host.Outcome State Fault Refusal :=
  let t := (s.restoreJournal.autoStart [P.peat, P.cred]).custodyUp
  when (!s.inReset && s.hmkLive && s.rbit P.dev R.DEV_STAT 3 && decide (6 ≤ s.bootStep) && !s.peatRestored) s
    ((t.setStep 7).allReady)

/-! ### Region reset (R24, R495) -/

/-- A region's register pages. -/
def regionPages (k : Nat) : List Nat :=
  (List.range 4).flatMap (fun i => [P.clu (4 * k + i), P.cgate (4 * k + i)] ++ clusterPages (4 * k + i))

/-- The pages in a region's core domain. -/
def corePages (k : Nat) : List Nat := (regionPages k).filter (fun p => pageDomain p == .region k)

/-- Shadows that are no longer shown. DEDUCED, log entry 13. -/
def State.thaw (s : State) (l : List Nat) : State :=
  { s with bus := { s.bus with shadow := Map.keep (fun k => !l.contains (k / 1024)) s.bus.shadow } }

/-- The pages of a region return to reset, except locks; the device may enable them again (R500, R501).
DEDUCED, log entry 80. -/
def State.regionRegs (s : State) (k : Nat) : State :=
  let s := s.each (regionPages k) (fun t p => match blockOf p with
    | some (.cgate, n) => (t.gateReset n).regsReset p .cgate
    | some (b, _) => t.regsReset p b
    | none => t)
  let s := s.each ((List.range 16).map (fun i => 16 * k + i)) (fun t c => t.setCore c Core.zero)
  { s with boot := { s.boot with touched := s.boot.touched.filter (fun p => !(regionPages k).contains p) },
           lev := { s.lev with members := s.lev.members.filter (fun p => !(regionPages k).contains p) } }

/-- One region's reset begins. DEDUCED, log entry 80. -/
def State.regionReset (s : State) (k : Nat) : State :=
  if s.rbit P.rstc R.RSTC_RG_STAT k then s
  else
    let s := ((s.freeze (corePages k)).quarRegion k).regionRegs k
    let s := (s.setRbit P.rstc R.RSTC_RG_STAT k true).setRbit P.rstc R.RSTC_RG_STAT (8 + k) false
    let gone (x : Posted) : Bool := pageDomain x.page == .region k
    let s : State := { s with bus := { s.bus with posted := s.bus.posted.filter (fun x => !gone x),
                                                  stalled := s.bus.stalled.filter (fun x => !gone x) } }
    { s.kick k with boot := { (s.kick k).boot with rgReset := add1 s.boot.rgReset k } }

/-- RG_RESET (R495): bit k resets region k. -/
def execRgReset (_req : Requester) (val : Word) (s : State) : Host.Outcome State Fault Refusal :=
  s.written P.rstc (s.each (named val 4) State.regionReset)

/-- RG_RESET_DONE (R495, R24): the region and its clusters are released, its units start, and where the image verifies
again its firmware is loaded and its cores start. `pass`: the self-test of its clusters; `bad`: a flash read failed.
DEDUCED, log entry 80. -/
def execRgResetDone (k : Nat) (pass bad : Bool) (s : State) : Host.Outcome State Fault Refusal :=
  let cl := (List.range 4).map (fun i => 4 * k + i)
  let good := s.rbit P.dev R.DEV_STAT 3 && pass &&
    (match s.boot.slot with | some n => decide (s.slotCause n bad = 0) | none => false)
  let t : State := { s with boot := { s.boot with rgReset := drop1 s.boot.rgReset k } }
  let t := (t.setRbit P.rstc R.RSTC_RG_STAT k false).setRbit P.rstc R.RSTC_RG_STAT (4 + k) false
  let t := t.each cl State.clusterRelease
  let t : State := { t with lev := { t.lev with
    clBist := t.lev.clBist.filter (fun n => !cl.contains n),
    clPassed := if pass then t.lev.clPassed ++ cl.filter (fun n => !t.lev.clPassed.contains n) else t.lev.clPassed } }
  let t := if pass then
      (t.autoStart (cl.map P.clu)).autoStart (cl.flatMap (fun n => (clusterPages n).filter (fun p => (coreOf p).isNone)))
    else t
  let t := if good then (t.each cl State.loadCluster).autoStart (cl.flatMap coresOf) else t
  when (s.rbit P.rstc R.RSTC_RG_STAT k) s ((t.thaw (corePages k)).event P.rstc 1)

/-! ### DEV (R499, R502) -/

/-- A write of DEV.CMD takes effect: ROLLBACK_ADV. DEDUCED, log entry 83. -/
def State.rollbackAdv (s : State) (req : Requester) : State :=
  if s.rbit P.dev R.DEV_STAT 3 then
    s.modReg P.dev R.DEV_FUSE_RB (fun v => putBits v 5 0 (max (bits v 5 0) (min 63 s.boot.rollback)))
  else s.pgErr P.dev 1 req R.DEV_CMD

/-- ROLLBACK_ADV (R499). -/
def execRollbackAdv (req : Requester) (s : State) : Host.Outcome State Fault Refusal := s.written P.dev (s.rollbackAdv req)

/-- Some WQ page has EN = 1 or STOPPING = 1. -/
def State.queuesRun (s : State) : Bool := (List.range 256).any (fun q => s.en (P.wq q) || s.stat (P.wq q) ST.stopping)

/-- A write of BOOTCFG takes effect: GBMODE changes only while no queue runs. DEDUCED, log entry 83. -/
def State.wBootcfg (s : State) (req : Requester) (val : Word) : State :=
  if tb val 0 != s.rbit P.dev R.DEV_BOOTCFG 0 && s.queuesRun then s.pgErr P.dev 0 req R.DEV_BOOTCFG
  else (s.setReg P.dev R.DEV_BOOTCFG (val &&& 7)).gbForce

/-- BOOTCFG_WRITE (R502). -/
def execBootcfgWrite (req : Requester) (val : Word) (s : State) : Host.Outcome State Fault Refusal :=
  s.written P.dev (s.ifUnlocked req P.dev R.DEV_BOOTCFG (s.wBootcfg req val))

/-- VBAT_APPLY (R448): the RTC counts from 0. DEDUCED, log entry 83. -/
def execVbatApply (s : State) : Host.Outcome State Fault Refusal :=
  let t : State := { s with
    tamper := { s.tamper with present := drop1 (drop1 s.tamper.present 118) 119 } }
  when (!s.wisp.vbat || s.tamper.present.contains 118) s (t.vbatBack.setRbit P.hmk R.HMK_STAT 2 true)

end Sys2Proof.Machine
end

