-- ==== Sys2Proof/Machine/Diag.lean ====
section
/-! DEFINITION. Failure handling (R507 to R521): the credential scrub, the comparison of configuration registers, their
reactions, the device fault state, the tests of the storage checks. -/
namespace Sys2Proof.Machine

/-! ### The device fault state (R517) -/

/-- A page that holds EN = 1 carries out its shutdown. DEDUCED, log entry 84. -/
def State.shutIfOn (s : State) (p : Nat) : State := if s.en p then s.shutdown p else s

/-- Enter the device fault state: every cluster and region quarantined, every station shut down, the line held, every
Denlet port shut down. It ends only with a package reset. DEDUCED, log entry 84. -/
def State.deviceFault (s : State) : State :=
  if s.rbit P.diag R.DIAG_STAT 0 then s
  else
    let s := s.each (List.range 16) State.quarClusterUp
    let s := s.each stationPages State.shutIfOn
    let s := s.shutIfOn P.line
    let s := s.each ((List.range 4).map P.dnl) State.shutIfOn
    (s.setRbit P.diag R.DIAG_STAT 0 true).event P.diag 4

/-- A lost word of the queue, Lode and routing tables puts the device in its fault state (Table 19-3).
DESIGN CHOICE, log entry 90. -/
def State.tableUe (s : State) (a : Nat) : State :=
  ((({ s with diag := s.diag.written a 1 } : State).latchUe 0 5 false).detect 7).deviceFault

/-- The context of the session that a job names has lost a word, and the session fails with it.
DESIGN CHOICE, log entry 90. -/
def State.placeUe (s : State) (key : Nat) : State := s.ctxUe ((s.job key).bind (fun j => j.sess))

/-- JOB_PLACE (R96, R97, R108, R191, R512): it reads the tables and the context of the job's session; then a FETCHED job
that may leave is placed, forwarded or completed, and a DISPATCHED job of a unit that is no longer READY is moved.
DEDUCED, log entry 22. -/
def execJobPlace (key : Nat) (s : State) : Host.Outcome State Fault Refusal :=
  match s.struckIn (2 ^ 42) 1 with
  | some a => .next (s.tableUe a)
  | none => (s.placeUe key).placeNext key

/-! ### The scrubber (R514) -/

/-- Entry slots a bank of a region has been visited at. -/
def State.scrubCount (s : State) (k b : Nat) : Nat := Map.get (dflt 0) s.diag.scrub (16 * k + b)

/-- Complete passes of a region: every bank has gone through its 65,536 slots. DEDUCED, log entry 84. -/
def State.regionPasses (s : State) (k : Nat) : Nat :=
  ((List.range 16).map (fun b => s.scrubCount k b / 65536)).foldl min (s.scrubCount k 0 / 65536)

/-- A region's pass has ended: counted, timed, and late beyond 4 s. DEDUCED, log entry 84. -/
def State.passEnd (s : State) (k : Nat) : State :=
  let t := s.now - Map.get (dflt 0) s.diag.passAt k
  let s := (s.inc36 P.diag R.DIAG_SCRUB_PASSES).setReg P.diag R.DIAG_SCRUB_LAST (wd (min 8191 (t / 1000000)))
  let s : State := { s with diag := { s.diag with passAt := Map.put (dflt 0) s.diag.passAt k s.now } }
  if 4000000000 < t then s.event P.diag 5 else s

/-- The frame of an entry slot of a bank: frames of a region are interleaved over its 16 banks. -/
def scrubFrame (k b slot : Nat) : Nat := 256 * k + 16 * (slot / 4096) + b

/-- What a scrub read of an entry finds: 0 no error, 1 a single-bit error, 2 a double-bit error in a word. A test of KIND
1 makes the first read in its region find the flipped check bit. DEDUCED, log entry 46. DEDUCED, log entry 84. -/
def State.scrubRead (s : State) (k b slot outcome word : Nat) : State :=
  let a := frameBase (scrubFrame k b slot) + 8 * (slot % 4096)
  let test := decide (s.diag.inject = some (1, k)) && !s.diag.injOk
  let out := if test && outcome = 0 then 1 else outcome
  let s : State := if test then { s with diag := { s.diag with injOk := decide (out = 1) } } else s
  if out = 1 then s.incSat P.diag R.DIAG_CORR
  else if out = 2 then ((s.quarEntry a word).latchUe (a + word) 1 true).detect 8
  else s

/-- SCRUB_READ (R512 to R514): the next entry slot of a bank; slots of frames not USED and of regions held in reset or
quarantined are skipped. -/
def execScrubRead (k b outcome word : Nat) (s : State) : Host.Outcome State Fault Refusal :=
  let n := s.scrubCount k b
  let was := s.regionPasses k
  let live := (s.frame (scrubFrame k b (n % 65536))).used && s.steps k
  let t := if live then s.scrubRead k b (n % 65536) outcome word else s
  let t : State := { t with diag := { t.diag with scrub := Map.put (dflt 0) t.diag.scrub (16 * k + b) (n + 1) } }
  when (!s.inReset) s (if was < t.regionPasses k then t.passEnd k else t)

/-! ### Configuration registers (R515, R516) -/

/-- A register word of a block is a configuration register (R515). -/
def isConfig (b : Block) (w : Nat) : Bool :=
  w == R.PG_LOCK || w == R.PG_COLOUR ||
    (decide (0o20 ≤ w) && (match descOf b w with
      | some r => decide (r.acc = .rw) || decide (r.acc = .rwl)
      | none => false))

/-- The page and the word that a mismatching configuration register is reported at: `kind` 0 a register by page · 1024 +
word, 1 a route entry, 2 a rule of a GATE group, 3 a granule colour by 2,048 · cluster + granule. -/
def regRef (kind i : Nat) : Nat × Nat :=
  match kind with
  | 0 => (i / 1024, i % 1024)
  | 1 => (P.evt0, R.EVT0_ROUTE_DATA)
  | 2 => (P.gate, R.GATE_RULE_DATA)
  | _ => (P.cgate (i / 2048 % 16), R.CGATE_GCOL_DATA)

/-- Its key in `Diag.mism`. -/
def regKey (kind i : Nat) : Nat :=
  match kind with | 0 => i | 1 => routeKey i | 2 => ruleKey i | _ => granKey (i / 2048) (i % 2048)

/-- The reaction of Table 19-4 by page and kind. -/
def State.mismReact (s : State) (kind p w : Nat) : State :=
  match blockOf p with
  | some (.ciph, _) | some (.dig, _) | some (.bn, _) => s.quarOwn p
  | some (.cst, n) => s.cquar n
  | some (.fst, n) => s.fquar n
  | some (.kz, c) => s.quarClusterUp (c / 4)
  | some (.clu, n) | some (.cgate, n) => s.quarClusterUp n
  | some (.gate, _) => s
  | some (.wq, _) | some (.line, _) | some (.dnl, _) | some (.flash, _) | some (.rng, _) | some (.peat, _) | some (.cred, _) =>
    let s := if s.stat p ST.stopping then s.setStat p ST.restart false else s.shutIfOn p
    s.setStat p ST.error true
  | some (.diag, _) => if w = R.DIAG_TEST then s else s.deviceFault
  | _ => if kind = 1 then s else s.deviceFault

/-- A mismatch is detected: latched, REG_MISMATCH, counted, and its reaction taken. DEDUCED, log entry 46.
DEDUCED, log entry 84. -/
def State.mismatch (s : State) (kind i : Nat) (background : Bool) : State :=
  let (p, w) := regRef kind i
  let s : State := { s with diag := { s.diag with mism := add1 s.diag.mism (regKey kind i) } }
  let s := if s.rbit P.diag R.DIAG_REGF_PAGE 17 then s
    else (s.setReg P.diag R.DIAG_REGF_PAGE (wd (2 ^ 17 + p))).setReg P.diag R.DIAG_REGF_WORD (wd (b2n background * 1024 + w))
  ((s.event P.diag 2).detect (if background then 10 else 9)).mismReact kind p w

/-- A register can mismatch. -/
def canMismatch (kind i : Nat) : Bool :=
  match kind with
  | 0 => (match blockOf (i / 1024) with | some (b, _) => isConfig b (i % 1024) | none => false)
  | 1 => decide (i < 4096)
  | 2 => decide (i < 128)
  | _ => decide (i / 2048 < 16) && decide (i % 2048 < 1365)

/-- BACKGROUND_COMPARE (R515, R516): a pass, or a read or use where `background` is false, finds the register `bad`. -/
def execBackgroundCompare (background : Bool) (bad : Option (Nat × Nat)) (s : State) : Host.Outcome State Fault Refusal :=
  match bad with
  | none => .next s
  | some (kind, i) =>
    when (!s.inReset && canMismatch kind i && !s.isBad (regKey kind i)) s (s.mismatch kind i background)

/-! ### Tests of the storage checks (R519) -/

/-- A test begins. -/
def State.testOn (s : State) (kind rg : Nat) : State :=
  let s : State := { s with diag := { s.diag with inject := some (kind, rg), injOk := false } }
  s.setRbit P.diag R.DIAG_STAT 1 true

/-- Its outcome so far. DEDUCED, log entry 84. -/
def State.testOk (s : State) (b : Bool) : State := { s with diag := { s.diag with injOk := b } }

/-- A write of INJECT takes effect. DEDUCED, log entry 84. -/
def State.wInject (s : State) (req : Requester) (val : Word) : State :=
  let kind := bits val 1 0
  let rg := bits val 5 4
  if bits val 17 9 ≠ 0o525 ∨ kind = 0 ∨ s.diag.inject.isSome then s.pgErr P.diag 0 req R.DIAG_INJECT
  else
    let t := s.testOn kind rg
    if kind = 1 then t
    else if kind = 2 then ((t.latchUe 0 7 false).detect 7).testOk (!s.rbit P.diag R.DIAG_UE_INFO 17)
    else (t.mismatch 0 (P.diag * 1024 + R.DIAG_TEST) false).testOk (!s.rbit P.diag R.DIAG_REGF_PAGE 17)

/-- The value of a test's write. -/
def injectWord (kind rg : Nat) : Word := wd (0o525000 + rg * 16 + kind)

/-- INJECT_SCRUB_FLIP: KIND 1. -/
def execInjectScrubFlip (req : Requester) (rg : Nat) (s : State) : Host.Outcome State Fault Refusal :=
  s.written P.diag (s.wInject req (injectWord 1 rg))

/-- INJECT_TEST_ROW: KIND 2. -/
def execInjectTestRow (req : Requester) (rg : Nat) (s : State) : Host.Outcome State Fault Refusal :=
  s.written P.diag (s.wInject req (injectWord 2 rg))

/-- INJECT_REG_COMPLEMENT: KIND 3. -/
def execInjectRegComplement (req : Requester) (s : State) : Host.Outcome State Fault Refusal :=
  s.written P.diag (s.wInject req (injectWord 3 0))

/-- INJECT_DONE. -/
def execInjectDone (s : State) : Host.Outcome State Fault Refusal :=
  let t : State := { s with diag := { s.diag with inject := none } }
  when s.diag.inject.isSome s
    (((t.setRbit P.diag R.DIAG_STAT 1 false).setRbit P.diag R.DIAG_STAT 2 s.diag.injOk).event P.diag 6)

/-! ### Reads that free a latch (R520) -/

/-- Read a latch, which the read clears (RC, R16). -/
def State.readLatch (s : State) (w : Nat) : State := (s.answer (s.reg P.diag w)).setReg P.diag w 0

/-- UE_INFO_READ. -/
def execUeInfoRead (_req : Requester) (s : State) : Host.Outcome State Fault Refusal := .next (s.readLatch R.DIAG_UE_INFO)
/-- REGF_PAGE_READ. -/
def execRegfPageRead (_req : Requester) (s : State) : Host.Outcome State Fault Refusal := .next (s.readLatch R.DIAG_REGF_PAGE)
/-- LINK_READ. -/
def execLinkRead (_req : Requester) (s : State) : Host.Outcome State Fault Refusal := .next (s.readLatch R.DIAG_LINK)

end Sys2Proof.Machine
end

