-- ==== Sys2Proof/Machine/Debug.lean ====
section
/-! DEFINITION. Gate tables reached by selection (R326, R327, R332, R333) and the debug page's halt, resume and lifecycle
registers (R330, R331, R334). -/
namespace Sys2Proof.Machine

/-! ### The granule table of a cluster gate (R327, R332) -/

/-- A selection register advances after an access while its AUTOINC bit is 1: bits `hi`:0, `last` followed by 0. -/
def State.selNext (s : State) (p w hi last : Nat) : State :=
  if s.rbit p w 17 then
    let n := s.rfld p w hi 0
    s.setRfld p w hi 0 (if n = last then 0 else n + 1)
  else s

/-- GCOL_SEL after an access. DEDUCED, log entry 59. -/
def State.gcolNext (s : State) (n : Nat) : State := s.selNext (P.cgate n) R.CGATE_GCOL_SEL 10 1364

/-- A read of GCOL_DATA. DEDUCED, log entry 59. -/
def State.rGcol (s : State) (n : Nat) : State × Word := (s.gcolNext n, s.gcolShown n)

/-- Store a granule's colour. DEDUCED, log entry 59. -/
def State.setGcol (s : State) (n g c : Nat) : State :=
  { s with gates := { s.gates with gcol := Map.put gcolReset s.gates.gcol (2048 * n + g) c } }

/-- Clears of a granule that are due or running. -/
def State.clearingOf (s : State) (n g : Nat) : Bool := s.gates.clearing.any (fun x => x.1 == n && x.2.1 == g)

/-- A granule is written a colour (R327): leaving colour 15, it is cleared first. -/
def State.colour (s : State) (n g c : Nat) : State :=
  let s := s.mend (granKey n g)
  if s.clearingOf n g then
    let l := s.gates.clearing.map (fun x => if x.1 = n ∧ x.2.1 = g then (n, g, c) else x)
    { s with gates := { s.gates with clearing := l } }
  else if s.gcol n g = 15 ∧ c ≠ 15 then { s with gates := { s.gates with clearing := s.gates.clearing ++ [(n, g, c)] } }
  else s.setGcol n g c

/-- A write of GCOL_DATA takes effect: granules from 1,212 on are fixed. DEDUCED, log entry 59.
DESIGN CHOICE, log entry 92. -/
def State.wGcol (s : State) (req : Requester) (n : Nat) (val : Word) : State :=
  let g := s.gcolSel n
  let t := if g < 1212 then s.colour n g (bits val 3 0)
    else if g < 1365 then s.pgErr (P.cgate n) 0 req R.CGATE_GCOL_DATA
    else s
  t.gcolNext n

/-- Answer a read. -/
def State.answered (r : State × Word) : State := r.1.answer r.2

/-- GCOL_DATA_ACCESS (R327, R332). -/
def execGcolDataAccess (req : Requester) (n : Nat) (wr : Option Word) (s : State) : Host.Outcome State Fault Refusal :=
  match wr with
  | none => .next (s.readLive (P.cgate n) R.CGATE_GCOL_DATA (State.answered (s.rGcol n)))
  | some v => s.written (P.cgate n) (s.ifUnlocked req (P.cgate n) R.CGATE_GCOL_DATA (s.wGcol req n v))

/-- GRANULE_CLEAR (R327): the oldest clear of a cluster ends, after the commands already checked that cover the granule:
zero, then the new colour. -/
def execGranuleClear (n : Nat) (s : State) : Host.Outcome State Fault Refusal :=
  match s.gates.clearing.find? (fun x => x.1 == n) with
  | none => .next s
  | some (_, g, c) =>
    let t := s.clearWords (sramBase n + 1024 * g) 1024
    let t : State := { t with gates := { t.gates with clearing := t.gates.clearing.erase (n, g, c) } }
    when (!s.commandOn n g) s ((t.setGcol n g c).event (P.cgate n) 1)

/-! ### The rule table of the GATE page (R333) -/

/-- RULE_SEL after an access. -/
def State.ruleNext (s : State) : State := s.selNext P.gate R.GATE_RULE_SEL 6 127

/-- A read of RULE_DATA. -/
def State.rRule (s : State) : State × Word := (s.ruleNext, s.ruleShown)

/-- The bits of a rule word that are not reserved (Table 11-4). -/
def ruleMask : Word := 0o417077

/-- A write of RULE_DATA takes effect. -/
def State.wRule (s : State) (val : Word) : State :=
  let t := s.mend (ruleKey s.ruleSel)
  let t : State := { t with gates := { t.gates with rules := Map.put (dflt 0) t.gates.rules s.ruleSel (val &&& ruleMask) } }
  t.ruleNext

/-- RULE_DATA_ACCESS (R320, R333). -/
def execRuleDataAccess (req : Requester) (wr : Option Word) (s : State) : Host.Outcome State Fault Refusal :=
  .next (match wr with
    | none => State.answered s.rRule
    | some v => if s.deaf P.gate then s else s.ifUnlocked req P.gate R.GATE_RULE_DATA (s.wRule v))

/-! ### Halt and resume (R330) -/

/-- A bit of a per-core register set of the debug page (R334). -/
def State.dbgBit (s : State) (w c : Nat) : Bool := s.rbit P.dbg (w + c / 16) (c % 16)

/-- Write such a bit. -/
def State.setDbgBit (s : State) (w c : Nat) (b : Bool) : State := s.setRbit P.dbg (w + c / 16) (c % 16) b

/-- A write of HALT_REQ word `k`: a bit written 0 cancels its deferred halt. -/
def State.wHaltReq (s : State) (k : Nat) (val : Word) : State :=
  if s.dbgOpen then
    (s.setReg P.dbg (R.DBG_HALT_REQ + k) (val &&& 0o177777)).modReg P.dbg (R.DBG_DEFERRED + k) (fun v => v &&& val)
  else s

/-- HALT_REQ_WRITE (R330). -/
def execHaltReqWrite (_req : Requester) (k : Nat) (val : Word) (s : State) : Host.Outcome State Fault Refusal :=
  s.written P.dbg (s.wHaltReq k val)

/-- A halted core runs on. DEDUCED, log entry 60. -/
def State.resumeCore (s : State) (c : Nat) : State :=
  if (s.core c).halted then (s.modCore c (fun x => { x with halted := false })).setDbgBit R.DBG_HALT_REQ c false else s

/-- A write of RESUME word `k`. DEDUCED, log entry 60. -/
def State.wResume (s : State) (k : Nat) (val : Word) : State :=
  if s.dbgOpen then s.each ((named val 16).map (fun j => 16 * k + j)) State.resumeCore else s

/-- RESUME_WRITE (R330). -/
def execResumeWrite (_req : Requester) (k : Nat) (val : Word) (s : State) : Host.Outcome State Fault Refusal :=
  s.written P.dbg (s.wResume k val)

/-! ### The lifecycle (R331) -/

/-- The entry to SEALED: halted cores resume; halt requests, BREAK arms and the debug key clear. -/
def State.seal (s : State) : State :=
  let s := s.each (List.range 64) (fun t c => t.modCore c (fun x => { x with halted := false }))
  let s := s.each (List.range 4) (fun t k => ((t.setReg P.dbg (R.DBG_HALT_REQ + k) 0).setReg P.dbg (R.DBG_BRK_ARM + k) 0).setReg
    P.dbg (R.DBG_DEFERRED + k) 0)
  s.setReg P.dbg R.DBG_KEY 0

/-- A write of LIFE_ADV takes effect and its fuse verifies. DEDUCED, log entry 60. -/
def State.wLifeAdv (s : State) (req : Requester) (val : Word) : State :=
  if !s.dbgOpen then s
  else if bits val 17 9 = 0o525 ∧ bits val 1 0 = s.life + 1 then
    let t := s.setRfld P.dbg R.DBG_LIFE 1 0 (s.life + 1)
    (if s.life = 1 then t.seal else t).event P.dbg 2
  else s.pgErr P.dbg 1 req R.DBG_LIFE_ADV

/-- LIFE_ADV (R331). -/
def execLifeAdv (req : Requester) (val : Word) (s : State) : Host.Outcome State Fault Refusal := s.written P.dbg (s.wLifeAdv req val)

end Sys2Proof.Machine
end

