-- ==== Sys2Proof/Machine/Ceremony.lean ====
section
/-! DEFINITION. Custodian ceremonies (R163 to R165, R129, R132, R143, R370, R441, R443, R502). -/
namespace Sys2Proof.Machine

/-! ### Causes (Table 4-19) -/

abbrev CER.timeout : Nat := 1
abbrev CER.badFunc : Nat := 2
abbrev CER.state : Nat := 3
abbrev CER.sig : Nat := 4
abbrev CER.protocol : Nat := 5
abbrev CER.slot : Nat := 7
abbrev CER.param : Nat := 8

/-! ### START and CANCEL (R164, R165) -/

/-- A START that is not allowed: FAILED with its cause. -/
def State.cerRefuse (s : State) (func cause : Nat) : State :=
  let s := (s.setReg P.peat R.PEAT_CER_STAT (wd (cause * 256 + 4))).event P.peat 1
  if func = 2 then s.event P.tamp1 1 else s

/-- The states of the master key in which a function is allowed (Table 4-18). -/
def cerAllowed (func hmk : Nat) : Bool :=
  match func with
  | 0 => hmk == 0 || hmk == 2
  | 4 => hmk == 1 || hmk == 2
  | _ => hmk == 1

/-- M and N of a parameter word are in range (Table 4-18). -/
def quorumOk (w : Word) : Bool := decide (1 ≤ bits w 7 4) && decide (bits w 7 4 ≤ bits w 3 0) && decide (bits w 3 0 ≤ 8)

/-- The staged parameters of a function (Table 4-22). DEDUCED, log entry 36. -/
def State.cerParams (s : State) (func : Nat) : List Octet :=
  let p := beOctets 3 (s.reg P.peat R.PEAT_CER_PARAM).toNat
  match func with
  | 0 | 5 => p
  | 1 => p ++ beOctets 3 (s.reg P.peat R.PEAT_CER_ATTR0).toNat
  | 2 => (List.range 128).flatMap (fun i => beOctets 2 (s.stagedSet i).toNat)
  | _ => []

/-- The ceremony enters COLLECTING with a new nonce of 36 random bits. -/
def State.cerOpen (s : State) (func : Nat) : State :=
  let (o, s) := s.drawFrom custodyInst 5
  let nonce : BitVec 40 := (BitVec.ofNat 36 (beNat o)).setWidth 40
  let cer : Ceremony := ⟨func, s.cerParams func, [], [], 0, false, nonce, s.clock.sys, []⟩
  let s : State := { s with cust := { s.cust with cer := cer } }
  (s.setReg P.peat R.PEAT_CER_STAT 1).setReg36 P.peat R.PEAT_CER_NONCE (nonce.setWidth 36)

/-- The cause of a ceremony that a silent DRBG ends: one of those Table 4-19 reports, which one is free.
DEDUCED, log entry 36. -/
def State.cerSilent (s : State) : Nat := 1 + (Config.freeWord s.fresh).toNat % 8

/-- A write of START takes effect (R165). DEDUCED, log entry 36. -/
def State.cerStart (s : State) (req : Requester) (func : Nat) : State :=
  if s.cerRuns then s.pgErr P.peat 1 req R.PEAT_CER_CTRL
  else if 6 ≤ func then s.cerRefuse func CER.badFunc
  else if !cerAllowed func (s.rfld P.hmk R.HMK_STAT 1 0) then s.cerRefuse func CER.state
  else if (func = 0 ∨ func = 5) ∧ quorumOk (s.reg P.peat R.PEAT_CER_PARAM) = false then s.cerRefuse func CER.param
  else if !s.rngOk custodyInst then ({ s with fresh := s.fresh + 1 } : State).cerRefuse func s.cerSilent
  else s.cerOpen func

/-- A write of CANCEL takes effect. DEDUCED, log entry 36. -/
def State.cerCancel (s : State) : State := s.cerFail cerCancelled

/-- CER_COMMISSION. -/
def execCerCommission (req : Requester) (s : State) : Host.Outcome State Fault Refusal := s.written P.peat (s.cerStart req 0)
/-- CER_ENROL_DOMAIN. -/
def execCerEnrolDomain (req : Requester) (s : State) : Host.Outcome State Fault Refusal := s.written P.peat (s.cerStart req 1)
/-- CER_SET_TAMPER. -/
def execCerSetTamper (req : Requester) (s : State) : Host.Outcome State Fault Refusal := s.written P.peat (s.cerStart req 2)
/-- CER_LEAVE_GB. -/
def execCerLeaveGb (req : Requester) (s : State) : Host.Outcome State Fault Refusal := s.written P.peat (s.cerStart req 3)
/-- CER_RETIRE. -/
def execCerRetire (req : Requester) (s : State) : Host.Outcome State Fault Refusal := s.written P.peat (s.cerStart req 4)
/-- CER_CUSTODIANS. -/
def execCerCustodians (req : Requester) (s : State) : Host.Outcome State Fault Refusal := s.written P.peat (s.cerStart req 5)
/-- CER_CANCEL. -/
def execCerCancel (_req : Requester) (s : State) : Host.Outcome State Fault Refusal := s.written P.peat s.cerCancel

/-- CEREMONY_TIMEOUT (R165): 600 s of system time after START. -/
def execCeremonyTimeout (s : State) : Host.Outcome State Fault Refusal :=
  when (s.cerRuns && decide (s.cust.cer.startSys.toNat + 600000000000 ≤ s.clock.sys.toNat)) s (s.cerFail CER.timeout)

/-! ### Effects (Table 4-18) -/

/-- A function completes. -/
def State.cerDone (s : State) : State := (s.setRfld P.peat R.PEAT_CER_STAT 2 0 3).event P.peat 0

/-- ATTR0 of an enrolment digest: ALG 11, VERIFY, PERSIST (R137, R143). DEDUCED, log entry 36. -/
def digestAttr : Word := wd (11 * 2 ^ 14 + 2 ^ 6 + 1)

/-- A slot is written by a ceremony; where it is or was persistent its record is programmed and committed (R144). -/
def State.ceremonySlot (s : State) (n : Nat) (v : Slot) : State :=
  let old := s.slot n
  let s : State := { s with cust := { s.cust with slots := Map.put (dflt ⟨0, 0, 0⟩) s.cust.slots n v } }
  if tb v.attr0 0 || tb old.attr0 0 then (s.record (some n) v).markRec (some n) v else s

/-- A slot at GEN 511 takes no key and retires (R139). -/
def State.ceremonyRetire (s : State) (n : Nat) : State :=
  if (s.slot n).gen = 511 then s.ceremonySlot n { s.slot n with attr1 := putBits (s.slot n).attr1 8 7 2 } else s

/-- The custodian slots that the cards enrolled will fill. -/
def State.custodianTargets (s : State) : List Nat :=
  (List.range s.cust.cer.enrolled.length).map (fun i => custodianFirst + i)

/-- The custodian slots hold the digests enrolled, and QUORUM the new M and N (R143). -/
def State.enrolled (s : State) (l : List (BitVec 256)) : State :=
  let s := s.each (List.range 8) (fun t i =>
    let gen := (t.slot (custodianFirst + i)).gen
    t.ceremonySlot (custodianFirst + i) (match l[i]? with
      | some d => ⟨d, digestAttr, wd ((gen + 1) * 512 + 128)⟩
      | none => ⟨0, 0, wd (gen * 512)⟩))
  let m := wd ((s.reg P.peat R.PEAT_CER_PARAM).toNat % 256)
  ((s.record none ⟨0, m, 0⟩).markRec none ⟨0, m, 0⟩).setReg P.peat R.PEAT_QUORUM m

/-- The custodian slots can be filled: none of them is at GEN 511, and the journal takes records. DEDUCED, log entry 36. -/
def State.canEnrol (s : State) : Bool := !s.journalFull && s.custodianTargets.all (fun n => decide ((s.slot n).gen ≠ 511))

/-- COMMISSION (R129, R130, R132): in ZEROED the journal is erased first; a reseed, then 256 bits from the custody DRBG.
DEDUCED, log entry 36. -/
def State.commission (s : State) : State :=
  let s := if s.rfld P.hmk R.HMK_STAT 1 0 = 2 then s.eraseJournal.setRbit P.tamp0 R.TAMP0_PENDING 17 false else s
  let s := (s.seed custodyInst).inc36 P.rng R.RNG_RESEEDS
  let (o, s) := s.drawFrom custodyInst 32
  let s : State := { s with cust := { s.cust with hmk := BitVec.ofNat 256 (beNat o) } }
  let s := s.enrolled s.cust.cer.enrolled
  let s := (s.setHmk 1).showRoot
  let s : State := { s with wisp := { s.wisp with fprint := BitVec.ofNat 72 (beNat s.fingerprint) } }
  s.custodyUp.cerDone

/-- Custodian slots at GEN 511 retire, and the ceremony fails with cause SLOT (R139, Table 4-19). DEDUCED, log entry 36. -/
def State.enrolRefused (s : State) : State := (s.each s.custodianTargets State.ceremonyRetire).cerFail CER.slot

/-- ENROL_DOMAIN (R137, R139): the XOR of the components fills the target slot; an empty one at GEN 511 retires.
DEDUCED, log entry 36. -/
def State.enrolDomain (s : State) : State :=
  let n := (s.reg P.peat R.PEAT_CER_PARAM).toNat
  let a := s.reg P.peat R.PEAT_CER_ATTR0
  let v := s.slot n
  if custodianFirst ≤ n ∨ v.state ≠ 0 ∨ attrOk a = false ∨ s.slotPending 0 n ∨
      (tb a 0 = true ∧ (s.journalFull ∨ s.cust.compacting)) then s.cerFail CER.slot
  else if v.gen = 511 then (s.ceremonyRetire n).cerFail CER.slot
  else
    let w : Slot := ⟨keyBits a (beOctets 32 s.cust.cer.comp.toNat), a, s.liveAttr1 a (v.gen + 1)⟩
    let t := s.ceremonySlot n w
    (if tb w.attr1 6 then t.setGbCache (t.cust.gbCache ++ [n]) else t).cerDone

/-- LEAVE_GB (R20, R502). DEDUCED, log entry 36. -/
def State.leaveGb (s : State) : State :=
  (if s.gbMode then ((s.setRbit P.dev R.DEV_STAT 2 true).gbForce).event P.dev 3 else s).cerDone

/-- RETIRE (R441): every zeroisation, the fuse, then the device reset and its hold. DEDUCED, log entry 36. -/
def State.cerRetired (s : State) : State :=
  let t := ((s.each zeroBits State.zeroise).retireFuse).cerDone.packageReset .tamper
  { t with boot := { t.boot with tamper := true } }

/-- EXECUTING: the function runs. DEDUCED, log entry 36. -/
def State.cerExecute (s : State) : State :=
  let s := s.setRfld P.peat R.PEAT_CER_STAT 2 0 2
  match s.cust.cer.func with
  | 0 =>
    if !s.rngOk custodyInst then ({ s with fresh := s.fresh + 1 } : State).cerFail s.cerSilent
    else if s.rfld P.hmk R.HMK_STAT 1 0 = 2 ∨ s.canEnrol then s.commission else s.enrolRefused
  | 1 => s.enrolDomain
  | 2 => s.applySets.cerDone
  | 3 => s.leaveGb
  | 4 => s.cerRetired
  | _ => if s.canEnrol then (s.enrolled s.cust.cer.enrolled).cerDone else s.enrolRefused

/-! ### Cards (R163, R165, R370) -/

/-- The challenge digest (R163). DEDUCED, log entry 36. -/
def State.challenge (s : State) : List Octet :=
  sha256 (s.fingerprint ++ beOctets 5 s.cust.cer.nonce.toNat ++ [BitVec.ofNat 8 s.cust.cer.func] ++ sha256 s.cust.cer.params)

/-- The digest of a card's public key (R163). -/
def cardDigest (pubkey : List Octet) : BitVec 256 := BitVec.ofNat 256 (beNat (sha3_256 pubkey))

/-- A digest is enrolled: some custodian slot holds it (R143). -/
def State.isCustodian (s : State) (d : BitVec 256) : Bool :=
  (List.range 8).any (fun i => let v := s.slot (custodianFirst + i); v.state == 1 && v.key == d)

/-- M of QUORUM. -/
def State.quorumM (s : State) : Nat := s.rfld P.peat R.PEAT_QUORUM 7 4

/-- New cards are being enrolled: COMMISSION, and CUSTODIANS after its approvals. -/
def State.enrolling (s : State) : Bool := s.cust.cer.func == 0 || s.cust.cer.enrolling

/-- The signature of step 3 verifies under the key of step 2 (R163). -/
def State.cardSig (s : State) (pubkey sig : List Octet) : Bool :=
  match p256.parse pubkey with
  | some (x, y) => p256.verify x y s.challenge (beNat (sig.take 32)) (beNat (sig.drop 32))
  | none => false

/-- The component a card delivers in step 4, unmasked; none where its CMAC fails. `d` is the device's ephemeral scalar. -/
def openComponent (d : Nat) (pubkey comp : List Octet) : Option (BitVec 256) :=
  match p256.parse pubkey with
  | none => none
  | some q =>
    let z := beOctets 32 (xOf (p256.mul d (some q)))
    let k := kdfHmac 1 z (kdfInput (ascii "COMPONENT") [] 48) 48
    if cmac (k.drop 32) (comp.take 32) = comp.drop 32 then some (BitVec.ofNat 256 (beNat (xorO (comp.take 32) k))) else none

/-- Cards counted, shown in CER_STAT. -/
def State.cerCount (s : State) (n : Nat) : State := s.setRfld P.peat R.PEAT_CER_STAT 6 3 n

/-- Another card is needed (Table 4-17). -/
def State.cardNeeded (s : State) : State := s.event P.peat 2

/-- A card is enrolled; the N-th completes the set. -/
def State.enrolCard (s : State) (d : BitVec 256) : State :=
  let l := s.cust.cer.enrolled ++ [d]
  let s : State := { s with cust := { s.cust with cer := { s.cust.cer with enrolled := l } } }
  let s := s.cerCount l.length
  if s.rfld P.peat R.PEAT_CER_PARAM 3 0 ≤ l.length then s.cerExecute else s.cardNeeded

/-- A card is counted; the M-th completes the approvals (R165). -/
def State.countCard (s : State) (d : BitVec 256) (comp : BitVec 256) : State :=
  let l := s.cust.cer.counted ++ [d]
  let s : State := { s with cust := { s.cust with cer := { s.cust.cer with counted := l, comp := s.cust.cer.comp ^^^ comp } } }
  let s := s.cerCount l.length
  if l.length < s.quorumM then s.cardNeeded
  else if s.cust.cer.func = 5 then
    (({ s with cust := { s.cust with cer := { s.cust.cer with enrolling := true } } } : State).cerCount 0).cardNeeded
  else s.cerExecute

/-! #### The commands of Table 4-16. DEDUCED, log entry 36. -/

/-- Step 1: select the custodian application. -/
def selectApdu : List Octet := [0x00, 0xA4, 0x04, 0x00, 0x09, 0xF0, 0x59, 0x46, 0x54, 0x43, 0x55, 0x53, 0x54, 0x01]
/-- Step 2: identify the custodian. -/
def identifyApdu : List Octet := [0x80, 0xCA, 0x00, 0x00, 0x00, 0x41]
/-- Step 3: approve the challenge digest. -/
def approveApdu (digest : List Octet) : List Octet := [0x80, 0x2A, 0x00, 0x00, 0x20] ++ digest ++ [0x40]
/-- Step 4: deliver a component to the device's ephemeral public key. -/
def componentApdu (pub : List Octet) : List Octet := [0x80, 0xCC, 0x00, 0x00, 0x41] ++ pub ++ [0x30]

/-- A point uncompressed. -/
def Curve.octets (c : Curve) (q : Point) : List Octet :=
  match q with
  | some (x, y) => 4 :: (beOctets c.len x ++ beOctets c.len y)
  | none => []

/-- The ephemeral scalar that 32 random octets give: 1 to n − 1. -/
def ephemeral (o : List Octet) : Nat := 1 + beNat o % (p256.n - 1)

/-- A card presented counts: not yet enrolled in this set, or an enrolled custodian's not yet counted (R165). -/
def State.cardCounts (s : State) (d : BitVec 256) : Bool :=
  if s.enrolling then !s.cust.cer.enrolled.contains d else s.isCustodian d && !s.cust.cer.counted.contains d

/-- The APDUs a card is sent where it answers every one: two where its key is refused after step 2, four in ENROL_DOMAIN once
its signature verifies (Table 4-16). -/
def State.cardSteps (s : State) (pubkey sig : List Octet) : Nat :=
  if !s.cardCounts (cardDigest pubkey) then 2
  else if !s.enrolling && s.cust.cer.func == 1 && s.cardSig pubkey sig then 4 else 3

/-- The station's registers after a card: the exchanges sent, DEACT_DONE; its ATR, held packed (R5), and the parameters agreed
are free values. DEDUCED, log entry 36. -/
def State.cardStation (s : State) (n : Nat) (apdus : List (List Octet)) : State :=
  let f (i : Nat) : Word := Config.freeWord (s.fresh + i)
  let p := P.cst n
  let len := 2 + (f 2).toNat % 32
  let atr := packWords (freeOctets (s.fresh + 3) len)
  let s : State := { s with cust := { s.cust with cer := { s.cust.cer with sent := apdus } } }
  let s := s.add36 p R.CST_EXCHANGES apdus.length
  let s := (s.setReg p R.CST_PARAM (f 0 &&& 0o377777)).setReg p R.CST_T1STAT (f 1 &&& 0o3777)
  let s := (s.setReg p R.CST_ATRLEN (wd len)).each (List.range 17) (fun t i => t.setReg p (R.CST_ATR + i) (atr.getD i 0))
  ({ s with fresh := s.fresh + 36 } : State).event p 3

/-- What a card that answered every command it was sent does: refused cards ask for another one, a bad signature or component
ends the ceremony, other cards are counted. `o`: the octets of the ephemeral scalar. DEDUCED, log entry 36. -/
def State.cardAnswer (s : State) (pubkey sig comp o : List Octet) : State :=
  let d := cardDigest pubkey
  if !s.cardCounts d then s.cardNeeded
  else if !s.cardSig pubkey sig then s.cerFail CER.sig
  else if s.enrolling then s.enrolCard d
  else if s.cust.cer.func = 1 then
    match openComponent (ephemeral o) pubkey comp with
    | some c => s.countCard d c
    | none => s.cerFail CER.sig
  else s.countCard d 0

/-- A card goes through the commands of Table 4-16, `n` of them begun, and is deactivated. One that fails or is removed before it
is identified asks for another card; one identified as a custodian's ends the ceremony (R165, Table 4-17).
DEDUCED, log entry 36. -/
def State.cardRun (s : State) (stn n : Nat) (pubkey sig comp : List Octet) (whole : Bool) : State :=
  let (o, s) := if n = 4 then s.drawFrom custodyInst 32 else ([], s)
  let apdus := [selectApdu, identifyApdu, approveApdu s.challenge, componentApdu (p256.octets (p256.mul (ephemeral o) p256.g))]
  let s := s.cardStation stn (apdus.take n)
  if whole then s.cardAnswer pubkey sig comp o
  else if n ≤ 2 then s.cardNeeded
  else s.cerFail CER.protocol

/-- CUSTODIAN_CARD_PROCESS (R163): a card presented in a custodian slot runs through the commands; `fail` is the number of
APDUs begun when a command failed or the card was removed, none where every command was answered. The ephemeral key of step 4
needs the custody DRBG (R135). -/
def execCustodianCardProcess (stn : Nat) (pubkey sig comp : List Octet) (fail : Option Nat) (s : State) :
    Host.Outcome State Fault Refusal :=
  let p := P.cst stn
  let steps := s.cardSteps pubkey sig
  let n := match fail with | some i => min i steps | none => steps
  when (s.cerState == 1 && s.rbit P.peat R.PEAT_CUST_STN stn && s.ready p && s.rbit p R.CST_STAT 3 &&
      s.rfld p R.CST_STAT 2 0 == 0) s
    (if n = 4 ∧ s.rngOk custodyInst = false then ({ s with fresh := s.fresh + 1 } : State).cerFail s.cerSilent
    else s.cardRun stn n pubkey sig comp fail.isNone)

end Sys2Proof.Machine
end

