-- ==== Sys2Proof/Machine/Bus.lean ====
section
/-! DEFINITION. The register bus as commands meet it: reads with their side effects (R13, R16, R17), writes as they are
accepted, posted and take effect (R12, R13, R35 to R38, R46), and what a write of each block's words does. -/
namespace Sys2Proof.Machine

/-- The state of an outcome that is a next state. -/
def State.after (s : State) (o : Host.Outcome State Fault Refusal) : State := match o with | .next t => t | _ => s

/-- The register page slot's word address (Table 1-15). -/
def pageAddr (p w : Nat) : Nat := 0o001000000000 + 1024 * p + w

/-- The part of a slot in a 36-bit register (R13). -/
def halfOf (p w : Nat) : Half :=
  match blockOf p with
  | some (b, _) => (match descOf b w with | some r => r.half | none => .one)
  | none => .one

/-! ### Reads with side effects -/

/-- Read and clear (RC). -/
def State.readClear (s : State) (p w : Nat) : State × Word := (s.setReg p w 0, s.peek p w)

/-- A read of EVT0.ROUTE_DATA advances ROUTE_SEL under AUTOINC (R52). -/
def State.routeNext (s : State) : State :=
  if s.rbit P.evt0 R.EVT0_EVT_CTRL 0 then s.setRfld P.evt0 R.EVT0_ROUTE_SEL 11 0 (s.rfld P.evt0 R.EVT0_ROUTE_SEL 11 0 + 1) else s

/-- A read of SYSTIME word `i` (R124): word 0 latches, the others show what the requester latched. -/
def State.readSystime (s : State) (req : Requester) (i : Nat) : State × Word :=
  let other := s.clock.latched.filter (fun x => x.1 != req)
  if i = 0 then
    ({ s with clock := { s.clock with latched := other ++ [(req, s.clock.sys)] } }, wd s.clock.sys.toNat)
  else match s.clock.latched.find? (fun x => x.1 == req) with
    | some (_, v) => (s, wd (v.toNat / 2 ^ (18 * i)))
    | none => (s, wd (s.clock.sys.toNat / 2 ^ (18 * i)))

/-- A read of a draw register (R284): only a core of the cluster draws; a stopped DRBG gives zero. -/
def State.readRand (s : State) (req : Requester) (n w : Nat) : State × Word :=
  match req with
  | .core c =>
    if c / 4 ≠ n then (s.pgErr (P.clu n) ERR.gate req w, 0)
    else if s.rngOk (n / 4) then (let (o, t) := s.drawFrom (n / 4) 3; (t, wd (beNat o)))
    else (s, 0)
  | _ => (s.pgErr (P.clu n) ERR.gate req w, 0)

/-- A read of WISP.ENT0 (R457); whether the array port is held at that moment is free. -/
def State.readEnt0 (s : State) (req : Requester) : State × Word :=
  let t := s.after (execEnt0Read req (tb (Config.freeWord s.fresh) 0) { s with fresh := s.fresh + 1 })
  ({ t with bus := { t.bus with rdata := s.bus.rdata } }, t.bus.rdata.setWidth 18)

/-- A read of WISP.RTC0 latches all three words (R462). -/
def State.readRtc0 (s : State) : State × Word :=
  let t := s.after (execRtc0Read .host s)
  ({ t with bus := { t.bus with rdata := s.bus.rdata } }, t.bus.rdata.setWidth 18)

/-- A read of RESP_STAGE advances RESP_SEL under AUTOINC (R460). -/
def State.readStage (s : State) : State × Word :=
  let t := s.after (execRespStageAccess .host none s)
  ({ t with bus := { t.bus with rdata := s.bus.rdata } }, t.bus.rdata.setWidth 18)

/-- A read of a word of a live page, past its gate, without the halves of R13. -/
def State.readBlock (s : State) (r : Who) (p w : Nat) : State × Word :=
  match blockOf p with
  | none => (s, 0)
  | some (b, i) =>
    match b with
    | .evt0 => if w = R.EVT0_ROUTE_DATA then (s.routeNext, s.peek p w) else if w = R.EVT0_LOST_SRC then s.readClear p w else (s, s.peek p w)
    | .dnlx =>
      if w = R.DNLX_ROUTE_DATA then s.rNetRoute
      else if R.DNLX_SYSTIME ≤ w ∧ w < R.DNLX_SYSTIME + 4 then s.readSystime r.req (w - R.DNLX_SYSTIME) else (s, s.peek p w)
    | .dig => if R.DIG_RESULT ≤ w ∧ w < R.DIG_RESULT + 32 then s.readResult r.req i (w - R.DIG_RESULT) else (s, s.peek p w)
    | .bn => if w = R.BN_REFUSE then s.readRefuse r i else (s, s.peek p w)
    | .kz => if w = R.KZ_VFAIL then s.readClear p w else (s, s.peek p w)
    | .clu => if R.CLU_RAND ≤ w ∧ w < R.CLU_RAND + 16 then s.readRand r.req i w else (s, s.peek p w)
    | .cgate => if w = R.CGATE_GCOL_DATA then s.rGcol i else (s, s.peek p w)
    | .gate => if w = R.GATE_RULE_DATA then s.rRule else (s, s.peek p w)
    | .sluice =>
      if w = R.SLUICE_RQ_CLASS then s.rRqClass else if w = R.SLUICE_MON_MAXWAIT then s.readClear p w else (s, s.peek p w)
    | .tamp1 => if w = R.TAMP1_RESP_STAGE then s.readStage else (s, s.peek p w)
    | .moss => if w = R.MOSS_LAST_FAIL then s.readClear p w else (s, s.peek p w)
    | .wisp => if w = R.WISP_ENT then s.readEnt0 r.req else if w = R.WISP_RTC then s.readRtc0 else (s, s.peek p w)
    | .rstc => if w = R.RSTC_CAUSE then s.readClear p w else (s, s.peek p w)
    | .diag =>
      if w = R.DIAG_UE_INFO ∨ w = R.DIAG_REGF_PAGE ∨ w = R.DIAG_LINK then s.readClear p w else (s, s.peek p w)
    | .dev | .pwr | .clk | .evt1 | .evt2 | .evt3 | .hmk | .tamp0 | .peat | .cred | .rng | .flash | .lode | .place | .dnl | .dbg
    | .wq | .ciph | .cst | .fst | .line | .midr => (s, s.peek p w)

/-- The upper half a requester has latched for a 36-bit register. DEDUCED, log entry 14. -/
def State.latchedHalf (s : State) (req : Requester) (k : Nat) : Option Word :=
  (s.bus.latched.find? (fun x => x.1 == req && x.2.1 == k)).map (fun x => x.2.2)

/-- Forget a latched half. DEDUCED, log entry 14. -/
def State.unlatch (s : State) (req : Requester) (k : Nat) : State :=
  { s with bus := { s.bus with latched := s.bus.latched.filter (fun x => !(x.1 == req && x.2.1 == k)) } }

/-- Latch the upper half of a 36-bit register as it reads now. DEDUCED, log entry 14. -/
def State.latchUpper (s : State) (req : Requester) (p w : Nat) : State :=
  let v := s.peek p (w + 1)
  let t := s.unlatch req (p * 1024 + w)
  { t with bus := { t.bus with latched := t.bus.latched ++ [(req, p * 1024 + w, v)] } }

/-- A read of a register word past its gate (R13, R16). DEDUCED, log entry 13. -/
def State.readReg (s : State) (r : Who) (p w : Nat) : State × Word :=
  if s.frozen p then (s, s.peek p w)
  else match halfOf p w with
    | .one => s.readBlock r p w
    | .lower => (s.latchUpper r.req p w, s.peek p w)
    | .upper => match s.latchedHalf r.req (p * 1024 + w - 1) with
      | some v => (s.unlatch r.req (p * 1024 + w - 1), v)
      | none => (s, s.peek p w)

/-- A read through the page gate (R328): a refused read returns zero. -/
def State.gatedRead (s : State) (req : Requester) (p w : Nat) : State × Word :=
  let r := s.whoOf req
  match s.checkAccess r (pageAddr p w) 1 .r with
  | .allowed => s.readReg r p w
  | .unassigned => (s, 0)
  | .refused at_ rsn => (s.recordRefusal r (pageAddr p w) at_ .r rsn, 0)

/-- A named read command: the gated read of one word, answered. -/
def State.readRow (s : State) (req : Requester) (p w : Nat) : Host.Outcome State Fault Refusal :=
  .next (State.answered (s.gatedRead req p w))

/-- Octets of a slot's doubleword, which a narrower read returns (R12). -/
def octetsOf (v : Word) (i n : Nat) : Word := wd (v.toNat / 2 ^ (8 * i) % 2 ^ (8 * n))

/-- An aligned 8-octet read of a 36-bit register through its gate: both halves in one step (R13). -/
def State.gatedBoth (s : State) (req : Requester) (p w : Nat) : State :=
  let r := s.whoOf req
  let say (t : State) (v : DWord) : State := { t with bus := { t.bus with rdata := v.setWidth 72 } }
  match s.checkAccess r (pageAddr p w) 1 .r with
  | .allowed => say s (s.peek36 p w)
  | .unassigned => say s 0
  | .refused at_ rsn => say (s.recordRefusal r (pageAddr p w) at_ .r rsn) 0

/-- The slots a word and its successor make one aligned 8-octet access of a 36-bit register (R12, R13). -/
def aligned8 (p w : Nat) : Bool := halfOf p w == .lower && decide (w % 2 = 0)

/-- A read of one slot of a 36-bit register in one of its forms (R12, R13). What an 8-octet read from another slot returns
is not given: a free value. DESIGN CHOICE, log entry 92. -/
def State.access (s : State) (req : Requester) (p w : Nat) (acc : Access) : State :=
  match acc with
  | .word => State.answered (s.gatedRead req p w)
  | .octets i n => let (t, v) := s.gatedRead req p w; t.answer (octetsOf v i n)
  | .both => if aligned8 p w then s.gatedBoth req p w else ({ s with fresh := s.fresh + 1 } : State).answer (Config.freeWord s.fresh)

/-- REG36_LOWER_READ (R12, R13): a read of the lower slot of a 36-bit register latches its upper half. -/
def execReg36LowerRead (req : Requester) (page word : Nat) (acc : Access) (s : State) : Host.Outcome State Fault Refusal :=
  when (halfOf page word == .lower) s (s.access req page word acc)

/-- REG36_UPPER_READ (R12, R13): the latched half, or the current one. -/
def execReg36UpperRead (req : Requester) (page word : Nat) (acc : Access) (s : State) : Host.Outcome State Fault Refusal :=
  when (halfOf page word == .upper) s (s.access req page word acc)

/-! ### Debug accesses (R329) -/

/-- Add a posted write: a page has room for 16, a further one stalls its writer with the writes behind it (R36, R37).
DEDUCED, log entry 12. -/
def State.enqueueWrite (s : State) (x : Posted) : State :=
  if (s.bus.posted.filter (fun y => y.page == x.page)).length < 16 && !s.bus.stalled.any (fun y => y.req == x.req) then
    { s with bus := { s.bus with posted := s.bus.posted ++ [x] } }
  else { s with bus := { s.bus with stalled := s.bus.stalled ++ [x] } }

/-- The lower half a requester has written and not committed. DEDUCED, log entry 14. -/
def State.heldHalf (s : State) (req : Requester) (k : Nat) : Option Word :=
  (s.bus.held.find? (fun x => x.1 == req && x.2.1 == k)).map (fun x => x.2.2)

/-- Forget a held half. DEDUCED, log entry 14. -/
def State.dropHalf (s : State) (req : Requester) (k : Nat) : State :=
  { s with bus := { s.bus with held := s.bus.held.filter (fun x => !(x.1 == req && x.2.1 == k)) } }

/-- Hold a lower half. DEDUCED, log entry 14. -/
def State.holdHalf (s : State) (req : Requester) (k : Nat) (v : Word) : State :=
  let t := s.dropHalf req k
  { t with bus := { t.bus with held := t.bus.held ++ [(req, k, v)] } }

/-- What a write of one slot leads to (R13): a half that is held, or a write on its way. DEDUCED, log entry 15. -/
def State.formWrite (s : State) (req : Requester) (p w : Nat) (v : Word) : State × Option Posted :=
  let u := !s.lockedPage p
  match halfOf p w with
  | .one => (s, some ⟨req, p, w, v.setWidth 36, false, u⟩)
  | .lower => (s.holdHalf req (p * 1024 + w) v, none)
  | .upper => match s.heldHalf req (p * 1024 + w - 1) with
    | some lo => (s.dropHalf req (p * 1024 + w - 1), some ⟨req, p, w - 1, dword lo v, true, u⟩)
    | none => (s, some ⟨req, p, w, v.setWidth 36, false, u⟩)

/-- PG_LOCK reads 1 from the moment its write is accepted (R46). -/
def State.lockNow (s : State) (w : Posted) : State :=
  if w.word = R.PG_LOCK ∧ tb w.val 0 = true then (s.setRbit w.page R.PG_LOCK 0 true).mend (w.page * 1024 + R.PG_LOCK) else s

/-- A word the debug requester reads, past its check. -/
def State.debugWord (s : State) (a : Nat) : State × Word :=
  match placeOf none a with
  | .page p w => s.readReg (s.whoOf .debug) p w
  | .flash i =>
    let f := Config.freeWord s.fresh
    ({ s with fresh := s.fresh + 1 } : State).flashRead .debug i (bits f 4 1) (tb f 0)
  | _ => (s, s.word a)

/-- A word the debug requester writes, past its check; a register write is posted. -/
def State.debugPut (s : State) (a : Nat) (v : Word) : State :=
  match placeOf none a with
  | .page p w =>
    if s.deaf p then s
    else match s.formWrite .debug p w v with
      | (t, some x) => (t.lockNow x).enqueueWrite x
      | (t, none) => t
  | .sram n off => if s.clearingOf n (off / 1024) then s else s.setWord a v
  | _ => s

/-- A refused debug access (R329). DEDUCED, log entry 60. -/
def State.debugDenied (s : State) (a : Nat) : State :=
  let s := if s.rbit P.dbg R.PG_ERR 0 then s else s.setReg36 P.dbg R.DBG_DENY_ADDR (BitVec.ofNat 36 a)
  (s.setReg P.dbg R.DBG_STAT 3).pgErr P.dbg 0 .debug R.DBG_CMD

/-- A debug read: the word, or 0o525252. DEDUCED, log entry 60. DESIGN CHOICE, log entry 90. -/
def State.debugRead (s : State) (a : Nat) : State × Word :=
  let r := s.whoOf .debug
  match s.checkAccess r a 1 .r with
  | .allowed => match s.rangesStruck r [(a, 1, .r)] with
    | some k => ({ (s.setReg P.dbg R.DBG_STAT 1).memUe k with fresh := s.fresh + 1 }, Config.freeWord s.fresh)
    | none => (s.setReg P.dbg R.DBG_STAT 1).debugWord a
  | .unassigned => (s.debugDenied a, 0o525252)
  | .refused at_ rsn => ((s.recordRefusal r a at_ .r rsn).debugDenied a, 0o525252)

/-- A debug write. DEDUCED, log entry 60. -/
def State.debugWrite (s : State) (a : Nat) (v : Word) : State :=
  let r := s.whoOf .debug
  match s.checkAccess r a 1 .w with
  | .allowed => (s.setReg P.dbg R.DBG_STAT 1).debugPut a v
  | .unassigned => s.debugDenied a
  | .refused at_ rsn => (s.recordRefusal r a at_ .w rsn).debugDenied a

/-- DBG.CMD READ. -/
def State.dbgRead (s : State) : State :=
  let (t, v) := s.debugRead (s.reg36 P.dbg R.DBG_ADDR).toNat
  t.setReg P.dbg R.DBG_DATA v

/-- DBG.CMD WRITE. -/
def State.dbgWrite (s : State) : State := s.debugWrite (s.reg36 P.dbg R.DBG_ADDR).toNat (s.reg P.dbg R.DBG_DATA)

/-- DBG_READ (R329, R334). -/
def execDbgRead (_req : Requester) (s : State) : Host.Outcome State Fault Refusal := when s.dbgOpen s s.dbgRead
/-- DBG_WRITE (R329, R334). -/
def execDbgWrite (_req : Requester) (s : State) : Host.Outcome State Fault Refusal := when s.dbgOpen s s.dbgWrite

/-- What the test access port's IDCODE instruction shifts out (R545): version, part, manufacturer. No row of the table
carries the port's instructions but DBGACC (DESIGN CHOICE, log entry 91). -/
def idCode : BitVec 32 := 0x144185B3

/-- The 64 bits that DBGACC shifts out (Table 11-8). -/
def accWord (cmd : Nat) (a : BitVec 36) (v : Word) (denied : Bool) : BitVec 72 :=
  BitVec.ofNat 72 (cmd * 2 ^ 62 + a.toNat * 2 ^ 26 + v.toNat * 2 ^ 8 + 1 + 2 * b2n denied)

/-- The test access port carries out DBGACC (Table 11-7). -/
def State.tapOpen (s : State) : Bool := decide (s.life = 0) || (decide (s.life = 1) && s.rbit P.dbg R.DBG_CTRL 0)

/-- DBGACC (R329, R331): 1 reads, 2 writes; the answer is the data register. -/
def execDbgacc (cmd : Nat) (addr : BitVec 36) (data : Word) (s : State) : Host.Outcome State Fault Refusal :=
  let say (t : State) (v : Word) : State :=
    { t with bus := { t.bus with rdata := accWord cmd addr v (s.checkAccess (s.whoOf .debug) addr.toNat 1 (if cmd = 1 then .r else .w) != .allowed) } }
  when s.tapOpen s
    (if cmd = 1 then (let (t, v) := s.debugRead addr.toNat; say t v)
    else if cmd = 2 then say (s.debugWrite addr.toNat data) data
    else { s with bus := { s.bus with rdata := BitVec.ofNat 72 (cmd * 2 ^ 62 + addr.toNat * 2 ^ 26 + data.toNat * 2 ^ 8) } })

/-! ### Writes as they take effect -/

/-- Store a configuration value: both copies are written (R515). -/
def State.store (s : State) (p w : Nat) (v : Word) : State := (s.setReg p w v).mend (p * 1024 + w)

/-- A write by the access type of a register (R16). -/
def State.plainWrite (s : State) (req : Requester) (p w : Nat) (v : Word) (unlocked : Bool) : State :=
  match blockOf p with
  | none => s
  | some (b, _) =>
    match descOf b w with
    | none => s
    | some r =>
      let m := wd r.mask
      let old := s.reg p w
      match r.acc with
      | .rw => s.store p w ((old &&& ~~~m) ||| (v &&& m))
      | .rwl => if unlocked then s.store p w ((old &&& ~~~m) ||| (v &&& m)) else s.pgErr p ERR.lock req w
      | .w1c => s.setReg p w (old &&& ~~~(v &&& m))
      | .w1s => s.setReg p w (old ||| (v &&& m))
      | .ro | .wo | .rc => s

/-- The page's function is enabled or stops: its configuration is not writable. DEDUCED, log entry 86. -/
def State.busyPage (s : State) (p : Nat) : Bool := s.en p || s.stat p ST.stopping

/-- A CFG write that a running function refuses with CFG_BUSY. DEDUCED, log entry 86. -/
def State.cfgWrite (s : State) (req : Requester) (p w : Nat) (v : Word) : State :=
  if s.busyPage p then s.pgErr p 0 req w else s.plainWrite req p w v true

/-- A write of PG_CTRL, read as one command (R42). DEDUCED, log entry 16. -/
def State.wCtrl (s : State) (req : Requester) (p : Nat) (v : Word) : State :=
  if tb v 2 then s.after (execSreset req p s)
  else if tb v 1 then s.after (execStop req p s)
  else if tb v 0 then s.after (execEnWrite1 req p s)
  else s.after (execEnWrite0 req p s)

/-- A write of the page header. -/
def State.wHeader (s : State) (req : Requester) (p w : Nat) (v : Word) (unlocked : Bool) : State :=
  if w = R.PG_CTRL then s.wCtrl req p v
  else if w = R.PG_EVT_EN then (s.setReg p w (v &&& 0o377)).raising p (s.pend p)
  else if w = R.PG_LOCK then (if tb v 0 then (s.setRbit p w 0 true).mend (p * 1024 + w) else s)
  else s.plainWrite req p w v unlocked

/-- A write of WQn.CFG (R19, R93): GB is set only in GB mode. -/
def State.wWqCfg (s : State) (req : Requester) (p : Nat) (v : Word) : State :=
  if s.busyPage p then s.pgErr p 0 req R.WQ_CFG
  else
    let gb := if tb v 17 then s.gbMode || s.rbit p R.WQ_CFG 17 else false
    s.store p R.WQ_CFG (sb (v &&& 0o760037) 17 gb)

/-- A write of EVT0.ROUTE_DATA (R50 to R52); one refused with BAD_ROUTE is dropped whole, and ROUTE_SEL stays.
DESIGN CHOICE, log entry 92. -/
def State.wRoute (s : State) (req : Requester) (v : Word) : State :=
  let src := s.rfld P.evt0 R.EVT0_ROUTE_SEL 11 0
  if !tb v 16 && tb v 11 then s.pgErr P.evt0 0 req R.EVT0_ROUTE_DATA
  else
    let t := s.mend (routeKey src)
    let t : State := { t with evt := { t.evt with routes := Map.put (dflt 0) t.evt.routes src (v &&& 0o607777) } }
    t.routeNext

/-- A write of EVT3.SW_SET word `i` (R51): a source whose RAW was clear is raised. -/
def State.wSwSet (s : State) (i : Nat) (v : Word) : State :=
  let old := s.reg P.evt3 (R.EVT3_SW_RAW + i)
  let new := (named v 16).filter (fun j => !tb old j)
  let t := s.setReg P.evt3 (R.EVT3_SW_RAW + i) (old ||| (v &&& 0o177777))
  { t with evt := { t.evt with raised := t.evt.raised ++ new.map (fun j => 3984 + 16 * i + j) } }

/-- A write of PLACE.CMD. -/
def State.wPlaceCmd (s : State) (req : Requester) (v : Word) : State :=
  let s := if tb v 0 then s.after (execPlaceCommit req s) else s
  let s := if tb v 1 then s.after (execPlaceDiscard req s) else s
  if tb v 2 then s.after (execPlaceLookup req s) else s

/-- A write of one slot of SALT or of both. -/
def State.wSaltPart (s : State) (req : Requester) (w : Nat) (v : BitVec 36) (both : Bool) : State :=
  let old := s.shown.salt
  s.wSalt req (if both then v else if w = R.PLACE_SALT then dword (v.setWidth 18) (hiWord old) else dword (loWord old) (v.setWidth 18))

/-- A write of PEAT.CER_CTRL (R165). -/
def State.wCerCtrl (s : State) (req : Requester) (v : Word) : State :=
  if tb v 17 then s.cerStart req (bits v 2 0) else if tb v 16 then s.cerCancel else s

/-- A write of FLASH.FL_CMD (R467, R468): a write while EN is 0 or STOPPING is 1 is dropped; whether a SUSPEND cuts a
pulse short is free. -/
def State.wFlCmd (s : State) (req : Requester) (v : Word) : State :=
  if !s.en P.flash || s.stat P.flash ST.stopping then s
  else match bits v 2 0 with
    | 1 => s.after (execProgram req s)
    | 2 => s.after (execErase req s)
    | 3 => s.after (execSuspend req (tb (Config.freeWord s.fresh) 0) { s with fresh := s.fresh + 1 })
    | 4 => s.after (execResume req s)
    | 5 => s.after (execMapProgram req s)
    | _ => s.pgErr P.flash 1 req R.FLASH_FL_CMD

/-- A write of LINE.CMD. -/
def State.wLineCmd (s : State) (req : Requester) (v : Word) : State :=
  let s := if tb v 0 then s.after (execHoldSet req s) else s
  if tb v 1 then s.after (execHoldClr req s) else s

/-- A write of WISP.CMD. -/
def State.wWispCmd (s : State) (req : Requester) (v : Word) : State :=
  let s := if tb v 0 then s.after (execAppend req s) else s
  let s := if tb v 1 then s.after (execWispLink req s) else s
  if tb v 2 then s.after (execWispCheck req s) else s

/-- A write of DBG.CMD. -/
def State.wDbgCmd (s : State) (v : Word) : State :=
  let s := if tb v 0 then s.dbgRead else s
  if tb v 1 then s.dbgWrite else s

/-- A write of a block word; `v` holds both halves where `both`. A write of DEV_WDT or RG_WDT that is taken starts that
watchdog's count anew. DESIGN CHOICE, log entry 92. -/
def State.wBlock (s : State) (req : Requester) (b : Block) (i p w : Nat) (v36 : BitVec 36) (both unlocked : Bool) : State :=
  let v : Word := v36.setWidth 18
  let plain := s.plainWrite req p w v unlocked
  let locked (t : State) : State := if unlocked then t else s.pgErr p ERR.lock req w
  match b with
  | .wq => if w = R.WQ_CFG then s.wWqCfg req p v else if w = R.WQ_TAIL_DB then s.after (execTailDbWrite req i v s) else plain
  | .ciph | .dig | .kz | .cst => if w = 0o20 then s.cfgWrite req p w v else plain
  | .fst =>
    if w = R.FST_CFG then s.cfgWrite req p w v
    else if w = R.FST_CMD then (if tb v 0 then s.after (execRelearn req i s) else s) else plain
  | .bn =>
    if w = R.BN_CFG then
      (if s.busyPage p then s.pgErr p 0 req w else if 2 ≤ bits v 1 0 then s.pgErr p 1 req w else plain)
    else plain
  | .dnl => if w = R.DNL_CFG ∧ s.busyPage p = true then s else plain
  | .dnlx =>
    if w = R.DNLX_DEV_ID ∧ (List.range 4).any (fun k => s.en (P.dnl k)) = true then locked s
    else if w = R.DNLX_ROUTE_DATA then s.wNetRoute v
    else if w = R.DNLX_TOPO then s.wTopo req v
    else if R.DNLX_TIME_SET ≤ w ∧ w < R.DNLX_TIME_SET + 4 then s.wTimeSet req w v
    else if w = R.DNLX_DIM then plain.retry
    else if w = R.DNLX_TIME_CFG ∨ w = R.DNLX_DEV_ID then plain.showMaster
    else plain
  | .cred => if R.CRED_PRQ_BASE ≤ w ∧ w < R.CRED_PRQ_CONS ∧ s.en p = true then s.pgErr p 1 req w else plain
  | .peat =>
    if w = R.PEAT_QKEY_DATA then s.after (execQkeyDataWrite req v s)
    else if w = R.PEAT_CER_CTRL then s.wCerCtrl req v
    else if (w = R.PEAT_CER_PARAM ∨ w = R.PEAT_CER_ATTR0) ∧ s.cerRuns = true then s.pgErr p 1 req w
    else if w = R.PEAT_STORE_COUNT then (if s.storeCount < plain.storeCount then plain.journalRelief else plain)
    else plain
  | .place =>
    if w = R.PLACE_CMD then s.wPlaceCmd req v
    else if w = R.PLACE_MEMBER_DATA then s.wMemberData req v
    else if R.PLACE_OVR_DATA0 ≤ w ∧ w ≤ R.PLACE_OVR_DATA3 then s.wOvrData req w v
    else if w = R.PLACE_SALT ∨ w = R.PLACE_SALT + 1 then s.wSaltPart req w v36 both
    else plain
  | .evt0 => if w = R.EVT0_ROUTE_DATA then s.wRoute req v else plain
  | .evt3 => if R.EVT3_SW_SET ≤ w ∧ w < R.EVT3_SW_SET + 7 then s.wSwSet (w - R.EVT3_SW_SET) v else plain
  | .flash => if w = R.FLASH_FL_CMD then s.wFlCmd req v else plain
  | .tamp0 =>
    if R.TAMP0_LATCH ≤ w ∧ w < R.TAMP0_LATCH + 8 then s.after (execLatchWrite req (w - R.TAMP0_LATCH) v s)
    else if w = R.TAMP0_BIST_CTRL then (if tb v 0 then s.after (execBistStart req s) else s)
    else plain
  | .tamp1 =>
    if w = R.TAMP1_RESP_STAGE then s.after (execRespStageAccess req (some v) s)
    else if w = R.TAMP1_CMD then (if tb v 0 then s.after (execRespDiscard req s) else s)
    else plain
  | .wisp => if w = R.WISP_CMD then s.wWispCmd req v else plain
  | .gate => if w = R.GATE_RULE_DATA then locked (s.wRule v) else plain
  | .cgate => if w = R.CGATE_GCOL_DATA then locked (s.wGcol req i v) else plain
  | .dbg =>
    if !s.dbgOpen then s
    else if w = R.DBG_LIFE_ADV then s.wLifeAdv req v
    else if w = R.DBG_CMD then s.wDbgCmd v
    else if R.DBG_HALT_REQ ≤ w ∧ w < R.DBG_HALT_REQ + 4 then s.wHaltReq (w - R.DBG_HALT_REQ) v
    else if R.DBG_RESUME ≤ w ∧ w < R.DBG_RESUME + 4 then s.wResume (w - R.DBG_RESUME) v
    else plain
  | .sluice =>
    if w = R.SLUICE_CFG then (s.wSluiceCfg v).mend (p * 1024 + w)
    else if w = R.SLUICE_RQ_SEL then (let t := s.wRqSel req v; if bits v 6 0 ≤ 70 then t.mend (p * 1024 + w) else t)
    else if w = R.SLUICE_RQ_CLASS then s.wRqClass v
    else if w = R.SLUICE_MON_SEL then s.wMonSel req v
    else plain
  | .midr => if w = R.MIDR_CMD then (if tb v 0 then s.after (execMidrRead req s) else s) else plain
  | .line =>
    if w = R.LINE_CMD then s.wLineCmd req v
    else if (R.LINE_CFG ≤ w ∧ w ≤ R.LINE_CHK_TOL) ∨ (R.LINE_STN_OPEN ≤ w ∧ w ≤ 0o243) then s.cfgWrite req p w v
    else plain
  | .dev =>
    if w = R.DEV_BOOTCFG then locked ((s.wBootcfg req v).mend (p * 1024 + w))
    else if w = R.DEV_CMD then (if tb v 0 then s.rollbackAdv req else s)
    else plain
  | .rstc =>
    if w = R.RSTC_RG_RESET then s.after (execRgReset req v s)
    else if w = R.RSTC_KICK then s.wKick req v
    else if w = R.RSTC_DEV_WDT then (if unlocked then plain.kick 4 else plain)
    else if R.RSTC_RG_WDT ≤ w ∧ w < R.RSTC_RG_WDT + 4 then (if unlocked then plain.kick (w - R.RSTC_RG_WDT) else plain)
    else plain
  | .pwr =>
    if w = R.PWR_CAP ∧ ¬ (100 ≤ v.toNat ∧ v.toNat ≤ 360) then s.pgErr p 0 req w
    else if w = R.PWR_CL_GATE then s.wClGate req v
    else if w = R.PWR_RG_FMAX then plain.capUpdate
    else plain
  | .diag => if w = R.DIAG_INJECT then s.wInject req v else plain
  | .clk | .evt1 | .evt2 | .hmk | .moss | .rng | .lode | .clu => plain

/-- A write takes effect in its page's domain. DEDUCED, log entry 11. -/
def State.applyWrite (s : State) (x : Posted) : State :=
  match blockOf x.page with
  | none => s
  | some (b, i) =>
    if x.word < 0o20 then s.wHeader x.req x.page x.word (x.val.setWidth 18) x.unlocked
    else if x.both then
      let special := match b with | .place => x.word == R.PLACE_SALT | _ => false
      if special then s.wBlock x.req b i x.page x.word x.val true x.unlocked
      else (s.wBlock x.req b i x.page x.word (x.val.setWidth 18 |>.setWidth 36) false x.unlocked).wBlock x.req b i x.page (x.word + 1)
        (x.val >>> 18) false x.unlocked
    else s.wBlock x.req b i x.page x.word x.val false x.unlocked

/-! ### Writes as they are accepted (R35 to R38) -/

/-- The domain a requester writes from. -/
def reqDomain : Requester → Domain
  | .core c => .region (c / 16)
  | .host | .debug => .fabric

/-- A core's write of its own INT_EN (R315). -/
def Posted.ownIntEn (x : Posted) : Bool :=
  match x.req with
  | .core c => x.page == P.kz c && decide (R.KZ_INT_EN ≤ x.word) && decide (x.word < R.KZ_INT_EN + 4)
  | _ => false

/-- A write is accepted: in its own domain it takes effect at once where no write to that domain is on its way (R36), and a
core's own write of INT_EN always (R315), else it is posted. DEDUCED, log entry 11. DEDUCED, log entry 12. -/
def State.acceptWrite (s : State) (x : Posted) : State :=
  let s := s.lockNow x
  if x.ownIntEn ∨ (reqDomain x.req = pageDomain x.page ∧ s.bus.posted.any (fun y => pageDomain y.page == pageDomain x.page) = false ∧
      s.bus.stalled.any (fun y => y.req == x.req) = false) then s.applyWrite x
  else s.enqueueWrite x

/-- A write of one slot past its gate. DEDUCED, log entry 11. -/
def State.writeReg (s : State) (req : Requester) (p w : Nat) (v : Word) : State :=
  if s.deaf p then s
  else match s.formWrite req p w v with
    | (t, some x) => t.acceptWrite x
    | (t, none) => t

/-- An aligned 8-octet write past its gate: both halves in one step (R13); a lower half that the requester holds stays
held. DESIGN CHOICE, log entry 92. -/
def State.writeReg2 (s : State) (req : Requester) (p w : Nat) (v : BitVec 36) : State :=
  if s.deaf p then s else s.acceptWrite ⟨req, p, w, v, true, !s.lockedPage p⟩

/-! ### The MSI-X table in BAR2 (R49) -/

/-- What a doubleword of the table holds after reset: every vector masked (PRESUMED, log entry 7). -/
def msixReset (d : Nat) : BitVec 32 := if d % 4 = 3 then 1 else 0

/-- A vector is masked. PRESUMED, log entry 7. -/
def State.masked (s : State) (vec : Nat) : Bool := tb (Map.get msixReset s.evt.msix (4 * vec + 3)) 0

/-- A message is sent. -/
def State.sendMsix (s : State) (vec : Nat) : State :=
  { s with evt := { s.evt with msixSent := Map.put (dflt 0) s.evt.msixSent vec (Map.get (dflt 0) s.evt.msixSent vec + 1) } }

/-- A vector has become unmasked: its pending message is sent. -/
def State.unmasked (s : State) (vec : Nat) : State :=
  if s.evt.msixPend.contains vec then
    ({ s with evt := { s.evt with msixPend := drop1 s.evt.msixPend vec } } : State).sendMsix vec
  else s

/-- A host write of doubleword `d` of BAR2; the pending-bit array is read-only. PRESUMED, log entry 7. -/
def State.wMsix (s : State) (d : Nat) (v : BitVec 32) : State :=
  if 8192 ≤ d then s
  else
    let v := if d % 4 = 3 then v &&& 1 else if d % 4 = 0 then v &&& 0xFFFFFFFC else v
    let t : State := { s with evt := { s.evt with msix := Map.put msixReset s.evt.msix d v } }
    if d % 4 = 3 ∧ tb v 0 = false then t.unmasked (d / 4) else t

/-! ### Write commands -/

/-- REG_WRITE (R11 to R16, R35 to R38, R42, R46): a register write by a requester; `page` from 4,096 on is BAR2. The width is
checked before the gate. DEDUCED, log entry 11. DEDUCED, log entry 15. -/
def execRegWrite (req : Requester) (page word : Nat) (width : Width) (val : BitVec 36) (s : State) :
    Host.Outcome State Fault Refusal :=
  let r := s.whoOf req
  let a := pageAddr page word
  .next (if 4096 ≤ page then
      (if req = .host ∧ width ≠ .narrow ∧ s.inReset = false then s.wMsix ((page - 4096) * 1024 + word) (val.setWidth 32) else s)
    else if s.deaf page then s
    else if width = .narrow ∨ (width = .double ∧ aligned8 page word = false) then s.pgErr page ERR.width req word
    else match s.checkAccess r a 1 .w with
      | .allowed => if width = .double then s.writeReg2 req page word val else s.writeReg req page word (val.setWidth 18)
      | .unassigned => s
      | .refused at_ rsn => s.recordRefusal r a at_ .w rsn)

/-- REG36_LOWER_WRITE (R13): the half is held for its requester. -/
def execReg36LowerWrite (req : Requester) (page word : Nat) (val : Word) (s : State) : Host.Outcome State Fault Refusal :=
  when (halfOf page word == .lower) s (s.after (execRegWrite req page word .single (val.setWidth 36) s))

/-- REG36_UPPER_WRITE (R13): it commits both halves in one step. -/
def execReg36UpperWrite (req : Requester) (page word : Nat) (val : Word) (s : State) : Host.Outcome State Fault Refusal :=
  when (halfOf page word == .upper) s (s.after (execRegWrite req page word .single (val.setWidth 36) s))

/-- PG_LOCK_WRITE (R46). -/
def execPgLockWrite (req : Requester) (page : Nat) (s : State) : Host.Outcome State Fault Refusal :=
  .next (if s.deaf page then s else s.acceptWrite ⟨req, page, R.PG_LOCK, 1, false, true⟩)

/-- A transfer from die C arrives at a far die, with all sent before it. DESIGN CHOICE, log entry 21. -/
def Link.toFar (l : Link) : Link := { l with tx := l.tx + 1, farRx := l.tx + 1 }

/-- A transfer from a far die arrives at die C, with all sent before it. DESIGN CHOICE, log entry 21. -/
def Link.toC (l : Link) : Link := { l with farTx := l.farTx + 1, rx := l.farTx + 1 }

/-- The link between die C and a domain, if one lies there. -/
def linkTo : Domain → Option Bool
  | .dieV => some false
  | .dieF => some true
  | _ => none

/-- A posted write reaches its page, over a link where one lies between, and takes effect. -/
def State.crossed (s : State) (x : Posted) : State :=
  (match linkTo (pageDomain x.page) with | some f => s.putLink f (s.link f).toFar | none => s).applyWrite x

/-- Writes of a list find room or stall again, in the order they were made (R37). DEDUCED, log entry 12. -/
def State.promote (s : State) : List Posted → State
  | [] => s
  | x :: l => (s.enqueueWrite x).promote l

/-- The stalled writes try again. DEDUCED, log entry 12. -/
def State.retryStalled (s : State) : State := ({ s with bus := { s.bus with stalled := [] } } : State).promote s.bus.stalled

/-- The oldest posted write of a domain. DEDUCED, log entry 12. -/
def State.nextPosted (s : State) (d : Domain) : Option Posted := s.bus.posted.find? (fun x => pageDomain x.page == d)

/-- POSTED_WRITE_SETTLE (R35, R36): the oldest posted write of the page's domain, where it is one of this page, takes effect.
DEDUCED, log entry 11. -/
def execPostedWriteSettle (page : Nat) (s : State) : Host.Outcome State Fault Refusal :=
  match s.nextPosted (pageDomain page) with
  | none => .next s
  | some x =>
    let t : State := { s with bus := { s.bus with posted := s.bus.posted.erase x } }
    when (x.page == page) s (t.crossed x).retryStalled

/-! ### Events and their delivery (R47 to R52) -/

/-- A source lost for a quarantined cluster (R50). -/
def State.lose (s : State) (src : Nat) : State :=
  let s := if s.rbit P.evt0 R.EVT0_LOST_SRC 17 then s.setRbit P.evt0 R.EVT0_LOST_SRC 16 true
    else s.setReg P.evt0 R.EVT0_LOST_SRC (wd (2 ^ 17 + src))
  s.event P.evt0 0

/-- Deliver a raised source by its route entry. DEDUCED, log entry 19. -/
def State.deliver (s : State) (src : Nat) : State :=
  let e := Map.get (dflt 0) s.evt.routes src
  if !tb e 17 || s.isBad (routeKey src) then s
  else if tb e 16 then
    let c := bits e 11 6
    let l := bits e 5 0
    if s.stat (P.clu (c / 4)) ST.quar then s.lose src else s.setRbit P.evt2 (R.EVT2_CORE_PEND + 4 * c + l / 16) (l % 16) true
  else
    let v := bits e 10 0
    if s.masked v then { s with evt := { s.evt with msixPend := add1 s.evt.msixPend v } } else s.sendMsix v

/-- The link an event of a source crosses (R25). -/
def srcLink (src : Nat) : Option Bool := if 3984 ≤ src then none else linkTo (pageDomain (srcPage src))

/-- EVENT_DELIVER (R48 to R50): an event of a far die crosses its link, and is dropped where that is quarantined (R30). -/
def execEventDeliver (src : Nat) (s : State) : Host.Outcome State Fault Refusal :=
  let t : State := { s with evt := { s.evt with raised := s.evt.raised.erase src } }
  when (s.evt.raised.contains src) s
    (match srcLink src with
    | none => t.deliver src
    | some f => if (s.link f).quar then t else (t.putLink f (s.link f).toC).deliver src)

/-- MSIX_UNMASK (R49). -/
def execMsixUnmask (vec : Nat) (s : State) : Host.Outcome State Fault Refusal :=
  .next (s.wMsix (4 * vec + 3) 0)

/-- ROUTE_DATA_ACCESS (R51, R52). -/
def execRouteDataAccess (req : Requester) (wr : Option Word) (s : State) : Host.Outcome State Fault Refusal :=
  .next (match wr with
    | none => State.answered (s.routeNext, s.peek P.evt0 R.EVT0_ROUTE_DATA)
    | some v => if s.deaf P.evt0 then s else s.wRoute req v)

/-- LOST_SRC_READ (R50). -/
def execLostSrcRead (_req : Requester) (s : State) : Host.Outcome State Fault Refusal :=
  .next (State.answered (s.readClear P.evt0 R.EVT0_LOST_SRC))

/-- SW_SET_WRITE (R51). -/
def execSwSetWrite (_req : Requester) (idx : Nat) (val : Word) (s : State) : Host.Outcome State Fault Refusal :=
  s.written P.evt3 (s.wSwSet idx val)

/-! ### Accesses with rows of their own -/

/-- DNLX_ROUTE_DATA_ACCESS (R128). -/
def execDnlxRouteDataAccess (_req : Requester) (wr : Option Word) (s : State) : Host.Outcome State Fault Refusal :=
  .next (match wr with
    | none => State.answered s.rNetRoute
    | some v => if s.deaf P.dnlx then s else s.wNetRoute v)

/-- SYSTIME_READ (R124): word 0 latches all four; the answer is the whole time. -/
def execSystimeRead (req : Requester) (s : State) : Host.Outcome State Fault Refusal :=
  let t := (s.readSystime req 0).1
  .next { t with bus := { t.bus with rdata := s.clock.sys } }

/-- RQ_CLASS_ACCESS (R345, R347). -/
def execRqClassAccess (_req : Requester) (wr : Option Word) (s : State) : Host.Outcome State Fault Refusal :=
  .next (match wr with
    | none => State.answered s.rRqClass
    | some v => if s.deaf P.sluice then s else s.wRqClass v)

/-- MON_SEL_WRITE (R347). -/
def execMonSelWrite (req : Requester) (val : Word) (s : State) : Host.Outcome State Fault Refusal := s.written P.sluice (s.wMonSel req val)

/-- MON_MAXWAIT_READ (R347). -/
def execMonMaxwaitRead (_req : Requester) (s : State) : Host.Outcome State Fault Refusal :=
  .next (State.answered (s.readClear P.sluice R.SLUICE_MON_MAXWAIT))

/-- RESULT_READ (R209, R210). -/
def execResultRead (req : Requester) (unit idx : Nat) (s : State) : Host.Outcome State Fault Refusal :=
  .next (State.answered (s.readResult req unit idx))

/-- REFUSE_READ (R227). -/
def execRefuseRead (req : Requester) (u : Nat) (s : State) : Host.Outcome State Fault Refusal :=
  .next (State.answered (s.readRefuse (s.whoOf req) u))

/-- VFAIL_READ (R315). -/
def execVfailRead (_req : Requester) (core : Nat) (s : State) : Host.Outcome State Fault Refusal :=
  .next (s.readLive (P.kz core) R.KZ_VFAIL (State.answered (s.readClear (P.kz core) R.KZ_VFAIL)))

/-- RAND_READ (R284). -/
def execRandRead (req : Requester) (cl idx : Nat) (s : State) : Host.Outcome State Fault Refusal :=
  .next (s.readLive (P.clu cl) (R.CLU_RAND + idx) (State.answered (s.readRand req cl (R.CLU_RAND + idx))))

/-! ### Causeway links (R28 to R30, R34) -/

/-- The assigned pages. -/
def allPages : List Nat := (List.range 1058).filter (fun p => (blockOf p).isSome)

/-- The pages behind a link. -/
def linkPages (f : Bool) : List Nat := allPages.filter (fun p => pageDomain p == (if f then .dieF else .dieV))

/-- Die F reacts (R30): HOLD, cards deactivated, fields off; the jobs of its stations complete DEVICE_FAULT.
DESIGN CHOICE, log entry 21. -/
def State.dieFLost (s : State) : State :=
  let s := s.assertHold 12
  let s := s.each (List.range 16) (fun t n => t.cstBreak n S.deviceFault)
  let s := s.each (List.range 16) (fun t n => (t.fabandon n S.deviceFault).fstBreak n S.deviceFault)
  s.each stationPages (fun t p => ((t.inQ p).foldl (fun u k => u.faultJob k) t).setStat p ST.ready false)

/-- Die V reacts (R30): pulses end by the controlled ramp-down. DESIGN CHOICE, log entry 21. -/
def State.dieVLost (s : State) : State := s.flashLoss.setStat P.flash ST.ready false

/-- A link fails (R30): cause 1 tag, 2 counter, 3 silence. DESIGN CHOICE, log entry 21. -/
def State.linkFail (s : State) (f : Bool) (cause : Nat) : State :=
  let s := s.freeze (linkPages f)
  let s := s.putLink f { s.link f with quar := true }
  let s := if s.rbit P.diag R.DIAG_LINK 17 then s else s.setReg P.diag R.DIAG_LINK (wd (2 ^ 17 + b2n f * 4 + cause))
  let s := ((s.event P.diag 3).detect 15).logEntry 10 (b2n f) s.rtc (wd cause)
  let gone (x : Posted) : Bool := (linkPages f).contains x.page
  let s : State := { s with evt := { s.evt with raised := s.evt.raised.filter (fun e => srcLink e != some f) } }
  let s : State := { s with bus := { s.bus with posted := s.bus.posted.filter (fun x => !gone x),
                                                stalled := s.bus.stalled.filter (fun x => !gone x) } }
  (if f then s.dieFLost else s.dieVLost).retryStalled

/-- A link carries transfers. -/
def State.linkUp (s : State) (dieF : Bool) : Bool := !(s.link dieF).quar && !s.inReset

/-- CAUSEWAY_IDLE (R29): an end, die C or the far die, sends an idle transfer. -/
def execCausewayIdle (dieF far : Bool) (s : State) : Host.Outcome State Fault Refusal :=
  let l := s.link dieF
  when (s.linkUp dieF) s
    (s.putLink dieF (if far then { l with farTx := l.farTx + 1, farIdles := l.farIdles + 1 }
      else { l with tx := l.tx + 1, idles := l.idles + 1 }))

/-- The counter that the next transfer to an end carries in its tag (R28). -/
def Link.next (l : Link) (far : Bool) : BitVec 72 := if far then l.farRx else l.rx

/-- An end accepts a transfer. -/
def Link.accept (l : Link) (far : Bool) : Link := if far then { l with farRx := l.farRx + 1 } else { l with rx := l.rx + 1 }

/-- CAUSEWAY_TRANSFER_RECEIVE (R28, R29): a transfer of a payload, tagged under a counter, reaches an end; a tag that is not
that of the payload and counter, or another counter than the end's, fails the link. DESIGN CHOICE, log entry 21. -/
def execCausewayTransferReceive (dieF far : Bool) (payload : List Word) (ctr : BitVec 72) (tag : BitVec 36) (s : State) :
    Host.Outcome State Fault Refusal :=
  let l := s.link dieF
  when (s.linkUp dieF) s
    (if tag ≠ Config.linkTag l.key (!far) ctr payload then s.linkFail dieF 1
    else if ctr ≠ l.next far then s.linkFail dieF 2
    else s.putLink dieF (l.accept far))

/-- CAUSEWAY_SILENCE (R29): 2 µs without a valid transfer at an end. -/
def execCausewaySilence (dieF : Bool) (s : State) : Host.Outcome State Fault Refusal :=
  when (s.linkUp dieF) s (s.linkFail dieF 3)

end Sys2Proof.Machine
end

