-- ==== Sys2Proof/Machine/Operands.lean ====
section
/-! DEFINITION. Kazolo instructions as written: prefixes (R248), base words and their fields (R250, Tables 8-6 and 8-7),
immediates (R251), and the registers of a core that they name (R243). -/
namespace Sys2Proof.Machine

/-! ### Operations -/

/-- The instructions of Tables 8-6 and 8-7. -/
inductive KOp where
  | nop | rfe | sync | waiti | brk | ctxsw | jget | savectx | loadctx | jdone
  | mov | add | sub | addx | subx | and_ | or_ | xor_ | andn | shl | shr | sar | rol | mul | mulh | mulhs | mull | brev | clz | popc
  | octhi | octlo | octpk | movd | addd | subd | mova | movda | adda | shld | shrd
  | cmpeq | cmplt | cmpltu | pand | por | pxor | pandn
  | movi | addi | andi | ori | xori | shli | shri | sari | muli | movid | addid | addia | movia | ucmd (typ : Nat) | leapc
  | ld | st | ldd | std | lda | sta | lea | swap
  | br | call | jr | callr | loop | loopi | trap | movsFrom | movsTo
  | vadd | vsub | vmul | vbfly | vgs | vperm | vld | vst | vldb | vmov | vsplat | vext | vins
  deriving DecidableEq, Repr

/-- Class 0 (Table 8-6). -/
def kop0 (n : Nat) : Option KOp :=
  if 0o010 ≤ n ∧ n < 0o020 then some .savectx
  else if 0o020 ≤ n ∧ n < 0o030 then some .loadctx
  else if 0o040 ≤ n ∧ n < 0o100 then some .jdone
  else ([some .nop, some .rfe, some .sync, some .waiti, some .brk, some .ctxsw, some .jget] : List (Option KOp)).getD n none

/-- Class 1 by OP. -/
def kop1 : List KOp :=
  [.mov, .add, .sub, .addx, .subx, .and_, .or_, .xor_, .andn, .shl, .shr, .sar, .rol, .mul, .mulh, .mulhs, .mull, .brev, .clz,
   .popc, .octhi, .octlo, .octpk, .movd, .addd, .subd, .mova, .movda, .adda, .shld, .shrd]

/-- Class 2 by OP, and by the function of OP 3. -/
def kop2 (w : Word) : Option KOp :=
  if bits w 14 13 = 3 then [KOp.pand, .por, .pxor, .pandn][bits w 9 8]? else [KOp.cmpeq, .cmplt, .cmpltu][bits w 14 13]?

/-- Class 3 by OP; UCMD by its type. -/
def kop3 (w : Word) : Option KOp :=
  match bits w 14 11 with
  | 13 => if bits w 5 0 < 5 then some (.ucmd (bits w 5 0)) else none
  | 14 => some .leapc
  | n => [KOp.movi, .addi, .andi, .ori, .xori, .shli, .shri, .sari, .muli, .movid, .addid, .addia, .movia][n]?

/-- Class 4 by OP. -/
def kop4 (w : Word) : Option KOp := [KOp.ld, .st, .ldd, .std, .lda, .sta, .lea, .swap][bits w 14 12]?

/-- Class 5 by OP; MOVS by its direction. -/
def kop5 (w : Word) : Option KOp :=
  match bits w 14 12 with
  | 7 => if tb w 11 then some .movsTo else some .movsFrom
  | n => [KOp.br, .call, .jr, .callr, .loop, .loopi, .trap][n]?

/-- Class 6 by OP, VMISC by its sub-operation. -/
def kop6 (w : Word) : Option KOp :=
  match bits w 14 12 with
  | 6 => [KOp.vld, .vst, .vldb, .vmov, .vsplat][bits w 7 5]?
  | 7 => if tb w 3 then some .vins else some .vext
  | n => [KOp.vadd, .vsub, .vmul, .vbfly, .vgs, .vperm][n]?

/-- The instruction a base word spells; a base of one syllable stands in bits 8:0 (R250, R264).
DESIGN CHOICE, log entry 50. -/
def opOf (w : Word) : Option KOp :=
  match bits w 17 15 with
  | 0 => kop0 w.toNat
  | 1 => kop1[bits w 14 10]?
  | 2 => kop2 w
  | 3 => kop3 w
  | 4 => kop4 w
  | 5 => kop5 w
  | 6 => kop6 w
  | _ => none

/-! ### Prefixes (R248) -/

/-- The prefixes of an instruction. -/
structure Pre where
  /-- the PRED syllable -/
  pred : Option (BitVec 9)
  /-- the AMODE syllable -/
  amode : Option (BitVec 9)
  /-- the VEC syllable -/
  vec : Option (BitVec 9)
  /-- the immediate syllables of IMM -/
  imm : List (BitVec 9)
  deriving DecidableEq, Repr

/-- No prefix. -/
def Pre.none : Pre := ⟨Option.none, Option.none, Option.none, []⟩

/-- PRED 1, AMODE 2, VEC 3, IMM 4; 0 reserved (Table 8-4). DEDUCED, log entry 51. -/
def prefixKind (x : BitVec 9) : Nat :=
  let n := x.toNat
  if (0o701 ≤ n ∧ n ≤ 0o707) ∨ (0o711 ≤ n ∧ n ≤ 0o717) then 1
  else if n = 0o720 ∨ n = 0o721 ∨ (0o724 ≤ n ∧ n ≤ 0o737) then 2
  else if 0o740 ≤ n ∧ n ≤ 0o743 then 3
  else if 0o760 ≤ n ∧ n ≤ 0o763 then 4
  else 0

/-- Read a run of prefixes; `none` where one is reserved, out of order or repeated, or IMM stands with AMODE or VEC.
DESIGN CHOICE, log entry 50. -/
def parsePre : Nat → Pre → List (BitVec 9) → Option Pre
  | _, p, [] => some p
  | stage, p, x :: r =>
    let k := prefixKind x
    if k = 0 ∨ k ≤ stage then none
    else if k = 1 then parsePre 1 { p with pred := some x } r
    else if k = 2 then parsePre 2 { p with amode := some x } r
    else if k = 3 then parsePre 3 { p with vec := some x } r
    else if p.amode.isNone && p.vec.isNone && decide (r.length = x.toNat % 4 + 1) then some { p with imm := r }
    else none

/-- An instruction as a core issues it. -/
structure Ins where
  /-- its first syllable -/
  addr : DWord
  /-- the syllable after it -/
  next : DWord
  /-- the base word -/
  w : Word
  /-- its prefixes -/
  pre : Pre
  deriving DecidableEq, Repr

/-- The syllables of a base word. -/
def baseLen (w : Word) : Nat := if bits w 17 15 = 0 then 1 else 2

/-- BCAST of a VEC prefix. -/
def Ins.bcast (i : Ins) : Bool := match i.pre.vec with | some v => tb v 0 | none => false
/-- NORED of a VEC prefix. -/
def Ins.nored (i : Ins) : Bool := match i.pre.vec with | some v => tb v 1 | none => false

/-- Which prefixes besides PRED an instruction takes: AMODE, IMM, BCAST, NORED (Tables 8-6 and 8-7, R263). -/
def KOp.takes : KOp → Bool × Bool × Bool × Bool
  | .cmpeq | .cmplt | .cmpltu | .movi | .addi | .andi | .ori | .xori | .muli | .movid | .addid | .addia | .movia | .leapc
  | .lea | .br | .call | .loop | .loopi => (false, true, false, false)
  | .ld | .st | .ldd | .std | .lda | .sta | .swap => (true, true, false, false)
  | .vld | .vst | .vldb => (true, false, false, false)
  | .vadd | .vsub | .vmul => (false, false, true, true)
  | .vbfly | .vgs => (false, false, true, false)
  | _ => (false, false, false, false)

/-- The instruction takes a VEC prefix at all: class 6 OP 0 to 4. -/
def KOp.takesVec (o : KOp) : Bool := o.takes.2.2.1

/-- An instruction takes PRED: every one but LOOP and LOOPI (R249, R264). -/
def KOp.takesPred (o : KOp) : Bool := o != .loop && o != .loopi

/-- The address register field of a memory instruction. -/
def anOf (o : KOp) (w : Word) : Nat :=
  match o with
  | .vld | .vst | .vldb | .savectx | .loadctx => bits w 2 0
  | .ucmd _ => bits w 8 6
  | _ => bits w 6 4

/-- The prefixes are ones the instruction takes (R249 item 2, R253, R263). DEDUCED, log entry 51. -/
def KOp.prefixOk (o : KOp) (w : Word) (p : Pre) : Bool :=
  let (am, im, bc, nr) := o.takes
  (p.pred.isNone || o.takesPred) && (p.amode.isNone || am) && (p.imm.isEmpty || im) &&
    (match p.vec with | some v => o.takesVec && (!tb v 0 || bc) && (!tb v 1 || nr) | none => true) &&
    (match p.amode with | some a => decide (a.toNat ≠ 0o721) || decide (4 ≤ anOf o w) | none => true)

/-- Reserved fields are zero and fields lie in the ranges of their instruction (R249 item 3); `dl` is double-lane mode.
DEDUCED, log entry 51. -/
def KOp.fieldsOk (o : KOp) (w : Word) (dl : Bool) : Bool :=
  let wd5 := bits w 9 5
  let ws5 := bits w 4 0
  let rd := bits w 10 6
  let r := bits w 11 7
  match o with
  | .mull | .shld | .shrd => decide (wd5 < 16)
  | .movd | .addd | .subd => decide (wd5 < 16) && decide (ws5 < 16)
  | .mova | .adda => decide (wd5 < 8) && decide (ws5 < 16)
  | .movda => decide (wd5 < 16) && decide (ws5 < 8)
  | .pand | .por | .pxor | .pandn => decide (bits w 4 3 = 0)
  | .shli | .shri | .sari => decide (bits w 5 0 < 18)
  | .movid | .addid | .leapc => decide (rd < 16)
  | .addia | .movia | .ucmd _ => decide (rd < 8)
  | .ldd | .std => decide (r < 16)
  | .lda | .sta | .lea => decide (r < 8)
  | .jr | .callr => decide (bits w 11 4 = 0)
  | .trap => decide (bits w 11 9 = 0)
  | .movsFrom | .movsTo => decide (bits w 5 4 = 0)
  | .vmov => !tb w 4
  | .vsplat => !dl || !tb w 4
  | .vext | .vins => !dl || (!tb w 7 && !tb w 0)
  | _ => true

/-- Control transfers and others that are illegal in a branch delay slot (R257). -/
def KOp.noDelay : KOp → Bool
  | .br | .call | .jr | .callr | .loop | .loopi | .trap | .rfe | .jget | .jdone => true
  | _ => false

/-- Instructions that must not stand at LE of an active loop (R260). -/
def KOp.noLoopEnd (o : KOp) (w : Word) : Bool :=
  match o with
  | .br | .call | .jr | .callr | .loop | .loopi | .rfe | .trap | .jdone => true
  | .movsTo => decide (bits w 10 6 = 0)
  | _ => false

/-- Supervisor instructions (R292). -/
def KOp.supOnly : KOp → Bool
  | .rfe | .ctxsw | .jget | .jdone | .savectx | .loadctx => true
  | _ => false

/-! ### Immediates (R251) -/

/-- The bits of the immediate syllables and a field of `f` bits. -/
def immBits (imm : List (BitVec 9)) (f field : Nat) : Nat := imm.foldl (fun a x => a * 512 + x.toNat) 0 * 2 ^ f + field

/-- A signed immediate as an integer. -/
def immInt (imm : List (BitVec 9)) (f field : Nat) : Int :=
  let n := immBits imm f field
  let k := 9 * imm.length + f
  if 2 ^ (k - 1) ≤ n then (n : Int) - 2 ^ k else n

/-- IMM6 of class 3, extended, as an operand of `n` bits. -/
def Ins.imm6 (i : Ins) (n : Nat) : BitVec n := BitVec.ofInt n (immInt i.pre.imm 6 (bits i.w 5 0))

/-- The second operand of a comparison: the immediate with IMM. -/
def Ins.cmpImm (i : Ins) : Word := BitVec.ofInt 18 (immInt i.pre.imm 5 (bits i.w 4 0))

/-- DISP of class 4. -/
def Ins.disp (i : Ins) : DWord := BitVec.ofInt 36 (immInt i.pre.imm 4 (bits i.w 3 0))

/-- The displacement of BR and CALL. -/
def Ins.brDisp (i : Ins) : DWord := BitVec.ofInt 36 (immInt i.pre.imm 12 (bits i.w 11 0))

/-- The end offset of LOOP and LOOPI, unsigned. -/
def Ins.loopEnd (i : Ins) : DWord := BitVec.ofNat 36 (immBits i.pre.imm 6 (bits i.w 5 0))

/-! ### Registers (R243) -/

/-- wN. -/
def Core.wr (x : Core) (n : Nat) : Word := if n = 0 then 0 else Map.get (dflt 0) x.w n
/-- Write wN; w0 ignores writes. -/
def Core.setW (x : Core) (n : Nat) (v : Word) : Core := if n = 0 then x else { x with w := Map.put (dflt 0) x.w n v }
/-- dN. -/
def Core.dr (x : Core) (n : Nat) : DWord := dword (x.wr (2 * n)) (x.wr (2 * n + 1))
/-- Write dN. -/
def Core.setD (x : Core) (n : Nat) (v : DWord) : Core := (x.setW (2 * n) (loWord v)).setW (2 * n + 1) (hiWord v)
/-- aN. -/
def Core.ar (x : Core) (n : Nat) : DWord := Map.get (dflt 0) x.a n
/-- Write aN. -/
def Core.setA (x : Core) (n : Nat) (v : DWord) : Core := { x with a := Map.put (dflt 0) x.a n v }
/-- bN. -/
def Core.br (x : Core) (n : Nat) : DWord := Map.get (dflt 0) x.b n
/-- Write bN. -/
def Core.setB (x : Core) (n : Nat) (v : DWord) : Core := { x with b := Map.put (dflt 0) x.b n v }
/-- mN. -/
def Core.mr (x : Core) (n : Nat) : Word := Map.get (dflt 0) x.m n
/-- Write mN. -/
def Core.setM (x : Core) (n : Nat) (v : Word) : Core := { x with m := Map.put (dflt 0) x.m n v }
/-- pN. -/
def Core.pr (x : Core) (n : Nat) : Bool := n == 0 || x.p.getLsbD n
/-- Write pN; p0 ignores writes. -/
def Core.setP (x : Core) (n : Nat) (b : Bool) : Core := if n = 0 then x else { x with p := sb x.p n b }

/-- The lanes of vN, lane 0 first. -/
def Core.vr (x : Core) (n : Nat) : List Word := Map.getList (dflt 0) x.v (16 * n) 16
/-- Write the lanes of vN. -/
def Core.setV (x : Core) (n : Nat) (l : List Word) : Core := { x with v := Map.putList (dflt 0) x.v (16 * n) (l.take 16) }

/-- Write the destination of a load. -/
def Core.setDest (x : Core) (d : Dest) (l : List Word) : Core :=
  match d with
  | .w n => x.setW n (l.getD 0 0)
  | .d n => x.setD n (dword (l.getD 0 0) (l.getD 1 0))
  | .a n => x.setA n (dword (l.getD 0 0) (l.getD 1 0))
  | .v n => x.setV n l

/-! ### Addressing modes (R245, R253) -/

/-- `n` reversed over `k` bits. -/
def revBits : Nat → Nat → Nat
  | 0, _ => 0
  | k + 1, n => n % 2 * 2 ^ k + revBits k (n / 2)

/-- aN moved by an increment within its modulo buffer; a length of 0 moves it plainly. DEDUCED, log entry 55. -/
def Core.modAdd (x : Core) (n : Nat) (inc : Int) : DWord :=
  let m := (x.mr n).toNat
  if m = 0 then x.ar n + BitVec.ofInt 36 inc
  else x.br n + BitVec.ofInt 36 (((x.ar n - x.br n).toInt + inc) % (m : Int))

/-- aN moved by an increment, in its buffer where MODA of the mode is set. DEDUCED, log entry 55. -/
def Core.bump (x : Core) (mode : Word) (n : Nat) (inc : Int) : DWord :=
  if 4 ≤ n ∧ tb mode n = true then x.modAdd n inc else x.ar n + BitVec.ofInt 36 inc

/-- aN after an access under an AMODE prefix. DEDUCED, log entry 55. -/
def Core.postInc (x : Core) (mode : Word) (am : BitVec 9) (n : Nat) (inc : Int) : DWord :=
  if am.toNat = 0o720 then x.bump mode n inc
  else if am.toNat = 0o721 then x.modAdd n inc
  else
    let k := am.toNat - 0o723
    let a := (x.ar n).toNat
    BitVec.ofNat 36 (a / 2 ^ k * 2 ^ k + revBits k ((revBits k (a % 2 ^ k) + (inc % 2 ^ k).toNat) % 2 ^ k))

end Sys2Proof.Machine
end

