-- ==== Sys2Proof/Machine/Flags.lean ====
section
/-! DEFINITION. Predicates, carries and status words of a core: p6 as carry and borrow, comparisons (R264), MSTAT and its
mode changes (R245, R258), ESTAT (R314), GATEBANK (R318), the interrupt threshold (R303 to R305). -/
namespace Sys2Proof.Machine

/-! ### Carries and comparisons (Table 8-6) -/

/-- The sum with a carry in, and the carry out. -/
def addCarry (a b : Word) (c : Bool) : Word × Bool :=
  let n := a.toNat + b.toNat + b2n c
  (BitVec.ofNat 18 n, decide (2 ^ 18 ≤ n))

/-- The difference with a borrow in, and the borrow out. -/
def subBorrow (a b : Word) (c : Bool) : Word × Bool :=
  (a - b - wd (b2n c), decide (a.toNat < b.toNat + b2n c))

/-- p6, the carry of ADDX and SUBX (R243). -/
abbrev carryP : Nat := 6

/-! ### Shifts, bits, products -/

/-- Logical left shift; a count of 18 or more gives 0. -/
def shlW (a : Word) (n : Nat) : Word := if 18 ≤ n then 0 else a <<< n
/-- Logical right shift. -/
def shrW (a : Word) (n : Nat) : Word := if 18 ≤ n then 0 else a >>> n
/-- Arithmetic right shift; a count of 18 or more gives the sign. -/
def sarW (a : Word) (n : Nat) : Word := a.sshiftRight (min n 17)
/-- Left rotation by a count modulo 18. -/
def rolW (a : Word) (n : Nat) : Word := a.rotateLeft (n % 18)
/-- Reversal over 18 bits. -/
def revW (a : Word) : Word := wd (revBits 18 a.toNat)
/-- Ones in the low `k` bits. -/
def popCount : Nat → Nat → Nat
  | 0, _ => 0
  | k + 1, n => n % 2 + popCount k (n / 2)
/-- Leading zeros over `k` bits. -/
def leadZeros : Nat → Nat → Nat
  | 0, _ => 0
  | k + 1, n => if n.testBit k then 0 else 1 + leadZeros k n
/-- The high word of the signed product. -/
def mulHS (a b : Word) : Word := BitVec.ofInt 18 (a.toInt * b.toInt / 2 ^ 18)

/-! ### MSTAT (R245, R258) -/

/-- The writable bits of MSTAT (Table 8-3). -/
def mstatMask : Word := 0o761

/-- VDL of a mode. -/
def vdl (mode : Word) : Bool := tb mode 0

/-- The MSTAT value the next instruction runs under. -/
def Core.mode (x : Core) : Word := if x.sh = 0 then x.mstat else x.oldMode

/-- An issue slot has passed: one shadow instruction fewer. A change that has just been made starts its two (3 stands for
that slot). DEDUCED, log entry 52. -/
def Core.ageMode (x : Core) : Core :=
  match x.sh with
  | 0 => x
  | 3 => { x with sh := 2 }
  | n + 1 => { x with sh := n, oldMode := x.oldNext }

/-- A write of MSTAT: the next two instructions run under the old modes. DEDUCED, log entry 52. -/
def Core.setMode (x : Core) (v : Word) : Core :=
  let next := x.ageMode
  { x with mstat := v &&& mstatMask, oldMode := next.mode, oldNext := x.mstat, sh := 3 }

/-- VQBAD is set (R262), in every copy of MSTAT. DEDUCED, log entry 55. -/
def Core.vqBad (x : Core) : Core :=
  { x with mstat := sb x.mstat 8 true, oldMode := sb x.oldMode 8 true, oldNext := sb x.oldNext 8 true }

/-! ### ESTAT (Table 10-5) -/

/-- SEAL. -/
def Core.seal (x : Core) : Bool := tb x.estat 35
/-- PSUP. -/
def Core.psup (x : Core) : Bool := tb x.estat 34
/-- IE. -/
def Core.ie (x : Core) : Bool := tb x.estat 17
/-- IPL; values above 64 act as 64 (R304). -/
def Core.ipl (x : Core) : Nat := min 64 (bits x.estat 16 10)
/-- SH of ESTAT; 3 is never held (R312). -/
def Core.esh (x : Core) : Nat := min 2 (bits x.estat 24 23)

/-- ESTAT as an entry writes it (R295). -/
def estatOf (x : Core) (e detail : Nat) (bd : Bool) (sh : Nat) (lvl : Option Nat) : DWord :=
  let ipl := bits x.estat 16 10
  BitVec.ofNat 36 (2 ^ 35 + b2n x.sup * 2 ^ 34 + b2n x.ie * 2 ^ 33 + ipl * 2 ^ 26 + b2n bd * 2 ^ 25 + sh * 2 ^ 23 + detail * 2 ^ 18 +
    (match lvl with | some l => l + 1 | none => ipl) * 2 ^ 10 + e)

/-- ESTAT as a MOVS writes it (R312): SEAL 0, SH at most 2. -/
def estatWritten (v : DWord) : DWord :=
  let v := sb v 35 false
  if bits v 24 23 = 3 then putBits v 24 23 2 else v

/-- ESTAT after RFE (R308): IE and IPL restored, SEAL cleared. -/
def estatReturned (v : DWord) : DWord :=
  sb (putBits (sb v 17 (tb v 33)) 16 10 (bits v 32 26)) 35 false

/-! ### GATEBANK, VBASE -/

/-- The bits of GATEBANK that are not reserved (Table 11-3). -/
def gateBankMask : DWord := BitVec.ofNat 36 (2 ^ 33 - 1)

/-- The bits of VBASE that are kept (R293). -/
def vbaseMask : DWord := BitVec.ofNat 36 (2 ^ 36 - 2 ^ 11)

/-! ### VQ (R262) -/

/-- The bit length of a number below 2^`k`. -/
def bitLen : Nat → Nat → Nat
  | 0, _ => 0
  | k + 1, n => if n.testBit k then k + 1 else bitLen k n

/-- VQB of a modulus: ⌊4^t/q⌋; a quotient that is not a 36-bit number, and that of 0, have no stated value.
DESIGN CHOICE, log entry 54. -/
def barrett (q : DWord) : DWord :=
  let v := 4 ^ bitLen 36 q.toNat / q.toNat
  if q = 0 ∨ 2 ^ 36 ≤ v then Config.barrettOpen q else BitVec.ofNat 36 v

/-- A modulus in range for the lane mode. -/
def qInRange (dl : Bool) (q : DWord) : Bool := decide (2 ≤ q.toNat) && decide (q.toNat < if dl then 2 ^ 35 else 2 ^ 17)

end Sys2Proof.Machine
end

