-- ==== Sys2Proof/Machine/UnitRun.lean ====
section
/-! DEFINITION. Unit commands carried out (R206, R207, R225, R270 to R273): what reads and writes memory, register pages and
the flash window past their gates. -/
namespace Sys2Proof.Machine

/-! ### Data past a gate (R246) -/

/-- A word past its check: memory, a register with its side effects, or the flash window, whose read outcome is free.
DEDUCED, log entry 58. -/
def State.readWord (s : State) (r : Who) (a : Nat) : State × Word :=
  match s.placeAt r.cluster a with
  | .page p w => s.readReg r p w
  | .flash i =>
    let f := Config.freeWord s.fresh
    ({ s with fresh := s.fresh + 1 } : State).flashRead r.req i (bits f 4 1) (tb f 0)
  | .unassigned => (s, 0)
  | _ => (s, s.word (flatAddr r.cluster a))

/-- `n` words from an address, lowest first. DEDUCED, log entry 58. -/
def State.readWords (s : State) (r : Who) (a : Nat) : Nat → State × List Word
  | 0 => (s, [])
  | n + 1 =>
    let (t, v) := s.readWord r a
    let (u, l) := t.readWords r (a + 1) n
    (u, v :: l)

/-- Write a word past its check. -/
def State.writeWord (s : State) (r : Who) (a : Nat) (v : Word) : State :=
  match s.placeAt r.cluster a with
  | .page p w => s.writeReg r.req p w v
  | .sram _ _ => s.setWord (flatAddr r.cluster a) v
  | _ => s

/-- Write words from an address; a pair at a register page is one 36-bit access. -/
def State.writeWords (s : State) (r : Who) (a : Nat) (l : List Word) : State :=
  match s.placeAt r.cluster a, l with
  | .page p w, [lo, hi] => s.writeReg2 r.req p w (dword lo hi)
  | .sram _ _, l => s.setWords (flatAddr r.cluster a) l
  | _, l => (l.foldl (fun (t : State × Nat) v => (t.1.writeWord r t.2 v, t.2 + 1)) (s, a)).1

/-! ### Cipher and digest commands (R206, R272) -/

/-- Run a cipher command (R272). DEDUCED, log entry 42. -/
def State.cipherCmd (s : State) (k : Nat) (j : Job) (c : Cmd) : State :=
  let d := ccmdOf c.words
  if !d.ok then s.fail k j S.invalidOperand
  else if let some a := s.ccmdStruck c d then s.cmdUe k a
  else match s.ccmdKey j c d with
    | .error st => s.fail k j st
    | .ok ck =>
      if j.granted ≠ some true then s.fail k j S.denied
      else if let some a := s.rangesStruck c.who d.ranges then s.cmdUe k a
      else
        let (s, src) := s.readWords c.who d.src ((d.len + 1) / 2)
        let (s, iva) := if d.usesIv then s.readWords c.who d.iva 8 else (s, [])
        match d.data src iva with
        | none => s.fail k j S.invalidOperand
        | some (m, v) =>
          let ks := aesSchedule ck.key
          let s := s.countBlocks j R.CIPH_BLOCKS (d.blocks - j.parkDone)
          if d.mode = 5 then
            let (acc, left) := if j.saved.isEmpty then (zeros 16, m) else ((cstOf j.saved).acc, m.drop (16 * j.parkDone))
            let o := cmacFrom ks acc left
            (s.writeWords c.who d.dest (packWords o)).finish k j S.ok o
          else
            let (st, o) := stepsAll d.op 0 ks ⟨v, zeros 16, 0, 0⟩ [] (chunks 16 m) j.saved j.parkDone
            let s := s.writeWords c.who d.dest (packWords o)
            (if d.usesIv then s.writeWords c.who d.iva (packWords st.v) else s).finish k j S.ok o

/-- Run a digest command (R206, R207). DEDUCED, log entry 43. -/
def State.digestCmd (s : State) (k : Nat) (j : Job) (c : Cmd) : State :=
  let d := dcmdOf c.words
  let r := c.who
  if !d.ok then s.fail k j S.invalidOperand
  else if let some a := (if d.pre = 0 then none else s.slotStruck d.ref) then s.cmdUe k a
  else match s.prefixBlock j d with
    | .error st => s.fail k j st
    | .ok pre =>
      let (s, allowed) := s.checkRanges r d.ranges
      if !allowed then s.fail k j S.denied
      else if let some a := s.rangesStruck r d.ranges then s.cmdUe k a
      else
        let (s, src) := s.readWords r d.src ((d.len + 1) / 2)
        let (s, old) := if d.first then (s, []) else s.readWords r d.state 116
        match unpackWords src with
        | none => s.fail k j S.invalidOperand
        | some m =>
          if m.length ≠ d.len then s.fail k j S.invalidOperand
          else match s.cmdStart j c d old with
            | .error st => s.fail k j st
            | .ok (x, kref) =>
              let put (s : State) (o : List Octet) : State :=
                (if d.dest = 0 then s else s.writeWords r d.dest (packWords o)).finish k j S.ok o
              if d.alg = 10 then put (s.countBlocks j R.DIG_BLOCKS 1) (keccakPerm m)
              else
                let w := d.work x kref pre m
                let y := j.workAt w
                let s := (s.countBlocks j R.DIG_BLOCKS (w.steps - y.2.1)).noteRecord j false (!d.first)
                if d.last then put s (w.finish y)
                else
                  let ws := d.record kref ⟨w.go y.1 y.2.1 w.blocks, x.count + w.len⟩
                  if !d.keyed then ((s.writeWords r d.state ws).noteRecord j true false).finish k j S.ok
                  else if s.canWrap (c.core / 16) then
                    let (v, s) := s.wrapRecord j (c.core / 16) 0o523 0 ivDigest ws
                    ((s.writeWords r d.state v).noteRecord j true false).finish k j S.ok
                  else s.fail k j S.deviceFault

/-! ### Host transfers (R273) -/

/-- Run a host transfer (R273); it waits for host data that has not arrived. DEDUCED, log entry 26. -/
def State.hostCmd (s : State) (k : Nat) (j : Job) (c : Cmd) : State :=
  match s.heldJob c.core with
  | none => s.fail k j S.denied
  | some (hk, hj) =>
    let w := c.words
    let cell := bits (cw w 0) 5 0
    let off := (dword (cw w 1) (cw w 2)).toNat
    let len := (cw w 3).toNat
    let addr := (dword (cw w 4) (cw w 5)).toNat
    if bits (cw w 0) 17 6 ≠ 0 ∨ cell = 0 ∨ hj.len ≤ cell ∨ len = 0 ∨ 65536 < len then s.fail k j S.invalidOperand
    else if descReserved (hj.oct cell 0 16) ∨ hj.declared cell < off + len ∨ hj.sgBad cell then s.fail k j S.invalidOperand
    else if hj.hostErr then s.fail k j S.aborted
    else if !hj.lenKnown cell then s
    else
      let sup := hj.supplied cell
      if c.typ = 4 then
        if sup < off + len ∧ hj.origin.isNone then s.fail k j S.invalidOperand
        else
          if j.granted ≠ some true then s.fail k j S.denied
          else if let some a := s.rangesStruck c.who [(addr, (len + 1) / 2, .r)] then s.cmdUe k a
          else
            let (s, src) := s.readWords c.who addr ((len + 1) / 2)
            match unpackWords src with
            | some m => if m.length = len then (s.putHost hk hj cell off m).finish k j S.ok m else s.fail k j S.invalidOperand
            | none => s.fail k j S.invalidOperand
      else if !hj.dataHere cell then s
      else
        let m := ((hj.data cell).drop off).take len
        let (s, allowed) := s.checkRanges c.who [(addr, (len + 1) / 2, .w)]
        if !allowed then s.fail k j S.denied
        else
          let s := if m.isEmpty then s else s.writeWords c.who addr (packWords m)
          s.finish k j (if m.length < len then S.short else S.ok) m

/-! ### Programs: memory and keys (R225) -/

/-- LOAD (R225). -/
def State.progLoad (s : State) (k : Nat) (j : Job) (c : Cmd) (x : BnCmd) : State :=
  if x.c = 0 then
    let (s, allowed) := s.checkRanges c.who [(x.arg, x.n, .r)]
    if allowed then
      match s.rangesStruck c.who [(x.arg, x.n, .r)] with
      | some a => s.cmdUe k a
      | none =>
        let (s, l) := s.readWords c.who x.arg x.n
        s.progNext k j (j.bn.setSlot x.d ⟨l, false, 0⟩)
    else s.fail k j S.denied
  else if x.n ≠ 15 then s.fail k j S.invalidOperand
  else
    let r := BitVec.ofNat 32 x.arg
    if let some a := s.slotStruck r then s.cmdUe k a
    else match s.slotCheck j r U.sign with
    | some st => s.fail k j st
    | none =>
      if (s.slot (refSlot r)).alg = 8 then
        s.progNext k j (j.bn.setSlot x.d ⟨natLimbs 15 (s.slot (refSlot r)).key.toNat, true, 0⟩)
      else s.fail k j S.denied

/-- STORE (R225). -/
def State.progStore (s : State) (k : Nat) (j : Job) (c : Cmd) (x : BnCmd) : State :=
  if (j.bn.slot x.a).keyed then s.fail k j S.denied
  else
    let (s, allowed) := s.checkRanges c.who [(x.arg, x.n, .w)]
    if allowed then (s.writeWords c.who x.arg (natLimbs x.n (j.bn.val x.a x.n))).progNext k j j.bn
    else s.fail k j S.denied

/-- LOAD (R225). -/
def execLoad (unit : Nat) (chk : UnitCheck) (s : State) : Host.Outcome State Fault Refusal :=
  s.onProg unit 0 chk (fun t k j c x => t.progLoad k j c x)
/-- STORE (R225). -/
def execStore (unit : Nat) (chk : UnitCheck) (s : State) : Host.Outcome State Fault Refusal :=
  s.onProg unit 1 chk (fun t k j c x => t.progStore k j c x)

/-! ### The end of a command (R270) -/

/-- A program whose commands have all run ends OK (R219). -/
def State.progDone (s : State) (k : Nat) (j : Job) (c : Cmd) : State :=
  if j.bn.idx = progCount c.words ∧ j.orphan = false then s.finish k j S.ok else s

/-- UCMD_COMPLETE (R270): a unit command is carried out and ends; `chk`: the unit's fault detection. -/
def execKUcmdComplete (key : Nat) (chk : UnitCheck) (s : State) : Host.Outcome State Fault Refusal :=
  match s.job key with
  | none => .next s
  | some j => match j.cmd with
    | none => .next s
    | some c =>
      when (decide (j.st = .running)) s
        (match c.typ, j.unit with
        | 0, some p => s.checked p chk true (s.cipherCmd key j c)
        | 1, some p => s.checked p chk (decide (bits (cw c.words 0) 10 9 ≠ 0)) (s.digestCmd key j c)
        | 2, some _ => s.progDone key j c
        | 3, none => s.hostCmd key j c
        | 4, none => s.hostCmd key j c
        | _, _ => s)

end Sys2Proof.Machine
end

