-- ==== Sys2Proof/Machine/Kazolo.lean ====
section
/-! DEFINITION. A Kazolo core from issue to retirement: fetching rights, faults (R249, R294, R296), retirement with loads in
flight, delay slots, mode shadows and hardware loops (R254 to R260), taking an exception (R295 to R302) and returning
from one (R307, R308), vector failures and restarts (R271, R297), data accesses (R246). -/
namespace Sys2Proof.Machine

/-! ### Vector entries and their details (Tables 10-1 and 10-2) -/

abbrev EXC.illegal : Nat := 1
abbrev EXC.priv : Nat := 2
abbrev EXC.misalign : Nat := 3
abbrev EXC.denied : Nat := 4
abbrev EXC.nx : Nat := 5
abbrev EXC.illret : Nat := 6
abbrev EXC.brk : Nat := 8
abbrev EXC.badctx : Nat := 9
abbrev EXC.level : Nat := 64
abbrev EXC.trap : Nat := 128

/-- An address lies in a granule that its gate is clearing: an access stalls there (R327). -/
def State.clearingAt (s : State) (r : Who) (a : Nat) : Bool :=
  match placeOf r.cluster a with
  | .sram n off => s.clearingOf n (off / 1024)
  | _ => false

/-- The check of a fetch of `n` words: none where they may run, else the refusal recorded and the DETAIL of NX.
DESIGN CHOICE, log entry 50. -/
def State.fetchCheck (s : State) (r : Who) (a n : Nat) : Option (State × Nat) :=
  match s.placeAt r.cluster a with
  | .sram _ _ => match s.checkAccess r a n .x with
    | .allowed => none
    | .unassigned => some (s, 2)
    | .refused at_ rsn => some (s.recordRefusal r a at_ .x rsn, 1)
  | _ => some (s, 2)

/-! ### Interrupt levels (R303 to R305) -/

/-- Level `l` is pending for core `c` and enabled there. -/
def State.levelUp (s : State) (c l : Nat) : Bool :=
  s.rbit P.evt2 (R.EVT2_CORE_PEND + 4 * c + l / 16) (l % 16) && s.rbit (P.kz c) (R.KZ_INT_EN + l / 16) (l % 16)

/-- The highest level at or above the threshold that is pending and enabled. -/
def State.topLevel (s : State) (c : Nat) : Option Nat :=
  (List.range 64).reverse.find? (fun l => s.levelUp c l && decide ((s.core c).ipl ≤ l))

/-- What ends WAITI (R305). DEDUCED, log entry 53. -/
def State.wakes (s : State) (c : Nat) : Bool := (s.core c).wake || (s.topLevel c).isSome

/-- A core asleep in WAITI goes on; the wake latch is cleared. -/
def State.wakeUp (s : State) (c : Nat) : State :=
  if (s.core c).waiting then s.modCore c (fun x => { x with waiting := false, wake := false }) else s

/-- A core runs: released, not halted, its clock on, none of its writes stalled at a full page (R37). -/
def State.coreUp (s : State) (c : Nat) : Bool :=
  let x := s.core c
  x.run && !x.halted && !s.held (P.kz c) && !s.bus.stalled.any (fun y => y.req == .core c)

/-- A boundary at which a core accepts interrupts and halts (R298). DEDUCED, log entry 53. -/
def State.boundary (s : State) (c : Nat) : Bool :=
  s.coreUp c && (s.core c).loads.isEmpty && (s.core c).delay.isNone

/-- The level a core accepts at a boundary (R303). -/
def State.accepted (s : State) (c : Nat) : Option Nat := if (s.core c).ie then s.topLevel c else none

/-- The next instruction lies in a granule of colour 15 (R330). -/
def State.sealedCode (s : State) (c : Nat) : Bool :=
  s.colourAt (placeOf (some (c / 4)) ((s.core c).pc.toNat / 2)) == 15

/-- A halt has been requested (R330). DEDUCED, log entry 53. -/
def State.haltAsked (s : State) (c : Nat) : Bool := s.dbgOpen && s.dbgBit R.DBG_HALT_REQ c

/-- At this boundary an interrupt or a halt comes before the next instruction (R296, R303, R330). DEDUCED, log entry 53. -/
def State.preempted (s : State) (c : Nat) : Bool :=
  s.boundary c && ((s.accepted c).isSome || (s.haltAsked c && !s.sealedCode c))

/-! ### Retirement (R254 to R260) -/

/-- Loads in flight after one more issue slot: those due are written. -/
def Core.ageLoads (x : Core) : Core :=
  let aged := x.loads.map (fun l => { l with left := l.left - 1 })
  let y := (aged.filter (fun l => l.left == 0)).foldl (fun y l => y.setDest l.dst l.words) x
  { y with loads := aged.filter (fun l => l.left != 0) }

/-- Every load in flight is written (R255). -/
def Core.drainLoads (x : Core) : Core :=
  { x.loads.foldl (fun y l => y.setDest l.dst l.words) x with loads := [] }

/-- The loop check of level 0 after the instruction at `at_` (R259). -/
def Core.loop0 (x : Core) (at_ next : DWord) : Core × DWord :=
  if x.lc0 ≠ 0 ∧ at_ = x.le0 then (if x.lc0 = 1 then ({ x with lc0 := 0 }, next) else ({ x with lc0 := x.lc0 - 1 }, x.ls0))
  else (x, next)

/-- The loop checks, level 1 before level 0. DEDUCED, log entry 52. -/
def Core.loopCheck (x : Core) (at_ next : DWord) : Core × DWord :=
  if x.lc1 ≠ 0 ∧ at_ = x.le1 then
    (if x.lc1 = 1 then ({ x with lc1 := 0 } : Core).loop0 at_ next else ({ x with lc1 := x.lc1 - 1 }, x.ls1))
  else x.loop0 at_ next

/-- The link of a call whose delay slot `i` retires (R257, R299). DEDUCED, log entry 52. -/
def Core.link (x : Core) (i : Ins) : Core :=
  match x.delay with
  | some d => if d.link then x.setD 15 i.next else x
  | none => x

/-- A core after an instruction that wrote its results into `x`: link, loads in flight, mode shadow, next address.
DEDUCED, log entry 52. -/
def Core.retire (x : Core) (i : Ins) (ld : Option LoadW) (br : Option Delay) (next : DWord) : Core :=
  let target := x.delay.bind (fun d => d.target)
  let y := (x.link i).ageLoads
  let y := ({ y with loads := y.loads ++ ld.toList, delay := br } : Core).ageMode
  match target with
  | some t => { y with pc := t }
  | none => let (z, pc) := y.loopCheck i.addr next
            { z with pc := pc }

/-- Count an instruction retired (Table 8-12). -/
def State.countIns (s : State) (c : Nat) (i : Ins) : State :=
  (s.setReg36 (P.kz c) R.KZ_PC i.addr).inc36 (P.kz c) R.KZ_INSTRET

/-- An instruction retires; a core that its own store has stopped stays as that left it. -/
def State.retire (s : State) (c : Nat) (i : Ins) (ld : Option LoadW) (br : Option Delay) (next : DWord) : State :=
  if (s.core c).run then (s.modCore c (fun x => x.retire i ld br next)).countIns c i else s

/-! ### Vector failure and restart (R271, R297) -/

/-- The jobs of a core's input queue move to other cores of the region where those can take them. DEDUCED, log entry 57. -/
def State.requeue (s : State) (p : Nat) : State :=
  s.each (s.inQ p) (fun t k => match t.job k with | some j => t.moveJob k j | none => t)

/-- The pair is reset and restarts at KZ.BOOT. A restart that finds no DRBG for its context key waits for one.
DEDUCED, log entry 57. -/
def State.restartPair (s : State) (c : Nat) : State :=
  let p := P.kz c
  let s := ((s.setStat p ST.ready false).discardCmds c).faultRunning p
  let s := ((s.stopCore c).setCore c Core.zero).requeue p
  let s := s.setReg p R.KZ_BADTAGS 0
  if !s.en p || s.stat p ST.stopping then s
  else if s.rngOk (c / 16) then (s.releaseCore c).setStat p ST.ready (!s.lev.draining.contains p)
  else s.setStarting p true

/-- A vector failure: recorded, raised, the pair restarts. -/
def State.vectorFail (s : State) (c e reason : Nat) : State :=
  let p := P.kz c
  ((s.setReg p R.KZ_VFAIL (wd (2 ^ 17 + reason * 2 ^ 10 + e))).event p 3).restartPair c

/-! ### Taking an exception (R295, R297) -/

/-- What an entry saves. -/
structure Saved where
  /-- EPC -/
  epc : DWord
  /-- SH -/
  sh : Nat
  /-- EMODE -/
  mode : Word
  /-- BD -/
  bd : Bool
  deriving DecidableEq, Repr

/-- The core after an entry (R295): status, resume address, mode and loops saved, supervisor, at the handler. -/
def Core.entered (x : Core) (e detail : Nat) (v : Saved) (lvl : Option Nat) (handler : DWord) : Core :=
  { x with
    estat := estatOf x e detail v.bd v.sh lvl, epc := v.epc, emode := v.mode,
    el0 := x.lc0, el1 := x.ls0, el2 := x.le0, el3 := x.lc1, el4 := x.ls1, el5 := x.le1,
    lc0 := 0, lc1 := 0, sup := true, unsaved := true, sh := 0, delay := none, pc := handler }

/-- A refused RFE leaves EMODE and ELOOP as it found them (R307). -/
def Core.keepReturn (x old : Core) : Core :=
  { x with emode := old.emode, el0 := old.el0, el1 := old.el1, el2 := old.el2, el3 := old.el3, el4 := old.el4, el5 := old.el5 }

/-- Taking an exception: entry `e` with a DETAIL, what it saves, and the level of an interrupt. DEDUCED, log entry 57. -/
def State.enter (s : State) (c e detail : Nat) (v : Saved) (lvl : Option Nat) : State :=
  let x := (s.core c).drainLoads
  let s := s.setCore c x
  let r : Who := { s.coreWho c with sup := true }
  let a := (x.vbase + BitVec.ofNat 36 (2 * e)).toNat
  if x.unsaved then s.vectorFail c e 1
  else match s.checkAccess r a 2 .r with
    | .unassigned => s.vectorFail c e 2
    | .refused at_ rsn => (s.recordRefusal r a at_ .r rsn).vectorFail c e 2
    | .allowed => match s.rangesStruck r [(a, 2, .r)] with
     | some k => s.memUe k
     | none =>
      let (t, l) := s.readWords r a 2
      let h := dword (l.getD 0 0) (l.getD 1 0)
      match t.fetchCheck r (h.toNat / 2) 1 with
      | some (u, _) => u.vectorFail c e 3
      | none =>
        let y := x.entered e detail v lvl h
        let y := if e = EXC.illret then y.keepReturn x else y
        ((t.setCore c y).setReg36 (P.kz c) R.KZ_EXC_PC v.epc).inc36 (P.kz c) R.KZ_ENTRIES

/-- What a fault saves: the instruction, or the branch whose delay slot it is in (R299, R301). -/
def Core.faultSaved (x : Core) : Saved :=
  match x.delay with
  | some d => ⟨d.branch, d.shWas, d.modeWas, true⟩
  | none => ⟨x.pc, x.sh, x.mode, false⟩

/-- An instruction faults. -/
def State.faultEntry (s : State) (c e detail : Nat) : State := s.enter c e detail (s.core c).faultSaved none

/-- TRAP and BREAK: the entry saves what follows the instruction (Table 10-1, R301); a BREAK in a delay slot saves its branch
(R299). -/
def State.trapEntry (s : State) (c e : Nat) (i : Ins) : State :=
  if (s.core c).delay.isSome then s.faultEntry c e 0
  else
    let s := (s.modCore c (fun x => x.ageMode)).countIns c i
    s.enter c e 0 ⟨i.next, (s.core c).sh, (s.core c).mode, false⟩ none

/-! ### Returning (R307, R308) -/

/-- The core after an RFE that passes its checks. -/
def Core.returned (x : Core) : Core :=
  { x with
    sup := x.psup, estat := estatReturned x.estat,
    lc0 := x.el0, ls0 := x.el1, le0 := x.el2, lc1 := x.el3, ls1 := x.el4, le1 := x.el5,
    sh := x.esh, oldMode := x.emode, oldNext := x.emode, unsaved := false, pc := x.epc }

/-- Why an RFE is refused: the DETAIL of ILLRET. DEDUCED, log entry 57. -/
def State.rfeRefused (s : State) (c : Nat) : Option Nat :=
  let x := s.core c
  if x.psup && !x.seal then some 1
  else if (s.fetchCheck { s.coreWho c with sup := x.psup } (x.epc.toNat / 2) 1).isSome then some 2
  else none

/-! ### Issue -/

/-- What becomes of an instruction that runs. -/
inductive Act where
  /-- it retires -/
  | done (s : State)
  /-- it retires with a load in flight -/
  | load (s : State) (dst : Dest) (l : List Word)
  /-- it retires, and the next instruction is at an address of its own -/
  | go (s : State) (next : DWord)
  /-- a branch: its target, where it is taken, and its link -/
  | branch (s : State) (target : DWord) (link : Bool)
  /-- it faults -/
  | fault (s : State) (e detail : Nat)
  /-- TRAP or BREAK takes its entry -/
  | trap (s : State) (e : Nat)
  /-- a return from exception -/
  | ret (s : State)
  /-- a vector failure that is no entry (R311) -/
  | vfail (s : State) (e reason : Nat)
  /-- it reads a lost word: the memory's reaction, in place of the instruction (R512) -/
  | ue (s : State)
  /-- it does not issue yet -/
  | wait

/-- What issue makes of an instruction. -/
inductive Issue where
  /-- it is not the instruction this command issues -/
  | no
  /-- it faults before it runs -/
  | fault (s : State) (e detail : Nat)
  /-- its predicate fails (R252) -/
  | skip (i : Ins)
  /-- its fetch reads a lost word (R512) -/
  | ue (s : State)
  /-- it runs -/
  | run (i : Ins)

/-- The predicate of a PRED prefix holds. -/
def Core.predOk (x : Core) (p : Pre) : Bool :=
  match p.pred with
  | some v => x.pr (v.toNat % 8) == decide (v.toNat / 8 % 2 = 0)
  | none => true

/-- An instruction stands at LE of an active level (R260). -/
def Core.atLoopEnd (x : Core) : Bool := (x.lc1 != 0 && x.le1 == x.pc) || (x.lc0 != 0 && x.le0 == x.pc)

/-- The words that hold `n` syllables from a syllable address. -/
def sylWords (pc : DWord) (n : Nat) : Nat := (pc.toNat + n - 1) / 2 - pc.toNat / 2 + 1

/-- A lost word among those an instruction of `n` syllables at `pc` is fetched from. DESIGN CHOICE, log entry 90. -/
def State.fetchStruck (s : State) (r : Who) (pc : DWord) (n : Nat) : Option Nat :=
  s.rangesStruck r [(pc.toNat / 2, sylWords pc n, .r)]

/-- The checks of R296 on an instruction fetched at the program counter, in order. DESIGN CHOICE, log entry 50.
DEDUCED, log entry 51. -/
def State.kadmit (s : State) (c : Nat) (pre : List (BitVec 9)) (w : Word) (op : KOp) : Issue :=
  let x := s.core c
  let n := pre.length + baseLen w
  match s.fetchCheck (s.coreWho c) (x.pc.toNat / 2) (sylWords x.pc n) with
  | some (t, d) => .fault t EXC.nx d
  | none => match s.fetchStruck (s.coreWho c) x.pc n with
    | some k => .ue (s.memUe k)
    | none => match parsePre 0 Pre.none pre with
      | none => .fault s EXC.illegal 1
      | some p =>
        let i : Ins := ⟨x.pc, x.pc + BitVec.ofNat 36 n, w, p⟩
        match opOf w with
        | none => .fault s EXC.illegal 3
        | some o =>
          if o ≠ op then .no
          else if !o.prefixOk w p then .fault s EXC.illegal 2
          else if !o.fieldsOk w (vdl x.mode) then .fault s EXC.illegal 3
          else if !x.predOk p then .skip i
          else if o.noDelay && x.delay.isSome then .fault s EXC.illegal 4
          else if o.noLoopEnd w && x.atLoopEnd then .fault s EXC.illegal 5
          else if o.supOnly && !x.sup then .fault s EXC.priv 1
          else if (o == .movsFrom || o == .movsTo) && decide (20 ≤ bits w 10 6) && !x.sup then .fault s EXC.priv 2
          else .run i

/-- A branch as its delay slot finds it. -/
def Core.delayOf (x : Core) (i : Ins) (target : Option DWord) (link : Bool) : Delay :=
  { branch := i.addr, target := target, link := link, shWas := x.sh, modeWas := x.mode }

/-- An instruction with a delay slot. -/
def KOp.branches : KOp → Bool
  | .br | .call | .jr | .callr => true
  | _ => false

/-- What follows an instruction that has run on core `c`, which stood as `x`. -/
def State.conclude (s : State) (c : Nat) (x : Core) (i : Ins) : Act → State
  | .done t => t.retire c i none none i.next
  | .load t d l => t.retire c i (some ⟨2, d, l⟩) none i.next
  | .go t next => t.retire c i none none next
  | .branch t target link => t.retire c i none (some (x.delayOf i (some target) link)) i.next
  | .fault t e d => t.faultEntry c e d
  | .trap t e => t.trapEntry c e i
  | .ret t => (t.modCore c (fun y => y.returned.ageLoads)).countIns c i
  | .vfail t e reason => t.vectorFail c e reason
  | .ue t => t
  | .wait => s

/-- A core issues here: it is up, awake, nothing comes before its next instruction, whose word is not being cleared.
DESIGN CHOICE, log entry 50. DEDUCED, log entry 53. -/
def State.issues (s : State) (c : Nat) : Bool :=
  s.coreUp c && !s.preempted c && (!(s.core c).waiting || s.wakes c) && !s.clearingAt (s.coreWho c) ((s.core c).pc.toNat / 2)

/-- Core `c` issues the instruction of prefixes `pre` and base word `w`, fetched at its program counter; `f` is what the
operation does. DESIGN CHOICE, log entry 50. -/
def State.kaz (s : State) (c : Nat) (pre : List (BitVec 9)) (w : Word) (op : KOp) (f : State → Ins → Core → Act) :
    Host.Outcome State Fault Refusal :=
  let t := s.wakeUp c
  let x := t.core c
  .next (if s.issues c then
    (match t.kadmit c pre w op with
    | .no => s
    | .ue u => u
    | .fault u e d => u.faultEntry c e d
    | .skip i => t.retire c i none (if op.branches && x.delay.isNone then some (x.delayOf i none false) else none) i.next
    | .run i => s.conclude c x i (f t i x))
    else s)

/-- An instruction that changes only registers of its core. -/
def State.kreg (s : State) (c : Nat) (pre : List (BitVec 9)) (w : Word) (op : KOp) (f : Ins → Core → Core) :
    Host.Outcome State Fault Refusal :=
  s.kaz c pre w op (fun t i x => .done (t.setCore c (f i x)))

/-! ### Data accesses of instructions (R246, R253) -/

/-- The access a data instruction makes: what refuses it, or the state to go on with. -/
def State.kcheck (s : State) (c a n : Nat) (t : AType) (refusal : Nat) (go : Who → Act) : Act :=
  let r := s.coreWho c
  if s.clearingAt r a || s.clearingAt r (a + n - 1) then .wait
  else match s.checkAccess r a n t with
    | .allowed => (match s.rangesStruck r [(a, n, t)] with
      | some k => .ue (s.memUe k)
      | none => go r)
    | .unassigned => .fault s EXC.denied (if refusal = 4 then 4 else 2)
    | .refused at_ rsn => .fault (s.recordRefusal r a at_ t rsn) EXC.denied refusal

/-- A load of `n` words at an address into a register. -/
def State.kload (s : State) (c a n : Nat) (dst : Dest) (f : List Word → List Word) (x : Core) : Act :=
  s.kcheck c a n .r 1 (fun r =>
    let (t, l) := s.readWords r a n
    .load (t.setCore c x) dst (f l))

/-- A store of words at an address. -/
def State.kstore (s : State) (c a : Nat) (l : List Word) (x : Core) : Act :=
  s.kcheck c a l.length .w 1 (fun r => .done ((s.setCore c x).writeWords r a l))

/-- The address of a class 4 operand, and the core with its address register moved (R253). -/
def Core.address4 (x : Core) (i : Ins) : Nat × Core :=
  let n := bits i.w 6 4
  match i.pre.amode with
  | none => ((x.ar n + i.disp).toNat, x)
  | some am => ((x.ar n).toNat, x.setA n (x.postInc x.mode am n (x.wr (bits i.w 3 0)).toInt))

/-- The increment a vector memory instruction codes (Table 8-7). -/
def vInc (w : Word) : Int := [1, 2, 8, 16].getD (bits w 4 3) 1

/-- The address of a vector memory operand, and the core with its address register moved. -/
def Core.addressV (x : Core) (i : Ins) : Nat × Core :=
  let n := bits i.w 2 0
  match i.pre.amode with
  | none => ((x.ar n).toNat, x)
  | some am => ((x.ar n).toNat, x.setA n (x.postInc x.mode am n (vInc i.w)))

/-- An access that needs an even address (R246). -/
def evenOr (a detail : Nat) (s : State) (go : Act) : Act := if a % 2 = 1 then .fault s EXC.misalign detail else go

end Sys2Proof.Machine
end

