-- ==== Sys2Proof/Machine/KazAlu.lean ====
section
/-! DEFINITION. Kazolo register instructions: classes 1 to 3 but UCMD (Table 8-6). -/
namespace Sys2Proof.Machine

/-! ### Shapes -/

/-- wd from wd and ws. -/
def State.kww (s : State) (c : Nat) (pre : List (BitVec 9)) (w : Word) (op : KOp) (f : Word → Word → Word) :
    Host.Outcome State Fault Refusal :=
  s.kreg c pre w op (fun i x => x.setW (bits i.w 9 5) (f (x.wr (bits i.w 9 5)) (x.wr (bits i.w 4 0))))

/-- wd and p6 from wd, ws and p6. -/
def State.kwc (s : State) (c : Nat) (pre : List (BitVec 9)) (w : Word) (op : KOp) (f : Word → Word → Bool → Word × Bool) :
    Host.Outcome State Fault Refusal :=
  s.kreg c pre w op (fun i x =>
    let r := f (x.wr (bits i.w 9 5)) (x.wr (bits i.w 4 0)) (x.pr carryP)
    (x.setW (bits i.w 9 5) r.1).setP carryP r.2)

/-- dD from dD and dS. -/
def State.kdd (s : State) (c : Nat) (pre : List (BitVec 9)) (w : Word) (op : KOp) (f : DWord → DWord → DWord) :
    Host.Outcome State Fault Refusal :=
  s.kreg c pre w op (fun i x => x.setD (bits i.w 9 5) (f (x.dr (bits i.w 9 5)) (x.dr (bits i.w 4 0))))

/-- dD from dD and ws. -/
def State.kdw (s : State) (c : Nat) (pre : List (BitVec 9)) (w : Word) (op : KOp) (f : DWord → Word → DWord) :
    Host.Outcome State Fault Refusal :=
  s.kreg c pre w op (fun i x => x.setD (bits i.w 9 5) (f (x.dr (bits i.w 9 5)) (x.wr (bits i.w 4 0))))

/-- pd from wa and wb, or the immediate with IMM. -/
def State.kcmp (s : State) (c : Nat) (pre : List (BitVec 9)) (w : Word) (op : KOp) (f : Word → Word → Bool) :
    Host.Outcome State Fault Refusal :=
  s.kreg c pre w op (fun i x =>
    x.setP (bits i.w 12 10) (f (x.wr (bits i.w 9 5)) (if i.pre.imm.isEmpty then x.wr (bits i.w 4 0) else i.cmpImm)))

/-- pd from pa and pb. -/
def State.kpp (s : State) (c : Nat) (pre : List (BitVec 9)) (w : Word) (op : KOp) (f : Bool → Bool → Bool) :
    Host.Outcome State Fault Refusal :=
  s.kreg c pre w op (fun i x => x.setP (bits i.w 12 10) (f (x.pr (bits i.w 7 5)) (x.pr (bits i.w 2 0))))

/-- wd from wd and the immediate. -/
def State.kwi (s : State) (c : Nat) (pre : List (BitVec 9)) (w : Word) (op : KOp) (f : Word → Word → Word) :
    Host.Outcome State Fault Refusal :=
  s.kreg c pre w op (fun i x => x.setW (bits i.w 10 6) (f (x.wr (bits i.w 10 6)) (i.imm6 18)))

/-- wd shifted by IMM6. -/
def State.kwn (s : State) (c : Nat) (pre : List (BitVec 9)) (w : Word) (op : KOp) (f : Word → Nat → Word) :
    Host.Outcome State Fault Refusal :=
  s.kreg c pre w op (fun i x => x.setW (bits i.w 10 6) (f (x.wr (bits i.w 10 6)) (bits i.w 5 0)))

/-- A 36-bit shift; Table 8-6 states counts 0 to 35, a larger one leaves an open value. DESIGN CHOICE, log entry 54. -/
def shiftD (left : Bool) (d : DWord) (n : Word) : DWord :=
  if 36 ≤ n.toNat then Config.shiftOpen left d n else if left then d <<< n.toNat else d >>> n.toNat

/-! ### Class 1 -/

/-- MOV: wd ← ws. -/
def execKMov (core : Nat) (pre : List (BitVec 9)) (w : Word) (s : State) : Host.Outcome State Fault Refusal :=
  s.kww core pre w .mov (fun _ b => b)

/-- ADD: wd ← wd + ws. -/
def execKAdd (core : Nat) (pre : List (BitVec 9)) (w : Word) (s : State) : Host.Outcome State Fault Refusal :=
  s.kww core pre w .add (fun a b => a + b)

/-- SUB: wd ← wd − ws. -/
def execKSub (core : Nat) (pre : List (BitVec 9)) (w : Word) (s : State) : Host.Outcome State Fault Refusal :=
  s.kww core pre w .sub (fun a b => a - b)

/-- ADDX: wd ← wd + ws + p6, p6 ← carry. -/
def execKAddx (core : Nat) (pre : List (BitVec 9)) (w : Word) (s : State) : Host.Outcome State Fault Refusal :=
  s.kwc core pre w .addx (addCarry)

/-- SUBX: wd ← wd − ws − p6, p6 ← borrow. -/
def execKSubx (core : Nat) (pre : List (BitVec 9)) (w : Word) (s : State) : Host.Outcome State Fault Refusal :=
  s.kwc core pre w .subx (subBorrow)

/-- AND: bitwise AND. -/
def execKAnd (core : Nat) (pre : List (BitVec 9)) (w : Word) (s : State) : Host.Outcome State Fault Refusal :=
  s.kww core pre w .and_ (fun a b => a &&& b)

/-- OR: bitwise OR. -/
def execKOr (core : Nat) (pre : List (BitVec 9)) (w : Word) (s : State) : Host.Outcome State Fault Refusal :=
  s.kww core pre w .or_ (fun a b => a ||| b)

/-- XOR: bitwise exclusive OR. -/
def execKXor (core : Nat) (pre : List (BitVec 9)) (w : Word) (s : State) : Host.Outcome State Fault Refusal :=
  s.kww core pre w .xor_ (fun a b => a ^^^ b)

/-- ANDN: wd AND NOT ws. -/
def execKAndn (core : Nat) (pre : List (BitVec 9)) (w : Word) (s : State) : Host.Outcome State Fault Refusal :=
  s.kww core pre w .andn (fun a b => a &&& ~~~b)

/-- SHL: left shift by ws bits 4:0. -/
def execKShl (core : Nat) (pre : List (BitVec 9)) (w : Word) (s : State) : Host.Outcome State Fault Refusal :=
  s.kww core pre w .shl (fun a b => shlW a (bits b 4 0))

/-- SHR: logical right shift by ws bits 4:0. -/
def execKShr (core : Nat) (pre : List (BitVec 9)) (w : Word) (s : State) : Host.Outcome State Fault Refusal :=
  s.kww core pre w .shr (fun a b => shrW a (bits b 4 0))

/-- SAR: arithmetic right shift by ws bits 4:0. -/
def execKSar (core : Nat) (pre : List (BitVec 9)) (w : Word) (s : State) : Host.Outcome State Fault Refusal :=
  s.kww core pre w .sar (fun a b => sarW a (bits b 4 0))

/-- ROL: rotation by ws mod 18. -/
def execKRol (core : Nat) (pre : List (BitVec 9)) (w : Word) (s : State) : Host.Outcome State Fault Refusal :=
  s.kww core pre w .rol (fun a b => rolW a b.toNat)

/-- MUL: low word of the product. -/
def execKMul (core : Nat) (pre : List (BitVec 9)) (w : Word) (s : State) : Host.Outcome State Fault Refusal :=
  s.kww core pre w .mul (fun a b => a * b)

/-- MULH: unsigned high word of the product. -/
def execKMulh (core : Nat) (pre : List (BitVec 9)) (w : Word) (s : State) : Host.Outcome State Fault Refusal :=
  s.kww core pre w .mulh (fun a b => wd (a.toNat * b.toNat / 2 ^ 18))

/-- MULHS: signed high word of the product. -/
def execKMulhs (core : Nat) (pre : List (BitVec 9)) (w : Word) (s : State) : Host.Outcome State Fault Refusal :=
  s.kww core pre w .mulhs (mulHS)

/-- MULL: dD ← dD bits 17:0 times ws, unsigned. -/
def execKMull (core : Nat) (pre : List (BitVec 9)) (w : Word) (s : State) : Host.Outcome State Fault Refusal :=
  s.kdw core pre w .mull (fun a b => BitVec.ofNat 36 ((loWord a).toNat * b.toNat))

/-- BREV: ws reversed. -/
def execKBrev (core : Nat) (pre : List (BitVec 9)) (w : Word) (s : State) : Host.Outcome State Fault Refusal :=
  s.kww core pre w .brev (fun _ b => revW b)

/-- CLZ: leading zeros of ws, 0 to 18. -/
def execKClz (core : Nat) (pre : List (BitVec 9)) (w : Word) (s : State) : Host.Outcome State Fault Refusal :=
  s.kww core pre w .clz (fun _ b => wd (leadZeros 18 b.toNat))

/-- POPC: ones of ws. -/
def execKPopc (core : Nat) (pre : List (BitVec 9)) (w : Word) (s : State) : Host.Outcome State Fault Refusal :=
  s.kww core pre w .popc (fun _ b => wd (popCount 18 b.toNat))

/-- OCTHI: ws bits 16:9. -/
def execKOcthi (core : Nat) (pre : List (BitVec 9)) (w : Word) (s : State) : Host.Outcome State Fault Refusal :=
  s.kww core pre w .octhi (fun _ b => wd (bits b 16 9))

/-- OCTLO: ws bits 7:0. -/
def execKOctlo (core : Nat) (pre : List (BitVec 9)) (w : Word) (s : State) : Host.Outcome State Fault Refusal :=
  s.kww core pre w .octlo (fun _ b => wd (bits b 7 0))

/-- OCTPK: two octets packed. -/
def execKOctpk (core : Nat) (pre : List (BitVec 9)) (w : Word) (s : State) : Host.Outcome State Fault Refusal :=
  s.kww core pre w .octpk (fun a b => wd (0o400400 + bits a 7 0 * 0o1000 + bits b 7 0))

/-- MOVD: dD ← dS. -/
def execKMovd (core : Nat) (pre : List (BitVec 9)) (w : Word) (s : State) : Host.Outcome State Fault Refusal :=
  s.kdd core pre w .movd (fun _ b => b)

/-- ADDD: dD ← dD + dS. -/
def execKAddd (core : Nat) (pre : List (BitVec 9)) (w : Word) (s : State) : Host.Outcome State Fault Refusal :=
  s.kdd core pre w .addd (fun a b => a + b)

/-- SUBD: dD ← dD − dS. -/
def execKSubd (core : Nat) (pre : List (BitVec 9)) (w : Word) (s : State) : Host.Outcome State Fault Refusal :=
  s.kdd core pre w .subd (fun a b => a - b)

/-- MOVA: aD ← dS. -/
def execKMova (core : Nat) (pre : List (BitVec 9)) (w : Word) (s : State) : Host.Outcome State Fault Refusal :=
  s.kreg core pre w .mova (fun i x => x.setA (bits i.w 7 5) (x.dr (bits i.w 3 0)))

/-- MOVDA: dD ← aS. -/
def execKMovda (core : Nat) (pre : List (BitVec 9)) (w : Word) (s : State) : Host.Outcome State Fault Refusal :=
  s.kreg core pre w .movda (fun i x => x.setD (bits i.w 9 5) (x.ar (bits i.w 2 0)))

/-- ADDA: aD ← aD + dS, wrapped under MSTAT.MODA. -/
def execKAdda (core : Nat) (pre : List (BitVec 9)) (w : Word) (s : State) : Host.Outcome State Fault Refusal :=
  s.kreg core pre w .adda (fun i x => x.setA (bits i.w 7 5) (x.bump x.mode (bits i.w 7 5) (x.dr (bits i.w 3 0)).toInt))

/-- SHLD: dD shifted left by ws. -/
def execKShld (core : Nat) (pre : List (BitVec 9)) (w : Word) (s : State) : Host.Outcome State Fault Refusal :=
  s.kdw core pre w .shld (shiftD true)

/-- SHRD: dD shifted right by ws. -/
def execKShrd (core : Nat) (pre : List (BitVec 9)) (w : Word) (s : State) : Host.Outcome State Fault Refusal :=
  s.kdw core pre w .shrd (shiftD false)

/-! ### Class 2 -/

/-- CMPEQ: pd ← wa = wb. -/
def execKCmpeq (core : Nat) (pre : List (BitVec 9)) (w : Word) (s : State) : Host.Outcome State Fault Refusal :=
  s.kcmp core pre w .cmpeq (fun a b => decide (a = b))

/-- CMPLT: pd ← wa < wb, signed. -/
def execKCmplt (core : Nat) (pre : List (BitVec 9)) (w : Word) (s : State) : Host.Outcome State Fault Refusal :=
  s.kcmp core pre w .cmplt (fun a b => a.slt b)

/-- CMPLTU: pd ← wa < wb, unsigned. -/
def execKCmpltu (core : Nat) (pre : List (BitVec 9)) (w : Word) (s : State) : Host.Outcome State Fault Refusal :=
  s.kcmp core pre w .cmpltu (fun a b => a.ult b)

/-- PAND: pd ← pa AND pb. -/
def execKPand (core : Nat) (pre : List (BitVec 9)) (w : Word) (s : State) : Host.Outcome State Fault Refusal :=
  s.kpp core pre w .pand (fun a b => a && b)

/-- POR: pd ← pa OR pb. -/
def execKPor (core : Nat) (pre : List (BitVec 9)) (w : Word) (s : State) : Host.Outcome State Fault Refusal :=
  s.kpp core pre w .por (fun a b => a || b)

/-- PXOR: pd ← pa XOR pb. -/
def execKPxor (core : Nat) (pre : List (BitVec 9)) (w : Word) (s : State) : Host.Outcome State Fault Refusal :=
  s.kpp core pre w .pxor (fun a b => a != b)

/-- PANDN: pd ← pa AND NOT pb. -/
def execKPandn (core : Nat) (pre : List (BitVec 9)) (w : Word) (s : State) : Host.Outcome State Fault Refusal :=
  s.kpp core pre w .pandn (fun a b => a && !b)

/-! ### Class 3 -/

/-- MOVI: wd ← i. -/
def execKMovi (core : Nat) (pre : List (BitVec 9)) (w : Word) (s : State) : Host.Outcome State Fault Refusal :=
  s.kwi core pre w .movi (fun _ b => b)

/-- ADDI: wd ← wd + i. -/
def execKAddi (core : Nat) (pre : List (BitVec 9)) (w : Word) (s : State) : Host.Outcome State Fault Refusal :=
  s.kwi core pre w .addi (fun a b => a + b)

/-- ANDI: wd ← wd AND i. -/
def execKAndi (core : Nat) (pre : List (BitVec 9)) (w : Word) (s : State) : Host.Outcome State Fault Refusal :=
  s.kwi core pre w .andi (fun a b => a &&& b)

/-- ORI: wd ← wd OR i. -/
def execKOri (core : Nat) (pre : List (BitVec 9)) (w : Word) (s : State) : Host.Outcome State Fault Refusal :=
  s.kwi core pre w .ori (fun a b => a ||| b)

/-- XORI: wd ← wd XOR i. -/
def execKXori (core : Nat) (pre : List (BitVec 9)) (w : Word) (s : State) : Host.Outcome State Fault Refusal :=
  s.kwi core pre w .xori (fun a b => a ^^^ b)

/-- SHLI: left shift by IMM6. -/
def execKShli (core : Nat) (pre : List (BitVec 9)) (w : Word) (s : State) : Host.Outcome State Fault Refusal :=
  s.kwn core pre w .shli (shlW)

/-- SHRI: logical right shift by IMM6. -/
def execKShri (core : Nat) (pre : List (BitVec 9)) (w : Word) (s : State) : Host.Outcome State Fault Refusal :=
  s.kwn core pre w .shri (shrW)

/-- SARI: arithmetic right shift by IMM6. -/
def execKSari (core : Nat) (pre : List (BitVec 9)) (w : Word) (s : State) : Host.Outcome State Fault Refusal :=
  s.kwn core pre w .sari (sarW)

/-- MULI: low word of wd × i. -/
def execKMuli (core : Nat) (pre : List (BitVec 9)) (w : Word) (s : State) : Host.Outcome State Fault Refusal :=
  s.kwi core pre w .muli (fun a b => a * b)

/-- MOVID: dD ← i. -/
def execKMovid (core : Nat) (pre : List (BitVec 9)) (w : Word) (s : State) : Host.Outcome State Fault Refusal :=
  s.kreg core pre w .movid (fun i x => x.setD (bits i.w 10 6) (i.imm6 36))

/-- ADDID: dD ← dD + i. -/
def execKAddid (core : Nat) (pre : List (BitVec 9)) (w : Word) (s : State) : Host.Outcome State Fault Refusal :=
  s.kreg core pre w .addid (fun i x => x.setD (bits i.w 10 6) (x.dr (bits i.w 10 6) + i.imm6 36))

/-- ADDIA: aD ← aD + i, wrapped under MSTAT.MODA. -/
def execKAddia (core : Nat) (pre : List (BitVec 9)) (w : Word) (s : State) : Host.Outcome State Fault Refusal :=
  s.kreg core pre w .addia (fun i x => x.setA (bits i.w 8 6) (x.bump x.mode (bits i.w 8 6) (i.imm6 36).toInt))

/-- MOVIA: aD ← i. -/
def execKMovia (core : Nat) (pre : List (BitVec 9)) (w : Word) (s : State) : Host.Outcome State Fault Refusal :=
  s.kreg core pre w .movia (fun i x => x.setA (bits i.w 8 6) (i.imm6 36))

/-- LEAPC: dD ← the instruction’s first syllable + i. -/
def execKLeapc (core : Nat) (pre : List (BitVec 9)) (w : Word) (s : State) : Host.Outcome State Fault Refusal :=
  s.kreg core pre w .leapc (fun i x => x.setD (bits i.w 10 6) (i.addr + i.imm6 36))

end Sys2Proof.Machine
end

