-- ==== Sys2Proof/Machine/KazFlow.lean ====
section
/-! DEFINITION. Kazolo class 5: branches, calls, hardware loops, TRAP and MOVS (R244, R257 to R260, Table 8-7). -/
namespace Sys2Proof.Machine

/-! ### Branches (R257) -/

/-- BR: to the syllable after the instruction plus the displacement. -/
def execKBr (core : Nat) (pre : List (BitVec 9)) (w : Word) (s : State) : Host.Outcome State Fault Refusal :=
  s.kaz core pre w .br (fun t i _ => .branch t (i.next + i.brDisp) false)

/-- CALL: as BR, with the syllable after the delay slot in d15. -/
def execKCall (core : Nat) (pre : List (BitVec 9)) (w : Word) (s : State) : Host.Outcome State Fault Refusal :=
  s.kaz core pre w .call (fun t i _ => .branch t (i.next + i.brDisp) true)

/-- JR: to the address in dS. -/
def execKJr (core : Nat) (pre : List (BitVec 9)) (w : Word) (s : State) : Host.Outcome State Fault Refusal :=
  s.kaz core pre w .jr (fun t i x => .branch t (x.dr (bits i.w 3 0)) false)

/-- CALLR: as JR, with the syllable after the delay slot in d15; the target is read first. -/
def execKCallr (core : Nat) (pre : List (BitVec 9)) (w : Word) (s : State) : Host.Outcome State Fault Refusal :=
  s.kaz core pre w .callr (fun t i x => .branch t (x.dr (bits i.w 3 0)) true)

/-! ### Hardware loops (R259) -/

/-- The syllable at an address, as memory holds it (R247). -/
def sylAt (s : State) (cl : Nat) (a : Nat) : BitVec 9 :=
  let v := s.word (flatAddr (some cl) (a / 2))
  if a % 2 = 0 then (v >>> 9).setWidth 9 else v.setWidth 9

/-- The length of the instruction whose first syllable is at an address, read from the code: its prefixes and its base. A
run of prefixes that reaches eight syllables ends there. -/
def insLenAux (s : State) (cl : Nat) : Nat → Nat → Nat
  | 0, _ => 0
  | fuel + 1, a =>
    let x := (sylAt s cl a).toNat
    if x < 0o100 then 1
    else if x < 0o700 then 2
    else if 0o760 ≤ x ∧ x ≤ 0o763 then
      let j := x % 4 + 1
      1 + j + (if (sylAt s cl (a + 1 + j)).toNat < 0o100 then 1 else 2)
    else 1 + insLenAux s cl fuel (a + 1)

/-- The syllable after the instruction at an address. DEDUCED, log entry 52. -/
def State.afterIns (s : State) (c : Nat) (a : DWord) : DWord := a + BitVec.ofNat 36 (insLenAux s (c / 4) 8 a.toNat)

/-- Set the registers of a loop level. -/
def Core.setLoop (x : Core) (level : Bool) (n : Word) (start stop : DWord) : Core :=
  if level then { x with lc1 := n, ls1 := start, le1 := stop } else { x with lc0 := n, ls0 := start, le0 := stop }

/-- A loop level is set; a count of 0 skips the body. DEDUCED, log entry 52. -/
def State.startLoop (s : State) (c : Nat) (i : Ins) (x : Core) (n : Word) : Act :=
  let stop := i.next + i.loopEnd
  let t := s.setCore c (x.setLoop (tb i.w 11) n i.next stop)
  if n = 0 then .go t (s.afterIns c stop) else .done t

/-- LOOP: the count is wC. -/
def execKLoop (core : Nat) (pre : List (BitVec 9)) (w : Word) (s : State) : Host.Outcome State Fault Refusal :=
  s.kaz core pre w .loop (fun t i x => t.startLoop core i x (x.wr (bits i.w 10 6)))

/-- LOOPI: the count is 1 to 31, or 32 coded 0. -/
def execKLoopi (core : Nat) (pre : List (BitVec 9)) (w : Word) (s : State) : Host.Outcome State Fault Refusal :=
  s.kaz core pre w .loopi (fun t i x => t.startLoop core i x (wd (if bits i.w 10 6 = 0 then 32 else bits i.w 10 6)))

/-- TRAP: entry 128 + n (R294). -/
def execKTrap (core : Nat) (pre : List (BitVec 9)) (w : Word) (s : State) : Host.Outcome State Fault Refusal :=
  s.kaz core pre w .trap (fun t i _ => .trap t (EXC.trap + bits i.w 8 0))

/-! ### Special registers (R244, Tables 8-2 and 10-4) -/

/-- What a special register reads as. -/
def State.special (s : State) (c : Nat) (x : Core) (n : Nat) : DWord :=
  match n with
  | 0 => x.mstat.setWidth 36 | 1 => x.vq | 2 => x.vqb
  | 3 => x.lc0.setWidth 36 | 4 => x.ls0 | 5 => x.le0 | 6 => x.lc1.setWidth 36 | 7 => x.ls1 | 8 => x.le1
  | 9 => x.br 4 | 10 => x.br 5 | 11 => x.br 6 | 12 => x.br 7
  | 13 => (x.mr 4).setWidth 36 | 14 => (x.mr 5).setWidth 36 | 15 => (x.mr 6).setWidth 36 | 16 => (x.mr 7).setWidth 36
  | 17 => (sb x.p 0 true).setWidth 36 | 18 => s.cycleOf c | 19 => BitVec.ofNat 36 c
  | 20 => x.estat | 21 => x.epc | 22 => x.emode.setWidth 36 | 23 => x.vbase | 24 => 0 | 25 => x.gateBank
  | 26 => x.el0.setWidth 36 | 27 => x.el1 | 28 => x.el2 | 29 => x.el3.setWidth 36 | 30 => x.el4 | 31 => x.el5
  | _ => 0

/-- A core after a write of a special register; VQB, CYCLE, CORE and CTXKEY ignore writes. -/
def Core.setSpecial (x : Core) (n : Nat) (v : DWord) : Core :=
  match n with
  | 0 => x.setMode (loWord v)
  | 1 => { x with vq := v, vqb := barrett v }
  | 3 => { x with lc0 := loWord v } | 4 => { x with ls0 := v } | 5 => { x with le0 := v }
  | 6 => { x with lc1 := loWord v } | 7 => { x with ls1 := v } | 8 => { x with le1 := v }
  | 9 => x.setB 4 v | 10 => x.setB 5 v | 11 => x.setB 6 v | 12 => x.setB 7 v
  | 13 => x.setM 4 (loWord v) | 14 => x.setM 5 (loWord v) | 15 => x.setM 6 (loWord v) | 16 => x.setM 7 (loWord v)
  | 17 => { x with p := sb (v.setWidth 8) 0 true }
  | 20 => { x with estat := estatWritten v } | 21 => { x with epc := v } | 22 => { x with emode := loWord v &&& mstatMask }
  | 23 => { x with vbase := v &&& vbaseMask } | 25 => { x with gateBank := v &&& gateBankMask }
  | 26 => { x with el0 := loWord v } | 27 => { x with el1 := v } | 28 => { x with el2 := v }
  | 29 => { x with el3 := loWord v } | 30 => { x with el4 := v } | 31 => { x with el5 := v }
  | _ => x

/-- MOVS with direction 0: dD ← the special register. -/
def execKMovsFromSpecial (core : Nat) (pre : List (BitVec 9)) (w : Word) (s : State) : Host.Outcome State Fault Refusal :=
  s.kaz core pre w .movsFrom (fun t i x => .done (t.setCore core (x.setD (bits i.w 3 0) (t.special core x (bits i.w 10 6)))))

/-- MOVS with direction 1: the special register ← dD. -/
def execKMovsToSpecial (core : Nat) (pre : List (BitVec 9)) (w : Word) (s : State) : Host.Outcome State Fault Refusal :=
  s.kreg core pre w .movsTo (fun i x => x.setSpecial (bits i.w 10 6) (x.dr (bits i.w 3 0)))

end Sys2Proof.Machine
end

