-- ==== Sys2Proof/Machine/KazMem.lean ====
section
/-! DEFINITION. Kazolo class 4: loads, stores, LEA and SWAP (R246, R253, R254, Table 8-7). -/
namespace Sys2Proof.Machine

/-- A 36-bit value as two words, low first. -/
def halves (d : DWord) : List Word := [loWord d, hiWord d]

/-- LD: wR ← the word, written two slots later. -/
def execKLd (core : Nat) (pre : List (BitVec 9)) (w : Word) (s : State) : Host.Outcome State Fault Refusal :=
  s.kaz core pre w .ld (fun t i x => let a := x.address4 i
    t.kload core a.1 1 (.w (bits i.w 11 7)) id a.2)

/-- ST: the word ← wR. -/
def execKSt (core : Nat) (pre : List (BitVec 9)) (w : Word) (s : State) : Host.Outcome State Fault Refusal :=
  s.kaz core pre w .st (fun t i x => let a := x.address4 i
    t.kstore core a.1 [x.wr (bits i.w 11 7)] a.2)

/-- LDD: dR ← the pair at an even address. -/
def execKLdd (core : Nat) (pre : List (BitVec 9)) (w : Word) (s : State) : Host.Outcome State Fault Refusal :=
  s.kaz core pre w .ldd (fun t i x => let a := x.address4 i
    evenOr a.1 1 t (t.kload core a.1 2 (.d (bits i.w 11 7)) id a.2))

/-- STD: the pair at an even address ← dR. -/
def execKStd (core : Nat) (pre : List (BitVec 9)) (w : Word) (s : State) : Host.Outcome State Fault Refusal :=
  s.kaz core pre w .std (fun t i x => let a := x.address4 i
    evenOr a.1 1 t (t.kstore core a.1 (halves (x.dr (bits i.w 11 7))) a.2))

/-- LDA: aR ← the pair at an even address. -/
def execKLda (core : Nat) (pre : List (BitVec 9)) (w : Word) (s : State) : Host.Outcome State Fault Refusal :=
  s.kaz core pre w .lda (fun t i x => let a := x.address4 i
    evenOr a.1 1 t (t.kload core a.1 2 (.a (bits i.w 11 7)) id a.2))

/-- STA: the pair at an even address ← aR, as it stood before the addressing mode moved it. -/
def execKSta (core : Nat) (pre : List (BitVec 9)) (w : Word) (s : State) : Host.Outcome State Fault Refusal :=
  s.kaz core pre w .sta (fun t i x => let a := x.address4 i
    evenOr a.1 1 t (t.kstore core a.1 (halves (x.ar (bits i.w 11 7))) a.2))

/-- LEA: aR ← the address, with no access. -/
def execKLea (core : Nat) (pre : List (BitVec 9)) (w : Word) (s : State) : Host.Outcome State Fault Refusal :=
  s.kreg core pre w .lea (fun i x => x.setA (bits i.w 11 7) (x.ar (bits i.w 6 4) + i.disp))

/-- SWAP: wR and the word change places; wR is written as by a load. -/
def execKSwap (core : Nat) (pre : List (BitVec 9)) (w : Word) (s : State) : Host.Outcome State Fault Refusal :=
  s.kaz core pre w .swap (fun t i x => let a := x.address4 i
    t.kcheck core a.1 1 .r 1 (fun _ => t.kcheck core a.1 1 .w 1 (fun r =>
      let (u, l) := t.readWords r a.1 1
      .load ((u.setCore core a.2).writeWords r a.1 [x.wr (bits i.w 11 7)]) (.w (bits i.w 11 7)) l)))

end Sys2Proof.Machine
end

