-- ==== Sys2Proof/Machine/KazSys.lean ====
section
/-! DEFINITION. Kazolo system instructions: class 0 and UCMD (R264 to R273, R292 to R311, R319, R330); and what happens to a core
from outside its program: interrupts, halts, aborts of its job, lockstep mismatches. -/
namespace Sys2Proof.Machine

/-! ### Plain class 0 -/

/-- NOP. -/
def execKNop (core : Nat) (pre : List (BitVec 9)) (w : Word) (s : State) : Host.Outcome State Fault Refusal :=
  s.kreg core pre w .nop (fun _ x => x)

/-- RFE (R307, R308). -/
def execKRfe (core : Nat) (pre : List (BitVec 9)) (w : Word) (s : State) : Host.Outcome State Fault Refusal :=
  s.kaz core pre w .rfe (fun t _ _ => match t.rfeRefused core with
    | some d => .fault t EXC.illret d
    | none => .ret t)

/-- SYNC (R247, R264): a core whose stores are not accepted does not issue, and a UCMD is accepted as it issues. -/
def execKSync (core : Nat) (pre : List (BitVec 9)) (w : Word) (s : State) : Host.Outcome State Fault Refusal :=
  s.kreg core pre w .sync (fun _ x => x)

/-- WAITI (R305): it ends at once where it may; else the core sleeps behind it. DEDUCED, log entry 53. -/
def execKWaiti (core : Nat) (pre : List (BitVec 9)) (w : Word) (s : State) : Host.Outcome State Fault Refusal :=
  s.kaz core pre w .waiti (fun t _ x =>
    .done (t.setCore core (if t.wakes core then { x with wake := false } else { x with waiting := true })))

/-- A core halts: HALTED is raised in the debug page and in its own (R276, R334). -/
def State.haltCore (s : State) (c : Nat) : State :=
  ((s.modCore c (fun x => { x with halted := true })).event P.dbg 0).event (P.kz c) 2

/-- BREAK (R330): an armed core halts after it, except in sealed code; else it takes entry 8. DEDUCED, log entry 52. -/
def execKBreak (core : Nat) (pre : List (BitVec 9)) (w : Word) (s : State) : Host.Outcome State Fault Refusal :=
  s.kaz core pre w .brk (fun t _ _ =>
    if t.dbgOpen && t.dbgBit R.DBG_BRK_ARM core && !t.sealedCode core then .done (t.haltCore core) else .trap t EXC.brk)

/-- CTXSW (R319). -/
def execKCtxsw (core : Nat) (pre : List (BitVec 9)) (w : Word) (s : State) : Host.Outcome State Fault Refusal :=
  s.kreg core pre w .ctxsw (fun _ x => { x with gateBank := x.gateBank ^^^ BitVec.ofNat 36 (2 ^ 32) })

/-! ### Composite jobs (R266 to R268) -/

/-- The first 16 words of a job frame (Table 8-8). -/
def Job.frameHead (j : Job) : List Word :=
  [wd (j.opcode * 2 ^ 9 + j.len * 4 + b2n j.keyed * 2 + b2n j.sess.isSome), wd (j.cls * 2 ^ 16 + j.queue * 2 ^ 8 + j.resoff),
   wd j.pos, wd (j.sess.getD 0), j.qkey.setWidth 18, j.oparg.setWidth 18, (j.oparg >>> 18).setWidth 18] ++ List.replicate 9 0

/-- Fill a core's job frame. -/
def State.fillFrame (s : State) (c k : Nat) (j : Job) : State :=
  let a := s.frameAddr c
  let t := (s.setWords a j.frameHead).setWords (a + 0o20) (packWords (j.header ++ j.body))
  match j.sess with
  | some n => t.setWords (a + 0o1020) (s.sessView k j n)
  | none => t

/-- The job JGET takes: none where the core holds one or its queue has none that it serves. DEDUCED, log entry 56. -/
def State.nextHeld (s : State) (c : Nat) : Option (Nat × Job) :=
  let p := P.kz c
  if (s.core c).held = 0 ∧ s.serves p = true then
    match s.pickJob p with
    | some k => (s.job k).map (fun j => (k, j))
    | none => none
  else none

/-- The context of the session a job names has lost a word. DESIGN CHOICE, log entry 90. -/
def State.sessStruck (s : State) (j : Job) : Option Nat :=
  (j.sess.bind s.sessSlot).bind (fun c => s.struckIn (ctxBase c) 64)

/-- JGET (R267, R512). -/
def execKJget (core : Nat) (pre : List (BitVec 9)) (w : Word) (s : State) : Host.Outcome State Fault Refusal :=
  s.kaz core pre w .jget (fun t _ x => match t.nextHeld core with
    | none => .done (t.setCore core (x.setP 7 false))
    | some (k, j) => if let some a := t.sessStruck j then .ue ((t.storeUe a).faultJob k) else
      .done (((t.fillFrame core k j).startJob (P.kz core) k j).setCore core
        { x.setP 7 true with held := k + 1, aborting := false }))

/-- The result octets in a core's job frame; `none` where the packed string is malformed (R8). -/
def State.frameResult (s : State) (c : Nat) (j : Job) (n : Nat) : Option (List Octet) :=
  match unpackWords (s.words (s.frameAddr c + 0o20 + 8 * j.resoff) ((n + 1) / 2)) with
  | some l => if l.length = n then some l else none
  | none => none

/-- A job with the CHAIN and OPSTATE of the frame as its session's pending change (R268 step 2). -/
def State.frameSess (s : State) (c k : Nat) (j : Job) : Job :=
  match j.sess with
  | some n => { j with pendSess := some (cput (s.sessView k j n) 18 (s.words (s.frameAddr c + 0o1042) 46)) }
  | none => j

/-- JDONE of a held job (R268, R271). DEDUCED, log entry 56. -/
def State.jobDone (s : State) (c k : Nat) (j : Job) (status : Nat) : State :=
  let n := bits (s.word (s.frameAddr c + 7)) 9 0
  if j.orphan then (s.releaseHeld k j).clearFrame c
  else if 0o024 < status ∨ 16 * (j.len - j.resoff) < n then ((s.fail k j S.deviceFault).clearFrame c).event (P.kz c) 1
  else match s.frameResult c j n with
    | none => (s.fail k j S.invalidOperand).clearFrame c
    | some l => (s.finish k (if statusGood status then s.frameSess c k j else j) status l).clearFrame c

/-- JDONE (R268): it waits in front of the job's outstanding commands. -/
def execKJdone (core : Nat) (pre : List (BitVec 9)) (w : Word) (s : State) : Host.Outcome State Fault Refusal :=
  s.kaz core pre w .jdone (fun t i x =>
    if !x.cmds.isEmpty then .wait
    else match t.heldJob core with
      | none => .done (t.event (P.kz core) 1)
      | some (k, j) => match t.struckIn (t.frameAddr core) 0o1120 with
        | some a => .ue (t.memUe a)
        | none => .done (t.jobDone core k j (bits (x.wr (bits i.w 4 0)) 8 0)))

/-! ### Sealed context (R309 to R311) -/

/-- Words 0 to 14 of a context record (Table 10-3). -/
def Core.ctxWords (x : Core) : List Word :=
  [loWord x.estat, hiWord x.estat, loWord x.epc, hiWord x.epc, x.emode, x.el0, loWord x.el1, hiWord x.el1, loWord x.el2, hiWord x.el2,
   x.el3, loWord x.el4, hiWord x.el4, loWord x.el5, hiWord x.el5]

/-- The tag of a record of 15 words at an address (R310). DEDUCED, log entry 57. -/
def Core.ctxTag (x : Core) (c : Nat) (a : DWord) (l : List Word) : BitVec 9 :=
  Config.contextTag x.ctxKey (l ++ [wd (0o524 * 512), loWord a, hiWord a, wd c])

/-- A core that has read a record. -/
def Core.loadCtx (x : Core) (l : List Word) : Core :=
  { x with
    estat := dword (cw l 0) (cw l 1), epc := dword (cw l 2) (cw l 3), emode := cw l 4, el0 := cw l 5, el1 := dword (cw l 6) (cw l 7),
    el2 := dword (cw l 8) (cw l 9), el3 := cw l 10, el4 := dword (cw l 11) (cw l 12), el5 := dword (cw l 13) (cw l 14) }

/-- SAVECTX aN (R309): the record is written and UNSAVED cleared. -/
def execKSavectx (core : Nat) (pre : List (BitVec 9)) (w : Word) (s : State) : Host.Outcome State Fault Refusal :=
  s.kaz core pre w .savectx (fun t i x =>
    let a := x.ar (bits i.w 2 0)
    evenOr a.toNat 3 t (t.kcheck core a.toNat 16 .w 4 (fun r =>
      let l := x.ctxWords
      let rec16 := l ++ [wd (0o524 * 512 + (x.ctxTag core a l).toNat)]
      .done ((t.setCore core { x with unsaved := false }).writeWords r a.toNat rec16))))

/-- A record LOADCTX refuses (R311): counted; the fourth is a vector failure. DEDUCED, log entry 57. -/
def State.badCtx (s : State) (c detail : Nat) : Act :=
  let n := s.rfld (P.kz c) R.KZ_BADTAGS 2 0 + 1
  let t := s.setRfld (P.kz c) R.KZ_BADTAGS 2 0 n
  if n = 4 then .vfail t EXC.badctx 4 else .fault t EXC.badctx detail

/-- LOADCTX aN (R309, R311). -/
def execKLoadctx (core : Nat) (pre : List (BitVec 9)) (w : Word) (s : State) : Host.Outcome State Fault Refusal :=
  s.kaz core pre w .loadctx (fun t i x =>
    let a := x.ar (bits i.w 2 0)
    evenOr a.toNat 3 t (t.kcheck core a.toNat 16 .r 4 (fun r =>
      let (u, l) := t.readWords r a.toNat 16
      if bits (cw l 15) 17 9 ≠ 0o524 then u.badCtx core 2
      else if bits (cw l 15) 8 0 ≠ (x.ctxTag core a (l.take 15)).toNat then u.badCtx core 1
      else .done (u.setCore core (x.loadCtx l)))))

/-! ### Unit commands (R269) -/

/-- The words of a command block: Tables 8-9, 6-6 and 8-10; a program's header and commands. DEDUCED, log entry 56. -/
def State.blockWords (s : State) (typ a : Nat) : Nat :=
  match typ with | 0 => 14 | 1 => 12 | 2 => 4 + 4 * progCount (s.words a 1) | _ => 8

/-- A command as the unit it goes to finds it. -/
def State.cmdOf (s : State) (c : Nat) (r : Who) (typ a : Nat) : Cmd :=
  { core := c, typ := typ, addr := a, words := s.words a (s.blockWords typ a), key := r.key, sup := r.sup, bankB := r.bankB }

/-- The key of core `c`'s `n`-th command. -/
def cmdKey (c n : Nat) : Nat := 2 ^ 45 + c * 2 ^ 20 + n

/-- The opcode field of a command: one no queue job has. -/
def cmdOpcode : Nat := 0o777

/-- A command of a held job as Lode carries it. DEDUCED, log entry 56. -/
def Job.command (hj : Job) (c : Nat) (cmd : Cmd) : Job :=
  { hj with
    opcode := cmdOpcode, len := 0, resoff := 0, keyed := false, fence := false, sess := none, oparg := 0, body := [], gb := false,
    resWait := false, rdyWait := false, st := if cmd.typ < 3 then .fetched else .running, waitPage := none, waitUnit := false,
    unit := none, region := c / 16, inputs := [], hostErr := false, status := 0, result := [], pendSess := none, pendCred := [],
    pendSlot := none, frame := none, parks := 0, parkMode := 0, parkIdx := 0, parkDone := 0, startNo := 0, staging := none,
    fwd := none, origin := none, verdict := 0, begun := false, orphan := false, outData := [], savedBy := none, cmd := some cmd,
    bn := BnCtx.empty, saved := [], refused := false, pair := none, granted := none }

/-- A command issued while no job is held completes DENIED in its block. DEDUCED, log entry 56. -/
def State.denyCmd (s : State) (c typ a : Nat) : State :=
  let t := (s.setWord (a + doneWord typ) (wd (2 ^ 17 + S.denied))).setWord (a + doneWord typ + 1) 0
  t.modCore c (fun x => { x with wake := true })

/-- A command issued for the held job. DEDUCED, log entry 56. -/
def State.sendCmd (s : State) (c : Nat) (hj : Job) (cmd : Cmd) : State :=
  let k := cmdKey c (s.core c).issued
  let (s, j) := if cmd.typ < 3 then (s, hj.command c cmd) else s.grantRanges (hj.command c cmd)
  (s.setJob k j).modCore c (fun x => { x with cmds := x.cmds ++ [k], issued := x.issued + 1 })

/-- UCMD aN of a type (R269): the block lies in the core's own cluster SRAM; at most 8 are outstanding.
DEDUCED, log entry 56. -/
def State.kucmd (s : State) (c : Nat) (typ : Nat) (a : Nat) : Act :=
  match placeOf (some (c / 4)) a with
  | .sram n off =>
    let f := sramBase n + off
    let len := s.blockWords typ f
    if n ≠ c / 4 ∨ sramWords < off + len then .fault s EXC.denied 3
    else s.kcheck c a len .r 1 (fun r =>
      match s.heldJob c with
      | none => .done (s.denyCmd c typ f)
      | some (_, hj) => if 8 ≤ (s.core c).cmds.length then .wait else .done (s.sendCmd c hj (s.cmdOf c r typ f)))
  | _ => .fault s EXC.denied 3

/-- UCMD with type 0: a cipher command (R272). -/
def execKUcmdCipher (core : Nat) (pre : List (BitVec 9)) (w : Word) (s : State) : Host.Outcome State Fault Refusal :=
  s.kaz core pre w (.ucmd 0) (fun t i x => t.kucmd core 0 (x.ar (bits i.w 8 6)).toNat)
/-- UCMD with type 1: a digest command (R206). -/
def execKUcmdDigest (core : Nat) (pre : List (BitVec 9)) (w : Word) (s : State) : Host.Outcome State Fault Refusal :=
  s.kaz core pre w (.ucmd 1) (fun t i x => t.kucmd core 1 (x.ar (bits i.w 8 6)).toNat)
/-- UCMD with type 2: a bignum program (R219, R269). -/
def execKUcmdBignum (core : Nat) (pre : List (BitVec 9)) (w : Word) (s : State) : Host.Outcome State Fault Refusal :=
  s.kaz core pre w (.ucmd 2) (fun t i x => t.kucmd core 2 (x.ar (bits i.w 8 6)).toNat)
/-- UCMD with type 3: a read of the held job's host data (R273). -/
def execKUcmdHostRead (core : Nat) (pre : List (BitVec 9)) (w : Word) (s : State) : Host.Outcome State Fault Refusal :=
  s.kaz core pre w (.ucmd 3) (fun t i x => t.kucmd core 3 (x.ar (bits i.w 8 6)).toNat)
/-- UCMD with type 4: a write of the held job's host output (R273). -/
def execKUcmdHostWrite (core : Nat) (pre : List (BitVec 9)) (w : Word) (s : State) : Host.Outcome State Fault Refusal :=
  s.kaz core pre w (.ucmd 4) (fun t i x => t.kucmd core 4 (x.ar (bits i.w 8 6)).toNat)

/-! ### From outside the program -/

/-- Set or clear the pending bit of a level. -/
def State.setLevel (s : State) (c l : Nat) (b : Bool) : State := s.setRbit P.evt2 (R.EVT2_CORE_PEND + 4 * c + l / 16) (l % 16) b

/-- A level is accepted (R295, R303): its pending bit clears and its entry is taken. DEDUCED, log entry 53. -/
def State.accept (s : State) (c l : Nat) : State :=
  let t := (s.setLevel c l false).wakeUp c
  let x := t.core c
  t.enter c (EXC.level + l) 0 ⟨x.pc, x.sh, x.mode, false⟩ (some l)

/-- INTERRUPT_ENTRY (R303): at a boundary the highest acceptable level is taken. -/
def execInterruptEntry (core : Nat) (s : State) : Host.Outcome State Fault Refusal :=
  match s.accepted core with
  | some l => when (s.boundary core) s (s.accept core l)
  | none => .next s

/-- LOCKSTEP_MISMATCH (R265, R23): the cluster is quarantined. -/
def execLockstepMismatch (core : Nat) (s : State) : Host.Outcome State Fault Refusal :=
  when (s.coreUp core) s ((s.detect 1).quarClusterUp (core / 4))

/-- COMPOSITE_ABORT (R271): the held job has been discarded: its commands go, the frame shows ABORT, level 63 is raised. -/
def execCompositeAbort (core : Nat) (s : State) : Host.Outcome State Fault Refusal :=
  match s.heldJob core with
  | none => .next s
  | some (_, j) =>
    let t := s.discardCmds core
    let a := s.frameAddr core + 0o10
    when (j.orphan && !(s.core core).aborting) s
      ((((t.setWord a (sb (s.word a) 0 true)).modCore core (fun x => { x with aborting := true })).setLevel core 63 true).incSat
        (P.kz core) R.KZ_ABORTS)

/-- ABORT_TIMEOUT (R271): 20 µs after the abort without a JDONE. -/
def execAbortTimeout (core : Nat) (s : State) : Host.Outcome State Fault Refusal :=
  let p := P.kz core
  when ((s.core core).aborting && decide ((s.core core).held ≠ 0)) s (((s.setRbit p R.KZ_STAT 6 true).event p 0).restartPair core)

/-- CORE_HALT (R330): a requested halt is taken at a boundary, or deferred while the next instruction is sealed code. -/
def execCoreHalt (core : Nat) (s : State) : Host.Outcome State Fault Refusal :=
  when (s.boundary core && s.haltAsked core) s
    (if s.sealedCode core then (if s.dbgBit R.DBG_DEFERRED core then s else (s.setDbgBit R.DBG_DEFERRED core true).event P.dbg 1)
    else (s.setDbgBit R.DBG_DEFERRED core false).haltCore core)

end Sys2Proof.Machine
end

