-- ==== Sys2Proof/Machine/Lanes.lean ====
section
/-! DEFINITION. The vector lanes of a core: class 6 (R261 to R263, Table 8-7). -/
namespace Sys2Proof.Machine

/-! ### Elements (R261) -/

/-- The elements of 16 lanes: 16 of 18 bits, or 8 of 36 bits in double-lane mode, the low lane first. -/
def elemsOf (dl : Bool) (l : List Word) : List Nat :=
  if dl then (List.range 8).map (fun i => (dword (l.getD (2 * i) 0) (l.getD (2 * i + 1) 0)).toNat) else l.map (fun v => v.toNat)

/-- The lanes of elements, each modulo the element width. -/
def lanesFrom (dl : Bool) (l : List Nat) : List Word :=
  if dl then l.flatMap (fun n => [wd n, wd (n / 2 ^ 18)]) else l.map wd

/-- Elements of a vector in the core's mode. -/
def Core.els (x : Core) (n : Nat) : List Nat := elemsOf (vdl x.mode) (x.vr n)

/-- Write elements to a vector. -/
def Core.setEls (x : Core) (n : Nat) (l : List Nat) : Core := x.setV n (lanesFrom (vdl x.mode) l)

/-- How many elements a vector has. -/
def Core.elCount (x : Core) : Nat := if vdl x.mode then 8 else 16

/-- The scalar a field names under BCAST, or in a splat: wN, or dN in double-lane mode. -/
def Core.scalar (x : Core) (n : Nat) : Nat := if vdl x.mode then (x.dr n).toNat else (x.wr n).toNat

/-- Elements of the operand a field names: a vector, or with BCAST a scalar for every element (R263). -/
def Core.operand (x : Core) (bcast : Bool) (n : Nat) : List Nat :=
  if bcast then List.replicate x.elCount (x.scalar n) else x.els n

/-- The least non-negative residue of a difference. -/
def subRes (q a b : Nat) : Nat := (((a : Int) - b) % q).toNat

/-- Every element of vectors zero and VQBAD set: the modulus is out of range (R262). DEDUCED, log entry 55. -/
def Core.badVq (x : Core) (l : List Nat) : Core := (l.foldl (fun y n => y.setV n (List.replicate 16 0)) x).vqBad

/-! ### Modular arithmetic (R262, R263) -/

/-- vd from va and vb, modulo VQ or, with NORED, modulo the element width. -/
def Core.vbin (x : Core) (i : Ins) (plain : Nat → Nat → Nat) (f : Nat → Nat → Nat → Nat) : Core :=
  let d := bits i.w 11 8
  let a := x.els (bits i.w 7 4)
  let b := x.operand i.bcast (bits i.w 3 0)
  if i.nored then x.setEls d (List.zipWith plain a b)
  else if qInRange (vdl x.mode) x.vq then x.setEls d (List.zipWith (f x.vq.toNat) a b)
  else x.badVq [d]

/-- The element width as a modulus. -/
def Core.elMod (x : Core) : Nat := if vdl x.mode then 2 ^ 36 else 2 ^ 18

/-- va and vb of a butterfly; where both name one vector, its lanes are open. -/
def Core.setPair (x : Core) (a b : Nat) (la lb : List Nat) : Core :=
  if a = b then x.setV a ((List.range 16).map (fun n => Config.laneOpen (lanesFrom (vdl x.mode) la) (lanesFrom (vdl x.mode) lb) n))
  else (x.setEls a la).setEls b lb

/-- A butterfly of vt, va, vb: `f` gives the new elements of va and vb. DESIGN CHOICE, log entry 54. -/
def Core.vfly (x : Core) (i : Ins) (f : Nat → Nat → Nat → Nat → Nat × Nat) : Core :=
  let a := bits i.w 7 4
  let b := bits i.w 3 0
  if qInRange (vdl x.mode) x.vq then
    let t := x.operand i.bcast (bits i.w 11 8)
    let r := List.zipWith (fun t ab => f x.vq.toNat t ab.1 ab.2) t (List.zip (x.els a) (x.els b))
    x.setPair a b (r.map (fun p => p.1)) (r.map (fun p => p.2))
  else x.badVq [a, b]

/-- VADD. -/
def execKVadd (core : Nat) (pre : List (BitVec 9)) (w : Word) (s : State) : Host.Outcome State Fault Refusal :=
  s.kreg core pre w .vadd (fun i x => x.vbin i (fun a b => a + b) (fun q a b => (a + b) % q))

/-- VSUB. -/
def execKVsub (core : Nat) (pre : List (BitVec 9)) (w : Word) (s : State) : Host.Outcome State Fault Refusal :=
  s.kreg core pre w .vsub (fun i x => x.vbin i (fun a b => subRes x.elMod a b) subRes)

/-- VMUL. -/
def execKVmul (core : Nat) (pre : List (BitVec 9)) (w : Word) (s : State) : Host.Outcome State Fault Refusal :=
  s.kreg core pre w .vmul (fun i x => x.vbin i (fun a b => a * b) (fun q a b => a * b % q))

/-- VBFLY: t = vt·vb, va ← va + t, vb ← va − t. -/
def execKVbfly (core : Nat) (pre : List (BitVec 9)) (w : Word) (s : State) : Host.Outcome State Fault Refusal :=
  s.kreg core pre w .vbfly (fun i x => x.vfly i (fun q t a b => ((a + t * b % q) % q, subRes q a (t * b % q))))

/-- VGS: va ← va + vb, vb ← (va − vb)·vt. -/
def execKVgs (core : Nat) (pre : List (BitVec 9)) (w : Word) (s : State) : Host.Outcome State Fault Refusal :=
  s.kreg core pre w .vgs (fun i x => x.vfly i (fun q t a b => ((a + b) % q, subRes q a b * t % q)))

/-! ### Moves between elements -/

/-- VPERM: element i ← the element of va that vb names. -/
def execKVperm (core : Nat) (pre : List (BitVec 9)) (w : Word) (s : State) : Host.Outcome State Fault Refusal :=
  s.kreg core pre w .vperm (fun i x =>
    let a := x.els (bits i.w 7 4)
    x.setEls (bits i.w 11 8) ((x.els (bits i.w 3 0)).map (fun n => a.getD (n % x.elCount) 0)))

/-- VMOV. -/
def execKVmov (core : Nat) (pre : List (BitVec 9)) (w : Word) (s : State) : Host.Outcome State Fault Refusal :=
  s.kreg core pre w .vmov (fun i x => x.setV (bits i.w 11 8) (x.vr (bits i.w 3 0)))

/-- VSPLAT. -/
def execKVsplat (core : Nat) (pre : List (BitVec 9)) (w : Word) (s : State) : Host.Outcome State Fault Refusal :=
  s.kreg core pre w .vsplat (fun i x => x.setEls (bits i.w 11 8) (List.replicate x.elCount (x.scalar (bits i.w 4 0))))

/-- VEXT: w8 to w15, or d4 to d7, ← one element. -/
def execKVext (core : Nat) (pre : List (BitVec 9)) (w : Word) (s : State) : Host.Outcome State Fault Refusal :=
  s.kreg core pre w .vext (fun i x =>
    if vdl x.mode then x.setD (4 + bits i.w 2 1) (BitVec.ofNat 36 ((x.els (bits i.w 11 8)).getD (bits i.w 6 4) 0))
    else x.setW (8 + bits i.w 2 0) (wd ((x.els (bits i.w 11 8)).getD (bits i.w 7 4) 0)))

/-- VINS: one element ← w8 to w15, or d4 to d7. -/
def execKVins (core : Nat) (pre : List (BitVec 9)) (w : Word) (s : State) : Host.Outcome State Fault Refusal :=
  s.kreg core pre w .vins (fun i x =>
    let v := bits i.w 11 8
    if vdl x.mode then x.setEls v ((x.els v).set (bits i.w 6 4) (x.dr (4 + bits i.w 2 1)).toNat)
    else x.setEls v ((x.els v).set (bits i.w 7 4) (x.wr (8 + bits i.w 2 0)).toNat))

/-! ### Vector memory (R246, R253, R254) -/

/-- VLD: 16 words from an even address. -/
def execKVld (core : Nat) (pre : List (BitVec 9)) (w : Word) (s : State) : Host.Outcome State Fault Refusal :=
  s.kaz core pre w .vld (fun t i x => let a := x.addressV i
    evenOr a.1 2 t (t.kload core a.1 16 (.v (bits i.w 11 8)) id a.2))

/-- VST: 16 words to an even address. -/
def execKVst (core : Nat) (pre : List (BitVec 9)) (w : Word) (s : State) : Host.Outcome State Fault Refusal :=
  s.kaz core pre w .vst (fun t i x => let a := x.addressV i
    evenOr a.1 2 t (t.kstore core a.1 (x.vr (bits i.w 11 8)) a.2))

/-- VLDB: one word, or in double-lane mode a pair at an even address, to every element. -/
def execKVldb (core : Nat) (pre : List (BitVec 9)) (w : Word) (s : State) : Host.Outcome State Fault Refusal :=
  s.kaz core pre w .vldb (fun t i x => let a := x.addressV i
    if vdl x.mode then evenOr a.1 2 t (t.kload core a.1 2 (.v (bits i.w 11 8)) (fun l => (List.replicate 8 l).flatten) a.2)
    else t.kload core a.1 1 (.v (bits i.w 11 8)) (fun l => (List.replicate 16 l).flatten) a.2)

end Sys2Proof.Machine
end

