-- ==== Sys2Proof/Machine/Dispatch.lean ====
section
/-! DEFINITION. One arm per command, each one direct call of its meaning. -/
namespace Sys2Proof.Machine

def exec (i : Instr) (s : State) : Host.Outcome State Fault Refusal :=
  match i with
  | .regWrite req page word width val => Sys2Proof.Machine.execRegWrite req page word width val s
  | .reg36LowerRead req page word acc => Sys2Proof.Machine.execReg36LowerRead req page word acc s
  | .reg36UpperRead req page word acc => Sys2Proof.Machine.execReg36UpperRead req page word acc s
  | .reg36LowerWrite req page word val => Sys2Proof.Machine.execReg36LowerWrite req page word val s
  | .reg36UpperWrite req page word val => Sys2Proof.Machine.execReg36UpperWrite req page word val s
  | .postedWriteSettle page => Sys2Proof.Machine.execPostedWriteSettle page s
  | .enWrite1 req page => Sys2Proof.Machine.execEnWrite1 req page s
  | .enWrite0 req page => Sys2Proof.Machine.execEnWrite0 req page s
  | .stop req page => Sys2Proof.Machine.execStop req page s
  | .sreset req page => Sys2Proof.Machine.execSreset req page s
  | .shutdownComplete page => Sys2Proof.Machine.execShutdownComplete page s
  | .startUpDone page pass vec => Sys2Proof.Machine.execStartUpDone page pass vec s
  | .pgLockWrite req page => Sys2Proof.Machine.execPgLockWrite req page s
  | .eventDeliver src => Sys2Proof.Machine.execEventDeliver src s
  | .msixUnmask vec => Sys2Proof.Machine.execMsixUnmask vec s
  | .routeDataAccess req wr => Sys2Proof.Machine.execRouteDataAccess req wr s
  | .lostSrcRead req => Sys2Proof.Machine.execLostSrcRead req s
  | .swSetWrite req idx val => Sys2Proof.Machine.execSwSetWrite req idx val s
  | .causewayIdle dieF far => Sys2Proof.Machine.execCausewayIdle dieF far s
  | .causewayTransferReceive dieF far payload ctr tag => Sys2Proof.Machine.execCausewayTransferReceive dieF far payload ctr tag s
  | .causewaySilence dieF => Sys2Proof.Machine.execCausewaySilence dieF s
  | .tailDbWrite req q val => Sys2Proof.Machine.execTailDbWrite req q val s
  | .entryFetchData q cells err => Sys2Proof.Machine.execEntryFetchData q cells err s
  | .hostDataArrive key cell sg data err => Sys2Proof.Machine.execHostDataArrive key cell sg data err s
  | .hostWriteError key => Sys2Proof.Machine.execHostWriteError key s
  | .jobPlace key => Sys2Proof.Machine.execJobPlace key s
  | .prqHostError => Sys2Proof.Machine.execPrqHostError s
  | .jobPark key done => Sys2Proof.Machine.execJobPark key done s
  | .jobResume key rec err => Sys2Proof.Machine.execJobResume key rec err s
  | .sessionMigrate sess => Sys2Proof.Machine.execSessionMigrate sess s
  | .headPublish q => Sys2Proof.Machine.execHeadPublish q s
  | .irqModTimer q => Sys2Proof.Machine.execIrqModTimer q s
  | .wqNop key => Sys2Proof.Machine.execWqNop key s
  | .placeCommit req => Sys2Proof.Machine.execPlaceCommit req s
  | .placeDiscard req => Sys2Proof.Machine.execPlaceDiscard req s
  | .placeLookup req => Sys2Proof.Machine.execPlaceLookup req s
  | .lookupDone => Sys2Proof.Machine.execLookupDone s
  | .recomputeDone => Sys2Proof.Machine.execRecomputeDone s
  | .membershipFrameReceive src epoch members ovrs salt => Sys2Proof.Machine.execMembershipFrameReceive src epoch members ovrs salt s
  | .resyncReceive epoch members ovrs salt => Sys2Proof.Machine.execResyncReceive epoch members ovrs salt s
  | .forwardReceive origin tag epoch cls resWait rdyWait qkey gb cells data verdict ctx => Sys2Proof.Machine.execForwardReceive origin tag epoch cls resWait rdyWait qkey gb cells data verdict ctx s
  | .moved tag epoch => Sys2Proof.Machine.execMoved tag epoch s
  | .forwardAckReceive src tag => Sys2Proof.Machine.execForwardAckReceive src tag s
  | .forwardTimeout tag => Sys2Proof.Machine.execForwardTimeout tag s
  | .heartbeat dst => Sys2Proof.Machine.execHeartbeat dst s
  | .forwardResultReceive src tag status octets outs ctx => Sys2Proof.Machine.execForwardResultReceive src tag status octets outs ctx s
  | .resultAckReceive src tag => Sys2Proof.Machine.execResultAckReceive src tag s
  | .forwardAbortReceive src tag => Sys2Proof.Machine.execForwardAbortReceive src tag s
  | .forwardAbortAck q tag => Sys2Proof.Machine.execForwardAbortAck q tag s
  | .flitReceive port flit => Sys2Proof.Machine.execFlitReceive port flit s
  | .nakReceive port => Sys2Proof.Machine.execNakReceive port s
  | .denletMessageReceive port len dst => Sys2Proof.Machine.execDenletMessageReceive port len dst s
  | .linkRekey port tx => Sys2Proof.Machine.execLinkRekey port tx s
  | .denletSilence port => Sys2Proof.Machine.execDenletSilence port s
  | .trainDone port ok => Sys2Proof.Machine.execTrainDone port ok s
  | .attestDone port certOk anchors sigOk peer epoch => Sys2Proof.Machine.execAttestDone port certOk anchors sigOk peer epoch s
  | .eqIdleInsert port => Sys2Proof.Machine.execEqIdleInsert port s
  | .dnlxRouteDataAccess req wr => Sys2Proof.Machine.execDnlxRouteDataAccess req wr s
  | .timeExchange port t1 t2 t3 t4 => Sys2Proof.Machine.execTimeExchange port t1 t2 t3 t4 s
  | .timeMasterLoss => Sys2Proof.Machine.execTimeMasterLoss s
  | .timeSet req val => Sys2Proof.Machine.execTimeSet req val s
  | .systimeRead req => Sys2Proof.Machine.execSystimeRead req s
  | .healthFail last window => Sys2Proof.Machine.execHealthFail last window s
  | .drbgReseed inst => Sys2Proof.Machine.execDrbgReseed inst s
  | .sessOpen key => Sys2Proof.Machine.execSessOpen key s
  | .sessClose key => Sys2Proof.Machine.execSessClose key s
  | .sessRekey key => Sys2Proof.Machine.execSessRekey key s
  | .pageLoad key => Sys2Proof.Machine.execPageLoad key s
  | .chunkVerify key chunk data err => Sys2Proof.Machine.execChunkVerify key chunk data err s
  | .pageEvict key => Sys2Proof.Machine.execPageEvict key s
  | .evictWrite key => Sys2Proof.Machine.execEvictWrite key s
  | .credWrite key => Sys2Proof.Machine.execCredWrite key s
  | .credDerive key => Sys2Proof.Machine.execCredDerive key s
  | .credRetire key => Sys2Proof.Machine.execCredRetire key s
  | .reclaim key => Sys2Proof.Machine.execReclaim key s
  | .slotGenerate key => Sys2Proof.Machine.execSlotGenerate key s
  | .slotUnwrap key => Sys2Proof.Machine.execSlotUnwrap key s
  | .slotWrap key => Sys2Proof.Machine.execSlotWrap key s
  | .slotDerive key => Sys2Proof.Machine.execSlotDerive key s
  | .slotDestroy key => Sys2Proof.Machine.execSlotDestroy key s
  | .slotInfo key => Sys2Proof.Machine.execSlotInfo key s
  | .rngGet key => Sys2Proof.Machine.execRngGet key s
  | .journalCompact => Sys2Proof.Machine.execJournalCompact s
  | .qkeyDataWrite req val => Sys2Proof.Machine.execQkeyDataWrite req val s
  | .cerCommission req => Sys2Proof.Machine.execCerCommission req s
  | .cerEnrolDomain req => Sys2Proof.Machine.execCerEnrolDomain req s
  | .cerSetTamper req => Sys2Proof.Machine.execCerSetTamper req s
  | .cerLeaveGb req => Sys2Proof.Machine.execCerLeaveGb req s
  | .cerRetire req => Sys2Proof.Machine.execCerRetire req s
  | .cerCustodians req => Sys2Proof.Machine.execCerCustodians req s
  | .cerCancel req => Sys2Proof.Machine.execCerCancel req s
  | .custodianCardProcess stn pubkey sig comp fail => Sys2Proof.Machine.execCustodianCardProcess stn pubkey sig comp fail s
  | .ceremonyTimeout => Sys2Proof.Machine.execCeremonyTimeout s
  | .ecbEnc key chk => Sys2Proof.Machine.execEcbEnc key chk s
  | .ecbDec key chk => Sys2Proof.Machine.execEcbDec key chk s
  | .cbcEnc key chk => Sys2Proof.Machine.execCbcEnc key chk s
  | .cbcDec key chk => Sys2Proof.Machine.execCbcDec key chk s
  | .ctr key chk => Sys2Proof.Machine.execCtr key chk s
  | .gcmEnc key chk => Sys2Proof.Machine.execGcmEnc key chk s
  | .gcmDec key chk => Sys2Proof.Machine.execGcmDec key chk s
  | .ccmEnc key chk => Sys2Proof.Machine.execCcmEnc key chk s
  | .ccmDec key chk => Sys2Proof.Machine.execCcmDec key chk s
  | .cmacGen key chk => Sys2Proof.Machine.execCmacGen key chk s
  | .cmacVer key chk => Sys2Proof.Machine.execCmacVer key chk s
  | .kwWrap key chk => Sys2Proof.Machine.execKwWrap key chk s
  | .kwUnwrap key chk => Sys2Proof.Machine.execKwUnwrap key chk s
  | .kwpWrap key chk => Sys2Proof.Machine.execKwpWrap key chk s
  | .kwpUnwrap key chk => Sys2Proof.Machine.execKwpUnwrap key chk s
  | .akaMilenage key chk => Sys2Proof.Machine.execAkaMilenage key chk s
  | .akaResync key chk => Sys2Proof.Machine.execAkaResync key chk s
  | .sha224 key chk => Sys2Proof.Machine.execSha224 key chk s
  | .sha256 key chk => Sys2Proof.Machine.execSha256 key chk s
  | .sha384 key chk => Sys2Proof.Machine.execSha384 key chk s
  | .sha512 key chk => Sys2Proof.Machine.execSha512 key chk s
  | .sha3224 key chk => Sys2Proof.Machine.execSha3224 key chk s
  | .sha3256 key chk => Sys2Proof.Machine.execSha3256 key chk s
  | .sha3384 key chk => Sys2Proof.Machine.execSha3384 key chk s
  | .sha3512 key chk => Sys2Proof.Machine.execSha3512 key chk s
  | .shake128 key chk => Sys2Proof.Machine.execShake128 key chk s
  | .shake256 key chk => Sys2Proof.Machine.execShake256 key chk s
  | .hmacGen key => Sys2Proof.Machine.execHmacGen key s
  | .hmacVer key => Sys2Proof.Machine.execHmacVer key s
  | .gbHmac key chk => Sys2Proof.Machine.execGbHmac key chk s
  | .resultRead req unit idx => Sys2Proof.Machine.execResultRead req unit idx s
  | .windowExpired unit => Sys2Proof.Machine.execWindowExpired unit s
  | .bnModexp key chk => Sys2Proof.Machine.execBnModexp key chk s
  | .bnModmul key chk => Sys2Proof.Machine.execBnModmul key chk s
  | .bnModadd key chk => Sys2Proof.Machine.execBnModadd key chk s
  | .bnModsub key chk => Sys2Proof.Machine.execBnModsub key chk s
  | .bnModinv key chk => Sys2Proof.Machine.execBnModinv key chk s
  | .bnCurvechk key chk => Sys2Proof.Machine.execBnCurvechk key chk s
  | .bnProgramEnqueue key => Sys2Proof.Machine.execBnProgramEnqueue key s
  | .load unit chk => Sys2Proof.Machine.execLoad unit chk s
  | .store unit chk => Sys2Proof.Machine.execStore unit chk s
  | .convert unit chk => Sys2Proof.Machine.execConvert unit chk s
  | .toMont unit chk => Sys2Proof.Machine.execToMont unit chk s
  | .fromMont unit chk => Sys2Proof.Machine.execFromMont unit chk s
  | .modadd unit chk => Sys2Proof.Machine.execModadd unit chk s
  | .modsub unit chk => Sys2Proof.Machine.execModsub unit chk s
  | .modmul unit chk => Sys2Proof.Machine.execModmul unit chk s
  | .modinv unit chk => Sys2Proof.Machine.execModinv unit chk s
  | .modexp unit chk => Sys2Proof.Machine.execModexp unit chk s
  | .curvechk unit chk => Sys2Proof.Machine.execCurvechk unit chk s
  | .bnYield unit done => Sys2Proof.Machine.execBnYield unit done s
  | .bnAbort key => Sys2Proof.Machine.execBnAbort key s
  | .refuseRead req unit => Sys2Proof.Machine.execRefuseRead req unit s
  | .kNop core pre w => Sys2Proof.Machine.execKNop core pre w s
  | .kRfe core pre w => Sys2Proof.Machine.execKRfe core pre w s
  | .kSync core pre w => Sys2Proof.Machine.execKSync core pre w s
  | .kWaiti core pre w => Sys2Proof.Machine.execKWaiti core pre w s
  | .kBreak core pre w => Sys2Proof.Machine.execKBreak core pre w s
  | .kCtxsw core pre w => Sys2Proof.Machine.execKCtxsw core pre w s
  | .kJget core pre w => Sys2Proof.Machine.execKJget core pre w s
  | .kSavectx core pre w => Sys2Proof.Machine.execKSavectx core pre w s
  | .kLoadctx core pre w => Sys2Proof.Machine.execKLoadctx core pre w s
  | .kJdone core pre w => Sys2Proof.Machine.execKJdone core pre w s
  | .kMov core pre w => Sys2Proof.Machine.execKMov core pre w s
  | .kAdd core pre w => Sys2Proof.Machine.execKAdd core pre w s
  | .kSub core pre w => Sys2Proof.Machine.execKSub core pre w s
  | .kAddx core pre w => Sys2Proof.Machine.execKAddx core pre w s
  | .kSubx core pre w => Sys2Proof.Machine.execKSubx core pre w s
  | .kAnd core pre w => Sys2Proof.Machine.execKAnd core pre w s
  | .kOr core pre w => Sys2Proof.Machine.execKOr core pre w s
  | .kXor core pre w => Sys2Proof.Machine.execKXor core pre w s
  | .kAndn core pre w => Sys2Proof.Machine.execKAndn core pre w s
  | .kShl core pre w => Sys2Proof.Machine.execKShl core pre w s
  | .kShr core pre w => Sys2Proof.Machine.execKShr core pre w s
  | .kSar core pre w => Sys2Proof.Machine.execKSar core pre w s
  | .kRol core pre w => Sys2Proof.Machine.execKRol core pre w s
  | .kMul core pre w => Sys2Proof.Machine.execKMul core pre w s
  | .kMulh core pre w => Sys2Proof.Machine.execKMulh core pre w s
  | .kMulhs core pre w => Sys2Proof.Machine.execKMulhs core pre w s
  | .kMull core pre w => Sys2Proof.Machine.execKMull core pre w s
  | .kBrev core pre w => Sys2Proof.Machine.execKBrev core pre w s
  | .kClz core pre w => Sys2Proof.Machine.execKClz core pre w s
  | .kPopc core pre w => Sys2Proof.Machine.execKPopc core pre w s
  | .kOcthi core pre w => Sys2Proof.Machine.execKOcthi core pre w s
  | .kOctlo core pre w => Sys2Proof.Machine.execKOctlo core pre w s
  | .kOctpk core pre w => Sys2Proof.Machine.execKOctpk core pre w s
  | .kMovd core pre w => Sys2Proof.Machine.execKMovd core pre w s
  | .kAddd core pre w => Sys2Proof.Machine.execKAddd core pre w s
  | .kSubd core pre w => Sys2Proof.Machine.execKSubd core pre w s
  | .kMova core pre w => Sys2Proof.Machine.execKMova core pre w s
  | .kMovda core pre w => Sys2Proof.Machine.execKMovda core pre w s
  | .kAdda core pre w => Sys2Proof.Machine.execKAdda core pre w s
  | .kShld core pre w => Sys2Proof.Machine.execKShld core pre w s
  | .kShrd core pre w => Sys2Proof.Machine.execKShrd core pre w s
  | .kCmpeq core pre w => Sys2Proof.Machine.execKCmpeq core pre w s
  | .kCmplt core pre w => Sys2Proof.Machine.execKCmplt core pre w s
  | .kCmpltu core pre w => Sys2Proof.Machine.execKCmpltu core pre w s
  | .kPand core pre w => Sys2Proof.Machine.execKPand core pre w s
  | .kPor core pre w => Sys2Proof.Machine.execKPor core pre w s
  | .kPxor core pre w => Sys2Proof.Machine.execKPxor core pre w s
  | .kPandn core pre w => Sys2Proof.Machine.execKPandn core pre w s
  | .kMovi core pre w => Sys2Proof.Machine.execKMovi core pre w s
  | .kAddi core pre w => Sys2Proof.Machine.execKAddi core pre w s
  | .kAndi core pre w => Sys2Proof.Machine.execKAndi core pre w s
  | .kOri core pre w => Sys2Proof.Machine.execKOri core pre w s
  | .kXori core pre w => Sys2Proof.Machine.execKXori core pre w s
  | .kShli core pre w => Sys2Proof.Machine.execKShli core pre w s
  | .kShri core pre w => Sys2Proof.Machine.execKShri core pre w s
  | .kSari core pre w => Sys2Proof.Machine.execKSari core pre w s
  | .kMuli core pre w => Sys2Proof.Machine.execKMuli core pre w s
  | .kMovid core pre w => Sys2Proof.Machine.execKMovid core pre w s
  | .kAddid core pre w => Sys2Proof.Machine.execKAddid core pre w s
  | .kAddia core pre w => Sys2Proof.Machine.execKAddia core pre w s
  | .kMovia core pre w => Sys2Proof.Machine.execKMovia core pre w s
  | .kLeapc core pre w => Sys2Proof.Machine.execKLeapc core pre w s
  | .kUcmdCipher core pre w => Sys2Proof.Machine.execKUcmdCipher core pre w s
  | .kUcmdDigest core pre w => Sys2Proof.Machine.execKUcmdDigest core pre w s
  | .kUcmdBignum core pre w => Sys2Proof.Machine.execKUcmdBignum core pre w s
  | .kUcmdHostRead core pre w => Sys2Proof.Machine.execKUcmdHostRead core pre w s
  | .kUcmdHostWrite core pre w => Sys2Proof.Machine.execKUcmdHostWrite core pre w s
  | .kUcmdComplete key chk => Sys2Proof.Machine.execKUcmdComplete key chk s
  | .kLd core pre w => Sys2Proof.Machine.execKLd core pre w s
  | .kSt core pre w => Sys2Proof.Machine.execKSt core pre w s
  | .kLdd core pre w => Sys2Proof.Machine.execKLdd core pre w s
  | .kStd core pre w => Sys2Proof.Machine.execKStd core pre w s
  | .kLda core pre w => Sys2Proof.Machine.execKLda core pre w s
  | .kSta core pre w => Sys2Proof.Machine.execKSta core pre w s
  | .kLea core pre w => Sys2Proof.Machine.execKLea core pre w s
  | .kSwap core pre w => Sys2Proof.Machine.execKSwap core pre w s
  | .kBr core pre w => Sys2Proof.Machine.execKBr core pre w s
  | .kCall core pre w => Sys2Proof.Machine.execKCall core pre w s
  | .kJr core pre w => Sys2Proof.Machine.execKJr core pre w s
  | .kCallr core pre w => Sys2Proof.Machine.execKCallr core pre w s
  | .kLoop core pre w => Sys2Proof.Machine.execKLoop core pre w s
  | .kLoopi core pre w => Sys2Proof.Machine.execKLoopi core pre w s
  | .kTrap core pre w => Sys2Proof.Machine.execKTrap core pre w s
  | .kMovsFromSpecial core pre w => Sys2Proof.Machine.execKMovsFromSpecial core pre w s
  | .kMovsToSpecial core pre w => Sys2Proof.Machine.execKMovsToSpecial core pre w s
  | .kVadd core pre w => Sys2Proof.Machine.execKVadd core pre w s
  | .kVsub core pre w => Sys2Proof.Machine.execKVsub core pre w s
  | .kVmul core pre w => Sys2Proof.Machine.execKVmul core pre w s
  | .kVbfly core pre w => Sys2Proof.Machine.execKVbfly core pre w s
  | .kVgs core pre w => Sys2Proof.Machine.execKVgs core pre w s
  | .kVperm core pre w => Sys2Proof.Machine.execKVperm core pre w s
  | .kVld core pre w => Sys2Proof.Machine.execKVld core pre w s
  | .kVst core pre w => Sys2Proof.Machine.execKVst core pre w s
  | .kVldb core pre w => Sys2Proof.Machine.execKVldb core pre w s
  | .kVmov core pre w => Sys2Proof.Machine.execKVmov core pre w s
  | .kVsplat core pre w => Sys2Proof.Machine.execKVsplat core pre w s
  | .kVext core pre w => Sys2Proof.Machine.execKVext core pre w s
  | .kVins core pre w => Sys2Proof.Machine.execKVins core pre w s
  | .interruptEntry core => Sys2Proof.Machine.execInterruptEntry core s
  | .lockstepMismatch core => Sys2Proof.Machine.execLockstepMismatch core s
  | .compositeAbort core => Sys2Proof.Machine.execCompositeAbort core s
  | .abortTimeout core => Sys2Proof.Machine.execAbortTimeout core s
  | .vfailRead req core => Sys2Proof.Machine.execVfailRead req core s
  | .rsaCrt key => Sys2Proof.Machine.execRsaCrt key s
  | .ecdsaP256Sign key => Sys2Proof.Machine.execEcdsaP256Sign key s
  | .ecdsaP256Ver key => Sys2Proof.Machine.execEcdsaP256Ver key s
  | .ecdsaP384Ver key => Sys2Proof.Machine.execEcdsaP384Ver key s
  | .ecdhP256 key => Sys2Proof.Machine.execEcdhP256 key s
  | .cryptogramVer key => Sys2Proof.Machine.execCryptogramVer key s
  | .pinTranslate key => Sys2Proof.Machine.execPinTranslate key s
  | .kdfTree key => Sys2Proof.Machine.execKdfTree key s
  | .akaTuak key => Sys2Proof.Machine.execAkaTuak key s
  | .mlkemKeygen key => Sys2Proof.Machine.execMlkemKeygen key s
  | .mlkemEncaps key => Sys2Proof.Machine.execMlkemEncaps key s
  | .mlkemDecaps key => Sys2Proof.Machine.execMlkemDecaps key s
  | .mldsaKeygen key => Sys2Proof.Machine.execMldsaKeygen key s
  | .mldsaSign key => Sys2Proof.Machine.execMldsaSign key s
  | .mldsaVerify key => Sys2Proof.Machine.execMldsaVerify key s
  | .randRead req cl idx => Sys2Proof.Machine.execRandRead req cl idx s
  | .gcolDataAccess req n wr => Sys2Proof.Machine.execGcolDataAccess req n wr s
  | .granuleClear n => Sys2Proof.Machine.execGranuleClear n s
  | .ruleDataAccess req wr => Sys2Proof.Machine.execRuleDataAccess req wr s
  | .dbgRead req => Sys2Proof.Machine.execDbgRead req s
  | .dbgWrite req => Sys2Proof.Machine.execDbgWrite req s
  | .dbgacc cmd addr data => Sys2Proof.Machine.execDbgacc cmd addr data s
  | .haltReqWrite req k val => Sys2Proof.Machine.execHaltReqWrite req k val s
  | .coreHalt core => Sys2Proof.Machine.execCoreHalt core s
  | .resumeWrite req k val => Sys2Proof.Machine.execResumeWrite req k val s
  | .lifeAdv req val => Sys2Proof.Machine.execLifeAdv req val s
  | .arbiterGrant kind inst arrivals cycles => Sys2Proof.Machine.execArbiterGrant kind inst arrivals cycles s
  | .ageRaise kind inst rq => Sys2Proof.Machine.execAgeRaise kind inst rq s
  | .owmSwitched => Sys2Proof.Machine.execOwmSwitched s
  | .rqClassAccess req wr => Sys2Proof.Machine.execRqClassAccess req wr s
  | .monSelWrite req val => Sys2Proof.Machine.execMonSelWrite req val s
  | .monMaxwaitRead req => Sys2Proof.Machine.execMonMaxwaitRead req s
  | .cstActivate key => Sys2Proof.Machine.execCstActivate key s
  | .cstApdu key => Sys2Proof.Machine.execCstApdu key s
  | .cstDeactivate key => Sys2Proof.Machine.execCstDeactivate key s
  | .cstWarmReset key => Sys2Proof.Machine.execCstWarmReset key s
  | .atrReceive stn octets parity => Sys2Proof.Machine.execAtrReceive stn octets parity s
  | .atrTimeout stn => Sys2Proof.Machine.execAtrTimeout stn s
  | .classRetryWait stn => Sys2Proof.Machine.execClassRetryWait stn s
  | .ppsResponse stn octets parity => Sys2Proof.Machine.execPpsResponse stn octets parity s
  | .t0ProcedureByte stn errs octets => Sys2Proof.Machine.execT0ProcedureByte stn errs octets s
  | .wwtExpiry stn => Sys2Proof.Machine.execWwtExpiry stn s
  | .busyLimitExpiry stn => Sys2Proof.Machine.execBusyLimitExpiry stn s
  | .t1BlockReceive stn octets parity => Sys2Proof.Machine.execT1BlockReceive stn octets parity s
  | .bwtExpiry stn => Sys2Proof.Machine.execBwtExpiry stn s
  | .cwtExpiry stn => Sys2Proof.Machine.execCwtExpiry stn s
  | .clockStop stn => Sys2Proof.Machine.execClockStop stn s
  | .presChange stn high => Sys2Proof.Machine.execPresChange stn high s
  | .overcurrent stn => Sys2Proof.Machine.execOvercurrent stn s
  | .deactDone stn => Sys2Proof.Machine.execDeactDone stn s
  | .stationFault stn => Sys2Proof.Machine.execStationFault stn s
  | .fstActivate key => Sys2Proof.Machine.execFstActivate key s
  | .fstApdu key => Sys2Proof.Machine.execFstApdu key s
  | .fstDeactivate key => Sys2Proof.Machine.execFstDeactivate key s
  | .fieldOn stn => Sys2Proof.Machine.execFieldOn stn s
  | .guardEnd stn => Sys2Proof.Machine.execGuardEnd stn s
  | .fieldOffDone stn => Sys2Proof.Machine.execFieldOffDone stn s
  | .ping stn inPhase quadrature => Sys2Proof.Machine.execPing stn inPhase quadrature s
  | .relearn req stn => Sys2Proof.Machine.execRelearn req stn s
  | .calMeasure stn a phi gap => Sys2Proof.Machine.execCalMeasure stn a phi gap s
  | .tagFrameReceive stn octets coll parity => Sys2Proof.Machine.execTagFrameReceive stn octets coll parity s
  | .noAnswerTimeout stn => Sys2Proof.Machine.execNoAnswerTimeout stn s
  | .hltaAccepted stn => Sys2Proof.Machine.execHltaAccepted stn s
  | .isodepBlockReceive stn octets parity => Sys2Proof.Machine.execIsodepBlockReceive stn octets parity s
  | .fwtExpiry stn => Sys2Proof.Machine.execFwtExpiry stn s
  | .arriveTimeout stn => Sys2Proof.Machine.execArriveTimeout stn s
  | .fieldStationFault stn => Sys2Proof.Machine.execFieldStationFault stn s
  | .midrRead req => Sys2Proof.Machine.execMidrRead req s
  | .identityReadDone stn start outcome fails octets => Sys2Proof.Machine.execIdentityReadDone stn start outcome fails octets s
  | .encoderCount enc1 kind => Sys2Proof.Machine.execEncoderCount enc1 kind s
  | .speedUpdate => Sys2Proof.Machine.execSpeedUpdate s
  | .markEdge ago => Sys2Proof.Machine.execMarkEdge ago s
  | .checkMarkEdge j ago => Sys2Proof.Machine.execCheckMarkEdge j ago s
  | .lineOkChange level => Sys2Proof.Machine.execLineOkChange level s
  | .holdSet req => Sys2Proof.Machine.execHoldSet req s
  | .holdClr req => Sys2Proof.Machine.execHoldClr req s
  | .lineItem key => Sys2Proof.Machine.execLineItem key s
  | .lineSetId key => Sys2Proof.Machine.execLineSetId key s
  | .lineDone key => Sys2Proof.Machine.execLineDone key s
  | .lineReject key => Sys2Proof.Machine.execLineReject key s
  | .lineQuery key => Sys2Proof.Machine.execLineQuery key s
  | .mossCheck bad => Sys2Proof.Machine.execMossCheck bad s
  | .tamperAlarm src => Sys2Proof.Machine.execTamperAlarm src s
  | .tamperConditionClear src => Sys2Proof.Machine.execTamperConditionClear src s
  | .zeroiseDone src bit => Sys2Proof.Machine.execZeroiseDone src bit s
  | .resetDevice src => Sys2Proof.Machine.execResetDevice src s
  | .retire src => Sys2Proof.Machine.execRetire src s
  | .tamperActionsDone src => Sys2Proof.Machine.execTamperActionsDone src s
  | .tamperPeriodEnd src => Sys2Proof.Machine.execTamperPeriodEnd src s
  | .latchWrite req k val => Sys2Proof.Machine.execLatchWrite req k val s
  | .bistStart req => Sys2Proof.Machine.execBistStart req s
  | .bistDone outcome us still => Sys2Proof.Machine.execBistDone outcome us still s
  | .respStageAccess req wr => Sys2Proof.Machine.execRespStageAccess req wr s
  | .respDiscard req => Sys2Proof.Machine.execRespDiscard req s
  | .lastFailRead req => Sys2Proof.Machine.execLastFailRead req s
  | .logAppend => Sys2Proof.Machine.execLogAppend s
  | .append req => Sys2Proof.Machine.execAppend req s
  | .wispLink req => Sys2Proof.Machine.execWispLink req s
  | .wispCheck req => Sys2Proof.Machine.execWispCheck req s
  | .ent0Read req busy => Sys2Proof.Machine.execEnt0Read req busy s
  | .rtc0Read req => Sys2Proof.Machine.execRtc0Read req s
  | .wispFieldOn => Sys2Proof.Machine.execWispFieldOn s
  | .wispReqa wupa => Sys2Proof.Machine.execWispReqa wupa s
  | .wispSelect known crcOk => Sys2Proof.Machine.execWispSelect known crcOk s
  | .wispHlta crcOk => Sys2Proof.Machine.execWispHlta crcOk s
  | .rdblk block crcOk => Sys2Proof.Machine.execRdblk block crcOk s
  | .program req => Sys2Proof.Machine.execProgram req s
  | .erase req => Sys2Proof.Machine.execErase req s
  | .suspend req inPulse => Sys2Proof.Machine.execSuspend req inPulse s
  | .resume req => Sys2Proof.Machine.execResume req s
  | .mapProgram req => Sys2Proof.Machine.execMapProgram req s
  | .portDProgram page seg data inPulse => Sys2Proof.Machine.execPortDProgram page seg data inPulse s
  | .flashPulseDone pass => Sys2Proof.Machine.execFlashPulseDone pass s
  | .flashWindowRead req n corr fail => Sys2Proof.Machine.execFlashWindowRead req n corr fail s
  | .brownout => Sys2Proof.Machine.execBrownout s
  | .brownoutClear => Sys2Proof.Machine.execBrownoutClear s
  | .flashWpChange low => Sys2Proof.Machine.execFlashWpChange low s
  | .flashScanDone => Sys2Proof.Machine.execFlashScanDone s
  | .porRelease gb => Sys2Proof.Machine.execPorRelease gb s
  | .supplyBrownout => Sys2Proof.Machine.execSupplyBrownout s
  | .vfieldLost => Sys2Proof.Machine.execVfieldLost s
  | .vfieldGood => Sys2Proof.Machine.execVfieldGood s
  | .powerUpdate vcore rest => Sys2Proof.Machine.execPowerUpdate vcore rest s
  | .regionStepDone => Sys2Proof.Machine.execRegionStepDone s
  | .stationAdmit => Sys2Proof.Machine.execStationAdmit s
  | .clGateWrite req val => Sys2Proof.Machine.execClGateWrite req val s
  | .ungateDone cl => Sys2Proof.Machine.execUngateDone cl s
  | .pmbusPoll good vout iout => Sys2Proof.Machine.execPmbusPoll good vout iout s
  | .pmbAlert good => Sys2Proof.Machine.execPmbAlert good s
  | .pmbusRetry good linear vout => Sys2Proof.Machine.execPmbusRetry good linear vout s
  | .resetN => Sys2Proof.Machine.execResetN s
  | .perstN => Sys2Proof.Machine.execPerstN s
  | .devWdtExpiry gb => Sys2Proof.Machine.execDevWdtExpiry gb s
  | .rgWdtExpiry k => Sys2Proof.Machine.execRgWdtExpiry k s
  | .kick req val => Sys2Proof.Machine.execKick req val s
  | .rgReset req val => Sys2Proof.Machine.execRgReset req val s
  | .rgResetDone k pass bad => Sys2Proof.Machine.execRgResetDone k pass bad s
  | .causeRead req => Sys2Proof.Machine.execCauseRead req s
  | .hummockCheck found => Sys2Proof.Machine.execHummockCheck found s
  | .clusterBistDone cl pass => Sys2Proof.Machine.execClusterBistDone cl pass s
  | .bootVerify badA badB => Sys2Proof.Machine.execBootVerify badA badB s
  | .firmwareCopy => Sys2Proof.Machine.execFirmwareCopy s
  | .journalRestore => Sys2Proof.Machine.execJournalRestore s
  | .rollbackAdv req => Sys2Proof.Machine.execRollbackAdv req s
  | .bootcfgWrite req val => Sys2Proof.Machine.execBootcfgWrite req val s
  | .scrubRead k b outcome word => Sys2Proof.Machine.execScrubRead k b outcome word s
  | .backgroundCompare background bad => Sys2Proof.Machine.execBackgroundCompare background bad s
  | .injectScrubFlip req rg => Sys2Proof.Machine.execInjectScrubFlip req rg s
  | .injectTestRow req rg => Sys2Proof.Machine.execInjectTestRow req rg s
  | .injectRegComplement req => Sys2Proof.Machine.execInjectRegComplement req s
  | .injectDone => Sys2Proof.Machine.execInjectDone s
  | .ueInfoRead req => Sys2Proof.Machine.execUeInfoRead req s
  | .regfPageRead req => Sys2Proof.Machine.execRegfPageRead req s
  | .linkRead req => Sys2Proof.Machine.execLinkRead req s
  | .atrCharacterTimeout stn => Sys2Proof.Machine.execAtrCharacterTimeout stn s
  | .ppsTimeout stn => Sys2Proof.Machine.execPpsTimeout stn s
  | .movedResend tag => Sys2Proof.Machine.execMovedResend tag s
  | .tamperResetRelease gb => Sys2Proof.Machine.execTamperResetRelease gb s
  | .resetNRelease gb => Sys2Proof.Machine.execResetNRelease gb s
  | .perstNRelease => Sys2Proof.Machine.execPerstNRelease s
  | .devWdtWarn => Sys2Proof.Machine.execDevWdtWarn s
  | .vbatApply => Sys2Proof.Machine.execVbatApply s
  | .wispFieldOff => Sys2Proof.Machine.execWispFieldOff s

end Sys2Proof.Machine
end

