-- ==== Sys2Proof/Machine/Tick.lean ====
section
/-! DEFINITION. The passing of one nanosecond while no command waits (log entry 2): system time (R123), the model's own
clock, and the core cycles of the regions. -/
namespace Sys2Proof.Machine

/-- System time after one nanosecond: at most one nanosecond in 10,000 is withheld or doubled to follow the master (R123).
DESIGN CHOICE, log entry 2. -/
def Clock.tick (c : Clock) (now : Nat) : Clock :=
  if now % 10000 ≠ 0 ∨ c.slew = 0 then { c with sys := c.sys + 1 }
  else if 0 < c.slew then { c with slew := c.slew - 1 }
  else { c with sys := c.sys + 2, slew := c.slew + 1 }

/-- The thousandths of core cycles a region adds in one nanosecond: its frequency in MHz; none while it is in reset. -/
def State.cycleStep (s : State) (k : Nat) : Nat :=
  if s.rbit P.rstc R.RSTC_RG_STAT k then 0 else (s.reg P.clk (R.CLK_RG_FREQ + k)).toNat

/-- Core cycles after one nanosecond. DESIGN CHOICE, log entry 2. -/
def State.tickCycles (s : State) : Map Nat :=
  (List.range 4).foldl (fun m k => Map.put (dflt 0) m k (Map.get (dflt 0) m k + s.cycleStep k)) s.power.cycles

/-- One nanosecond passes. DESIGN CHOICE, log entry 2. -/
def State.tick (s : State) : State :=
  let t : State := { s with now := s.now + 1 }
  if s.inReset then t else { t with clock := s.clock.tick s.now, power := { s.power with cycles := s.tickCycles } }

end Sys2Proof.Machine
end

