-- ==== Sys2Proof/WellFormed.lean ====
section
/-! DEFINITION. Which commands are well formed: page, word, queue, unit and other numbers within the ranges the spec
gives them, and octet strings of the lengths their formats have. -/
namespace Sys2Proof

/-- A command whose operands lie in the ranges of the spec. -/
def Instr.wf : Instr → Bool
  | .regWrite req page word _ _ => decide ((req.wf) ∧ (page < 4112) ∧ (word < 1024))
  | .reg36LowerRead req page word acc => decide ((req.wf) ∧ (page < 4096) ∧ (word < 1024) ∧ (acc.wf req))
  | .reg36UpperRead req page word acc => decide ((req.wf) ∧ (page < 4096) ∧ (word < 1024) ∧ (acc.wf req))
  | .reg36LowerWrite req page word _ => decide ((req.wf) ∧ (page < 4096) ∧ (word < 1024))
  | .reg36UpperWrite req page word _ => decide ((req.wf) ∧ (page < 4096) ∧ (word < 1024))
  | .postedWriteSettle page => decide ((page < 4096))
  | .enWrite1 req page => decide ((req.wf) ∧ (page < 4096))
  | .enWrite0 req page => decide ((req.wf) ∧ (page < 4096))
  | .stop req page => decide ((req.wf) ∧ (page < 4096))
  | .sreset req page => decide ((req.wf) ∧ (page < 4096))
  | .shutdownComplete page => decide ((page < 4096))
  | .startUpDone page _ vec => decide ((page < 4096) ∧ (vec < 32))
  | .pgLockWrite req page => decide ((req.wf) ∧ (page < 4096))
  | .eventDeliver src => decide ((src < 4096))
  | .msixUnmask vec => decide ((vec < 2048))
  | .routeDataAccess req _ => decide ((req.wf))
  | .lostSrcRead req => decide ((req.wf))
  | .swSetWrite req idx _ => decide ((req.wf) ∧ (idx < 7))
  | .causewayIdle _ _ => true
  | .causewayTransferReceive _ _ payload _ _ => decide ((payload.length ≤ 8))
  | .causewaySilence _ => true
  | .tailDbWrite req q _ => decide ((req.wf) ∧ (q < 256))
  | .entryFetchData q cells _ => decide ((q < 256) ∧ (cells.length % 16 = 0))
  | .hostDataArrive _ cell sg _ _ => decide ((cell < 64) ∧ (sg.length % 16 = 0 ∧ sg.length ≤ 4096))
  | .hostWriteError _ => true
  | .jobPlace _ => true
  | .prqHostError => true
  | .jobPark _ _ => true
  | .jobResume _ _ _ => true
  | .sessionMigrate sess => decide ((sess < 16384))
  | .headPublish q => decide ((q < 256))
  | .irqModTimer q => decide ((q < 256))
  | .wqNop _ => true
  | .placeCommit req => decide ((req.wf))
  | .placeDiscard req => decide ((req.wf))
  | .placeLookup req => decide ((req.wf))
  | .lookupDone => true
  | .recomputeDone => true
  | .membershipFrameReceive src _ members ovrs _ => decide ((src < 65536) ∧ (members.all (fun p => p.1 < 65536)) ∧ (ovrs.all (fun p => p.1 < 65536)))
  | .resyncReceive _ members ovrs _ => decide ((members.all (fun p => p.1 < 65536)) ∧ (ovrs.all (fun p => p.1 < 65536)))
  | .forwardReceive origin tag _ cls _ _ _ _ cells _ verdict ctx => decide ((origin < 65536) ∧ (tag < 8192) ∧ (cls < 4) ∧ (cells.length % 16 = 0 ∧ 16 ≤ cells.length ∧ cells.length ≤ 1024) ∧ (verdict < 3) ∧ (ctx.all (fun c => c.length = 64)))
  | .moved tag _ => decide ((tag < 8192))
  | .forwardAckReceive src tag => decide ((src < 65536) ∧ (tag < 8192))
  | .forwardTimeout tag => decide ((tag < 8192))
  | .heartbeat dst => decide ((dst < 65536))
  | .forwardResultReceive src tag status _ _ ctx => decide ((src < 65536) ∧ (tag < 8192) ∧ (status < 0o25) ∧ (ctx.all (fun c => c.length = 64)))
  | .resultAckReceive src tag => decide ((src < 65536) ∧ (tag < 8192))
  | .forwardAbortReceive src tag => decide ((src < 65536) ∧ (tag < 8192))
  | .forwardAbortAck q tag => decide ((q < 256) ∧ (tag < 8192))
  | .flitReceive port flit => decide ((port < 4) ∧ (flit.length = 64))
  | .nakReceive port => decide ((port < 4))
  | .denletMessageReceive port len dst => decide ((port < 4) ∧ (0 < len) ∧ (dst < 65536))
  | .linkRekey port _ => decide ((port < 4))
  | .denletSilence port => decide ((port < 4))
  | .trainDone port _ => decide ((port < 4))
  | .attestDone port _ _ _ peer _ => decide ((port < 4) ∧ (peer < 65536))
  | .eqIdleInsert port => decide ((port < 4))
  | .dnlxRouteDataAccess req _ => decide ((req.wf))
  | .timeExchange port t1 t2 t3 t4 => decide ((port < 4) ∧ (t1 < 2 ^ 72) ∧ (t2 < 2 ^ 72) ∧ (t3 < 2 ^ 72) ∧ (t4 < 2 ^ 72))
  | .timeMasterLoss => true
  | .timeSet req _ => decide ((req.wf))
  | .systimeRead req => decide ((req.wf))
  | .healthFail last window => decide ((last.length ≤ 255) ∧ (window.length ≤ 512))
  | .drbgReseed inst => decide ((inst < 5))
  | .sessOpen _ => true
  | .sessClose _ => true
  | .sessRekey _ => true
  | .pageLoad _ => true
  | .chunkVerify _ chunk _ _ => decide ((chunk < 16))
  | .pageEvict _ => true
  | .evictWrite _ => true
  | .credWrite _ => true
  | .credDerive _ => true
  | .credRetire _ => true
  | .reclaim _ => true
  | .slotGenerate _ => true
  | .slotUnwrap _ => true
  | .slotWrap _ => true
  | .slotDerive _ => true
  | .slotDestroy _ => true
  | .slotInfo _ => true
  | .rngGet _ => true
  | .journalCompact => true
  | .qkeyDataWrite req _ => decide ((req.wf))
  | .cerCommission req => decide ((req.wf))
  | .cerEnrolDomain req => decide ((req.wf))
  | .cerSetTamper req => decide ((req.wf))
  | .cerLeaveGb req => decide ((req.wf))
  | .cerRetire req => decide ((req.wf))
  | .cerCustodians req => decide ((req.wf))
  | .cerCancel req => decide ((req.wf))
  | .custodianCardProcess stn pubkey sig comp fail => decide ((stn < 16) ∧ (pubkey.length = 65) ∧ (sig.length = 64) ∧ (comp.length = 48) ∧ (fail.all (fun n => n < 5)))
  | .ceremonyTimeout => true
  | .ecbEnc _ _ => true
  | .ecbDec _ _ => true
  | .cbcEnc _ _ => true
  | .cbcDec _ _ => true
  | .ctr _ _ => true
  | .gcmEnc _ _ => true
  | .gcmDec _ _ => true
  | .ccmEnc _ _ => true
  | .ccmDec _ _ => true
  | .cmacGen _ _ => true
  | .cmacVer _ _ => true
  | .kwWrap _ _ => true
  | .kwUnwrap _ _ => true
  | .kwpWrap _ _ => true
  | .kwpUnwrap _ _ => true
  | .akaMilenage _ _ => true
  | .akaResync _ _ => true
  | .sha224 _ _ => true
  | .sha256 _ _ => true
  | .sha384 _ _ => true
  | .sha512 _ _ => true
  | .sha3224 _ _ => true
  | .sha3256 _ _ => true
  | .sha3384 _ _ => true
  | .sha3512 _ _ => true
  | .shake128 _ _ => true
  | .shake256 _ _ => true
  | .hmacGen _ => true
  | .hmacVer _ => true
  | .gbHmac _ _ => true
  | .resultRead req unit idx => decide ((req.wf) ∧ (unit < 32) ∧ (idx < 32))
  | .windowExpired unit => decide ((unit < 32))
  | .bnModexp _ _ => true
  | .bnModmul _ _ => true
  | .bnModadd _ _ => true
  | .bnModsub _ _ => true
  | .bnModinv _ _ => true
  | .bnCurvechk _ _ => true
  | .bnProgramEnqueue _ => true
  | .load unit _ => decide ((unit < 16))
  | .store unit _ => decide ((unit < 16))
  | .convert unit _ => decide ((unit < 16))
  | .toMont unit _ => decide ((unit < 16))
  | .fromMont unit _ => decide ((unit < 16))
  | .modadd unit _ => decide ((unit < 16))
  | .modsub unit _ => decide ((unit < 16))
  | .modmul unit _ => decide ((unit < 16))
  | .modinv unit _ => decide ((unit < 16))
  | .modexp unit _ => decide ((unit < 16))
  | .curvechk unit _ => decide ((unit < 16))
  | .bnYield unit _ => decide ((unit < 16))
  | .bnAbort _ => true
  | .refuseRead req unit => decide ((req.wf) ∧ (unit < 16))
  | .kNop core pre w => decide ((core < 64) ∧ (pre.length ≤ 8) ∧ (baseWf w))
  | .kRfe core pre w => decide ((core < 64) ∧ (pre.length ≤ 8) ∧ (baseWf w))
  | .kSync core pre w => decide ((core < 64) ∧ (pre.length ≤ 8) ∧ (baseWf w))
  | .kWaiti core pre w => decide ((core < 64) ∧ (pre.length ≤ 8) ∧ (baseWf w))
  | .kBreak core pre w => decide ((core < 64) ∧ (pre.length ≤ 8) ∧ (baseWf w))
  | .kCtxsw core pre w => decide ((core < 64) ∧ (pre.length ≤ 8) ∧ (baseWf w))
  | .kJget core pre w => decide ((core < 64) ∧ (pre.length ≤ 8) ∧ (baseWf w))
  | .kSavectx core pre w => decide ((core < 64) ∧ (pre.length ≤ 8) ∧ (baseWf w))
  | .kLoadctx core pre w => decide ((core < 64) ∧ (pre.length ≤ 8) ∧ (baseWf w))
  | .kJdone core pre w => decide ((core < 64) ∧ (pre.length ≤ 8) ∧ (baseWf w))
  | .kMov core pre w => decide ((core < 64) ∧ (pre.length ≤ 8) ∧ (baseWf w))
  | .kAdd core pre w => decide ((core < 64) ∧ (pre.length ≤ 8) ∧ (baseWf w))
  | .kSub core pre w => decide ((core < 64) ∧ (pre.length ≤ 8) ∧ (baseWf w))
  | .kAddx core pre w => decide ((core < 64) ∧ (pre.length ≤ 8) ∧ (baseWf w))
  | .kSubx core pre w => decide ((core < 64) ∧ (pre.length ≤ 8) ∧ (baseWf w))
  | .kAnd core pre w => decide ((core < 64) ∧ (pre.length ≤ 8) ∧ (baseWf w))
  | .kOr core pre w => decide ((core < 64) ∧ (pre.length ≤ 8) ∧ (baseWf w))
  | .kXor core pre w => decide ((core < 64) ∧ (pre.length ≤ 8) ∧ (baseWf w))
  | .kAndn core pre w => decide ((core < 64) ∧ (pre.length ≤ 8) ∧ (baseWf w))
  | .kShl core pre w => decide ((core < 64) ∧ (pre.length ≤ 8) ∧ (baseWf w))
  | .kShr core pre w => decide ((core < 64) ∧ (pre.length ≤ 8) ∧ (baseWf w))
  | .kSar core pre w => decide ((core < 64) ∧ (pre.length ≤ 8) ∧ (baseWf w))
  | .kRol core pre w => decide ((core < 64) ∧ (pre.length ≤ 8) ∧ (baseWf w))
  | .kMul core pre w => decide ((core < 64) ∧ (pre.length ≤ 8) ∧ (baseWf w))
  | .kMulh core pre w => decide ((core < 64) ∧ (pre.length ≤ 8) ∧ (baseWf w))
  | .kMulhs core pre w => decide ((core < 64) ∧ (pre.length ≤ 8) ∧ (baseWf w))
  | .kMull core pre w => decide ((core < 64) ∧ (pre.length ≤ 8) ∧ (baseWf w))
  | .kBrev core pre w => decide ((core < 64) ∧ (pre.length ≤ 8) ∧ (baseWf w))
  | .kClz core pre w => decide ((core < 64) ∧ (pre.length ≤ 8) ∧ (baseWf w))
  | .kPopc core pre w => decide ((core < 64) ∧ (pre.length ≤ 8) ∧ (baseWf w))
  | .kOcthi core pre w => decide ((core < 64) ∧ (pre.length ≤ 8) ∧ (baseWf w))
  | .kOctlo core pre w => decide ((core < 64) ∧ (pre.length ≤ 8) ∧ (baseWf w))
  | .kOctpk core pre w => decide ((core < 64) ∧ (pre.length ≤ 8) ∧ (baseWf w))
  | .kMovd core pre w => decide ((core < 64) ∧ (pre.length ≤ 8) ∧ (baseWf w))
  | .kAddd core pre w => decide ((core < 64) ∧ (pre.length ≤ 8) ∧ (baseWf w))
  | .kSubd core pre w => decide ((core < 64) ∧ (pre.length ≤ 8) ∧ (baseWf w))
  | .kMova core pre w => decide ((core < 64) ∧ (pre.length ≤ 8) ∧ (baseWf w))
  | .kMovda core pre w => decide ((core < 64) ∧ (pre.length ≤ 8) ∧ (baseWf w))
  | .kAdda core pre w => decide ((core < 64) ∧ (pre.length ≤ 8) ∧ (baseWf w))
  | .kShld core pre w => decide ((core < 64) ∧ (pre.length ≤ 8) ∧ (baseWf w))
  | .kShrd core pre w => decide ((core < 64) ∧ (pre.length ≤ 8) ∧ (baseWf w))
  | .kCmpeq core pre w => decide ((core < 64) ∧ (pre.length ≤ 8) ∧ (baseWf w))
  | .kCmplt core pre w => decide ((core < 64) ∧ (pre.length ≤ 8) ∧ (baseWf w))
  | .kCmpltu core pre w => decide ((core < 64) ∧ (pre.length ≤ 8) ∧ (baseWf w))
  | .kPand core pre w => decide ((core < 64) ∧ (pre.length ≤ 8) ∧ (baseWf w))
  | .kPor core pre w => decide ((core < 64) ∧ (pre.length ≤ 8) ∧ (baseWf w))
  | .kPxor core pre w => decide ((core < 64) ∧ (pre.length ≤ 8) ∧ (baseWf w))
  | .kPandn core pre w => decide ((core < 64) ∧ (pre.length ≤ 8) ∧ (baseWf w))
  | .kMovi core pre w => decide ((core < 64) ∧ (pre.length ≤ 8) ∧ (baseWf w))
  | .kAddi core pre w => decide ((core < 64) ∧ (pre.length ≤ 8) ∧ (baseWf w))
  | .kAndi core pre w => decide ((core < 64) ∧ (pre.length ≤ 8) ∧ (baseWf w))
  | .kOri core pre w => decide ((core < 64) ∧ (pre.length ≤ 8) ∧ (baseWf w))
  | .kXori core pre w => decide ((core < 64) ∧ (pre.length ≤ 8) ∧ (baseWf w))
  | .kShli core pre w => decide ((core < 64) ∧ (pre.length ≤ 8) ∧ (baseWf w))
  | .kShri core pre w => decide ((core < 64) ∧ (pre.length ≤ 8) ∧ (baseWf w))
  | .kSari core pre w => decide ((core < 64) ∧ (pre.length ≤ 8) ∧ (baseWf w))
  | .kMuli core pre w => decide ((core < 64) ∧ (pre.length ≤ 8) ∧ (baseWf w))
  | .kMovid core pre w => decide ((core < 64) ∧ (pre.length ≤ 8) ∧ (baseWf w))
  | .kAddid core pre w => decide ((core < 64) ∧ (pre.length ≤ 8) ∧ (baseWf w))
  | .kAddia core pre w => decide ((core < 64) ∧ (pre.length ≤ 8) ∧ (baseWf w))
  | .kMovia core pre w => decide ((core < 64) ∧ (pre.length ≤ 8) ∧ (baseWf w))
  | .kLeapc core pre w => decide ((core < 64) ∧ (pre.length ≤ 8) ∧ (baseWf w))
  | .kUcmdCipher core pre w => decide ((core < 64) ∧ (pre.length ≤ 8) ∧ (baseWf w))
  | .kUcmdDigest core pre w => decide ((core < 64) ∧ (pre.length ≤ 8) ∧ (baseWf w))
  | .kUcmdBignum core pre w => decide ((core < 64) ∧ (pre.length ≤ 8) ∧ (baseWf w))
  | .kUcmdHostRead core pre w => decide ((core < 64) ∧ (pre.length ≤ 8) ∧ (baseWf w))
  | .kUcmdHostWrite core pre w => decide ((core < 64) ∧ (pre.length ≤ 8) ∧ (baseWf w))
  | .kUcmdComplete _ _ => true
  | .kLd core pre w => decide ((core < 64) ∧ (pre.length ≤ 8) ∧ (baseWf w))
  | .kSt core pre w => decide ((core < 64) ∧ (pre.length ≤ 8) ∧ (baseWf w))
  | .kLdd core pre w => decide ((core < 64) ∧ (pre.length ≤ 8) ∧ (baseWf w))
  | .kStd core pre w => decide ((core < 64) ∧ (pre.length ≤ 8) ∧ (baseWf w))
  | .kLda core pre w => decide ((core < 64) ∧ (pre.length ≤ 8) ∧ (baseWf w))
  | .kSta core pre w => decide ((core < 64) ∧ (pre.length ≤ 8) ∧ (baseWf w))
  | .kLea core pre w => decide ((core < 64) ∧ (pre.length ≤ 8) ∧ (baseWf w))
  | .kSwap core pre w => decide ((core < 64) ∧ (pre.length ≤ 8) ∧ (baseWf w))
  | .kBr core pre w => decide ((core < 64) ∧ (pre.length ≤ 8) ∧ (baseWf w))
  | .kCall core pre w => decide ((core < 64) ∧ (pre.length ≤ 8) ∧ (baseWf w))
  | .kJr core pre w => decide ((core < 64) ∧ (pre.length ≤ 8) ∧ (baseWf w))
  | .kCallr core pre w => decide ((core < 64) ∧ (pre.length ≤ 8) ∧ (baseWf w))
  | .kLoop core pre w => decide ((core < 64) ∧ (pre.length ≤ 8) ∧ (baseWf w))
  | .kLoopi core pre w => decide ((core < 64) ∧ (pre.length ≤ 8) ∧ (baseWf w))
  | .kTrap core pre w => decide ((core < 64) ∧ (pre.length ≤ 8) ∧ (baseWf w))
  | .kMovsFromSpecial core pre w => decide ((core < 64) ∧ (pre.length ≤ 8) ∧ (baseWf w))
  | .kMovsToSpecial core pre w => decide ((core < 64) ∧ (pre.length ≤ 8) ∧ (baseWf w))
  | .kVadd core pre w => decide ((core < 64) ∧ (pre.length ≤ 8) ∧ (baseWf w))
  | .kVsub core pre w => decide ((core < 64) ∧ (pre.length ≤ 8) ∧ (baseWf w))
  | .kVmul core pre w => decide ((core < 64) ∧ (pre.length ≤ 8) ∧ (baseWf w))
  | .kVbfly core pre w => decide ((core < 64) ∧ (pre.length ≤ 8) ∧ (baseWf w))
  | .kVgs core pre w => decide ((core < 64) ∧ (pre.length ≤ 8) ∧ (baseWf w))
  | .kVperm core pre w => decide ((core < 64) ∧ (pre.length ≤ 8) ∧ (baseWf w))
  | .kVld core pre w => decide ((core < 64) ∧ (pre.length ≤ 8) ∧ (baseWf w))
  | .kVst core pre w => decide ((core < 64) ∧ (pre.length ≤ 8) ∧ (baseWf w))
  | .kVldb core pre w => decide ((core < 64) ∧ (pre.length ≤ 8) ∧ (baseWf w))
  | .kVmov core pre w => decide ((core < 64) ∧ (pre.length ≤ 8) ∧ (baseWf w))
  | .kVsplat core pre w => decide ((core < 64) ∧ (pre.length ≤ 8) ∧ (baseWf w))
  | .kVext core pre w => decide ((core < 64) ∧ (pre.length ≤ 8) ∧ (baseWf w))
  | .kVins core pre w => decide ((core < 64) ∧ (pre.length ≤ 8) ∧ (baseWf w))
  | .interruptEntry core => decide ((core < 64))
  | .lockstepMismatch core => decide ((core < 64))
  | .compositeAbort core => decide ((core < 64))
  | .abortTimeout core => decide ((core < 64))
  | .vfailRead req core => decide ((req.wf) ∧ (core < 64))
  | .rsaCrt _ => true
  | .ecdsaP256Sign _ => true
  | .ecdsaP256Ver _ => true
  | .ecdsaP384Ver _ => true
  | .ecdhP256 _ => true
  | .cryptogramVer _ => true
  | .pinTranslate _ => true
  | .kdfTree _ => true
  | .akaTuak _ => true
  | .mlkemKeygen _ => true
  | .mlkemEncaps _ => true
  | .mlkemDecaps _ => true
  | .mldsaKeygen _ => true
  | .mldsaSign _ => true
  | .mldsaVerify _ => true
  | .randRead req cl idx => decide ((req.wf) ∧ (cl < 16) ∧ (idx < 16))
  | .gcolDataAccess req n _ => decide ((req.wf) ∧ (n < 16))
  | .granuleClear n => decide ((n < 16))
  | .ruleDataAccess req _ => decide ((req.wf))
  | .dbgRead req => decide ((req.wf))
  | .dbgWrite req => decide ((req.wf))
  | .dbgacc cmd _ _ => decide ((cmd < 4))
  | .haltReqWrite req k _ => decide ((req.wf) ∧ (k < 4))
  | .coreHalt core => decide ((core < 64))
  | .resumeWrite req k _ => decide ((req.wf) ∧ (k < 4))
  | .lifeAdv req _ => decide ((req.wf))
  | .arbiterGrant kind inst arrivals cycles => decide ((1 ≤ kind ∧ kind < 9) ∧ (inst < arbInstances kind) ∧ (arrivals.all (Present.wf kind inst)) ∧ (1 ≤ cycles))
  | .ageRaise kind inst rq => decide ((1 ≤ kind ∧ kind < 9) ∧ (inst < arbInstances kind) ∧ (rq < arbRequesters kind inst))
  | .owmSwitched => true
  | .rqClassAccess req _ => decide ((req.wf))
  | .monSelWrite req _ => decide ((req.wf))
  | .monMaxwaitRead req => decide ((req.wf))
  | .cstActivate _ => true
  | .cstApdu _ => true
  | .cstDeactivate _ => true
  | .cstWarmReset _ => true
  | .atrReceive stn _ _ => decide ((stn < 16))
  | .atrTimeout stn => decide ((stn < 16))
  | .classRetryWait stn => decide ((stn < 16))
  | .ppsResponse stn _ _ => decide ((stn < 16))
  | .t0ProcedureByte stn _ _ => decide ((stn < 16))
  | .wwtExpiry stn => decide ((stn < 16))
  | .busyLimitExpiry stn => decide ((stn < 16))
  | .t1BlockReceive stn _ _ => decide ((stn < 16))
  | .bwtExpiry stn => decide ((stn < 16))
  | .cwtExpiry stn => decide ((stn < 16))
  | .clockStop stn => decide ((stn < 16))
  | .presChange stn _ => decide ((stn < 16))
  | .overcurrent stn => decide ((stn < 16))
  | .deactDone stn => decide ((stn < 16))
  | .stationFault stn => decide ((stn < 16))
  | .fstActivate _ => true
  | .fstApdu _ => true
  | .fstDeactivate _ => true
  | .fieldOn stn => decide ((stn < 16))
  | .guardEnd stn => decide ((stn < 16))
  | .fieldOffDone stn => decide ((stn < 16))
  | .ping stn _ _ => decide ((stn < 16))
  | .relearn req stn => decide ((req.wf) ∧ (stn < 16))
  | .calMeasure stn _ _ _ => decide ((stn < 16))
  | .tagFrameReceive stn _ coll _ => decide ((stn < 16) ∧ (coll.all (fun c => c < 40)))
  | .noAnswerTimeout stn => decide ((stn < 16))
  | .hltaAccepted stn => decide ((stn < 16))
  | .isodepBlockReceive stn _ _ => decide ((stn < 16))
  | .fwtExpiry stn => decide ((stn < 16))
  | .arriveTimeout stn => decide ((stn < 16))
  | .fieldStationFault stn => decide ((stn < 16))
  | .midrRead req => decide ((req.wf))
  | .identityReadDone stn _ outcome fails octets => decide ((stn < 16) ∧ (outcome < 3) ∧ (fails ≤ 3) ∧ (octets.length = 256))
  | .encoderCount _ kind => decide ((kind < 3))
  | .speedUpdate => true
  | .markEdge _ => true
  | .checkMarkEdge j _ => decide ((j < 4))
  | .lineOkChange _ => true
  | .holdSet req => decide ((req.wf))
  | .holdClr req => decide ((req.wf))
  | .lineItem _ => true
  | .lineSetId _ => true
  | .lineDone _ => true
  | .lineReject _ => true
  | .lineQuery _ => true
  | .mossCheck bad => decide ((bad.all (fun p => p.1 < 208)))
  | .tamperAlarm src => decide ((src < 128))
  | .tamperConditionClear src => decide ((src < 128))
  | .zeroiseDone src bit => decide ((src < 128) ∧ (5 ≤ bit ∧ bit < 11))
  | .resetDevice src => decide ((src < 128))
  | .retire src => decide ((src < 128))
  | .tamperActionsDone src => decide ((src < 128))
  | .tamperPeriodEnd src => decide ((src < 128))
  | .latchWrite req k _ => decide ((req.wf) ∧ (k < 8))
  | .bistStart req => decide ((req.wf))
  | .bistDone outcome _ _ => decide ((outcome < 3))
  | .respStageAccess req _ => decide ((req.wf))
  | .respDiscard req => decide ((req.wf))
  | .lastFailRead req => decide ((req.wf))
  | .logAppend => true
  | .append req => decide ((req.wf))
  | .wispLink req => decide ((req.wf))
  | .wispCheck req => decide ((req.wf))
  | .ent0Read req _ => decide ((req.wf))
  | .rtc0Read req => decide ((req.wf))
  | .wispFieldOn => true
  | .wispReqa _ => true
  | .wispSelect known _ => decide ((known.length ≤ 40))
  | .wispHlta _ => true
  | .rdblk block _ => decide ((block < 65536))
  | .program req => decide ((req.wf))
  | .erase req => decide ((req.wf))
  | .suspend req _ => decide ((req.wf))
  | .resume req => decide ((req.wf))
  | .mapProgram req => decide ((req.wf))
  | .portDProgram page _ data _ => decide ((page < 131072) ∧ (data.length = 512))
  | .flashPulseDone _ => true
  | .flashWindowRead req i _ _ => decide ((req.wf) ∧ (i < 33554432))
  | .brownout => true
  | .brownoutClear => true
  | .flashWpChange _ => true
  | .flashScanDone => true
  | .porRelease _ => true
  | .supplyBrownout => true
  | .vfieldLost => true
  | .vfieldGood => true
  | .powerUpdate _ _ => true
  | .regionStepDone => true
  | .stationAdmit => true
  | .clGateWrite req _ => decide ((req.wf))
  | .ungateDone cl => decide ((cl < 16))
  | .pmbusPoll _ _ _ => true
  | .pmbAlert _ => true
  | .pmbusRetry _ _ _ => true
  | .resetN => true
  | .perstN => true
  | .devWdtExpiry _ => true
  | .rgWdtExpiry k => decide ((k < 4))
  | .kick req _ => decide ((req.wf))
  | .rgReset req _ => decide ((req.wf))
  | .rgResetDone k _ _ => decide ((k < 4))
  | .causeRead req => decide ((req.wf))
  | .hummockCheck found => decide ((found.all (fun n => n < 128)))
  | .clusterBistDone cl _ => decide ((cl < 16))
  | .bootVerify _ _ => true
  | .firmwareCopy => true
  | .journalRestore => true
  | .rollbackAdv req => decide ((req.wf))
  | .bootcfgWrite req _ => decide ((req.wf))
  | .scrubRead k b outcome word => decide ((k < 4) ∧ (b < 16) ∧ (outcome < 3) ∧ (word < 8))
  | .backgroundCompare _ _ => true
  | .injectScrubFlip req rg => decide ((req.wf) ∧ (rg < 4))
  | .injectTestRow req rg => decide ((req.wf) ∧ (rg < 4))
  | .injectRegComplement req => decide ((req.wf))
  | .injectDone => true
  | .ueInfoRead req => decide ((req.wf))
  | .regfPageRead req => decide ((req.wf))
  | .linkRead req => decide ((req.wf))
  | .atrCharacterTimeout stn => decide ((stn < 16))
  | .ppsTimeout stn => decide ((stn < 16))
  | .movedResend tag => decide ((tag < 8192))
  | .tamperResetRelease _ => true
  | .resetNRelease _ => true
  | .perstNRelease => true
  | .devWdtWarn => true
  | .vbatApply => true
  | .wispFieldOff => true

end Sys2Proof
end

