-- ==== Sys2Proof/Safety.lean ====
section
/-! DEFINITION. What counts as a sound state and a safe run: every sparse memory in its canonical form, so that equal
memories are equal data; every waiting command well formed. -/
namespace Sys2Proof.Machine

/-- The word memories (SRAM, credential frames, session contexts) are in canonical form. -/
def Memory.wf (m : Map Word) : Bool := Map.wf (dflt 0) m

/-- Every memory of the block, and the host octets it has written, is in canonical form; so is the register table. -/
def State.canonical (s : State) : Bool :=
  Memory.wf s.mem && Map.wf (dflt 0) s.host && Map.wf regReset s.regs

/-- Every waiting command is well formed. -/
def State.queueWf (s : State) : Bool := s.pending.all Sys2Proof.Instr.wf

/-- Job `j` under key `key` is the running job of opcode `op`, and no word it reads is lost (R512): what an opcode's row
acts on. -/
def State.runs (s : State) (key op : Nat) (j : Job) : Prop :=
  s.job key = some j ∧ j.st = .running ∧ j.opcode = op ∧ s.jobStruck key j = none

/-- The tables that placing job `j` reads, and the context of the session it names, have lost no word (R512). -/
def State.readsSound (s : State) (j : Job) : Prop :=
  s.struckIn (2 ^ 42) 1 = none ∧ ∀ n c, j.sess = some n → s.sessSlot n = some c → s.struckIn (ctxBase c) 64 = none

/-- All host data of a job has come, in good form and long enough for the outputs `need`: nothing is left that would refuse
the job for its data, or make it wait (R76, R77). A job of another device brings its data with it (R112). -/
def Job.delivered (j : Job) (need : List (Nat × Nat)) : Bool := j.gated need && (j.origin.isSome || j.ins.all j.dataHere)

/-- Job `j` runs on unit page `p`, as a job and not as a core's unit command, and no word of the unit's memory is lost. -/
def State.runsOnUnit (s : State) (key op : Nat) (j : Job) (t : UType) (p : Nat) : Prop :=
  s.runs key op j ∧ j.unit = some p ∧ j.utype = t ∧ j.cmd = none ∧ s.struckIn (2 ^ 41 + p) 1 = none

/-- Command `x` of opcode `op` is the next of the program that job `j` runs on bignum unit `unit`. -/
def State.runsCommand (s : State) (unit op key : Nat) (j : Job) (c : Cmd) (x : BnCmd) : Prop :=
  s.runsOn (P.bn unit) = some key ∧ s.job key = some j ∧ j.cmd = some c ∧ x = progCmd c.words j.bn.idx ∧ j.st = .running ∧
    j.orphan = false ∧ j.bn.idx < progCount c.words ∧ x.op = op ∧ s.struckIn (2 ^ 41 + P.bn unit) 1 = none

/-- The instruction `op` of core `c`, with prefix syllables `pre` and base word `w`, issues and runs as `i`: the core is
up, nothing preempts it, its fetch is allowed, its prefixes and fields are in form and its predicate holds. `t` is the
state it runs in (the core awake) and `x` its core. -/
def State.runsIns (s t : State) (c : Nat) (pre : List (BitVec 9)) (w : Word) (op : KOp) (i : Ins) (x : Core) : Prop :=
  s.issues c = true ∧ t = s.wakeUp c ∧ x = t.core c ∧ t.kadmit c pre w op = .run i

/-- The instruction `i` of core `c` is done and leaves the core as `y`: it retires. -/
def State.doneIns (t : State) (c : Nat) (i : Ins) (y : Core) : State := (t.setCore c y).retire c i none none i.next

/-- The gates grant core `c` the access of `n` words at `a`, no granule of it is being cleared, and no word it reads is
lost. -/
def State.grants (t : State) (c a n : Nat) (ty : AType) : Prop :=
  t.clearingAt (t.coreWho c) a = false ∧ t.clearingAt (t.coreWho c) (a + n - 1) = false ∧
    t.checkAccess (t.coreWho c) a n ty = .allowed ∧ t.rangesStruck (t.coreWho c) [(a, n, ty)] = none

/-- Core `c` holds the running composite job `j` of opcode `op`, which nothing has discarded. -/
def State.holds (s : State) (key op : Nat) (j : Job) (c : Nat) : Prop :=
  s.runs key op j ∧ (∃ p, j.unit = some p ∧ coreOf p = some c) ∧ (s.core c).held = key + 1 ∧ j.orphan = false

/-- The composite job of core `c` has gone as far as `t`: once the core holds it no longer, its frame is cleared (R266). -/
def State.leftHeld (t : State) (c key : Nat) : State := if (t.core c).held = key + 1 then t else t.clearFrame c

end Sys2Proof.Machine
end

