-- ==== Sys2Proof/Certificates/Slice0/Obligations.lean ====
section
/-! DEFINITION. The statements about the block, for the provers. -/
open Sys2Proof Sys2Proof.Machine

/-- A step takes the command at the front of the queue and runs it on everything else, with the queue's rest (the model's own cut, log entry 2; no rule of the spec). -/
def Obligations.StepRunsTheFrontCommand : Prop :=
  ∀ (c : Instr) (rest : List Instr) (s : State),
    step { s with pending := c :: rest } = exec c { s with pending := rest }

/-- The model's choice (log entry 2): what a step does on an empty queue. The advance of system time is R123's. -/
def Obligations.AnEmptyQueueLetsANanosecondPass : Prop :=
  ∀ s : State, s.pending = [] → ∃ t, step s = .next t ∧
    t.now = s.now + 1 ∧
    (s.inReset = true → t.clock = s.clock) ∧
    (s.inReset = false → s.clock.slew = 0 ∨ s.now % 10000 ≠ 0 → t.clock.sys = s.clock.sys + 1 ∧ t.clock.slew = s.clock.slew) ∧
    (s.inReset = false → s.now % 10000 = 0 → 0 < s.clock.slew → t.clock.sys = s.clock.sys ∧ t.clock.slew = s.clock.slew - 1) ∧
    (s.inReset = false → s.now % 10000 = 0 → s.clock.slew < 0 → t.clock.sys = s.clock.sys + 2 ∧ t.clock.slew = s.clock.slew + 1) ∧
    { t with now := s.now, clock := s.clock, power := { t.power with cycles := s.power.cycles } } = s

/-- The state right after power-on reset. A register reads its reset value (`regReset`: log entry 4 names those the spec gives none for); memory reads zero (log entry 5). -/
def Obligations.ResetLeavesTheBlockHeld : Prop :=
  State.reset.inReset = true ∧ State.reset.boot.por = true ∧
  (∀ p, State.reset.en p = tb (regReset (p * 1024 + R.PG_CTRL)) 0) ∧
  (∀ p w, State.reset.reg p w = regReset (p * 1024 + w)) ∧
  (∀ a, State.reset.word a = 0) ∧ (∀ a, State.reset.hostOctet a = 0) ∧
  State.reset.evt.raised = [] ∧ State.reset.jobs = [] ∧ State.reset.queues = [] ∧ State.reset.cust.slots = [] ∧
  State.reset.pending = []

/-- The invariants of the two statements on every step hold at reset. -/
def Obligations.ResetIsCanonical : Prop :=
  State.reset.canonical = true ∧ State.reset.queueWf = true

/-- The canonical form of every memory is an invariant of the step. -/
def Obligations.EveryStepKeepsTheCanonicalForm : Prop :=
  ∀ s t : State, s.canonical = true → step s = .next t → t.canonical = true

/-- First in, first out: no command's effect reaches the queue it was taken from. -/
def Obligations.EveryStepTakesExactlyOneCommand : Prop :=
  ∀ s t : State, step s = .next t →
    t.pending = s.pending.tail ∧ (s.queueWf = true → t.queueWf = true)

/-- The spec gives every command an effect, so none of them stops the model. -/
def Obligations.EveryCommandAnswersANextState : Prop :=
  ∀ s : State, ∃ t, step s = .next t

/-- Read after write for each of the three memories of the model. -/
def Obligations.MemoryReadsBackWhatWasWritten : Prop :=
  (∀ (s : State) (p w q x : Nat) (v : Word),
    (s.setReg p w v).reg q x = if q * 1024 + x = p * 1024 + w then v else s.reg q x) ∧
  (∀ (s : State) (p w : Nat) (v : DWord), (s.setReg36 p w v).reg36 p w = v) ∧
  (∀ (s : State) (a b : Nat) (l : List Word),
    (s.setWords a l).word b = if a ≤ b then l.getD (b - a) (s.word b) else s.word b) ∧
  (∀ (s : State) (a n b : Nat), (s.clearWords a n).word b = if a ≤ b ∧ b < a + n then 0 else s.word b) ∧
  (∀ (s : State) (a b : Nat) (l : List Octet),
    (s.toHost a l).hostOctet b = if a ≤ b then l.getD (b - a) (s.hostOctet b) else s.hostOctet b)

/-- The bus rows: REG_WRITE, the four REG36 rows, POSTED_WRITE_SETTLE and PG_LOCK_WRITE. The model's choices here: log entries 11 and 92. -/
def Obligations.RegisterAccessesAreGatedAndPosted : Prop :=
  (∀ req page word val (s : State), page < 4096 → s.deaf page = false →
    (s.checkAccess (s.whoOf req) (pageAddr page word) 1 .w = .allowed →
      exec (.regWrite req page word .single val) s = .next (s.writeReg req page word (val.setWidth 18)) ∧
      (aligned8 page word = true → exec (.regWrite req page word .double val) s =
        .next (s.acceptWrite ⟨req, page, word, val, true, !s.lockedPage page⟩))) ∧
    (aligned8 page word = false → exec (.regWrite req page word .double val) s = .next (s.pgErr page ERR.width req word)) ∧
    exec (.regWrite req page word .narrow val) s = .next (s.pgErr page ERR.width req word)) ∧
  (∀ (s : State) (x : Posted), x.word ≠ R.PG_LOCK → s.bus.stalled = [] →
    s.acceptWrite x =
      if x.ownIntEn = true ∨ (reqDomain x.req = pageDomain x.page ∧
          s.bus.posted.any (fun y => pageDomain y.page == pageDomain x.page) = false) then s.applyWrite x
      else if (s.bus.posted.filter (fun y => y.page == x.page)).length < 16 then
        { s with bus := { s.bus with posted := s.bus.posted ++ [x] } }
      else { s with bus := { s.bus with stalled := [x] } }) ∧
  (∀ req page word (s : State), (halfOf page word = .lower →
      exec (.reg36LowerRead req page word .word) s = .next (State.answered (s.gatedRead req page word)) ∧
      (∀ i n, exec (.reg36LowerRead req page word (.octets i n)) s = .next ((s.gatedRead req page word).1.answer
        (octetsOf (s.gatedRead req page word).2 i n))) ∧
      (word % 2 = 0 → s.checkAccess (s.whoOf req) (pageAddr page word) 1 .r = .allowed →
        exec (.reg36LowerRead req page word .both) s =
          .next { s with bus := { s.bus with rdata := (s.peek36 page word).setWidth 72 } }) ∧
      (word % 2 = 1 → ∃ v, exec (.reg36LowerRead req page word .both) s =
        .next (({ s with fresh := s.fresh + 1 } : State).answer v))) ∧
    (halfOf page word = .upper →
      exec (.reg36UpperRead req page word .word) s = .next (State.answered (s.gatedRead req page word)) ∧
      (∀ i n, exec (.reg36UpperRead req page word (.octets i n)) s = .next ((s.gatedRead req page word).1.answer
        (octetsOf (s.gatedRead req page word).2 i n))) ∧
      (∃ v, exec (.reg36UpperRead req page word .both) s = .next (({ s with fresh := s.fresh + 1 } : State).answer v)))) ∧
  (∀ req page word val (s : State), page < 4096 → s.deaf page = false →
    s.checkAccess (s.whoOf req) (pageAddr page word) 1 .w = .allowed →
    (halfOf page word = .lower →
      exec (.reg36LowerWrite req page word val) s = .next (s.holdHalf req (page * 1024 + word) val)) ∧
    (∀ lo, halfOf page word = .upper → s.heldHalf req (page * 1024 + word - 1) = some lo →
      exec (.reg36UpperWrite req page word val) s = .next ((s.dropHalf req (page * 1024 + word - 1)).acceptWrite
        ⟨req, page, word - 1, dword lo val, true, !s.lockedPage page⟩))) ∧
  (∀ page x (s : State), s.nextPosted (pageDomain page) = some x → x.page = page →
    ∃ t u, t = ({ s with bus := { s.bus with posted := s.bus.posted.erase x } } : State) ∧
      (linkTo (pageDomain page) = none → u = t.applyWrite x) ∧
      (∀ f, linkTo (pageDomain page) = some f → u = (t.putLink f (s.link f).toFar).applyWrite x) ∧
      exec (.postedWriteSettle page) s =
        .next (({ u with bus := { u.bus with stalled := [] } } : State).promote u.bus.stalled)) ∧
  (∀ req page (s : State), s.deaf page = false →
    exec (.pgLockWrite req page) s = .next (s.acceptWrite ⟨req, page, R.PG_LOCK, 1, false, true⟩)) ∧
  (∀ page word val (s : State), 4096 ≤ page → s.inReset = false → exec (.regWrite .host page word .single val) s =
    .next (s.wMsix ((page - 4096) * 1024 + word) (val.setWidth 32)))

/-- R45: the first-error latch of every page. -/
def Obligations.TheFirstErrorOfAPageIsLatched : Prop :=
  ∀ (s : State) (p bit : Nat) (req : Requester) (off : Nat) (detail : Word),
    (s.reg p R.PG_ERR = 0 →
      (s.pgErr p bit req off detail).reg p R.PG_ERR = sb 0 bit true ∧
      (s.pgErr p bit req off detail).reg p R.PG_ERR_INFO_LO = wd (reqCode req * 1024 + off % 1024) ∧
      (s.pgErr p bit req off detail).reg p R.PG_ERR_INFO_HI = detail) ∧
    (s.reg p R.PG_ERR ≠ 0 →
      (s.pgErr p bit req off detail).reg p R.PG_ERR = sb (sb (s.reg p R.PG_ERR) bit true) 13 true ∧
      (s.pgErr p bit req off detail).reg p R.PG_ERR_INFO_LO = s.reg p R.PG_ERR_INFO_LO ∧
      (s.pgErr p bit req off detail).reg p R.PG_ERR_INFO_HI = s.reg p R.PG_ERR_INFO_HI) ∧
    (∀ q x, ¬ (q * 1024 + x = p * 1024 + R.PG_ERR ∨ q * 1024 + x = p * 1024 + R.PG_ERR_INFO_LO ∨
        q * 1024 + x = p * 1024 + R.PG_ERR_INFO_HI) →
      (s.pgErr p bit req off detail).reg q x = s.reg q x)

/-- R47: PEND is RAW and EN, and a source is raised when PEND goes from 0 to 1. -/
def Obligations.AnEnabledEventRaisesItsSourceOnce : Prop :=
  ∀ (s : State) (p b : Nat), b < 8 →
    (s.event p b).reg p R.PG_EVT_RAW = sb (s.reg p R.PG_EVT_RAW) b true ∧
    (∀ q x, q * 1024 + x ≠ p * 1024 + R.PG_EVT_RAW → (s.event p b).reg q x = s.reg q x) ∧
    (s.event p b).evt.raised = s.evt.raised ++
      (if tb (s.reg p R.PG_EVT_EN) b = true ∧ tb (s.reg p R.PG_EVT_RAW) b = false then [srcBase p + b] else [])

/-- The rows that write the control bits, and the two that end what they begin. `touch` only records that software took over the page (R473). -/
def Obligations.ControlBitsActAsTheTableSays : Prop :=
  (∀ req page (s : State), s.deaf page = true → exec (.enWrite1 req page) s = .next s ∧ exec (.enWrite0 req page) s = .next s ∧
    exec (.stop req page) s = .next s ∧ exec (.sreset req page) s = .next s) ∧
  (∀ req page b i (s : State), blockOf page = some (b, i) → s.deaf page = false → b.alwaysOn = false → s.stat page ST.quar = false →
    (stopsOnMismatch page = false ∨ s.mismatched page = false) →
    (s.stat page ST.stopping = true →
      exec (.enWrite1 req page) s = .next ((s.touch page).setStat page ST.restart true) ∧
      (s.en page = false → exec (.enWrite0 req page) s = .next (s.touch page))) ∧
    (s.stat page ST.stopping = false → s.en page = false →
      exec (.enWrite1 req page) s = .next ((s.touch page).startPage req page)) ∧
    (s.en page = true → exec (.enWrite0 req page) s = .next ((s.touch page).shutdown page))) ∧
  (∀ req page b i (s : State), blockOf page = some (b, i) → s.deaf page = false → b.alwaysOn = false → s.stat page ST.quar = true →
    exec (.enWrite1 req page) s = .next ((s.touch page).pgErr page ERR.quar req R.PG_CTRL) ∧
    exec (.enWrite0 req page) s = .next ((s.touch page).pgErr page ERR.quar req R.PG_CTRL) ∧
    exec (.stop req page) s = .next ((s.touch page).pgErr page ERR.quar req R.PG_CTRL)) ∧
  (∀ req page b i (s : State), blockOf page = some (b, i) → s.deaf page = false → b.alwaysOn = false → b ≠ .wq → s.stat page ST.quar = false →
    s.en page = true → ∃ t, t = ((s.touch page).setStat page ST.ready false).setDraining page true ∧
      exec (.stop req page) s = .next (if t.drained page then t.shutdown page else t)) ∧
  (∀ req page b i (s : State), blockOf page = some (b, i) → s.deaf page = false → (s.stat page ST.quar = false ∨ releasesBySreset b = true) →
    exec (.sreset req page) s = .next ((s.touch page).sreset page b i)) ∧
  (∀ page (s : State), s.en page = false → s.stat page ST.stopping = true → s.quiet page = true →
    exec (.shutdownComplete page) s = .next (s.shutEnd page)) ∧
  (∀ page pass vec (s : State), s.startable' page = true →
    exec (.startUpDone page pass vec) s = .next (s.startEnd page pass vec).stepsDone.allReady)

/-- R43's completion, for the pages without shutdown work. -/
def Obligations.AStoppedFunctionRestartsOnlyWhenAsked : Prop :=
  ∀ (s : State) (page i : Nat) (b : Block), blockOf page = some (b, i) →
    b = .place ∨ b = .dnlx ∨ b = .bn →
    (s.stat page ST.restart = false →
      (s.shutEnd page) = ((s.setStat page ST.stopping false).setStat page ST.restart false).stopped page) ∧
    (s.stat page ST.restart = true →
      (s.shutEnd page) = (((s.setStat page ST.stopping false).setStat page ST.restart false).stopped page).startPage .host page)

/-- The rows of the event pages. -/
def Obligations.RaisedSourcesReachTheirTargets : Prop :=
  (∀ src f (s : State), s.evt.raised.contains src = true → srcLink src = some f → (s.link f).quar = true →
    exec (.eventDeliver src) s = .next { s with evt := { s.evt with raised := s.evt.raised.erase src } }) ∧
  (∀ src (s : State), s.evt.raised.contains src = true → (∀ f, srcLink src = some f → (s.link f).quar = false) → ∃ v u e,
    v = ({ s with evt := { s.evt with raised := s.evt.raised.erase src } } : State) ∧
    (srcLink src = none → u = v) ∧ (∀ f, srcLink src = some f → u = v.putLink f (s.link f).toC) ∧ e = Map.get (dflt 0) s.evt.routes src ∧
    (tb e 17 = true → s.isBad (routeKey src) = false → tb e 16 = false → s.masked (bits e 10 0) = false →
      exec (.eventDeliver src) s = .next (u.sendMsix (bits e 10 0))) ∧
    (tb e 17 = true → s.isBad (routeKey src) = false → tb e 16 = false → s.masked (bits e 10 0) = true →
      exec (.eventDeliver src) s = .next { u with evt := { u.evt with msixPend := add1 s.evt.msixPend (bits e 10 0) } }) ∧
    (tb e 17 = true → s.isBad (routeKey src) = false → tb e 16 = true → s.stat (P.clu (bits e 11 6 / 4)) ST.quar = false →
      exec (.eventDeliver src) s =
        .next (u.setRbit P.evt2 (R.EVT2_CORE_PEND + 4 * bits e 11 6 + bits e 5 0 / 16) (bits e 5 0 % 16) true)) ∧
    (tb e 17 = true → s.isBad (routeKey src) = false → tb e 16 = true → s.stat (P.clu (bits e 11 6 / 4)) ST.quar = true →
      exec (.eventDeliver src) s = .next (u.lose src))) ∧
  (∀ src (s : State), (s.rbit P.evt0 R.EVT0_LOST_SRC 17 = false →
      s.lose src = (s.setReg P.evt0 R.EVT0_LOST_SRC (wd (2 ^ 17 + src))).event P.evt0 0) ∧
    (s.rbit P.evt0 R.EVT0_LOST_SRC 17 = true →
      s.lose src = (s.setRbit P.evt0 R.EVT0_LOST_SRC 16 true).event P.evt0 0)) ∧
  (∀ vec (s : State), 4 * vec + 3 < 8192 → ∃ u,
    u = ({ s with evt := { s.evt with msix := Map.put msixReset s.evt.msix (4 * vec + 3) 0 } } : State) ∧
    (s.evt.msixPend.contains vec = false → exec (.msixUnmask vec) s = .next u) ∧
    (s.evt.msixPend.contains vec = true → exec (.msixUnmask vec) s =
      .next (({ u with evt := { u.evt with msixPend := drop1 s.evt.msixPend vec } } : State).sendMsix vec))) ∧
  (∀ req (s : State), exec (.routeDataAccess req none) s = .next (s.routeNext.answer (s.peek P.evt0 R.EVT0_ROUTE_DATA)) ∧
    (∀ v : Word, s.deaf P.evt0 = false → (tb v 16 = true ∨ tb v 11 = false) → ∃ u,
      u = s.mend (routeKey (s.rfld P.evt0 R.EVT0_ROUTE_SEL 11 0)) ∧
      exec (.routeDataAccess req (some v)) s = .next (State.routeNext { u with evt := { u.evt with
          routes := Map.put (dflt 0) u.evt.routes (s.rfld P.evt0 R.EVT0_ROUTE_SEL 11 0) (v &&& 0o607777) } }))) ∧
  (∀ s : State, s.rbit P.evt0 R.EVT0_EVT_CTRL 0 = true →
    s.routeNext = s.setRfld P.evt0 R.EVT0_ROUTE_SEL 11 0 (s.rfld P.evt0 R.EVT0_ROUTE_SEL 11 0 + 1)) ∧
  (∀ req (s : State), exec (.lostSrcRead req) s =
    .next ((s.setReg P.evt0 R.EVT0_LOST_SRC 0).answer (s.peek P.evt0 R.EVT0_LOST_SRC))) ∧
  (∀ req i (v : Word) (s : State), (s.deaf P.evt3 = false → exec (.swSetWrite req i v) s = .next (s.wSwSet i v)) ∧
    (s.wSwSet i v).reg P.evt3 (R.EVT3_SW_RAW + i) = s.reg P.evt3 (R.EVT3_SW_RAW + i) ||| (v &&& 0o177777) ∧
    (s.wSwSet i v).evt.raised = s.evt.raised ++
      ((named v 16).filter (fun j => !tb (s.reg P.evt3 (R.EVT3_SW_RAW + i)) j)).map (fun j => 3984 + 16 * i + j))

/-- The Causeway rows, at either end of a link: `far` names the end on die V or die F. -/
def Obligations.CausewayTransfersCountUntilTheLinkFails : Prop :=
  ∀ (dieF : Bool) (s : State), (s.link dieF).quar = false → s.inReset = false →
    exec (.causewayIdle dieF false) s =
      .next (s.putLink dieF { s.link dieF with tx := (s.link dieF).tx + 1, idles := (s.link dieF).idles + 1 }) ∧
    exec (.causewayIdle dieF true) s =
      .next (s.putLink dieF { s.link dieF with farTx := (s.link dieF).farTx + 1, farIdles := (s.link dieF).farIdles + 1 }) ∧
    (∀ far payload ctr tag, tag = Config.linkTag (s.link dieF).key (!far) ctr payload →
      ctr = (if far then (s.link dieF).farRx else (s.link dieF).rx) →
      exec (.causewayTransferReceive dieF far payload ctr tag) s = .next (s.putLink dieF
        (if far then { s.link dieF with farRx := (s.link dieF).farRx + 1 } else { s.link dieF with rx := (s.link dieF).rx + 1 }))) ∧
    (∀ far payload ctr tag, tag ≠ Config.linkTag (s.link dieF).key (!far) ctr payload →
      exec (.causewayTransferReceive dieF far payload ctr tag) s = .next (s.linkFail dieF 1)) ∧
    (∀ far payload ctr tag, tag = Config.linkTag (s.link dieF).key (!far) ctr payload →
      ctr ≠ (if far then (s.link dieF).farRx else (s.link dieF).rx) →
      exec (.causewayTransferReceive dieF far payload ctr tag) s = .next (s.linkFail dieF 2)) ∧
    exec (.causewaySilence dieF) s = .next (s.linkFail dieF 3)

/-- TAIL_DB_WRITE, ENTRY_FETCH_DATA and HOST_DATA_ARRIVE. The stall on an error beyond the doorbell is the model's choice (log entry 93). -/
def Obligations.QueueEntriesAreFetchedInOrder : Prop :=
  (∀ req q (val : Word) (s : State), s.deaf (P.wq q) = false → s.en (P.wq q) = true → s.stat (P.wq q) ST.stopping = false →
    (s.dbInRange q (val &&& 0o377777) = true → exec (.tailDbWrite req q val) s = .next
      ((s.setReg (P.wq q) R.WQ_TAIL_DB (val &&& 0o377777)).setQueue q { s.queue q with rung := true, stalled := false })) ∧
    (s.dbInRange q (val &&& 0o377777) = false → exec (.tailDbWrite req q val) s =
      .next (s.pgErr (P.wq q) 2 req R.WQ_TAIL_DB))) ∧
  (∀ q (cells : List Octet) err (s : State), s.mayFetch q = true → (s.queue q).hdr = none →
    (16 ≤ cells.length → ∃ h, h = decodeHeader (s.rbit (P.wq q) R.WQ_CFG 17) (cells.take 16) ∧
      (h.own = false ∨ h.lap ≠ tb (s.reg (P.wq q) R.WQ_FETCH) 16 → exec (.entryFetchData q cells err) s =
        .next (s.setQueue q { s.queue q with stalled := true })) ∧
      (h.own = true → h.lap = tb (s.reg (P.wq q) R.WQ_FETCH) 16 →
        (1 < h.len → exec (.entryFetchData q cells err) s =
          .next (s.setQueue q { s.queue q with hdr := some (cells.take 16) })) ∧
        (h.len ≤ 1 → exec (.entryFetchData q cells err) s = .next (s.takeEntry q h [] false)))) ∧
    (cells.length < 16 →
      (s.beyondDb q = true → exec (.entryFetchData q cells true) s =
        .next (s.setQueue q { s.queue q with stalled := true })) ∧
      (s.beyondDb q = false → exec (.entryFetchData q cells true) s =
        .next (s.queueError q (s.reg (P.wq q) R.WQ_FETCH) 0o011)))) ∧
  (∀ q cells hc err (s : State), s.mayFetch q = true → (s.queue q).hdr = some hc → ∃ h,
    h = decodeHeader (s.rbit (P.wq q) R.WQ_CFG 17) hc ∧ exec (.entryFetchData q cells err) s =
      .next (s.takeEntry q h ((cells.drop 16).take (16 * (h.len - 1))) err)) ∧
  (∀ q h body err (s : State), ∃ pos gb, pos = s.reg (P.wq q) R.WQ_FETCH ∧ gb = s.rbit (P.wq q) R.WQ_CFG 17 ∧
    (∀ c, entryCause gb (s.log2size q) pos h body err = some c → s.takeEntry q h body err = s.queueError q pos c) ∧
    (entryCause gb (s.log2size q) pos h body err = none → body.length < 16 * (h.len - 1) → s.takeEntry q h body err = s) ∧
    (entryCause gb (s.log2size q) pos h body err = none → body.length = 16 * (h.len - 1) →
      ∃ j u, j = newJob q pos.toNat gb h body (s.rfld (P.wq q) R.WQ_CFG 16 15) (Map.get (dflt 0) s.cust.qkeys q)
          (s.rbit (P.wq q) R.WQ_CFG 14) (s.rbit (P.wq q) R.WQ_CFG 13) ∧
        u = (s.setJob (jobKey q pos.toNat) j).setFetch q (posAdd (s.log2size q) pos h.len) ∧
        s.takeEntry q h body err =
          u.setQueue q { u.queue q with fifo := (u.queue q).fifo ++ [jobKey q pos.toNat], hdr := none })) ∧
  (∀ key cell sg data j (s : State), s.job key = some j → j.st ≠ .done →
    ((descCells j.gb j.opcode j.oparg).contains cell = true ∨ (j.utype = .core ∧ 0 < cell ∧ cell < j.len)) →
    ((j.inp cell).isSome = false ∨ j.dataHere cell = false → exec (.hostDataArrive key cell sg data true) s =
      .next (s.setJob key { j with hostErr := true })) ∧
    (∀ h, (j.inp cell).isSome = false → hostIn j cell sg data = some h → exec (.hostDataArrive key cell sg data false) s =
      .next (s.setJob key { j with inputs := j.inputs ++ [h] })) ∧
    ((j.inp cell).isSome = true → j.dataHere cell = false → exec (.hostDataArrive key cell sg data false) s =
      .next (s.setJob key (j.moreIn cell data))))

/-- JOB_PLACE, NOP, HEAD_PUBLISH, IRQ_MOD_TIMER and HOST_WRITE_ERROR. -/
def Obligations.JobsLeaveTheQueueAndArePublished : Prop :=
  (∀ key j (s : State), s.job key = some j → j.st = .fetched → s.canLeave key j = true → s.readsSound j →
    (j.opcode ≠ 0 → j.isProg = false → exec (.jobPlace key) s = .next (s.place key j)) ∧
    (∀ t p rg, j.opcode ≠ 0 → j.opcode ≠ 0o010 → j.isProg = false → j.cmd = none → j.sess = none → s.credOf key j = none →
      s.sessionCheck key j = none → s.custodyReady key j = true → s.gbAkaWait key j = none → j.utype = t →
      t = .cipher ∨ t = .digest ∨ t = .bignum ∨ t = .core → (List.range 4).any (s.hasUnit t) = true →
      s.pickRegion t = rg → s.parkedAhead t rg j.cls = false → s.pickUnit t rg = some p →
      exec (.jobPlace key) s = .next (State.enqueue { s with lode := { s.lode with
        lastRegion := rg, lastUnit := Map.put (dflt 0) s.lode.lastUnit (rg * 64 + typeNo t) p } } key j p rg)) ∧
    (j.opcode = 0 → s.sessionCheck key j = none → exec (.wqNop key) s = .next (s.finish key j S.ok)) ∧
    (∀ st, j.opcode = 0 → s.sessionCheck key j = some st → exec (.wqNop key) s = .next (s.finish key j st))) ∧
  (∀ key j (s : State), s.job key = some j → j.st = .dispatched → j.fwd = none → s.readsSound j →
    (j.unit = none → exec (.jobPlace key) s = .next (s.setJob key { j with st := .running })) ∧
    (∀ p p', j.unit = some p → s.serves p = false → p < 0x400 → s.pickUnit j.utype j.region = some p' →
      exec (.jobPlace key) s = .next ((s.setInQ p (drop1 (s.inQ p) key)).enqueue key j p' j.region))) ∧
  (∀ q (s : State), s.en (P.wq q) = true → s.stat (P.wq q) ST.stopping = false → s.donePrefix (s.queue q).fifo ≠ [] →
    exec (.headPublish q) s = .next (s.publish q)) ∧
  (∀ q (s : State), s.rfld (P.wq q) R.WQ_IRQ_MOD 8 0 ≠ 0 → (s.queue q).unreported ≠ 0 →
    exec (.irqModTimer q) s = .next ((s.setQueue q { s.queue q with unreported := 0 }).event (P.wq q) 0)) ∧
  (∀ key j (s : State), s.job key = some j → j.origin = none → j.st = .done →
    (s.queue j.queue).fifo.contains key = true → s.en (P.wq j.queue) = true →
    ∃ later, later = key :: (s.queue j.queue).fifo.drop ((before key (s.queue j.queue).fifo).length + 1) ∧
      exec (.hostWriteError key) s = .next
        ((((s.each later.reverse (fun t k => t.discardFrom j.queue k)).pgErr (P.wq j.queue) 3 .host R.WQ_HEAD).queueError
          j.queue (wd j.pos) 0o012)))

/-- JOB_PARK, JOB_RESUME, SESSION_MIGRATE and PRQ_HOST_ERROR. -/
def Obligations.JobsParkResumeAndMoveSessions : Prop :=
  (∀ key done j p t (s : State), s.job key = some j → j.unit = some p → s.parkable key j = true →
    s.park key j done = some t →
    (s.shutPark j = true → exec (.jobPark key done) s = .next t) ∧
    (∀ w, s.shutPark j = false → s.isVictim s.parkable key j = some w →
      exec (.jobPark key done) s = .next ((t.inc36 P.lode R.LODE_PREEMPTS).placeOn w p j.region))) ∧
  (∀ key rec p j (s : State), s.job key = some j → j.st = .parked → j.unit = none → s.resumeUnit j = some p →
    (j.parkMode = 3 → exec (.jobResume key rec true) s =
      .next ((s.freeRec j).fail key { j with parkMode := 0 } S.aborted)) ∧
    (∀ a, s.recStruck j = some a → exec (.jobResume key rec false) s = .next (s.memUe a)) ∧
    (s.recStruck j = none →
      (s.savedWords j rec = none → exec (.jobResume key rec false) s =
        .next ((s.freeRec j).fail key { j with parkMode := 0 } S.authFail)) ∧
      (∀ ws, s.savedWords j rec = some ws →
        (∀ st, s.resumeKey key j = some st → exec (.jobResume key rec false) s =
          .next ((s.freeRec j).fail key { j with parkMode := 0 } st)) ∧
        (s.resumeKey key j = none → exec (.jobResume key rec false) s = .next (s.resumeOn key j p ws))))) ∧
  (∀ sess n t c (s : State), s.lode.moving.find? (fun m => m.1 == sess) = some (n, t) → s.sessSlot sess = some c →
    s.struckIn (ctxBase c) 64 = none → ∃ u, u = (s.setWords (ctxBase t) (s.words (ctxBase c) 64)).clearWords (ctxBase c) 64 ∧
    exec (.sessionMigrate sess) s = .next (State.inc36 { u with lode := { u.lode with
        slotOf := Map.put (dflt 0) u.lode.slotOf sess (t + 1), count := Map.put (dflt 0) u.lode.count sess 0,
        moving := u.lode.moving.filter (fun m => m.1 != sess) } } P.lode R.LODE_MIGRATIONS)) ∧
  (∀ page (s : State), s.cust.lastReq = some page → ∃ n u,
    n = s.rfld P.cred R.CRED_PRQ_SIZE 4 0 ∧
    u = ((s.setReg P.cred R.CRED_PRQ_PROD (posAdd n (s.reg P.cred R.CRED_PRQ_PROD) (2 ^ (n + 1) - 1))).prqLose).pgErr
      P.cred 2 .host R.CRED_PRQ_BASE ∧
    exec .prqHostError s = .next (State.endRequest { u with cust := { u.cust with lastReq := none } } page true true))

/-- The frame of the commands that only touch registers, queues, jobs and the state of links, events and time. -/
def Obligations.TakingAJobLeavesMemoryAlone : Prop :=
  ∀ (c : Instr) (s t : State), exec c s = .next t →
    ((∃ req q val, c = .tailDbWrite req q val) ∨ (∃ key cell sg data err, c = .hostDataArrive key cell sg data err) ∨
     (∃ port flit, c = .flitReceive port flit) ∨
     (∃ port tx, c = .linkRekey port tx) ∨ (∃ port, c = .eqIdleInsert port) ∨ (∃ port t1 t2 t3 t4, c = .timeExchange port t1 t2 t3 t4) ∨
     (∃ req val, c = .timeSet req val) ∨ (∃ req, c = .systimeRead req) ∨ (∃ src, c = .eventDeliver src) ∨
     (∃ vec, c = .msixUnmask vec) ∨ (∃ req wr, c = .routeDataAccess req wr) ∨ (∃ req i val, c = .swSetWrite req i val) ∨
     (∃ req, c = .lostSrcRead req) ∨ (∃ f far, c = .causewayIdle f far) ∨ (∃ q, c = .irqModTimer q) ∨ (∃ i, c = .drbgReseed i)) →
    (∀ a, t.word a = s.word a) ∧ (∀ a, t.hostOctet a = s.hostOctet a) ∧
    t.cores = s.cores ∧ t.cust.slots = s.cust.slots ∧ t.flash = s.flash

/-- The PLACE rows and the two placement frames. The registers take writes: PLACE lies in the fabric, outside reset. -/
def Obligations.PlacementChangesComeFromTheKeeper : Prop :=
  (∀ req (s : State), s.deaf P.place = false → s.isKeeper = true →
    (s.committing = false → ∃ pl, pl = { s.net.staged with epoch := s.known.epoch + 1 } ∧
      exec (.placeCommit req) s = .next
        ((((s.peers pl).foldl (fun t d => t.post (frameTo s.known pl d)) s).recompute pl).setRbit P.place R.PLACE_STATE 0 false)) ∧
    (s.committing = true → exec (.placeCommit req) s = .next ((s.pgErr P.place 1 req R.PLACE_CMD).event P.place 1)) ∧
    exec (.placeDiscard req) s =
      .next (State.setRbit { s with net := { s.net with staged := s.known } } P.place R.PLACE_STATE 0 false)) ∧
  (∀ req (s : State), s.deaf P.place = false → s.isKeeper = false →
    exec (.placeCommit req) s = .next (s.pgErr P.place 0 req R.PLACE_CMD) ∧
    exec (.placeDiscard req) s = .next (s.pgErr P.place 0 req R.PLACE_CMD)) ∧
  (∀ req (s : State), s.deaf P.place = false → exec (.placeLookup req) s =
    .next (State.setReg { s with net := { s.net with looking := true } } P.place R.PLACE_LOOKUP_RES 0)) ∧
  (∀ s : State, s.net.looking = true → ∃ page, page = (s.reg36 P.place R.PLACE_LOOKUP_PAGE).toNat % 2 ^ 26 ∧
    exec .lookupDone s = .next ((((State.setReg { s with net := { s.net with looking := false } } P.place R.PLACE_LOOKUP_RES
        (wd (2 ^ 17 + b2n (s.resident page) * 2 ^ 16 + (s.owner page).1))).setReg P.place R.PLACE_LOOKUP_REP
        (wd (b2n (s.owner page).2.1.isSome * 2 ^ 17 + b2n (s.owner page).2.2 * 2 ^ 16 + (s.owner page).2.1.getD 0))).event
      P.place 3))) ∧
  (∀ pl (s : State), s.net.next = some pl → ∃ st, st = (if s.isKeeper && s.rbit P.place R.PLACE_STATE 0 then s.net.staged else pl) ∧
    exec .recomputeDone s = .next (State.event { s with net := { s.net with
      applied := pl, next := none, staged := st } } P.place 0)) ∧
  (∀ src epoch mem ovrs salt (s : State),
    (s.isKeeper = false → epochRel s.net.applied.epoch epoch ≠ .rejected →
      (epoch = s.net.applied.epoch + 1 → exec (.membershipFrameReceive src epoch mem ovrs salt) s =
        .next (s.recompute (s.net.applied.change mem ovrs salt epoch))) ∧
      (epoch ≠ s.net.applied.epoch + 1 → exec (.membershipFrameReceive src epoch mem ovrs salt) s = .next s.askNow)) ∧
    (s.isKeeper = true → epochRel s.net.applied.epoch epoch = .ahead → exec (.membershipFrameReceive src epoch mem ovrs salt) s =
      .next (s.post (.resync src s.known))) ∧
    (epochRel s.net.applied.epoch epoch = .rejected → exec (.membershipFrameReceive src epoch mem ovrs salt) s = .next s)) ∧
  (∀ epoch mem ovrs salt (s : State), s.isKeeper = false → exec (.resyncReceive epoch mem ovrs salt) s =
    .next (s.recompute ((⟨[], [], 0, 0⟩ : Placement).change mem ovrs (some salt) epoch)))

/-- The forwarding rows. The model's choices: log entry 93. -/
def Obligations.JobsAreForwardedToTheirOwner : Prop :=
  (∀ origin tag epoch cls rw yw qkey gb cells data verdict ctx (s : State), epochRel s.net.applied.epoch epoch ≠ .rejected →
    ∃ j u, j = foreignJob origin tag cls rw yw qkey gb cells data verdict ctx ∧ u = s.seeEpoch origin epoch ∧
    ((u.job (foreignKey origin tag)).isSome = true →
      exec (.forwardReceive origin tag epoch cls rw yw qkey gb cells data verdict ctx) s = .next (u.post (.fwdAck origin tag))) ∧
    (u.job (foreignKey origin tag) = none → (∀ h, u.credOf (foreignKey origin tag) j = some h →
        (u.resident (hPage h) || u.ownsPage (hPage h)) = true) →
      exec (.forwardReceive origin tag epoch cls rw yw qkey gb cells data verdict ctx) s =
        .next ((u.setJob (foreignKey origin tag) j).post (.fwdAck origin tag))) ∧
    (∀ h, u.job (foreignKey origin tag) = none → u.credOf (foreignKey origin tag) j = some h →
      (u.resident (hPage h) || u.ownsPage (hPage h)) = false →
      exec (.forwardReceive origin tag epoch cls rw yw qkey gb cells data verdict ctx) s =
        .next (u.post (.moved origin tag u.net.applied.epoch.toNat)))) ∧
  (∀ tag k j f (s : State), s.fwdJob tag = some (k, j) → j.fwd = some f →
    exec (.forwardAckReceive f.owner tag) s = .next (s.setJob k { j with fwd := some { f with acked := true, resend := false } }) ∧
    (s.replicaOf k j = none ∨ (∃ r, s.replicaOf k j = some r ∧ (f.onReplica = true ∨ r = f.owner ∨ r = s.devId)) →
      exec (.forwardTimeout tag) s = .next
        ((((s.freeTag tag).inc36 P.place R.PLACE_FWD_FAILS).event P.place 2).fail k j S.forwardFail)) ∧
    (∀ r, s.replicaOf k j = some r → f.onReplica = false → r ≠ f.owner → r ≠ s.devId → exec (.forwardTimeout tag) s =
      .next (s.sendFwd k j { f with owner := r, acked := false, onReplica := true, resend := false })) ∧
    (f.resend = true → exec (.movedResend tag) s = .next (s.sendFwd k j { f with acked := false, resend := false })) ∧
    (∀ epoch h u, u = (s.inc36 P.place R.PLACE_REDIRECTS).seeEpoch f.owner epoch → u.credOf k j = some h → ∃ o,
      o = (u.owner (hPage h)).1 ∧
      (o = f.owner → exec (.moved tag epoch) s = .next (u.setJob k { j with fwd := some { f with resend := true } })) ∧
      (o ≠ f.owner → exec (.moved tag epoch) s =
        .next (u.sendFwd k j { f with owner := o, acked := false, resend := false })))) ∧
  (∀ src tag status octets outs ctx k j f u (s : State), u = s.post (.resultAck src tag) → u.fwdJob tag = some (k, j) →
    j.fwd = some f → f.owner = src →
    (j.outSmall outs = false → exec (.forwardResultReceive src tag status octets outs ctx) s = .next
      (((outs.foldl (fun t o => t.toBuffer j o.1 o.2) (u.freeTag tag)).finish k j status octets).modJob k
        (fun x => { x with pendSess := if statusGood status then ctx else none }))) ∧
    (j.outSmall outs = true → exec (.forwardResultReceive src tag status octets outs ctx) s =
      .next ((u.freeTag tag).fail k j S.invalidOperand))) ∧
  (∀ src tag j (s : State), s.job (foreignKey src tag) = some j →
    (j.st = .done → exec (.resultAckReceive src tag) s = .next (s.dropJob (foreignKey src tag))) ∧
    (runsOn2 j = true → exec (.forwardAbortReceive src tag) s =
      .next (s.setJob (foreignKey src tag) { j with orphan := true })) ∧
    (runsOn2 j = false → exec (.forwardAbortReceive src tag) s =
      .next ((s.discard (foreignKey src tag)).post (.abortAck src tag)))) ∧
  (∀ src tag (s : State), s.job (foreignKey src tag) = none →
    exec (.forwardAbortReceive src tag) s = .next (s.post (.abortAck src tag))) ∧
  (∀ q tag (s : State), (s.queue q).aborts.contains tag = true → exec (.forwardAbortAck q tag) s =
    .next ((s.setQueue q { s.queue q with aborts := drop1 (s.queue q).aborts tag }).freeTag tag)) ∧
  (∀ dst k j o (s : State), (k, some j) ∈ s.jobs → j.origin = some (dst, o) →
    exec (.heartbeat dst) s = .next (s.post (.heartbeat dst)))

/-- The Denlet rows. The model's choices: log entries 89 (attestation) and 93. -/
def Obligations.DenletLinksTrainCarryAndFail : Prop :=
  (∀ port (s : State), s.lstate port = L.train →
    (∃ t, t = s.setLink port L.attest 0 ∧ exec (.trainDone port true) s =
      .next { t with net := { t.net with out := t.net.out ++ [.certs port (s.rfld P.dnlx R.DNLX_CERT_SECTOR 9 0)] } }) ∧
    exec (.trainDone port false) s = .next (s.failLink port 1)) ∧
  (∀ port anchors peer epoch (s : State), s.lstate port = L.attest → ∃ a b, a = s.setReg (P.dnl port) R.DNL_PEER_EPOCH epoch ∧
    b = a.setReg (P.dnl port) R.DNL_PEER_ID (wd (2 ^ 17 + peer)) ∧
    (∀ cert sig, cert = false ∨ s.anchored anchors = false → exec (.attestDone port cert anchors sig peer epoch) s =
      .next ((a.failLink port 2).event (P.dnl port) 2)) ∧
    (s.anchored anchors = true →
      (∀ sig, sig = false ∨ s.hasIdentity = false → exec (.attestDone port true anchors sig peer epoch) s =
        .next ((a.failLink port 3).event (P.dnl port) 2)) ∧
      (s.hasIdentity = true →
        (peer = s.devId → exec (.attestDone port true anchors true peer epoch) s = .next ((b.failLink port 4).event (P.dnl port) 2)) ∧
        (peer ≠ s.devId → epochRel s.net.applied.epoch epoch = .rejected →
          exec (.attestDone port true anchors true peer epoch) s = .next ((b.failLink port 8).event (P.dnl port) 3)) ∧
        (peer ≠ s.devId → epochRel s.net.applied.epoch epoch ≠ .rejected →
          exec (.attestDone port true anchors true peer epoch) s = .next (((b.linkUpNow port peer).seeEpoch peer epoch).retry))))) ∧
  (∀ port flit (s : State), s.lstate port = L.attest ∨ s.lstate port = L.up → ∃ o sq v,
    o = (flit.getD 0 0).toNat ∧ sq = beNat (sliceOct flit 1 3) ∧ v = s.acked port (sq % 4096) ∧
    (leNat (sliceOct flit 60 4) ≠ (crc32 (sliceOct flit 0 60)).toNat ∨ 128 ≤ o →
      exec (.flitReceive port flit) s = .next (s.crcError port)) ∧
    (leNat (sliceOct flit 60 4) = (crc32 (sliceOct flit 0 60)).toNat → o < 128 →
      (o / 16 = 0 → exec (.flitReceive port flit) s = .next v) ∧
      (o / 16 = 5 → exec (.flitReceive port flit) s = .next (v.inc36 (P.dnl port) R.DNL_RX_FLITS)) ∧
      (o / 16 ≠ 0 → o / 16 ≠ 5 → ∃ w, w = v.inc36 (P.dnl port) R.DNL_RX_FLITS ∧
        (sq / 4096 = ((w.port port).rxSeq + 1) % 4096 → exec (.flitReceive port flit) s = .next
          (w.setPort port ({ w.port port with rxSeq := sq / 4096 }.join (o / 16) (o / 4 % 4) (sliceOct flit 4 56)))) ∧
        (sq / 4096 ≠ ((w.port port).rxSeq + 1) % 4096 → exec (.flitReceive port flit) s = .next (w.nak port))))) ∧
  (∀ port (s : State), s.lstate port = L.up →
    ((s.port port).replay ≠ [] → ∃ u, u = ((s.setPort port { s.port port with tries := (s.port port).tries + 1 }).inc36
        (P.dnl port) R.DNL_REPLAYS).add36 (P.dnl port) R.DNL_TX_FLITS (s.port port).replay.length ∧
      exec (.nakReceive port) s = .next (if 8 ≤ (s.port port).tries + 1 then u.failLink port 7 else u)) ∧
    (∀ len dst vc raw rest, (s.port port).ready = (vc, raw) :: rest →
      (s.opened port len raw = none → exec (.denletMessageReceive port len dst) s =
        .next ((s.detect 16).failLink port 6)) ∧
      (∀ text, s.opened port len raw = some text → ∃ u,
        u = s.setPort port { s.port port with ready := rest, rxMsg := (s.port port).rxMsg + 1 } ∧
        (dst = s.devId → exec (.denletMessageReceive port len dst) s = .next (u.delivered text)) ∧
        (dst ≠ s.devId → exec (.denletMessageReceive port len dst) s = .next (u.post (.through dst port vc text))))) ∧
    (2 ^ 32 ≤ (s.port port).txMsg → exec (.linkRekey port true) s = .next (s.setPort port { s.port port with
        txMsg := 0, txGen := (s.port port).txGen + 1,
        txKey := netKey (s.port port).secret s.devId (s.peerOf port) ((s.port port).txGen + 1) })) ∧
    (2 ^ 32 ≤ (s.port port).rxMsg → exec (.linkRekey port false) s = .next (s.setPort port { s.port port with
        rxMsg := 0, rxGen := (s.port port).rxGen + 1,
        rxKey := netKey (s.port port).secret (s.peerOf port) s.devId ((s.port port).rxGen + 1) })) ∧
    exec (.denletSilence port) s = .next ((s.detect 16).failLink port 5) ∧
    (s.eqFrozen port = false → exec (.eqIdleInsert port) s =
      .next (s.setPort port { s.port port with eqInsert := true, eqRun := 0 }))) ∧
  (∀ req (s : State), exec (.dnlxRouteDataAccess req none) s = .next (s.netRouteNext.answer
      (Map.get (dflt 0) s.net.routes (s.rfld P.dnlx R.DNLX_ROUTE_SEL 15 0))) ∧
    ∀ val : Word, s.deaf P.dnlx = false → exec (.dnlxRouteDataAccess req (some val)) s = .next (s.wNetRoute val))

/-- TIME_SET, SYSTIME_READ, TIME_EXCHANGE and TIME_MASTER_LOSS. -/
def Obligations.SystemTimeFollowsItsMaster : Prop :=
  (∀ req (val : Word) (s : State), s.deaf P.dnlx = false →
    (s.timeMaster = true → ∃ v : BitVec 72, v = val ++ s.clock.set2 ++ s.clock.set1 ++ s.clock.set0 ∧
      (¬ v < s.clock.sys → exec (.timeSet req val) s = .next { s with clock := { s.clock with sys := v } }) ∧
      (v < s.clock.sys → exec (.timeSet req val) s = .next (s.pgErr P.dnlx 1 req (R.DNLX_TIME_SET + 3)))) ∧
    (s.timeMaster = false → exec (.timeSet req val) s = .next (s.pgErr P.dnlx 2 req (R.DNLX_TIME_SET + 3)))) ∧
  (∀ req (s : State), ∃ t, exec (.systimeRead req) s = .next t ∧ t.bus.rdata = s.clock.sys ∧
    t.clock.latched = s.clock.latched.filter (fun x => x.1 != req) ++ [(req, s.clock.sys)] ∧
    { t with bus := s.bus, clock := s.clock } = s) ∧
  (∀ port t1 t2 t3 t4 (s : State), s.lstate port = L.up → ∃ t, t = s.setPort port { s.port port with
      delay := ((t4 - t1) - (t3 - t2)) / 2 } ∧
    (s.timeMaster = true ∨ s.masterPort ≠ some port → exec (.timeExchange port t1 t2 t3 t4) s = .next t) ∧
    (s.timeMaster = false → s.masterPort = some port → ∃ ofs : Int, ofs = (((t1 : Int) - t2) + ((t4 : Int) - t3)) / 2 ∧
      exec (.timeExchange port t1 t2 t3 t4) s = .next (t.follow ofs))) ∧
  (∀ (ofs : Int) (s : State), ∃ u,
    u = State.setReg { s with clock := { (if ofs < -1000000 then
          { s.clock with sys := s.clock.sys + BitVec.ofNat 72 (-ofs).toNat, slew := 0 } else { s.clock with slew := ofs }) with
      good := if ofs.natAbs ≤ 100 then min 16 (s.clock.good + 1) else 0 } } P.dnlx R.DNLX_TIME_OFS (satOfs ofs) ∧
    (1000 < ofs.natAbs → s.follow ofs = u.timeUnlock) ∧
    (ofs.natAbs ≤ 100 → 15 ≤ s.clock.good → u.rbit P.dnlx R.DNLX_TIME_STAT 17 = false →
      s.follow ofs = (u.setRbit P.dnlx R.DNLX_TIME_STAT 17 true).event P.dnlx 0) ∧
    (ofs.natAbs ≤ 1000 → 100 < ofs.natAbs ∨ s.clock.good < 15 ∨ u.rbit P.dnlx R.DNLX_TIME_STAT 17 = true →
      s.follow ofs = u)) ∧
  (∀ s : State, s.timeMaster = false → exec .timeMasterLoss s =
    .next { s.timeUnlock with clock := { s.timeUnlock.clock with slew := 0 } })

/-- The session rows. -/
def Obligations.SessionJobsChangeTheContextAtPublication : Prop :=
  (∀ key j (s : State), s.runs key 0o001 j →
    (bits j.oparg 31 5 ≠ 0 ∨ sessClean j = false → exec (.sessOpen key) s = .next (s.fail key j S.invalidOperand)) ∧
    (bits j.oparg 31 5 = 0 → sessClean j = true → j.keyHolds (bits j.oparg 3 0) = false →
      exec (.sessOpen key) s = .next (s.fail key j S.denied)) ∧
    (bits j.oparg 31 5 = 0 → sessClean j = true → j.keyHolds (bits j.oparg 3 0) = true →
      (s.sessStale key j = true → exec (.sessOpen key) s = .next (s.fail key j S.staleHandle)) ∧
      (s.sessStale key j = false → ∃ u, u = s.allocSlot (j.sess.getD 0) j.region ∧
        exec (.sessOpen key) s = .next (State.finish { u with
          lode := { u.lode with count := Map.put (dflt 0) u.lode.count (j.sess.getD 0) 0 } }
          key { j with pendSess := some (newCtx j) } S.ok)))) ∧
  (∀ key j (s : State), s.runs key 0o002 j → j.oparg = 0 → exec (.sessClose key) s =
    .next (State.finish { s with diag := { s.diag with failSess := drop1 s.diag.failSess (j.sess.getD 0) } }
      key { j with pendSess := some (List.replicate 64 0) } S.ok)) ∧
  (∀ key j (s : State), s.runs key 0o003 j → j.oparg = 0 → sessClean j = true → s.sessStale key j = false →
    exec (.sessRekey key) s = .next (s.finish key { j with
      pendSess := some ([cw (s.sessView key j (j.sess.getD 0)) 0, 0, 0, 0] ++ sessKeys j ++ List.replicate 46 0) } S.ok))

/-- The rows of credential pages. -/
def Obligations.CredentialPagesLoadAndLeave : Prop :=
  (∀ key j h (s : State), s.runs key 0o010 j → j.frame = none → bits j.oparg 31 26 = 0 → j.sgBad 1 = false →
    j.lenKnown 1 = true → imageLen ≤ j.supplied 1 → j.hostErr = false → j.inp 1 = some h → 81 ≤ h.octets.length →
    s.headerStruck (streamWords 36 (h.octets.take 81)) (bits j.oparg 25 0) = none →
    ∃ c, c = s.headerCheck (streamWords 36 (h.octets.take 81)) (bits j.oparg 25 0) ∧
    (∀ st, c = some st → exec (.pageLoad key) s = .next (s.loadFail key j st)) ∧
    (c = none → s.pickFrame = none → exec (.pageLoad key) s = .next ((s.event P.cred 2).loadFail key j S.notResident)) ∧
    (c = none → ∀ f, s.pickFrame = some f → exec (.pageLoad key) s =
      .next ((s.setFrame f ⟨true, true, false, false, 0, bits j.oparg 25 0⟩).setJob key
        { j with frame := some f, region := f / 256 }))) ∧
  (∀ key chunk j f h hd hw (data : List Octet) (s : State), s.runs key 0o010 j → j.frame = some f →
    (s.frame f).chunks.getLsbD chunk = false → j.hostErr = false → j.inp 1 = some h → hd = h.octets.take 81 →
    hw = streamWords 36 hd → s.slotStruck ((cw hw 4).setWidth 32) = none → ∃ m, m = gcmDec (beOctets 32 (s.slot (bits (cw hw 4) 15 0)).key.toNat)
        (headerNonce hw ++ beOctets 2 chunk) (hd ++ [BitVec.ofNat 8 chunk]) (data.take 4608) (sliceOct data 4608 16) ∧
    exec (.chunkVerify key chunk data true) s = .next (s.loadStop key j f S.aborted) ∧
    (m = none → exec (.chunkVerify key chunk data false) s = .next (s.loadStop key j f S.authFail)) ∧
    (∀ pt, m = some pt → ∃ u ch, u = s.setWords (frameBase f + 2048 * chunk) (streamWords 2048 pt) ∧
      ch = (s.frame f).chunks ||| BitVec.ofNat 16 (2 ^ chunk) ∧
      (ch ≠ 0xFFFF → exec (.chunkVerify key chunk data false) s = .next (u.setFrame f { s.frame f with chunks := ch })) ∧
      (ch = 0xFFFF → exec (.chunkVerify key chunk data false) s =
        .next (((u.setFrame f { s.frame f with chunks := ch, loading := false }).endRequest (bits j.oparg 25 0) false
          false).finish key j (if imageLen < j.supplied 1 then S.okTruncated else S.ok) (imageResult hw))))) ∧
  (∀ key j f (s : State), s.runs key 0o011 j → j.frame = none → bits j.oparg 30 26 = 0 →
    refClean (j.dw 2 0) = true → bits (j.dw 2 1) 31 5 = 0 → bits (j.dw 2 1) 4 0 ≤ 16 →
    s.frameOf (bits j.oparg 25 0) = some f → (s.frame f).loading = false →
    (tb j.oparg 31 = true → (s.frame f).dirty = false) →
    (tb j.oparg 31 = false → s.slotStruck (j.dw 2 0) = none ∧
      s.domainCheck (refSlot (j.dw 2 0)) (refGen (j.dw 2 0)) U.wrap = none ∧ j.sgBad 1 = false ∧ j.lenKnown 1 = true ∧
      imageLen ≤ j.supplied 1) →
    exec (.pageEvict key) s = .next (((s.setFrame f { s.frame f with evicting := true }).endRequest (bits j.oparg 25 0)
      false false).setJob key { j with frame := some f, region := f / 256 })) ∧
  (∀ key j f (s : State), s.runs key 0o011 j → j.frame = some f → s.pageQuiet key (bits j.oparg 25 0) = true →
    (tb j.oparg 31 = true → (s.frame f).dirty = false → exec (.evictWrite key) s =
      .next (s.finish key j S.ok (imageResult (s.frameHeader j f 0)))) ∧
    (tb j.oparg 31 = true → (s.frame f).dirty = true → exec (.evictWrite key) s = .next (s.evictFail key j f S.denied)) ∧
    (tb j.oparg 31 = false → s.slotStruck (j.dw 2 0) = none → s.rngOk custodyInst = true →
      ∃ nonce u ws hw, nonce = ((s.frameUe f).drawFrom custodyInst 10).1 ∧ u = ((s.frameUe f).drawFrom custodyInst 10).2 ∧
        ws = u.words (frameBase f) 32768 ∧ hw = u.frameHeader j f (beNat nonce) ∧
        exec (.evictWrite key) s = .next ((u.toBuffer j 1 (wordStream hw ++ ((List.range 16).map (fun i =>
            imageChunk (beOctets 32 (u.slot (refSlot (j.dw 2 0))).key.toNat) (wordStream hw) nonce
              ((ws.drop (2048 * i)).take 2048) i)).flatten)).finish key j S.ok (imageResult hw))))

/-- The credential and slot rows. The random octets are a free value (log entry 6); the wait of `finishSlot` is the model's choice (log entry 94). -/
def Obligations.CredentialsAndSlotsAreMadeByTheirJobs : Prop :=
  (∀ key j (s : State), s.credSlotCheck key j U.unwrap = none → s.runs key 0o012 j → j.oct 2 24 8 = zeros 8 →
    ∃ m, m = kwUnwrap (s.slot (refSlot (j.dw 1 2))).keyOctets (j.oct 2 0 24) ∧
    (m = none → exec (.credWrite key) s = .next (s.fail key j S.authFail)) ∧
    (∀ sec, m = some sec → exec (.credWrite key) s =
      .next (s.storeSecret key j (j.handle 1 0) (bits (j.dw 1 3) 3 0) (bits (j.dw 1 3) 5 4) sec))) ∧
  (∀ key j (s : State), s.credSlotCheck key j U.derive = none → s.runs key 0o013 j →
    exec (.credDerive key) s = .next (s.storeSecret key j (j.handle 1 0) (bits (j.dw 1 3) 3 0) (bits (j.dw 1 3) 5 4)
      (kdfCmac (s.slot (refSlot (j.dw 1 2))).keyOctets (kdfInput (ascii "CRED") (j.oct 2 0 16) 16) 16))) ∧
  (∀ key j h w (s : State), s.runs key 0o014 j → h = j.handle 1 0 → w = s.credView key j (hPage h) (hEntry h) →
    j.oparg = 0 → j.handlePad 1 0 = true → j.dw 1 2 = 0 → j.dw 1 3 = 0 → eState w ≠ 0 → eState w ≠ 2 → eGen w = hGen h →
    j.colourOk (eColour w) = true → exec (.credRetire key) s =
      .next (s.finish key { j with pendCred := [(hPage h, hEntry h, entryWithState w 2 false)] } S.ok)) ∧
  (∀ key j h w (s : State), s.runs key 0o015 j → h = j.handle 1 0 → w = s.credView key j (hPage h) (hEntry h) →
    j.oparg = 0 → j.handlePad 1 0 = true → j.dw 1 2 = 0 → j.dw 1 3 = 0 → eState w = 2 → eGen w = hGen h →
    j.colourOk (eColour w) = true → s.sessionHolds (hPage h) (hEntry h) = false → exec (.reclaim key) s =
      .next (s.finish key { j with
        pendCred := [(hPage h, hEntry h, w.take 7 ++ [putBits (putBits (cw w 7) 5 4 0) 17 10 0])] } S.ok)) ∧
  (∀ key j v (s : State), s.runs key 0o015 j → j.oparg = 1 → v = s.slot (refSlot (j.dw 1 0)) → refClean (j.dw 1 0) = true →
    tb (j.dw 1 0) 31 = false → j.dw 1 1 = 0 → j.dw 1 2 = 0 → j.dw 1 3 = 0 → refSlot (j.dw 1 0) < custodianFirst →
    v.state = 2 → v.gen = refGen (j.dw 1 0) → j.keyHolds v.colour = true → exec (.reclaim key) s =
      .next (s.finishSlot key j (refSlot (j.dw 1 0)) ⟨0, 0, 0⟩ v.persist S.ok [])) ∧
  (∀ key j a (s : State), s.runs key 0o020 j → a = wd (j.dw 1 0).toNat → slotArg j = true → bits (j.dw 1 0) 31 18 = 0 →
    j.dw 1 1 = 0 → j.dw 1 2 = 0 → j.dw 1 3 = 0 →
    (∀ st, s.targetCheck j (bits j.oparg 15 0) a = some st → exec (.slotGenerate key) s = .next (s.fail key j st)) ∧
    (s.targetCheck j (bits j.oparg 15 0) a = none → s.rngOk custodyInst = true → exec (.slotGenerate key) s =
      .next ((s.drawFrom custodyInst 32).2.fillSlot key j (bits j.oparg 15 0) a (s.drawFrom custodyInst 32).1))) ∧
  (∀ key j p (s : State), s.runs key 0o021 j → slotArg j = true → tb (j.dw 1 0) 31 = false → j.dw 1 1 = 0 → j.dw 1 2 = 0 →
    j.dw 1 3 = 0 → bits j.oparg 15 0 < custodianFirst → s.slotCheck j (j.dw 1 0) U.unwrap = none →
    (s.slot (refSlot (j.dw 1 0))).alg ≤ 3 → p = kwpUnwrap (s.slot (refSlot (j.dw 1 0))).keyOctets (j.oct 2 0 48) →
    (p = none → exec (.slotUnwrap key) s = .next (s.fail key j S.authFail)) ∧
    (∀ o, p = some o → o.length = 35 → beNat (o.drop 32) < 2 ^ 18 →
      s.targetCheck j (bits j.oparg 15 0) (wd (beNat (o.drop 32))) = none → exec (.slotUnwrap key) s =
        .next (s.fillSlot key j (bits j.oparg 15 0) (wd (beNat (o.drop 32))) (o.take 32)))) ∧
  (∀ key j v w (s : State), s.runs key 0o022 j → v = s.slot (refSlot j.oparg) → w = s.slot (refSlot (j.dw 1 0)) →
    refClean j.oparg = true → tb j.oparg 31 = false → tb (j.dw 1 0) 31 = false → j.dw 1 1 = 0 → j.dw 1 2 = 0 → j.dw 1 3 = 0 →
    refSlot j.oparg < custodianFirst → v.state = 1 → v.gen = refGen j.oparg → j.keyHolds v.colour = true → v.export = true →
    s.slotCheck j (j.dw 1 0) U.wrap = none → w.alg ≤ 3 → exec (.slotWrap key) s =
      .next (s.finish key j S.ok (kwpWrap w.keyOctets (beOctets 32 v.key.toNat ++ beOctets 3 v.attr0.toNat)))) ∧
  (∀ key j v a (s : State), s.runs key 0o023 j → v = s.slot (refSlot (j.dw 1 0)) → a = derivedAttr v (wd (j.dw 1 1).toNat) →
    slotArg j = true → tb (j.dw 1 0) 31 = false → bits (j.dw 1 1) 31 18 = 0 → j.dw 1 2 = 0 → j.dw 1 3 = 0 →
    s.slotCheck j (j.dw 1 0) U.derive = none → (v.alg ≤ 3 ∨ v.alg = 7) → s.targetCheck j (bits j.oparg 15 0) a = none →
    j.declared 2 ≠ 0 → j.declared 2 ≤ 256 → j.sgBad 2 = false → j.lenKnown 2 = true → j.lenStatus = none →
    j.hostErr = false → j.dataHere 2 = true → exec (.slotDerive key) s =
      .next (s.fillSlot key j (bits j.oparg 15 0) a (derivedKey v (j.data 2)))) ∧
  (∀ key j v (s : State), s.runs key 0o024 j → v = s.slot (refSlot j.oparg) → refClean j.oparg = true → tb j.oparg 31 = false →
    refSlot j.oparg < custodianFirst → v.state = 1 → v.gen = refGen j.oparg → j.keyHolds v.colour = true →
    exec (.slotDestroy key) s =
      .next (s.finishSlot key j (refSlot j.oparg) ⟨0, 0, wd (v.gen * 2 ^ 9)⟩ v.persist S.ok [])) ∧
  (∀ key j v (s : State), s.runs key 0o025 j → v = s.slot (bits j.oparg 15 0) → slotArg j = true →
    (v.state ≠ 1 ∨ j.keyHolds v.colour = true) →
    exec (.slotInfo key) s = .next (s.finish key j S.ok (leOctets 4 v.attr0.toNat ++ leOctets 4 v.attr1.toNat))) ∧
  (∀ key j n (s : State), s.runs key 0o030 j → n = bits j.oparg 12 0 → bits j.oparg 31 13 = 0 → n ≠ 0 → n ≤ 4096 →
    j.sgBad 1 = false → j.lenKnown 1 = true → n ≤ j.supplied 1 →
    (s.rngOk j.region = false → exec (.rngGet key) s = .next (s.fail key j S.deviceFault)) ∧
    (s.rngOk j.region = true → exec (.rngGet key) s =
      .next (((s.drawFrom j.region n).2.toBuffer j 1 (s.drawFrom j.region n).1).finish key j S.ok))) ∧
  (∀ key j n v persist st r (s : State), s.slotPending key n = false → s.cust.compacting = false → s.journalFull = false →
    s.cust.journal.length < s.journalCap → s.finishSlot key j n v persist st r =
      (if persist then s.record (some n) v else s).finish key { j with pendSlot := some (n, v) } st r)

/-- HEALTH_FAIL, DRBG_RESEED, JOURNAL_COMPACT and QKEY_DATA_WRITE. -/
def Obligations.EntropyJournalAndColourKeys : Prop :=
  (∀ last window (s : State), s.en P.rng = true → s.stat P.rng ST.error = false → ∃ rct apt : Bool,
    rct = (decide (max 0o20 (s.rfld P.rng R.RNG_RCT_CUT 7 0) ≤ last.length) &&
      (last.drop (last.length - max 0o20 (s.rfld P.rng R.RNG_RCT_CUT 7 0))).all (fun o => o == last.getLastD 0)) ∧
    apt = (!window.isEmpty && decide (s.rfld P.rng R.RNG_APT_CUT 8 0 ≤ (window.filter (fun x => x == window.headD 0)).length)) ∧
    (rct = true ∨ apt = true → exec (.healthFail last window) s = .next (s.healthFail rct apt))) ∧
  (∀ inst (s : State), s.rngOk inst = true →
    max 1 (s.rfld P.rng R.RNG_CFG 15 0) * 4096 ≤ Map.get (dflt 0) s.cust.reqs inst ∨
      Map.get (dflt 0) s.cust.seeded inst + 1000000000 ≤ s.now + 1 →
    exec (.drbgReseed inst) s = .next (State.inc36 { s with cust := { s.cust with
      reqs := Map.put (dflt 0) s.cust.reqs inst 0, seeded := Map.put (dflt 0) s.cust.seeded inst (s.now + 1) } }
      P.rng R.RNG_RESEEDS)) ∧
  (∀ s : State, s.cust.compacting = true → ∃ kept t u, kept = s.journalKept ∧ t = s.rewriteJournal kept ∧
    u = (State.setRbit { t with cust := { t.cust with compacting := false } } P.peat R.PEAT_STAT 1
      false).setRbit P.peat R.PEAT_STAT 2 (decide (t.journalCap < kept.length + 64)) ∧
    exec .journalCompact s = .next (if t.journalCap < kept.length + 64 then u.event P.peat 3 else u)) ∧
  (∀ req (val : Word) q (s : State), s.deaf P.peat = false → q = s.rfld P.peat R.PEAT_QKEY_SEL 7 0 →
    (s.en (P.wq q) = false → s.stat (P.wq q) ST.stopping = false → exec (.qkeyDataWrite req val) s =
      .next { s with cust := { s.cust with qkeys := Map.put (dflt 0) s.cust.qkeys q (val.setWidth 16) } }) ∧
    (s.en (P.wq q) = true ∨ s.stat (P.wq q) ST.stopping = true → exec (.qkeyDataWrite req val) s =
      .next (s.pgErr P.peat 0 req R.PEAT_QKEY_DATA)))

/-- The ceremony rows. The digest and signature checks are functions of the octets the card returned. -/
def Obligations.CeremoniesRunByQuorum : Prop :=
  (∀ (row : (Requester → Instr) × Nat), row ∈ [((fun r => Instr.cerCommission r), 0), ((fun r => Instr.cerEnrolDomain r), 1),
      ((fun r => Instr.cerSetTamper r), 2), ((fun r => Instr.cerLeaveGb r), 3), ((fun r => Instr.cerRetire r), 4),
      ((fun r => Instr.cerCustodians r), 5)] → ∀ req (s : State), s.deaf P.peat = false →
    (s.cerRuns = true → exec (row.1 req) s = .next (s.pgErr P.peat 1 req R.PEAT_CER_CTRL)) ∧
    (s.cerRuns = false → cerAllowed row.2 (s.rfld P.hmk R.HMK_STAT 1 0) = false →
      exec (row.1 req) s = .next (s.cerRefuse row.2 CER.state)) ∧
    (s.cerRuns = false → cerAllowed row.2 (s.rfld P.hmk R.HMK_STAT 1 0) = true →
      (row.2 = 0 ∨ row.2 = 5 → quorumOk (s.reg P.peat R.PEAT_CER_PARAM) = false →
        exec (row.1 req) s = .next (s.cerRefuse row.2 CER.param)) ∧
      ((row.2 = 0 ∨ row.2 = 5 → quorumOk (s.reg P.peat R.PEAT_CER_PARAM) = true) → s.rngOk custodyInst = true →
        exec (row.1 req) s = .next (s.cerOpen row.2)))) ∧
  (∀ req (s : State), s.deaf P.peat = false → (s.rfld P.peat R.PEAT_CER_STAT 2 0 = 1 ∨ s.rfld P.peat R.PEAT_CER_STAT 2 0 = 2) →
    s.cust.cer.func ≠ 2 → exec (.cerCancel req) s = .next (((s.setRfld P.peat R.PEAT_CER_STAT 2 0 4).setRfld P.peat
      R.PEAT_CER_STAT 11 8 cerCancelled).event P.peat 1)) ∧
  (∀ s : State, s.cerRuns = true → s.cust.cer.startSys.toNat + 600000000000 ≤ s.clock.sys.toNat →
    exec .ceremonyTimeout s = .next (s.cerFail CER.timeout)) ∧
  (∀ stn pubkey sig comp fail n (s : State), s.cerState = 1 → s.rbit P.peat R.PEAT_CUST_STN stn = true →
    s.ready (P.cst stn) = true → s.rbit (P.cst stn) R.CST_STAT 3 = true → s.rfld (P.cst stn) R.CST_STAT 2 0 = 0 →
    n = (match fail with | some i => min i (s.cardSteps pubkey sig) | none => s.cardSteps pubkey sig) →
    (n = 4 → s.rngOk custodyInst = true) → ∃ o t u,
    (n = 4 → o = (s.drawFrom custodyInst 32).1 ∧ t = (s.drawFrom custodyInst 32).2) ∧ (n ≠ 4 → o = [] ∧ t = s) ∧
    u = t.cardStation stn ([selectApdu, identifyApdu, approveApdu t.challenge,
      componentApdu (p256.octets (p256.mul (ephemeral o) p256.g))].take n) ∧
    (fail = none → exec (.custodianCardProcess stn pubkey sig comp fail) s = .next (u.cardAnswer pubkey sig comp o)) ∧
    (fail ≠ none → n ≤ 2 → exec (.custodianCardProcess stn pubkey sig comp fail) s = .next u.cardNeeded) ∧
    (fail ≠ none → 2 < n → exec (.custodianCardProcess stn pubkey sig comp fail) s = .next (u.cerFail CER.protocol))) ∧
  (∀ pubkey sig comp o (u : State), ∃ d, d = cardDigest pubkey ∧
    (u.enrolling = true → u.cust.cer.enrolled.contains d = true → u.cardAnswer pubkey sig comp o = u.cardNeeded) ∧
    (u.enrolling = true → u.cust.cer.enrolled.contains d = false → u.cardSig pubkey sig = true →
      u.cardAnswer pubkey sig comp o = u.enrolCard d) ∧
    (u.enrolling = false → u.isCustodian d = false ∨ u.cust.cer.counted.contains d = true →
      u.cardAnswer pubkey sig comp o = u.cardNeeded) ∧
    (u.enrolling = false → u.isCustodian d = true → u.cust.cer.counted.contains d = false →
      (u.cardSig pubkey sig = false → u.cardAnswer pubkey sig comp o = u.cerFail CER.sig) ∧
      (u.cardSig pubkey sig = true → u.cust.cer.func ≠ 1 → u.cardAnswer pubkey sig comp o = u.countCard d 0) ∧
      (u.cardSig pubkey sig = true → u.cust.cer.func = 1 →
        (∀ c, openComponent (ephemeral o) pubkey comp = some c → u.cardAnswer pubkey sig comp o = u.countCard d c) ∧
        (openComponent (ephemeral o) pubkey comp = none → u.cardAnswer pubkey sig comp o = u.cerFail CER.sig))))

/-- The seventeen cipher rows; `cipherRun` is the mode's computation. -/
def Obligations.CipherJobsWriteTheirResult : Prop :=
  (∀ (row : (Nat → UnitCheck → Instr) × Nat), row ∈ [((fun k g => Instr.ecbEnc k g), 0o040), ((fun k g => Instr.ecbDec k g), 0o041),
      ((fun k g => Instr.cbcEnc k g), 0o042), ((fun k g => Instr.cbcDec k g), 0o043), ((fun k g => Instr.ctr k g), 0o044),
      ((fun k g => Instr.gcmEnc k g), 0o045), ((fun k g => Instr.gcmDec k g), 0o046), ((fun k g => Instr.ccmEnc k g), 0o047),
      ((fun k g => Instr.ccmDec k g), 0o050), ((fun k g => Instr.cmacGen k g), 0o051), ((fun k g => Instr.cmacVer k g), 0o052),
      ((fun k g => Instr.kwWrap k g), 0o053), ((fun k g => Instr.kwUnwrap k g), 0o054), ((fun k g => Instr.kwpWrap k g), 0o055),
      ((fun k g => Instr.kwpUnwrap k g), 0o056), ((fun k g => Instr.akaMilenage k g), 0o060), ((fun k g => Instr.akaResync k g), 0o061)] →
    ∀ key j p (s : State), s.runsOnUnit key row.2 j .cipher p →
    exec (row.1 key .mismatch) s = .next (s.checkFail p) ∧
    (s.namesKey key j = true → exec (row.1 key .parity) s = .next (s.parityFail p)) ∧
    (s.namesKey key j = false → exec (row.1 key .parity) s = exec (row.1 key .pass) s) ∧
    (row.2 ≤ 0o056 → (∀ st, s.cipherKey key j = .error st → exec (row.1 key .pass) s = .next (s.fail key j st))) ∧
    (row.2 ≤ 0o056 → (j.gb = false ∨ row.2 ∉ [0o040, 0o041, 0o042, 0o043, 0o044, 0o051]) →
      ∀ ck, s.cipherKey key j = .ok ck →
        (∀ st, s.cipherForm key j = some st → exec (row.1 key .pass) s = .next (s.fail key j st)) ∧
        (∀ st, s.cipherForm key j = none → j.cipherLimits = some st → exec (row.1 key .pass) s = .next (s.fail key j st)) ∧
        (s.cipherForm key j = none → j.cipherLimits = none → j.delivered j.cipherNeed = true →
          (s.cipherRun key j ck = none →
            exec (row.1 key .pass) s = .next ((s.countBlocks j R.CIPH_BLOCKS j.aesBlocks).fail key j S.authFail)) ∧
          (∀ o, s.cipherRun key j ck = some o → exec (row.1 key .pass) s =
            .next (((s.countBlocks j R.CIPH_BLOCKS j.aesBlocks).noteChain j).finishOut key (s.withChain key j o.chain)
              j.goodStatus (if outCell j.opcode = 0 then [] else [(outCell j.opcode, o.out)]) o.res)))) ∧
    (row.2 ∈ [0o040, 0o041, 0o042, 0o043, 0o044, 0o051] → j.gb = true → ∀ ck, s.cipherKey key j = .ok ck →
      (j.gbBad = true → exec (row.1 key .pass) s = .next (s.fail key j S.invalidOperand)) ∧
      (j.gbBad = false → j.delivered [] = true → ∃ u ks d, u = s.countBlocks j R.CIPH_BLOCKS j.aesBlocks ∧
        ks = aesSchedule ck.key ∧ d = j.data 1 ∧
        (row.2 = 0o051 → exec (row.1 key .pass) s = .next (u.finish key j j.goodStatus
          (cmacFrom ks (if j.saved.isEmpty then zeros 16 else (cstOf j.saved).acc)
            (if j.saved.isEmpty then d else d.drop (16 * j.parkDone))))) ∧
        (row.2 ≤ 0o044 → ∃ iv e, iv = (if 0o042 ≤ row.2 then d.take 16 else []) ∧
          e = stepsAll row.2 0 ks ⟨if 0o042 ≤ row.2 then d.take 16 else zeros 16, zeros 16, 0, 0⟩ []
            (chunks 16 (if 0o042 ≤ row.2 then d.drop 16 else d)) j.saved j.parkDone ∧
          exec (row.1 key .pass) s = .next (u.finishOut key j j.goodStatus [(1, iv ++ e.2)]
            (if 0o042 ≤ row.2 then e.1.v else [])))))) ∧
  (∀ key j p kk opc (s : State), s.runsOnUnit key 0o060 j .cipher p → j.gb = false →
    s.akaKeys key j (tb j.oparg 0) (j.dw 1 0 &&& 0x7FFFFFFF) (j.dw 1 1 &&& 0x7FFFFFFF) (j.handle 1 0) = .ok (kk, opc) →
    bits j.oparg 31 1 = 0 → (if tb j.oparg 0 then tb (j.dw 1 0) 31 || tb (j.dw 1 1) 31 else !j.handlePad 1 0) = false →
    exec (.akaMilenage key .pass) s = .next ((s.countBlocks j R.CIPH_BLOCKS j.aesBlocks).finish key j S.ok
      (milenage kk opc (j.oct 2 0 16) (j.oct 1 8 6) (j.oct 1 14 2)))) ∧
  (∀ key j p (s : State), s.runsOnUnit key 0o060 j .cipher p → j.gb = true → (j.oparg ≠ 0 ∨ j.declared 1 ≠ 64) →
    exec (.akaMilenage key .pass) s = .next (s.fail key j S.invalidOperand)) ∧
  (∀ key j p h kk opc (s : State), s.runsOnUnit key 0o060 j .cipher p → j.gb = true → j.oparg = 0 → j.declared 1 = 64 →
    j.delivered [] = true → h = leNat ((j.data 1).take 8) → h / 2 ^ 54 = 0 →
    s.akaKeys key j false 0 0 (h % 2 ^ 54) = .ok (kk, opc) →
    exec (.akaMilenage key .pass) s = .next ((s.countBlocks j R.CIPH_BLOCKS j.aesBlocks).finishOut key j j.goodStatus
      [(1, milenage kk opc (sliceOct (j.data 1) 16 16) (sliceOct (j.data 1) 8 6) (sliceOct (j.data 1) 14 2) ++
        (j.data 1).drop 54)] [])) ∧
  (∀ (row : (Nat → UnitCheck → Instr) × Nat), row ∈ [((fun k g => Instr.akaMilenage k g), 0o060), ((fun k g => Instr.akaResync k g), 0o061)] →
    ∀ key j p st (s : State), s.runsOnUnit key row.2 j .cipher p → (row.2 = 0o060 → j.gb = false) →
    s.akaKeys key j (tb j.oparg 0) (j.dw 1 0 &&& 0x7FFFFFFF) (j.dw 1 1 &&& 0x7FFFFFFF) (j.handle 1 0) = .error st →
    exec (row.1 key .pass) s = .next (s.fail key j st)) ∧
  (∀ key j p kk opc (s : State), s.runsOnUnit key 0o061 j .cipher p →
    s.akaKeys key j (tb j.oparg 0) (j.dw 1 0 &&& 0x7FFFFFFF) (j.dw 1 1 &&& 0x7FFFFFFF) (j.handle 1 0) = .ok (kk, opc) →
    bits j.oparg 31 1 = 0 → (if tb j.oparg 0 then tb (j.dw 1 0) 31 || tb (j.dw 1 1) 31 else !j.handlePad 1 0) = false →
    j.oct 1 8 8 = zeros 8 → j.oct 3 14 2 = zeros 2 → ∃ u m, u = s.countBlocks j R.CIPH_BLOCKS j.aesBlocks ∧
      m = milResync kk opc (j.oct 2 0 16) (j.oct 3 0 16) ∧
      (∀ sqn, m = some sqn → exec (.akaResync key .pass) s = .next (u.finish key j S.ok sqn)) ∧
      (m = none → exec (.akaResync key .pass) s = .next (u.fail key j S.authFail)))

/-- The ten digest rows, the two HMAC jobs and GB_HMAC. -/
def Obligations.DigestJobsWriteTheirResult : Prop :=
  (∀ (row : (Nat → UnitCheck → Instr) × Nat × Nat), row ∈ [((fun k g => Instr.sha224 k g), 0o140, 0), ((fun k g => Instr.sha256 k g), 0o141, 1),
      ((fun k g => Instr.sha384 k g), 0o142, 2), ((fun k g => Instr.sha512 k g), 0o143, 3), ((fun k g => Instr.sha3224 k g), 0o144, 4),
      ((fun k g => Instr.sha3256 k g), 0o145, 5), ((fun k g => Instr.sha3384 k g), 0o146, 6), ((fun k g => Instr.sha3512 k g), 0o147, 7),
      ((fun k g => Instr.shake128 k g), 0o150, 8), ((fun k g => Instr.shake256 k g), 0o151, 9)] →
    ∀ key j p (s : State), s.runsOnUnit key row.2.1 j .digest p →
    exec (row.1 key .mismatch) s = .next (s.checkFail p) ∧ exec (row.1 key .parity) s = exec (row.1 key .pass) s ∧
    (∀ st, s.digestForm key j row.2.2 = some st → exec (row.1 key .pass) s = .next (s.fail key j st)) ∧
    (s.digestForm key j row.2.2 = none →
      (j.cont = true → j.gb = false → j.listsOk j.digestNeed = true → j.dataHere 2 = true → j.digestStart row.2.2 = none →
        exec (row.1 key .pass) s = .next (s.fail key j S.invalidOperand)) ∧
      (j.delivered j.digestNeed = true → (j.cont = true → j.gb = false → j.dataHere 2 = true) →
        ∀ d, j.digestStart row.2.2 = some d → ∃ w x u, w = j.digestWork row.2.2 d ∧ x = j.workAt w ∧
        u = (s.countBlocks j R.DIG_BLOCKS (w.steps - x.2.1)).noteRecord j (j.more && !j.gb) (j.cont && !j.gb) ∧
        (j.more = true → j.gb = false → exec (row.1 key .pass) s = .next (u.finishOut key j j.goodStatus
          [(2, wordStream (recordWords row.2.2 false 0 0 0 ⟨w.go x.1 x.2.1 w.blocks, d.count + w.len⟩))] [])) ∧
        (j.more = false ∨ j.gb = true → exec (row.1 key .pass) s = .next (u.finish key j j.goodStatus (w.finish x)))))) ∧
  (∀ key j c alg k u (s : State), (s.holds key 0o160 j c ∨ s.holds key 0o161 j c) →
    s.hmacKeyOf key j = .ok (alg, k) → s.hmacForm key j alg = none →
    j.delivered (j.parkNeed 261) = true → s.hmacRuns j.region alg (j.data 2).length = some u →
    ∃ n tag, n = (if j.macLen = 0 then algOut alg else j.macLen) ∧ tag = (hmac alg k (j.data 2)).take n ∧
      (j.opcode = 0o160 → exec (.hmacGen key) s = .next ((u.finish key j j.goodStatus tag).leftHeld c key)) ∧
      (j.opcode = 0o161 → tag = j.expectTag.take n → exec (.hmacVer key) s = .next ((u.finish key j j.goodStatus).leftHeld c key)) ∧
      (j.opcode = 0o161 → tag ≠ j.expectTag.take n → exec (.hmacVer key) s = .next ((u.fail key j S.authFail).leftHeld c key))) ∧
  (∀ key j p (s : State), s.runsOnUnit key 0o162 j .digest p →
    exec (.gbHmac key .mismatch) s = .next (s.checkFail p) ∧
    exec (.gbHmac key .parity) s = .next (s.parityFail p) ∧
    (∀ st, s.hmacKeyOf key j = .error st → exec (.gbHmac key .pass) s = .next (s.fail key j st)) ∧
    (∀ alg k, s.hmacKeyOf key j = .ok (alg, k) → j.oparg ≠ 0 →
      exec (.gbHmac key .pass) s = .next (s.fail key j S.invalidOperand)) ∧
    (∀ alg k, s.hmacKeyOf key j = .ok (alg, k) → j.oparg = 0 → j.delivered [] = true →
      ∃ w x inner, w = j.gbWork alg k ∧ x = j.workAt w ∧ inner = (w.go x.1 x.2.1 w.blocks).take (algOut alg) ∧
      exec (.gbHmac key .pass) s = .next ((s.countBlocks j R.DIG_BLOCKS (j.keyBlocks + (w.blocks + 1 - x.2.1))).finish key j
        j.goodStatus ((digest alg (hmacKey alg k 0x5C ++ inner) (algOut alg)).take 32))))

/-- RESULT_READ, WINDOW_EXPIRED and REFUSE_READ. -/
def Obligations.TheResultWindowIsReadOnce : Prop :=
  (∀ c unit idx (s : State), c / 16 = unit / 8 → s.rbit (P.dig unit) R.DIG_WSTAT 17 = true →
    exec (.resultRead (.core c) unit idx) s = .next (State.answer
      (if idx = 0 ∧ s.holdOf (P.dig unit) = c + 1 then s.endHold (P.dig unit) else s) (s.reg (P.dig unit) (R.DIG_RESULT + idx)))) ∧
  (∀ c unit idx (s : State), c / 16 = unit / 8 → s.rbit (P.dig unit) R.DIG_WSTAT 17 = false →
    exec (.resultRead (.core c) unit idx) s = .next ((s.pgErr (P.dig unit) 1 (.core c) (R.DIG_RESULT + idx)).answer 0)) ∧
  (∀ unit idx (s : State), exec (.resultRead .host unit idx) s =
    .next ((s.pgErr (P.dig unit) ERR.gate .host (R.DIG_RESULT + idx)).answer 0)) ∧
  (∀ unit (s : State), s.holdOf (P.dig unit) ≠ 0 → exec (.windowExpired unit) s =
    .next (((s.clearWindow (P.dig unit)).event (P.dig unit) 4).endHold (P.dig unit))) ∧
  (∀ unit (s : State), exec (.refuseRead .host unit) s =
    .next ((s.setReg (P.bn unit) R.BN_REFUSE 0).answer (s.reg (P.bn unit) R.BN_REFUSE)))

/-- The six bignum queue rows. The arithmetic is that of Nat: see `ModularResultsAreTheArithmetic`. -/
def Obligations.BignumJobsComputeModuloTheirModulus : Prop :=
  ∀ (row : (Nat → UnitCheck → Instr) × Nat), row ∈ [((fun k g => Instr.bnModexp k g), 0o200), ((fun k g => Instr.bnModmul k g), 0o201),
      ((fun k g => Instr.bnModadd k g), 0o202), ((fun k g => Instr.bnModsub k g), 0o203), ((fun k g => Instr.bnModinv k g), 0o204),
      ((fun k g => Instr.bnCurvechk k g), 0o205)] →
    ∀ key j p (s : State), s.runsOnUnit key row.2 j .bignum p → j.orphan = false →
    exec (row.1 key .mismatch) s = .next (s.checkFail p) ∧ exec (row.1 key .parity) s = exec (row.1 key .pass) s ∧
    (j.bnLimits = false → exec (row.1 key .pass) s = .next (s.fail key j S.invalidOperand)) ∧
    (j.bnLimits = true → j.delivered j.bnOut = true → ∃ u, u = s.drawRho p j.bnBuilt.length ∧
      (∀ r, bnResult row.2 j.bnNums = .ok r → exec (row.1 key .pass) s =
        .next ((u.countBlocks j R.BN_MULS ((j.bnBuilt.map BnCmd.muls).foldl (· + ·) 0 - boundMuls j.bnBuilt j.parkDone)).finishOut
          key j j.goodStatus (if j.gb then [(1, (j.data 1).take j.bnLens.1 ++ beOctets j.bnLens.1 r)]
            else j.bnOut.map (fun o => (o.1, beOctets j.bnLens.1 r))) [])) ∧
      (∀ i t, bnResult row.2 j.bnNums = .error i →
        t = u.bnRefuse j (j.bnLens.2.length + 1 + i) (bits (Config.freeWord u.fresh) 3 0) →
        exec (row.1 key .pass) s = .next (({ t with fresh := t.fresh + 1 } : State).fail key j S.invalidOperand)))

/-- BN_PROGRAM_ENQUEUE, the eleven program commands, BN_YIELD and BN_ABORT. -/
def Obligations.BignumProgramsRunTheirCommandsInOrder : Prop :=
  (∀ (row : (Nat → UnitCheck → Instr) × Nat), row ∈ [((fun u g => Instr.convert u g), 2), ((fun u g => Instr.toMont u g), 3),
      ((fun u g => Instr.fromMont u g), 4), ((fun u g => Instr.modadd u g), 5), ((fun u g => Instr.modsub u g), 6),
      ((fun u g => Instr.modmul u g), 7), ((fun u g => Instr.modinv u g), 8), ((fun u g => Instr.modexp u g), 9),
      ((fun u g => Instr.curvechk u g), 10)] →
    ∀ unit key j c x (s : State), s.runsCommand unit row.2 key j c x →
    exec (row.1 unit .mismatch) s = .next (s.checkFail (P.bn unit)) ∧
    exec (row.1 unit .parity) s = exec (row.1 unit .pass) s ∧
    ((row.2 = 2 → x.c = 1 → (j.bn.slot x.a).keyed = false) → ∃ u, u = s.drawRho (P.bn unit) 1 ∧
      (∀ i, j.bn.refused x = some i →
        exec (row.1 unit .pass) s = .next ((u.bnRefuse j j.bn.idx i).fail key j S.invalidOperand)) ∧
      (j.bn.refused x = none → ∃ t, t = u.countBlocks j R.BN_MULS (x.muls - x.mulsTo j.parkDone) ∧
        (j.bn.compute x = none →
          exec (row.1 unit .pass) s = .next ((t.bnRefuse j j.bn.idx x.a).fail key j S.invalidOperand)) ∧
        (∀ w, j.bn.compute x = some w → exec (row.1 unit .pass) s = .next (t.progNext key j
          (if x.writesD then (j.bn.noteMod x).setSlot x.d ⟨w, false, 0⟩ else j.bn.noteMod x)))))) ∧
  (∀ unit key j c x (s : State), s.runsCommand unit 2 key j c x → x.c = 1 → (j.bn.slot x.a).keyed = true →
    exec (.convert unit .pass) s = .next ((s.drawRho (P.bn unit) 1).fail key j S.denied)) ∧
  (∀ unit key j c x g u l (s : State), s.runsCommand unit 0 key j c x → x.c = 0 → l = [(x.arg, x.n, AType.r)] →
    (g = .pass ∨ g = .parity) → u = ((s.drawRho (P.bn unit) 1).checkRanges c.who l).1 →
    (((s.drawRho (P.bn unit) 1).checkRanges c.who l).2 = true → u.rangesStruck c.who l = none →
      exec (.load unit g) s = .next ((u.readWords c.who x.arg x.n).1.progNext key j
        (j.bn.setSlot x.d ⟨(u.readWords c.who x.arg x.n).2, false, 0⟩))) ∧
    (((s.drawRho (P.bn unit) 1).checkRanges c.who l).2 = false → exec (.load unit g) s = .next (u.fail key j S.denied))) ∧
  (∀ unit key j c x u r (s : State), s.runsCommand unit 0 key j c x → x.c ≠ 0 →
    u = s.drawRho (P.bn unit) 1 → r = BitVec.ofNat 32 x.arg →
    exec (.load unit .parity) s = .next (s.parityFail (P.bn unit)) ∧
    (x.n ≠ 15 → exec (.load unit .pass) s = .next (u.fail key j S.invalidOperand)) ∧
    (x.n = 15 → u.slotStruck r = none →
      (∀ st, u.slotCheck j r U.sign = some st → exec (.load unit .pass) s = .next (u.fail key j st)) ∧
      (u.slotCheck j r U.sign = none →
        ((u.slot (refSlot r)).alg = 8 → exec (.load unit .pass) s = .next (u.progNext key j (j.bn.setSlot x.d
          ⟨natLimbs 15 (u.slot (refSlot r)).key.toNat, true, 0⟩))) ∧
        ((u.slot (refSlot r)).alg ≠ 8 → exec (.load unit .pass) s = .next (u.fail key j S.denied))))) ∧
  (∀ unit key j c x g u l (s : State), s.runsCommand unit 1 key j c x → (j.bn.slot x.a).keyed = false →
    l = [(x.arg, x.n, AType.w)] → (g = .pass ∨ g = .parity) → u = ((s.drawRho (P.bn unit) 1).checkRanges c.who l).1 →
    (((s.drawRho (P.bn unit) 1).checkRanges c.who l).2 = true → exec (.store unit g) s =
      .next ((u.writeWords c.who x.arg (natLimbs x.n (j.bn.val x.a x.n))).progNext key j j.bn)) ∧
    (((s.drawRho (P.bn unit) 1).checkRanges c.who l).2 = false → exec (.store unit g) s = .next (u.fail key j S.denied))) ∧
  (∀ unit key j c x (s : State), s.runsCommand unit 1 key j c x → (j.bn.slot x.a).keyed = true →
    exec (.store unit .pass) s = .next ((s.drawRho (P.bn unit) 1).fail key j S.denied)) ∧
  (∀ unit op key j c x (s : State), s.runsCommand unit op key j c x →
    (op = 0 → exec (.load unit .mismatch) s = .next (s.checkFail (P.bn unit))) ∧
    (op = 1 → exec (.store unit .mismatch) s = .next (s.checkFail (P.bn unit)))) ∧
  (∀ key j c w (s : State), s.job key = some j → j.cmd = some c → c.typ = 2 → j.st = .fetched →
    w = s.words c.addr (4 + 4 * progCount (s.words c.addr 1)) →
    s.struckIn c.addr (4 + 4 * progCount (s.words c.addr 1)) = none →
    (progForm w c.sup = none → exec (.bnProgramEnqueue key) s =
      .next (s.placeIn key { j with cmd := some { c with words := w } } .bignum j.region)) ∧
    (∀ st i, progForm w c.sup = some (st, i) → ∃ x, x = { j with cmd := some { c with words := w }, bn := { j.bn with idx := i } } ∧
      (s.hasUnit .bignum j.region = true → ∀ p, s.pickUnit .bignum j.region = some p →
        exec (.bnProgramEnqueue key) s = .next (s.fail key { x with unit := some p } st)) ∧
      (s.hasUnit .bignum j.region = true → s.pickUnit .bignum j.region = none → exec (.bnProgramEnqueue key) s = .next s) ∧
      (s.hasUnit .bignum j.region = false → exec (.bnProgramEnqueue key) s = .next (s.notReadyJob key x)))) ∧
  (∀ unit k j k' j' done t (s : State), s.runsOn (P.bn unit) = some k → s.job k = some j →
    s.yieldTo (P.bn unit) j done = some k' → s.park k j done = some t → s.job k' = some j' → s.parkable k j = true →
    j.utype = .bignum → j.parks < s.parkLimit → exec (.bnYield unit done) s = .next (t.startJob (P.bn unit) k' j')) ∧
  (∀ key j p (s : State), s.job key = some j → j.unit = some p → j.st = .running → j.orphan = true → j.utype = .bignum →
    exec (.bnAbort key) s = .next ((((s.dropJob key).leaveUnit key j).incSat p R.BN_ABORTS).event p 5))

/-- The arithmetic the unit is asked for, over all numbers; independent of how the model computes it. -/
def Obligations.ModularResultsAreTheArithmetic : Prop :=
  (∀ b e m, 2 ≤ m → powMod b e m = b ^ e % m) ∧
  (∀ a b m, a < m → b < m → subMod a b m < m ∧ (subMod a b m + b) % m = a) ∧
  (∀ a m r, 2 ≤ m → (invMod a m = some r ↔ r < m ∧ a * r % m = 1)) ∧
  (∀ a m, 2 ≤ m → (invMod a m = none ↔ Nat.gcd a m ≠ 1)) ∧
  (∀ a n m, 2 ≤ m → m % 2 = 1 → a < m →
    (a * 2 ^ (18 * n) % m) * inv0 (2 ^ (18 * n) % m) m % m = a)

/-- R10's limb form and R218's octet order, both ways. -/
def Obligations.NumbersKeepTheirLimbs : Prop :=
  (∀ n v, (natLimbs n v).length = n ∧ limbsNat (natLimbs n v) n = v % 2 ^ (18 * n)) ∧
  (∀ l : List Word, natLimbs l.length (limbsNat l l.length) = l) ∧
  (∀ n v, (beOctets n v).length = n ∧ beNat (beOctets n v) = v % 256 ^ n) ∧
  (∀ l : List Octet, beOctets l.length (beNat l) = l)

/-- R6 and R7: the packed form of octet strings; a malformed string (R8) does not unpack. -/
def Obligations.PackedStringsKeepTheirOctets : Prop :=
  (∀ l : List Octet, (packWords l).length = (l.length + 1) / 2 ∧ unpackWords (packWords l) = some l ∧
    (∀ i w, (packWords l)[i]? = some w → tb w 17 = true ∧ (i + 1 < (packWords l).length → tb w 8 = true) ∧
      (i + 1 = (packWords l).length → tb w 8 = decide (l.length % 2 = 0)) ∧ (tb w 8 = false → bits w 7 0 = 0))) ∧
  (∀ (l : List Word) (o : List Octet), unpackWords l = some o →
    (∀ i w, l[i]? = some w → tb w 17 = true ∧ (i + 1 < l.length → tb w 8 = true)) ∧ (o.length + 1) / 2 = l.length) ∧
  (∀ (l : List Word) (i : Nat) (w : Word), l[i]? = some w → (tb w 17 = false ∨ (tb w 8 = false ∧ i + 1 < l.length)) →
    unpackWords l = none) ∧
  (∀ (l : List Word) (w : Word), tb w 8 = false → unpackWords (l ++ [w]) = unpackWords (l ++ [w &&& 0o777400]))

/-- Table 8-6's word operations, in the arithmetic of 18-bit words. -/
def Obligations.KazoloWordOperationsComputeAsTabled : Prop :=
  (∀ (row : (Nat → List (BitVec 9) → Word → Instr) × KOp × (Word → Word → Word)), row ∈ [
      ((fun c p w => Instr.kMov c p w), KOp.mov, (fun _ b => b)),
      ((fun c p w => Instr.kAdd c p w), KOp.add, (fun a b => a + b)),
      ((fun c p w => Instr.kSub c p w), KOp.sub, (fun a b => a - b)),
      ((fun c p w => Instr.kAnd c p w), KOp.and_, (fun a b => a &&& b)),
      ((fun c p w => Instr.kOr c p w), KOp.or_, (fun a b => a ||| b)),
      ((fun c p w => Instr.kXor c p w), KOp.xor_, (fun a b => a ^^^ b)),
      ((fun c p w => Instr.kAndn c p w), KOp.andn, (fun a b => a &&& ~~~b)),
      ((fun c p w => Instr.kMul c p w), KOp.mul, (fun a b => a * b)),
      ((fun c p w => Instr.kMulh c p w), KOp.mulh, (fun a b => wd (a.toNat * b.toNat / 2 ^ 18))),
      ((fun c p w => Instr.kMulhs c p w), KOp.mulhs, (fun a b => BitVec.ofInt 18 (a.toInt * b.toInt / 2 ^ 18))),
      ((fun c p w => Instr.kOcthi c p w), KOp.octhi, (fun _ b => wd (bits b 16 9))),
      ((fun c p w => Instr.kOctlo c p w), KOp.octlo, (fun _ b => wd (bits b 7 0))),
      ((fun c p w => Instr.kOctpk c p w), KOp.octpk, (fun a b => wd (0o400400 + bits a 7 0 * 0o1000 + bits b 7 0))),
      ((fun c p w => Instr.kShl c p w), KOp.shl, (fun a b => a <<< bits b 4 0)),
      ((fun c p w => Instr.kShr c p w), KOp.shr, (fun a b => a >>> bits b 4 0)),
      ((fun c p w => Instr.kSar c p w), KOp.sar, (fun a b => a.sshiftRight (bits b 4 0))),
      ((fun c p w => Instr.kRol c p w), KOp.rol, (fun a b => a.rotateLeft (b.toNat % 18))),
      ((fun c p w => Instr.kBrev c p w), KOp.brev, (fun _ b => b.reverse)),
      ((fun c p w => Instr.kClz c p w), KOp.clz, (fun _ b => wd (leadZeros 18 b.toNat))),
      ((fun c p w => Instr.kPopc c p w), KOp.popc, (fun _ b => wd (popCount 18 b.toNat)))] →
    ∀ c pre w i x (s t : State), s.runsIns t c pre w row.2.1 i x → exec (row.1 c pre w) s =
      .next (t.doneIns c i (x.setW (bits i.w 9 5) (row.2.2 (x.wr (bits i.w 9 5)) (x.wr (bits i.w 4 0)))))) ∧
  (∀ (row : (Nat → List (BitVec 9) → Word → Instr) × KOp × (Word → Word → Word)), row ∈ [
      ((fun c p w => Instr.kMovi c p w), KOp.movi, (fun _ b => b)),
      ((fun c p w => Instr.kAddi c p w), KOp.addi, (fun a b => a + b)),
      ((fun c p w => Instr.kAndi c p w), KOp.andi, (fun a b => a &&& b)),
      ((fun c p w => Instr.kOri c p w), KOp.ori, (fun a b => a ||| b)),
      ((fun c p w => Instr.kXori c p w), KOp.xori, (fun a b => a ^^^ b)),
      ((fun c p w => Instr.kMuli c p w), KOp.muli, (fun a b => a * b))] →
    ∀ c pre w i x (s t : State), s.runsIns t c pre w row.2.1 i x → exec (row.1 c pre w) s =
      .next (t.doneIns c i (x.setW (bits i.w 10 6) (row.2.2 (x.wr (bits i.w 10 6)) (i.imm6 18))))) ∧
  (∀ (row : (Nat → List (BitVec 9) → Word → Instr) × KOp × (Word → Nat → Word)), row ∈ [
      ((fun c p w => Instr.kShli c p w), KOp.shli, (fun a n => a <<< n)),
      ((fun c p w => Instr.kShri c p w), KOp.shri, (fun a n => a >>> n)),
      ((fun c p w => Instr.kSari c p w), KOp.sari, (fun a n => a.sshiftRight n))] →
    ∀ c pre w i x (s t : State), s.runsIns t c pre w row.2.1 i x → exec (row.1 c pre w) s =
      .next (t.doneIns c i (x.setW (bits i.w 10 6) (row.2.2 (x.wr (bits i.w 10 6)) (bits i.w 5 0))))) ∧
  (∀ c pre w i x (s t : State), s.runsIns t c pre w .addx i x → exec (.kAddx c pre w) s = .next (t.doneIns c i
    ((x.setW (bits i.w 9 5) (x.wr (bits i.w 9 5) + x.wr (bits i.w 4 0) + wd (b2n (x.pr carryP)))).setP carryP
      (decide (2 ^ 18 ≤ (x.wr (bits i.w 9 5)).toNat + (x.wr (bits i.w 4 0)).toNat + b2n (x.pr carryP)))))) ∧
  (∀ c pre w i x (s t : State), s.runsIns t c pre w .subx i x → exec (.kSubx c pre w) s = .next (t.doneIns c i
    ((x.setW (bits i.w 9 5) (x.wr (bits i.w 9 5) - x.wr (bits i.w 4 0) - wd (b2n (x.pr carryP)))).setP carryP
      (decide ((x.wr (bits i.w 9 5)).toNat < (x.wr (bits i.w 4 0)).toNat + b2n (x.pr carryP))))))

/-- Table 8-6's double-word, address, compare and predicate operations. -/
def Obligations.KazoloDoubleAddressAndPredicateOperations : Prop :=
  (∀ (row : (Nat → List (BitVec 9) → Word → Instr) × KOp × (DWord → DWord → DWord)), row ∈ [
      ((fun c p w => Instr.kMovd c p w), KOp.movd, (fun _ b => b)),
      ((fun c p w => Instr.kAddd c p w), KOp.addd, (fun a b => a + b)),
      ((fun c p w => Instr.kSubd c p w), KOp.subd, (fun a b => a - b))] →
    ∀ c pre w i x (s t : State), s.runsIns t c pre w row.2.1 i x → exec (row.1 c pre w) s =
      .next (t.doneIns c i (x.setD (bits i.w 9 5) (row.2.2 (x.dr (bits i.w 9 5)) (x.dr (bits i.w 4 0)))))) ∧
  (∀ c pre w i x (s t : State), s.runsIns t c pre w .mull i x → exec (.kMull c pre w) s = .next (t.doneIns c i
    (x.setD (bits i.w 9 5) (BitVec.ofNat 36 ((loWord (x.dr (bits i.w 9 5))).toNat * (x.wr (bits i.w 4 0)).toNat))))) ∧
  (∀ c pre w i x (s t : State), (x.wr (bits i.w 4 0)).toNat < 36 →
    (s.runsIns t c pre w .shld i x → exec (.kShld c pre w) s = .next (t.doneIns c i
      (x.setD (bits i.w 9 5) (x.dr (bits i.w 9 5) <<< (x.wr (bits i.w 4 0)).toNat)))) ∧
    (s.runsIns t c pre w .shrd i x → exec (.kShrd c pre w) s = .next (t.doneIns c i
      (x.setD (bits i.w 9 5) (x.dr (bits i.w 9 5) >>> (x.wr (bits i.w 4 0)).toNat))))) ∧
  (∀ c pre w i x (s t : State),
    (s.runsIns t c pre w .mova i x → exec (.kMova c pre w) s =
      .next (t.doneIns c i (x.setA (bits i.w 7 5) (x.dr (bits i.w 3 0))))) ∧
    (s.runsIns t c pre w .movda i x → exec (.kMovda c pre w) s =
      .next (t.doneIns c i (x.setD (bits i.w 9 5) (x.ar (bits i.w 2 0))))) ∧
    (s.runsIns t c pre w .adda i x → exec (.kAdda c pre w) s = .next (t.doneIns c i
      (x.setA (bits i.w 7 5) (x.bump x.mode (bits i.w 7 5) (x.dr (bits i.w 3 0)).toInt)))) ∧
    (s.runsIns t c pre w .addia i x → exec (.kAddia c pre w) s = .next (t.doneIns c i
      (x.setA (bits i.w 8 6) (x.bump x.mode (bits i.w 8 6) (i.imm6 36).toInt)))) ∧
    (s.runsIns t c pre w .movia i x → exec (.kMovia c pre w) s = .next (t.doneIns c i (x.setA (bits i.w 8 6) (i.imm6 36)))) ∧
    (s.runsIns t c pre w .movid i x → exec (.kMovid c pre w) s = .next (t.doneIns c i (x.setD (bits i.w 10 6) (i.imm6 36)))) ∧
    (s.runsIns t c pre w .addid i x → exec (.kAddid c pre w) s =
      .next (t.doneIns c i (x.setD (bits i.w 10 6) (x.dr (bits i.w 10 6) + i.imm6 36)))) ∧
    (s.runsIns t c pre w .leapc i x → exec (.kLeapc c pre w) s =
      .next (t.doneIns c i (x.setD (bits i.w 10 6) (i.addr + i.imm6 36)))) ∧
    (s.runsIns t c pre w .lea i x → exec (.kLea c pre w) s =
      .next (t.doneIns c i (x.setA (bits i.w 11 7) (x.ar (bits i.w 6 4) + i.disp))))) ∧
  (∀ (row : (Nat → List (BitVec 9) → Word → Instr) × KOp × (Word → Word → Bool)), row ∈ [
      ((fun c p w => Instr.kCmpeq c p w), KOp.cmpeq, (fun a b => decide (a = b))),
      ((fun c p w => Instr.kCmplt c p w), KOp.cmplt, (fun a b => decide (a.toInt < b.toInt))),
      ((fun c p w => Instr.kCmpltu c p w), KOp.cmpltu, (fun a b => decide (a.toNat < b.toNat)))] →
    ∀ c pre w i x (s t : State), s.runsIns t c pre w row.2.1 i x → exec (row.1 c pre w) s = .next (t.doneIns c i
      (x.setP (bits i.w 12 10) (row.2.2 (x.wr (bits i.w 9 5)) (if i.pre.imm.isEmpty then x.wr (bits i.w 4 0) else i.cmpImm))))) ∧
  (∀ (row : (Nat → List (BitVec 9) → Word → Instr) × KOp × (Bool → Bool → Bool)), row ∈ [
      ((fun c p w => Instr.kPand c p w), KOp.pand, (fun a b => a && b)),
      ((fun c p w => Instr.kPor c p w), KOp.por, (fun a b => a || b)),
      ((fun c p w => Instr.kPxor c p w), KOp.pxor, (fun a b => a != b)),
      ((fun c p w => Instr.kPandn c p w), KOp.pandn, (fun a b => a && !b))] →
    ∀ c pre w i x (s t : State), s.runsIns t c pre w row.2.1 i x → exec (row.1 c pre w) s = .next (t.doneIns c i
      (x.setP (bits i.w 12 10) (row.2.2 (x.pr (bits i.w 7 5)) (x.pr (bits i.w 2 0))))))

/-- R296's order of checks, R249 and R292's faults and R252's predicates, for every instruction. -/
def Obligations.AKazoloInstructionThatDoesNotRunHasNoEffect : Prop :=
  (∀ c pre w op p o n x y (s : State), x = s.core c → n = pre.length + baseLen w → y = x.pc + BitVec.ofNat 36 n →
    (∀ t d, s.fetchCheck (s.coreWho c) (x.pc.toNat / 2) (sylWords x.pc n) = some (t, d) →
      s.kadmit c pre w op = .fault t EXC.nx d) ∧
    (s.fetchCheck (s.coreWho c) (x.pc.toNat / 2) (sylWords x.pc n) = none →
      (∀ k, s.fetchStruck (s.coreWho c) x.pc n = some k → s.kadmit c pre w op = .ue (s.memUe k))) ∧
    (s.fetchCheck (s.coreWho c) (x.pc.toNat / 2) (sylWords x.pc n) = none → s.fetchStruck (s.coreWho c) x.pc n = none →
      (parsePre 0 Pre.none pre = none → s.kadmit c pre w op = .fault s EXC.illegal 1) ∧
      (parsePre 0 Pre.none pre = some p →
        (opOf w = none → s.kadmit c pre w op = .fault s EXC.illegal 3) ∧
        (opOf w = some o → o = op →
          (op.prefixOk w p = false → s.kadmit c pre w op = .fault s EXC.illegal 2) ∧
          (op.prefixOk w p = true → op.fieldsOk w (vdl x.mode) = false → s.kadmit c pre w op = .fault s EXC.illegal 3) ∧
          (op.prefixOk w p = true → op.fieldsOk w (vdl x.mode) = true →
            (x.predOk p = false → s.kadmit c pre w op = .skip ⟨x.pc, y, w, p⟩) ∧
            (x.predOk p = true →
              (op.noDelay = true → x.delay ≠ none → s.kadmit c pre w op = .fault s EXC.illegal 4) ∧
              ((op.noDelay = false ∨ x.delay = none) → op.noLoopEnd w = true → x.atLoopEnd = true →
                s.kadmit c pre w op = .fault s EXC.illegal 5) ∧
              ((op.noDelay = false ∨ x.delay = none) → (op.noLoopEnd w = false ∨ x.atLoopEnd = false) →
                (op.supOnly = true → x.sup = false → s.kadmit c pre w op = .fault s EXC.priv 1) ∧
                (op.supOnly = false → x.sup = false → (op = .movsFrom ∨ op = .movsTo) → 20 ≤ bits w 10 6 →
                  s.kadmit c pre w op = .fault s EXC.priv 2) ∧
                (x.sup = true ∨ (op.supOnly = false ∧ op ≠ .movsFrom ∧ op ≠ .movsTo) ∨
                    (op.supOnly = false ∧ bits w 10 6 < 20) → s.kadmit c pre w op = .run ⟨x.pc, y, w, p⟩)))))))) ∧
  (∀ (row : (Nat → List (BitVec 9) → Word → Instr) × KOp), row ∈ [
      ((fun c p w => Instr.kNop c p w), KOp.nop), ((fun c p w => Instr.kRfe c p w), KOp.rfe),
      ((fun c p w => Instr.kSync c p w), KOp.sync), ((fun c p w => Instr.kWaiti c p w), KOp.waiti),
      ((fun c p w => Instr.kBreak c p w), KOp.brk), ((fun c p w => Instr.kCtxsw c p w), KOp.ctxsw),
      ((fun c p w => Instr.kJget c p w), KOp.jget), ((fun c p w => Instr.kSavectx c p w), KOp.savectx),
      ((fun c p w => Instr.kLoadctx c p w), KOp.loadctx), ((fun c p w => Instr.kJdone c p w), KOp.jdone),
      ((fun c p w => Instr.kMov c p w), KOp.mov), ((fun c p w => Instr.kAdd c p w), KOp.add),
      ((fun c p w => Instr.kSub c p w), KOp.sub), ((fun c p w => Instr.kAddx c p w), KOp.addx),
      ((fun c p w => Instr.kSubx c p w), KOp.subx), ((fun c p w => Instr.kAnd c p w), KOp.and_),
      ((fun c p w => Instr.kOr c p w), KOp.or_), ((fun c p w => Instr.kXor c p w), KOp.xor_),
      ((fun c p w => Instr.kAndn c p w), KOp.andn), ((fun c p w => Instr.kShl c p w), KOp.shl),
      ((fun c p w => Instr.kShr c p w), KOp.shr), ((fun c p w => Instr.kSar c p w), KOp.sar),
      ((fun c p w => Instr.kRol c p w), KOp.rol), ((fun c p w => Instr.kMul c p w), KOp.mul),
      ((fun c p w => Instr.kMulh c p w), KOp.mulh), ((fun c p w => Instr.kMulhs c p w), KOp.mulhs),
      ((fun c p w => Instr.kMull c p w), KOp.mull), ((fun c p w => Instr.kBrev c p w), KOp.brev),
      ((fun c p w => Instr.kClz c p w), KOp.clz), ((fun c p w => Instr.kPopc c p w), KOp.popc),
      ((fun c p w => Instr.kOcthi c p w), KOp.octhi), ((fun c p w => Instr.kOctlo c p w), KOp.octlo),
      ((fun c p w => Instr.kOctpk c p w), KOp.octpk), ((fun c p w => Instr.kMovd c p w), KOp.movd),
      ((fun c p w => Instr.kAddd c p w), KOp.addd), ((fun c p w => Instr.kSubd c p w), KOp.subd),
      ((fun c p w => Instr.kMova c p w), KOp.mova), ((fun c p w => Instr.kMovda c p w), KOp.movda),
      ((fun c p w => Instr.kAdda c p w), KOp.adda), ((fun c p w => Instr.kShld c p w), KOp.shld),
      ((fun c p w => Instr.kShrd c p w), KOp.shrd), ((fun c p w => Instr.kCmpeq c p w), KOp.cmpeq),
      ((fun c p w => Instr.kCmplt c p w), KOp.cmplt), ((fun c p w => Instr.kCmpltu c p w), KOp.cmpltu),
      ((fun c p w => Instr.kPand c p w), KOp.pand), ((fun c p w => Instr.kPor c p w), KOp.por),
      ((fun c p w => Instr.kPxor c p w), KOp.pxor), ((fun c p w => Instr.kPandn c p w), KOp.pandn),
      ((fun c p w => Instr.kMovi c p w), KOp.movi), ((fun c p w => Instr.kAddi c p w), KOp.addi),
      ((fun c p w => Instr.kAndi c p w), KOp.andi), ((fun c p w => Instr.kOri c p w), KOp.ori),
      ((fun c p w => Instr.kXori c p w), KOp.xori), ((fun c p w => Instr.kShli c p w), KOp.shli),
      ((fun c p w => Instr.kShri c p w), KOp.shri), ((fun c p w => Instr.kSari c p w), KOp.sari),
      ((fun c p w => Instr.kMuli c p w), KOp.muli), ((fun c p w => Instr.kMovid c p w), KOp.movid),
      ((fun c p w => Instr.kAddid c p w), KOp.addid), ((fun c p w => Instr.kAddia c p w), KOp.addia),
      ((fun c p w => Instr.kMovia c p w), KOp.movia), ((fun c p w => Instr.kLeapc c p w), KOp.leapc),
      ((fun c p w => Instr.kUcmdCipher c p w), KOp.ucmd 0), ((fun c p w => Instr.kUcmdDigest c p w), KOp.ucmd 1),
      ((fun c p w => Instr.kUcmdBignum c p w), KOp.ucmd 2), ((fun c p w => Instr.kUcmdHostRead c p w), KOp.ucmd 3),
      ((fun c p w => Instr.kUcmdHostWrite c p w), KOp.ucmd 4), ((fun c p w => Instr.kLd c p w), KOp.ld),
      ((fun c p w => Instr.kSt c p w), KOp.st), ((fun c p w => Instr.kLdd c p w), KOp.ldd),
      ((fun c p w => Instr.kStd c p w), KOp.std), ((fun c p w => Instr.kLda c p w), KOp.lda),
      ((fun c p w => Instr.kSta c p w), KOp.sta), ((fun c p w => Instr.kLea c p w), KOp.lea),
      ((fun c p w => Instr.kSwap c p w), KOp.swap), ((fun c p w => Instr.kBr c p w), KOp.br),
      ((fun c p w => Instr.kCall c p w), KOp.call), ((fun c p w => Instr.kJr c p w), KOp.jr),
      ((fun c p w => Instr.kCallr c p w), KOp.callr), ((fun c p w => Instr.kLoop c p w), KOp.loop),
      ((fun c p w => Instr.kLoopi c p w), KOp.loopi), ((fun c p w => Instr.kTrap c p w), KOp.trap),
      ((fun c p w => Instr.kMovsFromSpecial c p w), KOp.movsFrom), ((fun c p w => Instr.kMovsToSpecial c p w), KOp.movsTo),
      ((fun c p w => Instr.kVadd c p w), KOp.vadd), ((fun c p w => Instr.kVsub c p w), KOp.vsub),
      ((fun c p w => Instr.kVmul c p w), KOp.vmul), ((fun c p w => Instr.kVbfly c p w), KOp.vbfly),
      ((fun c p w => Instr.kVgs c p w), KOp.vgs), ((fun c p w => Instr.kVperm c p w), KOp.vperm),
      ((fun c p w => Instr.kVld c p w), KOp.vld), ((fun c p w => Instr.kVst c p w), KOp.vst),
      ((fun c p w => Instr.kVldb c p w), KOp.vldb), ((fun c p w => Instr.kVmov c p w), KOp.vmov),
      ((fun c p w => Instr.kVsplat c p w), KOp.vsplat), ((fun c p w => Instr.kVext c p w), KOp.vext),
      ((fun c p w => Instr.kVins c p w), KOp.vins)] →
    ∀ c pre w (s : State),
    (s.issues c = false → exec (row.1 c pre w) s = .next s) ∧
    (s.issues c = true →
      (∀ u e d, (s.wakeUp c).kadmit c pre w row.2 = .fault u e d → exec (row.1 c pre w) s = .next (u.faultEntry c e d)) ∧
      (∀ u, (s.wakeUp c).kadmit c pre w row.2 = .ue u → exec (row.1 c pre w) s = .next u) ∧
      (∀ i, (s.wakeUp c).kadmit c pre w row.2 = .skip i → exec (row.1 c pre w) s = .next ((s.wakeUp c).retire c i none
        (if row.2.branches && ((s.wakeUp c).core c).delay.isNone then some (((s.wakeUp c).core c).delayOf i none false) else none)
        i.next))))

/-- Class 4 and the vector memory instructions; `address4` and `addressV` are the addressing modes of R253. -/
def Obligations.KazoloLoadsAndStoresMoveTheirWords : Prop :=
  (∀ c pre w i x a y (s t : State), (a, y) = x.address4 i → ∃ r, r = t.coreWho c ∧
    (t.grants c a 1 .r → s.runsIns t c pre w .ld i x → exec (.kLd c pre w) s = .next
      ((((t.readWords r a 1).1).setCore c y).retire c i (some ⟨2, .w (bits i.w 11 7), (t.readWords r a 1).2⟩) none i.next)) ∧
    (t.grants c a 1 .w → s.runsIns t c pre w .st i x → exec (.kSt c pre w) s = .next
      (((t.setCore c y).writeWords r a [x.wr (bits i.w 11 7)]).retire c i none none i.next)) ∧
    (a % 2 = 0 → t.grants c a 2 .r →
      (s.runsIns t c pre w .ldd i x → exec (.kLdd c pre w) s = .next ((((t.readWords r a 2).1).setCore c y).retire c i
        (some ⟨2, .d (bits i.w 11 7), (t.readWords r a 2).2⟩) none i.next)) ∧
      (s.runsIns t c pre w .lda i x → exec (.kLda c pre w) s = .next ((((t.readWords r a 2).1).setCore c y).retire c i
        (some ⟨2, .a (bits i.w 11 7), (t.readWords r a 2).2⟩) none i.next))) ∧
    (a % 2 = 0 → t.grants c a 2 .w →
      (s.runsIns t c pre w .std i x → exec (.kStd c pre w) s = .next
        (((t.setCore c y).writeWords r a (halves (x.dr (bits i.w 11 7)))).retire c i none none i.next)) ∧
      (s.runsIns t c pre w .sta i x → exec (.kSta c pre w) s = .next
        (((t.setCore c y).writeWords r a (halves (x.ar (bits i.w 11 7)))).retire c i none none i.next))) ∧
    (a % 2 = 1 →
      (s.runsIns t c pre w .ldd i x → exec (.kLdd c pre w) s = .next (t.faultEntry c EXC.misalign 1)) ∧
      (s.runsIns t c pre w .std i x → exec (.kStd c pre w) s = .next (t.faultEntry c EXC.misalign 1)) ∧
      (s.runsIns t c pre w .lda i x → exec (.kLda c pre w) s = .next (t.faultEntry c EXC.misalign 1)) ∧
      (s.runsIns t c pre w .sta i x → exec (.kSta c pre w) s = .next (t.faultEntry c EXC.misalign 1))) ∧
    (t.clearingAt r a = false → t.checkAccess r a 1 .w = .unassigned → s.runsIns t c pre w .st i x →
      exec (.kSt c pre w) s = .next (t.faultEntry c EXC.denied 2)) ∧
    (t.grants c a 1 .r → t.grants c a 1 .w → s.runsIns t c pre w .swap i x → exec (.kSwap c pre w) s = .next
      ((((t.readWords r a 1).1.setCore c y).writeWords r a [x.wr (bits i.w 11 7)]).retire c i
        (some ⟨2, .w (bits i.w 11 7), (t.readWords r a 1).2⟩) none i.next))) ∧
  (∀ c pre w i x a y (s t : State), (a, y) = x.addressV i → ∃ r, r = t.coreWho c ∧
    (a % 2 = 0 → t.grants c a 16 .r → s.runsIns t c pre w .vld i x → exec (.kVld c pre w) s = .next
      ((((t.readWords r a 16).1).setCore c y).retire c i (some ⟨2, .v (bits i.w 11 8), (t.readWords r a 16).2⟩) none i.next)) ∧
    (a % 2 = 0 → t.grants c a (x.vr (bits i.w 11 8)).length .w → s.runsIns t c pre w .vst i x → exec (.kVst c pre w) s = .next
      (((t.setCore c y).writeWords r a (x.vr (bits i.w 11 8))).retire c i none none i.next)) ∧
    (a % 2 = 1 → s.runsIns t c pre w .vst i x → exec (.kVst c pre w) s = .next (t.faultEntry c EXC.misalign 2)) ∧
    (vdl x.mode = false → t.grants c a 1 .r → s.runsIns t c pre w .vldb i x → exec (.kVldb c pre w) s = .next
      ((((t.readWords r a 1).1).setCore c y).retire c i
        (some ⟨2, .v (bits i.w 11 8), (List.replicate 16 (t.readWords r a 1).2).flatten⟩) none i.next)) ∧
    (vdl x.mode = true → a % 2 = 0 → t.grants c a 2 .r → s.runsIns t c pre w .vldb i x → exec (.kVldb c pre w) s = .next
      ((((t.readWords r a 2).1).setCore c y).retire c i
        (some ⟨2, .v (bits i.w 11 8), (List.replicate 8 (t.readWords r a 2).2).flatten⟩) none i.next)))

/-- The frame of the stores of one word. -/
def Obligations.AStoreOfACoreWritesOnlyItsWords : Prop :=
  ∀ c pre w i x a y n off (s t : State), (a, y) = x.address4 i → t.grants c a 1 .w → placeOf (some (c / 4)) a = .sram n off →
    off < sramWords →
    (s.runsIns t c pre w .st i x → ∃ u, exec (.kSt c pre w) s = .next u ∧
      u.word (sramBase n + off) = x.wr (bits i.w 11 7) ∧ (∀ b, b ≠ sramBase n + off → u.word b = s.word b) ∧
      (∀ b, u.hostOctet b = s.hostOctet b) ∧ (∀ d, d ≠ c → u.core d = s.core d) ∧
      (∀ p q, p ≠ P.kz c → q < 1024 → u.reg p q = s.reg p q)) ∧
    (t.grants c a 1 .r → s.runsIns t c pre w .swap i x → ∃ u, exec (.kSwap c pre w) s = .next u ∧
      u.word (sramBase n + off) = x.wr (bits i.w 11 7) ∧ (∀ b, b ≠ sramBase n + off → u.word b = s.word b) ∧
      (∀ b, u.hostOctet b = s.hostOctet b) ∧ (∀ d, d ≠ c → u.core d = s.core d))

/-- Class 5. -/
def Obligations.KazoloControlFlow : Prop :=
  ∀ c pre w i x (s t : State), ∃ br : DWord → Bool → State,
    br = (fun target link => t.retire c i none (some (x.delayOf i (some target) link)) i.next) ∧
    (s.runsIns t c pre w .br i x → exec (.kBr c pre w) s = .next (br (i.next + i.brDisp) false)) ∧
    (s.runsIns t c pre w .call i x → exec (.kCall c pre w) s = .next (br (i.next + i.brDisp) true)) ∧
    (s.runsIns t c pre w .jr i x → exec (.kJr c pre w) s = .next (br (x.dr (bits i.w 3 0)) false)) ∧
    (s.runsIns t c pre w .callr i x → exec (.kCallr c pre w) s = .next (br (x.dr (bits i.w 3 0)) true)) ∧
    (s.runsIns t c pre w .loop i x → ∃ n y, n = x.wr (bits i.w 10 6) ∧
      y = x.setLoop (tb i.w 11) n i.next (i.next + i.loopEnd) ∧
      (n ≠ 0 → exec (.kLoop c pre w) s = .next (t.doneIns c i y)) ∧
      (n = 0 → exec (.kLoop c pre w) s =
        .next ((t.setCore c y).retire c i none none (t.afterIns c (i.next + i.loopEnd))))) ∧
    (s.runsIns t c pre w .loopi i x → exec (.kLoopi c pre w) s = .next (t.doneIns c i (x.setLoop (tb i.w 11)
      (wd (if bits i.w 10 6 = 0 then 32 else bits i.w 10 6)) i.next (i.next + i.loopEnd)))) ∧
    (s.runsIns t c pre w .trap i x → exec (.kTrap c pre w) s = .next (t.trapEntry c (EXC.trap + bits i.w 8 0) i))

/-- Class 0, MOVS and the context instructions. -/
def Obligations.KazoloSystemInstructions : Prop :=
  ∀ c pre w i x (s t : State),
    (s.runsIns t c pre w .nop i x → exec (.kNop c pre w) s = .next (t.doneIns c i x)) ∧
    (s.runsIns t c pre w .sync i x → exec (.kSync c pre w) s = .next (t.doneIns c i x)) ∧
    (s.runsIns t c pre w .waiti i x → exec (.kWaiti c pre w) s = .next (t.doneIns c i
      (if t.wakes c then { x with wake := false } else { x with waiting := true }))) ∧
    (s.runsIns t c pre w .ctxsw i x → exec (.kCtxsw c pre w) s =
      .next (t.doneIns c i { x with gateBank := x.gateBank ^^^ BitVec.ofNat 36 (2 ^ 32) })) ∧
    (s.runsIns t c pre w .movsFrom i x → exec (.kMovsFromSpecial c pre w) s =
      .next (t.doneIns c i (x.setD (bits i.w 3 0) (t.special c x (bits i.w 10 6))))) ∧
    (s.runsIns t c pre w .movsTo i x → exec (.kMovsToSpecial c pre w) s =
      .next (t.doneIns c i (x.setSpecial (bits i.w 10 6) (x.dr (bits i.w 3 0))))) ∧
    (s.runsIns t c pre w .brk i x → ∃ arm, arm = (t.dbgOpen && t.dbgBit R.DBG_BRK_ARM c && !t.sealedCode c) ∧
      (arm = true → exec (.kBreak c pre w) s = .next ((t.haltCore c).retire c i none none i.next)) ∧
      (arm = false → exec (.kBreak c pre w) s = .next (t.trapEntry c EXC.brk i))) ∧
    (s.runsIns t c pre w .rfe i x →
      (∀ d, t.rfeRefused c = some d → exec (.kRfe c pre w) s = .next (t.faultEntry c EXC.illret d)) ∧
      (t.rfeRefused c = none → exec (.kRfe c pre w) s =
        .next ((t.modCore c (fun y => y.returned.ageLoads)).countIns c i))) ∧
    (∀ a, a = x.ar (bits i.w 2 0) →
      (a.toNat % 2 = 1 →
        (s.runsIns t c pre w .savectx i x → exec (.kSavectx c pre w) s = .next (t.faultEntry c EXC.misalign 3)) ∧
        (s.runsIns t c pre w .loadctx i x → exec (.kLoadctx c pre w) s = .next (t.faultEntry c EXC.misalign 3))) ∧
      (a.toNat % 2 = 0 → t.grants c a.toNat 16 .w → s.runsIns t c pre w .savectx i x → exec (.kSavectx c pre w) s = .next
        (((t.setCore c { x with unsaved := false }).writeWords (t.coreWho c) a.toNat
          (x.ctxWords ++ [wd (0o524 * 512 + (x.ctxTag c a x.ctxWords).toNat)])).retire c i none none i.next)) ∧
      (a.toNat % 2 = 0 → t.grants c a.toNat 16 .r → s.runsIns t c pre w .loadctx i x → ∃ u l n,
        u = (t.readWords (t.coreWho c) a.toNat 16).1 ∧ l = (t.readWords (t.coreWho c) a.toNat 16).2 ∧
        n = u.rfld (P.kz c) R.KZ_BADTAGS 2 0 + 1 ∧
        (bits (cw l 15) 17 9 = 0o524 → bits (cw l 15) 8 0 = (x.ctxTag c a (l.take 15)).toNat →
          exec (.kLoadctx c pre w) s = .next (u.doneIns c i (x.loadCtx l))) ∧
        (bits (cw l 15) 17 9 = 0o524 → bits (cw l 15) 8 0 ≠ (x.ctxTag c a (l.take 15)).toNat → n ≠ 4 →
          exec (.kLoadctx c pre w) s = .next ((u.setRfld (P.kz c) R.KZ_BADTAGS 2 0 n).faultEntry c EXC.badctx 1)) ∧
        (bits (cw l 15) 17 9 ≠ 0o524 → n ≠ 4 →
          exec (.kLoadctx c pre w) s = .next ((u.setRfld (P.kz c) R.KZ_BADTAGS 2 0 n).faultEntry c EXC.badctx 2)) ∧
        (bits (cw l 15) 17 9 ≠ 0o524 → n = 4 →
          exec (.kLoadctx c pre w) s = .next ((u.setRfld (P.kz c) R.KZ_BADTAGS 2 0 n).vectorFail c EXC.badctx 4))))

/-- JGET, JDONE, the five UCMD rows and UCMD_COMPLETE. -/
def Obligations.KazoloJobAndUnitCommands : Prop :=
  (∀ c pre w i x (s t : State),
    (s.runsIns t c pre w .jget i x →
      (t.nextHeld c = none → exec (.kJget c pre w) s = .next (t.doneIns c i (x.setP 7 false))) ∧
      (∀ k j, t.nextHeld c = some (k, j) → t.sessStruck j = none → exec (.kJget c pre w) s =
        .next (((t.fillFrame c k j).startJob (P.kz c) k j).doneIns c i
          { x.setP 7 true with held := k + 1, aborting := false }))) ∧
    (s.runsIns t c pre w .jdone i x → x.cmds = [] →
      (t.heldJob c = none → exec (.kJdone c pre w) s = .next ((t.event (P.kz c) 1).retire c i none none i.next)) ∧
      (∀ k j, t.heldJob c = some (k, j) → t.struckIn (t.frameAddr c) 0o1120 = none → exec (.kJdone c pre w) s =
        .next ((t.jobDone c k j (bits (x.wr (bits i.w 4 0)) 8 0)).retire c i none none i.next)))) ∧
  (∀ (row : (Nat → List (BitVec 9) → Word → Instr) × Nat), row ∈ [((fun c p w => Instr.kUcmdCipher c p w), 0), ((fun c p w => Instr.kUcmdDigest c p w), 1),
      ((fun c p w => Instr.kUcmdBignum c p w), 2), ((fun c p w => Instr.kUcmdHostRead c p w), 3),
      ((fun c p w => Instr.kUcmdHostWrite c p w), 4)] →
    ∀ c pre w i x a (s t : State), s.runsIns t c pre w (.ucmd row.2) i x → a = (x.ar (bits i.w 8 6)).toNat →
    (∀ off f, placeOf (some (c / 4)) a = .sram (c / 4) off → f = sramBase (c / 4) + off →
      off + t.blockWords row.2 f ≤ sramWords → t.grants c a (t.blockWords row.2 f) .r →
      (t.heldJob c = none → exec (row.1 c pre w) s = .next ((t.denyCmd c row.2 f).retire c i none none i.next)) ∧
      (∀ k j, t.heldJob c = some (k, j) →
        ((t.core c).cmds.length < 8 → exec (row.1 c pre w) s =
          .next ((t.sendCmd c j (t.cmdOf c (t.coreWho c) row.2 f)).retire c i none none i.next)) ∧
        (8 ≤ (t.core c).cmds.length → exec (row.1 c pre w) s = .next s))) ∧
    (placeOf (some (c / 4)) a = .unassigned → exec (row.1 c pre w) s = .next (t.faultEntry c EXC.denied 3))) ∧
  (∀ key j k p (s : State), s.job key = some j → j.cmd = some k → j.st = .running →
    (k.typ = 0 → j.unit = some p → exec (.kUcmdComplete key .pass) s = .next (s.cipherCmd key j k) ∧
      exec (.kUcmdComplete key .mismatch) s = .next (s.checkFail p) ∧
      exec (.kUcmdComplete key .parity) s = .next (s.parityFail p)) ∧
    (k.typ = 1 → j.unit = some p → exec (.kUcmdComplete key .pass) s = .next (s.digestCmd key j k) ∧
      exec (.kUcmdComplete key .mismatch) s = .next (s.checkFail p) ∧
      (bits (cw k.words 0) 10 9 ≠ 0 → exec (.kUcmdComplete key .parity) s = .next (s.parityFail p))) ∧
    (k.typ = 2 → j.unit = some p → exec (.kUcmdComplete key .pass) s = .next (s.progDone key j k)) ∧
    (k.typ = 3 ∨ k.typ = 4 → j.unit = none → exec (.kUcmdComplete key .pass) s = .next (s.hostCmd key j k)))

/-- Class 6 but its memory instructions; `vbin` and `vfly` apply an element operation to every element (an element with q = 0 or above the modulus has a free result, log entry 6). -/
def Obligations.KazoloVectorInstructionsActOnEveryLane : Prop :=
  ∀ c pre w i x (s t : State),
    (s.runsIns t c pre w .vadd i x → exec (.kVadd c pre w) s =
      .next (t.doneIns c i (x.vbin i (fun a b => a + b) (fun q a b => (a + b) % q)))) ∧
    (s.runsIns t c pre w .vsub i x → exec (.kVsub c pre w) s =
      .next (t.doneIns c i (x.vbin i (fun a b => subRes x.elMod a b) subRes))) ∧
    (s.runsIns t c pre w .vmul i x → exec (.kVmul c pre w) s =
      .next (t.doneIns c i (x.vbin i (fun a b => a * b) (fun q a b => a * b % q)))) ∧
    (s.runsIns t c pre w .vbfly i x → exec (.kVbfly c pre w) s = .next (t.doneIns c i
      (x.vfly i (fun q v a b => ((a + v * b % q) % q, subRes q a (v * b % q)))))) ∧
    (s.runsIns t c pre w .vgs i x → exec (.kVgs c pre w) s = .next (t.doneIns c i
      (x.vfly i (fun q v a b => ((a + b) % q, subRes q a b * v % q))))) ∧
    (s.runsIns t c pre w .vperm i x → exec (.kVperm c pre w) s = .next (t.doneIns c i (x.setEls (bits i.w 11 8)
      ((x.els (bits i.w 3 0)).map (fun n => (x.els (bits i.w 7 4)).getD (n % x.elCount) 0))))) ∧
    (s.runsIns t c pre w .vmov i x → exec (.kVmov c pre w) s =
      .next (t.doneIns c i (x.setV (bits i.w 11 8) (x.vr (bits i.w 3 0))))) ∧
    (s.runsIns t c pre w .vsplat i x → exec (.kVsplat c pre w) s = .next (t.doneIns c i
      (x.setEls (bits i.w 11 8) (List.replicate x.elCount (x.scalar (bits i.w 4 0)))))) ∧
    (s.runsIns t c pre w .vext i x →
      (vdl x.mode = true → exec (.kVext c pre w) s = .next (t.doneIns c i
        (x.setD (4 + bits i.w 2 1) (BitVec.ofNat 36 ((x.els (bits i.w 11 8)).getD (bits i.w 6 4) 0))))) ∧
      (vdl x.mode = false → exec (.kVext c pre w) s = .next (t.doneIns c i
        (x.setW (8 + bits i.w 2 0) (wd ((x.els (bits i.w 11 8)).getD (bits i.w 7 4) 0)))))) ∧
    (s.runsIns t c pre w .vins i x →
      (vdl x.mode = true → exec (.kVins c pre w) s = .next (t.doneIns c i
        (x.setEls (bits i.w 11 8) ((x.els (bits i.w 11 8)).set (bits i.w 6 4) (x.dr (4 + bits i.w 2 1)).toNat)))) ∧
      (vdl x.mode = false → exec (.kVins c pre w) s = .next (t.doneIns c i
        (x.setEls (bits i.w 11 8) ((x.els (bits i.w 11 8)).set (bits i.w 7 4) (x.wr (8 + bits i.w 2 0)).toNat)))))

/-- R295, step by step, for the faults (an interrupt's IPL is in the next statement). -/
def Obligations.AnEntrySavesAndTransfersAsTheRulesSay : Prop :=
  ∀ c e detail x v r a h (s : State), x = (s.core c).drainLoads → v = (s.core c).faultSaved → e < 640 → detail < 32 → v.sh ≤ 2 →
    e ≠ EXC.illret → r = { (s.setCore c x).coreWho c with sup := true } → a = (x.vbase + BitVec.ofNat 36 (2 * e)).toNat →
    (x.unsaved = true → s.faultEntry c e detail = (s.setCore c x).vectorFail c e 1) ∧
    (x.unsaved = false → (s.setCore c x).checkAccess r a 2 .r = .allowed → (s.setCore c x).rangesStruck r [(a, 2, .r)] = none →
      h = dword (((s.setCore c x).readWords r a 2).2.getD 0 0) (((s.setCore c x).readWords r a 2).2.getD 1 0) →
      ((s.setCore c x).readWords r a 2).1.fetchCheck r (h.toNat / 2) 1 = none →
      ∃ y, y = (s.faultEntry c e detail).core c ∧
        tb y.estat 35 = true ∧ tb y.estat 34 = x.sup ∧ tb y.estat 33 = x.ie ∧ bits y.estat 32 26 = bits x.estat 16 10 ∧
        tb y.estat 25 = v.bd ∧ bits y.estat 24 23 = v.sh ∧ bits y.estat 22 18 = detail ∧ tb y.estat 17 = false ∧
        bits y.estat 16 10 = bits x.estat 16 10 ∧ bits y.estat 9 0 = e ∧
        y.epc = v.epc ∧ y.emode = v.mode ∧
        y.el0 = x.lc0 ∧ y.el1 = x.ls0 ∧ y.el2 = x.le0 ∧ y.el3 = x.lc1 ∧ y.el4 = x.ls1 ∧ y.el5 = x.le1 ∧
        y.lc0 = 0 ∧ y.lc1 = 0 ∧ y.sup = true ∧ y.unsaved = true ∧ y.pc = h ∧ y.delay = none ∧
        y.mstat = x.mstat ∧ y.gateBank = x.gateBank ∧ y.vbase = x.vbase ∧ y.w = x.w ∧ y.a = x.a ∧ y.p = x.p ∧ y.v = x.v)

/-- R308, for every core that holds no load in flight. -/
def Obligations.RfeRestoresWhatTheEntrySaved : Prop :=
  ∀ c pre w i x (s t : State), s.runsIns t c pre w .rfe i x →
    (x.psup = true → x.seal = false → exec (.kRfe c pre w) s = .next (t.faultEntry c EXC.illret 1)) ∧
    (t.rfeRefused c = none → x.loads = [] → ∃ u y, exec (.kRfe c pre w) s = .next u ∧ y = u.core c ∧
      y.sup = x.psup ∧ tb y.estat 17 = tb x.estat 33 ∧ bits y.estat 16 10 = bits x.estat 32 26 ∧ tb y.estat 35 = false ∧
      y.lc0 = x.el0 ∧ y.ls0 = x.el1 ∧ y.le0 = x.el2 ∧ y.lc1 = x.el3 ∧ y.ls1 = x.el4 ∧ y.le1 = x.el5 ∧
      y.sh = x.esh ∧ y.oldMode = x.emode ∧ y.unsaved = false ∧ y.pc = x.epc ∧ y.mstat = x.mstat ∧ y.w = x.w ∧ y.a = x.a ∧
      (∀ a, u.word a = s.word a) ∧ (∀ d, d ≠ c → u.core d = s.core d) ∧
      (∀ p q, p ≠ P.kz c → q < 1024 → u.reg p q = s.reg p q))

/-- INTERRUPT_ENTRY, LOCKSTEP_MISMATCH, COMPOSITE_ABORT, ABORT_TIMEOUT and VFAIL_READ. -/
def Obligations.InterruptsLockstepAndAborts : Prop :=
  (∀ c l (s : State), s.accepted c = some l → s.boundary c = true → ∃ t, t = (s.setLevel c l false).wakeUp c ∧
    exec (.interruptEntry c) s = .next (t.enter c (EXC.level + l) 0 ⟨(t.core c).pc, (t.core c).sh, (t.core c).mode, false⟩ (some l))) ∧
  (∀ c (s : State), s.coreUp c = true → exec (.lockstepMismatch c) s = .next ((s.detect 1).quarClusterUp (c / 4))) ∧
  (∀ c k j a (s : State), s.heldJob c = some (k, j) → j.orphan = true → (s.core c).aborting = false →
    a = s.frameAddr c + 0o10 → exec (.compositeAbort c) s =
      .next (((((s.discardCmds c).setWord a (sb (s.word a) 0 true)).modCore c (fun x => { x with aborting := true })).setLevel
        c 63 true).incSat (P.kz c) R.KZ_ABORTS)) ∧
  (∀ c (s : State), (s.core c).aborting = true → (s.core c).held ≠ 0 → exec (.abortTimeout c) s =
    .next (((s.setRbit (P.kz c) R.KZ_STAT 6 true).event (P.kz c) 0).restartPair c)) ∧
  (∀ req c (s : State), s.frozen (P.kz c) = false → exec (.vfailRead req c) s =
    .next ((s.setReg (P.kz c) R.KZ_VFAIL 0).answer (s.peek (P.kz c) R.KZ_VFAIL)))

/-- The eight composite opcodes 0o300 to 0o310. The ECDSA nonce is a free value (log entry 6). -/
def Obligations.PaymentCompositesWriteTheirResult : Prop :=
  (∀ key j c v l n (s : State), s.holds key 0o300 j c → s.refSlotOf j (j.dw 1 0) U.unwrap [3] = .ok v → l = bits j.oparg 9 0 →
    n = l + 5 * (l / 2) → bits j.oparg 31 10 = 0 → l % 2 = 0 → 128 ≤ l → l ≤ 512 → j.declared 2 = blobLen n → j.declared 3 = l →
    j.delivered [(4, l)] = true →
    (kwpUnwrap v.keyOctets (j.data 2) = none → exec (.rsaCrt key) s = .next ((s.fail key j S.authFail).leftHeld c key)) ∧
    (∀ (b : List Octet) (part : Nat → Nat), kwpUnwrap v.keyOctets (j.data 2) = some b → (∀ i, part i = beNat (sliceOct b (l + i * (l / 2)) (l / 2))) →
      b.length = n → beNat (j.data 3) < beNat (b.take l) → part 1 < part 0 → ∀ r,
      rsaProgram (beNat (b.take l)) (part 0) (part 1) (part 2) (part 3) (part 4) (beNat (j.data 3)) = some r →
      exec (.rsaCrt key) s = .next ((s.finishOut key j j.goodStatus [(4, beOctets l r)] []).leftHeld c key))) ∧
  (∀ (row : (Nat → Instr) × Nat × Nat × List Nat × (Job → Bool)), row ∈ [
      ((fun k => Instr.rsaCrt k), 0o300, U.unwrap, [3], (fun j => bits j.oparg 31 10 == 0)),
      ((fun k => Instr.ecdsaP256Sign k), 0o301, U.sign, [8], (fun j => j.oparg == 0 && j.declared 2 == 32)),
      ((fun k => Instr.ecdhP256 k), 0o304, U.derive, [8], (fun j => slotArg j && j.declared 2 == 65)),
      ((fun k => Instr.kdfTree k), 0o307, U.derive, [1, 2, 3, 7], (fun j => slotArg j && j.declared 2 == 16 * bits (j.dw 1 2) 3 0))] →
    ∀ key j c (s : State), s.holds key row.2.1 j c →
    (∀ st, s.refSlotOf j (j.dw 1 0) row.2.2.1 row.2.2.2.1 = .error st →
      exec (row.1 key) s = .next ((s.fail key j st).leftHeld c key)) ∧
    (∀ v, s.refSlotOf j (j.dw 1 0) row.2.2.1 row.2.2.2.1 = .ok v → row.2.2.2.2 j = false →
      exec (row.1 key) s = .next ((s.fail key j S.invalidOperand).leftHeld c key))) ∧
  (∀ key j c v (s : State), s.holds key 0o301 j c → s.refSlotOf j (j.dw 1 0) U.sign [8] = .ok v → j.oparg = 0 →
    j.declared 2 = 32 → j.delivered [] = true → 
    (s.rngOk j.region = true → ∃ o u r t, (o, u) = s.drawFrom j.region 32 ∧
      (r, t) = p256.signWith v.key.toNat (2 + beNat o % (p256.n - 2)) (j.data 2) ∧
      exec (.ecdsaP256Sign key) s = .next ((u.finish key j j.goodStatus (beOctets 32 r ++ beOctets 32 t)).leftHeld c key)) ∧
    (s.rngOk j.region = false → exec (.ecdsaP256Sign key) s = .next ((s.fail key j S.deviceFault).leftHeld c key))) ∧
  (∀ (row : (Nat → Instr) × Nat × Curve), row ∈ [((fun k => Instr.ecdsaP256Ver k), 0o302, p256),
      ((fun k => Instr.ecdsaP384Ver k), 0o303, p384)] →
    ∀ key j c n d (s : State), s.holds key row.2.1 j c → n = row.2.2.len → d = j.data 1 → j.oparg = 0 →
    j.declared 1 = 5 * n + 1 → j.delivered [] = true →
    (row.2.2.parse (d.take (2 * n + 1)) = none → exec (row.1 key) s = .next ((s.fail key j S.invalidOperand).leftHeld c key)) ∧
    (∀ x y, row.2.2.parse (d.take (2 * n + 1)) = some (x, y) → exec (row.1 key) s = .next ((s.finish key j
      (if row.2.2.verify x y ((d.drop (2 * n + 1)).take n) (beNat ((d.drop (3 * n + 1)).take n))
        (beNat ((d.drop (4 * n + 1)).take n)) then j.goodStatus else S.authFail)).leftHeld c key))) ∧
  (∀ key j c v q (s : State), s.holds key 0o304 j c → s.refSlotOf j (j.dw 1 0) U.derive [8] = .ok v → slotArg j = true →
    j.declared 2 = 65 → s.targetCheck j (bits j.oparg 15 0) (ecdhAttr v) = none → j.delivered [] = true →
    p256.parse (j.data 2) = some q → exec (.ecdhP256 key) s = .next ((s.fillSlot key j (bits j.oparg 15 0) (ecdhAttr v)
      (beOctets 32 (xOf (p256.mul v.key.toNat (some q))))).leftHeld c key)) ∧
  (∀ key j c h sk (s : State), s.holds key 0o305 j c → h = j.handle 1 0 → s.credCheck key j h = none →
    s.kindOk key j (hPage h) (hEntry h) 0 [] = true → j.oparg = 0 → j.handlePad 1 0 = true → 1 ≤ j.declared 2 →
    j.declared 2 ≤ 256 → j.delivered [] = true →
    sk = aesEnc (eSecret (s.credView key j (hPage h) (hEntry h))) (beOctets 2 (bits (j.dw 1 2) 15 0) ++ [0xF0] ++ zeros 13) →
    ((cmac sk (j.data 2)).take 8 = j.oct 3 0 8 → exec (.cryptogramVer key) s =
      .next ((s.finish key j j.goodStatus ((cmac sk (j.oct 3 0 8 ++ j.oct 3 8 2)).take 8)).leftHeld c key)) ∧
    ((cmac sk (j.data 2)).take 8 ≠ j.oct 3 0 8 → exec (.cryptogramVer key) s =
      .next ((s.fail key j S.authFail).leftHeld c key))) ∧
  (∀ key j c a b f (s : State), s.holds key 0o306 j c → s.refSlotOf j (j.dw 1 0) U.decrypt [1, 2, 3] = .ok a →
    s.refSlotOf j (j.dw 1 1) U.encrypt [1, 2, 3] = .ok b → j.oparg = 0 →
    f = decBlk (aesSchedule a.keyOctets) (xorO (decBlk (aesSchedule a.keyOctets) (j.oct 2 0 16)) (j.oct 3 0 16)) →
    (pinFieldOk f = true → exec (.pinTranslate key) s = .next ((s.finish key j S.ok
      (aesEnc b.keyOctets (xorO (aesEnc b.keyOctets f) (j.oct 3 0 16)))).leftHeld c key)) ∧
    (pinFieldOk f = false → exec (.pinTranslate key) s = .next ((s.fail key j S.invalidOperand).leftHeld c key))) ∧
  (∀ key j c v a depth (s : State), s.holds key 0o307 j c → s.refSlotOf j (j.dw 1 0) U.derive [1, 2, 3, 7] = .ok v →
    a = derivedAttr v (wd (j.dw 1 1).toNat) → depth = bits (j.dw 1 2) 3 0 → slotArg j = true → bits (j.dw 1 1) 31 18 = 0 →
    bits (j.dw 1 2) 31 4 = 0 → 1 ≤ depth → depth ≤ 8 → j.declared 2 = 16 * depth →
    s.targetCheck j (bits j.oparg 15 0) a = none → j.delivered [] = true → exec (.kdfTree key) s =
      .next ((s.fillSlot key j (bits j.oparg 15 0) a (kdfTree v (chunks 16 (j.data 2)))).leftHeld c key)) ∧
  (∀ key j c h (e : Nat → List Octet) (s : State), s.holds key 0o310 j c → h = j.handle 1 0 → s.credCheck key j h = none →
    s.kindOk key j (hPage h) (hEntry h) 1 [(1, 2), (2, 3), (3, 3)] = true → bits j.oparg 31 5 = 0 → bits j.oparg 1 0 < 3 →
    j.handlePad 1 0 = true → (∀ i, e i = eSecret (s.credView key j (hPage h) (hEntry h + i))) → exec (.akaTuak key) s =
      .next ((s.finish key j S.ok (tuak (e 0 ++ e 1) (e 2 ++ e 3) (j.oct 2 0 16) (j.oct 1 8 6) (j.oct 1 14 2)
        ([8, 16, 32].getD (bits j.oparg 1 0) 8) ([4, 8, 16, 32].getD (bits j.oparg 3 2) 4) (tb j.oparg 4))).leftHeld c key))

/-- The six lattice opcodes, RAND_READ and the lane-scaled form. Random octets are free values (log entry 6). -/
def Obligations.LatticeCompositesWriteTheirResult : Prop :=
  (∀ key j c v p (s : State), s.holds key 0o340 j c → p = kemSet (bits j.oparg 1 0) →
    s.refSlotOf j (j.dw 1 0) U.wrap [3] = .ok v → j.setOk false = true → j.declared 2 = p.ekLen → j.declared 3 = 72 →
    j.delivered [(2, p.ekLen), (3, 72)] = true →
    (s.rngOk j.region = true → ∃ r u, (r, u) = s.drawFrom j.region 64 ∧ exec (.mlkemKeygen key) s =
      .next ((u.finishOut key j j.goodStatus [(2, (kpkeKeyGen p (r.take 32)).1), (3, kwpWrap v.keyOctets r)] []).leftHeld c key)) ∧
    (s.rngOk j.region = false → exec (.mlkemKeygen key) s = .next ((s.fail key j S.deviceFault).leftHeld c key))) ∧
  (∀ key j c p (s : State), s.holds key 0o341 j c → p = kemSet (bits j.oparg 1 0) → j.setOk false = true →
    j.declared 1 = p.ekLen → j.declared 2 = p.ctLen → j.delivered [(2, p.ctLen)] = true →
    (ekOk p (j.data 1) = true → s.rngOk j.region = true → ∃ m u k ct, (m, u) = s.drawFrom j.region 32 ∧
      (k, ct) = kemEncaps p (j.data 1) m ∧
      exec (.mlkemEncaps key) s = .next ((u.finishOut key j j.goodStatus [(2, ct)] k).leftHeld c key)) ∧
    (ekOk p (j.data 1) = true → s.rngOk j.region = false →
      exec (.mlkemEncaps key) s = .next ((s.fail key j S.deviceFault).leftHeld c key)) ∧
    (ekOk p (j.data 1) = false → exec (.mlkemEncaps key) s = .next ((s.fail key j S.invalidOperand).leftHeld c key))) ∧
  (∀ key j c v p (s : State), s.holds key 0o342 j c → p = kemSet (bits j.oparg 1 0) →
    s.refSlotOf j (j.dw 1 0) U.unwrap [3] = .ok v → j.setOk false = true → j.declared 2 = 72 → j.declared 3 = p.ctLen →
    j.delivered [] = true →
    (kwpUnwrap v.keyOctets (j.data 2) = none → exec (.mlkemDecaps key) s = .next ((s.fail key j S.authFail).leftHeld c key)) ∧
    (∀ b, kwpUnwrap v.keyOctets (j.data 2) = some b → b.length = 64 → exec (.mlkemDecaps key) s =
      .next ((s.finish key j j.goodStatus (kemDecaps p (b.take 32) (b.drop 32) (j.data 3))).leftHeld c key))) ∧
  (∀ key j c v p (s : State), s.holds key 0o350 j c → p = dsaSet (bits j.oparg 1 0) →
    s.refSlotOf j (j.dw 1 0) U.wrap [3] = .ok v → j.setOk false = true → j.declared 2 = p.pkLen → j.declared 3 = 40 →
    j.delivered [(2, p.pkLen), (3, 40)] = true →
    (s.rngOk j.region = true → ∃ r u, (r, u) = s.drawFrom j.region 32 ∧ exec (.mldsaKeygen key) s =
      .next ((u.finishOut key j j.goodStatus [(2, (dsaKeyGen p r).pk), (3, kwpWrap v.keyOctets r)] []).leftHeld c key)) ∧
    (s.rngOk j.region = false → exec (.mldsaKeygen key) s = .next ((s.fail key j S.deviceFault).leftHeld c key))) ∧
  (∀ key j c v p (s : State), s.holds key 0o351 j c → p = dsaSet (bits j.oparg 1 0) →
    s.refSlotOf j (j.dw 1 0) U.unwrap [3] = .ok v → j.setOk true = true → j.declared 2 = 40 → 2 ≤ j.declared 3 →
    j.declared 3 ≤ 65536 → j.declared 4 = p.sigLen → j.delivered [(4, p.sigLen)] = true →
    (kwpUnwrap v.keyOctets (j.data 2) = none → exec (.mldsaSign key) s = .next ((s.fail key j S.authFail).leftHeld c key)) ∧
    (∀ xi, kwpUnwrap v.keyOctets (j.data 2) = some xi → xi.length = 32 → tb j.oparg 2 = true → s.rngOk j.region = false →
      exec (.mldsaSign key) s = .next ((s.fail key j S.deviceFault).leftHeld c key)) ∧
    (∀ xi r u, kwpUnwrap v.keyOctets (j.data 2) = some xi → xi.length = 32 → (tb j.oparg 2 = true → s.rngOk j.region = true) →
      (r, u) = (if tb j.oparg 2 then s.drawFrom j.region 32 else (zeros 32, s)) →
      (∀ sig, dsaSign p xi (j.data 3) r = some sig → exec (.mldsaSign key) s =
        .next ((u.finishOut key j j.goodStatus [(4, sig)] []).leftHeld c key)) ∧
      (dsaSign p xi (j.data 3) r = none → exec (.mldsaSign key) s = .next ((u.fail key j S.aborted).leftHeld c key)))) ∧
  (∀ key j c p (s : State), s.holds key 0o352 j c → p = dsaSet (bits j.oparg 1 0) → j.setOk false = true →
    j.declared 1 = p.pkLen → j.declared 3 = p.sigLen → j.delivered [] = true → exec (.mldsaVerify key) s =
      .next ((s.finish key j (if dsaVerify p (j.data 1) (j.data 2) (j.data 3) then j.goodStatus else S.authFail)).leftHeld c
        key)) ∧
  (∀ c n idx (s : State), c / 4 = n → s.frozen (P.clu n) = false →
    (s.rngOk (n / 4) = true → ∃ o u, (o, u) = s.drawFrom (n / 4) 3 ∧
      exec (.randRead (.core c) n idx) s = .next (u.answer (wd (beNat o)))) ∧
    (s.rngOk (n / 4) = false → exec (.randRead (.core c) n idx) s = .next (s.answer 0))) ∧
  (∀ n idx (s : State), s.frozen (P.clu n) = false → exec (.randRead .host n idx) s =
    .next ((s.pgErr (P.clu n) ERR.gate .host (R.CLU_RAND + idx)).answer 0)) ∧
  (∀ (f : LaneForm) n i, f = kemLanes ∨ f = dsaLanes → n < 3 → i < f.els →
    f.stored n i % f.q = f.twiddle n i ∧ f.stored n i % f.els = f.partner n i) ∧
  (∀ (f : LaneForm) l c, (f.scaled l)[c]? = l[c]?.map (fun x => f.sigma (c % f.els) * x % f.q))

/-- The gate and debug rows. -/
def Obligations.GateTablesAndTheDebugPort : Prop :=
  (∀ req n (s : State), (s.frozen (P.cgate n) = false →
      exec (.gcolDataAccess req n none) s = .next ((s.gcolNext n).answer (s.gcolShown n))) ∧
    exec (.ruleDataAccess req none) s = .next (s.ruleNext.answer s.ruleShown)) ∧
  (∀ req n (v : Word) (s : State), s.deaf (P.cgate n) = false → s.lockedPage (P.cgate n) = false → s.gcolSel n < 1212 →
    exec (.gcolDataAccess req n (some v)) s = .next ((s.colour n (s.gcolSel n) (bits v 3 0)).gcolNext n)) ∧
  (∀ req n (v : Word) (s : State), s.deaf (P.cgate n) = false → s.lockedPage (P.cgate n) = true →
    exec (.gcolDataAccess req n (some v)) s = .next (s.pgErr (P.cgate n) ERR.lock req R.CGATE_GCOL_DATA)) ∧
  (∀ req (v : Word) (s : State), s.deaf P.gate = false → s.lockedPage P.gate = false → exec (.ruleDataAccess req (some v)) s = .next (s.wRule v)) ∧
  (∀ req (v : Word) (s : State), s.deaf P.gate = false → s.lockedPage P.gate = true →
    exec (.ruleDataAccess req (some v)) s = .next (s.pgErr P.gate ERR.lock req R.GATE_RULE_DATA)) ∧
  (∀ n g c (s : State), s.gates.clearing.find? (fun x => x.1 == n) = some (n, g, c) → s.commandOn n g = false → ∃ u,
    u = s.clearWords (sramBase n + 1024 * g) 1024 ∧ exec (.granuleClear n) s = .next ((State.setGcol
      { u with gates := { u.gates with clearing := s.gates.clearing.erase (n, g, c) } } n g c).event (P.cgate n) 1)) ∧
  (∀ req (s : State), s.deaf P.dbg = false → s.dbgOpen = true → exec (.dbgRead req) s = .next s.dbgRead ∧ exec (.dbgWrite req) s = .next s.dbgWrite) ∧
  (∀ addr data (s : State), s.tapOpen = true → ∃ u v, (u, v) = s.debugRead addr.toNat ∧ exec (.dbgacc 1 addr data) s =
    .next { u with bus := { u.bus with
      rdata := accWord 1 addr v (s.checkAccess (s.whoOf .debug) addr.toNat 1 .r != .allowed) } }) ∧
  (∀ req k (v : Word) (s : State), s.deaf P.dbg = false → s.dbgOpen = true → exec (.haltReqWrite req k v) s =
      .next ((s.setReg P.dbg (R.DBG_HALT_REQ + k) (v &&& 0o177777)).modReg P.dbg (R.DBG_DEFERRED + k) (fun u => u &&& v)) ∧
    exec (.resumeWrite req k v) s = .next (s.each ((named v 16).map (fun j => 16 * k + j)) State.resumeCore)) ∧
  (∀ c (s : State), s.boundary c = true → s.haltAsked c = true →
    (s.sealedCode c = false → exec (.coreHalt c) s = .next ((s.setDbgBit R.DBG_DEFERRED c false).haltCore c)) ∧
    (s.sealedCode c = true → s.dbgBit R.DBG_DEFERRED c = false →
      exec (.coreHalt c) s = .next ((s.setDbgBit R.DBG_DEFERRED c true).event P.dbg 1))) ∧
  (∀ req (v : Word) (s : State), s.deaf P.dbg = false → s.dbgOpen = true →
    (bits v 17 9 = 0o525 → bits v 1 0 = s.life + 1 → s.life = 0 →
      exec (.lifeAdv req v) s = .next ((s.setRfld P.dbg R.DBG_LIFE 1 0 1).event P.dbg 2)) ∧
    (bits v 17 9 ≠ 0o525 → exec (.lifeAdv req v) s = .next (s.pgErr P.dbg 1 req R.DBG_LIFE_ADV)))

/-- The Sluice rows. -/
def Obligations.ArbitersGrantByClassAgeAndWeight : Prop :=
  (∀ kind inst arr cycles a (s : State), kind ≠ 1 → a = s.present (s.modeOf kind (s.arb kind inst)) arr →
    s.monitored kind inst = false →
    (∀ r b, a.choose (arbRequesters kind inst) = some (r, b) → exec (.arbiterGrant kind inst arr cycles) s =
      .next ((s.setArb kind inst { b with
        pend := waitHeads cycles ((heads b.pend).filter (fun x => x.rq != r.rq)) b.pend }).monGrant kind inst r.wait)) ∧
    (a.choose (arbRequesters kind inst) = none → exec (.arbiterGrant kind inst arr cycles) s = .next (s.setArb kind inst a))) ∧
  (∀ inst arr cycles (s : State), exec (.arbiterGrant 1 inst arr cycles) s = .next (s.startNext (arbPage inst))) ∧
  (∀ kind inst r (s : State), r ∈ heads (s.arb kind inst).pend → 4096 ≤ r.lost → r.cls < 3 → s.monitored kind inst = false →
    exec (.ageRaise kind inst r.rq) s = .next ((s.setArb kind inst { s.arb kind inst with
      pend := raiseHead r.rq (s.arb kind inst).pend }).inc36 P.sluice R.SLUICE_AGED_ALL)) ∧
  (∀ (s : State), s.rbit P.sluice R.SLUICE_STAT 1 = true → ∃ on u, on = s.rbit P.sluice R.SLUICE_CFG 0 ∧
    u = ({ s with sluice := { s.sluice with
      arbs := (s.sluice.arbs.map (fun e => (e.1, if weighted (e.1 / 4096) && e.2.owm != on
        then { e.2 with owm := on, deficit := [] } else e.2))).filter (fun e => e.2 != Arb.idle) } } : State) ∧
    exec .owmSwitched s = .next (((u.setRbit P.sluice R.SLUICE_STAT 1 false).setRbit P.sluice R.SLUICE_STAT 0 on).event P.sluice 1)) ∧
  (∀ req (s : State), s.deaf P.sluice = false → exec (.rqClassAccess req none) s =
      .next (s.rqAdvance.answer (wd (s.rqClass (s.rfld P.sluice R.SLUICE_RQ_SEL 6 0)))) ∧
    (∀ v : Word, exec (.rqClassAccess req (some v)) s = .next (State.rqAdvance
      { s with sluice := { s.sluice with
        classes := Map.put rqReset s.sluice.classes (s.rfld P.sluice R.SLUICE_RQ_SEL 6 0) (bits v 1 0) } })) ∧
    (∀ v : Word, bits v 11 0 < arbInstances (bits v 17 12) → exec (.monSelWrite req v) s =
      .next (((((s.setReg P.sluice R.SLUICE_MON_SEL v).setReg P.sluice R.SLUICE_MON_MAXWAIT 0).setReg36 P.sluice
        R.SLUICE_MON_GRANTS 0).setReg36 P.sluice R.SLUICE_MON_AGED 0).setReg36 P.sluice R.SLUICE_MON_STALLS 0)) ∧
    exec (.monMaxwaitRead req) s = .next ((s.setReg P.sluice R.SLUICE_MON_MAXWAIT 0).answer (s.peek P.sluice R.SLUICE_MON_MAXWAIT)))

/-- The contact station rows; `cdeact`, `cbegin`, `csettle`, `t0Octet` and `t1Receive` are R353 to R363's steps. -/
def Obligations.ContactStationsRunTheirExchanges : Prop :=
  (∀ (row : (Nat → Instr) × Nat), row ∈ [((fun k => Instr.cstActivate k), 0o400), ((fun k => Instr.cstApdu k), 0o401),
      ((fun k => Instr.cstDeactivate k), 0o402), ((fun k => Instr.cstWarmReset k), 0o403)] → ∀ key j n (s : State),
    s.job key = some j → j.opcode = row.2 → n = j.stnNo → s.cphase n ≠ 4 → s.cphase n ≠ 5 → s.stnTurn key j = true →
    exec (row.1 key) s = .next ((s.cstStart key j).crest n) ∧
    (j.stnArgBad = true → s.cstStart key j = s.stnFinish key j S.invalidOperand) ∧
    (j.stnArgBad = false → s.replayOf j = none → j.stnOp = row.2 → ∃ go : State → Bool → State,
      go = (fun t b => (t.startJob (P.cst n) key j).modJob key (fun x => { x with begun := b })) ∧
      (row.2 = 0o400 → s.cpresent n = false → s.cstStart key j = s.stnFinish key j S.removed) ∧
      (∀ t c l, row.2 = 0o400 → s.cpresent n = true →
        t = go (s.setCst n { s.cst n with wantT1 := decide (bits j.stnArg 5 4 ≠ 0) }) true → t.cactive n = false →
        t.cclasses n = c :: l → s.cstStart key j = t.cbegin n c false) ∧
      (∀ j', row.2 = 0o401 → s.apduCheck j = some none → s.cpresent n = true → s.cactive n = true →
        (go s false).job key = some j' → s.cstStart key j = (go s false).ccommand n key j' false) ∧
      (row.2 = 0o402 → s.cactive n = true → s.cstStart key j = (go s true).cdeact n .rest (some S.ok)) ∧
      (row.2 = 0o402 → s.cactive n = false → s.cstStart key j = s.stnFinish key j S.ok) ∧
      (row.2 = 0o403 → s.cactive n = true → s.cstStart key j = (((go s true).setCphase n 1).setCst n
        { ((go s true).setCphase n 1).cst n with warmed := false, pps := [] })))) ∧
  (∀ n octets parity (s : State), s.cawaitAtr n = true → ∃ t,
    t = State.setCst ((s.setReg (P.cst n) R.CST_ATRLEN (wd (min 33 octets.length))).each (List.range 17) (fun u i =>
      u.setReg (P.cst n) (R.CST_ATR + i) ((packWords (octets.take 33)).getD i 0))) n
      { s.cst n with atr := octets.take 33 } ∧
    (∀ f, parity = false → parseAtr octets = some f → (∀ o, atrFor f 15 0 = some o → tb o ((s.cst n).cls - 1) = true) →
      exec (.atrReceive n octets parity) s = .next ((t.cparams n f).crest n)) ∧
    (parity = true → exec (.atrReceive n octets parity) s = .next ((t.catrFail n).crest n)) ∧
    exec (.atrTimeout n) s = .next (s.cnextClass n) ∧ exec (.atrCharacterTimeout n) s = .next (s.catrFail n)) ∧
  (∀ key j n (s : State), s.job key = some j → j.opcode = 0o401 → n = j.stnNo → s.runsOn (P.cst n) = some key → s.cphase n = 4 →
    (s.cst n).x.sent = false → exec (.cstApdu key) s = .next ((s.setJob key { j with begun := true }).csend n)) ∧
  (∀ n c (s : State), (s.cst n).next = .retry c → s.cphase n = 0 → exec (.classRetryWait n) s = .next (s.cbegin n c false)) ∧
  (∀ n (s : State), s.cphase n = 1 → (s.cst n).pps ≠ [] → ∃ r, r = (s.cst n).pps ∧
    exec (.ppsResponse n r false) s = .next ((s.csettle n (if r.length = 4 then r.getD 2 0x11 else 0x11)
      (decide ((r.getD 1 0).toNat % 16 = 1))).crest n) ∧
    (∀ o, exec (.ppsResponse n o true) s = .next ((s.cppsFail n).crest n))) ∧
  (∀ n (s : State), s.cphase n = 4 → (s.cst n).t0 ≠ .idle →
    (∀ errs octets, errs < s.ccfg1 n 8 5 → exec (.t0ProcedureByte n errs octets) s = .next
      ((octets.foldl (fun t o => if t.cphase n = 4 then t.t0Octet n o else t) (s.crep n errs)).crest n)) ∧
    (∀ errs octets, s.ccfg1 n 8 5 ≤ errs →
      exec (.t0ProcedureByte n errs octets) s = .next (((s.crep n (s.ccfg1 n 8 5)).cfail n).crest n)) ∧
    exec (.wwtExpiry n) s = .next (s.cfail n) ∧
    ((s.cst n).t0 = .proc → (s.cst n).x.left = [] → (s.cst n).expect = 0 → s.rfld (P.cst n) R.CST_BUSY_LIMIT 15 0 ≠ 0 →
      exec (.busyLimitExpiry n) s = .next (s.cfail n))) ∧
  (∀ n (s : State), s.t1Live n = true →
    (∀ octets parity, exec (.t1BlockReceive n octets parity) s = .next ((s.t1Receive n octets parity).crest n)) ∧
    exec (.bwtExpiry n) s = .next (s.t1Invalid n 2) ∧ exec (.cwtExpiry n) s = .next (s.t1Invalid n 2)) ∧
  (∀ n (s : State), s.rbit (P.cst n) R.CST_CFG 12 = true → (s.cst n).stopInd ≠ 0 → s.cphase n = 2 → s.runsOn (P.cst n) = none →
    exec (.clockStop n) s = .next (s.setCphase n 3)) ∧
  (∀ n high here t (s : State), here = (high == s.rbit (P.cst n) R.CST_CFG 3) → here ≠ s.cpresent n →
    t = (s.setRbit (P.cst n) R.CST_STAT 3 here).event (P.cst n) 0 →
    exec (.presChange n high) s = .next (if here then t else t.cremove n)) ∧
  (∀ n (s : State), (s.cactive n = true → exec (.overcurrent n) s =
      .next (((s.setRbit (P.cst n) R.CST_STAT 10 true).event (P.cst n) 2).cfail n) ∧
      exec (.stationFault n) s = .next (s.cfault n)) ∧
    (s.cphase n = 5 → exec (.deactDone n) s = .next ((s.event (P.cst n) 3).cafter n)) ∧
    (∀ r, r = (s.cst n).pps → s.cphase n = 1 → r ≠ [] → exec (.ppsTimeout n) s = .next (s.cppsFail n)))

/-- The contactless station rows and MIDR. -/
def Obligations.FieldStationsRunTheirExchanges : Prop :=
  (∀ (row : (Nat → Instr) × Nat), row ∈ [((fun k => Instr.fstActivate k), 0o440), ((fun k => Instr.fstApdu k), 0o441),
      ((fun k => Instr.fstDeactivate k), 0o442)] → ∀ key j n (s : State),
    s.job key = some j → j.opcode = row.2 → n = j.stnNo - 16 → s.fphase n ≠ 7 → s.stnTurn key j = true →
    exec (row.1 key) s = .next ((s.fstStart key j).frest n) ∧
    (j.stnArgBad = true → s.fstStart key j = s.stnFinish key j S.invalidOperand) ∧
    (j.stnArgBad = false → s.replayOf j = none → j.stnOp = row.2 → ∃ go : State → Bool → State,
      go = (fun t b => (t.startJob (P.fst n) key j).modJob key (fun x => { x with begun := b })) ∧
      (∀ t u, row.2 = 0o440 → s.fstCheck n j = none → s.waitBlind n j = false → t = (go s false).setFbit n 6 false →
        u = t.setFst n { t.fst n with tags := [], ninth := false, tries := 0, sing := .idle } →
        u.fieldIsOn n = false → s.fstStart key j = u.farrive n j) ∧
      (∀ tag t, row.2 = 0o441 → s.apduCheck j = some none → j.respSmall = false → s.fphase n = 5 → (s.fst n).tag = some tag →
        s.fbit n 13 = true → s.unidentified j = false → t = ((go s true).setFphase n 6).inc36 (P.fst n) R.FST_EXCHANGES →
        s.fstStart key j = (t.modFx n (fun _ => { Exch.none with
          cmd := j.data (j.stnCell 1), left := j.data (j.stnCell 1) })).fnext n) ∧
      (∀ t, row.2 = 0o442 → s.fieldIsOn n = true → (s.fst n).tag.isSome = true → s.fbit n 13 = true →
        t = (go s true).setFphase n 6 → s.fstStart key j = t.fask n .deselect (t.fframe n [0xC2])) ∧
      (row.2 = 0o442 → s.fieldIsOn n = false → s.fstStart key j = (s.fieldOff n).stnFinish key j S.ok))) ∧
  (∀ n v t (s : State), s.fphase n = 2 → v = s.fst n → v.wait = .power → v.admitted = true → s.stnJob (P.fst n) = none →
    s.runsOn (P.fst n) = none → v.tuned = true → v.lastType = 1 →
    t = (((s.setFphase n 3).setFst n { v with wait := .none, stuck := 0, high := 0, low := 0 }).setRfld (P.fst n) R.FST_STAT
      11 8 1).setFbit n 12 false → exec (.fieldOn n) s = .next t) ∧
  (∀ n (s : State), s.fphase n = 3 → ∃ t, t = s.setFphase n 4 ∧ exec (.guardEnd n) s =
    .next (if s.rfld (P.fst n) R.FST_STAT 9 8 = 2 then t.fround n 1 else t.freq n true)) ∧
  (∀ n (s : State), s.fphase n = 7 → (s.fst n).wait ≠ .off → exec (.fieldOffDone n) s =
    .next (((s.setFphase n 0).releasePower (P.fst n)).setFst n
      { (s.releasePower (P.fst n)).fst n with hits := 0, stuck := 0, wait := .none })) ∧
  (∀ n i q (s : State), s.ready (P.fst n) = true → s.rbit (P.fst n) R.FST_CFG 6 = true → s.fphase n ≤ 2 →
    exec (.ping n i q) s = .next (s.fping n i q)) ∧
  (∀ req n (s : State), s.deaf (P.fst n) = false → s.rbit (P.fst n) R.FST_CFG 6 = true →
    (s.fieldIsOn n = false → exec (.relearn req n) s = .next ((s.setFst n { s.fst n with learn := 16 }).setFbit n 4 false)) ∧
    (s.fieldIsOn n = true → exec (.relearn req n) s = .next (s.pgErr (P.fst n) 1 req R.FST_CMD))) ∧
  (∀ n (s : State), s.fieldIsOn n = true →
    (∀ a phi gap, exec (.calMeasure n a phi gap) s = .next ((s.fmeasure n a phi gap).frest n)) ∧
    exec (.fieldStationFault n) s = .next (s.ffault n)) ∧
  (∀ n (s : State), s.fphase n = 4 →
    (∀ o coll par, exec (.tagFrameReceive n o coll par) s = .next ((s.ftagFrame n o coll par).frest n)) ∧
    exec (.noAnswerTimeout n) s = .next ((s.fsilent n).frest n) ∧
    ((s.fst n).sing = .halt → exec (.hltaAccepted n) s = .next (s.freq n false)) ∧
    exec (.fwtExpiry n) s = .next ((s.fwtExpiry n).frest n)) ∧
  (∀ n o par (s : State), s.fxlive n = true → exec (.isodepBlockReceive n o par) s = .next ((s.fxreceive n o par).frest n)) ∧
  (∀ n k j (s : State), s.stnJob (P.fst n) = some (k, j) → (s.fst n).wait = .arrive → exec (.arriveTimeout n) s =
    .next (((s.setFst n { s.fst n with wait := .none }).stnFinish k j S.removed).frest n)) ∧
  (∀ req (s : State), s.deaf P.midr = false → s.rbit P.midr R.MIDR_STAT 16 = false → ∃ u,
    u = (s.setRbit P.midr R.MIDR_STAT 16 true).setRbit P.midr R.MIDR_STAT 17 false ∧ exec (.midrRead req) s =
      .next { u with stn := { u.stn with midr := { u.stn.midr with reading := some (s.rfld P.midr R.MIDR_SEL 3 0) } } }) ∧
  (∀ n octets fails (s : State), s.lev.starting.contains (P.fst n) = true → (s.fst n).recRead = false →
    s.rbit P.midr R.MIDR_CFG (n / 4) = true →
    recCause octets (min 250 (s.rfld (P.fst n) R.FST_PLIMIT 8 0)) none = 0 →
    exec (.identityReadDone n true 0 fails octets) s = .next (((s.readEnd n 0 fails (some octets)).setFst n
      { s.fst n with record := octets, recRead := true }).setFbit n 7 true))

/-- The line rows. -/
def Obligations.TheLineMarksChecksAndHolds : Prop :=
  (∀ e (s : State), exec (.encoderCount e 2) s = .next (s.assertHold 2)) ∧
  (∀ k t (s : State), k ≠ 2 →
    (t = s.count ((k == 0) != s.rbit P.line R.LINE_CFG 4) → exec (.encoderCount false k) s =
      .next (if t.disagree && !s.disagree then (t.detect 21).assertHold 1 else t)) ∧
    (t = { s with line := { s.line with enc1 :=
        if ((k == 0) != s.rbit P.line R.LINE_CFG 5) then s.line.enc1 + 1 else s.line.enc1 - 1 } } →
      exec (.encoderCount true k) s = .next (if t.disagree && !s.disagree then (t.detect 21).assertHold 1 else t))) ∧
  (∀ v (s : State), v = s.line.pos - s.line.samples.getD 9 0 → v ≠ 0 → 100 * v ≤ (105 * s.lreg R.LINE_SPEED_MAX : Int) →
    exec .speedUpdate s = .next ((State.setReg { s with line := { s.line with
      samples := (s.line.pos :: s.line.samples).take 10, zeros := 0, past := 0 } } P.line R.LINE_SPEED
      (BitVec.ofInt 18 v)).setRbit P.line R.LINE_STAT 1 false)) ∧
  (∀ ago m t (s : State), s.edgeAt ago = some m →
    (∀ l, s.line.lastMark = some l → m - l < (s.lreg R.LINE_PITCH_MIN : Int) → exec (.markEdge ago) s = .next (s.assertHold 5)) ∧
    ((∀ l, s.line.lastMark = some l → (s.lreg R.LINE_PITCH_MIN : Int) ≤ m - l) →
      t = (s.snapshot).inc36 P.line R.LINE_NEXT_ITEM → ∃ u : State, u = { t with line := { t.line with lastMark := some m } } ∧
      exec (.markEdge ago) s =
        .next (if 4096 ≤ u.line.items.length then u.overflowMark m else u.enterItem s.nextItem m ago))) ∧
  (∀ j ago p f (s : State), s.edgeAt ago = some p → s.isCheck j = true →
    f = s.line.items.find? (fun i => decide ((p - i.m - s.rfld P.line (R.LINE_CHK + j) 16 0).natAbs ≤ s.lreg R.LINE_CHK_TOL)) →
    (f = none → exec (.checkMarkEdge j ago) s = .next (s.assertHold 6)) ∧
    (∀ i, f = some i → i.checks.contains j = false →
      exec (.checkMarkEdge j ago) s = .next (s.modItem i.num (fun x => { x with checks := x.checks ++ [j] })))) ∧
  (∀ s : State, exec (.lineOkChange true) s = .next (s.setRbit P.line R.LINE_STAT 2 true) ∧
    (s.holding = false →
      exec (.lineOkChange false) s = .next (((s.setRbit P.line R.LINE_STAT 2 false).detect 22).assertHold 9))) ∧
  (∀ req (s : State), s.deaf P.line = false → exec (.holdSet req) s = .next (s.assertHold 10)) ∧
  (∀ req (s : State), s.deaf P.line = false → s.en P.line = true → s.stat P.line ST.stopping = false → s.rbit P.line R.LINE_STAT 1 = true →
    s.holdPersists = false → s.holding = true → ∃ u, u = (s.setRbit P.line R.LINE_STAT 0 false).setRfld P.line R.LINE_STAT 6 3 0 ∧
    exec (.holdClr req) s = .next (State.event { u with line := { u.line with
      revHigh := s.line.pos, snaps := [(s.line.pos, s.line.enc1)] } } P.line 1)) ∧
  (∀ req (s : State), s.deaf P.line = false → s.holdPersists = true → exec (.holdClr req) s = .next (s.pgErr P.line 2 req R.LINE_CMD)) ∧
  (∀ key j (s : State), s.job key = some j → j.opcode = 0o500 →
    exec (.lineItem key) s = .next (if j.stnNo < 16 then s.cstRow key j else s.fstRow key j)) ∧
  (∀ key j i len (s : State), s.runs key 0o501 j → lineClean j = true → len = ((j.oct 2 0 1).headD 0).toNat →
    (len = 4 ∨ len = 7 ∨ len = 10) → s.item j.itemNo = some i → i.ident = [] → exec (.lineSetId key) s =
      .next ((s.modItem j.itemNo (fun x => { x with ident := j.oct 2 1 len })).finish key j S.ok)) ∧
  (∀ key j (s : State), lineClean j = true →
    (s.item j.itemNo = none → (s.runs key 0o502 j → exec (.lineDone key) s = .next (s.fail key j S.windowMissed)) ∧
      (s.runs key 0o503 j → exec (.lineReject key) s = .next (s.fail key j S.windowMissed))) ∧
    (∀ i, s.item j.itemNo = some i →
      (s.runs key 0o502 j → exec (.lineDone key) s =
        .next ((s.modItem j.itemNo (fun x => { x with done := true })).finish key j S.ok)) ∧
      (s.runs key 0o503 j → (i.reject = true ∨ s.decided i = false) →
        exec (.lineReject key) s = .next ((s.markItem i.num 5).finish key j S.ok)) ∧
      (s.runs key 0o503 j → i.reject = false → s.decided i = true →
        exec (.lineReject key) s = .next ((s.assertHold 8).fail key j S.policyRefused)) ∧
      (s.runs key 0o504 j → j.itemNo < s.nextItem + 4096 → exec (.lineQuery key) s = .next (s.finish key j S.ok
        (beOctets 3 i.stat.toNat ++ beOctets 5 (BitVec.ofInt 36 i.m).toNat ++ (List.range 8).map (fun n =>
          match i.recs[n]? with | some x => BitVec.ofNat 8 x.status | none => 0xFF))))))

/-- The tamper and mesh rows. A self-test that fails shows a free response time (log entry 6). -/
def Obligations.TamperAlarmsRunTheirResponses : Prop :=
  (∀ src (s : State), exec (.tamperAlarm src) s =
    .next (if src = 119 ∧ s.tamper.bist ≠ some 119 then (s.raiseCond src).vbatLost else s.raiseCond src)) ∧
  (∀ src (s : State), s.tamper.present.contains src = false → s.hummockOn = true → s.mainPower = true → s.tamper.bist = none →
    (src < 70 ∨ (81 < src ∧ src ≠ 118)) →
    s.raiseCond src = State.alarm { s with tamper := { s.tamper with present := s.tamper.present ++ [src] } } src) ∧
  (∀ src t u (s : State), t = ({ s with tamper := { s.tamper with present := drop1 s.tamper.present src } } : State) →
    u = (if src = 119 ∧ s.wisp.vbat = false then t.vbatBack else t) → exec (.tamperConditionClear src) s =
      .next (if src = 118 ∨ src = 119 then u.setRbit P.hmk R.HMK_STAT 2 (u.wisp.vbat && !u.tamper.present.contains 118) else u)) ∧
  (∀ src bit i (s : State), s.runIdx src (fun r => r.open bit) = some i → zeroBits.contains bit = true →
    exec (.zeroiseDone src bit) s = .next ((s.zeroise bit).actionDone bit)) ∧
  (∀ src i t (s : State), s.runIdx src (fun r => r.open 9) = some i →
    s.tamper.running.all (fun r => waitBits.all (fun b => !r.open b)) = true → s.mainPower = true →
    t = (s.actionDone 9).packageReset .tamper → exec (.resetDevice src) s = .next { t with boot := { t.boot with tamper := true } }) ∧
  (∀ src i (s : State), s.runIdx src (fun r => r.open 10) = some i →
    exec (.retire src) s = .next (s.retireFuse.actionDone 10)) ∧
  (∀ src i r (s : State), s.runIdx src (fun r => decide (r.done = r.set)) = some i → s.tamper.running[i]? = some r →
    exec (.tamperActionsDone src) s = .next ((((State.logEntry { s with tamper := { s.tamper with
      running := s.tamper.running.eraseIdx i } } 2 src r.time r.done).setReg P.tamp0 R.TAMP0_DONE_SET r.done).event P.tamp0 4))) ∧
  (∀ src (s : State), Map.get (dflt 0) s.tamper.counted src ≤ 1 → exec (.tamperPeriodEnd src) s =
    .next { s with tamper := { s.tamper with counted := Map.put (dflt 0) s.tamper.counted src 0 } }) ∧
  (∀ req k (v : Word) (s : State), s.deaf P.tamp0 = false → exec (.latchWrite req k v) s =
    .next (s.each ((List.range 16).filter (fun j => tb v j && !s.tamper.present.contains (16 * k + j)))
      (fun t j => t.setRbit P.tamp0 (R.TAMP0_LATCH + k) j false))) ∧
  (∀ req src (s : State), s.deaf P.tamp0 = false → src = s.rfld P.tamp0 R.TAMP0_BIST_SEL 6 0 → s.mainPower = true →
    (s.tamper.bist = none → Map.get (dflt 0) s.tamper.tested src = 0 → exec (.bistStart req) s = .next (State.setReg
      { s with tamper := { s.tamper with bist := some src, tested := Map.put (dflt 0) s.tamper.tested src (s.now + 1) } }
      P.tamp0 R.TAMP0_BIST_STAT (wd (2 ^ 15)))) ∧
    (s.tamper.bist ≠ none → exec (.bistStart req) s = .next (s.pgErr P.tamp0 0 req R.TAMP0_BIST_CTRL))) ∧
  (∀ src us t (s : State), s.tamper.bist = some src → us < 1024 →
    t = ({ s with tamper := { s.tamper with bist := none }, fresh := s.fresh + 1 } : State) → ∃ u,
    u = (t.setReg P.tamp0 R.TAMP0_BIST_STAT (wd (2 ^ 17 + 2 ^ 16 + us))).event P.tamp0 1 ∧
    exec (.bistDone 0 us false) s = .next (u.logEntry 5 src u.rtc (wd (2 ^ 17 + us)))) ∧
  (∀ req sel src (s : State), s.deaf P.tamp1 = false → sel = s.reg P.tamp1 R.TAMP1_RESP_SEL → src = bits sel 6 0 → tb sel 17 = false →
    exec (.respStageAccess req none) s = .next (s.answer (s.stagedSet src)) ∧
    (s.setTamperRuns = false → (∀ w, exec (.respStageAccess req (some w)) s = .next (s.stage src w)) ∧
      exec (.respDiscard req) s = .next { s with tamper := { s.tamper with staged := [] } }) ∧
    (s.setTamperRuns = true → exec (.respDiscard req) s = .next (s.pgErr P.tamp1 0 req R.TAMP1_CMD))) ∧
  (∀ req (s : State), (s.frozen P.moss = false → exec (.lastFailRead req) s =
      .next ((s.answer (s.reg P.moss R.MOSS_LAST_FAIL)).setReg P.moss R.MOSS_LAST_FAIL 0)) ∧
    (s.frozen P.moss = true → exec (.lastFailRead req) s =
      .next (s.answer (Map.get regReset s.bus.shadow (P.moss * 1024 + R.MOSS_LAST_FAIL))))) ∧
  (∀ t u (s : State), s.hummockOn = true → t = s.setRbit P.moss R.MOSS_STAT 0 s.mainPower →
    u = (if s.mainPower then t.inc36 P.moss R.MOSS_SCANS else t).mossNext →
    exec (.mossCheck none) s = .next u ∧
    (∀ pair a b pat net more kind, s.mossPattern pair = some pat → mossNets pair pat a b = (net :: more, kind) →
      exec (.mossCheck (some (pair, a, b))) s = .next ((net :: more).foldl (fun v m => v.raiseCond (mossSource m))
        (((u.incSat P.moss R.MOSS_FAILS).setReg P.moss R.MOSS_LAST_FAIL (wd (2 ^ 17 + kind * 2 ^ 15 + net))).event P.moss 0))) ∧
    (∀ pair a b pat kind, s.mossPattern pair = some pat → mossNets pair pat a b = ([], kind) →
      exec (.mossCheck (some (pair, a, b))) s = .next u)) ∧
  (∀ n (s : State), n = 18 * s.mossPairs.length → s.tamper.steps + n < 65536 → s.mossNext =
    { s with tamper := { s.tamper with lfsr := lfsrSteps n s.tamper.lfsr, steps := s.tamper.steps + n } })

/-- The log and tag rows. The tag's random identifier is a free value (log entry 6). -/
def Obligations.TheWispLogIsAppendedAndRead : Prop :=
  (∀ e r t (s : State), s.wisp.queue = e :: r → s.hummockOn = true →
    t = State.writeLog { s with wisp := { s.wisp with queue := r } } e → t.wisp.dropped = 0 → exec .logAppend s = .next t) ∧
  (∀ req u (s : State), s.deaf P.wisp = false → s.wisp.lastAppend = 0 → s.wisp.queue.length ≤ 12 →
    u = s.logEntry 6 0 s.rtc (s.reg P.wisp R.WISP_ANNOT) →
    exec (.append req) s = .next { u with wisp := { u.wisp with lastAppend := s.now + 1 } }) ∧
  (∀ req (s : State), s.deaf P.wisp = false → 12 < s.wisp.queue.length → exec (.append req) s = .next (s.pgErr P.wisp 1 req R.WISP_CMD)) ∧
  (∀ req r edge (s : State), s.deaf P.wisp = false → s.wisp.vbat = true → r = ticksSince s.now s.wisp.vbatAt + 1 →
    edge = s.wisp.vbatAt + (r * 1000000000 + 32767) / 32768 → exec (.wispLink req) s =
      .next (((s.setRegs P.wisp R.WISP_LINK_RTC 3 (r % 2 ^ 48)).setRegs P.wisp R.WISP_LINK_SYS 4
        (s.clock.sys.toNat + (edge - s.now))).setRbit P.wisp R.WISP_STAT 3 true)) ∧
  (∀ req w (s : State), s.deaf P.wisp = false → w = Map.get (dflt []) s.wisp.slots (s.rfld P.wisp R.WISP_ENT_SEL 7 0) →
    exec (.wispCheck req) s = .next (((s.setRbit P.wisp R.WISP_STAT 1 true).setRbit P.wisp R.WISP_STAT 2
      (decide (logMac s.logKey ((List.range 6).map (cw w)) = dword (cw w 6) (cw w 7)))).event P.wisp 3) ∧
    exec (.ent0Read req false) s = .next (State.answer { s with wisp := { s.wisp with copy := w } } (cw w 0)) ∧
    (s.rbit P.wisp R.WISP_CFG 0 = true → exec (.ent0Read req true) s =
      .next ((State.answer { s with wisp := { s.wisp with copy := [] } } 0).pgErr P.wisp 0 req R.WISP_ENT))) ∧
  (∀ req l (s : State), s.frozen P.wisp = false → l = (List.range 3).map (fun i => wd (s.rtc / 2 ^ (18 * i))) →
    exec (.rtc0Read req) s = .next (State.answer { s with wisp := { s.wisp with rtcLatch := l } } (cw l 0))) ∧
  (∀ s : State, s.wisp.tag = .off → ∃ o t, (o, t) = s.draw 3 ∧ exec .wispFieldOn s = .next { t with wisp := { t.wisp with
    tag := .idle, uid := 0x08 :: o, held := 0, heldOcts := [], answer := [] } }) ∧
  (∀ s : State, exec .wispFieldOff s = .next { s with wisp := { s.wisp with
    tag := .off, uid := [], held := 0, heldOcts := [], answer := [] } }) ∧
  (∀ s : State, (s.wisp.tag = .idle → ∀ w, exec (.wispReqa w) s = .next ((s.tagSays [0x04, 0x00]).tagGoes .ready)) ∧
    (s.wisp.tag = .halted → exec (.wispReqa true) s = .next ((s.tagSays [0x04, 0x00]).tagGoes .ready) ∧
      exec (.wispReqa false) s = .next (s.tagSays []))) ∧
  (∀ known (s : State), s.wisp.tag = .ready → (uidBits s.wisp.uid).take known.length = known →
    (known.length < 40 → ∀ crc, exec (.wispSelect known crc) s =
      .next (s.tagSays (bitsOct ((uidBits s.wisp.uid).drop known.length)))) ∧
    (40 ≤ known.length → exec (.wispSelect known true) s =
      .next (((s.tagSays (0x00 :: crcA [0x00])).tagGoes .selected).event P.wisp 1))) ∧
  (∀ s : State, s.wisp.tag = .selected → exec (.wispHlta true) s = .next ((s.tagSays []).tagGoes .halted) ∧
    (∀ b, 513 < b → exec (.rdblk b true) s = .next ((s.incSat P.wisp R.WISP_FIELD_READS).tagSays [0x00])) ∧
    (∀ b a, b < 2 → a = sliceOct (s.incSat P.wisp R.WISP_FIELD_READS).tagHeader (16 * b) 16 → ∃ u,
      u = s.incSat P.wisp R.WISP_FIELD_READS ∧ exec (.rdblk b true) s = .next (State.tagSays { u with wisp := { u.wisp with
        held := 0, heldOcts := u.tagHeader } } (a ++ crcA a))))

/-- The flash rows. -/
def Obligations.TheFlashControllerRunsItsOperations : Prop :=
  (∀ req (s : State), s.deaf P.flash = false → s.en P.flash = true → s.stat P.flash ST.stopping = false →
    (s.portHBusy = true → exec (.erase req) s = .next (s.pgErr P.flash 0 req R.FLASH_FL_CMD)) ∧
    (s.portHBusy = false → ∀ (go : Instr) (o : FlOp),
      ((go = .program req ∧ s.flBuf.all (fun w => tb w 17 && tb w 8) = true ∧
          o = ⟨1, s.flAddr, (unpackWords s.flBuf).getD [], 0, false, none⟩) ∨
        (go = .erase req ∧ s.flAddr % 128 = 0 ∧ o = ⟨2, s.flAddr, [], 0, false, none⟩) ∨
        (go = .mapProgram req ∧ o = ⟨5, s.flAddr,
          (List.range 64).flatMap (fun i => beOctets 2 (s.rfld P.flash (R.FLASH_FL_WPMAP + i) 15 0)), 0, false, none⟩)) →
      (∀ st, s.opRefused o false = some st → exec go s = .next (s.portHEnd o st)) ∧
      (s.opRefused o false = none → s.flash.running = none → exec go s = .next (s.opStart o)) ∧
      (s.opRefused o false = none → s.flash.running ≠ none →
        exec go s = .next { s with flash := { s.flash with queued := some o } }))) ∧
  (∀ req pulse (s : State), s.deaf P.flash = false → (∀ o, s.flash.running = some o → o.op = 2 →
      exec (.suspend req pulse) s = .next (s.suspendErase o pulse false)) ∧
    (s.flash.running = none → exec (.suspend req pulse) s = .next (s.pgErr P.flash 1 req R.FLASH_FL_CMD))) ∧
  (∀ req (s : State), s.deaf P.flash = false → (∀ o d, s.flash.susp = some (o, d) →
      exec (.resume req) s = .next (State.opNext { s with flash := { s.flash with susp := some (o, true) } })) ∧
    (s.flash.susp = none → exec (.resume req) s = .next (s.pgErr P.flash 1 req R.FLASH_FL_CMD))) ∧
  (∀ page data pulse o (s : State), o = (⟨1, page, data, 0, true, none⟩ : FlOp) → s.opRefused o false = none →
    (s.flash.running = none → exec (.portDProgram page none data pulse) s = .next (s.opStart o)) ∧
    (∀ r, s.flash.running = some r → r.op = 2 → sectorOf r.page ≠ sectorOf page →
      exec (.portDProgram page none data pulse) s = .next ((s.suspendErase r pulse true).opStart o))) ∧
  (∀ o p (s : State), s.flash.running = some o → p = { o with pulses := min 12 (o.pulses + 1) } →
    exec (.flashPulseDone true) s = .next (s.opEnd p FS.ok) ∧
    (o.op = 2 → o.pulses < 11 → exec (.flashPulseDone false) s = .next { s with flash := { s.flash with running := some p } }) ∧
    (o.op = 2 → 11 ≤ o.pulses → exec (.flashPulseDone false) s = .next ((s.opEnd p FS.eraseFail).event P.flash 4)) ∧
    (o.op ≠ 2 → 8 ≤ o.pulses → exec (.flashPulseDone false) s = .next (s.opEnd p FS.programFail))) ∧
  (∀ req i corr bad (s : State), s.checkAccess (s.whoOf req) (0o002000000000 + i) 1 .r = .allowed → ∃ t w,
    (t, w) = s.flashRead req i corr bad ∧ exec (.flashWindowRead req i corr bad) s =
      .next { t with bus := { t.bus with rdata := w.setWidth 72 } }) ∧
  (∀ s : State, (s.brownedOut = false → exec .brownout s =
      .next (((s.setRbit P.flash R.FLASH_FL_STAT 4 true).event P.flash 1).abortOps FS.brownout true true)) ∧
    (s.brownedOut = true → exec .brownoutClear s = .next ((s.setRbit P.flash R.FLASH_FL_STAT 4 false).opNext))) ∧
  (∀ low (s : State), exec (.flashWpChange low) s = .next (s.setRbit P.flash R.FLASH_FL_STAT 5 low)) ∧
  (∀ t n u (s : State), s.lev.starting.contains P.flash = true → s.flash.running = none → s.flash.susp = none →
    t = s.each s.flash.markers (fun t n => t.setSector n 3) → n = ((List.range 1024).filter (fun k => t.sector k = 3)).length →
    u = (t.setReg P.flash R.FLASH_FL_SCAN (wd (2 ^ 17 + n))).each (List.range 64) (fun u i =>
      u.setReg P.flash (R.FLASH_FL_WPMAP + i) (Map.get (dflt 0) u.flash.map i)) →
    exec .flashScanDone s = .next (if n = 0 then u else u.event P.flash 3))

/-- The power, reset and watchdog rows. -/
def Obligations.PowerAndResetsMoveTheDevice : Prop :=
  (∀ (s : State) t, s.boot.pin = false → t = s.packageReset .pin → exec .resetN s = .next { t with boot := { t.boot with pin := true } }) ∧
  (∀ gb (s : State), (s.boot.pin = true → exec (.resetNRelease gb) s =
      .next (State.tryStart { s with boot := { s.boot with pin := false } } gb)) ∧
    (s.boot.tamper = true → s.tamper.present.all (fun n => !tb (s.activeSet n) 9) = true → exec (.tamperResetRelease gb) s =
      .next (State.tryStart { s with boot := { s.boot with tamper := false } } gb)) ∧
    (s.boot.por = true → exec (.porRelease gb) s = .next ((((((State.setRbit { s with boot := { s.boot with por := false } }
      P.rstc R.RSTC_CAUSE 0 true).logEntry 8 0 s.rtc 1)).newLinkKey false).newLinkKey true).tryStart gb))) ∧
  (∀ (s : State) t, s.boot.por = false → s.wisp.vbat = false → t = s.deferRunning.packageReset .por → exec .supplyBrownout s =
    .next { t with boot := { t.boot with por := true, tamper := false }, tamper := { t.tamper with present := [] },
                   cust := { t.cust with hmk := 0 }, wisp := { t.wisp with queue := [] } }) ∧
  (∀ (s : State), exec .perstNRelease s = .next { s with boot := { s.boot with perst := false } } ∧
    (s.boot.perst = false → ∃ t, t = ((s.each (List.range 256) State.queueReset).incSat P.rstc R.RSTC_PERSTS).event P.rstc 3 ∧
      exec .perstN s = .next { t with boot := { t.boot with perst := true }, evt := { t.evt with msix := [], msixPend := [] } })) ∧
  (∀ gb (s : State), s.inReset = false → s.devWdt ≠ 0 →
    (s.devWdt ≤ s.sinceKick 4 → exec (.devWdtExpiry gb) s = .next ((s.packageReset .wdt).start
      (if s.lockedPage P.dev then s.boot.gbcompat else gb) (!s.lockedPage P.dev))) ∧
    (s.devWdt ≤ 2 * s.sinceKick 4 → exec .devWdtWarn s = .next (s.event P.rstc 2))) ∧
  (∀ k (s : State), s.inReset = false → s.rgWdt k ≠ 0 → s.rgWdt k ≤ s.sinceKick k → s.rbit P.rstc R.RSTC_RG_STAT (8 + k) = false →
    exec (.rgWdtExpiry k) s = .next (((s.setRbit P.rstc R.RSTC_RG_STAT (8 + k) true).event P.rstc 0).quarRegion k)) ∧
  (∀ req (v : Word) (s : State), s.deaf P.rstc = false → (bits v 17 9 = 0o525 → (List.range 4).all (fun k => !tb v k || ofRegion req k) = true →
      exec (.kick req v) s = .next (s.each ((List.range 4).filter (fun k => tb v k) ++ (if tb v 4 then [4] else [])) State.kick)) ∧
    (bits v 17 9 ≠ 0o525 → exec (.kick req v) s = .next (s.pgErr P.rstc 0 req R.RSTC_KICK)) ∧
    exec (.rgReset req v) s = .next (s.each (named v 4) State.regionReset) ∧
    exec (.causeRead req) s = .next ((s.answer (s.reg P.rstc R.RSTC_CAUSE)).setReg P.rstc R.RSTC_CAUSE 0)) ∧
  (∀ k bad cl t u (s : State), s.rbit P.rstc R.RSTC_RG_STAT k = true → cl = (List.range 4).map (fun i => 4 * k + i) →
    t = (State.setRbit { s with boot := { s.boot with rgReset := drop1 s.boot.rgReset k } } P.rstc R.RSTC_RG_STAT k
      false).setRbit P.rstc R.RSTC_RG_STAT (4 + k) false → u = t.each cl State.clusterRelease →
    exec (.rgResetDone k false bad) s = .next (((State.thaw { u with lev := { u.lev with
      clBist := u.lev.clBist.filter (fun n => !cl.contains n) } } (corePages k)).event P.rstc 1))) ∧
  (∀ (s : State), (s.vfield = true → exec .vfieldLost s =
      .next (((s.setRbit P.pwr R.PWR_STAT 3 false).event P.pwr 2).each stationPages (fun t p => t.loseField p))) ∧
    (s.vfield = false → s.mainPower = true → exec .vfieldGood s =
      .next (((s.setRbit P.pwr R.PWR_STAT 3 true).event P.pwr 3).each stationPages (fun t p => t.gainField p))) ∧
    (s.wisp.vbat = false ∨ s.tamper.present.contains 118 = true → exec .vbatApply s = .next (State.setRbit { s with
      wisp := { s.wisp with vbat := true, vbatAt := s.now },
      tamper := { s.tamper with present := drop1 (drop1 s.tamper.present 118) 119 } } P.hmk R.HMK_STAT 2 true))) ∧
  (∀ vcore rest t (s : State), (s.pmbOk = true → vcore + rest ≤ 3600) → (s.pmbOk = false → 2000 + rest ≤ 3600) →
    t = State.setReg { s with power := { s.power with past := 0 } } P.pwr R.PWR_PKG_POWER (wd ((if s.pmbOk then vcore else 2000) + rest)) →
    t.power.step = none → (t.choose = none → exec (.powerUpdate vcore rest) s = .next t.capUpdate) ∧
    (∀ k up, t.choose = some (k, up) → exec (.powerUpdate vcore rest) s = .next ((t.stepStart k up).capUpdate))) ∧
  (∀ k p t (s : State), s.power.step = some (k, true) → p = s.point k + 1 →
    t = ((State.setRfld { s with power := { s.power with step := none } } P.pwr R.PWR_RG_POINT (4 * k + 3) (4 * k) p).setReg P.clk
      (R.CLK_RG_FREQ + k) (wd (pointFreq p))) → exec .regionStepDone s = .next t.capUpdate) ∧
  (∀ p l (s : State), s.stn.waits = p :: l → s.rfld P.pwr R.PWR_STN_RESERVED 17 0 + s.stnNeed p ≤ s.rfld P.pwr R.PWR_STN_BUDGET 17 0 →
    s.rfld P.pwr R.PWR_PKG_POWER 17 0 * 10 + s.stnNeed p ≤ s.rfld P.pwr R.PWR_CAP 8 0 * 100 →
    exec .stationAdmit s = .next (s.letOn p)) ∧
  (∀ req (v : Word) on off t (s : State), s.deaf P.pwr = false → on = (List.range 16).filter (fun n => tb v n && !tb (s.reg P.pwr R.PWR_CL_GATE) n) →
    off = (List.range 16).filter (fun n => !tb v n && tb (s.reg P.pwr R.PWR_CL_GATE) n) →
    t = (s.setReg P.pwr R.PWR_CL_GATE (wd (v.toNat % 65536))).each on (fun t n => t.setRbit P.pwr R.PWR_CL_GATED n true) →
    (on.all s.clusterIdle = true → exec (.clGateWrite req v) s = .next { t with power := { t.power with
      ungating := t.power.ungating.filter (fun n => !on.contains n) ++ off } }) ∧
    (on.all s.clusterIdle = false → exec (.clGateWrite req v) s = .next (s.pgErr P.pwr 1 req R.PWR_CL_GATE))) ∧
  (∀ cl (s : State), s.power.ungating.contains cl = true → exec (.ungateDone cl) s =
    .next ((State.setRbit { s with power := { s.power with ungating := drop1 s.power.ungating cl } } P.pwr R.PWR_CL_GATED cl
      false).startMembers (clusterPages cl))) ∧
  (∀ vout iout (s : State), s.mainPower = true → exec (.pmbusPoll true vout iout) s =
      .next ((s.pmbGood vout).setReg P.pwr R.PWR_IOUT (wd (min iout 262143))) ∧
    exec (.pmbAlert true) s = .next { s with power := { s.power with fails := 0 } } ∧
    exec (.pmbAlert false) s = .next (s.pmbFail false) ∧
    (s.pmbOk = false → exec (.pmbusRetry true true vout) s = .next ((s.pmbGood vout).setRbit P.pwr R.PWR_STAT 2 true)))

/-- The bring-up and DIAG rows. -/
def Obligations.BringUpAndDiagnosisStepByStep : Prop :=
  (∀ found t (s : State), s.inReset = false → s.bootStep = 1 → s.hmkLive = false →
    t = s.each found State.checkSource → ∃ u, u = ((State.runPending { t with tamper := { t.tamper with
      running := t.tamper.running.map (fun r => { r with done := r.done ||| (r.set &&& 0o1000) }) } }).setStep 2).showRoot ∧
    exec (.hummockCheck found) s = .next (if u.retired then u.stopRetired
      else (u.each hummockPages (fun v p => v.setStat p ST.ready true)).steps34)) ∧
  (∀ cl t (s : State), s.lev.clBist.contains cl = true →
    t = ({ s with lev := { s.lev with clBist := drop1 s.lev.clBist cl, clPassed := drop1 s.lev.clPassed cl,
                                      members := s.lev.members.filter (fun p => !(clusterPages cl).contains p) } } : State) →
    exec (.clusterBistDone cl false) s = .next t.stepsDone) ∧
  (∀ cl t (s : State), s.lev.clBist.contains cl = true →
    t = ({ s with lev := { s.lev with clBist := drop1 s.lev.clBist cl, clPassed := add1 s.lev.clPassed cl,
                                      members := s.lev.members.filter (fun p => !(clusterPages cl).contains p) } } : State) →
    exec (.clusterBistDone cl true) s =
      .next ((t.setStat (P.clu cl) ST.ready (t.en (P.clu cl))).startMembers (clusterPages cl)).stepsDone) ∧
  (∀ a b first c1 c2 t (s : State), s.inReset = false → s.retired = false → 2 ≤ s.bootStep → s.bootStep < 5 → s.lev.clBist = [] →
    s.ready P.flash = true → s.lev.clPassed ≠ [] → first = b2n (s.rbit P.dev R.DEV_BOOTCFG 2) →
    c1 = s.slotCause first (if first = 0 then a else b) →
    c2 = (if c1 = 0 then 0 else s.slotCause (1 - first) (if 1 - first = 0 then a else b)) →
    t = (s.setRfld P.dev R.DEV_BOOT_ERR (5 * first + 4) (5 * first) c1).setRfld P.dev R.DEV_BOOT_ERR (9 - 5 * first)
      (5 - 5 * first) c2 →
    exec (.bootVerify a b) s = .next (((if c1 = 0 then (t.bootFrom first).event P.dev 0
      else if c2 = 0 then (t.bootFrom (1 - first)).event P.dev 0 else t.event P.dev 1).setStep 5).allReady)) ∧
  (∀ t (s : State), s.inReset = false → s.bootStep = 5 → s.rbit P.dev R.DEV_STAT 3 = true →
    t = (s.each s.upClusters State.loadCluster).autoStart (s.upClusters.flatMap coresOf) →
    exec .firmwareCopy s = .next ((t.setStep 6).allReady)) ∧
  (∀ (s : State), s.inReset = false → s.hmkLive = true → s.rbit P.dev R.DEV_STAT 3 = true → 6 ≤ s.bootStep → s.peatRestored = false →
    exec .journalRestore s = .next ((((s.restoreJournal.autoStart [P.peat, P.cred]).custodyUp).setStep 7).allReady)) ∧
  (∀ req (s : State), s.deaf P.dev = false → (s.rbit P.dev R.DEV_STAT 3 = true → exec (.rollbackAdv req) s = .next (s.modReg P.dev R.DEV_FUSE_RB
      (fun v => putBits v 5 0 (max (bits v 5 0) (min 63 s.boot.rollback))))) ∧
    (s.rbit P.dev R.DEV_STAT 3 = false → exec (.rollbackAdv req) s = .next (s.pgErr P.dev 1 req R.DEV_CMD))) ∧
  (∀ req (v : Word) (s : State), s.deaf P.dev = false → (s.lockedPage P.dev = true →
      exec (.bootcfgWrite req v) s = .next (s.pgErr P.dev ERR.lock req R.DEV_BOOTCFG)) ∧
    (s.lockedPage P.dev = false → tb v 0 = s.rbit P.dev R.DEV_BOOTCFG 0 →
      exec (.bootcfgWrite req v) s = .next ((s.setReg P.dev R.DEV_BOOTCFG (v &&& 7)).gbForce))) ∧
  (∀ k b o w n (s : State), s.inReset = false → n = s.scrubCount k b → (s.frame (scrubFrame k b (n % 65536))).used = false →
    ∃ t : State, t = { s with diag := { s.diag with scrub := Map.put (dflt 0) s.diag.scrub (16 * k + b) (n + 1) } } ∧
    exec (.scrubRead k b o w) s = .next (if s.regionPasses k < t.regionPasses k then t.passEnd k else t)) ∧
  (∀ bg kind i (s : State), s.inReset = false → canMismatch kind i = true → s.isBad (regKey kind i) = false →
    exec (.backgroundCompare bg (some (kind, i))) s = .next (s.mismatch kind i bg)) ∧
  (∀ req rg (s : State), s.deaf P.diag = false → s.diag.inject = none → rg < 4 → exec (.injectScrubFlip req rg) s = .next (s.testOn 1 rg) ∧
    exec (.injectTestRow req rg) s = .next (((((s.testOn 2 rg).latchUe 0 7 false).detect 7).testOk
      (!s.rbit P.diag R.DIAG_UE_INFO 17))) ∧
    exec (.injectRegComplement req) s = .next (((s.testOn 3 0).mismatch 0 (P.diag * 1024 + R.DIAG_TEST) false).testOk
      (!s.rbit P.diag R.DIAG_REGF_PAGE 17))) ∧
  (∀ (s : State), s.diag.inject ≠ none → exec .injectDone s =
    .next (((State.setRbit { s with diag := { s.diag with inject := none } } P.diag R.DIAG_STAT 1 false).setRbit P.diag
      R.DIAG_STAT 2 s.diag.injOk).event P.diag 6)) ∧
  (∀ req (s : State), exec (.ueInfoRead req) s = .next ((s.answer (s.reg P.diag R.DIAG_UE_INFO)).setReg P.diag R.DIAG_UE_INFO 0) ∧
    exec (.regfPageRead req) s = .next ((s.answer (s.reg P.diag R.DIAG_REGF_PAGE)).setReg P.diag R.DIAG_REGF_PAGE 0) ∧
    exec (.linkRead req) s = .next ((s.answer (s.reg P.diag R.DIAG_LINK)).setReg P.diag R.DIAG_LINK 0)) ∧
  (∀ (row : (Nat → Instr) × Nat), row ∈ [((fun k => Instr.sessOpen k), 0o001), ((fun k => Instr.sessRekey k), 0o003),
      ((fun k => Instr.credWrite k), 0o012), ((fun k => Instr.credDerive k), 0o013), ((fun k => Instr.credRetire k), 0o014),
      ((fun k => Instr.reclaim k), 0o015), ((fun k => Instr.slotUnwrap k), 0o021), ((fun k => Instr.slotWrap k), 0o022),
      ((fun k => Instr.slotDerive k), 0o023), ((fun k => Instr.slotInfo k), 0o025)] → ∀ key j a (s : State),
    s.job key = some j → j.st = .running → j.opcode = row.2 → s.jobStruck key j = some a →
    exec (row.1 key) s = .next ((s.storeUe a).fail key j S.deviceFault)) ∧
  (∀ key a (s : State), s.struckIn (2 ^ 42) 1 = some a → exec (.jobPlace key) s = .next (s.tableUe a)) ∧
  (∀ n a v (s : State), a = 2 ^ 40 + n → v = (State.slot s n) → s.storeUe a = State.detect (State.latchUe (State.setSlot
    { s with diag := s.diag.written a 1 } n { v with key := 0, attr1 := putBits v.attr1 8 7 2 }) 0 3 false) 7)
end

