-- ==== Sys2Proof/Laws/Aes.lean ====
section
/-! SUPPORT. AES decryption undoes encryption, and a key unwraps what it has wrapped. -/
namespace Sys2Proof.Machine

/-! ### The round functions -/

theorem invSbox_sbox : ∀ x, invSbox (sbox x) = x := by decide +kernel

theorem xtime_xor (x y : Octet) : xtime (x ^^^ y) = xtime x ^^^ xtime y := by
  simp only [xtime, tb, BitVec.getLsbD_xor, BitVec.shiftLeft_xor_distrib]
  have h : ∀ a b c : Octet, a ^^^ c ^^^ (b ^^^ c) = a ^^^ b := by
    intro a b c
    rw [show a ^^^ c ^^^ (b ^^^ c) = a ^^^ b ^^^ (c ^^^ c) by ac_rfl]
    simp
  rcases Bool.eq_false_or_eq_true (x.getLsbD 7) with hx | hx <;> rcases Bool.eq_false_or_eq_true (y.getLsbD 7) with hy | hy <;>
    simp only [hx, hy, h, Bool.xor_self, Bool.xor_false, Bool.xor_true, Bool.not_false, Bool.not_true, if_true, if_false,
      Bool.false_eq_true, reduceIte] <;> ac_rfl

theorem gmul_xor (k : Nat) (x y : Octet) : gmul k (x ^^^ y) = gmul k x ^^^ gmul k y := by
  simp only [gmul, xtime_xor]
  cases k.testBit 0 <;> cases k.testBit 1 <;> cases k.testBit 2 <;> cases k.testBit 3 <;> simp <;> ac_rfl

theorem mix_same : ∀ x, gmul 14 (gmul 2 x) ^^^ gmul 11 (gmul 1 x) ^^^ gmul 13 (gmul 1 x) ^^^ gmul 9 (gmul 3 x) = x := by
  decide +kernel
theorem mix_one : ∀ x, gmul 14 (gmul 3 x) ^^^ gmul 11 (gmul 2 x) ^^^ gmul 13 (gmul 1 x) ^^^ gmul 9 (gmul 1 x) = 0 := by
  decide +kernel
theorem mix_two : ∀ x, gmul 14 (gmul 1 x) ^^^ gmul 11 (gmul 3 x) ^^^ gmul 13 (gmul 2 x) ^^^ gmul 9 (gmul 1 x) = 0 := by
  decide +kernel
theorem mix_three : ∀ x, gmul 14 (gmul 1 x) ^^^ gmul 11 (gmul 1 x) ^^^ gmul 13 (gmul 3 x) ^^^ gmul 9 (gmul 2 x) = 0 := by
  decide +kernel

/-- One octet of InvMixColumns after MixColumns. -/
theorem mix_octet (w x y z : Octet) :
    gmul 14 (gmul 2 w ^^^ gmul 3 x ^^^ gmul 1 y ^^^ gmul 1 z) ^^^ gmul 11 (gmul 1 w ^^^ gmul 2 x ^^^ gmul 3 y ^^^ gmul 1 z) ^^^
      gmul 13 (gmul 1 w ^^^ gmul 1 x ^^^ gmul 2 y ^^^ gmul 3 z) ^^^ gmul 9 (gmul 3 w ^^^ gmul 1 x ^^^ gmul 1 y ^^^ gmul 2 z) = w := by
  have h : gmul 14 (gmul 2 w ^^^ gmul 3 x ^^^ gmul 1 y ^^^ gmul 1 z) ^^^ gmul 11 (gmul 1 w ^^^ gmul 2 x ^^^ gmul 3 y ^^^ gmul 1 z) ^^^
      gmul 13 (gmul 1 w ^^^ gmul 1 x ^^^ gmul 2 y ^^^ gmul 3 z) ^^^ gmul 9 (gmul 3 w ^^^ gmul 1 x ^^^ gmul 1 y ^^^ gmul 2 z) =
      (gmul 14 (gmul 2 w) ^^^ gmul 11 (gmul 1 w) ^^^ gmul 13 (gmul 1 w) ^^^ gmul 9 (gmul 3 w)) ^^^
      (gmul 14 (gmul 3 x) ^^^ gmul 11 (gmul 2 x) ^^^ gmul 13 (gmul 1 x) ^^^ gmul 9 (gmul 1 x)) ^^^
      (gmul 14 (gmul 1 y) ^^^ gmul 11 (gmul 3 y) ^^^ gmul 13 (gmul 2 y) ^^^ gmul 9 (gmul 1 y)) ^^^
      (gmul 14 (gmul 1 z) ^^^ gmul 11 (gmul 1 z) ^^^ gmul 13 (gmul 3 z) ^^^ gmul 9 (gmul 2 z)) := by
    simp only [gmul_xor]
    ac_rfl
  rw [h, mix_same, mix_one, mix_two, mix_three]
  simp

theorem mixCol_inv (w x y z : Octet) : mixCol 14 11 13 9 (mixCol 2 3 1 1 [w, x, y, z]) = [w, x, y, z] := by
  have e1 := mix_octet x y z w
  have e2 := mix_octet y z w x
  have e3 := mix_octet z w x y
  simp only [gmul_xor] at e1 e2 e3
  simp only [mixCol, List.cons.injEq, and_true]
  refine ⟨mix_octet w x y z, ?_, ?_, ?_⟩
  · simp only [gmul_xor]
    exact Eq.trans (by ac_rfl) e1
  · simp only [gmul_xor]
    exact Eq.trans (by ac_rfl) e2
  · simp only [gmul_xor]
    exact Eq.trans (by ac_rfl) e3

theorem xorO_length (a b : List Octet) : (xorO a b).length = min a.length b.length := by simp [xorO]

theorem xorO_xorO {a b : List Octet} (h : a.length ≤ b.length) : xorO (xorO a b) b = a := by
  induction a generalizing b with
  | nil => simp [xorO]
  | cons x a ih =>
    cases b with
    | nil => simp at h
    | cons y b =>
      have := @ih b (by simpa using h)
      simp only [xorO, List.zipWith_cons_cons, List.cons.injEq] at this ⊢
      exact ⟨by rw [BitVec.xor_assoc]; simp, this⟩

/-- The sixteen octets of a state. -/
theorem sixteen {s : List Octet} (h : s.length = 16) : ∃ a b c d e f g i j k l m n o p q, s = [a, b, c, d, e, f, g, i, j, k, l, m, n, o, p, q] := by
  match s, h with
  | [a, b, c, d, e, f, g, i, j, k, l, m, n, o, p, q], _ => exact ⟨a, b, c, d, e, f, g, i, j, k, l, m, n, o, p, q, rfl⟩

theorem mixCols_inv {s : List Octet} (h : s.length = 16) : mixCols 14 11 13 9 (mixCols 2 3 1 1 s) = s := by
  obtain ⟨a, b, c, d, e, f, g, i, j, k, l, m, n, o, p, q, rfl⟩ := sixteen h
  have h1 := mixCol_inv a b c d
  have h2 := mixCol_inv e f g i
  have h3 := mixCol_inv j k l m
  have h4 := mixCol_inv n o p q
  simp only [mixCol] at h1 h2 h3 h4
  simp only [mixCols, mixCol, List.take, List.drop, List.cons_append, List.nil_append, h1, h2, h3, h4]

theorem shiftRows_inv {s : List Octet} (h : s.length = 16) : (invShiftRows (shiftRows (s.map sbox))).map invSbox = s := by
  obtain ⟨a, b, c, d, e, f, g, i, j, k, l, m, n, o, p, q, rfl⟩ := sixteen h
  simp [invShiftRows, shiftRows, permute, invSbox_sbox]

theorem shiftRows_length (s : List Octet) : (shiftRows s).length = 16 := rfl

theorem mixCols_length {a b c d : Nat} {s : List Octet} (h : s.length = 16) : (mixCols a b c d s).length = 16 := by
  obtain ⟨a, b, c, d, e, f, g, i, j, k, l, m, n, o, p, q, rfl⟩ := sixteen h
  rfl

/-! ### The cipher -/

/-- One more inverse round. -/
theorem decRounds_snoc (l : List (List Octet)) (k k0 t : List Octet) : decRounds (l ++ [k] ++ [k0]) t =
    xorO ((invShiftRows (mixCols 14 11 13 9 (decRounds (l ++ [k]) t))).map invSbox) k0 := by
  induction l generalizing t with
  | nil => rfl
  | cons x l ih =>
    cases l with
    | nil => exact ih _
    | cons y l => exact ih _

theorem encRounds_length {ks : List (List Octet)} {s : List Octet} (hk : ∀ k ∈ ks, k.length = 16) (hs : s.length = 16) :
    (encRounds ks s).length = 16 := by
  induction ks generalizing s with
  | nil => exact hs
  | cons k r ih =>
    have h := hk k (by simp)
    cases r with
    | nil => simp [encRounds, xorO_length, shiftRows_length, h]
    | cons j r =>
      exact ih (fun k m => hk k (by simp [m])) (by simp [xorO_length, mixCols_length (shiftRows_length _), h])

theorem decRounds_inv (k0 : List Octet) (h0 : k0.length = 16) (k : List Octet) (r : List (List Octet)) (s : List Octet)
    (hk : ∀ x ∈ k :: r, x.length = 16) (hs : s.length = 16) :
    decRounds ((k :: r).reverse.tail ++ [k0]) (xorO (encRounds (k :: r) s) ((k :: r).reverse.headD [])) = xorO s k0 := by
  induction r generalizing k k0 s with
  | nil =>
    have h := hk k (by simp)
    simp only [List.reverse_singleton, List.tail_cons, List.nil_append, encRounds, decRounds, List.headD_cons]
    rw [xorO_xorO (by rw [shiftRows_length, h]), shiftRows_inv hs]
  | cons j r ih =>
    have h := hk k (by simp)
    have l := mixCols_length (a := 2) (b := 3) (c := 1) (d := 1) (shiftRows_length (s.map sbox))
    have ih := ih k h j (xorO (mixCols 2 3 1 1 (shiftRows (s.map sbox))) k) (fun x m => hk x (by simp [m]))
      (by simp [xorO_length, l, h])
    have e : (k :: j :: r).reverse = (j :: r).reverse ++ [k] := by simp
    have n : (j :: r).reverse ≠ [] := by simp
    rw [xorO_xorO (by rw [l, h])] at ih
    rw [e, List.tail_append_of_ne_nil n, decRounds_snoc]
    have d : ((j :: r).reverse ++ [k]).headD [] = (j :: r).reverse.headD [] := by
      cases q : (j :: r).reverse with
      | nil => exact absurd q n
      | cons _ _ => rfl
    rw [d, show encRounds (k :: j :: r) s = encRounds (j :: r) (xorO (mixCols 2 3 1 1 (shiftRows (s.map sbox))) k) from rfl, ih,
      mixCols_inv (shiftRows_length _), shiftRows_inv hs]

/-- A block decrypts to what it encrypts, under two or more round keys of sixteen octets. -/
theorem decBlk_encBlk {ks : List (List Octet)} {b : List Octet} (hn : 2 ≤ ks.length) (hk : ∀ k ∈ ks, k.length = 16)
    (hb : b.length = 16) : decBlk ks (encBlk ks b) = b := by
  match ks, hn with
  | k0 :: k :: r, _ =>
    have h0 := hk k0 (by simp)
    have h := decRounds_inv k0 h0 k r (xorO b k0) (fun x m => hk x (by simp [m])) (by simp [xorO_length, hb, h0])
    rw [xorO_xorO (by rw [hb, h0])] at h
    rw [decBlk, encBlk, show (k0 :: k :: r).reverse = (k :: r).reverse ++ [k0] by simp]
    cases q : (k :: r).reverse with
    | nil => simp at q
    | cons x y => rw [q] at h; exact h

theorem encBlk_length {ks : List (List Octet)} {b : List Octet} (hk : ∀ k ∈ ks, k.length = 16) (hb : b.length = 16) :
    (encBlk ks b).length = 16 := by
  cases ks with
  | nil => exact hb
  | cons k r => exact encRounds_length (fun x m => hk x (by simp [m])) (by simp [xorO_length, hb, hk k (by simp)])

/-! ### The key schedule -/

theorem expandKey_words (nk n i : Nat) (rc : Octet) (acc : List (List Octet)) (h0 : 0 < nk) (hn : nk ≤ acc.length)
    (ha : ∀ w ∈ acc, w.length = 4) :
    (expandKey nk n i rc acc).length = n + acc.length ∧ ∀ w ∈ expandKey nk n i rc acc, w.length = 4 := by
  induction n generalizing i rc acc with
  | zero => exact ⟨by simp [expandKey], ha⟩
  | succ n ih =>
    have hd : (acc.headD []).length = 4 := by
      cases acc with
      | nil => simp at hn; omega
      | cons x _ => exact ha x (by simp)
    have hg : (acc.getD (nk - 1) []).length = 4 := by
      have l : nk - 1 < acc.length := by omega
      rw [List.getD_eq_getElem _ _ l]
      exact ha _ (List.getElem_mem l)
    have key : ∀ rc' (t : List Octet), t.length = 4 →
        (expandKey nk n (i + 1) rc' (xorO (acc.getD (nk - 1) []) t :: acc)).length = n + 1 + acc.length ∧
          ∀ w ∈ expandKey nk n (i + 1) rc' (xorO (acc.getD (nk - 1) []) t :: acc), w.length = 4 := by
      intro rc' t ht
      have r := ih (i + 1) rc' (xorO (acc.getD (nk - 1) []) t :: acc) (by simp; omega) (by
        intro w m
        rcases List.mem_cons.mp m with rfl | m
        · rw [xorO_length, hg, ht]; rfl
        · exact ha w m)
      exact ⟨by rw [r.1, List.length_cons]; omega, r.2⟩
    rw [expandKey]
    apply key
    split
    · split
      · rfl
      · exact hd
    · split
      · rw [List.length_map]; exact hd
      · exact hd

theorem roundKeys_length (l : List (List Octet)) (h : ∀ w ∈ l, w.length = 4) :
    (roundKeys l).length = l.length / 4 ∧ ∀ k ∈ roundKeys l, k.length = 16 := by
  induction l using roundKeys.induct with
  | case1 a b c d r ih =>
    have ih := ih (fun w m => h w (by simp [m]))
    refine ⟨by simp only [roundKeys, List.length_cons, ih.1]; omega, ?_⟩
    intro k m
    rcases List.mem_cons.mp m with rfl | m
    · simp [h a (by simp), h b (by simp), h c (by simp), h d (by simp)]
    · exact ih.2 k m
  | case2 t x =>
    have l : t.length < 4 := by
      match t, x with
      | [], _ => simp
      | [_], _ => simp
      | [_, _], _ => simp
      | [_, _, _], _ => simp
      | a :: b :: c :: d :: r, x => exact absurd rfl (x a b c d r)
    have e : roundKeys t = [] := by
      match t, l with
      | [], _ => rfl
      | [_], _ => rfl
      | [_, _], _ => rfl
      | [_, _, _], _ => rfl
    rw [e]
    exact ⟨by simp; omega, by simp⟩

theorem quads_length (l : List Octet) : (quads l).length = l.length / 4 ∧ ∀ w ∈ quads l, w.length = 4 := by
  induction l using quads.induct with
  | case1 a b c d r ih =>
    refine ⟨by simp only [quads, List.length_cons, ih.1]; omega, ?_⟩
    intro k m
    rcases List.mem_cons.mp m with rfl | m
    · rfl
    · exact ih.2 k m
  | case2 t x =>
    have l : t.length < 4 := by
      match t, x with
      | [], _ => simp
      | [_], _ => simp
      | [_, _], _ => simp
      | [_, _, _], _ => simp
      | a :: b :: c :: d :: r, x => exact absurd rfl (x a b c d r)
    have e : quads t = [] := by
      match t, l with
      | [], _ => rfl
      | [_], _ => rfl
      | [_, _], _ => rfl
      | [_, _, _], _ => rfl
    rw [e]
    exact ⟨by simp; omega, by simp⟩

/-- The round keys of a key of four octets or more. -/
theorem aesSchedule_words (key : List Octet) (h : 4 ≤ key.length) :
    2 ≤ (aesSchedule key).length ∧ ∀ k ∈ aesSchedule key, k.length = 16 := by
  have q := quads_length key
  have e := expandKey_words (key.length / 4) (4 * (key.length / 4 + 7) - key.length / 4) (key.length / 4) 1 (quads key).reverse
    (by omega) (by simp [q.1]) (by simpa using q.2)
  have r := roundKeys_length _ (fun w m => e.2 w (List.mem_reverse.mp m))
  refine ⟨?_, r.2⟩
  rw [aesSchedule, r.1, List.length_reverse, e.1, List.length_reverse, q.1]
  omega

/-! ### Key wrap -/

theorem beOctets_length (n v : Nat) : (beOctets n v).length = n := by
  induction n with
  | zero => rfl
  | succ n ih => simp [beOctets, ih]

theorem kwUnstep_kwStep {ks : List (List Octet)} (hn : 2 ≤ ks.length) (hk : ∀ k ∈ ks, k.length = 16) {a : List Octet}
    {r : List (List Octet)} (t : Nat) (ha : a.length = 8) (hr : ∀ x ∈ r, x.length = 8) :
    kwUnstep ks (kwStep ks a r t).1 (kwStep ks a r t).2 t = (a, r) ∧ (kwStep ks a r t).1.length = 8 ∧
      (∀ x ∈ (kwStep ks a r t).2, x.length = 8) ∧ (kwStep ks a r t).2.length = r.length := by
  cases r with
  | nil => exact ⟨rfl, ha, by simp [kwStep], rfl⟩
  | cons x rest =>
    have hx := hr x (by simp)
    have l := encBlk_length hk (b := a ++ x) (by simp [ha, hx])
    refine ⟨?_, by simp [kwStep, xorO_length, beOctets_length, l], ?_, by simp [kwStep]⟩
    · simp only [kwStep, kwUnstep, List.reverse_append, List.reverse_singleton, List.singleton_append, List.reverse_reverse]
      rw [xorO_xorO (by simp [beOctets_length]), List.take_append_drop, decBlk_encBlk hn hk (by simp [ha, hx])]
      simp [ha]
    · intro y m
      simp only [kwStep, List.mem_append, List.mem_singleton] at m
      rcases m with m | rfl
      · exact hr y (by simp [m])
      · simp [l]

theorem kwUnloop_kwLoop {ks : List (List Octet)} (hn : 2 ≤ ks.length) (hk : ∀ k ∈ ks, k.length = 16) (n t : Nat) (ht : 0 < t)
    {a : List Octet} {r : List (List Octet)} (ha : a.length = 8) (hr : ∀ x ∈ r, x.length = 8) :
    kwUnloop ks (t - 1 + n) (kwLoop ks n t a r).1 (kwLoop ks n t a r).2 = kwUnloop ks (t - 1) a r ∧
      (kwLoop ks n t a r).1.length = 8 ∧ (∀ x ∈ (kwLoop ks n t a r).2, x.length = 8) ∧
      (kwLoop ks n t a r).2.length = r.length := by
  induction n generalizing t a r with
  | zero => exact ⟨rfl, ha, hr, rfl⟩
  | succ n ih =>
    have s := kwUnstep_kwStep hn hk t ha hr
    have i := ih (t + 1) (by omega) s.2.1 s.2.2.1
    obtain ⟨t, rfl⟩ : ∃ u, t = u + 1 := ⟨t - 1, by omega⟩
    simp only [Nat.add_sub_cancel] at i ⊢
    refine ⟨?_, i.2.1, i.2.2.1, by rw [← s.2.2.2]; exact i.2.2.2⟩
    rw [show t + (n + 1) = t + 1 + n by omega, show kwLoop ks (n + 1) (t + 1) a r =
      kwLoop ks n (t + 1 + 1) (kwStep ks a r (t + 1)).1 (kwStep ks a r (t + 1)).2 from rfl, i.1, kwUnloop, s.1]

theorem chunksF_flatten (n : Nat) (hn : 0 < n) (l : List (List Octet)) (h : ∀ x ∈ l, x.length = n) (f : Nat) (hf : l.length ≤ f) :
    chunksF n f l.flatten = l := by
  induction l generalizing f with
  | nil => cases f <;> rfl
  | cons x l ih =>
    have hx := h x (by simp)
    cases f with
    | zero => simp at hf
    | succ f =>
      rw [chunksF, if_neg (by cases x <;> simp_all <;> omega)]
      simp only [List.flatten_cons]
      rw [← hx, List.take_left, List.drop_left, hx, ih (fun y m => h y (by simp [m])) f (by simpa using hf)]

theorem flatten_length (n : Nat) (l : List (List Octet)) (h : ∀ x ∈ l, x.length = n) : l.flatten.length = n * l.length := by
  induction l with
  | nil => simp
  | cons x l ih => simp [ih (fun y m => h y (by simp [m])), h x (by simp)]; ring

theorem chunks_flatten (n : Nat) (hn : 0 < n) (l : List (List Octet)) (h : ∀ x ∈ l, x.length = n) : chunks n l.flatten = l :=
  chunksF_flatten n hn l h _ (by rw [flatten_length n l h]; nlinarith)

/-- A key of four octets or more unwraps what it has wrapped. -/
theorem kwUnwrapIv_kwWrapIv (key iv : List Octet) (r : List (List Octet)) (hk : 4 ≤ key.length) (hi : iv.length = 8)
    (hr : ∀ x ∈ r, x.length = 8) : kwUnwrapIv key (kwWrapIv key iv r.flatten) = (iv, r.flatten) := by
  have w := aesSchedule_words key hk
  have u := kwUnloop_kwLoop w.1 w.2 (6 * r.length) 1 (by omega) hi hr
  simp only [Nat.sub_self, Nat.zero_add] at u
  simp only [kwUnwrapIv, kwWrapIv, chunks_flatten 8 (by omega) r hr]
  rw [List.take_left' u.2.1, List.drop_left' u.2.1, chunks_flatten 8 (by omega) _ u.2.2.1, u.2.2.2, u.1, kwUnloop]

theorem kwWrapIv_length (key iv : List Octet) (r : List (List Octet)) (hk : 4 ≤ key.length) (hi : iv.length = 8)
    (hr : ∀ x ∈ r, x.length = 8) : (kwWrapIv key iv r.flatten).length = 8 + 8 * r.length := by
  have w := aesSchedule_words key hk
  have u := kwUnloop_kwLoop w.1 w.2 (6 * r.length) 1 (by omega) hi hr
  simp only [kwWrapIv, chunks_flatten 8 (by omega) r hr, List.length_append]
  rw [u.2.1, flatten_length 8 _ u.2.2.1, u.2.2.2]

/-- A string of whole semiblocks. -/
theorem semiblocks (m : Nat) (l : List Octet) (h : l.length = 8 * m) :
    ∃ r : List (List Octet), r.flatten = l ∧ (∀ x ∈ r, x.length = 8) ∧ r.length = m := by
  induction m generalizing l with
  | zero => exact ⟨[], by simpa using (List.length_eq_zero_iff.mp h).symm, by simp, rfl⟩
  | succ m ih =>
    obtain ⟨r, e, a, n⟩ := ih (l.drop 8) (by simp; omega)
    refine ⟨l.take 8 :: r, by simp [e], ?_, by simp [n]⟩
    intro x hx
    rcases List.mem_cons.mp hx with rfl | hx
    · simp; omega
    · exact a x hx

theorem beNat_beOctets (n v : Nat) : beNat (beOctets n v) = v % 256 ^ n := by
  have f : ∀ (l : List Octet) a, l.foldl (fun a o => a * 256 + o.toNat) a = a * 256 ^ l.length + beNat l := by
    intro l
    induction l with
    | nil => intro a; simp [beNat]
    | cons o l ih =>
      intro a
      have e : beNat (o :: l) = (0 * 256 + o.toNat) * 256 ^ l.length + beNat l := ih _
      rw [List.foldl_cons, ih, e, List.length_cons, Nat.pow_succ]
      ring
  induction n with
  | zero => simp [beOctets, beNat, Nat.mod_one]
  | succ n ih =>
    have e : beNat (BitVec.ofNat 8 (v / 256 ^ n) :: beOctets n v) =
      (0 * 256 + (BitVec.ofNat 8 (v / 256 ^ n)).toNat) * 256 ^ (beOctets n v).length + beNat (beOctets n v) :=
        f (beOctets n v) (0 * 256 + (BitVec.ofNat 8 (v / 256 ^ n)).toNat)
    rw [beOctets, e, ih, beOctets_length, BitVec.toNat_ofNat, show 256 ^ (n + 1) = 256 ^ n * 256 from Nat.pow_succ .., @Nat.mod_mul (256 ^ n) 256 v, show 2 ^ 8 = 256 from rfl]
    ring

/-- A key of four octets or more unwraps the string of nine octets or more that it has wrapped. -/
theorem kwpUnwrap_kwpWrap (key p : List Octet) (hk : 4 ≤ key.length) (h : 8 < p.length) (hl : p.length < 2 ^ 32) :
    kwpUnwrap key (kwpWrap key p) = some p := by
  have hp : (p ++ zeros ((8 - p.length % 8) % 8)).length = 8 * ((p.length + 7) / 8) := by simp [zeros]; omega
  obtain ⟨r, e, a, n⟩ := semiblocks _ _ hp
  have li : (kwpIv p.length).length = 8 := by simp [kwpIv, beOctets_length]
  have w : kwpWrap key p = kwWrapIv key (kwpIv p.length) r.flatten := by
    rw [kwpWrap, e, if_neg (by rw [hp]; omega)]
  have lw := kwWrapIv_length key (kwpIv p.length) r hk li a
  rw [kwpUnwrap, w, if_neg (by rw [lw, n]; omega), kwUnwrapIv_kwWrapIv key _ r hk li a, e]
  have d : beNat ((kwpIv p.length).drop 4) = p.length := by
    rw [show (kwpIv p.length).drop 4 = beOctets 4 p.length from rfl, beNat_beOctets]
    exact Nat.mod_eq_of_lt (by omega)
  simp only [d]
  rw [if_pos ⟨rfl, by simp, by rw [hp]; omega, by simp [zeros]⟩]
  simp

theorem kwpWrap_length (key p : List Octet) (hk : 4 ≤ key.length) (h : 8 < p.length) :
    (kwpWrap key p).length = 8 + 8 * ((p.length + 7) / 8) := by
  have hp : (p ++ zeros ((8 - p.length % 8) % 8)).length = 8 * ((p.length + 7) / 8) := by simp [zeros]; omega
  obtain ⟨r, e, a, n⟩ := semiblocks _ _ hp
  have w : kwpWrap key p = kwWrapIv key (kwpIv p.length) r.flatten := by
    rw [kwpWrap, e, if_neg (by rw [hp]; omega)]
  rw [w, kwWrapIv_length key _ r hk (by simp [kwpIv, beOctets_length]) a, n]

theorem kwWrapIv_length' (key iv p : List Octet) (m : Nat) (hk : 4 ≤ key.length) (hi : iv.length = 8) (hm : p.length = 8 * m) :
    (kwWrapIv key iv p).length = 8 + 8 * m := by
  obtain ⟨r, rfl, a, n⟩ := semiblocks m p hm
  rw [kwWrapIv_length key iv r hk hi a, n]

/-- What is wrapped under another initial value does not unwrap. -/
theorem kwpUnwrap_none (key iv p : List Octet) (m : Nat) (hk : 4 ≤ key.length) (hi : iv.length = 8) (hm : p.length = 8 * m)
    (h2 : 2 ≤ m) (hn : iv.take 4 ≠ [0xA6, 0x59, 0x59, 0xA6]) : kwpUnwrap key (kwWrapIv key iv p) = none := by
  obtain ⟨r, rfl, a, n⟩ := semiblocks m p hm
  have lw := kwWrapIv_length key iv r hk hi a
  rw [kwpUnwrap, if_neg (by rw [lw, n]; omega), kwUnwrapIv_kwWrapIv key _ r hk hi a]
  exact if_neg (fun h => hn h.1)

theorem kwUnwrap_kwWrapIv (key iv p : List Octet) (m : Nat) (hk : 4 ≤ key.length) (hi : iv.length = 8) (hm : p.length = 8 * m) :
    kwUnwrap key (kwWrapIv key iv p) = if iv = List.replicate 8 0xA6 then some p else none := by
  obtain ⟨r, rfl, a, _⟩ := semiblocks m p hm
  rw [kwUnwrap, kwUnwrapIv_kwWrapIv key iv r hk hi a]

end Sys2Proof.Machine
end

