-- ==== Sys2Proof/Laws/Map.lean ====
section
/-! SUPPORT. The laws of sparse tables: what a key reads after each operation, and that each operation keeps the canonical
form. -/
namespace Sys2Proof.Machine
variable {α : Type} {d : Nat → α}

@[simp] theorem Map.get_nil (k : Nat) : Map.get d [] k = d k := rfl

/-- A key dropped reads the default, every other one as before. -/
theorem Map.get_del (m : Map α) (k k' : Nat) : Map.get d (Map.del m k) k' = if k' = k then d k' else Map.get d m k' := by
  induction m with
  | nil => simp [Map.del]
  | cons e r ih =>
    obtain ⟨a, v⟩ := e
    simp only [Map.del, Map.get]
    by_cases h : a = k
    · subst h; rw [if_pos rfl, ih]
      by_cases h2 : k' = a
      · simp [h2]
      · simp [h2, Ne.symm h2]
    · rw [if_neg h]; simp only [Map.get, ih]
      by_cases h2 : a = k'
      · subst h2; simp [h]
      · simp [h2]

theorem Map.get_ins (m : Map α) (k k' : Nat) (v : α) (hn : ∀ p ∈ m, p.1 ≠ k) :
    Map.get d (Map.ins m k v) k' = if k' = k then v else Map.get d m k' := by
  induction m with
  | nil => simp only [Map.ins, Map.get, eq_comm (a := k)]
  | cons e r ih =>
    obtain ⟨a, w⟩ := e
    have ha : a ≠ k := hn (a, w) (by simp)
    have hr : ∀ p ∈ r, p.1 ≠ k := fun p hp => hn p (by simp [hp])
    simp only [Map.ins]
    by_cases hlt : k < a
    · rw [if_pos hlt]; simp only [Map.get]
      by_cases h2 : k' = k
      · simp [h2]
      · rw [if_neg (Ne.symm h2), if_neg h2]
    · rw [if_neg hlt]; simp only [Map.get]
      rw [ih hr]
      by_cases h2 : a = k'
      · subst h2; simp [ha]
      · simp [h2]

theorem Map.del_ne (m : Map α) (k : Nat) : ∀ p ∈ Map.del m k, p.1 ≠ k := by
  induction m with
  | nil => simp [Map.del]
  | cons e r ih =>
    obtain ⟨a, v⟩ := e
    simp only [Map.del]
    by_cases h : a = k
    · rw [if_pos h]; exact ih
    · rw [if_neg h]; intro p hp
      rcases List.mem_cons.1 hp with rfl | hp
      · exact h
      · exact ih p hp

/-- A read after a write gives the value written; every other key reads as before. -/
@[simp] theorem Map.get_put [DecidableEq α] (m : Map α) (k k' : Nat) (v : α) :
    Map.get d (Map.put d m k v) k' = if k' = k then v else Map.get d m k' := by
  unfold Map.put
  by_cases h : v = d k
  · rw [if_pos h, Map.get_del]; by_cases h2 : k' = k <;> simp [h2, h]
  · rw [if_neg h, Map.get_ins _ _ _ _ (Map.del_ne m k), Map.get_del]
    by_cases h2 : k' = k <;> simp [h2]

/-- Keys that the predicate drops read the default. -/
theorem Map.get_keep (f : Nat → Bool) (m : Map α) (k : Nat) :
    Map.get d (Map.keep f m) k = if f k then Map.get d m k else d k := by
  induction m with
  | nil => simp [Map.keep]
  | cons e r ih =>
    obtain ⟨a, v⟩ := e
    simp only [Map.keep]
    by_cases h : f a = true
    · rw [if_pos h]; simp only [Map.get]
      by_cases h2 : a = k
      · subst h2; simp [h]
      · simp [h2, ih]
    · rw [if_neg h, ih]; simp only [Map.get]
      by_cases h2 : a = k
      · subst h2; simp [h]
      · simp [h2]

/-- Keys outside a written run read as before. -/
theorem Map.get_putList_off [DecidableEq α] (l : List α) (m : Map α) (k k' : Nat) (h : k' < k ∨ k + l.length ≤ k') :
    Map.get d (Map.putList d m k l) k' = Map.get d m k' := by
  induction l generalizing m k with
  | nil => rfl
  | cons v r ih =>
    simp only [Map.putList]
    simp only [List.length_cons] at h
    rw [ih _ _ (by omega), Map.get_put, if_neg (by omega)]

/-- Keys of a written run read the values written. -/
theorem Map.get_putList_in [DecidableEq α] (l : List α) (m : Map α) (k i : Nat) (h : i < l.length) :
    Map.get d (Map.putList d m k l) (k + i) = l[i] := by
  induction l generalizing m k i with
  | nil => simp at h
  | cons v r ih =>
    simp only [Map.putList]
    cases i with
    | zero => rw [Map.get_putList_off _ _ _ _ (by omega)]; simp
    | succ n =>
      have := ih (Map.put d m k v) (k + 1) n (by simpa using h)
      rw [show k + (n + 1) = k + 1 + n by omega, this]; simp

/-! ### The canonical form -/

/-- Every key of a table is above `lo`. -/
def Map.above (lo : Option Nat) (m : Map α) : Prop := ∀ l ∈ lo, ∀ p ∈ m, l < p.1

theorem Map.sorted_cons (lo : Option Nat) (k : Nat) (v : α) (r : Map α) :
    Map.sorted lo ((k, v) :: r) = true ↔ (∀ l ∈ lo, l < k) ∧ Map.sorted (some k) r = true := by
  cases lo <;> simp [Map.sorted]

theorem Map.sorted_mono {lo lo' : Option Nat} {m : Map α} (h : Map.sorted lo m = true)
    (hl : ∀ l' ∈ lo', ∃ l ∈ lo, l' ≤ l) : Map.sorted lo' m = true := by
  cases m with
  | nil => cases lo' <;> rfl
  | cons e r =>
    obtain ⟨k, v⟩ := e
    rw [Map.sorted_cons] at h ⊢
    refine ⟨fun l' hl' => ?_, h.2⟩
    obtain ⟨l, h1, h2⟩ := hl l' hl'
    exact Nat.lt_of_le_of_lt h2 (h.1 l h1)

theorem Map.sorted_del {lo : Option Nat} {m : Map α} (k : Nat) (h : Map.sorted lo m = true) :
    Map.sorted lo (Map.del m k) = true := by
  induction m generalizing lo with
  | nil => exact h
  | cons e r ih =>
    obtain ⟨a, v⟩ := e
    rw [Map.sorted_cons] at h
    simp only [Map.del]
    by_cases h2 : a = k
    · rw [if_pos h2]
      exact Map.sorted_mono (ih h.2) (fun l hl => ⟨a, rfl, Nat.le_of_lt (h.1 l hl)⟩)
    · rw [if_neg h2, Map.sorted_cons]; exact ⟨h.1, ih h.2⟩

theorem Map.sorted_ins {lo : Option Nat} {m : Map α} (k : Nat) (v : α) (h : Map.sorted lo m = true)
    (hk : ∀ l ∈ lo, l < k) (hn : ∀ p ∈ m, p.1 ≠ k) : Map.sorted lo (Map.ins m k v) = true := by
  induction m generalizing lo with
  | nil => simp only [Map.ins, Map.sorted_cons]; exact ⟨hk, rfl⟩
  | cons e r ih =>
    obtain ⟨a, w⟩ := e
    rw [Map.sorted_cons] at h
    have ha : a ≠ k := hn (a, w) (by simp)
    simp only [Map.ins]
    by_cases hlt : k < a
    · rw [if_pos hlt, Map.sorted_cons]; refine ⟨hk, ?_⟩
      rw [Map.sorted_cons]; exact ⟨by simpa using hlt, h.2⟩
    · rw [if_neg hlt, Map.sorted_cons]
      refine ⟨h.1, ih h.2 ?_ (fun p hp => hn p (by simp [hp]))⟩
      simp; omega

theorem Map.sorted_keep {lo : Option Nat} {m : Map α} (f : Nat → Bool) (h : Map.sorted lo m = true) :
    Map.sorted lo (Map.keep f m) = true := by
  induction m generalizing lo with
  | nil => exact h
  | cons e r ih =>
    obtain ⟨a, v⟩ := e
    rw [Map.sorted_cons] at h
    simp only [Map.keep]
    by_cases h2 : f a = true
    · rw [if_pos h2, Map.sorted_cons]; exact ⟨h.1, ih h.2⟩
    · rw [if_neg h2]
      exact Map.sorted_mono (ih h.2) (fun l hl => ⟨a, rfl, Nat.le_of_lt (h.1 l hl)⟩)

theorem Map.mem_del {m : Map α} {k : Nat} {p : Nat × α} (h : p ∈ Map.del m k) : p ∈ m := by
  induction m with
  | nil => exact h
  | cons e r ih =>
    obtain ⟨a, v⟩ := e
    simp only [Map.del] at h
    by_cases h2 : a = k
    · rw [if_pos h2] at h; exact List.mem_cons_of_mem _ (ih h)
    · rw [if_neg h2] at h
      rcases List.mem_cons.1 h with rfl | h
      · simp
      · exact List.mem_cons_of_mem _ (ih h)

theorem Map.mem_keep {m : Map α} {f : Nat → Bool} {p : Nat × α} (h : p ∈ Map.keep f m) : p ∈ m := by
  induction m with
  | nil => exact h
  | cons e r ih =>
    obtain ⟨a, v⟩ := e
    simp only [Map.keep] at h
    by_cases h2 : f a = true
    · rw [if_pos h2] at h
      rcases List.mem_cons.1 h with rfl | h
      · simp
      · exact List.mem_cons_of_mem _ (ih h)
    · rw [if_neg h2] at h; exact List.mem_cons_of_mem _ (ih h)

theorem Map.mem_ins {m : Map α} {k : Nat} {v : α} {p : Nat × α} (h : p ∈ Map.ins m k v) : p = (k, v) ∨ p ∈ m := by
  induction m with
  | nil => simpa [Map.ins] using h
  | cons e r ih =>
    obtain ⟨a, w⟩ := e
    simp only [Map.ins] at h
    by_cases hlt : k < a
    · rw [if_pos hlt] at h; simpa using h
    · rw [if_neg hlt] at h
      rcases List.mem_cons.1 h with rfl | h
      · simp
      · rcases ih h with h | h
        · exact .inl h
        · exact .inr (List.mem_cons_of_mem _ h)

variable [DecidableEq α]

theorem Map.wf_iff {m : Map α} : Map.wf d m = true ↔ Map.sorted none m = true ∧ ∀ p ∈ m, p.2 ≠ d p.1 := by
  simp [Map.wf]

@[simp] theorem Map.wf_nil : Map.wf d ([] : Map α) = true := rfl

/-- A write keeps the canonical form. -/
theorem Map.wf_put {m : Map α} (k : Nat) (v : α) (h : Map.wf d m = true) : Map.wf d (Map.put d m k v) = true := by
  rw [Map.wf_iff] at h ⊢
  unfold Map.put
  by_cases hv : v = d k
  · rw [if_pos hv]; exact ⟨Map.sorted_del k h.1, fun p hp => h.2 p (Map.mem_del hp)⟩
  · rw [if_neg hv]
    refine ⟨Map.sorted_ins k v (Map.sorted_del k h.1) (by simp) (Map.del_ne m k), fun p hp => ?_⟩
    rcases Map.mem_ins hp with rfl | hp
    · exact hv
    · exact h.2 p (Map.mem_del hp)

/-- Dropping entries keeps the canonical form. -/
theorem Map.wf_keep {m : Map α} (f : Nat → Bool) (h : Map.wf d m = true) : Map.wf d (Map.keep f m) = true := by
  rw [Map.wf_iff] at h ⊢
  exact ⟨Map.sorted_keep f h.1, fun p hp => h.2 p (Map.mem_keep hp)⟩

/-- Writing a run keeps the canonical form. -/
theorem Map.wf_putList {m : Map α} (k : Nat) (l : List α) (h : Map.wf d m = true) : Map.wf d (Map.putList d m k l) = true := by
  induction l generalizing m k with
  | nil => exact h
  | cons v r ih => exact ih (k + 1) (Map.wf_put k v h)

end Sys2Proof.Machine
end

