-- ==== Sys2Proof/Laws/Kept.lean ====
section
/-! SUPPORT. What every operation of the block keeps: the queue of waiting commands, and the canonical form of the register
table, of the word memories and of the host's octets. `Kept u s` says that `s`, reached from `u`, has kept both. -/
namespace Sys2Proof.Machine

/-- The queue of `u` still waits in `s`, and `s` is canonical where `u` is. -/
def Kept (u s : State) : Prop := s.pending = u.pending ∧ (u.canonical = true → s.canonical = true)

/-- An outcome's next state has kept both. -/
def KeptO (u : State) : Host.Outcome State Fault Refusal → Prop
  | .next t => Kept u t
  | .fault _ => True
  | .refused _ => True

theorem State.canonical_iff (s : State) :
    s.canonical = true ↔ Memory.wf s.mem = true ∧ Map.wf (dflt 0) s.host = true ∧ Map.wf regReset s.regs = true := by
  simp [State.canonical, and_assoc]

@[simp ↓] theorem Kept.refl (u : State) : Kept u u := ⟨rfl, id⟩

theorem Kept.trans {u s t : State} (h : Kept u s) (h' : Kept s t) : Kept u t :=
  ⟨h'.1.trans h.1, fun c => h'.2 (h.2 c)⟩

/-- An update of any other field. -/
@[simp ↓] theorem Kept.mk {u s : State} (h : Kept u s) (bus : Bus) (evt : Events) (linkV linkF : Link) (lev : Levels)
    (queues : Map Queue) (jobs : Map (Option Job)) (lode : Lode) (net : Net) (clock : Clock) (cust : Custody) (units : Units)
    (cores : Map Core) (gates : Gates) (sluice : Sluice) (stn : Stations) (line : Line) (tamper : Tamper) (wisp : Wisp)
    (flash : Flash) (boot : Boot) (power : Power) (diag : Diag) (now fresh : Nat) :
    Kept u ⟨s.regs, s.mem, s.host, bus, evt, linkV, linkF, lev, queues, jobs, lode, net, clock, cust, units, cores, gates,
      sluice, stn, line, tamper, wisp, flash, boot, power, diag, now, fresh, s.pending⟩ := h

/-- Dropping registers. -/
theorem Kept.keepRegs {u s : State} (h : Kept u s) (f : Nat → Bool) : Kept u { s with regs := Map.keep f s.regs } := by
  refine ⟨h.1, fun c => ?_⟩
  have := h.2 c
  rw [State.canonical_iff] at this ⊢
  exact ⟨this.1, this.2.1, Map.wf_keep _ this.2.2⟩

/-- Memory lost. -/
theorem Kept.noMem {u s : State} (h : Kept u s) : Kept u { s with mem := [] } := by
  refine ⟨h.1, fun c => ?_⟩
  have := h.2 c
  rw [State.canonical_iff] at this ⊢
  exact ⟨rfl, this.2.1, this.2.2⟩

@[simp ↓] theorem Kept.ite {u a b : State} (c : Prop) [Decidable c] (ha : Kept u a) (hb : Kept u b) :
    Kept u (if c then a else b) := by
  by_cases h : c
  · rw [if_pos h]; exact ha
  · rw [if_neg h]; exact hb

@[simp ↓] theorem Kept.foldl {α : Type} {u s : State} (l : List α) (f : State → α → State) (h : Kept u s)
    (hf : ∀ t x, Kept u t → Kept u (f t x)) : Kept u (l.foldl f s) := by
  induction l generalizing s with
  | nil => exact h
  | cons x r ih => exact ih (hf _ _ h)

/-- The state a pair holds. -/
theorem Kept.fst_of {α : Type} {u s : State} {p : State × α} {a : α} (h : Kept u p.1) (e : p = (s, a)) : Kept u s := by
  subst e; exact h

theorem Kept.snd_of {α : Type} {u s : State} {p : α × State} {a : α} (h : Kept u p.2) (e : p = (a, s)) : Kept u s := by
  subst e; exact h

@[simp ↓] theorem KeptO.next {u t : State} (h : Kept u t) : KeptO u (.next t) := h
@[simp ↓] theorem KeptO.refused {u : State} (r : Refusal) : KeptO u (.refused r) := trivial

end Sys2Proof.Machine
end

