-- ==== Sys2Proof/Laws/KeptOps.lean ====
section
/-! SUPPORT. What the operations of Machine/Ops.lean keep. -/
namespace Sys2Proof.Machine

@[simp ↓] theorem kept_setReg {u s : State} (h : Kept u s) (p w : Nat) (v : Word) : Kept u (s.setReg p w v) := by
  refine ⟨h.1, fun c => ?_⟩
  have := h.2 c
  rw [State.canonical_iff] at this ⊢
  exact ⟨this.1, this.2.1, Map.wf_put _ _ this.2.2⟩

@[simp ↓] theorem kept_modReg {u : State} {s : State} (p : Nat) (w : Nat) (f : Word → Word) (h : Kept u s) :
    Kept u (s.modReg p w f) := by
  unfold State.modReg; simp (maxDischargeDepth := 99) [*]

@[simp ↓] theorem kept_setRbit {u : State} {s : State} (p : Nat) (w : Nat) (i : Nat) (b : Bool) (h : Kept u s) :
    Kept u (s.setRbit p w i b) := by
  unfold State.setRbit; simp (maxDischargeDepth := 99) [*]

@[simp ↓] theorem kept_setRfld {u : State} {s : State} (p : Nat) (w : Nat) (hi : Nat) (lo : Nat) (v : Nat) (h : Kept u s) :
    Kept u (s.setRfld p w hi lo v) := by
  unfold State.setRfld; simp (maxDischargeDepth := 99) [*]

@[simp ↓] theorem kept_setReg36 {u : State} {s : State} (p : Nat) (w : Nat) (v : DWord) (h : Kept u s) :
    Kept u (s.setReg36 p w v) := by
  unfold State.setReg36; simp (maxDischargeDepth := 99) [*]

@[simp ↓] theorem kept_inc36 {u : State} {s : State} (p : Nat) (w : Nat) (h : Kept u s) :
    Kept u (s.inc36 p w) := by
  unfold State.inc36; simp (maxDischargeDepth := 99) [*]

@[simp ↓] theorem kept_add36 {u : State} {s : State} (p : Nat) (w : Nat) (n : Nat) (h : Kept u s) :
    Kept u (s.add36 p w n) := by
  unfold State.add36; simp (maxDischargeDepth := 99) [*]

@[simp ↓] theorem kept_incSat {u : State} {s : State} (p : Nat) (w : Nat) (h : Kept u s) :
    Kept u (s.incSat p w) := by
  unfold State.incSat; simp (maxDischargeDepth := 99) [*]

@[simp ↓] theorem kept_resetPage {u s : State} (h : Kept u s) (p : Nat) (keep : Nat → Bool) : Kept u (s.resetPage p keep) := by
  refine ⟨h.1, fun c => ?_⟩
  have := h.2 c
  rw [State.canonical_iff] at this ⊢
  exact ⟨this.1, this.2.1, Map.wf_keep _ this.2.2⟩

@[simp ↓] theorem kept_setStat {u : State} {s : State} (p : Nat) (i : Nat) (b : Bool) (h : Kept u s) :
    Kept u (s.setStat p i b) := by
  unfold State.setStat; simp (maxDischargeDepth := 99) [*]

@[simp ↓] theorem kept_setEn {u : State} {s : State} (p : Nat) (b : Bool) (h : Kept u s) :
    Kept u (s.setEn p b) := by
  unfold State.setEn; simp (maxDischargeDepth := 99) [*]

@[simp ↓] theorem kept_mend {u : State} {s : State} (k : Nat) (h : Kept u s) :
    Kept u (s.mend k) := by
  unfold State.mend; simp (maxDischargeDepth := 99) [*]

@[simp ↓] theorem kept_mendRange {u : State} {s : State} (lo : Nat) (hi : Nat) (h : Kept u s) :
    Kept u (s.mendRange lo hi) := by
  unfold State.mendRange; simp (maxDischargeDepth := 99) [*]

@[simp ↓] theorem kept_raising {u : State} {s : State} (p : Nat) (old : Word) (h : Kept u s) :
    Kept u (s.raising p old) := by
  unfold State.raising; simp (maxDischargeDepth := 99) [*]

@[simp ↓] theorem kept_event {u : State} {s : State} (p : Nat) (b : Nat) (h : Kept u s) :
    Kept u (s.event p b) := by
  unfold State.event; simp (maxDischargeDepth := 99) [*]

@[simp ↓] theorem kept_pgErr {u : State} {s : State} (p : Nat) (bit : Nat) (req : Requester) (off : Nat) (detail : optParam Word 0) (h : Kept u s) :
    Kept u (s.pgErr p bit req off detail) := by
  unfold State.pgErr; simp (maxDischargeDepth := 99) [*]

@[simp ↓] theorem kept_ifUnlocked {u : State} {s : State} (req : Requester) (p : Nat) (w : Nat) {t : State} (h : Kept u s) (h2 : Kept u t) :
    Kept u (s.ifUnlocked req p w t) := by
  unfold State.ifUnlocked; simp (maxDischargeDepth := 99) [*]

@[simp ↓] theorem kept_detect {u : State} {s : State} (cls : Nat) (h : Kept u s) :
    Kept u (s.detect cls) := by
  unfold State.detect; simp (maxDischargeDepth := 99) [*]

@[simp ↓] theorem kept_setWord {u s : State} (h : Kept u s) (a : Nat) (v : Word) : Kept u (s.setWord a v) := by
  refine ⟨h.1, fun c => ?_⟩
  have := h.2 c
  rw [State.canonical_iff] at this ⊢
  exact ⟨Map.wf_put _ _ this.1, this.2.1, this.2.2⟩

@[simp ↓] theorem kept_setWords {u s : State} (h : Kept u s) (a : Nat) (l : List Word) : Kept u (s.setWords a l) := by
  refine ⟨h.1, fun c => ?_⟩
  have := h.2 c
  rw [State.canonical_iff] at this ⊢
  exact ⟨Map.wf_putList _ _ this.1, this.2.1, this.2.2⟩

@[simp ↓] theorem kept_clearWords {u s : State} (h : Kept u s) (a n : Nat) : Kept u (s.clearWords a n) := by
  refine ⟨h.1, fun c => ?_⟩
  have := h.2 c
  rw [State.canonical_iff] at this ⊢
  exact ⟨Map.wf_keep _ this.1, this.2.1, this.2.2⟩

@[simp ↓] theorem kept_toHost {u s : State} (h : Kept u s) (a : Nat) (l : List Octet) : Kept u (s.toHost a l) := by
  refine ⟨h.1, fun c => ?_⟩
  have := h.2 c
  rw [State.canonical_iff] at this ⊢
  exact ⟨this.1, Map.wf_putList _ _ this.2.1, this.2.2⟩

@[simp ↓] theorem kept_draw {u : State} {s : State} (n : Nat) (h : Kept u s) :
    Kept u (s.draw n).2 := by
  unfold State.draw; simp (maxDischargeDepth := 99) [*]

theorem kept_draw_of {u : State} {s : State} {n : Nat} {t0 : State} {a0 : List Octet} (e : (s.draw n) = (a0, t0)) (h : Kept u s) : Kept u t0 :=
  Kept.snd_of (kept_draw n h) e

@[simp ↓] theorem kept_drawFrom {u : State} {s : State} (inst : Nat) (n : Nat) (h : Kept u s) :
    Kept u (s.drawFrom inst n).2 := by
  unfold State.drawFrom; simp (maxDischargeDepth := 99) [*]

theorem kept_drawFrom_of {u : State} {s : State} {inst : Nat} {n : Nat} {t0 : State} {a0 : List Octet} (e : (s.drawFrom inst n) = (a0, t0)) (h : Kept u s) : Kept u t0 :=
  Kept.snd_of (kept_drawFrom inst n h) e

@[simp ↓] theorem kept_drawIv {u : State} {s : State} (at_ : Nat) (n : Nat) (h : Kept u s) :
    Kept u (s.drawIv at_ n) := by
  unfold State.drawIv; simp (maxDischargeDepth := 99) [*]

@[simp ↓] theorem kept_putLink {u : State} {s : State} (f : Bool) (l : Link) (h : Kept u s) :
    Kept u (s.putLink f l) := by
  unfold State.putLink; simp (maxDischargeDepth := 99) [*]

@[simp ↓] theorem kept_newLinkKey {u : State} {s : State} (f : Bool) (h : Kept u s) :
    Kept u (s.newLinkKey f) := by
  unfold State.newLinkKey; simp (maxDischargeDepth := 99) [*]

@[simp ↓] theorem kept_setCore {u : State} {s : State} (c : Nat) (v : Core) (h : Kept u s) :
    Kept u (s.setCore c v) := by
  unfold State.setCore; simp (maxDischargeDepth := 99) [*]

@[simp ↓] theorem kept_modCore {u : State} {s : State} (c : Nat) (f : Core → Core) (h : Kept u s) :
    Kept u (s.modCore c f) := by
  unfold State.modCore; simp (maxDischargeDepth := 99) [*]

@[simp ↓] theorem kept_ok {u s : State} (h : Kept u s) : KeptO u (ok s) := h

@[simp ↓] theorem kept_when {u s t : State} (c : Bool) (h : Kept u s) (h2 : Kept u t) : KeptO u (when c s t) := by
  cases c
  · exact h
  · exact h2

@[simp ↓] theorem kept_written {u : State} {s : State} (p : Nat) {t : State} (h : Kept u s) (h2 : Kept u t) :
    KeptO u (s.written p t) := by
  unfold State.written; simp (maxDischargeDepth := 99) [*]

@[simp ↓] theorem kept_answer {u : State} {s : State} (v : Word) (h : Kept u s) :
    Kept u (s.answer v) := by
  unfold State.answer; simp (maxDischargeDepth := 99) [*]

@[simp ↓] theorem kept_readLive {u : State} {s : State} (p : Nat) (w : Nat) {t : State} (h : Kept u s) (h2 : Kept u t) :
    Kept u (s.readLive p w t) := by
  unfold State.readLive; simp (maxDischargeDepth := 99) [*]

@[simp ↓] theorem kept_each {u s : State} (h : Kept u s) (l : List Nat) (f : State → Nat → State)
    (hf : ∀ t k, Kept u t → Kept u (f t k)) : Kept u (s.each l f) := Kept.foldl l f h hf

@[simp ↓] theorem kept_setCst {u : State} {s : State} (n : Nat) (v : Cst) (h : Kept u s) :
    Kept u (s.setCst n v) := by
  unfold State.setCst; simp (maxDischargeDepth := 99) [*]

@[simp ↓] theorem kept_setFst {u : State} {s : State} (n : Nat) (v : Fst) (h : Kept u s) :
    Kept u (s.setFst n v) := by
  unfold State.setFst; simp (maxDischargeDepth := 99) [*]

@[simp ↓] theorem kept_setWaits {u : State} {s : State} (l : List Nat) (h : Kept u s) :
    Kept u (s.setWaits l) := by
  unfold State.setWaits; simp (maxDischargeDepth := 99) [*]

@[simp ↓] theorem kept_releasePower {u : State} {s : State} (p : Nat) (h : Kept u s) :
    Kept u (s.releasePower p) := by
  unfold State.releasePower; simp (maxDischargeDepth := 99) [*]

@[simp ↓] theorem kept_leaveStation {u : State} {s : State} (p : Nat) (begun : Bool) (h : Kept u s) :
    Kept u (s.leaveStation p begun) := by
  unfold State.leaveStation; simp (maxDischargeDepth := 99) [*]

end Sys2Proof.Machine
end

