-- ==== Sys2Proof/Laws/KeptGates.lean ====
section
/-! SUPPORT. What the operations of Machine/Gates.lean keep. -/
namespace Sys2Proof.Machine

@[simp ↓] theorem kept_recordRefusal {u : State} {s : State} (r : Who) (a : Nat) (at_ : Nat) (t : AType) (reason : Nat) (h : Kept u s) :
    Kept u (s.recordRefusal r a at_ t reason) := by
  unfold State.recordRefusal; repeat' (first | (simp (maxDischargeDepth := 99) [*]; done) | split)

@[simp ↓] theorem kept_checkRanges {u s : State} (r : Who) (x1 : List (Nat × Nat × AType)) (h : Kept u s) :
    Kept u (s.checkRanges r x1).1 := by
  induction x1 generalizing s with
  | nil => exact h
  | cons e l ih =>
    unfold State.checkRanges
    split
    · exact ih h
    · split
      · exact ih h
      · exact h
      · exact kept_recordRefusal _ _ _ _ _ h

theorem kept_checkRanges_of {u : State} {s : State} {r : Who} {x2 : List (Nat × Nat × AType)} {t0 : State} {a0 : Bool} (e : (s.checkRanges r x2) = (t0, a0)) (h : Kept u s) : Kept u t0 :=
  Kept.fst_of (kept_checkRanges r x2 h) e

@[simp ↓] theorem kept_putRange {u : State} {s : State} (r : Who) (a : Nat) (l : List Word) (h : Kept u s) :
    Kept u (s.putRange r a l) := by
  unfold State.putRange; simp (maxDischargeDepth := 99) [*]

end Sys2Proof.Machine
end

