-- ==== Sys2Proof/Laws/KeptCmdBlock.lean ====
section
/-! SUPPORT. What the operations of Machine/CmdBlock.lean keep. -/
namespace Sys2Proof.Machine

@[simp ↓] theorem kept_grantRanges {u : State} {s : State} (j : Job) (h : Kept u s) :
    Kept u (s.grantRanges j).1 := by
  unfold State.grantRanges; repeat' (first | (simp (maxDischargeDepth := 99) [*]; done) | split)

theorem kept_grantRanges_of {u : State} {s : State} {j : Job} {t0 : State} {a0 : Job} (e : (s.grantRanges j) = (t0, a0)) (h : Kept u s) : Kept u t0 :=
  Kept.fst_of (kept_grantRanges j h) e

end Sys2Proof.Machine
end

