-- ==== Sys2Proof/Laws/KeptDenlet.lean ====
section
/-! SUPPORT. What the operations of Machine/Denlet.lean keep. -/
namespace Sys2Proof.Machine

@[simp ↓] theorem kept_setArb {u : State} {s : State} (kind : Nat) (inst : Nat) (v : Arb) (h : Kept u s) :
    Kept u (s.setArb kind inst v) := by
  unfold State.setArb; simp (maxDischargeDepth := 99) [*]

@[simp ↓] theorem kept_monGrant {u : State} {s : State} (kind : Nat) (inst : Nat) (wait : Nat) (h : Kept u s) :
    Kept u (s.monGrant kind inst wait) := by
  unfold State.monGrant; simp (maxDischargeDepth := 99) [*]

@[simp ↓] theorem kept_setLink {u : State} {s : State} (i : Nat) (st : Nat) (cause : Nat) (h : Kept u s) :
    Kept u (s.setLink i st cause) := by
  unfold State.setLink; simp (maxDischargeDepth := 99) [*]

@[simp ↓] theorem kept_setPort {u : State} {s : State} (i : Nat) (v : Port) (h : Kept u s) :
    Kept u (s.setPort i v) := by
  unfold State.setPort; simp (maxDischargeDepth := 99) [*]

@[simp ↓] theorem kept_idleSlot {u : State} {s : State} (i : Nat) (h : Kept u s) :
    Kept u (s.idleSlot i) := by
  unfold State.idleSlot; simp (maxDischargeDepth := 99) [*]

@[simp ↓] theorem kept_sendFlit {u : State} {s : State} (i : Nat) (typ : Nat) (vc : Nat) (payload : List Octet) (h : Kept u s) :
    Kept u (s.sendFlit i typ vc payload) := by
  unfold State.sendFlit; simp (maxDischargeDepth := 99) [*]

@[simp ↓] theorem kept_sendMsg {u : State} {s : State} (i : Nat) (m : NetMsg) (h : Kept u s) :
    Kept u (s.sendMsg i m) := by
  unfold State.sendMsg; simp (maxDischargeDepth := 99) +contextual [*]

@[simp ↓] theorem kept_pump {u s : State} (i n : Nat) (h : Kept u s) : Kept u (s.pump i n) := by
  induction n generalizing s with
  | zero => exact h
  | succ n ih =>
    unfold State.pump
    split
    · split
      · exact ih (kept_sendMsg _ _ (kept_monGrant _ _ _ (kept_setArb _ _ _ (kept_setPort _ _ h))))
      · exact h
    · exact h

@[simp ↓] theorem kept_transmit {u : State} {s : State} (i : Nat) (m : NetMsg) (h : Kept u s) :
    Kept u (s.transmit i m) := by
  unfold State.transmit; simp (maxDischargeDepth := 99) [*]

@[simp ↓] theorem kept_hold {u : State} {s : State} (m : NetMsg) (h : Kept u s) :
    Kept u (s.hold m) := by
  unfold State.hold; simp (maxDischargeDepth := 99) [*]

@[simp ↓] theorem kept_send {u : State} {s : State} (m : NetMsg) (h : Kept u s) :
    Kept u (s.send m) := by
  unfold State.send; repeat' (first | (simp (maxDischargeDepth := 99) [*]; done) | split)

@[simp ↓] theorem kept_post {u : State} {s : State} (m : NetMsg) (h : Kept u s) :
    Kept u (s.post m) := by
  unfold State.post; repeat' (first | (simp (maxDischargeDepth := 99) [*]; done) | split)

@[simp ↓] theorem kept_retry {u : State} {s : State} (h : Kept u s) :
    Kept u (s.retry) := by
  unfold State.retry
  dsimp only
  repeat' (first | (simp (maxDischargeDepth := 99) +contextual [*]; done) | intro _ | ((split)) | with_reducible apply kept_each | with_reducible apply Kept.foldl | with_reducible apply kept_send)

@[simp ↓] theorem kept_spill {u : State} {s : State} (i : Nat) (h : Kept u s) :
    Kept u (s.spill i) := by
  unfold State.spill; simp (maxDischargeDepth := 99) +contextual [*]

@[simp ↓] theorem kept_failLink {u : State} {s : State} (i : Nat) (cause : Nat) (h : Kept u s) :
    Kept u (s.failLink i cause) := by
  unfold State.failLink; simp (maxDischargeDepth := 99) [*]

@[simp ↓] theorem kept_askNow {u : State} {s : State} (h : Kept u s) :
    Kept u (s.askNow) := by
  unfold State.askNow; simp (maxDischargeDepth := 99) [*]

@[simp ↓] theorem kept_askResync {u : State} {s : State} (h : Kept u s) :
    Kept u (s.askResync) := by
  unfold State.askResync; simp (maxDischargeDepth := 99) [*]

end Sys2Proof.Machine
end

