-- ==== Sys2Proof/Laws/KeptJobs.lean ====
section
/-! SUPPORT. What the operations of Machine/Jobs.lean keep. -/
namespace Sys2Proof.Machine

@[simp ↓] theorem kept_setJob {u : State} {s : State} (k : Nat) (j : Job) (h : Kept u s) :
    Kept u (s.setJob k j) := by
  unfold State.setJob; simp (maxDischargeDepth := 99) [*]

@[simp ↓] theorem kept_dropJob {u : State} {s : State} (k : Nat) (h : Kept u s) :
    Kept u (s.dropJob k) := by
  unfold State.dropJob; simp (maxDischargeDepth := 99) [*]

@[simp ↓] theorem kept_modJob {u : State} {s : State} (k : Nat) (f : Job → Job) (h : Kept u s) :
    Kept u (s.modJob k f) := by
  unfold State.modJob; repeat' (first | (simp (maxDischargeDepth := 99) [*]; done) | split)

@[simp ↓] theorem kept_setQueue {u : State} {s : State} (q : Nat) (v : Queue) (h : Kept u s) :
    Kept u (s.setQueue q v) := by
  unfold State.setQueue; simp (maxDischargeDepth := 99) [*]

@[simp ↓] theorem kept_toElems {u s : State} (l : List (Nat × Nat)) (o : List Octet) (h : Kept u s) : Kept u (s.toElems l o) := by
  induction l generalizing s o with
  | nil => exact h
  | cons e r ih => exact ih _ (kept_toHost h _ _)

@[simp ↓] theorem kept_toBuffer {u : State} {s : State} (j : Job) (c : Nat) (l : List Octet) (h : Kept u s) :
    Kept u (s.toBuffer j c l) := by
  unfold State.toBuffer; simp (maxDischargeDepth := 99) [*]

@[simp ↓] theorem kept_arbDrop {u : State} {s : State} (kind : Nat) (inst : Nat) (rq : Nat) (h : Kept u s) :
    Kept u (s.arbDrop kind inst rq) := by
  unfold State.arbDrop; simp (maxDischargeDepth := 99) [*]

@[simp ↓] theorem kept_arbClear {u : State} {s : State} (kind : Nat) (inst : Nat) (h : Kept u s) :
    Kept u (s.arbClear kind inst) := by
  unfold State.arbClear; simp (maxDischargeDepth := 99) [*]

@[simp ↓] theorem kept_setInQ {u : State} {s : State} (p : Nat) (l : List Nat) (h : Kept u s) :
    Kept u (s.setInQ p l) := by
  unfold State.setInQ; simp (maxDischargeDepth := 99) [*]

@[simp ↓] theorem kept_setRuns {u : State} {s : State} (p : Nat) (k : Option Nat) (h : Kept u s) :
    Kept u (s.setRuns p k) := by
  unfold State.setRuns; simp (maxDischargeDepth := 99) [*]

@[simp ↓] theorem kept_freeRec {u : State} {s : State} (j : Job) (h : Kept u s) :
    Kept u (s.freeRec j) := by
  unfold State.freeRec; repeat' (first | (simp (maxDischargeDepth := 99) [*]; done) | split)

@[simp ↓] theorem kept_clearWindow {u : State} {s : State} (p : Nat) (h : Kept u s) :
    Kept u (s.clearWindow p) := by
  unfold State.clearWindow; simp (maxDischargeDepth := 99) +contextual [*]

@[simp ↓] theorem kept_noteWindow {u : State} {s : State} (p : Nat) (status : Nat) (keyed : Bool) (out : List Octet) (h : Kept u s) :
    Kept u (s.noteWindow p status keyed out) := by
  unfold State.noteWindow; simp (maxDischargeDepth := 99) +contextual [*]

@[simp ↓] theorem kept_holdWindow {u : State} {s : State} (p : Nat) (j : Job) (h : Kept u s) :
    Kept u (s.holdWindow p j) := by
  unfold State.holdWindow; repeat' (first | (simp (maxDischargeDepth := 99) [*]; done) | split)

@[simp ↓] theorem kept_noteJob {u : State} {s : State} (p : Nat) (j : Job) (status : Nat) (out : List Octet) (h : Kept u s) :
    Kept u (s.noteJob p j status out) := by
  unfold State.noteJob; repeat' (first | (simp (maxDischargeDepth := 99) [*]; done) | split)

@[simp ↓] theorem kept_startJob {u : State} {s : State} (p : Nat) (k : Nat) (j : Job) (h : Kept u s) :
    Kept u (s.startJob p k j) := by
  unfold State.startJob; simp only []; repeat' (first | (simp (maxDischargeDepth := 99) +contextual [*]; done) | split)

@[simp ↓] theorem kept_startNext {u : State} {s : State} (p : Nat) (h : Kept u s) :
    Kept u (s.startNext p) := by
  unfold State.startNext; repeat' (first | (simp (maxDischargeDepth := 99) [*]; done) | split)

@[simp ↓] theorem kept_dropStaging {u : State} {s : State} (j : Job) (h : Kept u s) :
    Kept u (s.dropStaging j) := by
  unfold State.dropStaging; repeat' (first | (simp (maxDischargeDepth := 99) [*]; done) | split)

@[simp ↓] theorem kept_freeCore {u : State} {s : State} (k : Nat) (p : Nat) (h : Kept u s) :
    Kept u (s.freeCore k p) := by
  unfold State.freeCore; repeat' (first | (simp (maxDischargeDepth := 99) [*]; done) | split)

@[simp ↓] theorem kept_leaveUnit {u : State} {s : State} (k : Nat) (j : Job) (h : Kept u s) :
    Kept u (s.leaveUnit k j) := by
  unfold State.leaveUnit; repeat' (first | (simp (maxDischargeDepth := 99) [*]; done) | split)

@[simp ↓] theorem kept_writeEntry {u : State} {s : State} (j : Job) (h : Kept u s) :
    Kept u (s.writeEntry j) := by
  unfold State.writeEntry; simp (maxDischargeDepth := 99) [*]

@[simp ↓] theorem kept_sendResult {u : State} {s : State} (j : Job) (h : Kept u s) :
    Kept u (s.sendResult j) := by
  unfold State.sendResult; repeat' (first | (simp (maxDischargeDepth := 99) [*]; done) | split)

@[simp ↓] theorem kept_countForeign {u : State} {s : State} (j : Job) (h : Kept u s) :
    Kept u (s.countForeign j) := by
  unfold State.countForeign; simp only []; repeat' (first | (simp (maxDischargeDepth := 99) +contextual [*]; done) | split)

@[simp ↓] theorem kept_endCmd {u : State} {s : State} (k : Nat) (j : Job) (c : Cmd) (status : Nat) (reslen : Nat) (h : Kept u s) :
    Kept u (s.endCmd k j c status reslen) := by
  unfold State.endCmd; simp (maxDischargeDepth := 99) [*]

@[simp ↓] theorem kept_ackOrphan {u : State} {s : State} (j : Job) (h : Kept u s) :
    Kept u (s.ackOrphan j) := by
  unfold State.ackOrphan; repeat' (first | (simp (maxDischargeDepth := 99) [*]; done) | split)

@[simp ↓] theorem kept_finish {u : State} {s : State} (k : Nat) (j : Job) (status : Nat) (result : optParam (List Octet) []) (h : Kept u s) :
    Kept u (s.finish k j status result) := by
  unfold State.finish; repeat' (first | (simp (maxDischargeDepth := 99) [*]; done) | split)

@[simp ↓] theorem kept_fail {u : State} {s : State} (k : Nat) (j : Job) (status : Nat) (h : Kept u s) :
    Kept u (s.fail k j status) := by
  unfold State.fail; simp (maxDischargeDepth := 99) [*]

@[simp ↓] theorem kept_setFrame {u : State} {s : State} (f : Nat) (v : Frame) (h : Kept u s) :
    Kept u (s.setFrame f v) := by
  unfold State.setFrame; simp (maxDischargeDepth := 99) [*]

@[simp ↓] theorem kept_setSlot {u : State} {s : State} (n : Nat) (v : Slot) (h : Kept u s) :
    Kept u (s.setSlot n v) := by
  unfold State.setSlot; simp (maxDischargeDepth := 99) [*]

@[simp ↓] theorem kept_freeSlotIfClosed {u : State} {s : State} (n : Nat) (h : Kept u s) :
    Kept u (s.freeSlotIfClosed n) := by
  unfold State.freeSlotIfClosed; simp (maxDischargeDepth := 99) [*]

@[simp ↓] theorem kept_dropFrame {u : State} {s : State} (j : Job) (h : Kept u s) :
    Kept u (s.dropFrame j) := by
  unfold State.dropFrame; repeat' (first | (simp (maxDischargeDepth := 99) [*]; done) | split)

@[simp ↓] theorem kept_noteAbort {u : State} {s : State} (j : Job) (h : Kept u s) :
    Kept u (s.noteAbort j) := by
  unfold State.noteAbort; repeat' (first | (simp (maxDischargeDepth := 99) [*]; done) | split)

@[simp ↓] theorem kept_discard {u : State} {s : State} (k : Nat) (h : Kept u s) :
    Kept u (s.discard k) := by
  unfold State.discard; repeat' (first | (simp (maxDischargeDepth := 99) [*]; done) | split)

@[simp ↓] theorem kept_setJournal {u : State} {s : State} (l : List JRec) (h : Kept u s) :
    Kept u (s.setJournal l) := by
  unfold State.setJournal; simp (maxDischargeDepth := 99) [*]

@[simp ↓] theorem kept_progSeg {u : State} {s : State} (i : Nat) (mark : Bool) (h : Kept u s) :
    Kept u (s.progSeg i mark) := by
  unfold State.progSeg; simp (maxDischargeDepth := 99) [*]

@[simp ↓] theorem kept_journalFills {u : State} {s : State} (h : Kept u s) :
    Kept u (s.journalFills) := by
  unfold State.journalFills; simp (maxDischargeDepth := 99) [*]

@[simp ↓] theorem kept_journalRelief {u : State} {s : State} (h : Kept u s) :
    Kept u (s.journalRelief) := by
  unfold State.journalRelief; simp (maxDischargeDepth := 99) [*]

@[simp ↓] theorem kept_markRec {u : State} {s : State} (n : Option Nat) (v : Slot) (h : Kept u s) :
    Kept u (s.markRec n v) := by
  unfold State.markRec; repeat' (first | (simp (maxDischargeDepth := 99) [*]; done) | split)

@[simp ↓] theorem kept_setGbCache {u : State} {s : State} (l : List Nat) (h : Kept u s) :
    Kept u (s.setGbCache l) := by
  unfold State.setGbCache; simp (maxDischargeDepth := 99) [*]

@[simp ↓] theorem kept_allocSlot {u : State} {s : State} (n : Nat) (rg : Nat) (h : Kept u s) :
    Kept u (s.allocSlot n rg) := by
  unfold State.allocSlot; simp only []; repeat' (first | (simp (maxDischargeDepth := 99) +contextual [*]; done) | split)

@[simp ↓] theorem kept_rehome {u : State} {s : State} (n : Nat) (rg : Nat) (h : Kept u s) :
    Kept u (s.rehome n rg) := by
  unfold State.rehome; repeat' (first | (simp (maxDischargeDepth := 99) [*]; done) | split)

@[simp ↓] theorem kept_commit {u : State} {s : State} (j : Job) (h : Kept u s) :
    Kept u (s.commit j) := by
  unfold State.commit
  try dsimp only
  repeat' (first | with_reducible assumption | with_reducible apply kept_each | with_reducible apply Kept.foldl | with_reducible apply KeptO.next | with_reducible apply Kept.ite | with_reducible apply kept_clearWords | with_reducible apply kept_setWords | with_reducible apply kept_setSlot | with_reducible apply kept_journalRelief | with_reducible apply kept_freeSlotIfClosed | with_reducible apply kept_rehome | with_reducible apply kept_markRec | with_reducible apply kept_setGbCache | with_reducible apply kept_setFrame | with_reducible apply kept_allocSlot | intro _ | ((split)) | (simp (maxDischargeDepth := 99) [*]; done))

end Sys2Proof.Machine
end

