-- ==== Sys2Proof/Laws/KeptLedger.lean ====
section
/-! SUPPORT. What the operations of Machine/Ledger.lean keep. -/
namespace Sys2Proof.Machine

@[simp ↓] theorem kept_modItem {u : State} {s : State} (n : Nat) (f : Item → Item) (h : Kept u s) :
    Kept u (s.modItem n f) := by
  unfold State.modItem; simp (maxDischargeDepth := 99) [*]

@[simp ↓] theorem kept_markItem {u : State} {s : State} (n : Nat) (reason : Nat) (h : Kept u s) :
    Kept u (s.markItem n reason) := by
  unfold State.markItem; repeat' (first | (simp (maxDischargeDepth := 99) [*]; done) | split)

@[simp ↓] theorem kept_rejectItem {u : State} {s : State} (n : Nat) (reason : Nat) (h : Kept u s) :
    Kept u (s.rejectItem n reason) := by
  unfold State.rejectItem; repeat' (first | (simp (maxDischargeDepth := 99) [*]; done) | split)

@[simp ↓] theorem kept_setReplays {u : State} {s : State} (k : Nat) (l : List Replay) (h : Kept u s) :
    Kept u (s.setReplays k l) := by
  unfold State.setReplays; simp (maxDischargeDepth := 99) [*]

@[simp ↓] theorem kept_dropReplays {u : State} {s : State} (q : Nat) (f : Nat → Bool) (h : Kept u s) :
    Kept u (s.dropReplays q f) := by
  unfold State.dropReplays; simp (maxDischargeDepth := 99) +contextual [*]

@[simp ↓] theorem kept_recordBound {u : State} {s : State} (j : Job) (status : Nat) (result : List Octet) (h : Kept u s) :
    Kept u (s.recordBound j status result) := by
  unfold State.recordBound; simp (maxDischargeDepth := 99) [*]

@[simp ↓] theorem kept_failBound {u : State} {s : State} (k : Nat) (j : Job) (status : Nat) (h : Kept u s) :
    Kept u (s.failBound k j status) := by
  unfold State.failBound; simp (maxDischargeDepth := 99) [*]

end Sys2Proof.Machine
end

