-- ==== Sys2Proof/Laws/KeptQueue.lean ====
section
/-! SUPPORT. What the operations of Machine/Queue.lean keep. -/
namespace Sys2Proof.Machine

@[simp ↓] theorem kept_setFetch {u : State} {s : State} (q : Nat) (p : Word) (h : Kept u s) :
    Kept u (s.setFetch q p) := by
  unfold State.setFetch; simp (maxDischargeDepth := 99) [*]

@[simp ↓] theorem kept_unqueue {u : State} {s : State} (q : Nat) (k : Nat) (h : Kept u s) :
    Kept u (s.unqueue q k) := by
  unfold State.unqueue; simp (maxDischargeDepth := 99) [*]

@[simp ↓] theorem kept_discardFrom {u : State} {s : State} (q : Nat) (k : Nat) (h : Kept u s) :
    Kept u (s.discardFrom q k) := by
  unfold State.discardFrom; repeat' (first | (simp (maxDischargeDepth := 99) [*]; done) | split)

@[simp ↓] theorem kept_discardAll {u : State} {s : State} (q : Nat) (h : Kept u s) :
    Kept u (s.discardAll q) := by
  unfold State.discardAll; simp (maxDischargeDepth := 99) +contextual [*]

@[simp ↓] theorem kept_queueShutdown {u : State} {s : State} (q : Nat) (h : Kept u s) :
    Kept u (s.queueShutdown q) := by
  unfold State.queueShutdown; simp (maxDischargeDepth := 99) [*]

@[simp ↓] theorem kept_queueStopped {u : State} {s : State} (q : Nat) (h : Kept u s) :
    Kept u (s.queueStopped q) := by
  unfold State.queueStopped; simp (maxDischargeDepth := 99) [*]

@[simp ↓] theorem kept_queueStart {u : State} {s : State} (req : Requester) (q : Nat) (h : Kept u s) :
    Kept u (s.queueStart req q) := by
  unfold State.queueStart; simp (maxDischargeDepth := 99) [*]

@[simp ↓] theorem kept_settleFailed {u : State} {s : State} (q : Nat) (h : Kept u s) :
    Kept u (s.settleFailed q) := by
  unfold State.settleFailed; simp (maxDischargeDepth := 99) [*]

@[simp ↓] theorem kept_queueError {u : State} {s : State} (q : Nat) (pos : Word) (cause : Nat) (h : Kept u s) :
    Kept u (s.queueError q pos cause) := by
  unfold State.queueError; simp (maxDischargeDepth := 99) [*]

@[simp ↓] theorem kept_takeEntry {u : State} {s : State} (q : Nat) (h0 : Header) (body : List Octet) (err : Bool) (h : Kept u s) :
    Kept u (s.takeEntry q h0 body err) := by
  unfold State.takeEntry; simp only []; repeat' (first | (simp (maxDischargeDepth := 99) +contextual [*]; done) | split)

@[simp ↓] theorem kept_fetchEntry {u : State} {s : State} (q : Nat) (cells : List Octet) (err : Bool) (h : Kept u s) :
    Kept u (s.fetchEntry q cells err) := by
  unfold State.fetchEntry; simp only []; repeat' (first | (simp (maxDischargeDepth := 99) +contextual [*]; done) | split)

@[simp ↓] theorem kept_publishJobs {u s : State} (l : List Nat) (h : Kept u s) : Kept u (s.publishJobs l) := by
  induction l generalizing s with
  | nil => exact h
  | cons k r ih =>
    unfold State.publishJobs
    split
    · exact ih (by simp [h])
    · exact ih h

@[simp ↓] theorem kept_reportHead {u : State} {s : State} (q : Nat) (n : Nat) (h : Kept u s) :
    Kept u (s.reportHead q n) := by
  unfold State.reportHead; simp (maxDischargeDepth := 99) [*]

@[simp ↓] theorem kept_publish {u : State} {s : State} (q : Nat) (h : Kept u s) :
    Kept u (s.publish q) := by
  unfold State.publish; simp (maxDischargeDepth := 99) [*]

theorem kept_execTailDbWrite {u : State} (req : Requester) (q : Nat) (val : Word) {s : State} (h : Kept u s) :
    KeptO u (execTailDbWrite req q val s) := by
  unfold execTailDbWrite; simp (maxDischargeDepth := 99) [*]

theorem kept_execEntryFetchData {u : State} (q : Nat) (cells : List Octet) (err : Bool) {s : State} (h : Kept u s) :
    KeptO u (execEntryFetchData q cells err s) := by
  unfold execEntryFetchData; simp (maxDischargeDepth := 99) [*]

theorem kept_execHostDataArrive {u : State} (key : Nat) (cell : Nat) (sg : List Octet) (data : List Octet) (err : Bool) {s : State} (h : Kept u s) :
    KeptO u (execHostDataArrive key cell sg data err s) := by
  unfold execHostDataArrive; repeat' (first | (simp (maxDischargeDepth := 99) [*]; done) | split)

theorem kept_execHostWriteError {u : State} (key : Nat) {s : State} (h : Kept u s) :
    KeptO u (execHostWriteError key s) := by
  unfold execHostWriteError; repeat' (first | (simp (maxDischargeDepth := 99) +contextual [*]; done) | split)

theorem kept_execHeadPublish {u : State} (q : Nat) {s : State} (h : Kept u s) :
    KeptO u (execHeadPublish q s) := by
  unfold execHeadPublish; simp (maxDischargeDepth := 99) [*]

theorem kept_execIrqModTimer {u : State} (q : Nat) {s : State} (h : Kept u s) :
    KeptO u (execIrqModTimer q s) := by
  unfold execIrqModTimer; simp (maxDischargeDepth := 99) [*]

theorem kept_execWqNop {u : State} (key : Nat) {s : State} (h : Kept u s) :
    KeptO u (execWqNop key s) := by
  unfold execWqNop; repeat' (first | (simp (maxDischargeDepth := 99) [*]; done) | split)

end Sys2Proof.Machine
end

