-- ==== Sys2Proof/Laws/KeptLode.lean ====
section
/-! SUPPORT. What the operations of Machine/Lode.lean keep. -/
namespace Sys2Proof.Machine

@[simp ↓] theorem kept_prqLose {u : State} {s : State} (h : Kept u s) :
    Kept u (s.prqLose) := by
  unfold State.prqLose; simp (maxDischargeDepth := 99) [*]

@[simp ↓] theorem kept_requestPage {u : State} {s : State} (j : Job) (page : Nat) (h : Kept u s) :
    Kept u (s.requestPage j page).1 := by
  unfold State.requestPage; repeat' (first | (simp (maxDischargeDepth := 99) [*]; done) | split)

theorem kept_requestPage_of {u : State} {s : State} {j : Job} {page : Nat} {t0 : State} {a0 : Bool} (e : (s.requestPage j page) = (t0, a0)) (h : Kept u s) : Kept u t0 :=
  Kept.fst_of (kept_requestPage j page h) e

@[simp ↓] theorem kept_endRequest {u : State} {s : State} (page : Nat) (failJobs : Bool) (wait : Bool) (h : Kept u s) :
    Kept u (s.endRequest page failJobs wait) := by
  unfold State.endRequest
  dsimp only
  repeat' (first | (simp (maxDischargeDepth := 99) +contextual [*]; done) | intro _ | ((split)) | with_reducible apply kept_each | with_reducible apply Kept.foldl | with_reducible apply kept_event | with_reducible apply kept_fail)

@[simp ↓] theorem kept_notResidentJob {u : State} {s : State} (k : Nat) (j : Job) (page : Nat) (h : Kept u s) :
    Kept u (s.notResidentJob k j page) := by
  unfold State.notResidentJob; simp (maxDischargeDepth := 99) [*]

@[simp ↓] theorem kept_enqueue {u : State} {s : State} (k : Nat) (j : Job) (p : Nat) (rg : Nat) (h : Kept u s) :
    Kept u (s.enqueue k j p rg) := by
  unfold State.enqueue; simp (maxDischargeDepth := 99) [*]

@[simp ↓] theorem kept_notReadyJob {u : State} {s : State} (k : Nat) (j : Job) (h : Kept u s) :
    Kept u (s.notReadyJob k j) := by
  unfold State.notReadyJob; simp (maxDischargeDepth := 99) [*]

@[simp ↓] theorem kept_placeUnit {u : State} {s : State} (k : Nat) (j : Job) (t : UType) (rg : Nat) (h : Kept u s) :
    Kept u (s.placeUnit k j t rg) := by
  unfold State.placeUnit; repeat' (first | (simp (maxDischargeDepth := 99) [*]; done) | split)

@[simp ↓] theorem kept_placeIn {u : State} {s : State} (k : Nat) (j : Job) (t : UType) (rg : Nat) (h : Kept u s) :
    Kept u (s.placeIn k j t rg) := by
  unfold State.placeIn; repeat' (first | (simp (maxDischargeDepth := 99) [*]; done) | split)

@[simp ↓] theorem kept_placeAny {u : State} {s : State} (k : Nat) (j : Job) (t : UType) (h : Kept u s) :
    Kept u (s.placeAny k j t) := by
  unfold State.placeAny; simp (maxDischargeDepth := 99) [*]

@[simp ↓] theorem kept_placeHere {u : State} {s : State} (k : Nat) (j : Job) (rg : Nat) (h : Kept u s) :
    Kept u (s.placeHere k j rg) := by
  unfold State.placeHere; simp (maxDischargeDepth := 99) [*]

@[simp ↓] theorem kept_sendForward {u : State} {s : State} (k : Nat) (j : Job) (owner : Nat) (h : Kept u s) :
    Kept u (s.sendForward k j owner) := by
  unfold State.sendForward; repeat' (first | (simp (maxDischargeDepth := 99) [*]; done) | split)

@[simp ↓] theorem kept_forwardJob {u : State} {s : State} (k : Nat) (j : Job) (owner : Nat) (h : Kept u s) :
    Kept u (s.forwardJob k j owner) := by
  unfold State.forwardJob; repeat' (first | (simp (maxDischargeDepth := 99) [*]; done) | split)

@[simp ↓] theorem kept_placeCred {u : State} {s : State} (k : Nat) (j : Job) (t : UType) (h0 : Nat) (h : Kept u s) :
    Kept u (s.placeCred k j t h0) := by
  unfold State.placeCred; simp only []; repeat' (first | (simp (maxDischargeDepth := 99) +contextual [*]; done) | split)

@[simp ↓] theorem kept_placeAtStation {u : State} {s : State} (k : Nat) (j : Job) (h : Kept u s) :
    Kept u (s.placeAtStation k j) := by
  unfold State.placeAtStation; simp (maxDischargeDepth := 99) [*]

@[simp ↓] theorem kept_placeStation {u : State} {s : State} (k : Nat) (j : Job) (h : Kept u s) :
    Kept u (s.placeStation k j) := by
  unfold State.placeStation; repeat' (first | (simp (maxDischargeDepth := 99) [*]; done) | split)

theorem kept_gbAkaWait {u : State} {s : State} (k : Nat) (j : Job) (h : Kept u s) :
    ∀ t ∈ (s.gbAkaWait k j), Kept u t := by
  unfold State.gbAkaWait; repeat' (first | (simp (maxDischargeDepth := 99) [*]; done) | split)

theorem kept_gbAkaWait_of {u : State} {s : State} {k : Nat} {j : Job} {t0 : State} (e : (s.gbAkaWait k j) = some t0) (h : Kept u s) : Kept u t0 :=
  kept_gbAkaWait k j h _ e

@[simp ↓] theorem kept_placeJob {u s : State} (k : Nat) (j : Job) (h : Kept u s) : Kept u (s.placeJob k j) := by
  unfold State.placeJob
  dsimp only
  repeat' (first | exact kept_gbAkaWait _ _ h _ (by assumption) | (simp (maxDischargeDepth := 99) [*]; done) | split)

@[simp ↓] theorem kept_place {u : State} {s : State} (k : Nat) (j : Job) (h : Kept u s) :
    Kept u (s.place k j) := by
  unfold State.place
  dsimp only
  repeat' (first | (simp (maxDischargeDepth := 99) [*]; done) | (split <;> try (have hk := kept_gbAkaWait_of (by assumption) h)))

@[simp ↓] theorem kept_moveJob {u : State} {s : State} (k : Nat) (j : Job) (h : Kept u s) :
    Kept u (s.moveJob k j) := by
  unfold State.moveJob; repeat' (first | (simp (maxDischargeDepth := 99) [*]; done) | split)

@[simp ↓] theorem kept_placeNext {u : State} {s : State} (key : Nat) (h : Kept u s) :
    KeptO u (s.placeNext key) := by
  unfold State.placeNext; repeat' (first | (simp (maxDischargeDepth := 99) [*]; done) | split)

theorem kept_execPrqHostError {u : State} {s : State} (h : Kept u s) :
    KeptO u (execPrqHostError s) := by
  unfold execPrqHostError; repeat' (first | (simp (maxDischargeDepth := 99) [*]; done) | split)

@[simp ↓] theorem kept_migrate {u : State} {s : State} (sess : Nat) (h : Kept u s) :
    KeptO u (s.migrate sess) := by
  unfold State.migrate; repeat' (first | (simp (maxDischargeDepth := 99) [*]; done) | split)

end Sys2Proof.Machine
end

