-- ==== Sys2Proof/Laws/KeptCustody.lean ====
section
/-! SUPPORT. What the operations of Machine/Custody.lean keep. -/
namespace Sys2Proof.Machine

@[simp ↓] theorem kept_latchUe {u : State} {s : State} (addr : Nat) (mem : Nat) (scrub : Bool) (h : Kept u s) :
    Kept u (s.latchUe addr mem scrub) := by
  unfold State.latchUe; simp (maxDischargeDepth := 99) [*]

@[simp ↓] theorem kept_quarEntry {u : State} {s : State} (a : Nat) (word : Nat) (h : Kept u s) :
    Kept u (s.quarEntry a word) := by
  unfold State.quarEntry; simp (maxDischargeDepth := 99) [*]

@[simp ↓] theorem kept_storeUe {u : State} {s : State} (a : Nat) (h : Kept u s) :
    Kept u (s.storeUe a) := by
  unfold State.storeUe; simp (maxDischargeDepth := 99) [*]

@[simp ↓] theorem kept_ctxUe {u : State} {s : State} (sess : Option Nat) (h : Kept u s) :
    Kept u (s.ctxUe sess) := by
  unfold State.ctxUe; repeat' (first | (simp (maxDischargeDepth := 99) [*]; done) | split)

@[simp ↓] theorem kept_frameUe {u : State} {s : State} (f : Nat) (h : Kept u s) :
    Kept u (s.frameUe f) := by
  unfold State.frameUe; simp (maxDischargeDepth := 99) +contextual [*]

theorem kept_execSessionMigrate {u : State} (sess : Nat) {s : State} (h : Kept u s) :
    KeptO u (execSessionMigrate sess s) := by
  unfold execSessionMigrate; repeat' (first | (simp (maxDischargeDepth := 99) [*]; done) | split)

@[simp ↓] theorem kept_onJob {u : State} {s : State} (key : Nat) (op : Nat) (f : Job → State) (h : Kept u s) (hf : ∀ y1, Kept u (f y1)) :
    KeptO u (s.onJob key op f) := by
  unfold State.onJob; repeat' (first | (simp (maxDischargeDepth := 99) [*]; done) | split)

@[simp ↓] theorem kept_onRun {u : State} {s : State} (key : Nat) (op : Nat) (f : Job → State) (h : Kept u s) (hf : ∀ y1, Kept u (f y1)) :
    KeptO u (s.onRun key op f) := by
  unfold State.onRun
  try dsimp only
  repeat' (first | with_reducible assumption | with_reducible apply kept_each | with_reducible apply Kept.foldl | with_reducible apply KeptO.next | with_reducible apply Kept.ite | with_reducible apply kept_fail | with_reducible apply kept_onJob | with_reducible apply kept_storeUe | with_reducible apply kept_deviceFault | intro _ | ((split)) | (simp (maxDischargeDepth := 99) [*]; done))

@[simp ↓] theorem kept_record {u : State} {s : State} (n : Option Nat) (v : Slot) (h : Kept u s) :
    Kept u (s.record n v) := by
  unfold State.record; simp (maxDischargeDepth := 99) [*]

@[simp ↓] theorem kept_cachePairs {u : State} {s : State} (h : Kept u s) :
    Kept u (s.cachePairs) := by
  unfold State.cachePairs; simp (maxDischargeDepth := 99) +contextual [*]

@[simp ↓] theorem kept_finishSlot {u : State} {s : State} (k : Nat) (j : Job) (n : Nat) (v : Slot) (persist : Bool) (status : Nat) (result : List Octet) (h : Kept u s) :
    Kept u (s.finishSlot k j n v persist status result) := by
  unfold State.finishSlot; simp (maxDischargeDepth := 99) [*]

@[simp ↓] theorem kept_fillSlot {u : State} {s : State} (k : Nat) (j : Job) (n : Nat) (attr0 : Word) (key : List Octet) (h : Kept u s) :
    Kept u (s.fillSlot k j n attr0 key) := by
  unfold State.fillSlot; simp (maxDischargeDepth := 99) [*]

theorem kept_execSessOpen {u : State} (key : Nat) {s : State} (h : Kept u s) :
    KeptO u (execSessOpen key s) := by
  unfold execSessOpen; simp (maxDischargeDepth := 99) [*]

theorem kept_execSessClose {u : State} (key : Nat) {s : State} (h : Kept u s) :
    KeptO u (execSessClose key s) := by
  unfold execSessClose; simp (maxDischargeDepth := 99) [*]

theorem kept_execSessRekey {u : State} (key : Nat) {s : State} (h : Kept u s) :
    KeptO u (execSessRekey key s) := by
  unfold execSessRekey; simp (maxDischargeDepth := 99) [*]

@[simp ↓] theorem kept_loadFail {u : State} {s : State} (k : Nat) (j : Job) (status : Nat) (h : Kept u s) :
    Kept u (s.loadFail k j status) := by
  unfold State.loadFail; simp (maxDischargeDepth := 99) [*]

theorem kept_execPageLoad {u : State} (key : Nat) {s : State} (h : Kept u s) :
    KeptO u (execPageLoad key s) := by
  unfold execPageLoad
  refine kept_onRun _ _ _ h (fun j => ?_)
  generalize imageLen = L
  dsimp only
  repeat' (first | (simp (maxDischargeDepth := 99) [*]; done) | split)

@[simp ↓] theorem kept_loadStop {u : State} {s : State} (k : Nat) (j : Job) (f : Nat) (status : Nat) (h : Kept u s) :
    Kept u (s.loadStop k j f status) := by
  unfold State.loadStop; simp (maxDischargeDepth := 99) [*]

theorem kept_execChunkVerify {u : State} (key : Nat) (chunk : Nat) (data : List Octet) (err : Bool) {s : State} (h : Kept u s) :
    KeptO u (execChunkVerify key chunk data err s) := by
  unfold execChunkVerify
  generalize imageLen = iL
  dsimp only
  repeat' (first | (simp (maxDischargeDepth := 99) +contextual [*]; done) | intro _ | ((split)) | with_reducible apply kept_each | with_reducible apply Kept.foldl | with_reducible apply kept_onRun | with_reducible apply kept_setWords | with_reducible apply kept_finish | with_reducible apply kept_setFrame | with_reducible apply kept_endRequest | with_reducible apply kept_loadStop | with_reducible apply kept_storeUe | with_reducible apply kept_deviceFault)

theorem kept_execPageEvict {u : State} (key : Nat) {s : State} (h : Kept u s) :
    KeptO u (execPageEvict key s) := by
  unfold execPageEvict
  refine kept_onRun _ _ _ h (fun j => ?_)
  generalize imageLen = L
  dsimp only
  repeat' (first | (simp (maxDischargeDepth := 99) [*]; done) | split)

@[simp ↓] theorem kept_evictFail {u : State} {s : State} (k : Nat) (j : Job) (f : Nat) (status : Nat) (h : Kept u s) :
    Kept u (s.evictFail k j f status) := by
  unfold State.evictFail; simp (maxDischargeDepth := 99) [*]

theorem kept_execEvictWrite {u : State} (key : Nat) {s : State} (h : Kept u s) :
    KeptO u (execEvictWrite key s) := by
  unfold execEvictWrite
  refine kept_onRun _ _ _ h (fun j => ?_)
  have hd := kept_drawFrom (u := u) custodyInst 10 h
  generalize s.drawFrom custodyInst 10 = d at hd ⊢
  obtain ⟨o, t⟩ := d
  dsimp only at hd ⊢
  repeat' (first | (simp (maxDischargeDepth := 99) [*]; done) | split)

@[simp ↓] theorem kept_storeSecret {u : State} {s : State} (k : Nat) (j : Job) (h0 : Nat) (colour : Nat) (kind : Nat) (secret : List Octet) (h : Kept u s) :
    Kept u (s.storeSecret k j h0 colour kind secret) := by
  unfold State.storeSecret; simp (maxDischargeDepth := 99) [*]

theorem kept_execCredWrite {u : State} (key : Nat) {s : State} (h : Kept u s) :
    KeptO u (execCredWrite key s) := by
  unfold execCredWrite
  repeat' (first | (simp (maxDischargeDepth := 99) +contextual [*]; done) | intro _ | ((split)) | with_reducible apply kept_each | with_reducible apply Kept.foldl | with_reducible apply kept_onRun | with_reducible apply kept_fail | with_reducible apply kept_storeSecret)

theorem kept_execCredDerive {u : State} (key : Nat) {s : State} (h : Kept u s) :
    KeptO u (execCredDerive key s) := by
  unfold execCredDerive
  dsimp only
  repeat' (first | (simp (maxDischargeDepth := 99) +contextual [*]; done) | intro _ | ((split)) | with_reducible apply kept_each | with_reducible apply Kept.foldl | with_reducible apply kept_onRun | with_reducible apply kept_fail | with_reducible apply kept_storeSecret)

theorem kept_execCredRetire {u : State} (key : Nat) {s : State} (h : Kept u s) :
    KeptO u (execCredRetire key s) := by
  unfold execCredRetire; simp (maxDischargeDepth := 99) [*]

theorem kept_execReclaim {u : State} (key : Nat) {s : State} (h : Kept u s) :
    KeptO u (execReclaim key s) := by
  unfold execReclaim; simp (maxDischargeDepth := 99) [*]

theorem kept_execSlotGenerate {u : State} (key : Nat) {s : State} (h : Kept u s) :
    KeptO u (execSlotGenerate key s) := by
  unfold execSlotGenerate
  refine kept_onRun _ _ _ h (fun j => ?_)
  have hd := kept_drawFrom (u := u) custodyInst 32 h
  generalize s.drawFrom custodyInst 32 = d at hd ⊢
  obtain ⟨o, t⟩ := d
  dsimp only at hd ⊢
  repeat' (first | (simp (maxDischargeDepth := 99) [*]; done) | split)

theorem kept_execSlotUnwrap {u : State} (key : Nat) {s : State} (h : Kept u s) :
    KeptO u (execSlotUnwrap key s) := by
  unfold execSlotUnwrap
  dsimp only
  repeat' (first | (simp (maxDischargeDepth := 99) +contextual [*]; done) | intro _ | ((split)) | with_reducible apply kept_each | with_reducible apply Kept.foldl | with_reducible apply kept_onRun | with_reducible apply kept_fail | with_reducible apply kept_fillSlot)

theorem kept_execSlotWrap {u : State} (key : Nat) {s : State} (h : Kept u s) :
    KeptO u (execSlotWrap key s) := by
  unfold execSlotWrap
  dsimp only
  repeat' (first | (simp (maxDischargeDepth := 99) +contextual [*]; done) | intro _ | ((split)) | with_reducible apply kept_each | with_reducible apply Kept.foldl | with_reducible apply kept_onRun | with_reducible apply kept_fail | with_reducible apply kept_finish | with_reducible apply kept_colour)

theorem kept_execSlotDerive {u : State} (key : Nat) {s : State} (h : Kept u s) :
    KeptO u (execSlotDerive key s) := by
  unfold execSlotDerive
  dsimp only
  repeat' (first | (simp (maxDischargeDepth := 99) +contextual [*]; done) | intro _ | ((split)) | with_reducible apply kept_each | with_reducible apply Kept.foldl | with_reducible apply kept_onRun | with_reducible apply kept_fail | with_reducible apply kept_fillSlot)

theorem kept_execSlotDestroy {u : State} (key : Nat) {s : State} (h : Kept u s) :
    KeptO u (execSlotDestroy key s) := by
  unfold execSlotDestroy; simp (maxDischargeDepth := 99) [*]

theorem kept_execSlotInfo {u : State} (key : Nat) {s : State} (h : Kept u s) :
    KeptO u (execSlotInfo key s) := by
  unfold execSlotInfo; simp (maxDischargeDepth := 99) [*]

theorem kept_execRngGet {u : State} (key : Nat) {s : State} (h : Kept u s) :
    KeptO u (execRngGet key s) := by
  unfold execRngGet; simp (maxDischargeDepth := 99) [*]

@[simp ↓] theorem kept_starveUnits {u : State} {s : State} (h : Kept u s) :
    Kept u (s.starveUnits) := by
  unfold State.starveUnits
  repeat' (first | (simp (maxDischargeDepth := 99) +contextual [*]; done) | intro _ | ((split)) | with_reducible apply kept_each | with_reducible apply Kept.foldl | with_reducible apply kept_setStat | with_reducible apply kept_fail | with_reducible apply kept_deviceFault)

@[simp ↓] theorem kept_healthFail {u : State} {s : State} (rct : Bool) (apt : Bool) (h : Kept u s) :
    Kept u (s.healthFail rct apt) := by
  unfold State.healthFail; simp (maxDischargeDepth := 99) [*]

theorem kept_execHealthFail {u : State} (last : List Octet) (window : List Octet) {s : State} (h : Kept u s) :
    KeptO u (execHealthFail last window s) := by
  unfold execHealthFail; simp (maxDischargeDepth := 99) [*]

@[simp ↓] theorem kept_seed {u : State} {s : State} (inst : Nat) (h : Kept u s) :
    Kept u (s.seed inst) := by
  unfold State.seed; simp (maxDischargeDepth := 99) [*]

theorem kept_execDrbgReseed {u : State} (inst : Nat) {s : State} (h : Kept u s) :
    KeptO u (execDrbgReseed inst s) := by
  unfold execDrbgReseed; simp (maxDischargeDepth := 99) [*]

@[simp ↓] theorem kept_rewriteJournal {u : State} {s : State} (l : List JRec) (h : Kept u s) :
    Kept u (s.rewriteJournal l) := by
  unfold State.rewriteJournal
  dsimp only
  repeat' (first | (simp (maxDischargeDepth := 99) +contextual [*]; done) | intro _ | ((split)) | with_reducible apply kept_each | with_reducible apply Kept.foldl | with_reducible apply kept_setJournal | with_reducible apply kept_progSeg)

theorem kept_execJournalCompact {u : State} {s : State} (h : Kept u s) :
    KeptO u (execJournalCompact s) := by
  unfold execJournalCompact; repeat' (first | (simp (maxDischargeDepth := 99) [*]; done) | split)

theorem kept_execQkeyDataWrite {u : State} (req : Requester) (val : Word) {s : State} (h : Kept u s) :
    KeptO u (execQkeyDataWrite req val s) := by
  unfold execQkeyDataWrite; simp (maxDischargeDepth := 99) [*]

end Sys2Proof.Machine
end

