-- ==== Sys2Proof/Laws/KeptUnits.lean ====
section
/-! SUPPORT. What the operations of Machine/Units.lean keep. -/
namespace Sys2Proof.Machine

@[simp ↓] theorem kept_faultJob {u : State} {s : State} (k : Nat) (h : Kept u s) :
    Kept u (s.faultJob k) := by
  unfold State.faultJob; repeat' (first | (simp (maxDischargeDepth := 99) [*]; done) | split)

@[simp ↓] theorem kept_faultJobs {u : State} {s : State} (f : Job → Bool) (h : Kept u s) :
    Kept u (s.faultJobs f) := by
  unfold State.faultJobs; simp (maxDischargeDepth := 99) +contextual [*]

@[simp ↓] theorem kept_faultRunning {u : State} {s : State} (p : Nat) (h : Kept u s) :
    Kept u (s.faultRunning p) := by
  unfold State.faultRunning; repeat' (first | (simp (maxDischargeDepth := 99) [*]; done) | split)

@[simp ↓] theorem kept_faultSaved {u : State} {s : State} (p : Nat) (h : Kept u s) :
    Kept u (s.faultSaved p) := by
  unfold State.faultSaved; simp (maxDischargeDepth := 99) [*]

@[simp ↓] theorem kept_stopCore {u : State} {s : State} (c : Nat) (h : Kept u s) :
    Kept u (s.stopCore c) := by
  unfold State.stopCore; simp (maxDischargeDepth := 99) +contextual [*]

@[simp ↓] theorem kept_dropCmds {u : State} {s : State} (c : Nat) (h : Kept u s) :
    Kept u (s.dropCmds c) := by
  unfold State.dropCmds; simp (maxDischargeDepth := 99) +contextual [*]

@[simp ↓] theorem kept_dropReqs {u : State} {s : State} (p : Nat) (h : Kept u s) :
    Kept u (s.dropReqs p) := by
  unfold State.dropReqs; repeat' (first | (simp (maxDischargeDepth := 99) +contextual [*]; done) | split)

@[simp ↓] theorem kept_quarMark {u : State} {s : State} (p : Nat) (h : Kept u s) :
    Kept u (s.quarMark p) := by
  unfold State.quarMark; simp (maxDischargeDepth := 99) [*]

@[simp ↓] theorem kept_quarUnit {u : State} {s : State} (p : Nat) (h : Kept u s) :
    Kept u (s.quarUnit p) := by
  unfold State.quarUnit; repeat' (first | (simp (maxDischargeDepth := 99) [*]; done) | split)

@[simp ↓] theorem kept_quarOwn {u : State} {s : State} (p : Nat) (h : Kept u s) :
    Kept u (s.quarOwn p) := by
  unfold State.quarOwn; repeat' (first | (simp (maxDischargeDepth := 99) [*]; done) | split)

@[simp ↓] theorem kept_quarCluster {u : State} {s : State} (n : Nat) (h : Kept u s) :
    Kept u (s.quarCluster n) := by
  unfold State.quarCluster; simp (maxDischargeDepth := 99) +contextual [*]

@[simp ↓] theorem kept_quarRegion {u : State} {s : State} (rg : Nat) (h : Kept u s) :
    Kept u (s.quarRegion rg) := by
  unfold State.quarRegion; simp (maxDischargeDepth := 99) +contextual [*]

@[simp ↓] theorem kept_quarClusterUp {u : State} {s : State} (n : Nat) (h : Kept u s) :
    Kept u (s.quarClusterUp n) := by
  unfold State.quarClusterUp; simp (maxDischargeDepth := 99) [*]

@[simp ↓] theorem kept_memUe {u : State} {s : State} (a : Nat) (h : Kept u s) :
    Kept u (s.memUe a) := by
  unfold State.memUe; simp (maxDischargeDepth := 99) [*]

@[simp ↓] theorem kept_cmdUe {u : State} {s : State} (k : Nat) (a : Nat) (h : Kept u s) :
    Kept u (s.cmdUe k a) := by
  unfold State.cmdUe; simp (maxDischargeDepth := 99) [*]

@[simp ↓] theorem kept_checkFail {u : State} {s : State} (p : Nat) (h : Kept u s) :
    Kept u (s.checkFail p) := by
  unfold State.checkFail; simp (maxDischargeDepth := 99) [*]

@[simp ↓] theorem kept_parityFail {u : State} {s : State} (p : Nat) (h : Kept u s) :
    Kept u (s.parityFail p) := by
  unfold State.parityFail; simp (maxDischargeDepth := 99) [*]

@[simp ↓] theorem kept_checked {u : State} {s : State} (p : Nat) (chk : UnitCheck) (keyed : Bool) {f : State} (h : Kept u s) (h2 : Kept u f) :
    Kept u (s.checked p chk keyed f) := by
  unfold State.checked; repeat' (first | (simp (maxDischargeDepth := 99) [*]; done) | split)

end Sys2Proof.Machine
end

