-- ==== Sys2Proof/Laws/KeptCipher.lean ====
section
/-! SUPPORT. What the operations of Machine/Cipher.lean keep. -/
namespace Sys2Proof.Machine

@[simp ↓] theorem kept_finishOut {u : State} {s : State} (k : Nat) (j : Job) (status : Nat) (outs : List (Nat × List Octet)) (result : List Octet) (h : Kept u s) :
    Kept u (s.finishOut k j status outs result) := by
  unfold State.finishOut; simp (maxDischargeDepth := 99) +contextual [*]

@[simp ↓] theorem kept_lenGate {u : State} {s : State} (k : Nat) (j : Job) (need : List (Nat × Nat)) {f : State} (h : Kept u s) (h2 : Kept u f) :
    Kept u (s.lenGate k j need f) := by
  unfold State.lenGate; repeat' (first | (simp (maxDischargeDepth := 99) [*]; done) | split)

@[simp ↓] theorem kept_reseedMask {u : State} {s : State} (p : Nat) (h : Kept u s) :
    Kept u (s.reseedMask p) := by
  unfold State.reseedMask; repeat' (first | (simp (maxDischargeDepth := 99) [*]; done) | split)

@[simp ↓] theorem kept_countBlocks {u : State} {s : State} (j : Job) (r : Nat) (n : Nat) (h : Kept u s) :
    Kept u (s.countBlocks j r n) := by
  unfold State.countBlocks; repeat' (first | (simp (maxDischargeDepth := 99) +contextual [*]; done) | split)

@[simp ↓] theorem kept_noteChain {u : State} {s : State} (j : Job) (h : Kept u s) :
    Kept u (s.noteChain j) := by
  unfold State.noteChain; repeat' (first | (simp (maxDischargeDepth := 99) [*]; done) | split)

@[simp ↓] theorem kept_cipherNative {u : State} {s : State} (k : Nat) (j : Job) (h : Kept u s) :
    Kept u (s.cipherNative k j) := by
  unfold State.cipherNative; repeat' (first | (simp (maxDischargeDepth := 99) [*]; done) | split)

@[simp ↓] theorem kept_cipherGb {u : State} {s : State} (k : Nat) (j : Job) (h : Kept u s) :
    Kept u (s.cipherGb k j) := by
  unfold State.cipherGb; repeat' (first | (simp (maxDischargeDepth := 99) [*]; done) | split)

@[simp ↓] theorem kept_akaNative {u : State} {s : State} (k : Nat) (j : Job) (h : Kept u s) :
    Kept u (s.akaNative k j) := by
  unfold State.akaNative; simp only []; repeat' (first | (simp (maxDischargeDepth := 99) +contextual [*]; done) | split)

@[simp ↓] theorem kept_akaGb {u : State} {s : State} (k : Nat) (j : Job) (h : Kept u s) :
    Kept u (s.akaGb k j) := by
  unfold State.akaGb; simp only []; repeat' (first | (simp (maxDischargeDepth := 99) +contextual [*]; done) | split)

@[simp ↓] theorem kept_onCipher {u : State} {s : State} (key : Nat) (op : Nat) (chk : UnitCheck) (f : Job → State) (h : Kept u s) (hf : ∀ y1, Kept u (f y1)) :
    KeptO u (s.onCipher key op chk f) := by
  unfold State.onCipher
  repeat' (first | (simp (maxDischargeDepth := 99) +contextual [*]; done) | intro _ | ((split)) | with_reducible apply kept_each | with_reducible apply Kept.foldl | with_reducible apply kept_onRun | with_reducible apply kept_onCipher | with_reducible apply kept_checked)

@[simp ↓] theorem kept_cipherJob {u : State} {s : State} (key : Nat) (j : Job) (h : Kept u s) :
    Kept u (s.cipherJob key j) := by
  unfold State.cipherJob; simp (maxDischargeDepth := 99) [*]

theorem kept_execEcbEnc {u : State} (key : Nat) (chk : UnitCheck) {s : State} (h : Kept u s) :
    KeptO u (execEcbEnc key chk s) := by
  unfold execEcbEnc; simp (maxDischargeDepth := 99) [*]

theorem kept_execEcbDec {u : State} (key : Nat) (chk : UnitCheck) {s : State} (h : Kept u s) :
    KeptO u (execEcbDec key chk s) := by
  unfold execEcbDec; simp (maxDischargeDepth := 99) [*]

theorem kept_execCbcEnc {u : State} (key : Nat) (chk : UnitCheck) {s : State} (h : Kept u s) :
    KeptO u (execCbcEnc key chk s) := by
  unfold execCbcEnc; simp (maxDischargeDepth := 99) [*]

theorem kept_execCbcDec {u : State} (key : Nat) (chk : UnitCheck) {s : State} (h : Kept u s) :
    KeptO u (execCbcDec key chk s) := by
  unfold execCbcDec; simp (maxDischargeDepth := 99) [*]

theorem kept_execCtr {u : State} (key : Nat) (chk : UnitCheck) {s : State} (h : Kept u s) :
    KeptO u (execCtr key chk s) := by
  unfold execCtr; simp (maxDischargeDepth := 99) [*]

theorem kept_execGcmEnc {u : State} (key : Nat) (chk : UnitCheck) {s : State} (h : Kept u s) :
    KeptO u (execGcmEnc key chk s) := by
  unfold execGcmEnc; simp (maxDischargeDepth := 99) [*]

theorem kept_execGcmDec {u : State} (key : Nat) (chk : UnitCheck) {s : State} (h : Kept u s) :
    KeptO u (execGcmDec key chk s) := by
  unfold execGcmDec; simp (maxDischargeDepth := 99) [*]

theorem kept_execCcmEnc {u : State} (key : Nat) (chk : UnitCheck) {s : State} (h : Kept u s) :
    KeptO u (execCcmEnc key chk s) := by
  unfold execCcmEnc; simp (maxDischargeDepth := 99) [*]

theorem kept_execCcmDec {u : State} (key : Nat) (chk : UnitCheck) {s : State} (h : Kept u s) :
    KeptO u (execCcmDec key chk s) := by
  unfold execCcmDec; simp (maxDischargeDepth := 99) [*]

theorem kept_execCmacGen {u : State} (key : Nat) (chk : UnitCheck) {s : State} (h : Kept u s) :
    KeptO u (execCmacGen key chk s) := by
  unfold execCmacGen; simp (maxDischargeDepth := 99) [*]

theorem kept_execCmacVer {u : State} (key : Nat) (chk : UnitCheck) {s : State} (h : Kept u s) :
    KeptO u (execCmacVer key chk s) := by
  unfold execCmacVer; simp (maxDischargeDepth := 99) [*]

theorem kept_execKwWrap {u : State} (key : Nat) (chk : UnitCheck) {s : State} (h : Kept u s) :
    KeptO u (execKwWrap key chk s) := by
  unfold execKwWrap; simp (maxDischargeDepth := 99) [*]

theorem kept_execKwUnwrap {u : State} (key : Nat) (chk : UnitCheck) {s : State} (h : Kept u s) :
    KeptO u (execKwUnwrap key chk s) := by
  unfold execKwUnwrap; simp (maxDischargeDepth := 99) [*]

theorem kept_execKwpWrap {u : State} (key : Nat) (chk : UnitCheck) {s : State} (h : Kept u s) :
    KeptO u (execKwpWrap key chk s) := by
  unfold execKwpWrap; simp (maxDischargeDepth := 99) [*]

theorem kept_execKwpUnwrap {u : State} (key : Nat) (chk : UnitCheck) {s : State} (h : Kept u s) :
    KeptO u (execKwpUnwrap key chk s) := by
  unfold execKwpUnwrap; simp (maxDischargeDepth := 99) [*]

theorem kept_execAkaMilenage {u : State} (key : Nat) (chk : UnitCheck) {s : State} (h : Kept u s) :
    KeptO u (execAkaMilenage key chk s) := by
  unfold execAkaMilenage; simp (maxDischargeDepth := 99) [*]

theorem kept_execAkaResync {u : State} (key : Nat) (chk : UnitCheck) {s : State} (h : Kept u s) :
    KeptO u (execAkaResync key chk s) := by
  unfold execAkaResync
  dsimp only
  repeat' (first | (simp (maxDischargeDepth := 99) +contextual [*]; done) | intro _ | ((split)) | with_reducible apply kept_each | with_reducible apply Kept.foldl | with_reducible apply kept_onCipher | with_reducible apply kept_fail | with_reducible apply kept_finish | with_reducible apply kept_countBlocks)

end Sys2Proof.Machine
end

