-- ==== Sys2Proof/Laws/KeptDigest.lean ====
section
/-! SUPPORT. What the operations of Machine/Digest.lean keep. -/
namespace Sys2Proof.Machine

@[simp ↓] theorem kept_wrapRecord {u : State} {s : State} (j : Job) (rg : Nat) (format : Nat) (parkno : Nat) (prefix_ : List Octet) (ws : List Word) (h : Kept u s) :
    Kept u (s.wrapRecord j rg format parkno prefix_ ws).2 := by
  unfold State.wrapRecord; simp (maxDischargeDepth := 99) [*]

theorem kept_wrapRecord_of {u : State} {s : State} {j : Job} {rg : Nat} {format : Nat} {parkno : Nat} {prefix_ : List Octet} {ws : List Word} {t0 : State} {a0 : List Word} (e : (s.wrapRecord j rg format parkno prefix_ ws) = (a0, t0)) (h : Kept u s) : Kept u t0 :=
  Kept.snd_of (kept_wrapRecord j rg format parkno prefix_ ws h) e

@[simp ↓] theorem kept_endHold {u : State} {s : State} (p : Nat) (h : Kept u s) :
    Kept u (s.endHold p) := by
  unfold State.endHold; simp (maxDischargeDepth := 99) [*]

@[simp ↓] theorem kept_readResult {u : State} {s : State} (req : Requester) (u0 : Nat) (idx : Nat) (h : Kept u s) :
    Kept u (s.readResult req u0 idx).1 := by
  unfold State.readResult; simp only []; repeat' (first | (simp (maxDischargeDepth := 99) +contextual [*]; done) | split)

theorem kept_readResult_of {u : State} {s : State} {req : Requester} {u0 : Nat} {idx : Nat} {t0 : State} {a0 : Word} (e : (s.readResult req u0 idx) = (t0, a0)) (h : Kept u s) : Kept u t0 :=
  Kept.fst_of (kept_readResult req u0 idx h) e

theorem kept_execWindowExpired {u : State} (unit : Nat) {s : State} (h : Kept u s) :
    KeptO u (execWindowExpired unit s) := by
  unfold execWindowExpired; simp (maxDischargeDepth := 99) [*]

@[simp ↓] theorem kept_noteRecord {u : State} {s : State} (j : Job) (saved : Bool) (restored : Bool) (h : Kept u s) :
    Kept u (s.noteRecord j saved restored) := by
  unfold State.noteRecord; repeat' (first | (simp (maxDischargeDepth := 99) [*]; done) | split)

@[simp ↓] theorem kept_digestEnd {u : State} {s : State} (k : Nat) (j : Job) (alg : Nat) (d : DSt) (h : Kept u s) :
    Kept u (s.digestEnd k j alg d) := by
  unfold State.digestEnd; simp (maxDischargeDepth := 99) [*]

@[simp ↓] theorem kept_digestJob {u : State} {s : State} (k : Nat) (j : Job) (alg : Nat) (h : Kept u s) :
    Kept u (s.digestJob k j alg) := by
  unfold State.digestJob; repeat' (first | (simp (maxDischargeDepth := 99) [*]; done) | split)

@[simp ↓] theorem kept_keyedRun {u : State} {s : State} (p : Nat) (blocks : Nat) (h : Kept u s) :
    Kept u (s.keyedRun p blocks) := by
  unfold State.keyedRun; simp (maxDischargeDepth := 99) [*]

theorem kept_hmacRuns {u s : State} (rg alg len : Nat) (h : Kept u s) : ∀ t ∈ s.hmacRuns rg alg len, Kept u t := by
  intro t ht
  unfold State.hmacRuns at ht
  cases hp : s.idleDigest rg with
  | none => simp [hp] at ht
  | some p =>
    simp only [hp, Option.bind_some, Option.mem_def, Option.map_eq_some_iff] at ht
    obtain ⟨q, _, rfl⟩ := ht
    simp [h]

theorem kept_hmacRuns_of {u : State} {s : State} {rg : Nat} {alg : Nat} {len : Nat} {t0 : State} (e : (s.hmacRuns rg alg len) = some t0) (h : Kept u s) : Kept u t0 :=
  kept_hmacRuns rg alg len h _ e

@[simp ↓] theorem kept_hmacJob {u s : State} (k : Nat) (j : Job) (h : Kept u s) : Kept u (s.hmacJob k j) := by
  unfold State.hmacJob
  split
  · simp [h]
  · split
    · simp [h]
    · refine kept_lenGate _ _ _ h ?_
      split
      · exact h
      · rename_i t ht
        have hk := kept_hmacRuns _ _ _ h _ ht
        dsimp only
        repeat' (first | (simp [hk]; done) | split)

@[simp ↓] theorem kept_gbHmac {u : State} {s : State} (k : Nat) (j : Job) (h : Kept u s) :
    Kept u (s.gbHmac k j) := by
  unfold State.gbHmac; repeat' (first | (simp (maxDischargeDepth := 99) [*]; done) | split)

@[simp ↓] theorem kept_onDigest {u : State} {s : State} (key : Nat) (op : Nat) (chk : UnitCheck) (f : Job → State) (h : Kept u s) (hf : ∀ y1, Kept u (f y1)) :
    KeptO u (s.onDigest key op chk f) := by
  unfold State.onDigest
  repeat' (first | (simp (maxDischargeDepth := 99) +contextual [*]; done) | intro _ | ((split)) | with_reducible apply kept_each | with_reducible apply Kept.foldl | with_reducible apply kept_onRun | with_reducible apply kept_onDigest | with_reducible apply kept_checked)

theorem kept_execSha224 {u : State} (key : Nat) (chk : UnitCheck) {s : State} (h : Kept u s) :
    KeptO u (execSha224 key chk s) := by
  unfold execSha224; simp (maxDischargeDepth := 99) [*]

theorem kept_execSha256 {u : State} (key : Nat) (chk : UnitCheck) {s : State} (h : Kept u s) :
    KeptO u (execSha256 key chk s) := by
  unfold execSha256; simp (maxDischargeDepth := 99) [*]

theorem kept_execSha384 {u : State} (key : Nat) (chk : UnitCheck) {s : State} (h : Kept u s) :
    KeptO u (execSha384 key chk s) := by
  unfold execSha384; simp (maxDischargeDepth := 99) [*]

theorem kept_execSha512 {u : State} (key : Nat) (chk : UnitCheck) {s : State} (h : Kept u s) :
    KeptO u (execSha512 key chk s) := by
  unfold execSha512; simp (maxDischargeDepth := 99) [*]

theorem kept_execSha3224 {u : State} (key : Nat) (chk : UnitCheck) {s : State} (h : Kept u s) :
    KeptO u (execSha3224 key chk s) := by
  unfold execSha3224; simp (maxDischargeDepth := 99) [*]

theorem kept_execSha3256 {u : State} (key : Nat) (chk : UnitCheck) {s : State} (h : Kept u s) :
    KeptO u (execSha3256 key chk s) := by
  unfold execSha3256; simp (maxDischargeDepth := 99) [*]

theorem kept_execSha3384 {u : State} (key : Nat) (chk : UnitCheck) {s : State} (h : Kept u s) :
    KeptO u (execSha3384 key chk s) := by
  unfold execSha3384; simp (maxDischargeDepth := 99) [*]

theorem kept_execSha3512 {u : State} (key : Nat) (chk : UnitCheck) {s : State} (h : Kept u s) :
    KeptO u (execSha3512 key chk s) := by
  unfold execSha3512; simp (maxDischargeDepth := 99) [*]

theorem kept_execShake128 {u : State} (key : Nat) (chk : UnitCheck) {s : State} (h : Kept u s) :
    KeptO u (execShake128 key chk s) := by
  unfold execShake128; simp (maxDischargeDepth := 99) [*]

theorem kept_execShake256 {u : State} (key : Nat) (chk : UnitCheck) {s : State} (h : Kept u s) :
    KeptO u (execShake256 key chk s) := by
  unfold execShake256; simp (maxDischargeDepth := 99) [*]

theorem kept_execGbHmac {u : State} (key : Nat) (chk : UnitCheck) {s : State} (h : Kept u s) :
    KeptO u (execGbHmac key chk s) := by
  unfold execGbHmac; simp (maxDischargeDepth := 99) [*]

end Sys2Proof.Machine
end

