-- ==== Sys2Proof/Laws/KeptUnitCmd.lean ====
section
/-! SUPPORT. What the operations of Machine/UnitCmd.lean keep. -/
namespace Sys2Proof.Machine

@[simp ↓] theorem kept_putHost {u : State} {s : State} (hk : Nat) (hj : Job) (cell : Nat) (off : Nat) (l : List Octet) (h : Kept u s) :
    Kept u (s.putHost hk hj cell off l) := by
  unfold State.putHost; simp (maxDischargeDepth := 99) [*]

end Sys2Proof.Machine
end

