-- ==== Sys2Proof/Laws/KeptBignum.lean ====
section
/-! SUPPORT. What the operations of Machine/Bignum.lean keep. -/
namespace Sys2Proof.Machine

@[simp ↓] theorem kept_drawRho {u : State} {s : State} (p : Nat) (n : Nat) (h : Kept u s) :
    Kept u (s.drawRho p n) := by
  unfold State.drawRho; simp (maxDischargeDepth := 99) +contextual [*]

@[simp ↓] theorem kept_bnRefuse {u : State} {s : State} (j : Job) (idx : Nat) (slot : Nat) (h : Kept u s) :
    Kept u (s.bnRefuse j idx slot) := by
  unfold State.bnRefuse; repeat' (first | (simp (maxDischargeDepth := 99) [*]; done) | split)

@[simp ↓] theorem kept_progNext {u : State} {s : State} (k : Nat) (j : Job) (t : BnCtx) (h : Kept u s) :
    Kept u (s.progNext k j t) := by
  unfold State.progNext; simp (maxDischargeDepth := 99) [*]

@[simp ↓] theorem kept_progCompute {u : State} {s : State} (k : Nat) (j : Job) (x : BnCmd) (h : Kept u s) :
    Kept u (s.progCompute k j x) := by
  unfold State.progCompute; simp only []; repeat' (first | (simp (maxDischargeDepth := 99) +contextual [*]; done) | split)

@[simp ↓] theorem kept_orphanCheck {u : State} {s : State} (p : Nat) (j : Job) (chk : UnitCheck) (h : Kept u s) :
    Kept u (s.orphanCheck p j chk) := by
  unfold State.orphanCheck; simp (maxDischargeDepth := 99) [*]

@[simp ↓] theorem kept_onProg {u : State} {s : State} (unit : Nat) (op : Nat) (chk : UnitCheck) (f : State → Nat → Job → Cmd → BnCmd → State) (h : Kept u s) (hf : ∀ t y1 y2 y3 y4, Kept u t → Kept u (f t y1 y2 y3 y4)) :
    KeptO u (s.onProg unit op chk f) := by
  unfold State.onProg; simp only []; repeat' (first | (simp (maxDischargeDepth := 99) +contextual [*]; done) | split)

theorem kept_execConvert {u : State} (unit : Nat) (chk : UnitCheck) {s : State} (h : Kept u s) :
    KeptO u (execConvert unit chk s) := by
  unfold execConvert; simp (maxDischargeDepth := 99) +contextual [*]

theorem kept_execToMont {u : State} (unit : Nat) (chk : UnitCheck) {s : State} (h : Kept u s) :
    KeptO u (execToMont unit chk s) := by
  unfold execToMont; simp (maxDischargeDepth := 99) +contextual [*]

theorem kept_execFromMont {u : State} (unit : Nat) (chk : UnitCheck) {s : State} (h : Kept u s) :
    KeptO u (execFromMont unit chk s) := by
  unfold execFromMont; simp (maxDischargeDepth := 99) +contextual [*]

theorem kept_execModadd {u : State} (unit : Nat) (chk : UnitCheck) {s : State} (h : Kept u s) :
    KeptO u (execModadd unit chk s) := by
  unfold execModadd; simp (maxDischargeDepth := 99) +contextual [*]

theorem kept_execModsub {u : State} (unit : Nat) (chk : UnitCheck) {s : State} (h : Kept u s) :
    KeptO u (execModsub unit chk s) := by
  unfold execModsub; simp (maxDischargeDepth := 99) +contextual [*]

theorem kept_execModmul {u : State} (unit : Nat) (chk : UnitCheck) {s : State} (h : Kept u s) :
    KeptO u (execModmul unit chk s) := by
  unfold execModmul; simp (maxDischargeDepth := 99) +contextual [*]

theorem kept_execModinv {u : State} (unit : Nat) (chk : UnitCheck) {s : State} (h : Kept u s) :
    KeptO u (execModinv unit chk s) := by
  unfold execModinv; simp (maxDischargeDepth := 99) +contextual [*]

theorem kept_execModexp {u : State} (unit : Nat) (chk : UnitCheck) {s : State} (h : Kept u s) :
    KeptO u (execModexp unit chk s) := by
  unfold execModexp; simp (maxDischargeDepth := 99) +contextual [*]

theorem kept_execCurvechk {u : State} (unit : Nat) (chk : UnitCheck) {s : State} (h : Kept u s) :
    KeptO u (execCurvechk unit chk s) := by
  unfold execCurvechk; simp (maxDischargeDepth := 99) +contextual [*]

@[simp ↓] theorem kept_bnJob {u : State} {s : State} (k : Nat) (j : Job) (h : Kept u s) :
    Kept u (s.bnJob k j) := by
  unfold State.bnJob; repeat' (first | (simp (maxDischargeDepth := 99) [*]; done) | split)

@[simp ↓] theorem kept_onBignum {u : State} {s : State} (key : Nat) (op : Nat) (chk : UnitCheck) (h : Kept u s) :
    KeptO u (s.onBignum key op chk) := by
  unfold State.onBignum
  repeat' (first | (simp (maxDischargeDepth := 99) +contextual [*]; done) | intro _ | ((split)) | with_reducible apply kept_each | with_reducible apply Kept.foldl | with_reducible apply kept_onRun | with_reducible apply kept_memUe | with_reducible apply kept_checked | with_reducible apply kept_bnJob | with_reducible apply kept_orphanCheck)

theorem kept_execBnModexp {u : State} (key : Nat) (chk : UnitCheck) {s : State} (h : Kept u s) :
    KeptO u (execBnModexp key chk s) := by
  unfold execBnModexp; simp (maxDischargeDepth := 99) [*]

theorem kept_execBnModmul {u : State} (key : Nat) (chk : UnitCheck) {s : State} (h : Kept u s) :
    KeptO u (execBnModmul key chk s) := by
  unfold execBnModmul; simp (maxDischargeDepth := 99) [*]

theorem kept_execBnModadd {u : State} (key : Nat) (chk : UnitCheck) {s : State} (h : Kept u s) :
    KeptO u (execBnModadd key chk s) := by
  unfold execBnModadd; simp (maxDischargeDepth := 99) [*]

theorem kept_execBnModsub {u : State} (key : Nat) (chk : UnitCheck) {s : State} (h : Kept u s) :
    KeptO u (execBnModsub key chk s) := by
  unfold execBnModsub; simp (maxDischargeDepth := 99) [*]

theorem kept_execBnModinv {u : State} (key : Nat) (chk : UnitCheck) {s : State} (h : Kept u s) :
    KeptO u (execBnModinv key chk s) := by
  unfold execBnModinv; simp (maxDischargeDepth := 99) [*]

theorem kept_execBnCurvechk {u : State} (key : Nat) (chk : UnitCheck) {s : State} (h : Kept u s) :
    KeptO u (execBnCurvechk key chk s) := by
  unfold execBnCurvechk; simp (maxDischargeDepth := 99) [*]

@[simp ↓] theorem kept_progRefused {u : State} {s : State} (k : Nat) (j : Job) (st : Nat) (h : Kept u s) :
    Kept u (s.progRefused k j st) := by
  unfold State.progRefused; repeat' (first | (simp (maxDischargeDepth := 99) [*]; done) | split)

theorem kept_execBnProgramEnqueue {u : State} (key : Nat) {s : State} (h : Kept u s) :
    KeptO u (execBnProgramEnqueue key s) := by
  unfold execBnProgramEnqueue; simp only []; repeat' (first | (simp (maxDischargeDepth := 99) +contextual [*]; done) | split)

theorem kept_execBnAbort {u : State} (key : Nat) {s : State} (h : Kept u s) :
    KeptO u (execBnAbort key s) := by
  unfold execBnAbort; repeat' (first | (simp (maxDischargeDepth := 99) [*]; done) | split)

@[simp ↓] theorem kept_discardCmds {u : State} {s : State} (c : Nat) (h : Kept u s) :
    Kept u (s.discardCmds c) := by
  unfold State.discardCmds
  try dsimp only
  repeat' (first | with_reducible assumption | with_reducible apply kept_each | with_reducible apply Kept.foldl | with_reducible apply KeptO.next | with_reducible apply Kept.ite | with_reducible apply kept_modCore | with_reducible apply kept_discard | with_reducible apply kept_setJob | intro _ | ((split)) | (simp (maxDischargeDepth := 99) [*]; done))

@[simp ↓] theorem kept_readRefuse {u : State} {s : State} (r : Who) (u0 : Nat) (h : Kept u s) :
    Kept u (s.readRefuse r u0).1 := by
  unfold State.readRefuse; simp only []; repeat' (first | (simp (maxDischargeDepth := 99) +contextual [*]; done) | split)

theorem kept_readRefuse_of {u : State} {s : State} {r : Who} {u0 : Nat} {t0 : State} {a0 : Word} (e : (s.readRefuse r u0) = (t0, a0)) (h : Kept u s) : Kept u t0 :=
  Kept.fst_of (kept_readRefuse r u0 h) e

end Sys2Proof.Machine
end

