-- ==== Sys2Proof/Laws/KeptPark.lean ====
section
/-! SUPPORT. What the operations of Machine/Park.lean keep. -/
namespace Sys2Proof.Machine

@[simp ↓] theorem kept_noteSave {u : State} {s : State} (p : Nat) (mode : Nat) (idx : Nat) (h : Kept u s) :
    Kept u (s.noteSave p mode idx) := by
  unfold State.noteSave; repeat' (first | (simp (maxDischargeDepth := 99) [*]; done) | split)

@[simp ↓] theorem kept_toParked {u : State} {s : State} (k : Nat) (j : Job) (p : Nat) (mode : Nat) (idx : Nat) (done : Nat) (h : Kept u s) :
    Kept u (s.toParked k j p mode idx done) := by
  unfold State.toParked; simp (maxDischargeDepth := 99) [*]

@[simp ↓] theorem kept_saveCipher {u : State} {s : State} (j : Job) (mode : Nat) (idx : Nat) (ws : List Word) (h : Kept u s) :
    Kept u (s.saveCipher j mode idx ws) := by
  unfold State.saveCipher; simp (maxDischargeDepth := 99) [*]

@[simp ↓] theorem kept_saveDigest {u : State} {s : State} (j : Job) (mode : Nat) (idx : Nat) (ws : List Word) (h : Kept u s) :
    Kept u (s.saveDigest j mode idx ws) := by
  unfold State.saveDigest; simp (maxDischargeDepth := 99) [*]

@[simp ↓] theorem kept_partOut {u : State} {s : State} (j : Job) (o : List Octet) (h : Kept u s) :
    Kept u (s.partOut j o) := by
  unfold State.partOut; repeat' (first | (simp (maxDischargeDepth := 99) [*]; done) | split)

theorem kept_park {u : State} {s : State} (k : Nat) (j : Job) (done : Nat) (h : Kept u s) :
    ∀ t ∈ (s.park k j done), Kept u t := by
  unfold State.park; repeat' (first | (simp (maxDischargeDepth := 99) [*]; done) | split)

theorem kept_park_of {u : State} {s : State} {k : Nat} {j : Job} {done : Nat} {t0 : State} (e : (s.park k j done) = some t0) (h : Kept u s) : Kept u t0 :=
  kept_park k j done h _ e

@[simp ↓] theorem kept_placeOn {u : State} {s : State} (w : Nat × Job) (p : Nat) (rg : Nat) (h : Kept u s) :
    Kept u (s.placeOn w p rg) := by
  unfold State.placeOn; simp (maxDischargeDepth := 99) [*]

theorem kept_execJobPark {u : State} (key : Nat) (done : Nat) {s : State} (h : Kept u s) :
    KeptO u (execJobPark key done s) := by
  unfold execJobPark
  split
  · exact h
  · split
    · exact h
    · split
      · exact h
      · split
        · rename_i j _ _ _ _ _ _
          cases hp : s.park key j done with
          | none => exact h
          | some t => exact kept_park _ _ _ h _ hp
        · split
          · exact h
          · split
            · exact h
            · rename_i hp
              exact kept_placeOn _ _ _ (kept_inc36 _ _ (kept_park _ _ _ h _ hp))

theorem kept_execBnYield {u : State} (unit done : Nat) {s : State} (h : Kept u s) :
    KeptO u (execBnYield unit done s) := by
  unfold execBnYield
  dsimp only
  split
  · exact h
  · split
    · exact h
    · split
      · split
        · rename_i hp _ _ _
          exact kept_when _ h (kept_startJob _ _ _ (kept_park _ _ _ h _ hp))
        · exact h
      · exact h

@[simp ↓] theorem kept_resumeOn {u : State} {s : State} (k : Nat) (j : Job) (p : Nat) (ws : List Word) (h : Kept u s) :
    Kept u (s.resumeOn k j p ws) := by
  unfold State.resumeOn; simp (maxDischargeDepth := 99) [*]

theorem kept_execJobResume {u : State} (key : Nat) (rec : List Octet) (err : Bool) {s : State} (h : Kept u s) :
    KeptO u (execJobResume key rec err s) := by
  unfold execJobResume; simp only []; repeat' (first | (simp (maxDischargeDepth := 99) +contextual [*]; done) | split)

end Sys2Proof.Machine
end

