-- ==== Sys2Proof/Laws/KeptComposite.lean ====
section
/-! SUPPORT. What the operations of Machine/Composite.lean keep. -/
namespace Sys2Proof.Machine

@[simp ↓] theorem kept_clearFrame {u : State} {s : State} (c : Nat) (h : Kept u s) :
    Kept u (s.clearFrame c) := by
  unfold State.clearFrame; simp (maxDischargeDepth := 99) [*]

@[simp ↓] theorem kept_releaseHeld {u : State} {s : State} (k : Nat) (j : Job) (h : Kept u s) :
    Kept u (s.releaseHeld k j) := by
  unfold State.releaseHeld; simp (maxDischargeDepth := 99) [*]

@[simp ↓] theorem kept_onHeld {u : State} {s : State} (key : Nat) (op : Nat) (f : Job → State) (h : Kept u s) (hf : ∀ y1, Kept u (f y1)) :
    KeptO u (s.onHeld key op f) := by
  unfold State.onHeld
  try dsimp only
  repeat' (first | with_reducible assumption | with_reducible apply kept_each | with_reducible apply Kept.foldl | with_reducible apply KeptO.next | with_reducible apply Kept.ite | with_reducible apply kept_fail | with_reducible apply kept_onJob | with_reducible apply kept_storeUe | with_reducible apply kept_releaseHeld | with_reducible apply kept_clearFrame | with_reducible apply kept_deviceFault | intro _ | ((split)) | (simp (maxDischargeDepth := 99) [*]; done))

theorem kept_execHmacGen {u : State} (key : Nat) {s : State} (h : Kept u s) :
    KeptO u (execHmacGen key s) := by
  unfold execHmacGen; simp (maxDischargeDepth := 99) [*]

theorem kept_execHmacVer {u : State} (key : Nat) {s : State} (h : Kept u s) :
    KeptO u (execHmacVer key s) := by
  unfold execHmacVer; simp (maxDischargeDepth := 99) [*]

@[simp ↓] theorem kept_withSlot {u : State} {s : State} (k : Nat) (j : Job) (r : BitVec 32) (usage : Nat) (algs : List Nat) (f : Slot → State) (h : Kept u s) (hf : ∀ y1, Kept u (f y1)) :
    Kept u (s.withSlot k j r usage algs f) := by
  unfold State.withSlot; repeat' (first | (simp (maxDischargeDepth := 99) [*]; done) | split)

@[simp ↓] theorem kept_need {u : State} {s : State} (k : Nat) (j : Job) (c : Bool) {f : State} (h : Kept u s) (h2 : Kept u f) :
    Kept u (s.need k j c f) := by
  unfold State.need; simp (maxDischargeDepth := 99) [*]

@[simp ↓] theorem kept_withRandom {u s : State} (k : Nat) (j : Job) (n : Nat) (f : List Octet → State → State) (h : Kept u s)
    (hf : ∀ o t, Kept u t → Kept u (f o t)) : Kept u (s.withRandom k j n f) := by
  unfold State.withRandom
  split
  · exact hf _ _ (kept_drawFrom _ _ h)
  · simp [h]

theorem kept_execRsaCrt {u : State} (key : Nat) {s : State} (h : Kept u s) :
    KeptO u (execRsaCrt key s) := by
  unfold execRsaCrt
  try dsimp only
  repeat' (first | with_reducible assumption | with_reducible apply kept_each | with_reducible apply Kept.foldl | with_reducible apply KeptO.next | with_reducible apply Kept.ite | with_reducible apply kept_fail | with_reducible apply kept_finishOut | with_reducible apply kept_lenGate | with_reducible apply kept_onHeld | with_reducible apply kept_need | with_reducible apply kept_withSlot | intro _ | ((split)) | (simp (maxDischargeDepth := 99) [*]; done))

theorem kept_execEcdsaP256Sign {u : State} (key : Nat) {s : State} (h : Kept u s) :
    KeptO u (execEcdsaP256Sign key s) := by
  unfold execEcdsaP256Sign; simp (maxDischargeDepth := 99) +contextual [*]

@[simp ↓] theorem kept_ecdsaVer {u : State} {s : State} (k : Nat) (j : Job) (c : Curve) (h : Kept u s) :
    Kept u (s.ecdsaVer k j c) := by
  unfold State.ecdsaVer; simp only []; repeat' (first | (simp (maxDischargeDepth := 99) +contextual [*]; done) | split)

theorem kept_execEcdsaP256Ver {u : State} (key : Nat) {s : State} (h : Kept u s) :
    KeptO u (execEcdsaP256Ver key s) := by
  unfold execEcdsaP256Ver; simp (maxDischargeDepth := 99) [*]

theorem kept_execEcdsaP384Ver {u : State} (key : Nat) {s : State} (h : Kept u s) :
    KeptO u (execEcdsaP384Ver key s) := by
  unfold execEcdsaP384Ver; simp (maxDischargeDepth := 99) [*]

theorem kept_execEcdhP256 {u : State} (key : Nat) {s : State} (h : Kept u s) :
    KeptO u (execEcdhP256 key s) := by
  unfold execEcdhP256
  try dsimp only
  repeat' (first | with_reducible assumption | with_reducible apply kept_each | with_reducible apply Kept.foldl | with_reducible apply KeptO.next | with_reducible apply Kept.ite | with_reducible apply kept_fail | with_reducible apply kept_fillSlot | with_reducible apply kept_lenGate | with_reducible apply kept_onHeld | with_reducible apply kept_need | with_reducible apply kept_withSlot | intro _ | ((split)) | (simp (maxDischargeDepth := 99) [*]; done))

@[simp ↓] theorem kept_cryptogram {u : State} {s : State} (key : Nat) (j : Job) (h0 : Nat) (h : Kept u s) :
    Kept u (s.cryptogram key j h0) := by
  unfold State.cryptogram; simp (maxDischargeDepth := 99) [*]

theorem kept_execCryptogramVer {u : State} (key : Nat) {s : State} (h : Kept u s) :
    KeptO u (execCryptogramVer key s) := by
  unfold execCryptogramVer
  repeat' (first | (simp (maxDischargeDepth := 99) +contextual [*]; done) | intro _ | ((split)) | with_reducible apply kept_each | with_reducible apply Kept.foldl | with_reducible apply kept_onHeld | with_reducible apply kept_fail | with_reducible apply kept_cryptogram)

theorem kept_execPinTranslate {u : State} (key : Nat) {s : State} (h : Kept u s) :
    KeptO u (execPinTranslate key s) := by
  unfold execPinTranslate; simp (maxDischargeDepth := 99) [*]

theorem kept_execKdfTree {u : State} (key : Nat) {s : State} (h : Kept u s) :
    KeptO u (execKdfTree key s) := by
  unfold execKdfTree
  try dsimp only
  repeat' (first | with_reducible assumption | with_reducible apply kept_each | with_reducible apply Kept.foldl | with_reducible apply KeptO.next | with_reducible apply Kept.ite | with_reducible apply kept_fail | with_reducible apply kept_fillSlot | with_reducible apply kept_lenGate | with_reducible apply kept_onHeld | with_reducible apply kept_need | with_reducible apply kept_withSlot | intro _ | ((split)) | (simp (maxDischargeDepth := 99) [*]; done))

@[simp ↓] theorem kept_tuakJob {u : State} {s : State} (key : Nat) (j : Job) (h0 : Nat) (h : Kept u s) :
    Kept u (s.tuakJob key j h0) := by
  unfold State.tuakJob; simp (maxDischargeDepth := 99) [*]

theorem kept_execAkaTuak {u : State} (key : Nat) {s : State} (h : Kept u s) :
    KeptO u (execAkaTuak key s) := by
  unfold execAkaTuak
  repeat' (first | (simp (maxDischargeDepth := 99) +contextual [*]; done) | intro _ | ((split)) | with_reducible apply kept_each | with_reducible apply Kept.foldl | with_reducible apply kept_onHeld | with_reducible apply kept_fail | with_reducible apply kept_tuakJob)

theorem kept_execMlkemKeygen {u : State} (key : Nat) {s : State} (h : Kept u s) :
    KeptO u (execMlkemKeygen key s) := by
  unfold execMlkemKeygen; simp (maxDischargeDepth := 99) +contextual [*]

theorem kept_execMlkemEncaps {u : State} (key : Nat) {s : State} (h : Kept u s) :
    KeptO u (execMlkemEncaps key s) := by
  unfold execMlkemEncaps; simp (maxDischargeDepth := 99) +contextual [*]

theorem kept_execMlkemDecaps {u : State} (key : Nat) {s : State} (h : Kept u s) :
    KeptO u (execMlkemDecaps key s) := by
  unfold execMlkemDecaps
  try dsimp only
  repeat' (first | with_reducible assumption | with_reducible apply kept_each | with_reducible apply Kept.foldl | with_reducible apply KeptO.next | with_reducible apply Kept.ite | with_reducible apply kept_fail | with_reducible apply kept_finish | with_reducible apply kept_lenGate | with_reducible apply kept_onHeld | with_reducible apply kept_need | with_reducible apply kept_withSlot | intro _ | ((split)) | (simp (maxDischargeDepth := 99) [*]; done))

theorem kept_execMldsaKeygen {u : State} (key : Nat) {s : State} (h : Kept u s) :
    KeptO u (execMldsaKeygen key s) := by
  unfold execMldsaKeygen; simp (maxDischargeDepth := 99) +contextual [*]

theorem kept_execMldsaSign {u : State} (key : Nat) {s : State} (h : Kept u s) :
    KeptO u (execMldsaSign key s) := by
  unfold execMldsaSign
  dsimp only
  repeat' (first | (simp (maxDischargeDepth := 99) +contextual [*]; done) | intro _ | ((split)) | with_reducible apply kept_each | with_reducible apply Kept.foldl | with_reducible apply kept_withSlot | with_reducible apply kept_onHeld | with_reducible apply kept_need | with_reducible apply kept_lenGate | with_reducible apply kept_withRandom | with_reducible apply kept_fail | with_reducible apply kept_finishOut | with_reducible apply kept_withRandom)

theorem kept_execMldsaVerify {u : State} (key : Nat) {s : State} (h : Kept u s) :
    KeptO u (execMldsaVerify key s) := by
  unfold execMldsaVerify; simp (maxDischargeDepth := 99) [*]

end Sys2Proof.Machine
end

