-- ==== Sys2Proof/Laws/KeptFlash.lean ====
section
/-! SUPPORT. What the operations of Machine/Flash.lean keep. -/
namespace Sys2Proof.Machine

@[simp ↓] theorem kept_setSector {u : State} {s : State} (n : Nat) (v : Nat) (h : Kept u s) :
    Kept u (s.setSector n v) := by
  unfold State.setSector; simp (maxDischargeDepth := 99) [*]

@[simp ↓] theorem kept_portHEnd {u : State} {s : State} (o : FlOp) (status : Nat) (h : Kept u s) :
    Kept u (s.portHEnd o status) := by
  unfold State.portHEnd; simp (maxDischargeDepth := 99) [*]

@[simp ↓] theorem kept_eraseSector {u : State} {s : State} (n : Nat) (h : Kept u s) :
    Kept u (s.eraseSector n) := by
  unfold State.eraseSector; simp (maxDischargeDepth := 99) [*]

@[simp ↓] theorem kept_arrayEnd {u : State} {s : State} (o : FlOp) (status : Nat) (h : Kept u s) :
    Kept u (s.arrayEnd o status) := by
  unfold State.arrayEnd; repeat' (first | (simp (maxDischargeDepth := 99) [*]; done) | split)

@[simp ↓] theorem kept_opStart {u : State} {s : State} (o : FlOp) (h : Kept u s) :
    Kept u (s.opStart o) := by
  unfold State.opStart; repeat' (first | (simp (maxDischargeDepth := 99) [*]; done) | split)

@[simp ↓] theorem kept_opNext {u : State} {s : State} (h : Kept u s) :
    Kept u (s.opNext) := by
  unfold State.opNext; repeat' (first | (simp (maxDischargeDepth := 99) [*]; done) | split)

@[simp ↓] theorem kept_opEnd {u : State} {s : State} (o : FlOp) (status : Nat) (h : Kept u s) :
    Kept u (s.opEnd o status) := by
  unfold State.opEnd; simp (maxDischargeDepth := 99) [*]

@[simp ↓] theorem kept_portH {u : State} {s : State} (req : Requester) (o : FlOp) (form : Bool) (h : Kept u s) :
    Kept u (s.portH req o form) := by
  unfold State.portH; repeat' (first | (simp (maxDischargeDepth := 99) [*]; done) | split)

theorem kept_execProgram {u : State} (req : Requester) {s : State} (h : Kept u s) :
    KeptO u (execProgram req s) := by
  unfold execProgram; simp (maxDischargeDepth := 99) [*]

theorem kept_execErase {u : State} (req : Requester) {s : State} (h : Kept u s) :
    KeptO u (execErase req s) := by
  unfold execErase; simp (maxDischargeDepth := 99) [*]

theorem kept_execMapProgram {u : State} (req : Requester) {s : State} (h : Kept u s) :
    KeptO u (execMapProgram req s) := by
  unfold execMapProgram; simp (maxDischargeDepth := 99) [*]

@[simp ↓] theorem kept_suspendErase {u : State} {s : State} (o : FlOp) (inPulse : Bool) (byD : Bool) (h : Kept u s) :
    Kept u (s.suspendErase o inPulse byD) := by
  unfold State.suspendErase; simp (maxDischargeDepth := 99) [*]

theorem kept_execSuspend {u : State} (req : Requester) (inPulse : Bool) {s : State} (h : Kept u s) :
    KeptO u (execSuspend req inPulse s) := by
  unfold execSuspend; repeat' (first | (simp (maxDischargeDepth := 99) [*]; done) | split)

theorem kept_execResume {u : State} (req : Requester) {s : State} (h : Kept u s) :
    KeptO u (execResume req s) := by
  unfold execResume; repeat' (first | (simp (maxDischargeDepth := 99) [*]; done) | split)

theorem kept_execPortDProgram {u : State} (page : Nat) (seg : Option (Nat × Bool)) (data : List Octet) (inPulse : Bool) {s : State} (h : Kept u s) :
    KeptO u (execPortDProgram page seg data inPulse s) := by
  unfold execPortDProgram; simp only []; repeat' (first | (simp (maxDischargeDepth := 99) +contextual [*]; done) | split)

theorem kept_execFlashPulseDone {u : State} (pass : Bool) {s : State} (h : Kept u s) :
    KeptO u (execFlashPulseDone pass s) := by
  unfold execFlashPulseDone; repeat' (first | (simp (maxDischargeDepth := 99) [*]; done) | split)

@[simp ↓] theorem kept_abortOps {u : State} {s : State} (status : Nat) (h0 : Bool) (d : Bool) (h : Kept u s) :
    Kept u (s.abortOps status h0 d) := by
  unfold State.abortOps; simp only []; repeat' (first | (simp (maxDischargeDepth := 99) +contextual [*]; done) | split)

theorem kept_execBrownout {u : State} {s : State} (h : Kept u s) :
    KeptO u (execBrownout s) := by
  unfold execBrownout; simp (maxDischargeDepth := 99) [*]

theorem kept_execBrownoutClear {u : State} {s : State} (h : Kept u s) :
    KeptO u (execBrownoutClear s) := by
  unfold execBrownoutClear; simp (maxDischargeDepth := 99) [*]

theorem kept_execFlashWpChange {u : State} (low : Bool) {s : State} (h : Kept u s) :
    KeptO u (execFlashWpChange low s) := by
  unfold execFlashWpChange; simp (maxDischargeDepth := 99) [*]

theorem kept_execFlashScanDone {u : State} {s : State} (h : Kept u s) :
    KeptO u (execFlashScanDone s) := by
  unfold execFlashScanDone; simp (maxDischargeDepth := 99) +contextual [*]

@[simp ↓] theorem kept_flashReset {u : State} {s : State} (h : Kept u s) :
    Kept u (s.flashReset) := by
  unfold State.flashReset; simp only []; repeat' (first | (simp (maxDischargeDepth := 99) +contextual [*]; done) | split)

@[simp ↓] theorem kept_flashLoss {u : State} {s : State} (h : Kept u s) :
    Kept u (s.flashLoss) := by
  unfold State.flashLoss; repeat' (first | (simp (maxDischargeDepth := 99) [*]; done) | split)

@[simp ↓] theorem kept_flashRead {u : State} {s : State} (req : Requester) (i : Nat) (corr : Nat) (fail : Bool) (h : Kept u s) :
    Kept u (s.flashRead req i corr fail).1 := by
  unfold State.flashRead; simp only []; repeat' (first | (simp (maxDischargeDepth := 99) +contextual [*]; done) | split)

theorem kept_flashRead_of {u : State} {s : State} {req : Requester} {i : Nat} {corr : Nat} {fail : Bool} {t0 : State} {a0 : Word} (e : (s.flashRead req i corr fail) = (t0, a0)) (h : Kept u s) : Kept u t0 :=
  Kept.fst_of (kept_flashRead req i corr fail h) e

theorem kept_execFlashWindowRead {u : State} (req : Requester) (i : Nat) (corr : Nat) (fail : Bool) {s : State} (h : Kept u s) :
    KeptO u (execFlashWindowRead req i corr fail s) := by
  unfold execFlashWindowRead; simp only []; repeat' (first | (simp (maxDischargeDepth := 99) +contextual [*]; done) | split)

end Sys2Proof.Machine
end

