-- ==== Sys2Proof/Laws/KeptNet.lean ====
section
/-! SUPPORT. What the operations of Machine/Net.lean keep. -/
namespace Sys2Proof.Machine

@[simp ↓] theorem kept_recompute {u : State} {s : State} (pl : Placement) (h : Kept u s) :
    Kept u (s.recompute pl) := by
  unfold State.recompute; simp (maxDischargeDepth := 99) [*]

@[simp ↓] theorem kept_stagePl {u : State} {s : State} (req : Requester) (word : Nat) (f : Placement → Placement) (h : Kept u s) :
    Kept u (s.stagePl req word f) := by
  unfold State.stagePl; simp (maxDischargeDepth := 99) [*]

@[simp ↓] theorem kept_wMemberData {u : State} {s : State} (req : Requester) (val : Word) (h : Kept u s) :
    Kept u (s.wMemberData req val) := by
  unfold State.wMemberData; simp (maxDischargeDepth := 99) [*]

@[simp ↓] theorem kept_wOvrData {u : State} {s : State} (req : Requester) (word : Nat) (val : Word) (h : Kept u s) :
    Kept u (s.wOvrData req word val) := by
  unfold State.wOvrData; simp (maxDischargeDepth := 99) [*]

@[simp ↓] theorem kept_wSalt {u : State} {s : State} (req : Requester) (val : DWord) (h : Kept u s) :
    Kept u (s.wSalt req val) := by
  unfold State.wSalt; simp (maxDischargeDepth := 99) [*]

theorem kept_execPlaceCommit {u : State} (req : Requester) {s : State} (h : Kept u s) :
    KeptO u (execPlaceCommit req s) := by
  unfold execPlaceCommit; simp (maxDischargeDepth := 99) +contextual [*]

theorem kept_execPlaceDiscard {u : State} (req : Requester) {s : State} (h : Kept u s) :
    KeptO u (execPlaceDiscard req s) := by
  unfold execPlaceDiscard; simp (maxDischargeDepth := 99) [*]

theorem kept_execPlaceLookup {u : State} (_req : Requester) {s : State} (h : Kept u s) :
    KeptO u (execPlaceLookup _req s) := by
  unfold execPlaceLookup; simp (maxDischargeDepth := 99) [*]

theorem kept_execLookupDone {u : State} {s : State} (h : Kept u s) :
    KeptO u (execLookupDone s) := by
  unfold execLookupDone; simp (maxDischargeDepth := 99) [*]

theorem kept_execRecomputeDone {u : State} {s : State} (h : Kept u s) :
    KeptO u (execRecomputeDone s) := by
  unfold execRecomputeDone; repeat' (first | (simp (maxDischargeDepth := 99) [*]; done) | split)

theorem kept_execMembershipFrameReceive {u : State} (src : Nat) (epoch : BitVec 18) (members : List (Nat × Word)) (ovrs : List (Nat × Word × Word × Word × Word)) (salt : Option (BitVec 36)) {s : State} (h : Kept u s) :
    KeptO u (execMembershipFrameReceive src epoch members ovrs salt s) := by
  unfold execMembershipFrameReceive; repeat' (first | (simp (maxDischargeDepth := 99) [*]; done) | split)

theorem kept_execResyncReceive {u : State} (epoch : BitVec 18) (members : List (Nat × Word)) (ovrs : List (Nat × Word × Word × Word × Word)) (salt : BitVec 36) {s : State} (h : Kept u s) :
    KeptO u (execResyncReceive epoch members ovrs salt s) := by
  unfold execResyncReceive; simp (maxDischargeDepth := 99) [*]

@[simp ↓] theorem kept_freeTag {u : State} {s : State} (tag : Nat) (h : Kept u s) :
    Kept u (s.freeTag tag) := by
  unfold State.freeTag; simp (maxDischargeDepth := 99) [*]

@[simp ↓] theorem kept_sendFwd {u : State} {s : State} (k : Nat) (j : Job) (f : Fwd) (h : Kept u s) :
    Kept u (s.sendFwd k j f) := by
  unfold State.sendFwd; simp (maxDischargeDepth := 99) [*]

@[simp ↓] theorem kept_seeEpoch {u : State} {s : State} (src : Nat) (epoch : BitVec 18) (h : Kept u s) :
    Kept u (s.seeEpoch src epoch) := by
  unfold State.seeEpoch; simp (maxDischargeDepth := 99) [*]

theorem kept_execForwardReceive {u : State} (origin : Nat) (tag : Nat) (epoch : BitVec 18) (cls : Nat) (resWait : Bool) (rdyWait : Bool) (qkey : BitVec 16) (gb : Bool) (cells : List Octet) (data : List (Nat × List Octet)) (verdict : Nat) (ctx : Option (List Word)) {s : State} (h : Kept u s) :
    KeptO u (execForwardReceive origin tag epoch cls resWait rdyWait qkey gb cells data verdict ctx s) := by
  unfold execForwardReceive; simp only []; repeat' (first | (simp (maxDischargeDepth := 99) +contextual [*]; done) | split)

theorem kept_execForwardAckReceive {u : State} (src : Nat) (tag : Nat) {s : State} (h : Kept u s) :
    KeptO u (execForwardAckReceive src tag s) := by
  unfold execForwardAckReceive; repeat' (first | (simp (maxDischargeDepth := 99) [*]; done) | split)

theorem kept_execForwardTimeout {u : State} (tag : Nat) {s : State} (h : Kept u s) :
    KeptO u (execForwardTimeout tag s) := by
  unfold execForwardTimeout; repeat' (first | (simp (maxDischargeDepth := 99) [*]; done) | split)

theorem kept_execMoved {u : State} (tag : Nat) (epoch : BitVec 18) {s : State} (h : Kept u s) :
    KeptO u (execMoved tag epoch s) := by
  unfold execMoved; simp only []; repeat' (first | (simp (maxDischargeDepth := 99) +contextual [*]; done) | split)

theorem kept_execMovedResend {u : State} (tag : Nat) {s : State} (h : Kept u s) :
    KeptO u (execMovedResend tag s) := by
  unfold execMovedResend; repeat' (first | (simp (maxDischargeDepth := 99) [*]; done) | split)

theorem kept_execHeartbeat {u : State} (dst : Nat) {s : State} (h : Kept u s) :
    KeptO u (execHeartbeat dst s) := by
  unfold execHeartbeat; simp (maxDischargeDepth := 99) [*]

theorem kept_execForwardResultReceive {u : State} (src : Nat) (tag : Nat) (status : Nat) (octets : List Octet) (outs : List (Nat × List Octet)) (ctx : Option (List Word)) {s : State} (h : Kept u s) :
    KeptO u (execForwardResultReceive src tag status octets outs ctx s) := by
  unfold execForwardResultReceive; simp only []; repeat' (first | (simp (maxDischargeDepth := 99) +contextual [*]; done) | split)

theorem kept_execResultAckReceive {u : State} (src : Nat) (tag : Nat) {s : State} (h : Kept u s) :
    KeptO u (execResultAckReceive src tag s) := by
  unfold execResultAckReceive; repeat' (first | (simp (maxDischargeDepth := 99) [*]; done) | split)

theorem kept_execForwardAbortReceive {u : State} (src : Nat) (tag : Nat) {s : State} (h : Kept u s) :
    KeptO u (execForwardAbortReceive src tag s) := by
  unfold execForwardAbortReceive; simp only []; repeat' (first | (simp (maxDischargeDepth := 99) +contextual [*]; done) | split)

theorem kept_execForwardAbortAck {u : State} (q : Nat) (tag : Nat) {s : State} (h : Kept u s) :
    KeptO u (execForwardAbortAck q tag s) := by
  unfold execForwardAbortAck; simp (maxDischargeDepth := 99) [*]

@[simp ↓] theorem kept_nak {u : State} {s : State} (i : Nat) (h : Kept u s) :
    Kept u (s.nak i) := by
  unfold State.nak; simp (maxDischargeDepth := 99) [*]

@[simp ↓] theorem kept_crcError {u : State} {s : State} (i : Nat) (h : Kept u s) :
    Kept u (s.crcError i) := by
  unfold State.crcError; simp (maxDischargeDepth := 99) [*]

@[simp ↓] theorem kept_acked {u : State} {s : State} (i : Nat) (ackseq : Nat) (h : Kept u s) :
    Kept u (s.acked i ackseq) := by
  unfold State.acked; simp (maxDischargeDepth := 99) [*]

@[simp ↓] theorem kept_takeFlit {u : State} {s : State} (i : Nat) (typ : Nat) (vc : Nat) (seq : Nat) (ackseq : Nat) (payload : List Octet) (h : Kept u s) :
    Kept u (s.takeFlit i typ vc seq ackseq payload) := by
  unfold State.takeFlit; simp (maxDischargeDepth := 99) [*]

theorem kept_execFlitReceive {u : State} (port : Nat) (flit : List Octet) {s : State} (h : Kept u s) :
    KeptO u (execFlitReceive port flit s) := by
  unfold execFlitReceive; simp (maxDischargeDepth := 99) [*]

theorem kept_execNakReceive {u : State} (port : Nat) {s : State} (h : Kept u s) :
    KeptO u (execNakReceive port s) := by
  unfold execNakReceive; simp (maxDischargeDepth := 99) [*]

@[simp ↓] theorem kept_delivered {u : State} {s : State} (text : List Octet) (h : Kept u s) :
    Kept u (s.delivered text) := by
  unfold State.delivered; repeat' (first | (simp (maxDischargeDepth := 99) [*]; done) | split)

theorem kept_execDenletMessageReceive {u : State} (port : Nat) (len : Nat) (dst : Nat) {s : State} (h : Kept u s) :
    KeptO u (execDenletMessageReceive port len dst s) := by
  unfold execDenletMessageReceive; simp only []; repeat' (first | (simp (maxDischargeDepth := 99) +contextual [*]; done) | split)

theorem kept_execLinkRekey {u : State} (port : Nat) (tx : Bool) {s : State} (h : Kept u s) :
    KeptO u (execLinkRekey port tx s) := by
  unfold execLinkRekey; simp (maxDischargeDepth := 99) [*]

theorem kept_execDenletSilence {u : State} (port : Nat) {s : State} (h : Kept u s) :
    KeptO u (execDenletSilence port s) := by
  unfold execDenletSilence; simp (maxDischargeDepth := 99) [*]

theorem kept_execTrainDone {u : State} (port : Nat) (ok : Bool) {s : State} (h : Kept u s) :
    KeptO u (execTrainDone port ok s) := by
  unfold execTrainDone; simp (maxDischargeDepth := 99) [*]

@[simp ↓] theorem kept_linkUpNow {u : State} {s : State} (i : Nat) (peer : Nat) (h : Kept u s) :
    Kept u (s.linkUpNow i peer) := by
  unfold State.linkUpNow; simp (maxDischargeDepth := 99) [*]

theorem kept_execAttestDone {u : State} (port : Nat) (certOk : Bool) (anchors : List Octet) (sigOk : Bool) (peer : Nat) (epoch : BitVec 18) {s : State} (h : Kept u s) :
    KeptO u (execAttestDone port certOk anchors sigOk peer epoch s) := by
  unfold execAttestDone; simp (maxDischargeDepth := 99) [*]

theorem kept_execEqIdleInsert {u : State} (port : Nat) {s : State} (h : Kept u s) :
    KeptO u (execEqIdleInsert port s) := by
  unfold execEqIdleInsert; simp (maxDischargeDepth := 99) [*]

@[simp ↓] theorem kept_startPort {u : State} {s : State} (i : Nat) (h : Kept u s) :
    Kept u (s.startPort i) := by
  unfold State.startPort; simp (maxDischargeDepth := 99) [*]

@[simp ↓] theorem kept_stopPort {u : State} {s : State} (i : Nat) (h : Kept u s) :
    Kept u (s.stopPort i) := by
  unfold State.stopPort; simp (maxDischargeDepth := 99) [*]

@[simp ↓] theorem kept_portStopped {u : State} {s : State} (i : Nat) (h : Kept u s) :
    Kept u (s.portStopped i) := by
  unfold State.portStopped; simp (maxDischargeDepth := 99) [*]

@[simp ↓] theorem kept_netRouteNext {u : State} {s : State} (h : Kept u s) :
    Kept u (s.netRouteNext) := by
  unfold State.netRouteNext; simp (maxDischargeDepth := 99) [*]

@[simp ↓] theorem kept_rNetRoute {u : State} {s : State} (h : Kept u s) :
    Kept u (s.rNetRoute).1 := by
  unfold State.rNetRoute; simp (maxDischargeDepth := 99) [*]

theorem kept_rNetRoute_of {u : State} {s : State} {t0 : State} {a0 : Word} (e : (s.rNetRoute) = (t0, a0)) (h : Kept u s) : Kept u t0 :=
  Kept.fst_of (kept_rNetRoute h) e

@[simp ↓] theorem kept_wNetRoute {u : State} {s : State} (val : Word) (h : Kept u s) :
    Kept u (s.wNetRoute val) := by
  unfold State.wNetRoute; simp (maxDischargeDepth := 99) [*]

@[simp ↓] theorem kept_wTopo {u : State} {s : State} (req : Requester) (val : Word) (h : Kept u s) :
    Kept u (s.wTopo req val) := by
  unfold State.wTopo; simp (maxDischargeDepth := 99) [*]

@[simp ↓] theorem kept_showMaster {u : State} {s : State} (h : Kept u s) :
    Kept u (s.showMaster) := by
  unfold State.showMaster; simp (maxDischargeDepth := 99) [*]

@[simp ↓] theorem kept_timeUnlock {u : State} {s : State} (h : Kept u s) :
    Kept u (s.timeUnlock) := by
  unfold State.timeUnlock; simp (maxDischargeDepth := 99) [*]

@[simp ↓] theorem kept_follow {u : State} {s : State} (ofs : Int) (h : Kept u s) :
    Kept u (s.follow ofs) := by
  unfold State.follow; simp (maxDischargeDepth := 99) [*]

theorem kept_execTimeExchange {u : State} (port : Nat) (t1 : Nat) (t2 : Nat) (t3 : Nat) (t4 : Nat) {s : State} (h : Kept u s) :
    KeptO u (execTimeExchange port t1 t2 t3 t4 s) := by
  unfold execTimeExchange; simp (maxDischargeDepth := 99) [*]

theorem kept_execTimeMasterLoss {u : State} {s : State} (h : Kept u s) :
    KeptO u (execTimeMasterLoss s) := by
  unfold execTimeMasterLoss; simp (maxDischargeDepth := 99) [*]

@[simp ↓] theorem kept_wTimeSet {u : State} {s : State} (req : Requester) (word : Nat) (val : Word) (h : Kept u s) :
    Kept u (s.wTimeSet req word val) := by
  unfold State.wTimeSet; simp (maxDischargeDepth := 99) [*]

theorem kept_execTimeSet {u : State} (req : Requester) (val : Word) {s : State} (h : Kept u s) :
    KeptO u (execTimeSet req val s) := by
  unfold execTimeSet; simp (maxDischargeDepth := 99) [*]

end Sys2Proof.Machine
end

