-- ==== Sys2Proof/Laws/KeptStation.lean ====
section
/-! SUPPORT. What the operations of Machine/Station.lean keep. -/
namespace Sys2Proof.Machine

@[simp ↓] theorem kept_stnFinish {u : State} {s : State} (k : Nat) (j : Job) (status : Nat) (result : optParam (List Octet) []) (h : Kept u s) :
    Kept u (s.stnFinish k j status result) := by
  unfold State.stnFinish; simp (maxDischargeDepth := 99) [*]

@[simp ↓] theorem kept_clearIdent {u : State} {s : State} (k : Nat) (h : Kept u s) :
    Kept u (s.clearIdent k) := by
  unfold State.clearIdent; simp (maxDischargeDepth := 99) [*]

@[simp ↓] theorem kept_assocFail {u : State} {s : State} (n : Nat) (h : Kept u s) :
    Kept u (s.assocFail n) := by
  unfold State.assocFail; simp (maxDischargeDepth := 99) [*]

@[simp ↓] theorem kept_identified {u : State} {s : State} (n : Nat) (k : Nat) (id : List Octet) (h : Kept u s) :
    Kept u (s.identified n k id) := by
  unfold State.identified; simp (maxDischargeDepth := 99) [*]

@[simp ↓] theorem kept_apduEnd {u : State} {s : State} (k : Nat) (j : Job) (x : Exch) (sw : List Octet) (data : List Octet) (extra : Nat) (h : Kept u s) :
    Kept u (s.apduEnd k j x sw data extra) := by
  unfold State.apduEnd; simp (maxDischargeDepth := 99) [*]

end Sys2Proof.Machine
end

