-- ==== Sys2Proof/Laws/KeptContact.lean ====
section
/-! SUPPORT. What the operations of Machine/Contact.lean keep. -/
namespace Sys2Proof.Machine

@[simp ↓] theorem kept_setCphase {u : State} {s : State} (n : Nat) (v : Nat) (h : Kept u s) :
    Kept u (s.setCphase n v) := by
  unfold State.setCphase; simp (maxDischargeDepth := 99) [*]

@[simp ↓] theorem kept_setCexposed {u : State} {s : State} (n : Nat) (b : Bool) (h : Kept u s) :
    Kept u (s.setCexposed n b) := by
  unfold State.setCexposed; simp (maxDischargeDepth := 99) [*]

@[simp ↓] theorem kept_modCx {u : State} {s : State} (n : Nat) (f : Exch → Exch) (h : Kept u s) :
    Kept u (s.modCx n f) := by
  unfold State.modCx; simp (maxDischargeDepth := 99) [*]

@[simp ↓] theorem kept_crep {u : State} {s : State} (n : Nat) (k : Nat) (h : Kept u s) :
    Kept u (s.crep n k) := by
  unfold State.crep; simp (maxDischargeDepth := 99) +contextual [*]

@[simp ↓] theorem kept_cbegin {u : State} {s : State} (n : Nat) (cls : Nat) (noPps : Bool) (h : Kept u s) :
    Kept u (s.cbegin n cls noPps) := by
  unfold State.cbegin; simp (maxDischargeDepth := 99) [*]

@[simp ↓] theorem kept_cafter {u : State} {s : State} (n : Nat) (h : Kept u s) :
    Kept u (s.cafter n) := by
  unfold State.cafter; simp only []; repeat' (first | (simp (maxDischargeDepth := 99) +contextual [*]; done) | split)

@[simp ↓] theorem kept_cdeact {u : State} {s : State} (n : Nat) (next : CstNext) (endWith : Option Nat) (h : Kept u s) :
    Kept u (s.cdeact n next endWith) := by
  unfold State.cdeact; simp (maxDischargeDepth := 99) [*]

@[simp ↓] theorem kept_cfail {u : State} {s : State} (n : Nat) (h : Kept u s) :
    Kept u (s.cfail n) := by
  unfold State.cfail; repeat' (first | (simp (maxDischargeDepth := 99) [*]; done) | split)

@[simp ↓] theorem kept_cnextClass {u : State} {s : State} (n : Nat) (h : Kept u s) :
    Kept u (s.cnextClass n) := by
  unfold State.cnextClass; repeat' (first | (simp (maxDischargeDepth := 99) [*]; done) | split)

@[simp ↓] theorem kept_crest {u : State} {s : State} (n : Nat) (h : Kept u s) :
    Kept u (s.crest n) := by
  unfold State.crest; simp (maxDischargeDepth := 99) [*]

@[simp ↓] theorem kept_t0Send {u : State} {s : State} (n : Nat) (hdr : List Octet) (data : List Octet) (expect : Nat) (h : Kept u s) :
    Kept u (s.t0Send n hdr data expect) := by
  unfold State.t0Send; simp (maxDischargeDepth := 99) [*]

@[simp ↓] theorem kept_t1Ctl {u : State} {s : State} (n : Nat) (pcb : Nat) (inf : List Octet) (h : Kept u s) :
    Kept u (s.t1Ctl n pcb inf) := by
  unfold State.t1Ctl; simp (maxDischargeDepth := 99) [*]

@[simp ↓] theorem kept_t1Next {u : State} {s : State} (n : Nat) (h : Kept u s) :
    Kept u (s.t1Next n) := by
  unfold State.t1Next; simp (maxDischargeDepth := 99) [*]

@[simp ↓] theorem kept_csend {u : State} {s : State} (n : Nat) (h : Kept u s) :
    Kept u (s.csend n) := by
  unfold State.csend; simp (maxDischargeDepth := 99) [*]

@[simp ↓] theorem kept_ccommand {u : State} {s : State} (n : Nat) (k : Nat) (j : Job) (implicit : Bool) (h : Kept u s) :
    Kept u (s.ccommand n k j implicit) := by
  unfold State.ccommand; simp (maxDischargeDepth := 99) [*]

@[simp ↓] theorem kept_csettle {u : State} {s : State} (n : Nat) (pair : Octet) (t1 : Bool) (h : Kept u s) :
    Kept u (s.csettle n pair t1) := by
  unfold State.csettle; simp only []; repeat' (first | (simp (maxDischargeDepth := 99) +contextual [*]; done) | split)

@[simp ↓] theorem kept_cparams {u : State} {s : State} (n : Nat) (f : List IfOct) (h : Kept u s) :
    Kept u (s.cparams n f) := by
  unfold State.cparams; simp only []; repeat' (first | (simp (maxDischargeDepth := 99) +contextual [*]; done) | split)

@[simp ↓] theorem kept_catrFail {u : State} {s : State} (n : Nat) (h : Kept u s) :
    Kept u (s.catrFail n) := by
  unfold State.catrFail; simp (maxDischargeDepth := 99) [*]

@[simp ↓] theorem kept_cstStart {u : State} {s : State} (k : Nat) (j : Job) (h : Kept u s) :
    Kept u (s.cstStart k j) := by
  unfold State.cstStart; simp only []; repeat' (first | (simp (maxDischargeDepth := 99) +contextual [*]; done) | split)

@[simp ↓] theorem kept_cstRow {u : State} {s : State} (k : Nat) (j : Job) (h : Kept u s) :
    Kept u (s.cstRow k j) := by
  unfold State.cstRow; simp (maxDischargeDepth := 99) [*]

@[simp ↓] theorem kept_cstCmd {u : State} {s : State} (key : Nat) (op : Nat) (h : Kept u s) :
    KeptO u (s.cstCmd key op) := by
  unfold State.cstCmd; repeat' (first | (simp (maxDischargeDepth := 99) [*]; done) | split)

theorem kept_execCstActivate {u : State} (key : Nat) {s : State} (h : Kept u s) :
    KeptO u (execCstActivate key s) := by
  unfold execCstActivate; simp (maxDischargeDepth := 99) [*]

theorem kept_execCstApdu {u : State} (key : Nat) {s : State} (h : Kept u s) :
    KeptO u (execCstApdu key s) := by
  unfold execCstApdu; simp (maxDischargeDepth := 99) [*]

theorem kept_execCstDeactivate {u : State} (key : Nat) {s : State} (h : Kept u s) :
    KeptO u (execCstDeactivate key s) := by
  unfold execCstDeactivate; simp (maxDischargeDepth := 99) [*]

theorem kept_execCstWarmReset {u : State} (key : Nat) {s : State} (h : Kept u s) :
    KeptO u (execCstWarmReset key s) := by
  unfold execCstWarmReset; simp (maxDischargeDepth := 99) [*]

theorem kept_execAtrReceive {u : State} (stn : Nat) (octets : List Octet) (parity : Bool) {s : State} (h : Kept u s) :
    KeptO u (execAtrReceive stn octets parity s) := by
  unfold execAtrReceive; repeat' (first | (simp (maxDischargeDepth := 99) +contextual [*]; done) | split)

theorem kept_execAtrTimeout {u : State} (stn : Nat) {s : State} (h : Kept u s) :
    KeptO u (execAtrTimeout stn s) := by
  unfold execAtrTimeout; simp (maxDischargeDepth := 99) [*]

theorem kept_execAtrCharacterTimeout {u : State} (stn : Nat) {s : State} (h : Kept u s) :
    KeptO u (execAtrCharacterTimeout stn s) := by
  unfold execAtrCharacterTimeout; simp (maxDischargeDepth := 99) [*]

theorem kept_execClassRetryWait {u : State} (stn : Nat) {s : State} (h : Kept u s) :
    KeptO u (execClassRetryWait stn s) := by
  unfold execClassRetryWait; repeat' (first | (simp (maxDischargeDepth := 99) [*]; done) | split)

@[simp ↓] theorem kept_cppsFail {u : State} {s : State} (n : Nat) (h : Kept u s) :
    Kept u (s.cppsFail n) := by
  unfold State.cppsFail; simp (maxDischargeDepth := 99) [*]

theorem kept_execPpsResponse {u : State} (stn : Nat) (octets : List Octet) (parity : Bool) {s : State} (h : Kept u s) :
    KeptO u (execPpsResponse stn octets parity s) := by
  unfold execPpsResponse; simp (maxDischargeDepth := 99) [*]

theorem kept_execPpsTimeout {u : State} (stn : Nat) {s : State} (h : Kept u s) :
    KeptO u (execPpsTimeout stn s) := by
  unfold execPpsTimeout; simp (maxDischargeDepth := 99) [*]

@[simp ↓] theorem kept_t0Status {u : State} {s : State} (n : Nat) (sw1 : Octet) (sw2 : Octet) (h : Kept u s) :
    Kept u (s.t0Status n sw1 sw2) := by
  unfold State.t0Status; simp only []; repeat' (first | (simp (maxDischargeDepth := 99) +contextual [*]; done) | split)

@[simp ↓] theorem kept_t0Octet {u : State} {s : State} (n : Nat) (o : Octet) (h : Kept u s) :
    Kept u (s.t0Octet n o) := by
  unfold State.t0Octet; simp only []; repeat' (first | (simp (maxDischargeDepth := 99) +contextual [*]; done) | split)

theorem kept_execT0ProcedureByte {u : State} (stn : Nat) (errs : Nat) (octets : List Octet) {s : State} (h : Kept u s) :
    KeptO u (execT0ProcedureByte stn errs octets s) := by
  unfold execT0ProcedureByte; simp (maxDischargeDepth := 99) +contextual [*]

theorem kept_execWwtExpiry {u : State} (stn : Nat) {s : State} (h : Kept u s) :
    KeptO u (execWwtExpiry stn s) := by
  unfold execWwtExpiry; simp (maxDischargeDepth := 99) [*]

theorem kept_execBusyLimitExpiry {u : State} (stn : Nat) {s : State} (h : Kept u s) :
    KeptO u (execBusyLimitExpiry stn s) := by
  unfold execBusyLimitExpiry; simp (maxDischargeDepth := 99) [*]

@[simp ↓] theorem kept_t1Invalid {u : State} {s : State} (n : Nat) (code : Nat) (h : Kept u s) :
    Kept u (s.t1Invalid n code) := by
  unfold State.t1Invalid; simp (maxDischargeDepth := 99) [*]

@[simp ↓] theorem kept_t1Resynch {u : State} {s : State} (n : Nat) (h : Kept u s) :
    Kept u (s.t1Resynch n) := by
  unfold State.t1Resynch; simp only []; repeat' (first | (simp (maxDischargeDepth := 99) +contextual [*]; done) | split)

@[simp ↓] theorem kept_t1Info {u : State} {s : State} (n : Nat) (more : Bool) (inf : List Octet) (h : Kept u s) :
    Kept u (s.t1Info n more inf) := by
  unfold State.t1Info; simp only []; repeat' (first | (simp (maxDischargeDepth := 99) +contextual [*]; done) | split)

@[simp ↓] theorem kept_t1Ack {u : State} {s : State} (n : Nat) (nr : Bool) (h : Kept u s) :
    Kept u (s.t1Ack n nr) := by
  unfold State.t1Ack; simp (maxDischargeDepth := 99) [*]

@[simp ↓] theorem kept_t1Receive {u : State} {s : State} (n : Nat) (octets : List Octet) (parity : Bool) (h : Kept u s) :
    Kept u (s.t1Receive n octets parity) := by
  unfold State.t1Receive; repeat' (first | (simp (maxDischargeDepth := 99) [*]; done) | split)

theorem kept_execT1BlockReceive {u : State} (stn : Nat) (octets : List Octet) (parity : Bool) {s : State} (h : Kept u s) :
    KeptO u (execT1BlockReceive stn octets parity s) := by
  unfold execT1BlockReceive; simp (maxDischargeDepth := 99) [*]

theorem kept_execBwtExpiry {u : State} (stn : Nat) {s : State} (h : Kept u s) :
    KeptO u (execBwtExpiry stn s) := by
  unfold execBwtExpiry; simp (maxDischargeDepth := 99) [*]

theorem kept_execCwtExpiry {u : State} (stn : Nat) {s : State} (h : Kept u s) :
    KeptO u (execCwtExpiry stn s) := by
  unfold execCwtExpiry; simp (maxDischargeDepth := 99) [*]

theorem kept_execClockStop {u : State} (stn : Nat) {s : State} (h : Kept u s) :
    KeptO u (execClockStop stn s) := by
  unfold execClockStop; simp (maxDischargeDepth := 99) [*]

@[simp ↓] theorem kept_cremove {u : State} {s : State} (n : Nat) (h : Kept u s) :
    Kept u (s.cremove n) := by
  unfold State.cremove; repeat' (first | (simp (maxDischargeDepth := 99) [*]; done) | split)

theorem kept_execPresChange {u : State} (stn : Nat) (high : Bool) {s : State} (h : Kept u s) :
    KeptO u (execPresChange stn high s) := by
  unfold execPresChange; simp (maxDischargeDepth := 99) [*]

theorem kept_execOvercurrent {u : State} (stn : Nat) {s : State} (h : Kept u s) :
    KeptO u (execOvercurrent stn s) := by
  unfold execOvercurrent; simp (maxDischargeDepth := 99) [*]

theorem kept_execDeactDone {u : State} (stn : Nat) {s : State} (h : Kept u s) :
    KeptO u (execDeactDone stn s) := by
  unfold execDeactDone; simp (maxDischargeDepth := 99) [*]

@[simp ↓] theorem kept_cquar {u : State} {s : State} (n : Nat) (h : Kept u s) :
    Kept u (s.cquar n) := by
  unfold State.cquar; simp only []; repeat' (first | (simp (maxDischargeDepth := 99) +contextual [*]; done) | split)

@[simp ↓] theorem kept_cfault {u : State} {s : State} (n : Nat) (h : Kept u s) :
    Kept u (s.cfault n) := by
  unfold State.cfault; simp (maxDischargeDepth := 99) [*]

theorem kept_execStationFault {u : State} (stn : Nat) {s : State} (h : Kept u s) :
    KeptO u (execStationFault stn s) := by
  unfold execStationFault; simp (maxDischargeDepth := 99) [*]

@[simp ↓] theorem kept_stnFlush {u : State} {s : State} (p : Nat) (h : Kept u s) :
    Kept u (s.stnFlush p) := by
  unfold State.stnFlush
  repeat' (first | (simp (maxDischargeDepth := 99) +contextual [*]; done) | intro _ | ((split)) | with_reducible apply kept_each | with_reducible apply Kept.foldl | with_reducible apply kept_stnFinish)

@[simp ↓] theorem kept_cstStop {u : State} {s : State} (n : Nat) (h : Kept u s) :
    Kept u (s.cstStop n) := by
  unfold State.cstStop; simp (maxDischargeDepth := 99) [*]

@[simp ↓] theorem kept_cstBreak {u : State} {s : State} (n : Nat) (status : Nat) (h : Kept u s) :
    Kept u (s.cstBreak n status) := by
  unfold State.cstBreak; repeat' (first | (simp (maxDischargeDepth := 99) [*]; done) | split)

@[simp ↓] theorem kept_cstLoss {u : State} {s : State} (n : Nat) (h : Kept u s) :
    Kept u (s.cstLoss n) := by
  unfold State.cstLoss; simp (maxDischargeDepth := 99) [*]

end Sys2Proof.Machine
end

