-- ==== Sys2Proof/Laws/KeptField.lean ====
section
/-! SUPPORT. What the operations of Machine/Field.lean keep. -/
namespace Sys2Proof.Machine

@[simp ↓] theorem kept_setFphase {u : State} {s : State} (n : Nat) (v : Nat) (h : Kept u s) :
    Kept u (s.setFphase n v) := by
  unfold State.setFphase; simp (maxDischargeDepth := 99) [*]

@[simp ↓] theorem kept_setFbit {u : State} {s : State} (n : Nat) (i : Nat) (b : Bool) (h : Kept u s) :
    Kept u (s.setFbit n i b) := by
  unfold State.setFbit; simp (maxDischargeDepth := 99) [*]

@[simp ↓] theorem kept_modFx {u : State} {s : State} (n : Nat) (f : Exch → Exch) (h : Kept u s) :
    Kept u (s.modFx n f) := by
  unfold State.modFx; simp (maxDischargeDepth := 99) [*]

@[simp ↓] theorem kept_fsend {u : State} {s : State} (n : Nat) (l : List Octet) (h : Kept u s) :
    Kept u (s.fsend n l) := by
  unfold State.fsend; simp (maxDischargeDepth := 99) [*]

@[simp ↓] theorem kept_fieldOff {u : State} {s : State} (n : Nat) (h : Kept u s) :
    Kept u (s.fieldOff n) := by
  unfold State.fieldOff; simp (maxDischargeDepth := 99) [*]

@[simp ↓] theorem kept_fpower {u : State} {s : State} (n : Nat) (h : Kept u s) :
    Kept u (s.fpower n) := by
  unfold State.fpower; simp (maxDischargeDepth := 99) [*]

@[simp ↓] theorem kept_farrive {u : State} {s : State} (n : Nat) (j : Job) (h : Kept u s) :
    Kept u (s.farrive n j) := by
  unfold State.farrive; simp (maxDischargeDepth := 99) [*]

@[simp ↓] theorem kept_frest {u : State} {s : State} (n : Nat) (h : Kept u s) :
    Kept u (s.frest n) := by
  unfold State.frest; simp (maxDischargeDepth := 99) [*]

@[simp ↓] theorem kept_fend {u : State} {s : State} (n : Nat) (status : Nat) (result : optParam (List Octet) []) (h : Kept u s) :
    Kept u (s.fend n status result) := by
  unfold State.fend; repeat' (first | (simp (maxDischargeDepth := 99) [*]; done) | split)

@[simp ↓] theorem kept_factive {u : State} {s : State} (n : Nat) (t : Tag) (isodep : Bool) (rate : Nat) (ats : List Octet) (fsc : Nat) (fwi : Nat) (h : Kept u s) :
    Kept u (s.factive n t isodep rate ats fsc fwi) := by
  unfold State.factive; simp only []; repeat' (first | (simp (maxDischargeDepth := 99) +contextual [*]; done) | split)

@[simp ↓] theorem kept_fask {u : State} {s : State} (n : Nat) (w : Sing) (l : List Octet) (h : Kept u s) :
    Kept u (s.fask n w l) := by
  unfold State.fask; simp (maxDischargeDepth := 99) [*]

@[simp ↓] theorem kept_fanti {u : State} {s : State} (n : Nat) (level : Nat) (known : List Bool) (uid : List Octet) (h : Kept u s) :
    Kept u (s.fanti n level known uid) := by
  unfold State.fanti; simp (maxDischargeDepth := 99) [*]

@[simp ↓] theorem kept_freq {u : State} {s : State} (n : Nat) (first : Bool) (h : Kept u s) :
    Kept u (s.freq n first) := by
  unfold State.freq; simp (maxDischargeDepth := 99) [*]

@[simp ↓] theorem kept_fround {u : State} {s : State} (n : Nat) (round : Nat) (h : Kept u s) :
    Kept u (s.fround n round) := by
  unfold State.fround; simp (maxDischargeDepth := 99) [*]

@[simp ↓] theorem kept_fwake {u : State} {s : State} (n : Nat) (t : Tag) (h : Kept u s) :
    Kept u (s.fwake n t) := by
  unfold State.fwake; simp (maxDischargeDepth := 99) [*]

@[simp ↓] theorem kept_fsearchEnd {u : State} {s : State} (n : Nat) (h : Kept u s) :
    Kept u (s.fsearchEnd n) := by
  unfold State.fsearchEnd; simp only []; repeat' (first | (simp (maxDischargeDepth := 99) +contextual [*]; done) | split)

@[simp ↓] theorem kept_ftypeAEnd {u : State} {s : State} (n : Nat) (h : Kept u s) :
    Kept u (s.ftypeAEnd n) := by
  unfold State.ftypeAEnd; repeat' (first | (simp (maxDischargeDepth := 99) [*]; done) | split)

@[simp ↓] theorem kept_froundFail {u : State} {s : State} (n : Nat) (h : Kept u s) :
    Kept u (s.froundFail n) := by
  unfold State.froundFail; simp (maxDischargeDepth := 99) [*]

@[simp ↓] theorem kept_factFail {u : State} {s : State} (n : Nat) (again : State → State) (h : Kept u s) (hagain : ∀ t, Kept u t → Kept u (again t )) :
    Kept u (s.factFail n again) := by
  unfold State.factFail; simp (maxDischargeDepth := 99) [*]

@[simp ↓] theorem kept_fcount {u : State} {s : State} (n : Nat) (t : Tag) (h : Kept u s) :
    Kept u (s.fcount n t) := by
  unfold State.fcount; simp (maxDischargeDepth := 99) [*]

@[simp ↓] theorem kept_fuid {u : State} {s : State} (n : Nat) (uid : List Octet) (sak : Octet) (h : Kept u s) :
    Kept u (s.fuid n uid sak) := by
  unfold State.fuid; simp (maxDischargeDepth := 99) [*]

@[simp ↓] theorem kept_fslotDone {u : State} {s : State} (n : Nat) (round : Nat) (slot : Nat) (coll : Bool) (new : Bool) (h : Kept u s) :
    Kept u (s.fslotDone n round slot coll new) := by
  unfold State.fslotDone; simp (maxDischargeDepth := 99) [*]

@[simp ↓] theorem kept_frats {u : State} {s : State} (n : Nat) (t : Tag) (h : Kept u s) :
    Kept u (s.frats n t) := by
  unfold State.frats; simp (maxDischargeDepth := 99) [*]

@[simp ↓] theorem kept_ftagFrame {u : State} {s : State} (n : Nat) (octets : List Octet) (coll : Option Nat) (parity : Bool) (h : Kept u s) :
    Kept u (s.ftagFrame n octets coll parity) := by
  unfold State.ftagFrame; simp only []; repeat' (first | (simp (maxDischargeDepth := 99) +contextual [*]; done) | split)

@[simp ↓] theorem kept_fsilent {u : State} {s : State} (n : Nat) (h : Kept u s) :
    Kept u (s.fsilent n) := by
  unfold State.fsilent; simp only []; repeat' (first | (simp (maxDischargeDepth := 99) +contextual [*]; done) | split)

theorem kept_execTagFrameReceive {u : State} (stn : Nat) (octets : List Octet) (coll : Option Nat) (parity : Bool) {s : State} (h : Kept u s) :
    KeptO u (execTagFrameReceive stn octets coll parity s) := by
  unfold execTagFrameReceive; simp (maxDischargeDepth := 99) [*]

theorem kept_execNoAnswerTimeout {u : State} (stn : Nat) {s : State} (h : Kept u s) :
    KeptO u (execNoAnswerTimeout stn s) := by
  unfold execNoAnswerTimeout; simp (maxDischargeDepth := 99) [*]

theorem kept_execHltaAccepted {u : State} (stn : Nat) {s : State} (h : Kept u s) :
    KeptO u (execHltaAccepted stn s) := by
  unfold execHltaAccepted; simp (maxDischargeDepth := 99) [*]

@[simp ↓] theorem kept_fnext {u : State} {s : State} (n : Nat) (h : Kept u s) :
    Kept u (s.fnext n) := by
  unfold State.fnext; simp (maxDischargeDepth := 99) [*]

@[simp ↓] theorem kept_fxfail {u : State} {s : State} (n : Nat) (h : Kept u s) :
    Kept u (s.fxfail n) := by
  unfold State.fxfail; repeat' (first | (simp (maxDischargeDepth := 99) [*]; done) | split)

@[simp ↓] theorem kept_fxinvalid {u : State} {s : State} (n : Nat) (h : Kept u s) :
    Kept u (s.fxinvalid n) := by
  unfold State.fxinvalid; simp (maxDischargeDepth := 99) [*]

@[simp ↓] theorem kept_fxinfo {u : State} {s : State} (n : Nat) (more : Bool) (inf : List Octet) (h : Kept u s) :
    Kept u (s.fxinfo n more inf) := by
  unfold State.fxinfo; simp only []; repeat' (first | (simp (maxDischargeDepth := 99) +contextual [*]; done) | split)

@[simp ↓] theorem kept_fxreceive {u : State} {s : State} (n : Nat) (octets : List Octet) (parity : Bool) (h : Kept u s) :
    Kept u (s.fxreceive n octets parity) := by
  unfold State.fxreceive; repeat' (first | (simp (maxDischargeDepth := 99) [*]; done) | split)

theorem kept_execIsodepBlockReceive {u : State} (stn : Nat) (octets : List Octet) (parity : Bool) {s : State} (h : Kept u s) :
    KeptO u (execIsodepBlockReceive stn octets parity s) := by
  unfold execIsodepBlockReceive; simp (maxDischargeDepth := 99) [*]

@[simp ↓] theorem kept_fwtExpiry {u : State} {s : State} (n : Nat) (h : Kept u s) :
    Kept u (s.fwtExpiry n) := by
  unfold State.fwtExpiry; simp only []; repeat' (first | (simp (maxDischargeDepth := 99) +contextual [*]; done) | split)

theorem kept_execFwtExpiry {u : State} (stn : Nat) {s : State} (h : Kept u s) :
    KeptO u (execFwtExpiry stn s) := by
  unfold execFwtExpiry; simp (maxDischargeDepth := 99) [*]

@[simp ↓] theorem kept_fstStart {u : State} {s : State} (k : Nat) (j : Job) (h : Kept u s) :
    Kept u (s.fstStart k j) := by
  unfold State.fstStart; simp only []; repeat' (first | (simp (maxDischargeDepth := 99) +contextual [*]; done) | split)

@[simp ↓] theorem kept_fstRow {u : State} {s : State} (k : Nat) (j : Job) (h : Kept u s) :
    Kept u (s.fstRow k j) := by
  unfold State.fstRow; simp (maxDischargeDepth := 99) [*]

@[simp ↓] theorem kept_fstCmd {u : State} {s : State} (key : Nat) (op : Nat) (h : Kept u s) :
    KeptO u (s.fstCmd key op) := by
  unfold State.fstCmd; repeat' (first | (simp (maxDischargeDepth := 99) [*]; done) | split)

theorem kept_execFstActivate {u : State} (key : Nat) {s : State} (h : Kept u s) :
    KeptO u (execFstActivate key s) := by
  unfold execFstActivate; simp (maxDischargeDepth := 99) [*]

theorem kept_execFstApdu {u : State} (key : Nat) {s : State} (h : Kept u s) :
    KeptO u (execFstApdu key s) := by
  unfold execFstApdu; simp (maxDischargeDepth := 99) [*]

theorem kept_execFstDeactivate {u : State} (key : Nat) {s : State} (h : Kept u s) :
    KeptO u (execFstDeactivate key s) := by
  unfold execFstDeactivate; simp (maxDischargeDepth := 99) [*]

theorem kept_execFieldOn {u : State} (stn : Nat) {s : State} (h : Kept u s) :
    KeptO u (execFieldOn stn s) := by
  unfold execFieldOn; simp only []; repeat' (first | (simp (maxDischargeDepth := 99) +contextual [*]; done) | split)

theorem kept_execGuardEnd {u : State} (stn : Nat) {s : State} (h : Kept u s) :
    KeptO u (execGuardEnd stn s) := by
  unfold execGuardEnd; simp (maxDischargeDepth := 99) [*]

theorem kept_execFieldOffDone {u : State} (stn : Nat) {s : State} (h : Kept u s) :
    KeptO u (execFieldOffDone stn s) := by
  unfold execFieldOffDone; simp only []; repeat' (first | (simp (maxDischargeDepth := 99) +contextual [*]; done) | split)

theorem kept_execArriveTimeout {u : State} (stn : Nat) {s : State} (h : Kept u s) :
    KeptO u (execArriveTimeout stn s) := by
  unfold execArriveTimeout; repeat' (first | (simp (maxDischargeDepth := 99) [*]; done) | split)

@[simp ↓] theorem kept_setBase {u : State} {s : State} (n : Nat) (i : Int) (q : Int) (k : Nat) (h : Kept u s) :
    Kept u (s.setBase n i q k) := by
  unfold State.setBase; simp (maxDischargeDepth := 99) [*]

@[simp ↓] theorem kept_fping {u : State} {s : State} (n : Nat) (i : Int) (q : Int) (h : Kept u s) :
    Kept u (s.fping n i q) := by
  unfold State.fping; simp (maxDischargeDepth := 99) [*]

theorem kept_execPing {u : State} (stn : Nat) (i : Int) (q : Int) {s : State} (h : Kept u s) :
    KeptO u (execPing stn i q s) := by
  unfold execPing; simp (maxDischargeDepth := 99) [*]

theorem kept_execRelearn {u : State} (req : Requester) (stn : Nat) {s : State} (h : Kept u s) :
    KeptO u (execRelearn req stn s) := by
  unfold execRelearn; simp (maxDischargeDepth := 99) [*]

@[simp ↓] theorem kept_fquar {u : State} {s : State} (n : Nat) (h : Kept u s) :
    Kept u (s.fquar n) := by
  unfold State.fquar; simp only []; repeat' (first | (simp (maxDischargeDepth := 99) +contextual [*]; done) | split)

@[simp ↓] theorem kept_ffault {u : State} {s : State} (n : Nat) (h : Kept u s) :
    Kept u (s.ffault n) := by
  unfold State.ffault; simp (maxDischargeDepth := 99) [*]

@[simp ↓] theorem kept_fcal {u : State} {s : State} (n : Nat) (a : Nat) (phi : Int) (h : Kept u s) :
    Kept u (s.fcal n a phi) := by
  unfold State.fcal; simp (maxDischargeDepth := 99) [*]

@[simp ↓] theorem kept_fmeasure {u : State} {s : State} (n : Nat) (a : Nat) (phi : Int) (gap : Bool) (h : Kept u s) :
    Kept u (s.fmeasure n a phi gap) := by
  unfold State.fmeasure; simp (maxDischargeDepth := 99) [*]

theorem kept_execCalMeasure {u : State} (stn : Nat) (a : Nat) (phi : Int) (gap : Bool) {s : State} (h : Kept u s) :
    KeptO u (execCalMeasure stn a phi gap s) := by
  unfold execCalMeasure; simp (maxDischargeDepth := 99) [*]

theorem kept_execFieldStationFault {u : State} (stn : Nat) {s : State} (h : Kept u s) :
    KeptO u (execFieldStationFault stn s) := by
  unfold execFieldStationFault; simp (maxDischargeDepth := 99) [*]

theorem kept_execMidrRead {u : State} (req : Requester) {s : State} (h : Kept u s) :
    KeptO u (execMidrRead req s) := by
  unfold execMidrRead; simp (maxDischargeDepth := 99) [*]

@[simp ↓] theorem kept_readEnd {u : State} {s : State} (n : Nat) (cause : Nat) (fails : Nat) (octets : Option (List Octet)) (h : Kept u s) :
    Kept u (s.readEnd n cause fails octets) := by
  unfold State.readEnd; simp (maxDischargeDepth := 99) +contextual [*]

theorem kept_execIdentityReadDone {u : State} (stn : Nat) (start : Bool) (outcome : Nat) (fails : Nat) (octets : List Octet) {s : State} (h : Kept u s) :
    KeptO u (execIdentityReadDone stn start outcome fails octets s) := by
  unfold execIdentityReadDone; repeat' (first | (simp (maxDischargeDepth := 99) [*]; done) | split)

@[simp ↓] theorem kept_fabandon {u : State} {s : State} (n : Nat) (status : Nat) (h : Kept u s) :
    Kept u (s.fabandon n status) := by
  unfold State.fabandon; repeat' (first | (simp (maxDischargeDepth := 99) [*]; done) | split)

@[simp ↓] theorem kept_fstStop {u : State} {s : State} (n : Nat) (h : Kept u s) :
    Kept u (s.fstStop n) := by
  unfold State.fstStop; simp (maxDischargeDepth := 99) [*]

@[simp ↓] theorem kept_fstBreak {u : State} {s : State} (n : Nat) (status : Nat) (h : Kept u s) :
    Kept u (s.fstBreak n status) := by
  unfold State.fstBreak; simp only []; repeat' (first | (simp (maxDischargeDepth := 99) +contextual [*]; done) | split)

@[simp ↓] theorem kept_fstLoss {u : State} {s : State} (n : Nat) (h : Kept u s) :
    Kept u (s.fstLoss n) := by
  unfold State.fstLoss; simp (maxDischargeDepth := 99) [*]

@[simp ↓] theorem kept_fstUp {u : State} {s : State} (n : Nat) (h : Kept u s) :
    Kept u (s.fstUp n) := by
  unfold State.fstUp; simp (maxDischargeDepth := 99) [*]

end Sys2Proof.Machine
end

