-- ==== Sys2Proof/Laws/KeptSources.lean ====
section
/-! SUPPORT. What the operations of Machine/Sources.lean keep. -/
namespace Sys2Proof.Machine

@[simp ↓] theorem kept_stage {u : State} {s : State} (src : Nat) (w : Word) (h : Kept u s) :
    Kept u (s.stage src w) := by
  unfold State.stage; simp (maxDischargeDepth := 99) [*]

end Sys2Proof.Machine
end

