-- ==== Sys2Proof/Laws/KeptLine.lean ====
section
/-! SUPPORT. What the operations of Machine/Line.lean keep. -/
namespace Sys2Proof.Machine

@[simp ↓] theorem kept_failWaiting {u : State} {s : State} (k : Nat) (n : Nat) (status : Nat) (h : Kept u s) :
    Kept u (s.failWaiting k n status) := by
  unfold State.failWaiting
  repeat' (first | (simp (maxDischargeDepth := 99) +contextual [*]; done) | intro _ | ((split)) | with_reducible apply kept_each | with_reducible apply Kept.foldl | with_reducible apply kept_failBound)

@[simp ↓] theorem kept_stnBreak {u : State} {s : State} (k : Nat) (status : Nat) (h : Kept u s) :
    Kept u (s.stnBreak k status) := by
  unfold State.stnBreak; simp (maxDischargeDepth := 99) [*]

@[simp ↓] theorem kept_closeWindow {u : State} {s : State} (n : Nat) (k : Nat) (h : Kept u s) :
    Kept u (s.closeWindow n k) := by
  unfold State.closeWindow; simp (maxDischargeDepth := 99) [*]

@[simp ↓] theorem kept_openWindow {u : State} {s : State} (n : Nat) (k : Nat) (h : Kept u s) :
    Kept u (s.openWindow n k) := by
  unfold State.openWindow; simp (maxDischargeDepth := 99) [*]

@[simp ↓] theorem kept_assertHold {u : State} {s : State} (cause : Nat) (h : Kept u s) :
    Kept u (s.assertHold cause) := by
  unfold State.assertHold
  dsimp only
  repeat' (first | (simp (maxDischargeDepth := 99) +contextual [*]; done) | intro _ | ((split)) | with_reducible apply kept_each | with_reducible apply Kept.foldl | with_reducible apply kept_setReg36 | with_reducible apply kept_setRbit | with_reducible apply kept_setRfld | with_reducible apply kept_event | with_reducible apply kept_incSat | with_reducible apply kept_markItem | with_reducible apply kept_closeWindow)

theorem kept_execHoldSet {u : State} (_req : Requester) {s : State} (h : Kept u s) :
    KeptO u (execHoldSet _req s) := by
  unfold execHoldSet; simp (maxDischargeDepth := 99) [*]

theorem kept_execHoldClr {u : State} (req : Requester) {s : State} (h : Kept u s) :
    KeptO u (execHoldClr req s) := by
  unfold execHoldClr; simp (maxDischargeDepth := 99) [*]

theorem kept_execLineOkChange {u : State} (level : Bool) {s : State} (h : Kept u s) :
    KeptO u (execLineOkChange level s) := by
  unfold execLineOkChange; simp (maxDischargeDepth := 99) [*]

@[simp ↓] theorem kept_reachWindows {u : State} {s : State} (n : Nat) (d : Nat) (h : Kept u s) :
    Kept u (s.reachWindows n d) := by
  unfold State.reachWindows; simp (maxDischargeDepth := 99) +contextual [*]

@[simp ↓] theorem kept_decideItem {u : State} {s : State} (n : Nat) (h : Kept u s) :
    Kept u (s.decideItem n) := by
  unfold State.decideItem; repeat' (first | (simp (maxDischargeDepth := 99) [*]; done) | split)

@[simp ↓] theorem kept_retireItem {u : State} {s : State} (n : Nat) (h : Kept u s) :
    Kept u (s.retireItem n) := by
  unfold State.retireItem; simp (maxDischargeDepth := 99) +contextual [*]

@[simp ↓] theorem kept_reach {u : State} {s : State} (n : Nat) (d : Nat) (h : Kept u s) :
    Kept u (s.reach n d) := by
  unfold State.reach; simp (maxDischargeDepth := 99) [*]

@[simp ↓] theorem kept_retireOverflow {u : State} {s : State} (h : Kept u s) :
    Kept u (s.retireOverflow) := by
  unfold State.retireOverflow; simp (maxDischargeDepth := 99) [*]

@[simp ↓] theorem kept_snapshot {u : State} {s : State} (h : Kept u s) :
    Kept u (s.snapshot) := by
  unfold State.snapshot; simp (maxDischargeDepth := 99) [*]

@[simp ↓] theorem kept_count {u : State} {s : State} (up : Bool) (h : Kept u s) :
    Kept u (s.count up) := by
  unfold State.count
  try dsimp only
  repeat' (first | with_reducible assumption | with_reducible apply kept_each | with_reducible apply Kept.foldl | with_reducible apply KeptO.next | with_reducible apply Kept.ite | with_reducible apply kept_assertHold | with_reducible apply kept_snapshot | with_reducible apply kept_reach | with_reducible apply kept_retireOverflow | intro _ | ((split)) | (simp (maxDischargeDepth := 99) [*]; done))

theorem kept_execEncoderCount {u : State} (enc1 : Bool) (kind : Nat) {s : State} (h : Kept u s) :
    KeptO u (execEncoderCount enc1 kind s) := by
  unfold execEncoderCount; simp (maxDischargeDepth := 99) [*]

theorem kept_execSpeedUpdate {u : State} {s : State} (h : Kept u s) :
    KeptO u (execSpeedUpdate s) := by
  unfold execSpeedUpdate; simp (maxDischargeDepth := 99) [*]

@[simp ↓] theorem kept_overflowMark {u : State} {s : State} (m : Int) (h : Kept u s) :
    Kept u (s.overflowMark m) := by
  unfold State.overflowMark; simp (maxDischargeDepth := 99) [*]

@[simp ↓] theorem kept_enterItem {u : State} {s : State} (n : Nat) (m : Int) (ago : Nat) (h : Kept u s) :
    Kept u (s.enterItem n m ago) := by
  unfold State.enterItem; simp (maxDischargeDepth := 99) +contextual [*]

theorem kept_execMarkEdge {u : State} (ago : Nat) {s : State} (h : Kept u s) :
    KeptO u (execMarkEdge ago s) := by
  unfold execMarkEdge; repeat' (first | (simp (maxDischargeDepth := 99) [*]; done) | split)

theorem kept_execCheckMarkEdge {u : State} (j : Nat) (ago : Nat) {s : State} (h : Kept u s) :
    KeptO u (execCheckMarkEdge j ago s) := by
  unfold execCheckMarkEdge; simp only []; repeat' (first | (simp (maxDischargeDepth := 99) +contextual [*]; done) | split)

theorem kept_execLineItem {u : State} (key : Nat) {s : State} (h : Kept u s) :
    KeptO u (execLineItem key s) := by
  unfold execLineItem; repeat' (first | (simp (maxDischargeDepth := 99) [*]; done) | split)

theorem kept_execLineSetId {u : State} (key : Nat) {s : State} (h : Kept u s) :
    KeptO u (execLineSetId key s) := by
  unfold execLineSetId
  dsimp only
  repeat' (first | (simp (maxDischargeDepth := 99) +contextual [*]; done) | intro _ | ((split)) | with_reducible apply kept_each | with_reducible apply Kept.foldl | with_reducible apply kept_onRun | with_reducible apply kept_fail | with_reducible apply kept_finish | with_reducible apply kept_modItem)

theorem kept_execLineDone {u : State} (key : Nat) {s : State} (h : Kept u s) :
    KeptO u (execLineDone key s) := by
  unfold execLineDone
  repeat' (first | (simp (maxDischargeDepth := 99) +contextual [*]; done) | intro _ | ((split)) | with_reducible apply kept_each | with_reducible apply Kept.foldl | with_reducible apply kept_onRun | with_reducible apply kept_fail | with_reducible apply kept_finish | with_reducible apply kept_modItem)

theorem kept_execLineReject {u : State} (key : Nat) {s : State} (h : Kept u s) :
    KeptO u (execLineReject key s) := by
  unfold execLineReject
  repeat' (first | (simp (maxDischargeDepth := 99) +contextual [*]; done) | intro _ | ((split)) | with_reducible apply kept_each | with_reducible apply Kept.foldl | with_reducible apply kept_onRun | with_reducible apply kept_fail | with_reducible apply kept_finish | with_reducible apply kept_markItem | with_reducible apply kept_assertHold)

theorem kept_execLineQuery {u : State} (key : Nat) {s : State} (h : Kept u s) :
    KeptO u (execLineQuery key s) := by
  unfold execLineQuery; simp (maxDischargeDepth := 99) [*]

@[simp ↓] theorem kept_lineUp {u : State} {s : State} (h : Kept u s) :
    Kept u (s.lineUp) := by
  unfold State.lineUp; simp (maxDischargeDepth := 99) [*]

@[simp ↓] theorem kept_abortBound {u : State} {s : State} (h : Kept u s) :
    Kept u (s.abortBound) := by
  unfold State.abortBound
  dsimp only
  repeat' (first | (simp (maxDischargeDepth := 99) +contextual [*]; done) | intro _ | ((split)) | with_reducible apply kept_each | with_reducible apply Kept.foldl | with_reducible apply kept_failBound | with_reducible apply kept_stnBreak)

@[simp ↓] theorem kept_lineReset {u : State} {s : State} (h : Kept u s) :
    Kept u (s.lineReset) := by
  unfold State.lineReset; simp (maxDischargeDepth := 99) [*]

end Sys2Proof.Machine
end

