-- ==== Sys2Proof/Laws/KeptWisp.lean ====
section
/-! SUPPORT. What the operations of Machine/Wisp.lean keep. -/
namespace Sys2Proof.Machine

@[simp ↓] theorem kept_hummockStop {u : State} {s : State} (h : Kept u s) :
    Kept u (s.hummockStop) := by
  unfold State.hummockStop; simp (maxDischargeDepth := 99) [*]

@[simp ↓] theorem kept_vbatLost {u : State} {s : State} (h : Kept u s) :
    Kept u (s.vbatLost) := by
  unfold State.vbatLost; simp (maxDischargeDepth := 99) [*]

@[simp ↓] theorem kept_vbatBack {u : State} {s : State} (h : Kept u s) :
    Kept u (s.vbatBack) := by
  unfold State.vbatBack; simp (maxDischargeDepth := 99) [*]

@[simp ↓] theorem kept_logEntry {u : State} {s : State} (kind : Nat) (source : Nat) (time : Nat) (data : Word) (h : Kept u s) :
    Kept u (s.logEntry kind source time data) := by
  unfold State.logEntry; simp (maxDischargeDepth := 99) [*]

@[simp ↓] theorem kept_writeLog {u : State} {s : State} (e : LogEntry) (h : Kept u s) :
    Kept u (s.writeLog e) := by
  unfold State.writeLog; repeat' (first | (simp (maxDischargeDepth := 99) [*]; done) | split)

theorem kept_execLogAppend {u : State} {s : State} (h : Kept u s) :
    KeptO u (execLogAppend s) := by
  unfold execLogAppend; repeat' (first | (simp (maxDischargeDepth := 99) [*]; done) | split)

theorem kept_execAppend {u : State} (req : Requester) {s : State} (h : Kept u s) :
    KeptO u (execAppend req s) := by
  unfold execAppend; simp (maxDischargeDepth := 99) [*]

@[simp ↓] theorem kept_setRegs {u : State} {s : State} (p : Nat) (w : Nat) (n : Nat) (v : Nat) (h : Kept u s) :
    Kept u (s.setRegs p w n v) := by
  unfold State.setRegs; simp (maxDischargeDepth := 99) +contextual [*]

theorem kept_execWispLink {u : State} (_req : Requester) {s : State} (h : Kept u s) :
    KeptO u (execWispLink _req s) := by
  unfold execWispLink; simp (maxDischargeDepth := 99) [*]

theorem kept_execWispCheck {u : State} (_req : Requester) {s : State} (h : Kept u s) :
    KeptO u (execWispCheck _req s) := by
  unfold execWispCheck; simp (maxDischargeDepth := 99) [*]

@[simp ↓] theorem kept_execEnt0Read {u : State} (req : Requester) (busy : Bool) {s : State} (h : Kept u s) :
    KeptO u (execEnt0Read req busy s) := by
  unfold execEnt0Read; simp (maxDischargeDepth := 99) [*]

@[simp ↓] theorem kept_execRtc0Read {u : State} (_req : Requester) {s : State} (h : Kept u s) :
    KeptO u (execRtc0Read _req s) := by
  unfold execRtc0Read; simp (maxDischargeDepth := 99) [*]

@[simp ↓] theorem kept_tagSays {u : State} {s : State} (l : List Octet) (h : Kept u s) :
    Kept u (s.tagSays l) := by
  unfold State.tagSays; simp (maxDischargeDepth := 99) [*]

@[simp ↓] theorem kept_tagGoes {u : State} {s : State} (t : TagState) (h : Kept u s) :
    Kept u (s.tagGoes t) := by
  unfold State.tagGoes; simp (maxDischargeDepth := 99) [*]

theorem kept_execWispFieldOn {u : State} {s : State} (h : Kept u s) :
    KeptO u (execWispFieldOn s) := by
  unfold execWispFieldOn; simp (maxDischargeDepth := 99) [*]

theorem kept_execWispFieldOff {u : State} {s : State} (h : Kept u s) :
    KeptO u (execWispFieldOff s) := by
  unfold execWispFieldOff; simp (maxDischargeDepth := 99) [*]

theorem kept_execWispReqa {u : State} (wupa : Bool) {s : State} (h : Kept u s) :
    KeptO u (execWispReqa wupa s) := by
  unfold execWispReqa; simp (maxDischargeDepth := 99) [*]

theorem kept_execWispSelect {u : State} (known : List Bool) (crcOk : Bool) {s : State} (h : Kept u s) :
    KeptO u (execWispSelect known crcOk s) := by
  unfold execWispSelect; simp (maxDischargeDepth := 99) [*]

theorem kept_execWispHlta {u : State} (crcOk : Bool) {s : State} (h : Kept u s) :
    KeptO u (execWispHlta crcOk s) := by
  unfold execWispHlta; simp (maxDischargeDepth := 99) [*]

theorem kept_execRdblk {u : State} (block : Nat) (crcOk : Bool) {s : State} (h : Kept u s) :
    KeptO u (execRdblk block crcOk s) := by
  unfold execRdblk; simp (maxDischargeDepth := 99) [*]

end Sys2Proof.Machine
end

