-- ==== Sys2Proof/Laws/KeptTamper.lean ====
section
/-! SUPPORT. What the operations of Machine/Tamper.lean keep. -/
namespace Sys2Proof.Machine

@[simp ↓] theorem kept_setHmk {u : State} {s : State} (st : Nat) (h : Kept u s) :
    Kept u (s.setHmk st) := by
  unfold State.setHmk; simp (maxDischargeDepth := 99) [*]

@[simp ↓] theorem kept_voidDone {u : State} {s : State} (k : Nat) (h : Kept u s) :
    Kept u (s.voidDone k) := by
  unfold State.voidDone; repeat' (first | (simp (maxDischargeDepth := 99) [*]; done) | split)

@[simp ↓] theorem kept_voidJobs {u : State} {s : State} (f : Job → Bool) (h : Kept u s) :
    Kept u (s.voidJobs f) := by
  unfold State.voidJobs
  repeat' (first | (simp (maxDischargeDepth := 99) +contextual [*]; done) | intro _ | ((split)) | with_reducible apply kept_each | with_reducible apply Kept.foldl | with_reducible apply kept_faultJob | with_reducible apply kept_voidDone)

@[simp ↓] theorem kept_zeroSessions {u : State} {s : State} (h : Kept u s) :
    Kept u (s.zeroSessions) := by
  unfold State.zeroSessions; simp (maxDischargeDepth := 99) +contextual [*]

@[simp ↓] theorem kept_zeroCredentials {u : State} {s : State} (h : Kept u s) :
    Kept u (s.zeroCredentials) := by
  unfold State.zeroCredentials; simp (maxDischargeDepth := 99) +contextual [*]

@[simp ↓] theorem kept_zeroPeat {u : State} {s : State} (h : Kept u s) :
    Kept u (s.zeroPeat) := by
  unfold State.zeroPeat; simp (maxDischargeDepth := 99) +contextual [*]

@[simp ↓] theorem kept_zeroMaster {u : State} {s : State} (h : Kept u s) :
    Kept u (s.zeroMaster) := by
  unfold State.zeroMaster; simp (maxDischargeDepth := 99) [*]

@[simp ↓] theorem kept_zeroise {u : State} {s : State} (bit : Nat) (h : Kept u s) :
    Kept u (s.zeroise bit) := by
  unfold State.zeroise; repeat' (first | (simp (maxDischargeDepth := 99) [*]; done) | split)

@[simp ↓] theorem kept_setPending {u : State} {s : State} (v : Nat) (h : Kept u s) :
    Kept u (s.setPending v) := by
  unfold State.setPending; simp (maxDischargeDepth := 99) [*]

@[simp ↓] theorem kept_defer {u : State} {s : State} (src : Nat) (time : Nat) (set : Word) (h : Kept u s) :
    Kept u (s.defer src time set) := by
  unfold State.defer; simp (maxDischargeDepth := 99) [*]

@[simp ↓] theorem kept_deferRunning {u : State} {s : State} (h : Kept u s) :
    Kept u (s.deferRunning) := by
  unfold State.deferRunning; simp (maxDischargeDepth := 99) +contextual [*]

@[simp ↓] theorem kept_startActions {u : State} {s : State} (src : Nat) (fresh : Word) (quar : Word) (h : Kept u s) :
    Kept u (s.startActions src fresh quar) := by
  unfold State.startActions; simp (maxDischargeDepth := 99) +contextual [*]

@[simp ↓] theorem kept_showDone {u : State} {s : State} (h : Kept u s) :
    Kept u (s.showDone) := by
  unfold State.showDone; repeat' (first | (simp (maxDischargeDepth := 99) [*]; done) | split)

@[simp ↓] theorem kept_startSet {u : State} {s : State} (src : Nat) (set : Word) (h : Kept u s) :
    Kept u (s.startSet src set) := by
  unfold State.startSet; simp only []; repeat' (first | (simp (maxDischargeDepth := 99) +contextual [*]; done) | split)

@[simp ↓] theorem kept_alarm {u : State} {s : State} (src : Nat) (h : Kept u s) :
    Kept u (s.alarm src) := by
  unfold State.alarm; repeat' (first | (simp (maxDischargeDepth := 99) [*]; done) | split)

@[simp ↓] theorem kept_raiseCond {u : State} {s : State} (src : Nat) (h : Kept u s) :
    Kept u (s.raiseCond src) := by
  unfold State.raiseCond; simp (maxDischargeDepth := 99) [*]

theorem kept_execTamperAlarm {u : State} (src : Nat) {s : State} (h : Kept u s) :
    KeptO u (execTamperAlarm src s) := by
  unfold execTamperAlarm; simp (maxDischargeDepth := 99) [*]

theorem kept_execTamperConditionClear {u : State} (src : Nat) {s : State} (h : Kept u s) :
    KeptO u (execTamperConditionClear src s) := by
  unfold execTamperConditionClear; simp (maxDischargeDepth := 99) [*]

@[simp ↓] theorem kept_actionDone {u : State} {s : State} (bit : Nat) (h : Kept u s) :
    Kept u (s.actionDone bit) := by
  unfold State.actionDone; simp (maxDischargeDepth := 99) [*]

theorem kept_execZeroiseDone {u : State} (src : Nat) (bit : Nat) {s : State} (h : Kept u s) :
    KeptO u (execZeroiseDone src bit s) := by
  unfold execZeroiseDone; repeat' (first | (simp (maxDischargeDepth := 99) [*]; done) | split)

@[simp ↓] theorem kept_retireFuse {u : State} {s : State} (h : Kept u s) :
    Kept u (s.retireFuse) := by
  unfold State.retireFuse; simp (maxDischargeDepth := 99) +contextual [*]

theorem kept_execRetire {u : State} (src : Nat) {s : State} (h : Kept u s) :
    KeptO u (execRetire src s) := by
  unfold execRetire; repeat' (first | (simp (maxDischargeDepth := 99) [*]; done) | split)

theorem kept_execTamperActionsDone {u : State} (src : Nat) {s : State} (h : Kept u s) :
    KeptO u (execTamperActionsDone src s) := by
  unfold execTamperActionsDone; repeat' (first | (simp (maxDischargeDepth := 99) [*]; done) | split)

theorem kept_execTamperPeriodEnd {u : State} (src : Nat) {s : State} (h : Kept u s) :
    KeptO u (execTamperPeriodEnd src s) := by
  unfold execTamperPeriodEnd; simp (maxDischargeDepth := 99) [*]

theorem kept_execLatchWrite {u : State} (_req : Requester) (k : Nat) (val : Word) {s : State} (h : Kept u s) :
    KeptO u (execLatchWrite _req k val s) := by
  unfold execLatchWrite; simp (maxDischargeDepth := 99) +contextual [*]

theorem kept_execBistStart {u : State} (req : Requester) {s : State} (h : Kept u s) :
    KeptO u (execBistStart req s) := by
  unfold execBistStart; simp (maxDischargeDepth := 99) [*]

theorem kept_execBistDone {u : State} (outcome : Nat) (us : Nat) (still : Bool) {s : State} (h : Kept u s) :
    KeptO u (execBistDone outcome us still s) := by
  unfold execBistDone; repeat' (first | (simp (maxDischargeDepth := 99) [*]; done) | split)

@[simp ↓] theorem kept_execRespStageAccess {u : State} (req : Requester) (wr : Option Word) {s : State} (h : Kept u s) :
    KeptO u (execRespStageAccess req wr s) := by
  unfold execRespStageAccess; repeat' (first | (simp (maxDischargeDepth := 99) [*]; done) | split)

theorem kept_execRespDiscard {u : State} (req : Requester) {s : State} (h : Kept u s) :
    KeptO u (execRespDiscard req s) := by
  unfold execRespDiscard; simp (maxDischargeDepth := 99) [*]

@[simp ↓] theorem kept_applySets {u : State} {s : State} (h : Kept u s) :
    Kept u (s.applySets) := by
  unfold State.applySets; simp (maxDischargeDepth := 99) [*]

@[simp ↓] theorem kept_mossNext {u : State} {s : State} (h : Kept u s) :
    Kept u (s.mossNext) := by
  unfold State.mossNext; simp (maxDischargeDepth := 99) [*]

theorem kept_execMossCheck {u : State} (bad : Option (Nat × Word × Word)) {s : State} (h : Kept u s) :
    KeptO u (execMossCheck bad s) := by
  unfold execMossCheck; simp only []; repeat' (first | (simp (maxDischargeDepth := 99) +contextual [*]; done) | split)

theorem kept_execLastFailRead {u : State} (_req : Requester) {s : State} (h : Kept u s) :
    KeptO u (execLastFailRead _req s) := by
  unfold execLastFailRead; simp (maxDischargeDepth := 99) [*]

end Sys2Proof.Machine
end

