-- ==== Sys2Proof/Laws/KeptControl.lean ====
section
/-! SUPPORT. What the operations of Machine/Control.lean keep. -/
namespace Sys2Proof.Machine

@[simp ↓] theorem kept_setStarting {u : State} {s : State} (p : Nat) (b : Bool) (h : Kept u s) :
    Kept u (s.setStarting p b) := by
  unfold State.setStarting; simp (maxDischargeDepth := 99) [*]

@[simp ↓] theorem kept_setDraining {u : State} {s : State} (p : Nat) (b : Bool) (h : Kept u s) :
    Kept u (s.setDraining p b) := by
  unfold State.setDraining; simp (maxDischargeDepth := 99) [*]

@[simp ↓] theorem kept_touch {u : State} {s : State} (p : Nat) (h : Kept u s) :
    Kept u (s.touch p) := by
  unfold State.touch; simp (maxDischargeDepth := 99) [*]

@[simp ↓] theorem kept_commanded {u : State} {s : State} (p : Nat) (f : State → State) (h : Kept u s) (hf : ∀ t, Kept u t → Kept u (f t )) :
    KeptO u (s.commanded p f) := by
  unfold State.commanded; simp (maxDischargeDepth := 99) [*]

@[simp ↓] theorem kept_custodyUp {u : State} {s : State} (h : Kept u s) :
    Kept u (s.custodyUp) := by
  unfold State.custodyUp; simp (maxDischargeDepth := 99) [*]

@[simp ↓] theorem kept_startPage {u : State} {s : State} (req : Requester) (p : Nat) (h : Kept u s) :
    Kept u (s.startPage req p) := by
  unfold State.startPage; repeat' (first | (simp (maxDischargeDepth := 99) [*]; done) | split)

theorem kept_execEnWrite1 {u : State} (req : Requester) (page : Nat) {s : State} (h : Kept u s) :
    KeptO u (execEnWrite1 req page s) := by
  unfold execEnWrite1; repeat' (first | (simp (maxDischargeDepth := 99) +contextual [*]; done) | split)

@[simp ↓] theorem kept_dropAborts {u : State} {s : State} (q : Nat) (h : Kept u s) :
    Kept u (s.dropAborts q) := by
  unfold State.dropAborts; simp (maxDischargeDepth := 99) +contextual [*]

@[simp ↓] theorem kept_stopped {u : State} {s : State} (p : Nat) (h : Kept u s) :
    Kept u (s.stopped p) := by
  unfold State.stopped; repeat' (first | (simp (maxDischargeDepth := 99) [*]; done) | split)

@[simp ↓] theorem kept_cerFail {u : State} {s : State} (cause : Nat) (h : Kept u s) :
    Kept u (s.cerFail cause) := by
  unfold State.cerFail; simp (maxDischargeDepth := 99) [*]

@[simp ↓] theorem kept_shutEnd {u : State} {s : State} (p : Nat) (h : Kept u s) :
    Kept u (s.shutEnd p) := by
  unfold State.shutEnd; simp (maxDischargeDepth := 99) [*]

@[simp ↓] theorem kept_stopWork {u : State} {s : State} (p : Nat) (h : Kept u s) :
    Kept u (s.stopWork p) := by
  unfold State.stopWork; repeat' (first | (simp (maxDischargeDepth := 99) [*]; done) | split)

@[simp ↓] theorem kept_shutdown {u : State} {s : State} (p : Nat) (h : Kept u s) :
    Kept u (s.shutdown p) := by
  unfold State.shutdown; simp (maxDischargeDepth := 99) [*]

theorem kept_execEnWrite0 {u : State} (req : Requester) (page : Nat) {s : State} (h : Kept u s) :
    KeptO u (execEnWrite0 req page s) := by
  unfold execEnWrite0; repeat' (first | (simp (maxDischargeDepth := 99) +contextual [*]; done) | split)

theorem kept_execStop {u : State} (req : Requester) (page : Nat) {s : State} (h : Kept u s) :
    KeptO u (execStop req page s) := by
  unfold execStop; repeat' (first | (simp (maxDischargeDepth := 99) +contextual [*]; done) | split)

theorem kept_execShutdownComplete {u : State} (page : Nat) {s : State} (h : Kept u s) :
    KeptO u (execShutdownComplete page s) := by
  unfold execShutdownComplete; simp (maxDischargeDepth := 99) [*]

@[simp ↓] theorem kept_feedUnits {u : State} {s : State} (h : Kept u s) :
    Kept u (s.feedUnits) := by
  unfold State.feedUnits; simp (maxDischargeDepth := 99) +contextual [*]

@[simp ↓] theorem kept_releaseCore {u : State} {s : State} (c : Nat) (h : Kept u s) :
    Kept u (s.releaseCore c) := by
  unfold State.releaseCore; simp (maxDischargeDepth := 99) [*]

@[simp ↓] theorem kept_bootNonce {u : State} {s : State} (h : Kept u s) :
    Kept u (s.bootNonce) := by
  unfold State.bootNonce; simp (maxDischargeDepth := 99) [*]

@[simp ↓] theorem kept_startPass {u : State} {s : State} (p : Nat) (h : Kept u s) :
    Kept u (s.startPass p) := by
  unfold State.startPass; repeat' (first | (simp (maxDischargeDepth := 99) +contextual [*]; done) | split)

@[simp ↓] theorem kept_startFail {u : State} {s : State} (p : Nat) (rct : Bool) (h : Kept u s) :
    Kept u (s.startFail p rct) := by
  unfold State.startFail; repeat' (first | (simp (maxDischargeDepth := 99) [*]; done) | split)

@[simp ↓] theorem kept_startEnd {u : State} {s : State} (page : Nat) (pass : Bool) (vec : Nat) (h : Kept u s) :
    Kept u (s.startEnd page pass vec) := by
  unfold State.startEnd; repeat' (first | (simp (maxDischargeDepth := 99) [*]; done) | split)

@[simp ↓] theorem kept_regsReset {u : State} {s : State} (p : Nat) (b : Block) (h : Kept u s) :
    Kept u (s.regsReset p b) := by
  unfold State.regsReset; simp (maxDischargeDepth := 99) [*]

@[simp ↓] theorem kept_release {u : State} {s : State} (p : Nat) (h : Kept u s) :
    Kept u (s.release p) := by
  unfold State.release; simp (maxDischargeDepth := 99) [*]

@[simp ↓] theorem kept_unitReset {u : State} {s : State} (p : Nat) (b : Block) (h : Kept u s) :
    Kept u (s.unitReset p b) := by
  unfold State.unitReset; repeat' (first | (simp (maxDischargeDepth := 99) [*]; done) | split)

@[simp ↓] theorem kept_stationReset {u : State} {s : State} (p : Nat) (b : Block) (n : Nat) (h : Kept u s) :
    Kept u (s.stationReset p b n) := by
  unfold State.stationReset; simp (maxDischargeDepth := 99) [*]

@[simp ↓] theorem kept_clusterRelease {u : State} {s : State} (n : Nat) (h : Kept u s) :
    Kept u (s.clusterRelease n) := by
  unfold State.clusterRelease; simp (maxDischargeDepth := 99) +contextual [*]

@[simp ↓] theorem kept_clusterReset {u : State} {s : State} (n : Nat) (h : Kept u s) :
    Kept u (s.clusterReset n) := by
  unfold State.clusterReset; simp (maxDischargeDepth := 99) [*]

@[simp ↓] theorem kept_gateReset {u : State} {s : State} (n : Nat) (h : Kept u s) :
    Kept u (s.gateReset n) := by
  unfold State.gateReset; simp (maxDischargeDepth := 99) +contextual [*]

@[simp ↓] theorem kept_credReset {u : State} {s : State} (h : Kept u s) :
    Kept u (s.credReset) := by
  unfold State.credReset; simp (maxDischargeDepth := 99) +contextual [*]

@[simp ↓] theorem kept_rngReset {u : State} {s : State} (h : Kept u s) :
    Kept u (s.rngReset) := by
  unfold State.rngReset; simp (maxDischargeDepth := 99) [*]

@[simp ↓] theorem kept_queueReset {u : State} {s : State} (q : Nat) (h : Kept u s) :
    Kept u (s.queueReset q) := by
  unfold State.queueReset; simp (maxDischargeDepth := 99) +contextual [*]

@[simp ↓] theorem kept_gbForce {u : State} {s : State} (h : Kept u s) :
    Kept u (s.gbForce) := by
  unfold State.gbForce; simp (maxDischargeDepth := 99) [*]

@[simp ↓] theorem kept_gbDefault {u : State} {s : State} (b : Bool) (h : Kept u s) :
    Kept u (s.gbDefault b) := by
  unfold State.gbDefault; simp (maxDischargeDepth := 99) [*]

@[simp ↓] theorem kept_sreset {u : State} {s : State} (p : Nat) (b : Block) (i : Nat) (h : Kept u s) :
    Kept u (s.sreset p b i) := by
  unfold State.sreset; repeat' (first | (simp (maxDischargeDepth := 99) [*]; done) | split)

theorem kept_execSreset {u : State} (req : Requester) (page : Nat) {s : State} (h : Kept u s) :
    KeptO u (execSreset req page s) := by
  unfold execSreset; repeat' (first | (simp (maxDischargeDepth := 99) +contextual [*]; done) | split)

end Sys2Proof.Machine
end

