-- ==== Sys2Proof/Laws/KeptPower.lean ====
section
/-! SUPPORT. What the operations of Machine/Power.lean keep. -/
namespace Sys2Proof.Machine

@[simp ↓] theorem kept_capUpdate {u : State} {s : State} (h : Kept u s) :
    Kept u (s.capUpdate) := by
  unfold State.capUpdate; simp (maxDischargeDepth := 99) [*]

@[simp ↓] theorem kept_stepStart {u : State} {s : State} (k : Nat) (up : Bool) (h : Kept u s) :
    Kept u (s.stepStart k up) := by
  unfold State.stepStart; simp (maxDischargeDepth := 99) [*]

theorem kept_execPowerUpdate {u : State} (vcore : Nat) (rest : Nat) {s : State} (h : Kept u s) :
    KeptO u (execPowerUpdate vcore rest s) := by
  unfold execPowerUpdate
  try dsimp only
  repeat' (first | with_reducible assumption | with_reducible apply kept_each | with_reducible apply Kept.foldl | with_reducible apply KeptO.next | with_reducible apply Kept.ite | with_reducible apply kept_setReg | with_reducible apply kept_event | with_reducible apply kept_capUpdate | with_reducible apply kept_stepStart | with_reducible apply kept_step | intro _ | ((split)) | (simp (maxDischargeDepth := 99) [*]; done))

theorem kept_execRegionStepDone {u : State} {s : State} (h : Kept u s) :
    KeptO u (execRegionStepDone s) := by
  unfold execRegionStepDone; repeat' (first | (simp (maxDischargeDepth := 99) [*]; done) | split)

@[simp ↓] theorem kept_letOn {u : State} {s : State} (p : Nat) (h : Kept u s) :
    Kept u (s.letOn p) := by
  unfold State.letOn; simp (maxDischargeDepth := 99) [*]

theorem kept_execStationAdmit {u : State} {s : State} (h : Kept u s) :
    KeptO u (execStationAdmit s) := by
  unfold execStationAdmit; repeat' (first | (simp (maxDischargeDepth := 99) [*]; done) | split)

@[simp ↓] theorem kept_loseField {u : State} {s : State} (p : Nat) (h : Kept u s) :
    Kept u (s.loseField p) := by
  unfold State.loseField; simp (maxDischargeDepth := 99) [*]

theorem kept_execVfieldLost {u : State} {s : State} (h : Kept u s) :
    KeptO u (execVfieldLost s) := by
  unfold execVfieldLost; simp (maxDischargeDepth := 99) +contextual [*]

@[simp ↓] theorem kept_gainField {u : State} {s : State} (p : Nat) (h : Kept u s) :
    Kept u (s.gainField p) := by
  unfold State.gainField; simp (maxDischargeDepth := 99) [*]

theorem kept_execVfieldGood {u : State} {s : State} (h : Kept u s) :
    KeptO u (execVfieldGood s) := by
  unfold execVfieldGood; simp (maxDischargeDepth := 99) +contextual [*]

@[simp ↓] theorem kept_wClGate {u : State} {s : State} (req : Requester) (val : Word) (h : Kept u s) :
    Kept u (s.wClGate req val) := by
  unfold State.wClGate; simp (maxDischargeDepth := 99) +contextual [*]

theorem kept_execClGateWrite {u : State} (req : Requester) (val : Word) {s : State} (h : Kept u s) :
    KeptO u (execClGateWrite req val s) := by
  unfold execClGateWrite; simp (maxDischargeDepth := 99) [*]

@[simp ↓] theorem kept_startMembers {u : State} {s : State} (l : List Nat) (h : Kept u s) :
    Kept u (s.startMembers l) := by
  unfold State.startMembers; simp (maxDischargeDepth := 99) +contextual [*]

theorem kept_execUngateDone {u : State} (cl : Nat) {s : State} (h : Kept u s) :
    KeptO u (execUngateDone cl s) := by
  unfold execUngateDone; simp (maxDischargeDepth := 99) [*]

@[simp ↓] theorem kept_pmbFail {u : State} {s : State} (at_once : Bool) (h : Kept u s) :
    Kept u (s.pmbFail at_once) := by
  unfold State.pmbFail; simp (maxDischargeDepth := 99) [*]

@[simp ↓] theorem kept_pmbGood {u : State} {s : State} (vout : Nat) (h : Kept u s) :
    Kept u (s.pmbGood vout) := by
  unfold State.pmbGood; simp (maxDischargeDepth := 99) [*]

theorem kept_execPmbusPoll {u : State} (good : Bool) (vout : Nat) (iout : Nat) {s : State} (h : Kept u s) :
    KeptO u (execPmbusPoll good vout iout s) := by
  unfold execPmbusPoll; simp (maxDischargeDepth := 99) [*]

theorem kept_execPmbAlert {u : State} (good : Bool) {s : State} (h : Kept u s) :
    KeptO u (execPmbAlert good s) := by
  unfold execPmbAlert; simp (maxDischargeDepth := 99) [*]

theorem kept_execPmbusRetry {u : State} (good : Bool) (linear : Bool) (vout : Nat) {s : State} (h : Kept u s) :
    KeptO u (execPmbusRetry good linear vout s) := by
  unfold execPmbusRetry; simp (maxDischargeDepth := 99) [*]

end Sys2Proof.Machine
end

