-- ==== Sys2Proof/Laws/KeptSluice.lean ====
section
/-! SUPPORT. What the operations of Machine/Sluice.lean keep. -/
namespace Sys2Proof.Machine

@[simp ↓] theorem kept_grant {u : State} {s : State} (kind : Nat) (inst : Nat) (arrivals : List Present) (cycles : Nat) (h : Kept u s) :
    Kept u (s.grant kind inst arrivals cycles) := by
  unfold State.grant; simp only []; repeat' (first | (simp (maxDischargeDepth := 99) +contextual [*]; done) | split)

theorem kept_execArbiterGrant {u : State} (kind : Nat) (inst : Nat) (arrivals : List Present) (cycles : Nat) {s : State} (h : Kept u s) :
    KeptO u (execArbiterGrant kind inst arrivals cycles s) := by
  unfold execArbiterGrant; simp (maxDischargeDepth := 99) [*]

theorem kept_execAgeRaise {u : State} (kind : Nat) (inst : Nat) (rq : Nat) {s : State} (h : Kept u s) :
    KeptO u (execAgeRaise kind inst rq s) := by
  unfold execAgeRaise; simp (maxDischargeDepth := 99) [*]

@[simp ↓] theorem kept_wSluiceCfg {u : State} {s : State} (val : Word) (h : Kept u s) :
    Kept u (s.wSluiceCfg val) := by
  unfold State.wSluiceCfg; simp (maxDischargeDepth := 99) [*]

theorem kept_execOwmSwitched {u : State} {s : State} (h : Kept u s) :
    KeptO u (execOwmSwitched s) := by
  unfold execOwmSwitched; simp (maxDischargeDepth := 99) [*]

@[simp ↓] theorem kept_rqAdvance {u : State} {s : State} (h : Kept u s) :
    Kept u (s.rqAdvance) := by
  unfold State.rqAdvance; simp (maxDischargeDepth := 99) [*]

@[simp ↓] theorem kept_rRqClass {u : State} {s : State} (h : Kept u s) :
    Kept u (s.rRqClass).1 := by
  unfold State.rRqClass; simp (maxDischargeDepth := 99) [*]

theorem kept_rRqClass_of {u : State} {s : State} {t0 : State} {a0 : Word} (e : (s.rRqClass) = (t0, a0)) (h : Kept u s) : Kept u t0 :=
  Kept.fst_of (kept_rRqClass h) e

@[simp ↓] theorem kept_wRqClass {u : State} {s : State} (val : Word) (h : Kept u s) :
    Kept u (s.wRqClass val) := by
  unfold State.wRqClass; simp (maxDischargeDepth := 99) [*]

@[simp ↓] theorem kept_wRqSel {u : State} {s : State} (req : Requester) (val : Word) (h : Kept u s) :
    Kept u (s.wRqSel req val) := by
  unfold State.wRqSel; simp (maxDischargeDepth := 99) [*]

@[simp ↓] theorem kept_wMonSel {u : State} {s : State} (req : Requester) (val : Word) (h : Kept u s) :
    Kept u (s.wMonSel req val) := by
  unfold State.wMonSel; simp (maxDischargeDepth := 99) [*]

end Sys2Proof.Machine
end

