-- ==== Sys2Proof/Laws/KeptPeek.lean ====
section
/-! SUPPORT. What the operations of Machine/Peek.lean keep. -/
namespace Sys2Proof.Machine

@[simp ↓] theorem kept_freezePage {u : State} {s : State} (p : Nat) (h : Kept u s) :
    Kept u (s.freezePage p) := by
  unfold State.freezePage; repeat' (first | (simp (maxDischargeDepth := 99) [*]; done) | split)

@[simp ↓] theorem kept_freeze {u : State} {s : State} (l : List Nat) (h : Kept u s) :
    Kept u (s.freeze l) := by
  unfold State.freeze; simp (maxDischargeDepth := 99) +contextual [*]

end Sys2Proof.Machine
end

