-- ==== Sys2Proof/Laws/KeptReset.lean ====
section
/-! SUPPORT. What the operations of Machine/Reset.lean keep. -/
namespace Sys2Proof.Machine

@[simp ↓] theorem kept_pkgRegs {u : State} {s : State} (c : Cause) (h : Kept u s) :
    Kept u (s.pkgRegs c) := by
  unfold State.pkgRegs
  extract_lets locked keep a b c1 d e f g
  have ha : Kept u a := Kept.keepRegs h _
  have hf : Kept u f := kept_modReg _ _ _ (kept_modReg _ _ _ (kept_setRbit _ _ _ _ (kept_modReg _ _ _ (kept_modReg _ _ _ ha))))
  have hg : Kept u g := Kept.ite _ (kept_each hf _ _ (fun t k ht => kept_setStat _ _ _ ht)) hf
  exact kept_setRbit _ _ _ _ (Kept.ite _ hg (kept_setReg hg _ _ _))

@[simp ↓] theorem kept_packageReset {u : State} {s : State} (c : Cause) (h : Kept u s) :
    Kept u (s.packageReset c) := by
  unfold State.packageReset
  extract_lets
  exact Kept.mk (Kept.noMem (kept_flashLoss (kept_pkgRegs c h))) _ _ _ _ _ _ _ _ _ _ _ _ _ _ _ _ _ _ _ _ _ _ _ _ _

@[simp ↓] theorem kept_setStep {u : State} {s : State} (n : Nat) (h : Kept u s) :
    Kept u (s.setStep n) := by
  unfold State.setStep; simp (maxDischargeDepth := 99) [*]

@[simp ↓] theorem kept_kick {u : State} {s : State} (i : Nat) (h : Kept u s) :
    Kept u (s.kick i) := by
  unfold State.kick; simp (maxDischargeDepth := 99) [*]

@[simp ↓] theorem kept_start {u : State} {s : State} (gb : Bool) (sample : Bool) (h : Kept u s) :
    Kept u (s.start gb sample) := by
  unfold State.start; simp (maxDischargeDepth := 99) +contextual [*]

@[simp ↓] theorem kept_tryStart {u : State} {s : State} (gb : Bool) (h : Kept u s) :
    Kept u (s.tryStart gb) := by
  unfold State.tryStart; simp (maxDischargeDepth := 99) [*]

theorem kept_execPorRelease {u : State} (gb : Bool) {s : State} (h : Kept u s) :
    KeptO u (execPorRelease gb s) := by
  unfold execPorRelease; simp (maxDischargeDepth := 99) [*]

theorem kept_execSupplyBrownout {u : State} {s : State} (h : Kept u s) :
    KeptO u (execSupplyBrownout s) := by
  unfold execSupplyBrownout; simp (maxDischargeDepth := 99) [*]

theorem kept_execResetN {u : State} {s : State} (h : Kept u s) :
    KeptO u (execResetN s) := by
  unfold execResetN; simp (maxDischargeDepth := 99) [*]

theorem kept_execResetNRelease {u : State} (gb : Bool) {s : State} (h : Kept u s) :
    KeptO u (execResetNRelease gb s) := by
  unfold execResetNRelease; simp (maxDischargeDepth := 99) [*]

theorem kept_execResetDevice {u : State} (src : Nat) {s : State} (h : Kept u s) :
    KeptO u (execResetDevice src s) := by
  unfold execResetDevice; repeat' (first | (simp (maxDischargeDepth := 99) [*]; done) | split)

theorem kept_execTamperResetRelease {u : State} (gb : Bool) {s : State} (h : Kept u s) :
    KeptO u (execTamperResetRelease gb s) := by
  unfold execTamperResetRelease; simp (maxDischargeDepth := 99) [*]

theorem kept_execDevWdtExpiry {u : State} (gb : Bool) {s : State} (h : Kept u s) :
    KeptO u (execDevWdtExpiry gb s) := by
  unfold execDevWdtExpiry; simp (maxDischargeDepth := 99) [*]

theorem kept_execDevWdtWarn {u : State} {s : State} (h : Kept u s) :
    KeptO u (execDevWdtWarn s) := by
  unfold execDevWdtWarn; simp (maxDischargeDepth := 99) [*]

theorem kept_execRgWdtExpiry {u : State} (k : Nat) {s : State} (h : Kept u s) :
    KeptO u (execRgWdtExpiry k s) := by
  unfold execRgWdtExpiry; simp (maxDischargeDepth := 99) [*]

@[simp ↓] theorem kept_wKick {u : State} {s : State} (req : Requester) (val : Word) (h : Kept u s) :
    Kept u (s.wKick req val) := by
  unfold State.wKick; simp (maxDischargeDepth := 99) +contextual [*]

theorem kept_execKick {u : State} (req : Requester) (val : Word) {s : State} (h : Kept u s) :
    KeptO u (execKick req val s) := by
  unfold execKick; simp (maxDischargeDepth := 99) [*]

theorem kept_execCauseRead {u : State} (_req : Requester) {s : State} (h : Kept u s) :
    KeptO u (execCauseRead _req s) := by
  unfold execCauseRead; simp (maxDischargeDepth := 99) [*]

theorem kept_execPerstN {u : State} {s : State} (h : Kept u s) :
    KeptO u (execPerstN s) := by
  unfold execPerstN; simp (maxDischargeDepth := 99) +contextual [*]

theorem kept_execPerstNRelease {u : State} {s : State} (h : Kept u s) :
    KeptO u (execPerstNRelease s) := by
  unfold execPerstNRelease; simp (maxDischargeDepth := 99) [*]

@[simp ↓] theorem kept_autoStart {u : State} {s : State} (l : List Nat) (h : Kept u s) :
    Kept u (s.autoStart l) := by
  unfold State.autoStart; simp (maxDischargeDepth := 99) +contextual [*]

@[simp ↓] theorem kept_allReady {u : State} {s : State} (h : Kept u s) :
    Kept u (s.allReady) := by
  unfold State.allReady; simp (maxDischargeDepth := 99) [*]

@[simp ↓] theorem kept_checkSource {u : State} {s : State} (src : Nat) (h : Kept u s) :
    Kept u (s.checkSource src) := by
  unfold State.checkSource; simp (maxDischargeDepth := 99) [*]

@[simp ↓] theorem kept_runPending {u : State} {s : State} (h : Kept u s) :
    Kept u (s.runPending) := by
  unfold State.runPending; simp (maxDischargeDepth := 99) +contextual [*]

@[simp ↓] theorem kept_showRoot {u : State} {s : State} (h : Kept u s) :
    Kept u (s.showRoot) := by
  unfold State.showRoot; simp (maxDischargeDepth := 99) [*]

@[simp ↓] theorem kept_stopRetired {u : State} {s : State} (h : Kept u s) :
    Kept u (s.stopRetired) := by
  unfold State.stopRetired; simp (maxDischargeDepth := 99) +contextual [*]

@[simp ↓] theorem kept_steps34 {u : State} {s : State} (h : Kept u s) :
    Kept u (s.steps34) := by
  unfold State.steps34; simp (maxDischargeDepth := 99) [*]

theorem kept_execHummockCheck {u : State} (found : List Nat) {s : State} (h : Kept u s) :
    KeptO u (execHummockCheck found s) := by
  unfold execHummockCheck; simp (maxDischargeDepth := 99) +contextual [*]

@[simp ↓] theorem kept_stepsDone {u : State} {s : State} (h : Kept u s) :
    Kept u (s.stepsDone) := by
  unfold State.stepsDone; simp (maxDischargeDepth := 99) [*]

theorem kept_execClusterBistDone {u : State} (cl : Nat) (pass : Bool) {s : State} (h : Kept u s) :
    KeptO u (execClusterBistDone cl pass s) := by
  unfold execClusterBistDone; simp (maxDischargeDepth := 99) [*]

theorem kept_execStartUpDone {u : State} (page : Nat) (pass : Bool) (vec : Nat) {s : State} (h : Kept u s) :
    KeptO u (execStartUpDone page pass vec s) := by
  unfold execStartUpDone; simp (maxDischargeDepth := 99) [*]

@[simp ↓] theorem kept_bootFrom {u : State} {s : State} (slot : Nat) (h : Kept u s) :
    Kept u (s.bootFrom slot) := by
  unfold State.bootFrom; simp (maxDischargeDepth := 99) [*]

theorem kept_execBootVerify {u : State} (badA : Bool) (badB : Bool) {s : State} (h : Kept u s) :
    KeptO u (execBootVerify badA badB s) := by
  unfold execBootVerify; simp (maxDischargeDepth := 99) [*]

@[simp ↓] theorem kept_loadCluster {u : State} {s : State} (n : Nat) (h : Kept u s) :
    Kept u (s.loadCluster n) := by
  unfold State.loadCluster; simp (maxDischargeDepth := 99) +contextual [*]

theorem kept_execFirmwareCopy {u : State} {s : State} (h : Kept u s) :
    KeptO u (execFirmwareCopy s) := by
  unfold execFirmwareCopy; simp (maxDischargeDepth := 99) +contextual [*]

@[simp ↓] theorem kept_eraseJournal {u : State} {s : State} (h : Kept u s) :
    Kept u (s.eraseJournal) := by
  unfold State.eraseJournal; simp (maxDischargeDepth := 99) +contextual [*]

@[simp ↓] theorem kept_replay {u : State} {s : State} (l : List JRec) (h : Kept u s) :
    Kept u (s.replay l) := by
  unfold State.replay
  dsimp only
  repeat' (first | (simp (maxDischargeDepth := 99) +contextual [*]; done) | intro _ | ((split)) | with_reducible apply kept_each | with_reducible apply Kept.foldl | with_reducible apply kept_setReg)

@[simp ↓] theorem kept_restoreJournal {u : State} {s : State} (h : Kept u s) :
    Kept u (s.restoreJournal) := by
  unfold State.restoreJournal; simp (maxDischargeDepth := 99) [*]

theorem kept_execJournalRestore {u : State} {s : State} (h : Kept u s) :
    KeptO u (execJournalRestore s) := by
  unfold execJournalRestore; simp (maxDischargeDepth := 99) [*]

@[simp ↓] theorem kept_thaw {u : State} {s : State} (l : List Nat) (h : Kept u s) :
    Kept u (s.thaw l) := by
  unfold State.thaw; simp (maxDischargeDepth := 99) [*]

@[simp ↓] theorem kept_regionRegs {u : State} {s : State} (k : Nat) (h : Kept u s) :
    Kept u (s.regionRegs k) := by
  unfold State.regionRegs
  extract_lets a b
  have ha : Kept u a := by
    refine kept_each h _ _ (fun t p ht => ?_)
    split <;> simp [ht]
  have hb : Kept u b := kept_each ha _ _ (fun t c ht => kept_setCore _ _ ht)
  exact Kept.mk hb _ _ _ _ _ _ _ _ _ _ _ _ _ _ _ _ _ _ _ _ _ _ _ _ _

@[simp ↓] theorem kept_regionReset {u : State} {s : State} (k : Nat) (h : Kept u s) :
    Kept u (s.regionReset k) := by
  unfold State.regionReset; simp (maxDischargeDepth := 99) [*]

theorem kept_execRgReset {u : State} (_req : Requester) (val : Word) {s : State} (h : Kept u s) :
    KeptO u (execRgReset _req val s) := by
  unfold execRgReset; simp (maxDischargeDepth := 99) +contextual [*]

theorem kept_execRgResetDone {u : State} (k : Nat) (pass : Bool) (bad : Bool) {s : State} (h : Kept u s) :
    KeptO u (execRgResetDone k pass bad s) := by
  unfold execRgResetDone; simp (maxDischargeDepth := 99) +contextual [*]

@[simp ↓] theorem kept_rollbackAdv {u : State} {s : State} (req : Requester) (h : Kept u s) :
    Kept u (s.rollbackAdv req) := by
  unfold State.rollbackAdv; simp (maxDischargeDepth := 99) [*]

theorem kept_execRollbackAdv {u : State} (req : Requester) {s : State} (h : Kept u s) :
    KeptO u (execRollbackAdv req s) := by
  unfold execRollbackAdv; simp (maxDischargeDepth := 99) [*]

@[simp ↓] theorem kept_wBootcfg {u : State} {s : State} (req : Requester) (val : Word) (h : Kept u s) :
    Kept u (s.wBootcfg req val) := by
  unfold State.wBootcfg; simp (maxDischargeDepth := 99) [*]

theorem kept_execBootcfgWrite {u : State} (req : Requester) (val : Word) {s : State} (h : Kept u s) :
    KeptO u (execBootcfgWrite req val s) := by
  unfold execBootcfgWrite; simp (maxDischargeDepth := 99) [*]

theorem kept_execVbatApply {u : State} {s : State} (h : Kept u s) :
    KeptO u (execVbatApply s) := by
  unfold execVbatApply; simp (maxDischargeDepth := 99) [*]

end Sys2Proof.Machine
end

