-- ==== Sys2Proof/Laws/KeptDiag.lean ====
section
/-! SUPPORT. What the operations of Machine/Diag.lean keep. -/
namespace Sys2Proof.Machine

@[simp ↓] theorem kept_shutIfOn {u : State} {s : State} (p : Nat) (h : Kept u s) :
    Kept u (s.shutIfOn p) := by
  unfold State.shutIfOn; simp (maxDischargeDepth := 99) [*]

@[simp ↓] theorem kept_deviceFault {u : State} {s : State} (h : Kept u s) :
    Kept u (s.deviceFault) := by
  unfold State.deviceFault; simp (maxDischargeDepth := 99) +contextual [*]

@[simp ↓] theorem kept_tableUe {u : State} {s : State} (a : Nat) (h : Kept u s) :
    Kept u (s.tableUe a) := by
  unfold State.tableUe; simp (maxDischargeDepth := 99) [*]

@[simp ↓] theorem kept_placeUe {u : State} {s : State} (key : Nat) (h : Kept u s) :
    Kept u (s.placeUe key) := by
  unfold State.placeUe; simp (maxDischargeDepth := 99) [*]

theorem kept_execJobPlace {u : State} (key : Nat) {s : State} (h : Kept u s) :
    KeptO u (execJobPlace key s) := by
  unfold execJobPlace; repeat' (first | (simp (maxDischargeDepth := 99) [*]; done) | split)

@[simp ↓] theorem kept_passEnd {u : State} {s : State} (k : Nat) (h : Kept u s) :
    Kept u (s.passEnd k) := by
  unfold State.passEnd; simp (maxDischargeDepth := 99) [*]

@[simp ↓] theorem kept_scrubRead {u : State} {s : State} (k : Nat) (b : Nat) (slot : Nat) (outcome : Nat) (word : Nat) (h : Kept u s) :
    Kept u (s.scrubRead k b slot outcome word) := by
  unfold State.scrubRead; simp (maxDischargeDepth := 99) [*]

theorem kept_execScrubRead {u : State} (k : Nat) (b : Nat) (outcome : Nat) (word : Nat) {s : State} (h : Kept u s) :
    KeptO u (execScrubRead k b outcome word s) := by
  unfold execScrubRead; simp (maxDischargeDepth := 99) [*]

@[simp ↓] theorem kept_mismReact {u : State} {s : State} (kind : Nat) (p : Nat) (w : Nat) (h : Kept u s) :
    Kept u (s.mismReact kind p w) := by
  unfold State.mismReact; repeat' (first | (simp (maxDischargeDepth := 99) [*]; done) | split)

@[simp ↓] theorem kept_mismatch {u : State} {s : State} (kind : Nat) (i : Nat) (background : Bool) (h : Kept u s) :
    Kept u (s.mismatch kind i background) := by
  unfold State.mismatch; simp (maxDischargeDepth := 99) [*]

theorem kept_execBackgroundCompare {u : State} (background : Bool) (bad : Option (Nat × Nat)) {s : State} (h : Kept u s) :
    KeptO u (execBackgroundCompare background bad s) := by
  unfold execBackgroundCompare; repeat' (first | (simp (maxDischargeDepth := 99) [*]; done) | split)

@[simp ↓] theorem kept_testOn {u : State} {s : State} (kind : Nat) (rg : Nat) (h : Kept u s) :
    Kept u (s.testOn kind rg) := by
  unfold State.testOn; simp (maxDischargeDepth := 99) [*]

@[simp ↓] theorem kept_testOk {u : State} {s : State} (b : Bool) (h : Kept u s) :
    Kept u (s.testOk b) := by
  unfold State.testOk; simp (maxDischargeDepth := 99) [*]

@[simp ↓] theorem kept_wInject {u : State} {s : State} (req : Requester) (val : Word) (h : Kept u s) :
    Kept u (s.wInject req val) := by
  unfold State.wInject; simp (maxDischargeDepth := 99) [*]

theorem kept_execInjectScrubFlip {u : State} (req : Requester) (rg : Nat) {s : State} (h : Kept u s) :
    KeptO u (execInjectScrubFlip req rg s) := by
  unfold execInjectScrubFlip; simp (maxDischargeDepth := 99) [*]

theorem kept_execInjectTestRow {u : State} (req : Requester) (rg : Nat) {s : State} (h : Kept u s) :
    KeptO u (execInjectTestRow req rg s) := by
  unfold execInjectTestRow; simp (maxDischargeDepth := 99) [*]

theorem kept_execInjectRegComplement {u : State} (req : Requester) {s : State} (h : Kept u s) :
    KeptO u (execInjectRegComplement req s) := by
  unfold execInjectRegComplement; simp (maxDischargeDepth := 99) [*]

theorem kept_execInjectDone {u : State} {s : State} (h : Kept u s) :
    KeptO u (execInjectDone s) := by
  unfold execInjectDone; simp (maxDischargeDepth := 99) [*]

@[simp ↓] theorem kept_readLatch {u : State} {s : State} (w : Nat) (h : Kept u s) :
    Kept u (s.readLatch w) := by
  unfold State.readLatch; simp (maxDischargeDepth := 99) [*]

theorem kept_execUeInfoRead {u : State} (_req : Requester) {s : State} (h : Kept u s) :
    KeptO u (execUeInfoRead _req s) := by
  unfold execUeInfoRead; simp (maxDischargeDepth := 99) [*]

theorem kept_execRegfPageRead {u : State} (_req : Requester) {s : State} (h : Kept u s) :
    KeptO u (execRegfPageRead _req s) := by
  unfold execRegfPageRead; simp (maxDischargeDepth := 99) [*]

theorem kept_execLinkRead {u : State} (_req : Requester) {s : State} (h : Kept u s) :
    KeptO u (execLinkRead _req s) := by
  unfold execLinkRead; simp (maxDischargeDepth := 99) [*]

end Sys2Proof.Machine
end

