-- ==== Sys2Proof/Laws/KeptDebug.lean ====
section
/-! SUPPORT. What the operations of Machine/Debug.lean keep. -/
namespace Sys2Proof.Machine

@[simp ↓] theorem kept_selNext {u : State} {s : State} (p : Nat) (w : Nat) (hi : Nat) (last : Nat) (h : Kept u s) :
    Kept u (s.selNext p w hi last) := by
  unfold State.selNext; simp (maxDischargeDepth := 99) [*]

@[simp ↓] theorem kept_gcolNext {u : State} {s : State} (n : Nat) (h : Kept u s) :
    Kept u (s.gcolNext n) := by
  unfold State.gcolNext; simp (maxDischargeDepth := 99) [*]

@[simp ↓] theorem kept_rGcol {u : State} {s : State} (n : Nat) (h : Kept u s) :
    Kept u (s.rGcol n).1 := by
  unfold State.rGcol; simp (maxDischargeDepth := 99) [*]

theorem kept_rGcol_of {u : State} {s : State} {n : Nat} {t0 : State} {a0 : Word} (e : (s.rGcol n) = (t0, a0)) (h : Kept u s) : Kept u t0 :=
  Kept.fst_of (kept_rGcol n h) e

@[simp ↓] theorem kept_setGcol {u : State} {s : State} (n : Nat) (g : Nat) (c : Nat) (h : Kept u s) :
    Kept u (s.setGcol n g c) := by
  unfold State.setGcol; simp (maxDischargeDepth := 99) [*]

@[simp ↓] theorem kept_colour {u : State} {s : State} (n : Nat) (g : Nat) (c : Nat) (h : Kept u s) :
    Kept u (s.colour n g c) := by
  unfold State.colour; simp (maxDischargeDepth := 99) [*]

@[simp ↓] theorem kept_wGcol {u : State} {s : State} (req : Requester) (n : Nat) (val : Word) (h : Kept u s) :
    Kept u (s.wGcol req n val) := by
  unfold State.wGcol; simp (maxDischargeDepth := 99) [*]

@[simp ↓] theorem kept_answered {u : State} {r : State × Word} (h : Kept u r.1) : Kept u (State.answered r) :=
  kept_answer _ h

theorem kept_execGcolDataAccess {u : State} (req : Requester) (n : Nat) (wr : Option Word) {s : State} (h : Kept u s) :
    KeptO u (execGcolDataAccess req n wr s) := by
  unfold execGcolDataAccess; repeat' (first | (simp (maxDischargeDepth := 99) [*]; done) | split)

theorem kept_execGranuleClear {u : State} (n : Nat) {s : State} (h : Kept u s) :
    KeptO u (execGranuleClear n s) := by
  unfold execGranuleClear; repeat' (first | (simp (maxDischargeDepth := 99) [*]; done) | split)

@[simp ↓] theorem kept_ruleNext {u : State} {s : State} (h : Kept u s) :
    Kept u (s.ruleNext) := by
  unfold State.ruleNext; simp (maxDischargeDepth := 99) [*]

@[simp ↓] theorem kept_rRule {u : State} {s : State} (h : Kept u s) :
    Kept u (s.rRule).1 := by
  unfold State.rRule; simp (maxDischargeDepth := 99) [*]

theorem kept_rRule_of {u : State} {s : State} {t0 : State} {a0 : Word} (e : (s.rRule) = (t0, a0)) (h : Kept u s) : Kept u t0 :=
  Kept.fst_of (kept_rRule h) e

@[simp ↓] theorem kept_wRule {u : State} {s : State} (val : Word) (h : Kept u s) :
    Kept u (s.wRule val) := by
  unfold State.wRule; simp (maxDischargeDepth := 99) [*]

theorem kept_execRuleDataAccess {u : State} (req : Requester) (wr : Option Word) {s : State} (h : Kept u s) :
    KeptO u (execRuleDataAccess req wr s) := by
  unfold execRuleDataAccess; repeat' (first | (simp (maxDischargeDepth := 99) [*]; done) | split)

@[simp ↓] theorem kept_setDbgBit {u : State} {s : State} (w : Nat) (c : Nat) (b : Bool) (h : Kept u s) :
    Kept u (s.setDbgBit w c b) := by
  unfold State.setDbgBit; simp (maxDischargeDepth := 99) [*]

@[simp ↓] theorem kept_wHaltReq {u : State} {s : State} (k : Nat) (val : Word) (h : Kept u s) :
    Kept u (s.wHaltReq k val) := by
  unfold State.wHaltReq; simp (maxDischargeDepth := 99) [*]

theorem kept_execHaltReqWrite {u : State} (_req : Requester) (k : Nat) (val : Word) {s : State} (h : Kept u s) :
    KeptO u (execHaltReqWrite _req k val s) := by
  unfold execHaltReqWrite; simp (maxDischargeDepth := 99) [*]

@[simp ↓] theorem kept_resumeCore {u : State} {s : State} (c : Nat) (h : Kept u s) :
    Kept u (s.resumeCore c) := by
  unfold State.resumeCore; simp (maxDischargeDepth := 99) [*]

@[simp ↓] theorem kept_wResume {u : State} {s : State} (k : Nat) (val : Word) (h : Kept u s) :
    Kept u (s.wResume k val) := by
  unfold State.wResume; simp (maxDischargeDepth := 99) +contextual [*]

theorem kept_execResumeWrite {u : State} (_req : Requester) (k : Nat) (val : Word) {s : State} (h : Kept u s) :
    KeptO u (execResumeWrite _req k val s) := by
  unfold execResumeWrite; simp (maxDischargeDepth := 99) [*]

@[simp ↓] theorem kept_seal {u : State} {s : State} (h : Kept u s) :
    Kept u (s.seal) := by
  unfold State.seal; simp (maxDischargeDepth := 99) +contextual [*]

@[simp ↓] theorem kept_wLifeAdv {u : State} {s : State} (req : Requester) (val : Word) (h : Kept u s) :
    Kept u (s.wLifeAdv req val) := by
  unfold State.wLifeAdv; simp (maxDischargeDepth := 99) [*]

theorem kept_execLifeAdv {u : State} (req : Requester) (val : Word) {s : State} (h : Kept u s) :
    KeptO u (execLifeAdv req val s) := by
  unfold execLifeAdv; simp (maxDischargeDepth := 99) [*]

end Sys2Proof.Machine
end

