-- ==== Sys2Proof/Laws/KeptCeremony.lean ====
section
/-! SUPPORT. What the operations of Machine/Ceremony.lean keep. -/
namespace Sys2Proof.Machine

@[simp ↓] theorem kept_cerRefuse {u : State} {s : State} (func : Nat) (cause : Nat) (h : Kept u s) :
    Kept u (s.cerRefuse func cause) := by
  unfold State.cerRefuse; simp (maxDischargeDepth := 99) [*]

@[simp ↓] theorem kept_cerOpen {u : State} {s : State} (func : Nat) (h : Kept u s) :
    Kept u (s.cerOpen func) := by
  unfold State.cerOpen; simp (maxDischargeDepth := 99) [*]

@[simp ↓] theorem kept_cerStart {u : State} {s : State} (req : Requester) (func : Nat) (h : Kept u s) :
    Kept u (s.cerStart req func) := by
  unfold State.cerStart; simp (maxDischargeDepth := 99) [*]

@[simp ↓] theorem kept_cerCancel {u : State} {s : State} (h : Kept u s) :
    Kept u (s.cerCancel) := by
  unfold State.cerCancel; simp (maxDischargeDepth := 99) [*]

theorem kept_execCerCommission {u : State} (req : Requester) {s : State} (h : Kept u s) :
    KeptO u (execCerCommission req s) := by
  unfold execCerCommission; simp (maxDischargeDepth := 99) [*]

theorem kept_execCerEnrolDomain {u : State} (req : Requester) {s : State} (h : Kept u s) :
    KeptO u (execCerEnrolDomain req s) := by
  unfold execCerEnrolDomain; simp (maxDischargeDepth := 99) [*]

theorem kept_execCerSetTamper {u : State} (req : Requester) {s : State} (h : Kept u s) :
    KeptO u (execCerSetTamper req s) := by
  unfold execCerSetTamper; simp (maxDischargeDepth := 99) [*]

theorem kept_execCerLeaveGb {u : State} (req : Requester) {s : State} (h : Kept u s) :
    KeptO u (execCerLeaveGb req s) := by
  unfold execCerLeaveGb; simp (maxDischargeDepth := 99) [*]

theorem kept_execCerRetire {u : State} (req : Requester) {s : State} (h : Kept u s) :
    KeptO u (execCerRetire req s) := by
  unfold execCerRetire; simp (maxDischargeDepth := 99) [*]

theorem kept_execCerCustodians {u : State} (req : Requester) {s : State} (h : Kept u s) :
    KeptO u (execCerCustodians req s) := by
  unfold execCerCustodians; simp (maxDischargeDepth := 99) [*]

theorem kept_execCerCancel {u : State} (_req : Requester) {s : State} (h : Kept u s) :
    KeptO u (execCerCancel _req s) := by
  unfold execCerCancel; simp (maxDischargeDepth := 99) [*]

theorem kept_execCeremonyTimeout {u : State} {s : State} (h : Kept u s) :
    KeptO u (execCeremonyTimeout s) := by
  unfold execCeremonyTimeout; simp (maxDischargeDepth := 99) [*]

@[simp ↓] theorem kept_cerDone {u : State} {s : State} (h : Kept u s) :
    Kept u (s.cerDone) := by
  unfold State.cerDone; simp (maxDischargeDepth := 99) [*]

@[simp ↓] theorem kept_ceremonySlot {u : State} {s : State} (n : Nat) (v : Slot) (h : Kept u s) :
    Kept u (s.ceremonySlot n v) := by
  unfold State.ceremonySlot; simp (maxDischargeDepth := 99) [*]

@[simp ↓] theorem kept_ceremonyRetire {u : State} {s : State} (n : Nat) (h : Kept u s) :
    Kept u (s.ceremonyRetire n) := by
  unfold State.ceremonyRetire; simp (maxDischargeDepth := 99) [*]

@[simp ↓] theorem kept_enrolled {u : State} {s : State} (l : List (BitVec 256)) (h : Kept u s) :
    Kept u (s.enrolled l) := by
  unfold State.enrolled; simp (maxDischargeDepth := 99) +contextual [*]

@[simp ↓] theorem kept_commission {u : State} {s : State} (h : Kept u s) :
    Kept u (s.commission) := by
  unfold State.commission; simp (maxDischargeDepth := 99) [*]

@[simp ↓] theorem kept_enrolRefused {u : State} {s : State} (h : Kept u s) :
    Kept u (s.enrolRefused) := by
  unfold State.enrolRefused; simp (maxDischargeDepth := 99) +contextual [*]

@[simp ↓] theorem kept_enrolDomain {u : State} {s : State} (h : Kept u s) :
    Kept u (s.enrolDomain) := by
  unfold State.enrolDomain; simp (maxDischargeDepth := 99) [*]

@[simp ↓] theorem kept_leaveGb {u : State} {s : State} (h : Kept u s) :
    Kept u (s.leaveGb) := by
  unfold State.leaveGb; simp (maxDischargeDepth := 99) [*]

@[simp ↓] theorem kept_cerRetired {u : State} {s : State} (h : Kept u s) :
    Kept u (s.cerRetired) := by
  unfold State.cerRetired; simp (maxDischargeDepth := 99) +contextual [*]

@[simp ↓] theorem kept_cerExecute {u : State} {s : State} (h : Kept u s) :
    Kept u (s.cerExecute) := by
  unfold State.cerExecute; simp only []; repeat' (first | (simp (maxDischargeDepth := 99) +contextual [*]; done) | split)

@[simp ↓] theorem kept_cerCount {u : State} {s : State} (n : Nat) (h : Kept u s) :
    Kept u (s.cerCount n) := by
  unfold State.cerCount; simp (maxDischargeDepth := 99) [*]

@[simp ↓] theorem kept_cardNeeded {u : State} {s : State} (h : Kept u s) :
    Kept u (s.cardNeeded) := by
  unfold State.cardNeeded; simp (maxDischargeDepth := 99) [*]

@[simp ↓] theorem kept_enrolCard {u : State} {s : State} (d : BitVec 256) (h : Kept u s) :
    Kept u (s.enrolCard d) := by
  unfold State.enrolCard; simp (maxDischargeDepth := 99) [*]

@[simp ↓] theorem kept_countCard {u : State} {s : State} (d : BitVec 256) (comp : BitVec 256) (h : Kept u s) :
    Kept u (s.countCard d comp) := by
  unfold State.countCard; simp (maxDischargeDepth := 99) [*]

@[simp ↓] theorem kept_cardStation {u : State} {s : State} (n : Nat) (apdus : List (List Octet)) (h : Kept u s) :
    Kept u (s.cardStation n apdus) := by
  unfold State.cardStation; simp (maxDischargeDepth := 99) +contextual [*]

@[simp ↓] theorem kept_cardAnswer {u : State} {s : State} (pubkey : List Octet) (sig : List Octet) (comp : List Octet) (o : List Octet) (h : Kept u s) :
    Kept u (s.cardAnswer pubkey sig comp o) := by
  unfold State.cardAnswer; simp only []; repeat' (first | (simp (maxDischargeDepth := 99) +contextual [*]; done) | split)

@[simp ↓] theorem kept_cardRun {u : State} {s : State} (stn : Nat) (n : Nat) (pubkey : List Octet) (sig : List Octet) (comp : List Octet) (whole : Bool) (h : Kept u s) :
    Kept u (s.cardRun stn n pubkey sig comp whole) := by
  unfold State.cardRun; simp only []; repeat' (first | (simp (maxDischargeDepth := 99) +contextual [*]; done) | split)

theorem kept_execCustodianCardProcess {u : State} (stn : Nat) (pubkey : List Octet) (sig : List Octet) (comp : List Octet) (fail : Option Nat) {s : State} (h : Kept u s) :
    KeptO u (execCustodianCardProcess stn pubkey sig comp fail s) := by
  unfold execCustodianCardProcess; repeat' (first | (simp (maxDischargeDepth := 99) [*]; done) | split)

end Sys2Proof.Machine
end

