-- ==== Sys2Proof/Laws/KeptBus.lean ====
section
/-! SUPPORT. What the operations of Machine/Bus.lean keep. -/
namespace Sys2Proof.Machine

@[simp ↓] theorem kept_after {u s : State} {o : Host.Outcome State Fault Refusal} (h : Kept u s) (ho : KeptO u o) :
    Kept u (s.after o) := by
  cases o
  · exact ho
  · exact h
  · exact h

@[simp ↓] theorem kept_readClear {u : State} {s : State} (p : Nat) (w : Nat) (h : Kept u s) :
    Kept u (s.readClear p w).1 := by
  unfold State.readClear; simp (maxDischargeDepth := 99) [*]

theorem kept_readClear_of {u : State} {s : State} {p : Nat} {w : Nat} {t0 : State} {a0 : Word} (e : (s.readClear p w) = (t0, a0)) (h : Kept u s) : Kept u t0 :=
  Kept.fst_of (kept_readClear p w h) e

@[simp ↓] theorem kept_routeNext {u : State} {s : State} (h : Kept u s) :
    Kept u (s.routeNext) := by
  unfold State.routeNext; simp (maxDischargeDepth := 99) [*]

@[simp ↓] theorem kept_readSystime {u : State} {s : State} (req : Requester) (i : Nat) (h : Kept u s) :
    Kept u (s.readSystime req i).1 := by
  unfold State.readSystime; repeat' (first | (simp (maxDischargeDepth := 99) [*]; done) | split)

theorem kept_readSystime_of {u : State} {s : State} {req : Requester} {i : Nat} {t0 : State} {a0 : Word} (e : (s.readSystime req i) = (t0, a0)) (h : Kept u s) : Kept u t0 :=
  Kept.fst_of (kept_readSystime req i h) e

@[simp ↓] theorem kept_readRand {u : State} {s : State} (req : Requester) (n : Nat) (w : Nat) (h : Kept u s) :
    Kept u (s.readRand req n w).1 := by
  unfold State.readRand; repeat' (first | (simp (maxDischargeDepth := 99) [*]; done) | split)

theorem kept_readRand_of {u : State} {s : State} {req : Requester} {n : Nat} {w : Nat} {t0 : State} {a0 : Word} (e : (s.readRand req n w) = (t0, a0)) (h : Kept u s) : Kept u t0 :=
  Kept.fst_of (kept_readRand req n w h) e

@[simp ↓] theorem kept_readEnt0 {u : State} {s : State} (req : Requester) (h : Kept u s) :
    Kept u (s.readEnt0 req).1 := by
  unfold State.readEnt0; simp (maxDischargeDepth := 99) [*]

theorem kept_readEnt0_of {u : State} {s : State} {req : Requester} {t0 : State} {a0 : Word} (e : (s.readEnt0 req) = (t0, a0)) (h : Kept u s) : Kept u t0 :=
  Kept.fst_of (kept_readEnt0 req h) e

@[simp ↓] theorem kept_readRtc0 {u : State} {s : State} (h : Kept u s) :
    Kept u (s.readRtc0).1 := by
  unfold State.readRtc0; simp (maxDischargeDepth := 99) [*]

theorem kept_readRtc0_of {u : State} {s : State} {t0 : State} {a0 : Word} (e : (s.readRtc0) = (t0, a0)) (h : Kept u s) : Kept u t0 :=
  Kept.fst_of (kept_readRtc0 h) e

@[simp ↓] theorem kept_readStage {u : State} {s : State} (h : Kept u s) :
    Kept u (s.readStage).1 := by
  unfold State.readStage; simp (maxDischargeDepth := 99) [*]

theorem kept_readStage_of {u : State} {s : State} {t0 : State} {a0 : Word} (e : (s.readStage) = (t0, a0)) (h : Kept u s) : Kept u t0 :=
  Kept.fst_of (kept_readStage h) e

@[simp ↓] theorem kept_readBlock {u : State} {s : State} (r : Who) (p : Nat) (w : Nat) (h : Kept u s) :
    Kept u (s.readBlock r p w).1 := by
  unfold State.readBlock; repeat' (first | (simp (maxDischargeDepth := 99) [*]; done) | split)

theorem kept_readBlock_of {u : State} {s : State} {r : Who} {p : Nat} {w : Nat} {t0 : State} {a0 : Word} (e : (s.readBlock r p w) = (t0, a0)) (h : Kept u s) : Kept u t0 :=
  Kept.fst_of (kept_readBlock r p w h) e

@[simp ↓] theorem kept_unlatch {u : State} {s : State} (req : Requester) (k : Nat) (h : Kept u s) :
    Kept u (s.unlatch req k) := by
  unfold State.unlatch; simp (maxDischargeDepth := 99) [*]

@[simp ↓] theorem kept_latchUpper {u : State} {s : State} (req : Requester) (p : Nat) (w : Nat) (h : Kept u s) :
    Kept u (s.latchUpper req p w) := by
  unfold State.latchUpper; simp (maxDischargeDepth := 99) [*]

@[simp ↓] theorem kept_readReg {u : State} {s : State} (r : Who) (p : Nat) (w : Nat) (h : Kept u s) :
    Kept u (s.readReg r p w).1 := by
  unfold State.readReg; repeat' (first | (simp (maxDischargeDepth := 99) [*]; done) | split)

theorem kept_readReg_of {u : State} {s : State} {r : Who} {p : Nat} {w : Nat} {t0 : State} {a0 : Word} (e : (s.readReg r p w) = (t0, a0)) (h : Kept u s) : Kept u t0 :=
  Kept.fst_of (kept_readReg r p w h) e

@[simp ↓] theorem kept_gatedRead {u : State} {s : State} (req : Requester) (p : Nat) (w : Nat) (h : Kept u s) :
    Kept u (s.gatedRead req p w).1 := by
  unfold State.gatedRead; simp only []; repeat' (first | (simp (maxDischargeDepth := 99) +contextual [*]; done) | split)

theorem kept_gatedRead_of {u : State} {s : State} {req : Requester} {p : Nat} {w : Nat} {t0 : State} {a0 : Word} (e : (s.gatedRead req p w) = (t0, a0)) (h : Kept u s) : Kept u t0 :=
  Kept.fst_of (kept_gatedRead req p w h) e

@[simp ↓] theorem kept_readRow {u : State} {s : State} (req : Requester) (p : Nat) (w : Nat) (h : Kept u s) :
    KeptO u (s.readRow req p w) := by
  unfold State.readRow; simp (maxDischargeDepth := 99) [*]

@[simp ↓] theorem kept_gatedBoth {u : State} {s : State} (req : Requester) (p : Nat) (w : Nat) (h : Kept u s) :
    Kept u (s.gatedBoth req p w) := by
  unfold State.gatedBoth; simp only []; repeat' (first | (simp (maxDischargeDepth := 99) +contextual [*]; done) | split)

@[simp ↓] theorem kept_access {u : State} {s : State} (req : Requester) (p : Nat) (w : Nat) (acc : Access) (h : Kept u s) :
    Kept u (s.access req p w acc) := by
  unfold State.access; repeat' (first | (simp (maxDischargeDepth := 99) [*]; done) | split)

theorem kept_execReg36LowerRead {u : State} (req : Requester) (page : Nat) (word : Nat) (acc : Access) {s : State} (h : Kept u s) :
    KeptO u (execReg36LowerRead req page word acc s) := by
  unfold execReg36LowerRead; simp (maxDischargeDepth := 99) [*]

theorem kept_execReg36UpperRead {u : State} (req : Requester) (page : Nat) (word : Nat) (acc : Access) {s : State} (h : Kept u s) :
    KeptO u (execReg36UpperRead req page word acc s) := by
  unfold execReg36UpperRead; simp (maxDischargeDepth := 99) [*]

@[simp ↓] theorem kept_enqueueWrite {u : State} {s : State} (x : Posted) (h : Kept u s) :
    Kept u (s.enqueueWrite x) := by
  unfold State.enqueueWrite; simp (maxDischargeDepth := 99) [*]

@[simp ↓] theorem kept_dropHalf {u : State} {s : State} (req : Requester) (k : Nat) (h : Kept u s) :
    Kept u (s.dropHalf req k) := by
  unfold State.dropHalf; simp (maxDischargeDepth := 99) [*]

@[simp ↓] theorem kept_holdHalf {u : State} {s : State} (req : Requester) (k : Nat) (v : Word) (h : Kept u s) :
    Kept u (s.holdHalf req k v) := by
  unfold State.holdHalf; simp (maxDischargeDepth := 99) [*]

@[simp ↓] theorem kept_formWrite {u : State} {s : State} (req : Requester) (p : Nat) (w : Nat) (v : Word) (h : Kept u s) :
    Kept u (s.formWrite req p w v).1 := by
  unfold State.formWrite; repeat' (first | (simp (maxDischargeDepth := 99) [*]; done) | split)

theorem kept_formWrite_of {u : State} {s : State} {req : Requester} {p : Nat} {w : Nat} {v : Word} {t0 : State} {a0 : Option Posted} (e : (s.formWrite req p w v) = (t0, a0)) (h : Kept u s) : Kept u t0 :=
  Kept.fst_of (kept_formWrite req p w v h) e

@[simp ↓] theorem kept_lockNow {u : State} {s : State} (w : Posted) (h : Kept u s) :
    Kept u (s.lockNow w) := by
  unfold State.lockNow; simp (maxDischargeDepth := 99) [*]

@[simp ↓] theorem kept_debugWord {u : State} {s : State} (a : Nat) (h : Kept u s) :
    Kept u (s.debugWord a).1 := by
  unfold State.debugWord; repeat' (first | (simp (maxDischargeDepth := 99) [*]; done) | split)

theorem kept_debugWord_of {u : State} {s : State} {a : Nat} {t0 : State} {a0 : Word} (e : (s.debugWord a) = (t0, a0)) (h : Kept u s) : Kept u t0 :=
  Kept.fst_of (kept_debugWord a h) e

@[simp ↓] theorem kept_debugPut {u : State} {s : State} (a : Nat) (v : Word) (h : Kept u s) :
    Kept u (s.debugPut a v) := by
  unfold State.debugPut
  split
  · refine Kept.ite _ h ?_
    split
    · rename_i e
      exact kept_enqueueWrite _ (kept_lockNow _ (kept_formWrite_of e h))
    · rename_i e
      exact kept_formWrite_of e h
  · exact Kept.ite _ h (kept_setWord h _ _)
  · exact h

@[simp ↓] theorem kept_debugDenied {u : State} {s : State} (a : Nat) (h : Kept u s) :
    Kept u (s.debugDenied a) := by
  unfold State.debugDenied; simp (maxDischargeDepth := 99) [*]

@[simp ↓] theorem kept_debugRead {u : State} {s : State} (a : Nat) (h : Kept u s) :
    Kept u (s.debugRead a).1 := by
  unfold State.debugRead; simp only []; repeat' (first | (simp (maxDischargeDepth := 99) +contextual [*]; done) | split)

theorem kept_debugRead_of {u : State} {s : State} {a : Nat} {t0 : State} {a0 : Word} (e : (s.debugRead a) = (t0, a0)) (h : Kept u s) : Kept u t0 :=
  Kept.fst_of (kept_debugRead a h) e

@[simp ↓] theorem kept_debugWrite {u : State} {s : State} (a : Nat) (v : Word) (h : Kept u s) :
    Kept u (s.debugWrite a v) := by
  unfold State.debugWrite; simp only []; repeat' (first | (simp (maxDischargeDepth := 99) +contextual [*]; done) | split)

@[simp ↓] theorem kept_dbgRead {u : State} {s : State} (h : Kept u s) :
    Kept u (s.dbgRead) := by
  unfold State.dbgRead; simp (maxDischargeDepth := 99) [*]

@[simp ↓] theorem kept_dbgWrite {u : State} {s : State} (h : Kept u s) :
    Kept u (s.dbgWrite) := by
  unfold State.dbgWrite; simp (maxDischargeDepth := 99) [*]

theorem kept_execDbgRead {u : State} (_req : Requester) {s : State} (h : Kept u s) :
    KeptO u (execDbgRead _req s) := by
  unfold execDbgRead; simp (maxDischargeDepth := 99) [*]

theorem kept_execDbgWrite {u : State} (_req : Requester) {s : State} (h : Kept u s) :
    KeptO u (execDbgWrite _req s) := by
  unfold execDbgWrite; simp (maxDischargeDepth := 99) [*]

theorem kept_execDbgacc {u : State} (cmd : Nat) (addr : BitVec 36) (data : Word) {s : State} (h : Kept u s) :
    KeptO u (execDbgacc cmd addr data s) := by
  unfold execDbgacc; simp (maxDischargeDepth := 99) [*]

@[simp ↓] theorem kept_store {u : State} {s : State} (p : Nat) (w : Nat) (v : Word) (h : Kept u s) :
    Kept u (s.store p w v) := by
  unfold State.store; simp (maxDischargeDepth := 99) [*]

@[simp ↓] theorem kept_plainWrite {u : State} {s : State} (req : Requester) (p : Nat) (w : Nat) (v : Word) (unlocked : Bool) (h : Kept u s) :
    Kept u (s.plainWrite req p w v unlocked) := by
  unfold State.plainWrite; repeat' (first | (simp (maxDischargeDepth := 99) [*]; done) | split)

@[simp ↓] theorem kept_cfgWrite {u : State} {s : State} (req : Requester) (p : Nat) (w : Nat) (v : Word) (h : Kept u s) :
    Kept u (s.cfgWrite req p w v) := by
  unfold State.cfgWrite; simp (maxDischargeDepth := 99) [*]

@[simp ↓] theorem kept_wCtrl {u : State} {s : State} (req : Requester) (p : Nat) (v : Word) (h : Kept u s) :
    Kept u (s.wCtrl req p v) := by
  unfold State.wCtrl
  try dsimp only
  repeat' (first | with_reducible assumption | with_reducible apply kept_each | with_reducible apply Kept.foldl | with_reducible apply KeptO.next | with_reducible apply Kept.ite | with_reducible apply kept_execEnWrite1 | with_reducible apply kept_execSreset | with_reducible apply kept_execStop | with_reducible apply kept_execEnWrite0 | with_reducible apply kept_after | intro _ | ((split)) | (simp (maxDischargeDepth := 99) [*]; done))

@[simp ↓] theorem kept_wHeader {u : State} {s : State} (req : Requester) (p : Nat) (w : Nat) (v : Word) (unlocked : Bool) (h : Kept u s) :
    Kept u (s.wHeader req p w v unlocked) := by
  unfold State.wHeader; simp (maxDischargeDepth := 99) [*]

@[simp ↓] theorem kept_wWqCfg {u : State} {s : State} (req : Requester) (p : Nat) (v : Word) (h : Kept u s) :
    Kept u (s.wWqCfg req p v) := by
  unfold State.wWqCfg; simp (maxDischargeDepth := 99) [*]

@[simp ↓] theorem kept_wRoute {u : State} {s : State} (req : Requester) (v : Word) (h : Kept u s) :
    Kept u (s.wRoute req v) := by
  unfold State.wRoute; simp (maxDischargeDepth := 99) [*]

@[simp ↓] theorem kept_wSwSet {u : State} {s : State} (i : Nat) (v : Word) (h : Kept u s) :
    Kept u (s.wSwSet i v) := by
  unfold State.wSwSet; simp (maxDischargeDepth := 99) [*]

@[simp ↓] theorem kept_wPlaceCmd {u : State} {s : State} (req : Requester) (v : Word) (h : Kept u s) :
    Kept u (s.wPlaceCmd req v) := by
  unfold State.wPlaceCmd
  try dsimp only
  repeat' (first | with_reducible assumption | with_reducible apply kept_each | with_reducible apply Kept.foldl | with_reducible apply KeptO.next | with_reducible apply Kept.ite | with_reducible apply kept_execPlaceLookup | with_reducible apply kept_execPlaceDiscard | with_reducible apply kept_execPlaceCommit | with_reducible apply kept_after | intro _ | ((split)) | (simp (maxDischargeDepth := 99) [*]; done))

@[simp ↓] theorem kept_wSaltPart {u : State} {s : State} (req : Requester) (w : Nat) (v : BitVec 36) (both : Bool) (h : Kept u s) :
    Kept u (s.wSaltPart req w v both) := by
  unfold State.wSaltPart; simp (maxDischargeDepth := 99) [*]

@[simp ↓] theorem kept_wCerCtrl {u : State} {s : State} (req : Requester) (v : Word) (h : Kept u s) :
    Kept u (s.wCerCtrl req v) := by
  unfold State.wCerCtrl; simp (maxDischargeDepth := 99) [*]

@[simp ↓] theorem kept_wFlCmd {u : State} {s : State} (req : Requester) (v : Word) (h : Kept u s) :
    Kept u (s.wFlCmd req v) := by
  unfold State.wFlCmd
  try dsimp only
  repeat' (first | with_reducible assumption | with_reducible apply kept_each | with_reducible apply Kept.foldl | with_reducible apply KeptO.next | with_reducible apply Kept.ite | with_reducible apply kept_pgErr | with_reducible apply kept_execErase | with_reducible apply kept_execProgram | with_reducible apply kept_execResume | with_reducible apply kept_execMapProgram | with_reducible apply kept_execSuspend | with_reducible apply kept_after | intro _ | ((split)) | (simp (maxDischargeDepth := 99) [*]; done))

@[simp ↓] theorem kept_wLineCmd {u : State} {s : State} (req : Requester) (v : Word) (h : Kept u s) :
    Kept u (s.wLineCmd req v) := by
  unfold State.wLineCmd
  try dsimp only
  repeat' (first | with_reducible assumption | with_reducible apply kept_each | with_reducible apply Kept.foldl | with_reducible apply KeptO.next | with_reducible apply Kept.ite | with_reducible apply kept_execHoldSet | with_reducible apply kept_execHoldClr | with_reducible apply kept_after | intro _ | ((split)) | (simp (maxDischargeDepth := 99) [*]; done))

@[simp ↓] theorem kept_wWispCmd {u : State} {s : State} (req : Requester) (v : Word) (h : Kept u s) :
    Kept u (s.wWispCmd req v) := by
  unfold State.wWispCmd
  try dsimp only
  repeat' (first | with_reducible assumption | with_reducible apply kept_each | with_reducible apply Kept.foldl | with_reducible apply KeptO.next | with_reducible apply Kept.ite | with_reducible apply kept_execWispCheck | with_reducible apply kept_execAppend | with_reducible apply kept_execWispLink | with_reducible apply kept_after | intro _ | ((split)) | (simp (maxDischargeDepth := 99) [*]; done))

@[simp ↓] theorem kept_wDbgCmd {u : State} {s : State} (v : Word) (h : Kept u s) :
    Kept u (s.wDbgCmd v) := by
  unfold State.wDbgCmd; simp (maxDischargeDepth := 99) [*]

@[simp ↓] theorem kept_wBlock {u : State} {s : State} (req : Requester) (b : Block) (i : Nat) (p : Nat) (w : Nat) (v36 : BitVec 36) (both : Bool) (unlocked : Bool) (h : Kept u s) :
    Kept u (s.wBlock req b i p w v36 both unlocked) := by
  unfold State.wBlock
  try dsimp only
  repeat' (first | with_reducible assumption | with_reducible apply kept_each | with_reducible apply Kept.foldl | with_reducible apply KeptO.next | with_reducible apply Kept.ite | with_reducible apply kept_pgErr | with_reducible apply kept_mend | with_reducible apply kept_retry | with_reducible apply kept_journalRelief | with_reducible apply kept_execTailDbWrite | with_reducible apply kept_place | with_reducible apply kept_execQkeyDataWrite | with_reducible apply kept_execRelearn | with_reducible apply kept_execMidrRead | with_reducible apply kept_execLatchWrite | with_reducible apply kept_execBistStart | with_reducible apply kept_execRespStageAccess | with_reducible apply kept_execRespDiscard | with_reducible apply kept_showMaster | with_reducible apply kept_wOvrData | with_reducible apply kept_wNetRoute | with_reducible apply kept_wMemberData | with_reducible apply kept_wTimeSet | with_reducible apply kept_wTopo | with_reducible apply kept_capUpdate | with_reducible apply kept_wClGate | with_reducible apply kept_wMonSel | with_reducible apply kept_wRqSel | with_reducible apply kept_wRqClass | with_reducible apply kept_wSluiceCfg | with_reducible apply kept_wBootcfg | with_reducible apply kept_kick | with_reducible apply kept_wKick | with_reducible apply kept_execRgReset | with_reducible apply kept_rollbackAdv | with_reducible apply kept_wInject | with_reducible apply kept_wResume | with_reducible apply kept_wGcol | with_reducible apply kept_wRule | with_reducible apply kept_wHaltReq | with_reducible apply kept_wLifeAdv | with_reducible apply kept_wPlaceCmd | with_reducible apply kept_after | with_reducible apply kept_wSaltPart | with_reducible apply kept_wFlCmd | with_reducible apply kept_plainWrite | with_reducible apply kept_wCerCtrl | with_reducible apply kept_wLineCmd | with_reducible apply kept_wSwSet | with_reducible apply kept_wRoute | with_reducible apply kept_wWispCmd | with_reducible apply kept_cfgWrite | with_reducible apply kept_wDbgCmd | with_reducible apply kept_wWqCfg | intro _ | ((split)) | (simp (maxDischargeDepth := 99) [*]; done))

@[simp ↓] theorem kept_applyWrite {u : State} {s : State} (x : Posted) (h : Kept u s) :
    Kept u (s.applyWrite x) := by
  unfold State.applyWrite; repeat' (first | (simp (maxDischargeDepth := 99) [*]; done) | split)

@[simp ↓] theorem kept_acceptWrite {u : State} {s : State} (x : Posted) (h : Kept u s) :
    Kept u (s.acceptWrite x) := by
  unfold State.acceptWrite; simp (maxDischargeDepth := 99) [*]

@[simp ↓] theorem kept_writeReg {u : State} {s : State} (req : Requester) (p : Nat) (w : Nat) (v : Word) (h : Kept u s) :
    Kept u (s.writeReg req p w v) := by
  unfold State.writeReg
  refine Kept.ite _ h ?_
  split
  · rename_i e
    exact kept_acceptWrite _ (kept_formWrite_of e h)
  · rename_i e
    exact kept_formWrite_of e h

@[simp ↓] theorem kept_writeReg2 {u : State} {s : State} (req : Requester) (p : Nat) (w : Nat) (v : BitVec 36) (h : Kept u s) :
    Kept u (s.writeReg2 req p w v) := by
  unfold State.writeReg2; simp (maxDischargeDepth := 99) [*]

@[simp ↓] theorem kept_sendMsix {u : State} {s : State} (vec : Nat) (h : Kept u s) :
    Kept u (s.sendMsix vec) := by
  unfold State.sendMsix; simp (maxDischargeDepth := 99) [*]

@[simp ↓] theorem kept_unmasked {u : State} {s : State} (vec : Nat) (h : Kept u s) :
    Kept u (s.unmasked vec) := by
  unfold State.unmasked; simp (maxDischargeDepth := 99) [*]

@[simp ↓] theorem kept_wMsix {u : State} {s : State} (d : Nat) (v : BitVec 32) (h : Kept u s) :
    Kept u (s.wMsix d v) := by
  unfold State.wMsix; simp (maxDischargeDepth := 99) [*]

@[simp ↓] theorem kept_execRegWrite {u : State} (req : Requester) (page : Nat) (word : Nat) (width : Width) (val : BitVec 36) {s : State} (h : Kept u s) :
    KeptO u (execRegWrite req page word width val s) := by
  unfold execRegWrite; simp only []; repeat' (first | (simp (maxDischargeDepth := 99) +contextual [*]; done) | split)

theorem kept_execReg36LowerWrite {u : State} (req : Requester) (page : Nat) (word : Nat) (val : Word) {s : State} (h : Kept u s) :
    KeptO u (execReg36LowerWrite req page word val s) := by
  unfold execReg36LowerWrite; simp (maxDischargeDepth := 99) [*]

theorem kept_execReg36UpperWrite {u : State} (req : Requester) (page : Nat) (word : Nat) (val : Word) {s : State} (h : Kept u s) :
    KeptO u (execReg36UpperWrite req page word val s) := by
  unfold execReg36UpperWrite; simp (maxDischargeDepth := 99) [*]

theorem kept_execPgLockWrite {u : State} (req : Requester) (page : Nat) {s : State} (h : Kept u s) :
    KeptO u (execPgLockWrite req page s) := by
  unfold execPgLockWrite; simp (maxDischargeDepth := 99) [*]

@[simp ↓] theorem kept_crossed {u : State} {s : State} (x : Posted) (h : Kept u s) :
    Kept u (s.crossed x) := by
  unfold State.crossed; repeat' (first | (simp (maxDischargeDepth := 99) [*]; done) | split)

@[simp ↓] theorem kept_promote {u s : State} (l : List Posted) (h : Kept u s) : Kept u (s.promote l) := by
  induction l generalizing s with
  | nil => exact h
  | cons x r ih => exact ih (by simp [h])

@[simp ↓] theorem kept_retryStalled {u : State} {s : State} (h : Kept u s) :
    Kept u (s.retryStalled) := by
  unfold State.retryStalled; simp (maxDischargeDepth := 99) [*]

theorem kept_execPostedWriteSettle {u : State} (page : Nat) {s : State} (h : Kept u s) :
    KeptO u (execPostedWriteSettle page s) := by
  unfold execPostedWriteSettle; repeat' (first | (simp (maxDischargeDepth := 99) [*]; done) | split)

@[simp ↓] theorem kept_lose {u : State} {s : State} (src : Nat) (h : Kept u s) :
    Kept u (s.lose src) := by
  unfold State.lose; simp (maxDischargeDepth := 99) [*]

@[simp ↓] theorem kept_deliver {u : State} {s : State} (src : Nat) (h : Kept u s) :
    Kept u (s.deliver src) := by
  unfold State.deliver; simp (maxDischargeDepth := 99) [*]

theorem kept_execEventDeliver {u : State} (src : Nat) {s : State} (h : Kept u s) :
    KeptO u (execEventDeliver src s) := by
  unfold execEventDeliver; repeat' (first | (simp (maxDischargeDepth := 99) [*]; done) | split)

theorem kept_execMsixUnmask {u : State} (vec : Nat) {s : State} (h : Kept u s) :
    KeptO u (execMsixUnmask vec s) := by
  unfold execMsixUnmask; simp (maxDischargeDepth := 99) [*]

theorem kept_execRouteDataAccess {u : State} (req : Requester) (wr : Option Word) {s : State} (h : Kept u s) :
    KeptO u (execRouteDataAccess req wr s) := by
  unfold execRouteDataAccess; repeat' (first | (simp (maxDischargeDepth := 99) [*]; done) | split)

theorem kept_execLostSrcRead {u : State} (_req : Requester) {s : State} (h : Kept u s) :
    KeptO u (execLostSrcRead _req s) := by
  unfold execLostSrcRead; simp (maxDischargeDepth := 99) [*]

theorem kept_execSwSetWrite {u : State} (_req : Requester) (idx : Nat) (val : Word) {s : State} (h : Kept u s) :
    KeptO u (execSwSetWrite _req idx val s) := by
  unfold execSwSetWrite; simp (maxDischargeDepth := 99) [*]

theorem kept_execDnlxRouteDataAccess {u : State} (_req : Requester) (wr : Option Word) {s : State} (h : Kept u s) :
    KeptO u (execDnlxRouteDataAccess _req wr s) := by
  unfold execDnlxRouteDataAccess; repeat' (first | (simp (maxDischargeDepth := 99) [*]; done) | split)

theorem kept_execSystimeRead {u : State} (req : Requester) {s : State} (h : Kept u s) :
    KeptO u (execSystimeRead req s) := by
  unfold execSystimeRead; simp (maxDischargeDepth := 99) [*]

theorem kept_execRqClassAccess {u : State} (_req : Requester) (wr : Option Word) {s : State} (h : Kept u s) :
    KeptO u (execRqClassAccess _req wr s) := by
  unfold execRqClassAccess; repeat' (first | (simp (maxDischargeDepth := 99) [*]; done) | split)

theorem kept_execMonSelWrite {u : State} (req : Requester) (val : Word) {s : State} (h : Kept u s) :
    KeptO u (execMonSelWrite req val s) := by
  unfold execMonSelWrite; simp (maxDischargeDepth := 99) [*]

theorem kept_execMonMaxwaitRead {u : State} (_req : Requester) {s : State} (h : Kept u s) :
    KeptO u (execMonMaxwaitRead _req s) := by
  unfold execMonMaxwaitRead; simp (maxDischargeDepth := 99) [*]

theorem kept_execResultRead {u : State} (req : Requester) (unit : Nat) (idx : Nat) {s : State} (h : Kept u s) :
    KeptO u (execResultRead req unit idx s) := by
  unfold execResultRead; simp (maxDischargeDepth := 99) [*]

theorem kept_execRefuseRead {u : State} (req : Requester) (u0 : Nat) {s : State} (h : Kept u s) :
    KeptO u (execRefuseRead req u0 s) := by
  unfold execRefuseRead; simp (maxDischargeDepth := 99) [*]

theorem kept_execVfailRead {u : State} (_req : Requester) (core : Nat) {s : State} (h : Kept u s) :
    KeptO u (execVfailRead _req core s) := by
  unfold execVfailRead; simp (maxDischargeDepth := 99) [*]

theorem kept_execRandRead {u : State} (req : Requester) (cl : Nat) (idx : Nat) {s : State} (h : Kept u s) :
    KeptO u (execRandRead req cl idx s) := by
  unfold execRandRead; simp (maxDischargeDepth := 99) [*]

@[simp ↓] theorem kept_dieFLost {u : State} {s : State} (h : Kept u s) :
    Kept u (s.dieFLost) := by
  unfold State.dieFLost; simp (maxDischargeDepth := 99) +contextual [*]

@[simp ↓] theorem kept_dieVLost {u : State} {s : State} (h : Kept u s) :
    Kept u (s.dieVLost) := by
  unfold State.dieVLost; simp (maxDischargeDepth := 99) [*]

@[simp ↓] theorem kept_linkFail {u : State} {s : State} (f : Bool) (cause : Nat) (h : Kept u s) :
    Kept u (s.linkFail f cause) := by
  unfold State.linkFail; simp (maxDischargeDepth := 99) [*]

theorem kept_execCausewayIdle {u : State} (dieF : Bool) (far : Bool) {s : State} (h : Kept u s) :
    KeptO u (execCausewayIdle dieF far s) := by
  unfold execCausewayIdle; simp (maxDischargeDepth := 99) [*]

theorem kept_execCausewayTransferReceive {u : State} (dieF : Bool) (far : Bool) (payload : List Word) (ctr : BitVec 72) (tag : BitVec 36) {s : State} (h : Kept u s) :
    KeptO u (execCausewayTransferReceive dieF far payload ctr tag s) := by
  unfold execCausewayTransferReceive; simp (maxDischargeDepth := 99) [*]

theorem kept_execCausewaySilence {u : State} (dieF : Bool) {s : State} (h : Kept u s) :
    KeptO u (execCausewaySilence dieF s) := by
  unfold execCausewaySilence; simp (maxDischargeDepth := 99) [*]

end Sys2Proof.Machine
end

