-- ==== Sys2Proof/Laws/KeptUnitRun.lean ====
section
/-! SUPPORT. What the operations of Machine/UnitRun.lean keep. -/
namespace Sys2Proof.Machine

@[simp ↓] theorem kept_readWord {u : State} {s : State} (r : Who) (a : Nat) (h : Kept u s) :
    Kept u (s.readWord r a).1 := by
  unfold State.readWord; repeat' (first | (simp (maxDischargeDepth := 99) [*]; done) | split)

theorem kept_readWord_of {u : State} {s : State} {r : Who} {a : Nat} {t0 : State} {a0 : Word} (e : (s.readWord r a) = (t0, a0)) (h : Kept u s) : Kept u t0 :=
  Kept.fst_of (kept_readWord r a h) e

@[simp ↓] theorem kept_readWords {u s : State} (r : Who) (a : Nat) (x3 : Nat) (h : Kept u s) :
    Kept u (s.readWords r a x3).1 := by
  induction x3 generalizing s a with
  | zero => exact h
  | succ n ih => exact ih _ (kept_readWord r a h)

theorem kept_readWords_of {u : State} {s : State} {r : Who} {a : Nat} {x3 : Nat} {t0 : State} {a0 : List Word} (e : (s.readWords r a x3) = (t0, a0)) (h : Kept u s) : Kept u t0 :=
  Kept.fst_of (kept_readWords r a x3 h) e

@[simp ↓] theorem kept_writeWord {u : State} {s : State} (r : Who) (a : Nat) (v : Word) (h : Kept u s) :
    Kept u (s.writeWord r a v) := by
  unfold State.writeWord; repeat' (first | (simp (maxDischargeDepth := 99) [*]; done) | split)

theorem kept_writeRun {u : State} (r : Who) (l : List Word) (p : State × Nat) (h : Kept u p.1) :
    Kept u (l.foldl (fun (t : State × Nat) v => (t.1.writeWord r t.2 v, t.2 + 1)) p).1 := by
  induction l generalizing p with
  | nil => exact h
  | cons v l ih => exact ih _ (kept_writeWord r _ v h)

@[simp ↓] theorem kept_writeWords {u : State} {s : State} (r : Who) (a : Nat) (l : List Word) (h : Kept u s) :
    Kept u (s.writeWords r a l) := by
  unfold State.writeWords
  split
  · exact kept_writeReg2 _ _ _ _ h
  · exact kept_setWords h _ _
  · exact kept_writeRun _ _ _ h

@[simp ↓] theorem kept_cipherCmd {u : State} {s : State} (k : Nat) (j : Job) (c : Cmd) (h : Kept u s) :
    Kept u (s.cipherCmd k j c) := by
  unfold State.cipherCmd; simp only []; repeat' (first | (simp (maxDischargeDepth := 99) +contextual [*]; done) | split)

@[simp ↓] theorem kept_digestCmd {u : State} {s : State} (k : Nat) (j : Job) (c : Cmd) (h : Kept u s) :
    Kept u (s.digestCmd k j c) := by
  unfold State.digestCmd
  try dsimp only
  repeat' (first | with_reducible assumption | with_reducible apply kept_each | with_reducible apply Kept.foldl | with_reducible apply KeptO.next | with_reducible apply Kept.ite | with_reducible apply kept_ok | with_reducible apply kept_fail | with_reducible apply kept_finish | with_reducible apply kept_record | with_reducible apply kept_cmdUe | with_reducible apply kept_countBlocks | with_reducible apply kept_noteRecord | with_reducible apply kept_count | with_reducible apply kept_deviceFault | with_reducible apply kept_writeWords | intro _ | ((split) <;> try (have hk := kept_checkRanges_of (by assumption) (by simp (maxDischargeDepth := 99) +contextual [*])) <;> try (have hk := kept_wrapRecord_of (by assumption) (by simp (maxDischargeDepth := 99) +contextual [*])) <;> try (have hk := kept_readWords_of (by assumption) (by simp (maxDischargeDepth := 99) +contextual [*]))) | (simp (maxDischargeDepth := 99) [*]; done))

@[simp ↓] theorem kept_hostCmd {u : State} {s : State} (k : Nat) (j : Job) (c : Cmd) (h : Kept u s) :
    Kept u (s.hostCmd k j c) := by
  unfold State.hostCmd
  try dsimp only
  repeat' (first | with_reducible assumption | with_reducible apply kept_each | with_reducible apply Kept.foldl | with_reducible apply KeptO.next | with_reducible apply Kept.ite | with_reducible apply kept_ok | with_reducible apply kept_fail | with_reducible apply kept_finish | with_reducible apply kept_cmdUe | with_reducible apply kept_putHost | with_reducible apply kept_writeWords | intro _ | ((split) <;> try (have hk := kept_checkRanges_of (by assumption) (by simp (maxDischargeDepth := 99) +contextual [*])) <;> try (have hk := kept_readWords_of (by assumption) (by simp (maxDischargeDepth := 99) +contextual [*]))) | (simp (maxDischargeDepth := 99) [*]; done))

@[simp ↓] theorem kept_progLoad {u : State} {s : State} (k : Nat) (j : Job) (c : Cmd) (x : BnCmd) (h : Kept u s) :
    Kept u (s.progLoad k j c x) := by
  unfold State.progLoad; simp only []; repeat' (first | (simp (maxDischargeDepth := 99) +contextual [*]; done) | split)

@[simp ↓] theorem kept_progStore {u : State} {s : State} (k : Nat) (j : Job) (c : Cmd) (x : BnCmd) (h : Kept u s) :
    Kept u (s.progStore k j c x) := by
  unfold State.progStore; simp (maxDischargeDepth := 99) [*]

theorem kept_execLoad {u : State} (unit : Nat) (chk : UnitCheck) {s : State} (h : Kept u s) :
    KeptO u (execLoad unit chk s) := by
  unfold execLoad; simp (maxDischargeDepth := 99) +contextual [*]

theorem kept_execStore {u : State} (unit : Nat) (chk : UnitCheck) {s : State} (h : Kept u s) :
    KeptO u (execStore unit chk s) := by
  unfold execStore; simp (maxDischargeDepth := 99) +contextual [*]

@[simp ↓] theorem kept_progDone {u : State} {s : State} (k : Nat) (j : Job) (c : Cmd) (h : Kept u s) :
    Kept u (s.progDone k j c) := by
  unfold State.progDone; simp (maxDischargeDepth := 99) [*]

theorem kept_execKUcmdComplete {u : State} (key : Nat) (chk : UnitCheck) {s : State} (h : Kept u s) :
    KeptO u (execKUcmdComplete key chk s) := by
  unfold execKUcmdComplete; repeat' (first | (simp (maxDischargeDepth := 99) [*]; done) | split)

end Sys2Proof.Machine
end

