-- ==== Sys2Proof/Laws/KeptKazolo.lean ====
section
/-! SUPPORT. What the operations of Machine/Kazolo.lean keep. -/
namespace Sys2Proof.Machine

/-- What an instruction's outcome has kept. -/
def KeptA (u : State) : Act → Prop
  | .done t => Kept u t
  | .load t _ _ => Kept u t
  | .go t _ => Kept u t
  | .branch t _ _ => Kept u t
  | .fault t _ _ => Kept u t
  | .trap t _ => Kept u t
  | .ret t => Kept u t
  | .vfail t _ _ => Kept u t
  | .ue t => Kept u t
  | .wait => True

/-- What issue has kept. -/
def KeptI (u : State) : Issue → Prop
  | .fault t _ _ => Kept u t
  | .ue t => Kept u t
  | .no => True
  | .skip _ => True
  | .run _ => True

@[simp ↓] theorem KeptA.done {u t : State} (h : Kept u t) : KeptA u (.done t) := h
@[simp ↓] theorem KeptA.load {u t : State} (h : Kept u t) (d : Dest) (l : List Word) : KeptA u (.load t d l) := h
@[simp ↓] theorem KeptA.go {u t : State} (h : Kept u t) (n : DWord) : KeptA u (.go t n) := h
@[simp ↓] theorem KeptA.branch {u t : State} (h : Kept u t) (n : DWord) (l : Bool) : KeptA u (.branch t n l) := h
@[simp ↓] theorem KeptA.fault {u t : State} (h : Kept u t) (e d : Nat) : KeptA u (.fault t e d) := h
@[simp ↓] theorem KeptA.trap {u t : State} (h : Kept u t) (e : Nat) : KeptA u (.trap t e) := h
@[simp ↓] theorem KeptA.ret {u t : State} (h : Kept u t) : KeptA u (.ret t) := h
@[simp ↓] theorem KeptA.vfail {u t : State} (h : Kept u t) (e r : Nat) : KeptA u (.vfail t e r) := h
@[simp ↓] theorem KeptA.ue {u t : State} (h : Kept u t) : KeptA u (.ue t) := h
@[simp ↓] theorem KeptA.wait {u : State} : KeptA u .wait := trivial
@[simp ↓] theorem KeptA.ite {u : State} {a b : Act} (c : Prop) [Decidable c] (ha : KeptA u a) (hb : KeptA u b) :
    KeptA u (if c then a else b) := by
  by_cases h : c
  · rw [if_pos h]; exact ha
  · rw [if_neg h]; exact hb

theorem kept_fetchCheck {u : State} {s : State} (r : Who) (a : Nat) (n : Nat) (h : Kept u s) :
    ∀ t ∈ (s.fetchCheck r a n), Kept u t.1 := by
  unfold State.fetchCheck; repeat' (first | (simp (maxDischargeDepth := 99) [*]; done) | split)

theorem kept_fetchCheck_of {u : State} {s : State} {r : Who} {a : Nat} {n : Nat} {t0 : State} {a0 : Nat} (e : (s.fetchCheck r a n) = some (t0, a0)) (h : Kept u s) : Kept u t0 :=
  kept_fetchCheck r a n h _ e

@[simp ↓] theorem kept_wakeUp {u : State} {s : State} (c : Nat) (h : Kept u s) :
    Kept u (s.wakeUp c) := by
  unfold State.wakeUp; simp (maxDischargeDepth := 99) [*]

@[simp ↓] theorem kept_countIns {u : State} {s : State} (c : Nat) (i : Ins) (h : Kept u s) :
    Kept u (s.countIns c i) := by
  unfold State.countIns; simp (maxDischargeDepth := 99) [*]

@[simp ↓] theorem kept_retire {u : State} {s : State} (c : Nat) (i : Ins) (ld : Option LoadW) (br : Option Delay) (next : DWord) (h : Kept u s) :
    Kept u (s.retire c i ld br next) := by
  unfold State.retire; simp (maxDischargeDepth := 99) [*]

@[simp ↓] theorem kept_requeue {u : State} {s : State} (p : Nat) (h : Kept u s) :
    Kept u (s.requeue p) := by
  unfold State.requeue
  refine kept_each h _ _ (fun t k ht => ?_)
  split
  · exact kept_moveJob _ _ ht
  · exact ht

@[simp ↓] theorem kept_restartPair {u : State} {s : State} (c : Nat) (h : Kept u s) :
    Kept u (s.restartPair c) := by
  unfold State.restartPair; simp (maxDischargeDepth := 99) [*]

@[simp ↓] theorem kept_vectorFail {u : State} {s : State} (c : Nat) (e : Nat) (reason : Nat) (h : Kept u s) :
    Kept u (s.vectorFail c e reason) := by
  unfold State.vectorFail; simp (maxDischargeDepth := 99) [*]

@[simp ↓] theorem kept_enter {u : State} {s : State} (c : Nat) (e : Nat) (detail : Nat) (v : Saved) (lvl : Option Nat) (h : Kept u s) :
    Kept u (s.enter c e detail v lvl) := by
  unfold State.enter
  extract_lets x t y r a
  have ht : Kept u t := kept_setCore _ _ h
  refine Kept.ite _ (kept_vectorFail _ _ _ ht) ?_
  split
  · exact kept_vectorFail _ _ _ ht
  · exact kept_vectorFail _ _ _ (kept_recordRefusal _ _ _ _ _ ht)
  · split
    · exact kept_memUe _ ht
    · have hw := kept_readWords r a 2 ht
      generalize t.readWords r a 2 = q at hw ⊢
      obtain ⟨t2, l⟩ := q
      dsimp only at hw ⊢
      split
      · rename_i e
        exact kept_vectorFail _ _ _ (kept_fetchCheck_of e hw)
      · exact kept_inc36 _ _ (kept_setReg36 _ _ _ (kept_setCore _ _ hw))

@[simp ↓] theorem kept_faultEntry {u : State} {s : State} (c : Nat) (e : Nat) (detail : Nat) (h : Kept u s) :
    Kept u (s.faultEntry c e detail) := by
  unfold State.faultEntry; simp (maxDischargeDepth := 99) [*]

@[simp ↓] theorem kept_trapEntry {u : State} {s : State} (c : Nat) (e : Nat) (i : Ins) (h : Kept u s) :
    Kept u (s.trapEntry c e i) := by
  unfold State.trapEntry; simp (maxDischargeDepth := 99) [*]

@[simp ↓] theorem kept_kadmit {u : State} {s : State} (c : Nat) (pre : List (BitVec 9)) (w : Word) (op : KOp) (h : Kept u s) :
    KeptI u (s.kadmit c pre w op) := by
  unfold State.kadmit
  dsimp only
  split
  · rename_i e
    exact kept_fetchCheck_of e h
  · repeat' (first | exact h | exact kept_memUe _ h | exact trivial | split)

@[simp ↓] theorem kept_conclude {u : State} {s : State} (c : Nat) (x : Core) (i : Ins) {x4 : Act} (h : Kept u s) (hx4 : KeptA u x4) :
    Kept u (s.conclude c x i x4) := by
  cases x4 with
  | done t => exact kept_retire _ _ _ _ _ hx4
  | load t d l => exact kept_retire _ _ _ _ _ hx4
  | go t n => exact kept_retire _ _ _ _ _ hx4
  | branch t n l => exact kept_retire _ _ _ _ _ hx4
  | fault t e d => exact kept_faultEntry _ _ _ hx4
  | trap t e => exact kept_trapEntry _ _ _ hx4
  | ret t => exact kept_countIns _ _ (kept_modCore _ _ hx4)
  | vfail t e r => exact kept_vectorFail _ _ _ hx4
  | ue t => exact hx4
  | wait => exact h

@[simp ↓] theorem kept_kaz {u : State} {s : State} (c : Nat) (pre : List (BitVec 9)) (w : Word) (op : KOp)
    (f : State → Ins → Core → Act) (h : Kept u s) (hf : ∀ t i x, Kept u t → KeptA u (f t i x)) :
    KeptO u (s.kaz c pre w op f) := by
  unfold State.kaz
  have ht : Kept u (s.wakeUp c) := kept_wakeUp c h
  generalize s.wakeUp c = t at ht ⊢
  dsimp only
  refine KeptO.next (Kept.ite _ ?_ h)
  have hk : KeptI u (t.kadmit c pre w op) := kept_kadmit _ _ _ _ ht
  generalize t.kadmit c pre w op = k at hk ⊢
  cases k with
  | no => exact h
  | ue v => exact hk
  | fault v e d => exact kept_faultEntry _ _ _ hk
  | skip i => exact kept_retire _ _ _ _ _ ht
  | run i => exact kept_conclude _ _ _ h (hf _ _ _ ht)

@[simp ↓] theorem kept_kreg {u : State} {s : State} (c : Nat) (pre : List (BitVec 9)) (w : Word) (op : KOp) (f : Ins → Core → Core) (h : Kept u s) :
    KeptO u (s.kreg c pre w op f) := by
  unfold State.kreg
  exact kept_kaz _ _ _ _ _ h (fun t i x ht => kept_setCore _ _ ht)

@[simp ↓] theorem kept_kcheck {u : State} {s : State} (c : Nat) (a : Nat) (n : Nat) (t : AType) (refusal : Nat) (go : Who → Act) (h : Kept u s) (hgo : ∀ y1, KeptA u (go y1)) :
    KeptA u (s.kcheck c a n t refusal go) := by
  unfold State.kcheck; simp only []; repeat' (first | (simp (maxDischargeDepth := 99) +contextual [*]; done) | split)

@[simp ↓] theorem kept_kload {u : State} {s : State} (c : Nat) (a : Nat) (n : Nat) (dst : Dest) (f : List Word → List Word) (x : Core) (h : Kept u s) :
    KeptA u (s.kload c a n dst f x) := by
  unfold State.kload; simp (maxDischargeDepth := 99) [*]

@[simp ↓] theorem kept_kstore {u : State} {s : State} (c : Nat) (a : Nat) (l : List Word) (x : Core) (h : Kept u s) :
    KeptA u (s.kstore c a l x) := by
  unfold State.kstore; simp (maxDischargeDepth := 99) [*]

@[simp ↓] theorem kept_evenOr {u s : State} (a detail : Nat) {go : Act} (h : Kept u s) (hgo : KeptA u go) :
    KeptA u (evenOr a detail s go) := KeptA.ite _ h hgo

end Sys2Proof.Machine
end

