-- ==== Sys2Proof/Laws/KeptKazAlu.lean ====
section
/-! SUPPORT. What the operations of Machine/KazAlu.lean keep. -/
namespace Sys2Proof.Machine

@[simp ↓] theorem kept_kww {u : State} {s : State} (c : Nat) (pre : List (BitVec 9)) (w : Word) (op : KOp) (f : Word → Word → Word) (h : Kept u s) :
    KeptO u (s.kww c pre w op f) := by
  unfold State.kww; simp (maxDischargeDepth := 99) [*]

@[simp ↓] theorem kept_kwc {u : State} {s : State} (c : Nat) (pre : List (BitVec 9)) (w : Word) (op : KOp) (f : Word → Word → Bool → Word × Bool) (h : Kept u s) :
    KeptO u (s.kwc c pre w op f) := by
  unfold State.kwc; simp (maxDischargeDepth := 99) [*]

@[simp ↓] theorem kept_kdd {u : State} {s : State} (c : Nat) (pre : List (BitVec 9)) (w : Word) (op : KOp) (f : DWord → DWord → DWord) (h : Kept u s) :
    KeptO u (s.kdd c pre w op f) := by
  unfold State.kdd; simp (maxDischargeDepth := 99) [*]

@[simp ↓] theorem kept_kdw {u : State} {s : State} (c : Nat) (pre : List (BitVec 9)) (w : Word) (op : KOp) (f : DWord → Word → DWord) (h : Kept u s) :
    KeptO u (s.kdw c pre w op f) := by
  unfold State.kdw; simp (maxDischargeDepth := 99) [*]

@[simp ↓] theorem kept_kcmp {u : State} {s : State} (c : Nat) (pre : List (BitVec 9)) (w : Word) (op : KOp) (f : Word → Word → Bool) (h : Kept u s) :
    KeptO u (s.kcmp c pre w op f) := by
  unfold State.kcmp; simp (maxDischargeDepth := 99) [*]

@[simp ↓] theorem kept_kpp {u : State} {s : State} (c : Nat) (pre : List (BitVec 9)) (w : Word) (op : KOp) (f : Bool → Bool → Bool) (h : Kept u s) :
    KeptO u (s.kpp c pre w op f) := by
  unfold State.kpp; simp (maxDischargeDepth := 99) [*]

@[simp ↓] theorem kept_kwi {u : State} {s : State} (c : Nat) (pre : List (BitVec 9)) (w : Word) (op : KOp) (f : Word → Word → Word) (h : Kept u s) :
    KeptO u (s.kwi c pre w op f) := by
  unfold State.kwi; simp (maxDischargeDepth := 99) [*]

@[simp ↓] theorem kept_kwn {u : State} {s : State} (c : Nat) (pre : List (BitVec 9)) (w : Word) (op : KOp) (f : Word → Nat → Word) (h : Kept u s) :
    KeptO u (s.kwn c pre w op f) := by
  unfold State.kwn; simp (maxDischargeDepth := 99) [*]

theorem kept_execKMov {u : State} (core : Nat) (pre : List (BitVec 9)) (w : Word) {s : State} (h : Kept u s) :
    KeptO u (execKMov core pre w s) := by
  unfold execKMov; simp (maxDischargeDepth := 99) [*]

theorem kept_execKAdd {u : State} (core : Nat) (pre : List (BitVec 9)) (w : Word) {s : State} (h : Kept u s) :
    KeptO u (execKAdd core pre w s) := by
  unfold execKAdd; simp (maxDischargeDepth := 99) [*]

theorem kept_execKSub {u : State} (core : Nat) (pre : List (BitVec 9)) (w : Word) {s : State} (h : Kept u s) :
    KeptO u (execKSub core pre w s) := by
  unfold execKSub; simp (maxDischargeDepth := 99) [*]

theorem kept_execKAddx {u : State} (core : Nat) (pre : List (BitVec 9)) (w : Word) {s : State} (h : Kept u s) :
    KeptO u (execKAddx core pre w s) := by
  unfold execKAddx; simp (maxDischargeDepth := 99) [*]

theorem kept_execKSubx {u : State} (core : Nat) (pre : List (BitVec 9)) (w : Word) {s : State} (h : Kept u s) :
    KeptO u (execKSubx core pre w s) := by
  unfold execKSubx; simp (maxDischargeDepth := 99) [*]

theorem kept_execKAnd {u : State} (core : Nat) (pre : List (BitVec 9)) (w : Word) {s : State} (h : Kept u s) :
    KeptO u (execKAnd core pre w s) := by
  unfold execKAnd; simp (maxDischargeDepth := 99) [*]

theorem kept_execKOr {u : State} (core : Nat) (pre : List (BitVec 9)) (w : Word) {s : State} (h : Kept u s) :
    KeptO u (execKOr core pre w s) := by
  unfold execKOr; simp (maxDischargeDepth := 99) [*]

theorem kept_execKXor {u : State} (core : Nat) (pre : List (BitVec 9)) (w : Word) {s : State} (h : Kept u s) :
    KeptO u (execKXor core pre w s) := by
  unfold execKXor; simp (maxDischargeDepth := 99) [*]

theorem kept_execKAndn {u : State} (core : Nat) (pre : List (BitVec 9)) (w : Word) {s : State} (h : Kept u s) :
    KeptO u (execKAndn core pre w s) := by
  unfold execKAndn; simp (maxDischargeDepth := 99) [*]

theorem kept_execKShl {u : State} (core : Nat) (pre : List (BitVec 9)) (w : Word) {s : State} (h : Kept u s) :
    KeptO u (execKShl core pre w s) := by
  unfold execKShl; simp (maxDischargeDepth := 99) [*]

theorem kept_execKShr {u : State} (core : Nat) (pre : List (BitVec 9)) (w : Word) {s : State} (h : Kept u s) :
    KeptO u (execKShr core pre w s) := by
  unfold execKShr; simp (maxDischargeDepth := 99) [*]

theorem kept_execKSar {u : State} (core : Nat) (pre : List (BitVec 9)) (w : Word) {s : State} (h : Kept u s) :
    KeptO u (execKSar core pre w s) := by
  unfold execKSar; simp (maxDischargeDepth := 99) [*]

theorem kept_execKRol {u : State} (core : Nat) (pre : List (BitVec 9)) (w : Word) {s : State} (h : Kept u s) :
    KeptO u (execKRol core pre w s) := by
  unfold execKRol; simp (maxDischargeDepth := 99) [*]

theorem kept_execKMul {u : State} (core : Nat) (pre : List (BitVec 9)) (w : Word) {s : State} (h : Kept u s) :
    KeptO u (execKMul core pre w s) := by
  unfold execKMul; simp (maxDischargeDepth := 99) [*]

theorem kept_execKMulh {u : State} (core : Nat) (pre : List (BitVec 9)) (w : Word) {s : State} (h : Kept u s) :
    KeptO u (execKMulh core pre w s) := by
  unfold execKMulh; simp (maxDischargeDepth := 99) [*]

theorem kept_execKMulhs {u : State} (core : Nat) (pre : List (BitVec 9)) (w : Word) {s : State} (h : Kept u s) :
    KeptO u (execKMulhs core pre w s) := by
  unfold execKMulhs; simp (maxDischargeDepth := 99) [*]

theorem kept_execKMull {u : State} (core : Nat) (pre : List (BitVec 9)) (w : Word) {s : State} (h : Kept u s) :
    KeptO u (execKMull core pre w s) := by
  unfold execKMull; simp (maxDischargeDepth := 99) [*]

theorem kept_execKBrev {u : State} (core : Nat) (pre : List (BitVec 9)) (w : Word) {s : State} (h : Kept u s) :
    KeptO u (execKBrev core pre w s) := by
  unfold execKBrev; simp (maxDischargeDepth := 99) [*]

theorem kept_execKClz {u : State} (core : Nat) (pre : List (BitVec 9)) (w : Word) {s : State} (h : Kept u s) :
    KeptO u (execKClz core pre w s) := by
  unfold execKClz; simp (maxDischargeDepth := 99) [*]

theorem kept_execKPopc {u : State} (core : Nat) (pre : List (BitVec 9)) (w : Word) {s : State} (h : Kept u s) :
    KeptO u (execKPopc core pre w s) := by
  unfold execKPopc; simp (maxDischargeDepth := 99) [*]

theorem kept_execKOcthi {u : State} (core : Nat) (pre : List (BitVec 9)) (w : Word) {s : State} (h : Kept u s) :
    KeptO u (execKOcthi core pre w s) := by
  unfold execKOcthi; simp (maxDischargeDepth := 99) [*]

theorem kept_execKOctlo {u : State} (core : Nat) (pre : List (BitVec 9)) (w : Word) {s : State} (h : Kept u s) :
    KeptO u (execKOctlo core pre w s) := by
  unfold execKOctlo; simp (maxDischargeDepth := 99) [*]

theorem kept_execKOctpk {u : State} (core : Nat) (pre : List (BitVec 9)) (w : Word) {s : State} (h : Kept u s) :
    KeptO u (execKOctpk core pre w s) := by
  unfold execKOctpk; simp (maxDischargeDepth := 99) [*]

theorem kept_execKMovd {u : State} (core : Nat) (pre : List (BitVec 9)) (w : Word) {s : State} (h : Kept u s) :
    KeptO u (execKMovd core pre w s) := by
  unfold execKMovd; simp (maxDischargeDepth := 99) [*]

theorem kept_execKAddd {u : State} (core : Nat) (pre : List (BitVec 9)) (w : Word) {s : State} (h : Kept u s) :
    KeptO u (execKAddd core pre w s) := by
  unfold execKAddd; simp (maxDischargeDepth := 99) [*]

theorem kept_execKSubd {u : State} (core : Nat) (pre : List (BitVec 9)) (w : Word) {s : State} (h : Kept u s) :
    KeptO u (execKSubd core pre w s) := by
  unfold execKSubd; simp (maxDischargeDepth := 99) [*]

theorem kept_execKMova {u : State} (core : Nat) (pre : List (BitVec 9)) (w : Word) {s : State} (h : Kept u s) :
    KeptO u (execKMova core pre w s) := by
  unfold execKMova; simp (maxDischargeDepth := 99) [*]

theorem kept_execKMovda {u : State} (core : Nat) (pre : List (BitVec 9)) (w : Word) {s : State} (h : Kept u s) :
    KeptO u (execKMovda core pre w s) := by
  unfold execKMovda; simp (maxDischargeDepth := 99) [*]

theorem kept_execKAdda {u : State} (core : Nat) (pre : List (BitVec 9)) (w : Word) {s : State} (h : Kept u s) :
    KeptO u (execKAdda core pre w s) := by
  unfold execKAdda; simp (maxDischargeDepth := 99) [*]

theorem kept_execKShld {u : State} (core : Nat) (pre : List (BitVec 9)) (w : Word) {s : State} (h : Kept u s) :
    KeptO u (execKShld core pre w s) := by
  unfold execKShld; simp (maxDischargeDepth := 99) [*]

theorem kept_execKShrd {u : State} (core : Nat) (pre : List (BitVec 9)) (w : Word) {s : State} (h : Kept u s) :
    KeptO u (execKShrd core pre w s) := by
  unfold execKShrd; simp (maxDischargeDepth := 99) [*]

theorem kept_execKCmpeq {u : State} (core : Nat) (pre : List (BitVec 9)) (w : Word) {s : State} (h : Kept u s) :
    KeptO u (execKCmpeq core pre w s) := by
  unfold execKCmpeq; simp (maxDischargeDepth := 99) [*]

theorem kept_execKCmplt {u : State} (core : Nat) (pre : List (BitVec 9)) (w : Word) {s : State} (h : Kept u s) :
    KeptO u (execKCmplt core pre w s) := by
  unfold execKCmplt; simp (maxDischargeDepth := 99) [*]

theorem kept_execKCmpltu {u : State} (core : Nat) (pre : List (BitVec 9)) (w : Word) {s : State} (h : Kept u s) :
    KeptO u (execKCmpltu core pre w s) := by
  unfold execKCmpltu; simp (maxDischargeDepth := 99) [*]

theorem kept_execKPand {u : State} (core : Nat) (pre : List (BitVec 9)) (w : Word) {s : State} (h : Kept u s) :
    KeptO u (execKPand core pre w s) := by
  unfold execKPand; simp (maxDischargeDepth := 99) [*]

theorem kept_execKPor {u : State} (core : Nat) (pre : List (BitVec 9)) (w : Word) {s : State} (h : Kept u s) :
    KeptO u (execKPor core pre w s) := by
  unfold execKPor; simp (maxDischargeDepth := 99) [*]

theorem kept_execKPxor {u : State} (core : Nat) (pre : List (BitVec 9)) (w : Word) {s : State} (h : Kept u s) :
    KeptO u (execKPxor core pre w s) := by
  unfold execKPxor; simp (maxDischargeDepth := 99) [*]

theorem kept_execKPandn {u : State} (core : Nat) (pre : List (BitVec 9)) (w : Word) {s : State} (h : Kept u s) :
    KeptO u (execKPandn core pre w s) := by
  unfold execKPandn; simp (maxDischargeDepth := 99) [*]

theorem kept_execKMovi {u : State} (core : Nat) (pre : List (BitVec 9)) (w : Word) {s : State} (h : Kept u s) :
    KeptO u (execKMovi core pre w s) := by
  unfold execKMovi; simp (maxDischargeDepth := 99) [*]

theorem kept_execKAddi {u : State} (core : Nat) (pre : List (BitVec 9)) (w : Word) {s : State} (h : Kept u s) :
    KeptO u (execKAddi core pre w s) := by
  unfold execKAddi; simp (maxDischargeDepth := 99) [*]

theorem kept_execKAndi {u : State} (core : Nat) (pre : List (BitVec 9)) (w : Word) {s : State} (h : Kept u s) :
    KeptO u (execKAndi core pre w s) := by
  unfold execKAndi; simp (maxDischargeDepth := 99) [*]

theorem kept_execKOri {u : State} (core : Nat) (pre : List (BitVec 9)) (w : Word) {s : State} (h : Kept u s) :
    KeptO u (execKOri core pre w s) := by
  unfold execKOri; simp (maxDischargeDepth := 99) [*]

theorem kept_execKXori {u : State} (core : Nat) (pre : List (BitVec 9)) (w : Word) {s : State} (h : Kept u s) :
    KeptO u (execKXori core pre w s) := by
  unfold execKXori; simp (maxDischargeDepth := 99) [*]

theorem kept_execKShli {u : State} (core : Nat) (pre : List (BitVec 9)) (w : Word) {s : State} (h : Kept u s) :
    KeptO u (execKShli core pre w s) := by
  unfold execKShli; simp (maxDischargeDepth := 99) [*]

theorem kept_execKShri {u : State} (core : Nat) (pre : List (BitVec 9)) (w : Word) {s : State} (h : Kept u s) :
    KeptO u (execKShri core pre w s) := by
  unfold execKShri; simp (maxDischargeDepth := 99) [*]

theorem kept_execKSari {u : State} (core : Nat) (pre : List (BitVec 9)) (w : Word) {s : State} (h : Kept u s) :
    KeptO u (execKSari core pre w s) := by
  unfold execKSari; simp (maxDischargeDepth := 99) [*]

theorem kept_execKMuli {u : State} (core : Nat) (pre : List (BitVec 9)) (w : Word) {s : State} (h : Kept u s) :
    KeptO u (execKMuli core pre w s) := by
  unfold execKMuli; simp (maxDischargeDepth := 99) [*]

theorem kept_execKMovid {u : State} (core : Nat) (pre : List (BitVec 9)) (w : Word) {s : State} (h : Kept u s) :
    KeptO u (execKMovid core pre w s) := by
  unfold execKMovid; simp (maxDischargeDepth := 99) [*]

theorem kept_execKAddid {u : State} (core : Nat) (pre : List (BitVec 9)) (w : Word) {s : State} (h : Kept u s) :
    KeptO u (execKAddid core pre w s) := by
  unfold execKAddid; simp (maxDischargeDepth := 99) [*]

theorem kept_execKAddia {u : State} (core : Nat) (pre : List (BitVec 9)) (w : Word) {s : State} (h : Kept u s) :
    KeptO u (execKAddia core pre w s) := by
  unfold execKAddia; simp (maxDischargeDepth := 99) [*]

theorem kept_execKMovia {u : State} (core : Nat) (pre : List (BitVec 9)) (w : Word) {s : State} (h : Kept u s) :
    KeptO u (execKMovia core pre w s) := by
  unfold execKMovia; simp (maxDischargeDepth := 99) [*]

theorem kept_execKLeapc {u : State} (core : Nat) (pre : List (BitVec 9)) (w : Word) {s : State} (h : Kept u s) :
    KeptO u (execKLeapc core pre w s) := by
  unfold execKLeapc; simp (maxDischargeDepth := 99) [*]

end Sys2Proof.Machine
end

