-- ==== Sys2Proof/Laws/KeptKazFlow.lean ====
section
/-! SUPPORT. What the operations of Machine/KazFlow.lean keep. -/
namespace Sys2Proof.Machine

theorem kept_execKBr {u : State} (core : Nat) (pre : List (BitVec 9)) (w : Word) {s : State} (h : Kept u s) :
    KeptO u (execKBr core pre w s) := by
  unfold execKBr; simp (maxDischargeDepth := 99) +contextual [*]

theorem kept_execKCall {u : State} (core : Nat) (pre : List (BitVec 9)) (w : Word) {s : State} (h : Kept u s) :
    KeptO u (execKCall core pre w s) := by
  unfold execKCall; simp (maxDischargeDepth := 99) +contextual [*]

theorem kept_execKJr {u : State} (core : Nat) (pre : List (BitVec 9)) (w : Word) {s : State} (h : Kept u s) :
    KeptO u (execKJr core pre w s) := by
  unfold execKJr; simp (maxDischargeDepth := 99) +contextual [*]

theorem kept_execKCallr {u : State} (core : Nat) (pre : List (BitVec 9)) (w : Word) {s : State} (h : Kept u s) :
    KeptO u (execKCallr core pre w s) := by
  unfold execKCallr; simp (maxDischargeDepth := 99) +contextual [*]

@[simp ↓] theorem kept_startLoop {u : State} {s : State} (c : Nat) (i : Ins) (x : Core) (n : Word) (h : Kept u s) :
    KeptA u (s.startLoop c i x n) := by
  unfold State.startLoop; simp (maxDischargeDepth := 99) [*]

theorem kept_execKLoop {u : State} (core : Nat) (pre : List (BitVec 9)) (w : Word) {s : State} (h : Kept u s) :
    KeptO u (execKLoop core pre w s) := by
  unfold execKLoop; simp (maxDischargeDepth := 99) +contextual [*]

theorem kept_execKLoopi {u : State} (core : Nat) (pre : List (BitVec 9)) (w : Word) {s : State} (h : Kept u s) :
    KeptO u (execKLoopi core pre w s) := by
  unfold execKLoopi; simp (maxDischargeDepth := 99) +contextual [*]

theorem kept_execKTrap {u : State} (core : Nat) (pre : List (BitVec 9)) (w : Word) {s : State} (h : Kept u s) :
    KeptO u (execKTrap core pre w s) := by
  unfold execKTrap; simp (maxDischargeDepth := 99) +contextual [*]

theorem kept_execKMovsFromSpecial {u : State} (core : Nat) (pre : List (BitVec 9)) (w : Word) {s : State} (h : Kept u s) :
    KeptO u (execKMovsFromSpecial core pre w s) := by
  unfold execKMovsFromSpecial; simp (maxDischargeDepth := 99) +contextual [*]

theorem kept_execKMovsToSpecial {u : State} (core : Nat) (pre : List (BitVec 9)) (w : Word) {s : State} (h : Kept u s) :
    KeptO u (execKMovsToSpecial core pre w s) := by
  unfold execKMovsToSpecial; simp (maxDischargeDepth := 99) [*]

end Sys2Proof.Machine
end

