-- ==== Sys2Proof/Laws/KeptKazMem.lean ====
section
/-! SUPPORT. What the operations of Machine/KazMem.lean keep. -/
namespace Sys2Proof.Machine

theorem kept_execKLd {u : State} (core : Nat) (pre : List (BitVec 9)) (w : Word) {s : State} (h : Kept u s) :
    KeptO u (execKLd core pre w s) := by
  unfold execKLd; simp (maxDischargeDepth := 99) +contextual [*]

theorem kept_execKSt {u : State} (core : Nat) (pre : List (BitVec 9)) (w : Word) {s : State} (h : Kept u s) :
    KeptO u (execKSt core pre w s) := by
  unfold execKSt; simp (maxDischargeDepth := 99) +contextual [*]

theorem kept_execKLdd {u : State} (core : Nat) (pre : List (BitVec 9)) (w : Word) {s : State} (h : Kept u s) :
    KeptO u (execKLdd core pre w s) := by
  unfold execKLdd; simp (maxDischargeDepth := 99) +contextual [*]

theorem kept_execKStd {u : State} (core : Nat) (pre : List (BitVec 9)) (w : Word) {s : State} (h : Kept u s) :
    KeptO u (execKStd core pre w s) := by
  unfold execKStd; simp (maxDischargeDepth := 99) +contextual [*]

theorem kept_execKLda {u : State} (core : Nat) (pre : List (BitVec 9)) (w : Word) {s : State} (h : Kept u s) :
    KeptO u (execKLda core pre w s) := by
  unfold execKLda; simp (maxDischargeDepth := 99) +contextual [*]

theorem kept_execKSta {u : State} (core : Nat) (pre : List (BitVec 9)) (w : Word) {s : State} (h : Kept u s) :
    KeptO u (execKSta core pre w s) := by
  unfold execKSta; simp (maxDischargeDepth := 99) +contextual [*]

theorem kept_execKLea {u : State} (core : Nat) (pre : List (BitVec 9)) (w : Word) {s : State} (h : Kept u s) :
    KeptO u (execKLea core pre w s) := by
  unfold execKLea; simp (maxDischargeDepth := 99) [*]

theorem kept_execKSwap {u : State} (core : Nat) (pre : List (BitVec 9)) (w : Word) {s : State} (h : Kept u s) :
    KeptO u (execKSwap core pre w s) := by
  unfold execKSwap; simp (maxDischargeDepth := 99) +contextual [*]

end Sys2Proof.Machine
end

