-- ==== Sys2Proof/Laws/KeptKazSys.lean ====
section
/-! SUPPORT. What the operations of Machine/KazSys.lean keep. -/
namespace Sys2Proof.Machine

theorem kept_execKNop {u : State} (core : Nat) (pre : List (BitVec 9)) (w : Word) {s : State} (h : Kept u s) :
    KeptO u (execKNop core pre w s) := by
  unfold execKNop; simp (maxDischargeDepth := 99) [*]

theorem kept_execKRfe {u : State} (core : Nat) (pre : List (BitVec 9)) (w : Word) {s : State} (h : Kept u s) :
    KeptO u (execKRfe core pre w s) := by
  unfold execKRfe
  try dsimp only
  repeat' (first | with_reducible assumption | with_reducible apply kept_each | with_reducible apply Kept.foldl | with_reducible apply KeptO.next | with_reducible apply Kept.ite | with_reducible apply kept_kaz | intro _ | ((split)) | (simp (maxDischargeDepth := 99) [*]; done))

theorem kept_execKSync {u : State} (core : Nat) (pre : List (BitVec 9)) (w : Word) {s : State} (h : Kept u s) :
    KeptO u (execKSync core pre w s) := by
  unfold execKSync; simp (maxDischargeDepth := 99) [*]

theorem kept_execKWaiti {u : State} (core : Nat) (pre : List (BitVec 9)) (w : Word) {s : State} (h : Kept u s) :
    KeptO u (execKWaiti core pre w s) := by
  unfold execKWaiti; simp (maxDischargeDepth := 99) +contextual [*]

@[simp ↓] theorem kept_haltCore {u : State} {s : State} (c : Nat) (h : Kept u s) :
    Kept u (s.haltCore c) := by
  unfold State.haltCore; simp (maxDischargeDepth := 99) [*]

theorem kept_execKBreak {u : State} (core : Nat) (pre : List (BitVec 9)) (w : Word) {s : State} (h : Kept u s) :
    KeptO u (execKBreak core pre w s) := by
  unfold execKBreak; simp (maxDischargeDepth := 99) +contextual [*]

theorem kept_execKCtxsw {u : State} (core : Nat) (pre : List (BitVec 9)) (w : Word) {s : State} (h : Kept u s) :
    KeptO u (execKCtxsw core pre w s) := by
  unfold execKCtxsw; simp (maxDischargeDepth := 99) [*]

@[simp ↓] theorem kept_fillFrame {u : State} {s : State} (c : Nat) (k : Nat) (j : Job) (h : Kept u s) :
    Kept u (s.fillFrame c k j) := by
  unfold State.fillFrame; repeat' (first | (simp (maxDischargeDepth := 99) [*]; done) | split)

theorem kept_execKJget {u : State} (core : Nat) (pre : List (BitVec 9)) (w : Word) {s : State} (h : Kept u s) :
    KeptO u (execKJget core pre w s) := by
  unfold execKJget
  try dsimp only
  repeat' (first | with_reducible assumption | with_reducible apply kept_each | with_reducible apply Kept.foldl | with_reducible apply KeptO.next | with_reducible apply Kept.ite | with_reducible apply kept_setCore | with_reducible apply kept_startJob | with_reducible apply kept_storeUe | with_reducible apply kept_faultJob | with_reducible apply kept_kaz | with_reducible apply kept_fillFrame | intro _ | ((split)) | (simp (maxDischargeDepth := 99) [*]; done))

@[simp ↓] theorem kept_jobDone {u : State} {s : State} (c : Nat) (k : Nat) (j : Job) (status : Nat) (h : Kept u s) :
    Kept u (s.jobDone c k j status) := by
  unfold State.jobDone; simp only []; repeat' (first | (simp (maxDischargeDepth := 99) +contextual [*]; done) | split)

theorem kept_execKJdone {u : State} (core : Nat) (pre : List (BitVec 9)) (w : Word) {s : State} (h : Kept u s) :
    KeptO u (execKJdone core pre w s) := by
  unfold execKJdone
  try dsimp only
  repeat' (first | with_reducible assumption | with_reducible apply kept_each | with_reducible apply Kept.foldl | with_reducible apply KeptO.next | with_reducible apply Kept.ite | with_reducible apply kept_event | with_reducible apply kept_memUe | with_reducible apply kept_kaz | with_reducible apply kept_jobDone | intro _ | ((split)) | (simp (maxDischargeDepth := 99) [*]; done))

theorem kept_execKSavectx {u : State} (core : Nat) (pre : List (BitVec 9)) (w : Word) {s : State} (h : Kept u s) :
    KeptO u (execKSavectx core pre w s) := by
  unfold execKSavectx; simp (maxDischargeDepth := 99) +contextual [*]

@[simp ↓] theorem kept_badCtx {u : State} {s : State} (c : Nat) (detail : Nat) (h : Kept u s) :
    KeptA u (s.badCtx c detail) := by
  unfold State.badCtx; simp (maxDischargeDepth := 99) [*]

theorem kept_execKLoadctx {u : State} (core : Nat) (pre : List (BitVec 9)) (w : Word) {s : State} (h : Kept u s) :
    KeptO u (execKLoadctx core pre w s) := by
  unfold execKLoadctx; simp (maxDischargeDepth := 99) +contextual [*]

@[simp ↓] theorem kept_denyCmd {u : State} {s : State} (c : Nat) (typ : Nat) (a : Nat) (h : Kept u s) :
    Kept u (s.denyCmd c typ a) := by
  unfold State.denyCmd; simp (maxDischargeDepth := 99) [*]

@[simp ↓] theorem kept_sendCmd {u : State} {s : State} (c : Nat) (hj : Job) (cmd : Cmd) (h : Kept u s) :
    Kept u (s.sendCmd c hj cmd) := by
  unfold State.sendCmd; simp only []; repeat' (first | (simp (maxDischargeDepth := 99) +contextual [*]; done) | split)

@[simp ↓] theorem kept_kucmd {u : State} {s : State} (c : Nat) (typ : Nat) (a : Nat) (h : Kept u s) :
    KeptA u (s.kucmd c typ a) := by
  unfold State.kucmd; repeat' (first | (simp (maxDischargeDepth := 99) [*]; done) | split)

theorem kept_execKUcmdCipher {u : State} (core : Nat) (pre : List (BitVec 9)) (w : Word) {s : State} (h : Kept u s) :
    KeptO u (execKUcmdCipher core pre w s) := by
  unfold execKUcmdCipher; simp (maxDischargeDepth := 99) +contextual [*]

theorem kept_execKUcmdDigest {u : State} (core : Nat) (pre : List (BitVec 9)) (w : Word) {s : State} (h : Kept u s) :
    KeptO u (execKUcmdDigest core pre w s) := by
  unfold execKUcmdDigest; simp (maxDischargeDepth := 99) +contextual [*]

theorem kept_execKUcmdBignum {u : State} (core : Nat) (pre : List (BitVec 9)) (w : Word) {s : State} (h : Kept u s) :
    KeptO u (execKUcmdBignum core pre w s) := by
  unfold execKUcmdBignum; simp (maxDischargeDepth := 99) +contextual [*]

theorem kept_execKUcmdHostRead {u : State} (core : Nat) (pre : List (BitVec 9)) (w : Word) {s : State} (h : Kept u s) :
    KeptO u (execKUcmdHostRead core pre w s) := by
  unfold execKUcmdHostRead; simp (maxDischargeDepth := 99) +contextual [*]

theorem kept_execKUcmdHostWrite {u : State} (core : Nat) (pre : List (BitVec 9)) (w : Word) {s : State} (h : Kept u s) :
    KeptO u (execKUcmdHostWrite core pre w s) := by
  unfold execKUcmdHostWrite; simp (maxDischargeDepth := 99) +contextual [*]

@[simp ↓] theorem kept_setLevel {u : State} {s : State} (c : Nat) (l : Nat) (b : Bool) (h : Kept u s) :
    Kept u (s.setLevel c l b) := by
  unfold State.setLevel; simp (maxDischargeDepth := 99) [*]

@[simp ↓] theorem kept_accept {u : State} {s : State} (c : Nat) (l : Nat) (h : Kept u s) :
    Kept u (s.accept c l) := by
  unfold State.accept; simp (maxDischargeDepth := 99) [*]

theorem kept_execInterruptEntry {u : State} (core : Nat) {s : State} (h : Kept u s) :
    KeptO u (execInterruptEntry core s) := by
  unfold execInterruptEntry; repeat' (first | (simp (maxDischargeDepth := 99) [*]; done) | split)

theorem kept_execLockstepMismatch {u : State} (core : Nat) {s : State} (h : Kept u s) :
    KeptO u (execLockstepMismatch core s) := by
  unfold execLockstepMismatch; simp (maxDischargeDepth := 99) [*]

theorem kept_execCompositeAbort {u : State} (core : Nat) {s : State} (h : Kept u s) :
    KeptO u (execCompositeAbort core s) := by
  unfold execCompositeAbort; repeat' (first | (simp (maxDischargeDepth := 99) [*]; done) | split)

theorem kept_execAbortTimeout {u : State} (core : Nat) {s : State} (h : Kept u s) :
    KeptO u (execAbortTimeout core s) := by
  unfold execAbortTimeout; simp (maxDischargeDepth := 99) [*]

theorem kept_execCoreHalt {u : State} (core : Nat) {s : State} (h : Kept u s) :
    KeptO u (execCoreHalt core s) := by
  unfold execCoreHalt; simp (maxDischargeDepth := 99) [*]

end Sys2Proof.Machine
end

