-- ==== Sys2Proof/Laws/KeptLanes.lean ====
section
/-! SUPPORT. What the operations of Machine/Lanes.lean keep. -/
namespace Sys2Proof.Machine

theorem kept_execKVadd {u : State} (core : Nat) (pre : List (BitVec 9)) (w : Word) {s : State} (h : Kept u s) :
    KeptO u (execKVadd core pre w s) := by
  unfold execKVadd; simp (maxDischargeDepth := 99) [*]

theorem kept_execKVsub {u : State} (core : Nat) (pre : List (BitVec 9)) (w : Word) {s : State} (h : Kept u s) :
    KeptO u (execKVsub core pre w s) := by
  unfold execKVsub; simp (maxDischargeDepth := 99) [*]

theorem kept_execKVmul {u : State} (core : Nat) (pre : List (BitVec 9)) (w : Word) {s : State} (h : Kept u s) :
    KeptO u (execKVmul core pre w s) := by
  unfold execKVmul; simp (maxDischargeDepth := 99) [*]

theorem kept_execKVbfly {u : State} (core : Nat) (pre : List (BitVec 9)) (w : Word) {s : State} (h : Kept u s) :
    KeptO u (execKVbfly core pre w s) := by
  unfold execKVbfly; simp (maxDischargeDepth := 99) [*]

theorem kept_execKVgs {u : State} (core : Nat) (pre : List (BitVec 9)) (w : Word) {s : State} (h : Kept u s) :
    KeptO u (execKVgs core pre w s) := by
  unfold execKVgs; simp (maxDischargeDepth := 99) [*]

theorem kept_execKVperm {u : State} (core : Nat) (pre : List (BitVec 9)) (w : Word) {s : State} (h : Kept u s) :
    KeptO u (execKVperm core pre w s) := by
  unfold execKVperm; simp (maxDischargeDepth := 99) [*]

theorem kept_execKVmov {u : State} (core : Nat) (pre : List (BitVec 9)) (w : Word) {s : State} (h : Kept u s) :
    KeptO u (execKVmov core pre w s) := by
  unfold execKVmov; simp (maxDischargeDepth := 99) [*]

theorem kept_execKVsplat {u : State} (core : Nat) (pre : List (BitVec 9)) (w : Word) {s : State} (h : Kept u s) :
    KeptO u (execKVsplat core pre w s) := by
  unfold execKVsplat; simp (maxDischargeDepth := 99) [*]

theorem kept_execKVext {u : State} (core : Nat) (pre : List (BitVec 9)) (w : Word) {s : State} (h : Kept u s) :
    KeptO u (execKVext core pre w s) := by
  unfold execKVext; simp (maxDischargeDepth := 99) [*]

theorem kept_execKVins {u : State} (core : Nat) (pre : List (BitVec 9)) (w : Word) {s : State} (h : Kept u s) :
    KeptO u (execKVins core pre w s) := by
  unfold execKVins; simp (maxDischargeDepth := 99) [*]

theorem kept_execKVld {u : State} (core : Nat) (pre : List (BitVec 9)) (w : Word) {s : State} (h : Kept u s) :
    KeptO u (execKVld core pre w s) := by
  unfold execKVld; simp (maxDischargeDepth := 99) +contextual [*]

theorem kept_execKVst {u : State} (core : Nat) (pre : List (BitVec 9)) (w : Word) {s : State} (h : Kept u s) :
    KeptO u (execKVst core pre w s) := by
  unfold execKVst; simp (maxDischargeDepth := 99) +contextual [*]

theorem kept_execKVldb {u : State} (core : Nat) (pre : List (BitVec 9)) (w : Word) {s : State} (h : Kept u s) :
    KeptO u (execKVldb core pre w s) := by
  unfold execKVldb; simp (maxDischargeDepth := 99) +contextual [*]

end Sys2Proof.Machine
end

