-- ==== Sys2Proof/Laws/KeptTick.lean ====
section
/-! SUPPORT. What the operations of Machine/Tick.lean keep. -/
namespace Sys2Proof.Machine

@[simp ↓] theorem kept_tick {u : State} {s : State} (h : Kept u s) :
    Kept u (s.tick) := by
  unfold State.tick; simp (maxDischargeDepth := 99) [*]

end Sys2Proof.Machine
end

