-- ==== Sys2Proof/Laws/State.lean ====
section
/-! SUPPORT. One lemma per field per update of `State`, true by definition. -/
namespace Sys2Proof.Machine

@[simp] theorem State.regs_with_regs (s : State) (v : Map Word) : ({ s with regs := v } : State).regs = v := rfl
@[simp] theorem State.regs_with_mem (s : State) (v : Map Word) : ({ s with mem := v } : State).regs = s.regs := rfl
@[simp] theorem State.regs_with_host (s : State) (v : Map Octet) : ({ s with host := v } : State).regs = s.regs := rfl
@[simp] theorem State.regs_with_bus (s : State) (v : Bus) : ({ s with bus := v } : State).regs = s.regs := rfl
@[simp] theorem State.regs_with_evt (s : State) (v : Events) : ({ s with evt := v } : State).regs = s.regs := rfl
@[simp] theorem State.regs_with_linkV (s : State) (v : Link) : ({ s with linkV := v } : State).regs = s.regs := rfl
@[simp] theorem State.regs_with_linkF (s : State) (v : Link) : ({ s with linkF := v } : State).regs = s.regs := rfl
@[simp] theorem State.regs_with_lev (s : State) (v : Levels) : ({ s with lev := v } : State).regs = s.regs := rfl
@[simp] theorem State.regs_with_queues (s : State) (v : Map Queue) : ({ s with queues := v } : State).regs = s.regs := rfl
@[simp] theorem State.regs_with_jobs (s : State) (v : Map (Option Job)) : ({ s with jobs := v } : State).regs = s.regs := rfl
@[simp] theorem State.regs_with_lode (s : State) (v : Lode) : ({ s with lode := v } : State).regs = s.regs := rfl
@[simp] theorem State.regs_with_net (s : State) (v : Net) : ({ s with net := v } : State).regs = s.regs := rfl
@[simp] theorem State.regs_with_clock (s : State) (v : Clock) : ({ s with clock := v } : State).regs = s.regs := rfl
@[simp] theorem State.regs_with_cust (s : State) (v : Custody) : ({ s with cust := v } : State).regs = s.regs := rfl
@[simp] theorem State.regs_with_units (s : State) (v : Units) : ({ s with units := v } : State).regs = s.regs := rfl
@[simp] theorem State.regs_with_cores (s : State) (v : Map Core) : ({ s with cores := v } : State).regs = s.regs := rfl
@[simp] theorem State.regs_with_gates (s : State) (v : Gates) : ({ s with gates := v } : State).regs = s.regs := rfl
@[simp] theorem State.regs_with_sluice (s : State) (v : Sluice) : ({ s with sluice := v } : State).regs = s.regs := rfl
@[simp] theorem State.regs_with_stn (s : State) (v : Stations) : ({ s with stn := v } : State).regs = s.regs := rfl
@[simp] theorem State.regs_with_line (s : State) (v : Line) : ({ s with line := v } : State).regs = s.regs := rfl
@[simp] theorem State.regs_with_tamper (s : State) (v : Tamper) : ({ s with tamper := v } : State).regs = s.regs := rfl
@[simp] theorem State.regs_with_wisp (s : State) (v : Wisp) : ({ s with wisp := v } : State).regs = s.regs := rfl
@[simp] theorem State.regs_with_flash (s : State) (v : Flash) : ({ s with flash := v } : State).regs = s.regs := rfl
@[simp] theorem State.regs_with_boot (s : State) (v : Boot) : ({ s with boot := v } : State).regs = s.regs := rfl
@[simp] theorem State.regs_with_power (s : State) (v : Power) : ({ s with power := v } : State).regs = s.regs := rfl
@[simp] theorem State.regs_with_diag (s : State) (v : Diag) : ({ s with diag := v } : State).regs = s.regs := rfl
@[simp] theorem State.regs_with_now (s : State) (v : Nat) : ({ s with now := v } : State).regs = s.regs := rfl
@[simp] theorem State.regs_with_fresh (s : State) (v : Nat) : ({ s with fresh := v } : State).regs = s.regs := rfl
@[simp] theorem State.regs_with_pending (s : State) (v : List Instr) : ({ s with pending := v } : State).regs = s.regs := rfl
@[simp] theorem State.mem_with_regs (s : State) (v : Map Word) : ({ s with regs := v } : State).mem = s.mem := rfl
@[simp] theorem State.mem_with_mem (s : State) (v : Map Word) : ({ s with mem := v } : State).mem = v := rfl
@[simp] theorem State.mem_with_host (s : State) (v : Map Octet) : ({ s with host := v } : State).mem = s.mem := rfl
@[simp] theorem State.mem_with_bus (s : State) (v : Bus) : ({ s with bus := v } : State).mem = s.mem := rfl
@[simp] theorem State.mem_with_evt (s : State) (v : Events) : ({ s with evt := v } : State).mem = s.mem := rfl
@[simp] theorem State.mem_with_linkV (s : State) (v : Link) : ({ s with linkV := v } : State).mem = s.mem := rfl
@[simp] theorem State.mem_with_linkF (s : State) (v : Link) : ({ s with linkF := v } : State).mem = s.mem := rfl
@[simp] theorem State.mem_with_lev (s : State) (v : Levels) : ({ s with lev := v } : State).mem = s.mem := rfl
@[simp] theorem State.mem_with_queues (s : State) (v : Map Queue) : ({ s with queues := v } : State).mem = s.mem := rfl
@[simp] theorem State.mem_with_jobs (s : State) (v : Map (Option Job)) : ({ s with jobs := v } : State).mem = s.mem := rfl
@[simp] theorem State.mem_with_lode (s : State) (v : Lode) : ({ s with lode := v } : State).mem = s.mem := rfl
@[simp] theorem State.mem_with_net (s : State) (v : Net) : ({ s with net := v } : State).mem = s.mem := rfl
@[simp] theorem State.mem_with_clock (s : State) (v : Clock) : ({ s with clock := v } : State).mem = s.mem := rfl
@[simp] theorem State.mem_with_cust (s : State) (v : Custody) : ({ s with cust := v } : State).mem = s.mem := rfl
@[simp] theorem State.mem_with_units (s : State) (v : Units) : ({ s with units := v } : State).mem = s.mem := rfl
@[simp] theorem State.mem_with_cores (s : State) (v : Map Core) : ({ s with cores := v } : State).mem = s.mem := rfl
@[simp] theorem State.mem_with_gates (s : State) (v : Gates) : ({ s with gates := v } : State).mem = s.mem := rfl
@[simp] theorem State.mem_with_sluice (s : State) (v : Sluice) : ({ s with sluice := v } : State).mem = s.mem := rfl
@[simp] theorem State.mem_with_stn (s : State) (v : Stations) : ({ s with stn := v } : State).mem = s.mem := rfl
@[simp] theorem State.mem_with_line (s : State) (v : Line) : ({ s with line := v } : State).mem = s.mem := rfl
@[simp] theorem State.mem_with_tamper (s : State) (v : Tamper) : ({ s with tamper := v } : State).mem = s.mem := rfl
@[simp] theorem State.mem_with_wisp (s : State) (v : Wisp) : ({ s with wisp := v } : State).mem = s.mem := rfl
@[simp] theorem State.mem_with_flash (s : State) (v : Flash) : ({ s with flash := v } : State).mem = s.mem := rfl
@[simp] theorem State.mem_with_boot (s : State) (v : Boot) : ({ s with boot := v } : State).mem = s.mem := rfl
@[simp] theorem State.mem_with_power (s : State) (v : Power) : ({ s with power := v } : State).mem = s.mem := rfl
@[simp] theorem State.mem_with_diag (s : State) (v : Diag) : ({ s with diag := v } : State).mem = s.mem := rfl
@[simp] theorem State.mem_with_now (s : State) (v : Nat) : ({ s with now := v } : State).mem = s.mem := rfl
@[simp] theorem State.mem_with_fresh (s : State) (v : Nat) : ({ s with fresh := v } : State).mem = s.mem := rfl
@[simp] theorem State.mem_with_pending (s : State) (v : List Instr) : ({ s with pending := v } : State).mem = s.mem := rfl
@[simp] theorem State.host_with_regs (s : State) (v : Map Word) : ({ s with regs := v } : State).host = s.host := rfl
@[simp] theorem State.host_with_mem (s : State) (v : Map Word) : ({ s with mem := v } : State).host = s.host := rfl
@[simp] theorem State.host_with_host (s : State) (v : Map Octet) : ({ s with host := v } : State).host = v := rfl
@[simp] theorem State.host_with_bus (s : State) (v : Bus) : ({ s with bus := v } : State).host = s.host := rfl
@[simp] theorem State.host_with_evt (s : State) (v : Events) : ({ s with evt := v } : State).host = s.host := rfl
@[simp] theorem State.host_with_linkV (s : State) (v : Link) : ({ s with linkV := v } : State).host = s.host := rfl
@[simp] theorem State.host_with_linkF (s : State) (v : Link) : ({ s with linkF := v } : State).host = s.host := rfl
@[simp] theorem State.host_with_lev (s : State) (v : Levels) : ({ s with lev := v } : State).host = s.host := rfl
@[simp] theorem State.host_with_queues (s : State) (v : Map Queue) : ({ s with queues := v } : State).host = s.host := rfl
@[simp] theorem State.host_with_jobs (s : State) (v : Map (Option Job)) : ({ s with jobs := v } : State).host = s.host := rfl
@[simp] theorem State.host_with_lode (s : State) (v : Lode) : ({ s with lode := v } : State).host = s.host := rfl
@[simp] theorem State.host_with_net (s : State) (v : Net) : ({ s with net := v } : State).host = s.host := rfl
@[simp] theorem State.host_with_clock (s : State) (v : Clock) : ({ s with clock := v } : State).host = s.host := rfl
@[simp] theorem State.host_with_cust (s : State) (v : Custody) : ({ s with cust := v } : State).host = s.host := rfl
@[simp] theorem State.host_with_units (s : State) (v : Units) : ({ s with units := v } : State).host = s.host := rfl
@[simp] theorem State.host_with_cores (s : State) (v : Map Core) : ({ s with cores := v } : State).host = s.host := rfl
@[simp] theorem State.host_with_gates (s : State) (v : Gates) : ({ s with gates := v } : State).host = s.host := rfl
@[simp] theorem State.host_with_sluice (s : State) (v : Sluice) : ({ s with sluice := v } : State).host = s.host := rfl
@[simp] theorem State.host_with_stn (s : State) (v : Stations) : ({ s with stn := v } : State).host = s.host := rfl
@[simp] theorem State.host_with_line (s : State) (v : Line) : ({ s with line := v } : State).host = s.host := rfl
@[simp] theorem State.host_with_tamper (s : State) (v : Tamper) : ({ s with tamper := v } : State).host = s.host := rfl
@[simp] theorem State.host_with_wisp (s : State) (v : Wisp) : ({ s with wisp := v } : State).host = s.host := rfl
@[simp] theorem State.host_with_flash (s : State) (v : Flash) : ({ s with flash := v } : State).host = s.host := rfl
@[simp] theorem State.host_with_boot (s : State) (v : Boot) : ({ s with boot := v } : State).host = s.host := rfl
@[simp] theorem State.host_with_power (s : State) (v : Power) : ({ s with power := v } : State).host = s.host := rfl
@[simp] theorem State.host_with_diag (s : State) (v : Diag) : ({ s with diag := v } : State).host = s.host := rfl
@[simp] theorem State.host_with_now (s : State) (v : Nat) : ({ s with now := v } : State).host = s.host := rfl
@[simp] theorem State.host_with_fresh (s : State) (v : Nat) : ({ s with fresh := v } : State).host = s.host := rfl
@[simp] theorem State.host_with_pending (s : State) (v : List Instr) : ({ s with pending := v } : State).host = s.host := rfl
@[simp] theorem State.bus_with_regs (s : State) (v : Map Word) : ({ s with regs := v } : State).bus = s.bus := rfl
@[simp] theorem State.bus_with_mem (s : State) (v : Map Word) : ({ s with mem := v } : State).bus = s.bus := rfl
@[simp] theorem State.bus_with_host (s : State) (v : Map Octet) : ({ s with host := v } : State).bus = s.bus := rfl
@[simp] theorem State.bus_with_bus (s : State) (v : Bus) : ({ s with bus := v } : State).bus = v := rfl
@[simp] theorem State.bus_with_evt (s : State) (v : Events) : ({ s with evt := v } : State).bus = s.bus := rfl
@[simp] theorem State.bus_with_linkV (s : State) (v : Link) : ({ s with linkV := v } : State).bus = s.bus := rfl
@[simp] theorem State.bus_with_linkF (s : State) (v : Link) : ({ s with linkF := v } : State).bus = s.bus := rfl
@[simp] theorem State.bus_with_lev (s : State) (v : Levels) : ({ s with lev := v } : State).bus = s.bus := rfl
@[simp] theorem State.bus_with_queues (s : State) (v : Map Queue) : ({ s with queues := v } : State).bus = s.bus := rfl
@[simp] theorem State.bus_with_jobs (s : State) (v : Map (Option Job)) : ({ s with jobs := v } : State).bus = s.bus := rfl
@[simp] theorem State.bus_with_lode (s : State) (v : Lode) : ({ s with lode := v } : State).bus = s.bus := rfl
@[simp] theorem State.bus_with_net (s : State) (v : Net) : ({ s with net := v } : State).bus = s.bus := rfl
@[simp] theorem State.bus_with_clock (s : State) (v : Clock) : ({ s with clock := v } : State).bus = s.bus := rfl
@[simp] theorem State.bus_with_cust (s : State) (v : Custody) : ({ s with cust := v } : State).bus = s.bus := rfl
@[simp] theorem State.bus_with_units (s : State) (v : Units) : ({ s with units := v } : State).bus = s.bus := rfl
@[simp] theorem State.bus_with_cores (s : State) (v : Map Core) : ({ s with cores := v } : State).bus = s.bus := rfl
@[simp] theorem State.bus_with_gates (s : State) (v : Gates) : ({ s with gates := v } : State).bus = s.bus := rfl
@[simp] theorem State.bus_with_sluice (s : State) (v : Sluice) : ({ s with sluice := v } : State).bus = s.bus := rfl
@[simp] theorem State.bus_with_stn (s : State) (v : Stations) : ({ s with stn := v } : State).bus = s.bus := rfl
@[simp] theorem State.bus_with_line (s : State) (v : Line) : ({ s with line := v } : State).bus = s.bus := rfl
@[simp] theorem State.bus_with_tamper (s : State) (v : Tamper) : ({ s with tamper := v } : State).bus = s.bus := rfl
@[simp] theorem State.bus_with_wisp (s : State) (v : Wisp) : ({ s with wisp := v } : State).bus = s.bus := rfl
@[simp] theorem State.bus_with_flash (s : State) (v : Flash) : ({ s with flash := v } : State).bus = s.bus := rfl
@[simp] theorem State.bus_with_boot (s : State) (v : Boot) : ({ s with boot := v } : State).bus = s.bus := rfl
@[simp] theorem State.bus_with_power (s : State) (v : Power) : ({ s with power := v } : State).bus = s.bus := rfl
@[simp] theorem State.bus_with_diag (s : State) (v : Diag) : ({ s with diag := v } : State).bus = s.bus := rfl
@[simp] theorem State.bus_with_now (s : State) (v : Nat) : ({ s with now := v } : State).bus = s.bus := rfl
@[simp] theorem State.bus_with_fresh (s : State) (v : Nat) : ({ s with fresh := v } : State).bus = s.bus := rfl
@[simp] theorem State.bus_with_pending (s : State) (v : List Instr) : ({ s with pending := v } : State).bus = s.bus := rfl
@[simp] theorem State.evt_with_regs (s : State) (v : Map Word) : ({ s with regs := v } : State).evt = s.evt := rfl
@[simp] theorem State.evt_with_mem (s : State) (v : Map Word) : ({ s with mem := v } : State).evt = s.evt := rfl
@[simp] theorem State.evt_with_host (s : State) (v : Map Octet) : ({ s with host := v } : State).evt = s.evt := rfl
@[simp] theorem State.evt_with_bus (s : State) (v : Bus) : ({ s with bus := v } : State).evt = s.evt := rfl
@[simp] theorem State.evt_with_evt (s : State) (v : Events) : ({ s with evt := v } : State).evt = v := rfl
@[simp] theorem State.evt_with_linkV (s : State) (v : Link) : ({ s with linkV := v } : State).evt = s.evt := rfl
@[simp] theorem State.evt_with_linkF (s : State) (v : Link) : ({ s with linkF := v } : State).evt = s.evt := rfl
@[simp] theorem State.evt_with_lev (s : State) (v : Levels) : ({ s with lev := v } : State).evt = s.evt := rfl
@[simp] theorem State.evt_with_queues (s : State) (v : Map Queue) : ({ s with queues := v } : State).evt = s.evt := rfl
@[simp] theorem State.evt_with_jobs (s : State) (v : Map (Option Job)) : ({ s with jobs := v } : State).evt = s.evt := rfl
@[simp] theorem State.evt_with_lode (s : State) (v : Lode) : ({ s with lode := v } : State).evt = s.evt := rfl
@[simp] theorem State.evt_with_net (s : State) (v : Net) : ({ s with net := v } : State).evt = s.evt := rfl
@[simp] theorem State.evt_with_clock (s : State) (v : Clock) : ({ s with clock := v } : State).evt = s.evt := rfl
@[simp] theorem State.evt_with_cust (s : State) (v : Custody) : ({ s with cust := v } : State).evt = s.evt := rfl
@[simp] theorem State.evt_with_units (s : State) (v : Units) : ({ s with units := v } : State).evt = s.evt := rfl
@[simp] theorem State.evt_with_cores (s : State) (v : Map Core) : ({ s with cores := v } : State).evt = s.evt := rfl
@[simp] theorem State.evt_with_gates (s : State) (v : Gates) : ({ s with gates := v } : State).evt = s.evt := rfl
@[simp] theorem State.evt_with_sluice (s : State) (v : Sluice) : ({ s with sluice := v } : State).evt = s.evt := rfl
@[simp] theorem State.evt_with_stn (s : State) (v : Stations) : ({ s with stn := v } : State).evt = s.evt := rfl
@[simp] theorem State.evt_with_line (s : State) (v : Line) : ({ s with line := v } : State).evt = s.evt := rfl
@[simp] theorem State.evt_with_tamper (s : State) (v : Tamper) : ({ s with tamper := v } : State).evt = s.evt := rfl
@[simp] theorem State.evt_with_wisp (s : State) (v : Wisp) : ({ s with wisp := v } : State).evt = s.evt := rfl
@[simp] theorem State.evt_with_flash (s : State) (v : Flash) : ({ s with flash := v } : State).evt = s.evt := rfl
@[simp] theorem State.evt_with_boot (s : State) (v : Boot) : ({ s with boot := v } : State).evt = s.evt := rfl
@[simp] theorem State.evt_with_power (s : State) (v : Power) : ({ s with power := v } : State).evt = s.evt := rfl
@[simp] theorem State.evt_with_diag (s : State) (v : Diag) : ({ s with diag := v } : State).evt = s.evt := rfl
@[simp] theorem State.evt_with_now (s : State) (v : Nat) : ({ s with now := v } : State).evt = s.evt := rfl
@[simp] theorem State.evt_with_fresh (s : State) (v : Nat) : ({ s with fresh := v } : State).evt = s.evt := rfl
@[simp] theorem State.evt_with_pending (s : State) (v : List Instr) : ({ s with pending := v } : State).evt = s.evt := rfl
@[simp] theorem State.linkV_with_regs (s : State) (v : Map Word) : ({ s with regs := v } : State).linkV = s.linkV := rfl
@[simp] theorem State.linkV_with_mem (s : State) (v : Map Word) : ({ s with mem := v } : State).linkV = s.linkV := rfl
@[simp] theorem State.linkV_with_host (s : State) (v : Map Octet) : ({ s with host := v } : State).linkV = s.linkV := rfl
@[simp] theorem State.linkV_with_bus (s : State) (v : Bus) : ({ s with bus := v } : State).linkV = s.linkV := rfl
@[simp] theorem State.linkV_with_evt (s : State) (v : Events) : ({ s with evt := v } : State).linkV = s.linkV := rfl
@[simp] theorem State.linkV_with_linkV (s : State) (v : Link) : ({ s with linkV := v } : State).linkV = v := rfl
@[simp] theorem State.linkV_with_linkF (s : State) (v : Link) : ({ s with linkF := v } : State).linkV = s.linkV := rfl
@[simp] theorem State.linkV_with_lev (s : State) (v : Levels) : ({ s with lev := v } : State).linkV = s.linkV := rfl
@[simp] theorem State.linkV_with_queues (s : State) (v : Map Queue) : ({ s with queues := v } : State).linkV = s.linkV := rfl
@[simp] theorem State.linkV_with_jobs (s : State) (v : Map (Option Job)) : ({ s with jobs := v } : State).linkV = s.linkV := rfl
@[simp] theorem State.linkV_with_lode (s : State) (v : Lode) : ({ s with lode := v } : State).linkV = s.linkV := rfl
@[simp] theorem State.linkV_with_net (s : State) (v : Net) : ({ s with net := v } : State).linkV = s.linkV := rfl
@[simp] theorem State.linkV_with_clock (s : State) (v : Clock) : ({ s with clock := v } : State).linkV = s.linkV := rfl
@[simp] theorem State.linkV_with_cust (s : State) (v : Custody) : ({ s with cust := v } : State).linkV = s.linkV := rfl
@[simp] theorem State.linkV_with_units (s : State) (v : Units) : ({ s with units := v } : State).linkV = s.linkV := rfl
@[simp] theorem State.linkV_with_cores (s : State) (v : Map Core) : ({ s with cores := v } : State).linkV = s.linkV := rfl
@[simp] theorem State.linkV_with_gates (s : State) (v : Gates) : ({ s with gates := v } : State).linkV = s.linkV := rfl
@[simp] theorem State.linkV_with_sluice (s : State) (v : Sluice) : ({ s with sluice := v } : State).linkV = s.linkV := rfl
@[simp] theorem State.linkV_with_stn (s : State) (v : Stations) : ({ s with stn := v } : State).linkV = s.linkV := rfl
@[simp] theorem State.linkV_with_line (s : State) (v : Line) : ({ s with line := v } : State).linkV = s.linkV := rfl
@[simp] theorem State.linkV_with_tamper (s : State) (v : Tamper) : ({ s with tamper := v } : State).linkV = s.linkV := rfl
@[simp] theorem State.linkV_with_wisp (s : State) (v : Wisp) : ({ s with wisp := v } : State).linkV = s.linkV := rfl
@[simp] theorem State.linkV_with_flash (s : State) (v : Flash) : ({ s with flash := v } : State).linkV = s.linkV := rfl
@[simp] theorem State.linkV_with_boot (s : State) (v : Boot) : ({ s with boot := v } : State).linkV = s.linkV := rfl
@[simp] theorem State.linkV_with_power (s : State) (v : Power) : ({ s with power := v } : State).linkV = s.linkV := rfl
@[simp] theorem State.linkV_with_diag (s : State) (v : Diag) : ({ s with diag := v } : State).linkV = s.linkV := rfl
@[simp] theorem State.linkV_with_now (s : State) (v : Nat) : ({ s with now := v } : State).linkV = s.linkV := rfl
@[simp] theorem State.linkV_with_fresh (s : State) (v : Nat) : ({ s with fresh := v } : State).linkV = s.linkV := rfl
@[simp] theorem State.linkV_with_pending (s : State) (v : List Instr) : ({ s with pending := v } : State).linkV = s.linkV := rfl
@[simp] theorem State.linkF_with_regs (s : State) (v : Map Word) : ({ s with regs := v } : State).linkF = s.linkF := rfl
@[simp] theorem State.linkF_with_mem (s : State) (v : Map Word) : ({ s with mem := v } : State).linkF = s.linkF := rfl
@[simp] theorem State.linkF_with_host (s : State) (v : Map Octet) : ({ s with host := v } : State).linkF = s.linkF := rfl
@[simp] theorem State.linkF_with_bus (s : State) (v : Bus) : ({ s with bus := v } : State).linkF = s.linkF := rfl
@[simp] theorem State.linkF_with_evt (s : State) (v : Events) : ({ s with evt := v } : State).linkF = s.linkF := rfl
@[simp] theorem State.linkF_with_linkV (s : State) (v : Link) : ({ s with linkV := v } : State).linkF = s.linkF := rfl
@[simp] theorem State.linkF_with_linkF (s : State) (v : Link) : ({ s with linkF := v } : State).linkF = v := rfl
@[simp] theorem State.linkF_with_lev (s : State) (v : Levels) : ({ s with lev := v } : State).linkF = s.linkF := rfl
@[simp] theorem State.linkF_with_queues (s : State) (v : Map Queue) : ({ s with queues := v } : State).linkF = s.linkF := rfl
@[simp] theorem State.linkF_with_jobs (s : State) (v : Map (Option Job)) : ({ s with jobs := v } : State).linkF = s.linkF := rfl
@[simp] theorem State.linkF_with_lode (s : State) (v : Lode) : ({ s with lode := v } : State).linkF = s.linkF := rfl
@[simp] theorem State.linkF_with_net (s : State) (v : Net) : ({ s with net := v } : State).linkF = s.linkF := rfl
@[simp] theorem State.linkF_with_clock (s : State) (v : Clock) : ({ s with clock := v } : State).linkF = s.linkF := rfl
@[simp] theorem State.linkF_with_cust (s : State) (v : Custody) : ({ s with cust := v } : State).linkF = s.linkF := rfl
@[simp] theorem State.linkF_with_units (s : State) (v : Units) : ({ s with units := v } : State).linkF = s.linkF := rfl
@[simp] theorem State.linkF_with_cores (s : State) (v : Map Core) : ({ s with cores := v } : State).linkF = s.linkF := rfl
@[simp] theorem State.linkF_with_gates (s : State) (v : Gates) : ({ s with gates := v } : State).linkF = s.linkF := rfl
@[simp] theorem State.linkF_with_sluice (s : State) (v : Sluice) : ({ s with sluice := v } : State).linkF = s.linkF := rfl
@[simp] theorem State.linkF_with_stn (s : State) (v : Stations) : ({ s with stn := v } : State).linkF = s.linkF := rfl
@[simp] theorem State.linkF_with_line (s : State) (v : Line) : ({ s with line := v } : State).linkF = s.linkF := rfl
@[simp] theorem State.linkF_with_tamper (s : State) (v : Tamper) : ({ s with tamper := v } : State).linkF = s.linkF := rfl
@[simp] theorem State.linkF_with_wisp (s : State) (v : Wisp) : ({ s with wisp := v } : State).linkF = s.linkF := rfl
@[simp] theorem State.linkF_with_flash (s : State) (v : Flash) : ({ s with flash := v } : State).linkF = s.linkF := rfl
@[simp] theorem State.linkF_with_boot (s : State) (v : Boot) : ({ s with boot := v } : State).linkF = s.linkF := rfl
@[simp] theorem State.linkF_with_power (s : State) (v : Power) : ({ s with power := v } : State).linkF = s.linkF := rfl
@[simp] theorem State.linkF_with_diag (s : State) (v : Diag) : ({ s with diag := v } : State).linkF = s.linkF := rfl
@[simp] theorem State.linkF_with_now (s : State) (v : Nat) : ({ s with now := v } : State).linkF = s.linkF := rfl
@[simp] theorem State.linkF_with_fresh (s : State) (v : Nat) : ({ s with fresh := v } : State).linkF = s.linkF := rfl
@[simp] theorem State.linkF_with_pending (s : State) (v : List Instr) : ({ s with pending := v } : State).linkF = s.linkF := rfl
@[simp] theorem State.lev_with_regs (s : State) (v : Map Word) : ({ s with regs := v } : State).lev = s.lev := rfl
@[simp] theorem State.lev_with_mem (s : State) (v : Map Word) : ({ s with mem := v } : State).lev = s.lev := rfl
@[simp] theorem State.lev_with_host (s : State) (v : Map Octet) : ({ s with host := v } : State).lev = s.lev := rfl
@[simp] theorem State.lev_with_bus (s : State) (v : Bus) : ({ s with bus := v } : State).lev = s.lev := rfl
@[simp] theorem State.lev_with_evt (s : State) (v : Events) : ({ s with evt := v } : State).lev = s.lev := rfl
@[simp] theorem State.lev_with_linkV (s : State) (v : Link) : ({ s with linkV := v } : State).lev = s.lev := rfl
@[simp] theorem State.lev_with_linkF (s : State) (v : Link) : ({ s with linkF := v } : State).lev = s.lev := rfl
@[simp] theorem State.lev_with_lev (s : State) (v : Levels) : ({ s with lev := v } : State).lev = v := rfl
@[simp] theorem State.lev_with_queues (s : State) (v : Map Queue) : ({ s with queues := v } : State).lev = s.lev := rfl
@[simp] theorem State.lev_with_jobs (s : State) (v : Map (Option Job)) : ({ s with jobs := v } : State).lev = s.lev := rfl
@[simp] theorem State.lev_with_lode (s : State) (v : Lode) : ({ s with lode := v } : State).lev = s.lev := rfl
@[simp] theorem State.lev_with_net (s : State) (v : Net) : ({ s with net := v } : State).lev = s.lev := rfl
@[simp] theorem State.lev_with_clock (s : State) (v : Clock) : ({ s with clock := v } : State).lev = s.lev := rfl
@[simp] theorem State.lev_with_cust (s : State) (v : Custody) : ({ s with cust := v } : State).lev = s.lev := rfl
@[simp] theorem State.lev_with_units (s : State) (v : Units) : ({ s with units := v } : State).lev = s.lev := rfl
@[simp] theorem State.lev_with_cores (s : State) (v : Map Core) : ({ s with cores := v } : State).lev = s.lev := rfl
@[simp] theorem State.lev_with_gates (s : State) (v : Gates) : ({ s with gates := v } : State).lev = s.lev := rfl
@[simp] theorem State.lev_with_sluice (s : State) (v : Sluice) : ({ s with sluice := v } : State).lev = s.lev := rfl
@[simp] theorem State.lev_with_stn (s : State) (v : Stations) : ({ s with stn := v } : State).lev = s.lev := rfl
@[simp] theorem State.lev_with_line (s : State) (v : Line) : ({ s with line := v } : State).lev = s.lev := rfl
@[simp] theorem State.lev_with_tamper (s : State) (v : Tamper) : ({ s with tamper := v } : State).lev = s.lev := rfl
@[simp] theorem State.lev_with_wisp (s : State) (v : Wisp) : ({ s with wisp := v } : State).lev = s.lev := rfl
@[simp] theorem State.lev_with_flash (s : State) (v : Flash) : ({ s with flash := v } : State).lev = s.lev := rfl
@[simp] theorem State.lev_with_boot (s : State) (v : Boot) : ({ s with boot := v } : State).lev = s.lev := rfl
@[simp] theorem State.lev_with_power (s : State) (v : Power) : ({ s with power := v } : State).lev = s.lev := rfl
@[simp] theorem State.lev_with_diag (s : State) (v : Diag) : ({ s with diag := v } : State).lev = s.lev := rfl
@[simp] theorem State.lev_with_now (s : State) (v : Nat) : ({ s with now := v } : State).lev = s.lev := rfl
@[simp] theorem State.lev_with_fresh (s : State) (v : Nat) : ({ s with fresh := v } : State).lev = s.lev := rfl
@[simp] theorem State.lev_with_pending (s : State) (v : List Instr) : ({ s with pending := v } : State).lev = s.lev := rfl
@[simp] theorem State.queues_with_regs (s : State) (v : Map Word) : ({ s with regs := v } : State).queues = s.queues := rfl
@[simp] theorem State.queues_with_mem (s : State) (v : Map Word) : ({ s with mem := v } : State).queues = s.queues := rfl
@[simp] theorem State.queues_with_host (s : State) (v : Map Octet) : ({ s with host := v } : State).queues = s.queues := rfl
@[simp] theorem State.queues_with_bus (s : State) (v : Bus) : ({ s with bus := v } : State).queues = s.queues := rfl
@[simp] theorem State.queues_with_evt (s : State) (v : Events) : ({ s with evt := v } : State).queues = s.queues := rfl
@[simp] theorem State.queues_with_linkV (s : State) (v : Link) : ({ s with linkV := v } : State).queues = s.queues := rfl
@[simp] theorem State.queues_with_linkF (s : State) (v : Link) : ({ s with linkF := v } : State).queues = s.queues := rfl
@[simp] theorem State.queues_with_lev (s : State) (v : Levels) : ({ s with lev := v } : State).queues = s.queues := rfl
@[simp] theorem State.queues_with_queues (s : State) (v : Map Queue) : ({ s with queues := v } : State).queues = v := rfl
@[simp] theorem State.queues_with_jobs (s : State) (v : Map (Option Job)) : ({ s with jobs := v } : State).queues = s.queues := rfl
@[simp] theorem State.queues_with_lode (s : State) (v : Lode) : ({ s with lode := v } : State).queues = s.queues := rfl
@[simp] theorem State.queues_with_net (s : State) (v : Net) : ({ s with net := v } : State).queues = s.queues := rfl
@[simp] theorem State.queues_with_clock (s : State) (v : Clock) : ({ s with clock := v } : State).queues = s.queues := rfl
@[simp] theorem State.queues_with_cust (s : State) (v : Custody) : ({ s with cust := v } : State).queues = s.queues := rfl
@[simp] theorem State.queues_with_units (s : State) (v : Units) : ({ s with units := v } : State).queues = s.queues := rfl
@[simp] theorem State.queues_with_cores (s : State) (v : Map Core) : ({ s with cores := v } : State).queues = s.queues := rfl
@[simp] theorem State.queues_with_gates (s : State) (v : Gates) : ({ s with gates := v } : State).queues = s.queues := rfl
@[simp] theorem State.queues_with_sluice (s : State) (v : Sluice) : ({ s with sluice := v } : State).queues = s.queues := rfl
@[simp] theorem State.queues_with_stn (s : State) (v : Stations) : ({ s with stn := v } : State).queues = s.queues := rfl
@[simp] theorem State.queues_with_line (s : State) (v : Line) : ({ s with line := v } : State).queues = s.queues := rfl
@[simp] theorem State.queues_with_tamper (s : State) (v : Tamper) : ({ s with tamper := v } : State).queues = s.queues := rfl
@[simp] theorem State.queues_with_wisp (s : State) (v : Wisp) : ({ s with wisp := v } : State).queues = s.queues := rfl
@[simp] theorem State.queues_with_flash (s : State) (v : Flash) : ({ s with flash := v } : State).queues = s.queues := rfl
@[simp] theorem State.queues_with_boot (s : State) (v : Boot) : ({ s with boot := v } : State).queues = s.queues := rfl
@[simp] theorem State.queues_with_power (s : State) (v : Power) : ({ s with power := v } : State).queues = s.queues := rfl
@[simp] theorem State.queues_with_diag (s : State) (v : Diag) : ({ s with diag := v } : State).queues = s.queues := rfl
@[simp] theorem State.queues_with_now (s : State) (v : Nat) : ({ s with now := v } : State).queues = s.queues := rfl
@[simp] theorem State.queues_with_fresh (s : State) (v : Nat) : ({ s with fresh := v } : State).queues = s.queues := rfl
@[simp] theorem State.queues_with_pending (s : State) (v : List Instr) : ({ s with pending := v } : State).queues = s.queues := rfl
@[simp] theorem State.jobs_with_regs (s : State) (v : Map Word) : ({ s with regs := v } : State).jobs = s.jobs := rfl
@[simp] theorem State.jobs_with_mem (s : State) (v : Map Word) : ({ s with mem := v } : State).jobs = s.jobs := rfl
@[simp] theorem State.jobs_with_host (s : State) (v : Map Octet) : ({ s with host := v } : State).jobs = s.jobs := rfl
@[simp] theorem State.jobs_with_bus (s : State) (v : Bus) : ({ s with bus := v } : State).jobs = s.jobs := rfl
@[simp] theorem State.jobs_with_evt (s : State) (v : Events) : ({ s with evt := v } : State).jobs = s.jobs := rfl
@[simp] theorem State.jobs_with_linkV (s : State) (v : Link) : ({ s with linkV := v } : State).jobs = s.jobs := rfl
@[simp] theorem State.jobs_with_linkF (s : State) (v : Link) : ({ s with linkF := v } : State).jobs = s.jobs := rfl
@[simp] theorem State.jobs_with_lev (s : State) (v : Levels) : ({ s with lev := v } : State).jobs = s.jobs := rfl
@[simp] theorem State.jobs_with_queues (s : State) (v : Map Queue) : ({ s with queues := v } : State).jobs = s.jobs := rfl
@[simp] theorem State.jobs_with_jobs (s : State) (v : Map (Option Job)) : ({ s with jobs := v } : State).jobs = v := rfl
@[simp] theorem State.jobs_with_lode (s : State) (v : Lode) : ({ s with lode := v } : State).jobs = s.jobs := rfl
@[simp] theorem State.jobs_with_net (s : State) (v : Net) : ({ s with net := v } : State).jobs = s.jobs := rfl
@[simp] theorem State.jobs_with_clock (s : State) (v : Clock) : ({ s with clock := v } : State).jobs = s.jobs := rfl
@[simp] theorem State.jobs_with_cust (s : State) (v : Custody) : ({ s with cust := v } : State).jobs = s.jobs := rfl
@[simp] theorem State.jobs_with_units (s : State) (v : Units) : ({ s with units := v } : State).jobs = s.jobs := rfl
@[simp] theorem State.jobs_with_cores (s : State) (v : Map Core) : ({ s with cores := v } : State).jobs = s.jobs := rfl
@[simp] theorem State.jobs_with_gates (s : State) (v : Gates) : ({ s with gates := v } : State).jobs = s.jobs := rfl
@[simp] theorem State.jobs_with_sluice (s : State) (v : Sluice) : ({ s with sluice := v } : State).jobs = s.jobs := rfl
@[simp] theorem State.jobs_with_stn (s : State) (v : Stations) : ({ s with stn := v } : State).jobs = s.jobs := rfl
@[simp] theorem State.jobs_with_line (s : State) (v : Line) : ({ s with line := v } : State).jobs = s.jobs := rfl
@[simp] theorem State.jobs_with_tamper (s : State) (v : Tamper) : ({ s with tamper := v } : State).jobs = s.jobs := rfl
@[simp] theorem State.jobs_with_wisp (s : State) (v : Wisp) : ({ s with wisp := v } : State).jobs = s.jobs := rfl
@[simp] theorem State.jobs_with_flash (s : State) (v : Flash) : ({ s with flash := v } : State).jobs = s.jobs := rfl
@[simp] theorem State.jobs_with_boot (s : State) (v : Boot) : ({ s with boot := v } : State).jobs = s.jobs := rfl
@[simp] theorem State.jobs_with_power (s : State) (v : Power) : ({ s with power := v } : State).jobs = s.jobs := rfl
@[simp] theorem State.jobs_with_diag (s : State) (v : Diag) : ({ s with diag := v } : State).jobs = s.jobs := rfl
@[simp] theorem State.jobs_with_now (s : State) (v : Nat) : ({ s with now := v } : State).jobs = s.jobs := rfl
@[simp] theorem State.jobs_with_fresh (s : State) (v : Nat) : ({ s with fresh := v } : State).jobs = s.jobs := rfl
@[simp] theorem State.jobs_with_pending (s : State) (v : List Instr) : ({ s with pending := v } : State).jobs = s.jobs := rfl
@[simp] theorem State.lode_with_regs (s : State) (v : Map Word) : ({ s with regs := v } : State).lode = s.lode := rfl
@[simp] theorem State.lode_with_mem (s : State) (v : Map Word) : ({ s with mem := v } : State).lode = s.lode := rfl
@[simp] theorem State.lode_with_host (s : State) (v : Map Octet) : ({ s with host := v } : State).lode = s.lode := rfl
@[simp] theorem State.lode_with_bus (s : State) (v : Bus) : ({ s with bus := v } : State).lode = s.lode := rfl
@[simp] theorem State.lode_with_evt (s : State) (v : Events) : ({ s with evt := v } : State).lode = s.lode := rfl
@[simp] theorem State.lode_with_linkV (s : State) (v : Link) : ({ s with linkV := v } : State).lode = s.lode := rfl
@[simp] theorem State.lode_with_linkF (s : State) (v : Link) : ({ s with linkF := v } : State).lode = s.lode := rfl
@[simp] theorem State.lode_with_lev (s : State) (v : Levels) : ({ s with lev := v } : State).lode = s.lode := rfl
@[simp] theorem State.lode_with_queues (s : State) (v : Map Queue) : ({ s with queues := v } : State).lode = s.lode := rfl
@[simp] theorem State.lode_with_jobs (s : State) (v : Map (Option Job)) : ({ s with jobs := v } : State).lode = s.lode := rfl
@[simp] theorem State.lode_with_lode (s : State) (v : Lode) : ({ s with lode := v } : State).lode = v := rfl
@[simp] theorem State.lode_with_net (s : State) (v : Net) : ({ s with net := v } : State).lode = s.lode := rfl
@[simp] theorem State.lode_with_clock (s : State) (v : Clock) : ({ s with clock := v } : State).lode = s.lode := rfl
@[simp] theorem State.lode_with_cust (s : State) (v : Custody) : ({ s with cust := v } : State).lode = s.lode := rfl
@[simp] theorem State.lode_with_units (s : State) (v : Units) : ({ s with units := v } : State).lode = s.lode := rfl
@[simp] theorem State.lode_with_cores (s : State) (v : Map Core) : ({ s with cores := v } : State).lode = s.lode := rfl
@[simp] theorem State.lode_with_gates (s : State) (v : Gates) : ({ s with gates := v } : State).lode = s.lode := rfl
@[simp] theorem State.lode_with_sluice (s : State) (v : Sluice) : ({ s with sluice := v } : State).lode = s.lode := rfl
@[simp] theorem State.lode_with_stn (s : State) (v : Stations) : ({ s with stn := v } : State).lode = s.lode := rfl
@[simp] theorem State.lode_with_line (s : State) (v : Line) : ({ s with line := v } : State).lode = s.lode := rfl
@[simp] theorem State.lode_with_tamper (s : State) (v : Tamper) : ({ s with tamper := v } : State).lode = s.lode := rfl
@[simp] theorem State.lode_with_wisp (s : State) (v : Wisp) : ({ s with wisp := v } : State).lode = s.lode := rfl
@[simp] theorem State.lode_with_flash (s : State) (v : Flash) : ({ s with flash := v } : State).lode = s.lode := rfl
@[simp] theorem State.lode_with_boot (s : State) (v : Boot) : ({ s with boot := v } : State).lode = s.lode := rfl
@[simp] theorem State.lode_with_power (s : State) (v : Power) : ({ s with power := v } : State).lode = s.lode := rfl
@[simp] theorem State.lode_with_diag (s : State) (v : Diag) : ({ s with diag := v } : State).lode = s.lode := rfl
@[simp] theorem State.lode_with_now (s : State) (v : Nat) : ({ s with now := v } : State).lode = s.lode := rfl
@[simp] theorem State.lode_with_fresh (s : State) (v : Nat) : ({ s with fresh := v } : State).lode = s.lode := rfl
@[simp] theorem State.lode_with_pending (s : State) (v : List Instr) : ({ s with pending := v } : State).lode = s.lode := rfl
@[simp] theorem State.net_with_regs (s : State) (v : Map Word) : ({ s with regs := v } : State).net = s.net := rfl
@[simp] theorem State.net_with_mem (s : State) (v : Map Word) : ({ s with mem := v } : State).net = s.net := rfl
@[simp] theorem State.net_with_host (s : State) (v : Map Octet) : ({ s with host := v } : State).net = s.net := rfl
@[simp] theorem State.net_with_bus (s : State) (v : Bus) : ({ s with bus := v } : State).net = s.net := rfl
@[simp] theorem State.net_with_evt (s : State) (v : Events) : ({ s with evt := v } : State).net = s.net := rfl
@[simp] theorem State.net_with_linkV (s : State) (v : Link) : ({ s with linkV := v } : State).net = s.net := rfl
@[simp] theorem State.net_with_linkF (s : State) (v : Link) : ({ s with linkF := v } : State).net = s.net := rfl
@[simp] theorem State.net_with_lev (s : State) (v : Levels) : ({ s with lev := v } : State).net = s.net := rfl
@[simp] theorem State.net_with_queues (s : State) (v : Map Queue) : ({ s with queues := v } : State).net = s.net := rfl
@[simp] theorem State.net_with_jobs (s : State) (v : Map (Option Job)) : ({ s with jobs := v } : State).net = s.net := rfl
@[simp] theorem State.net_with_lode (s : State) (v : Lode) : ({ s with lode := v } : State).net = s.net := rfl
@[simp] theorem State.net_with_net (s : State) (v : Net) : ({ s with net := v } : State).net = v := rfl
@[simp] theorem State.net_with_clock (s : State) (v : Clock) : ({ s with clock := v } : State).net = s.net := rfl
@[simp] theorem State.net_with_cust (s : State) (v : Custody) : ({ s with cust := v } : State).net = s.net := rfl
@[simp] theorem State.net_with_units (s : State) (v : Units) : ({ s with units := v } : State).net = s.net := rfl
@[simp] theorem State.net_with_cores (s : State) (v : Map Core) : ({ s with cores := v } : State).net = s.net := rfl
@[simp] theorem State.net_with_gates (s : State) (v : Gates) : ({ s with gates := v } : State).net = s.net := rfl
@[simp] theorem State.net_with_sluice (s : State) (v : Sluice) : ({ s with sluice := v } : State).net = s.net := rfl
@[simp] theorem State.net_with_stn (s : State) (v : Stations) : ({ s with stn := v } : State).net = s.net := rfl
@[simp] theorem State.net_with_line (s : State) (v : Line) : ({ s with line := v } : State).net = s.net := rfl
@[simp] theorem State.net_with_tamper (s : State) (v : Tamper) : ({ s with tamper := v } : State).net = s.net := rfl
@[simp] theorem State.net_with_wisp (s : State) (v : Wisp) : ({ s with wisp := v } : State).net = s.net := rfl
@[simp] theorem State.net_with_flash (s : State) (v : Flash) : ({ s with flash := v } : State).net = s.net := rfl
@[simp] theorem State.net_with_boot (s : State) (v : Boot) : ({ s with boot := v } : State).net = s.net := rfl
@[simp] theorem State.net_with_power (s : State) (v : Power) : ({ s with power := v } : State).net = s.net := rfl
@[simp] theorem State.net_with_diag (s : State) (v : Diag) : ({ s with diag := v } : State).net = s.net := rfl
@[simp] theorem State.net_with_now (s : State) (v : Nat) : ({ s with now := v } : State).net = s.net := rfl
@[simp] theorem State.net_with_fresh (s : State) (v : Nat) : ({ s with fresh := v } : State).net = s.net := rfl
@[simp] theorem State.net_with_pending (s : State) (v : List Instr) : ({ s with pending := v } : State).net = s.net := rfl
@[simp] theorem State.clock_with_regs (s : State) (v : Map Word) : ({ s with regs := v } : State).clock = s.clock := rfl
@[simp] theorem State.clock_with_mem (s : State) (v : Map Word) : ({ s with mem := v } : State).clock = s.clock := rfl
@[simp] theorem State.clock_with_host (s : State) (v : Map Octet) : ({ s with host := v } : State).clock = s.clock := rfl
@[simp] theorem State.clock_with_bus (s : State) (v : Bus) : ({ s with bus := v } : State).clock = s.clock := rfl
@[simp] theorem State.clock_with_evt (s : State) (v : Events) : ({ s with evt := v } : State).clock = s.clock := rfl
@[simp] theorem State.clock_with_linkV (s : State) (v : Link) : ({ s with linkV := v } : State).clock = s.clock := rfl
@[simp] theorem State.clock_with_linkF (s : State) (v : Link) : ({ s with linkF := v } : State).clock = s.clock := rfl
@[simp] theorem State.clock_with_lev (s : State) (v : Levels) : ({ s with lev := v } : State).clock = s.clock := rfl
@[simp] theorem State.clock_with_queues (s : State) (v : Map Queue) : ({ s with queues := v } : State).clock = s.clock := rfl
@[simp] theorem State.clock_with_jobs (s : State) (v : Map (Option Job)) : ({ s with jobs := v } : State).clock = s.clock := rfl
@[simp] theorem State.clock_with_lode (s : State) (v : Lode) : ({ s with lode := v } : State).clock = s.clock := rfl
@[simp] theorem State.clock_with_net (s : State) (v : Net) : ({ s with net := v } : State).clock = s.clock := rfl
@[simp] theorem State.clock_with_clock (s : State) (v : Clock) : ({ s with clock := v } : State).clock = v := rfl
@[simp] theorem State.clock_with_cust (s : State) (v : Custody) : ({ s with cust := v } : State).clock = s.clock := rfl
@[simp] theorem State.clock_with_units (s : State) (v : Units) : ({ s with units := v } : State).clock = s.clock := rfl
@[simp] theorem State.clock_with_cores (s : State) (v : Map Core) : ({ s with cores := v } : State).clock = s.clock := rfl
@[simp] theorem State.clock_with_gates (s : State) (v : Gates) : ({ s with gates := v } : State).clock = s.clock := rfl
@[simp] theorem State.clock_with_sluice (s : State) (v : Sluice) : ({ s with sluice := v } : State).clock = s.clock := rfl
@[simp] theorem State.clock_with_stn (s : State) (v : Stations) : ({ s with stn := v } : State).clock = s.clock := rfl
@[simp] theorem State.clock_with_line (s : State) (v : Line) : ({ s with line := v } : State).clock = s.clock := rfl
@[simp] theorem State.clock_with_tamper (s : State) (v : Tamper) : ({ s with tamper := v } : State).clock = s.clock := rfl
@[simp] theorem State.clock_with_wisp (s : State) (v : Wisp) : ({ s with wisp := v } : State).clock = s.clock := rfl
@[simp] theorem State.clock_with_flash (s : State) (v : Flash) : ({ s with flash := v } : State).clock = s.clock := rfl
@[simp] theorem State.clock_with_boot (s : State) (v : Boot) : ({ s with boot := v } : State).clock = s.clock := rfl
@[simp] theorem State.clock_with_power (s : State) (v : Power) : ({ s with power := v } : State).clock = s.clock := rfl
@[simp] theorem State.clock_with_diag (s : State) (v : Diag) : ({ s with diag := v } : State).clock = s.clock := rfl
@[simp] theorem State.clock_with_now (s : State) (v : Nat) : ({ s with now := v } : State).clock = s.clock := rfl
@[simp] theorem State.clock_with_fresh (s : State) (v : Nat) : ({ s with fresh := v } : State).clock = s.clock := rfl
@[simp] theorem State.clock_with_pending (s : State) (v : List Instr) : ({ s with pending := v } : State).clock = s.clock := rfl
@[simp] theorem State.cust_with_regs (s : State) (v : Map Word) : ({ s with regs := v } : State).cust = s.cust := rfl
@[simp] theorem State.cust_with_mem (s : State) (v : Map Word) : ({ s with mem := v } : State).cust = s.cust := rfl
@[simp] theorem State.cust_with_host (s : State) (v : Map Octet) : ({ s with host := v } : State).cust = s.cust := rfl
@[simp] theorem State.cust_with_bus (s : State) (v : Bus) : ({ s with bus := v } : State).cust = s.cust := rfl
@[simp] theorem State.cust_with_evt (s : State) (v : Events) : ({ s with evt := v } : State).cust = s.cust := rfl
@[simp] theorem State.cust_with_linkV (s : State) (v : Link) : ({ s with linkV := v } : State).cust = s.cust := rfl
@[simp] theorem State.cust_with_linkF (s : State) (v : Link) : ({ s with linkF := v } : State).cust = s.cust := rfl
@[simp] theorem State.cust_with_lev (s : State) (v : Levels) : ({ s with lev := v } : State).cust = s.cust := rfl
@[simp] theorem State.cust_with_queues (s : State) (v : Map Queue) : ({ s with queues := v } : State).cust = s.cust := rfl
@[simp] theorem State.cust_with_jobs (s : State) (v : Map (Option Job)) : ({ s with jobs := v } : State).cust = s.cust := rfl
@[simp] theorem State.cust_with_lode (s : State) (v : Lode) : ({ s with lode := v } : State).cust = s.cust := rfl
@[simp] theorem State.cust_with_net (s : State) (v : Net) : ({ s with net := v } : State).cust = s.cust := rfl
@[simp] theorem State.cust_with_clock (s : State) (v : Clock) : ({ s with clock := v } : State).cust = s.cust := rfl
@[simp] theorem State.cust_with_cust (s : State) (v : Custody) : ({ s with cust := v } : State).cust = v := rfl
@[simp] theorem State.cust_with_units (s : State) (v : Units) : ({ s with units := v } : State).cust = s.cust := rfl
@[simp] theorem State.cust_with_cores (s : State) (v : Map Core) : ({ s with cores := v } : State).cust = s.cust := rfl
@[simp] theorem State.cust_with_gates (s : State) (v : Gates) : ({ s with gates := v } : State).cust = s.cust := rfl
@[simp] theorem State.cust_with_sluice (s : State) (v : Sluice) : ({ s with sluice := v } : State).cust = s.cust := rfl
@[simp] theorem State.cust_with_stn (s : State) (v : Stations) : ({ s with stn := v } : State).cust = s.cust := rfl
@[simp] theorem State.cust_with_line (s : State) (v : Line) : ({ s with line := v } : State).cust = s.cust := rfl
@[simp] theorem State.cust_with_tamper (s : State) (v : Tamper) : ({ s with tamper := v } : State).cust = s.cust := rfl
@[simp] theorem State.cust_with_wisp (s : State) (v : Wisp) : ({ s with wisp := v } : State).cust = s.cust := rfl
@[simp] theorem State.cust_with_flash (s : State) (v : Flash) : ({ s with flash := v } : State).cust = s.cust := rfl
@[simp] theorem State.cust_with_boot (s : State) (v : Boot) : ({ s with boot := v } : State).cust = s.cust := rfl
@[simp] theorem State.cust_with_power (s : State) (v : Power) : ({ s with power := v } : State).cust = s.cust := rfl
@[simp] theorem State.cust_with_diag (s : State) (v : Diag) : ({ s with diag := v } : State).cust = s.cust := rfl
@[simp] theorem State.cust_with_now (s : State) (v : Nat) : ({ s with now := v } : State).cust = s.cust := rfl
@[simp] theorem State.cust_with_fresh (s : State) (v : Nat) : ({ s with fresh := v } : State).cust = s.cust := rfl
@[simp] theorem State.cust_with_pending (s : State) (v : List Instr) : ({ s with pending := v } : State).cust = s.cust := rfl
@[simp] theorem State.units_with_regs (s : State) (v : Map Word) : ({ s with regs := v } : State).units = s.units := rfl
@[simp] theorem State.units_with_mem (s : State) (v : Map Word) : ({ s with mem := v } : State).units = s.units := rfl
@[simp] theorem State.units_with_host (s : State) (v : Map Octet) : ({ s with host := v } : State).units = s.units := rfl
@[simp] theorem State.units_with_bus (s : State) (v : Bus) : ({ s with bus := v } : State).units = s.units := rfl
@[simp] theorem State.units_with_evt (s : State) (v : Events) : ({ s with evt := v } : State).units = s.units := rfl
@[simp] theorem State.units_with_linkV (s : State) (v : Link) : ({ s with linkV := v } : State).units = s.units := rfl
@[simp] theorem State.units_with_linkF (s : State) (v : Link) : ({ s with linkF := v } : State).units = s.units := rfl
@[simp] theorem State.units_with_lev (s : State) (v : Levels) : ({ s with lev := v } : State).units = s.units := rfl
@[simp] theorem State.units_with_queues (s : State) (v : Map Queue) : ({ s with queues := v } : State).units = s.units := rfl
@[simp] theorem State.units_with_jobs (s : State) (v : Map (Option Job)) : ({ s with jobs := v } : State).units = s.units := rfl
@[simp] theorem State.units_with_lode (s : State) (v : Lode) : ({ s with lode := v } : State).units = s.units := rfl
@[simp] theorem State.units_with_net (s : State) (v : Net) : ({ s with net := v } : State).units = s.units := rfl
@[simp] theorem State.units_with_clock (s : State) (v : Clock) : ({ s with clock := v } : State).units = s.units := rfl
@[simp] theorem State.units_with_cust (s : State) (v : Custody) : ({ s with cust := v } : State).units = s.units := rfl
@[simp] theorem State.units_with_units (s : State) (v : Units) : ({ s with units := v } : State).units = v := rfl
@[simp] theorem State.units_with_cores (s : State) (v : Map Core) : ({ s with cores := v } : State).units = s.units := rfl
@[simp] theorem State.units_with_gates (s : State) (v : Gates) : ({ s with gates := v } : State).units = s.units := rfl
@[simp] theorem State.units_with_sluice (s : State) (v : Sluice) : ({ s with sluice := v } : State).units = s.units := rfl
@[simp] theorem State.units_with_stn (s : State) (v : Stations) : ({ s with stn := v } : State).units = s.units := rfl
@[simp] theorem State.units_with_line (s : State) (v : Line) : ({ s with line := v } : State).units = s.units := rfl
@[simp] theorem State.units_with_tamper (s : State) (v : Tamper) : ({ s with tamper := v } : State).units = s.units := rfl
@[simp] theorem State.units_with_wisp (s : State) (v : Wisp) : ({ s with wisp := v } : State).units = s.units := rfl
@[simp] theorem State.units_with_flash (s : State) (v : Flash) : ({ s with flash := v } : State).units = s.units := rfl
@[simp] theorem State.units_with_boot (s : State) (v : Boot) : ({ s with boot := v } : State).units = s.units := rfl
@[simp] theorem State.units_with_power (s : State) (v : Power) : ({ s with power := v } : State).units = s.units := rfl
@[simp] theorem State.units_with_diag (s : State) (v : Diag) : ({ s with diag := v } : State).units = s.units := rfl
@[simp] theorem State.units_with_now (s : State) (v : Nat) : ({ s with now := v } : State).units = s.units := rfl
@[simp] theorem State.units_with_fresh (s : State) (v : Nat) : ({ s with fresh := v } : State).units = s.units := rfl
@[simp] theorem State.units_with_pending (s : State) (v : List Instr) : ({ s with pending := v } : State).units = s.units := rfl
@[simp] theorem State.cores_with_regs (s : State) (v : Map Word) : ({ s with regs := v } : State).cores = s.cores := rfl
@[simp] theorem State.cores_with_mem (s : State) (v : Map Word) : ({ s with mem := v } : State).cores = s.cores := rfl
@[simp] theorem State.cores_with_host (s : State) (v : Map Octet) : ({ s with host := v } : State).cores = s.cores := rfl
@[simp] theorem State.cores_with_bus (s : State) (v : Bus) : ({ s with bus := v } : State).cores = s.cores := rfl
@[simp] theorem State.cores_with_evt (s : State) (v : Events) : ({ s with evt := v } : State).cores = s.cores := rfl
@[simp] theorem State.cores_with_linkV (s : State) (v : Link) : ({ s with linkV := v } : State).cores = s.cores := rfl
@[simp] theorem State.cores_with_linkF (s : State) (v : Link) : ({ s with linkF := v } : State).cores = s.cores := rfl
@[simp] theorem State.cores_with_lev (s : State) (v : Levels) : ({ s with lev := v } : State).cores = s.cores := rfl
@[simp] theorem State.cores_with_queues (s : State) (v : Map Queue) : ({ s with queues := v } : State).cores = s.cores := rfl
@[simp] theorem State.cores_with_jobs (s : State) (v : Map (Option Job)) : ({ s with jobs := v } : State).cores = s.cores := rfl
@[simp] theorem State.cores_with_lode (s : State) (v : Lode) : ({ s with lode := v } : State).cores = s.cores := rfl
@[simp] theorem State.cores_with_net (s : State) (v : Net) : ({ s with net := v } : State).cores = s.cores := rfl
@[simp] theorem State.cores_with_clock (s : State) (v : Clock) : ({ s with clock := v } : State).cores = s.cores := rfl
@[simp] theorem State.cores_with_cust (s : State) (v : Custody) : ({ s with cust := v } : State).cores = s.cores := rfl
@[simp] theorem State.cores_with_units (s : State) (v : Units) : ({ s with units := v } : State).cores = s.cores := rfl
@[simp] theorem State.cores_with_cores (s : State) (v : Map Core) : ({ s with cores := v } : State).cores = v := rfl
@[simp] theorem State.cores_with_gates (s : State) (v : Gates) : ({ s with gates := v } : State).cores = s.cores := rfl
@[simp] theorem State.cores_with_sluice (s : State) (v : Sluice) : ({ s with sluice := v } : State).cores = s.cores := rfl
@[simp] theorem State.cores_with_stn (s : State) (v : Stations) : ({ s with stn := v } : State).cores = s.cores := rfl
@[simp] theorem State.cores_with_line (s : State) (v : Line) : ({ s with line := v } : State).cores = s.cores := rfl
@[simp] theorem State.cores_with_tamper (s : State) (v : Tamper) : ({ s with tamper := v } : State).cores = s.cores := rfl
@[simp] theorem State.cores_with_wisp (s : State) (v : Wisp) : ({ s with wisp := v } : State).cores = s.cores := rfl
@[simp] theorem State.cores_with_flash (s : State) (v : Flash) : ({ s with flash := v } : State).cores = s.cores := rfl
@[simp] theorem State.cores_with_boot (s : State) (v : Boot) : ({ s with boot := v } : State).cores = s.cores := rfl
@[simp] theorem State.cores_with_power (s : State) (v : Power) : ({ s with power := v } : State).cores = s.cores := rfl
@[simp] theorem State.cores_with_diag (s : State) (v : Diag) : ({ s with diag := v } : State).cores = s.cores := rfl
@[simp] theorem State.cores_with_now (s : State) (v : Nat) : ({ s with now := v } : State).cores = s.cores := rfl
@[simp] theorem State.cores_with_fresh (s : State) (v : Nat) : ({ s with fresh := v } : State).cores = s.cores := rfl
@[simp] theorem State.cores_with_pending (s : State) (v : List Instr) : ({ s with pending := v } : State).cores = s.cores := rfl
@[simp] theorem State.gates_with_regs (s : State) (v : Map Word) : ({ s with regs := v } : State).gates = s.gates := rfl
@[simp] theorem State.gates_with_mem (s : State) (v : Map Word) : ({ s with mem := v } : State).gates = s.gates := rfl
@[simp] theorem State.gates_with_host (s : State) (v : Map Octet) : ({ s with host := v } : State).gates = s.gates := rfl
@[simp] theorem State.gates_with_bus (s : State) (v : Bus) : ({ s with bus := v } : State).gates = s.gates := rfl
@[simp] theorem State.gates_with_evt (s : State) (v : Events) : ({ s with evt := v } : State).gates = s.gates := rfl
@[simp] theorem State.gates_with_linkV (s : State) (v : Link) : ({ s with linkV := v } : State).gates = s.gates := rfl
@[simp] theorem State.gates_with_linkF (s : State) (v : Link) : ({ s with linkF := v } : State).gates = s.gates := rfl
@[simp] theorem State.gates_with_lev (s : State) (v : Levels) : ({ s with lev := v } : State).gates = s.gates := rfl
@[simp] theorem State.gates_with_queues (s : State) (v : Map Queue) : ({ s with queues := v } : State).gates = s.gates := rfl
@[simp] theorem State.gates_with_jobs (s : State) (v : Map (Option Job)) : ({ s with jobs := v } : State).gates = s.gates := rfl
@[simp] theorem State.gates_with_lode (s : State) (v : Lode) : ({ s with lode := v } : State).gates = s.gates := rfl
@[simp] theorem State.gates_with_net (s : State) (v : Net) : ({ s with net := v } : State).gates = s.gates := rfl
@[simp] theorem State.gates_with_clock (s : State) (v : Clock) : ({ s with clock := v } : State).gates = s.gates := rfl
@[simp] theorem State.gates_with_cust (s : State) (v : Custody) : ({ s with cust := v } : State).gates = s.gates := rfl
@[simp] theorem State.gates_with_units (s : State) (v : Units) : ({ s with units := v } : State).gates = s.gates := rfl
@[simp] theorem State.gates_with_cores (s : State) (v : Map Core) : ({ s with cores := v } : State).gates = s.gates := rfl
@[simp] theorem State.gates_with_gates (s : State) (v : Gates) : ({ s with gates := v } : State).gates = v := rfl
@[simp] theorem State.gates_with_sluice (s : State) (v : Sluice) : ({ s with sluice := v } : State).gates = s.gates := rfl
@[simp] theorem State.gates_with_stn (s : State) (v : Stations) : ({ s with stn := v } : State).gates = s.gates := rfl
@[simp] theorem State.gates_with_line (s : State) (v : Line) : ({ s with line := v } : State).gates = s.gates := rfl
@[simp] theorem State.gates_with_tamper (s : State) (v : Tamper) : ({ s with tamper := v } : State).gates = s.gates := rfl
@[simp] theorem State.gates_with_wisp (s : State) (v : Wisp) : ({ s with wisp := v } : State).gates = s.gates := rfl
@[simp] theorem State.gates_with_flash (s : State) (v : Flash) : ({ s with flash := v } : State).gates = s.gates := rfl
@[simp] theorem State.gates_with_boot (s : State) (v : Boot) : ({ s with boot := v } : State).gates = s.gates := rfl
@[simp] theorem State.gates_with_power (s : State) (v : Power) : ({ s with power := v } : State).gates = s.gates := rfl
@[simp] theorem State.gates_with_diag (s : State) (v : Diag) : ({ s with diag := v } : State).gates = s.gates := rfl
@[simp] theorem State.gates_with_now (s : State) (v : Nat) : ({ s with now := v } : State).gates = s.gates := rfl
@[simp] theorem State.gates_with_fresh (s : State) (v : Nat) : ({ s with fresh := v } : State).gates = s.gates := rfl
@[simp] theorem State.gates_with_pending (s : State) (v : List Instr) : ({ s with pending := v } : State).gates = s.gates := rfl
@[simp] theorem State.sluice_with_regs (s : State) (v : Map Word) : ({ s with regs := v } : State).sluice = s.sluice := rfl
@[simp] theorem State.sluice_with_mem (s : State) (v : Map Word) : ({ s with mem := v } : State).sluice = s.sluice := rfl
@[simp] theorem State.sluice_with_host (s : State) (v : Map Octet) : ({ s with host := v } : State).sluice = s.sluice := rfl
@[simp] theorem State.sluice_with_bus (s : State) (v : Bus) : ({ s with bus := v } : State).sluice = s.sluice := rfl
@[simp] theorem State.sluice_with_evt (s : State) (v : Events) : ({ s with evt := v } : State).sluice = s.sluice := rfl
@[simp] theorem State.sluice_with_linkV (s : State) (v : Link) : ({ s with linkV := v } : State).sluice = s.sluice := rfl
@[simp] theorem State.sluice_with_linkF (s : State) (v : Link) : ({ s with linkF := v } : State).sluice = s.sluice := rfl
@[simp] theorem State.sluice_with_lev (s : State) (v : Levels) : ({ s with lev := v } : State).sluice = s.sluice := rfl
@[simp] theorem State.sluice_with_queues (s : State) (v : Map Queue) : ({ s with queues := v } : State).sluice = s.sluice := rfl
@[simp] theorem State.sluice_with_jobs (s : State) (v : Map (Option Job)) : ({ s with jobs := v } : State).sluice = s.sluice := rfl
@[simp] theorem State.sluice_with_lode (s : State) (v : Lode) : ({ s with lode := v } : State).sluice = s.sluice := rfl
@[simp] theorem State.sluice_with_net (s : State) (v : Net) : ({ s with net := v } : State).sluice = s.sluice := rfl
@[simp] theorem State.sluice_with_clock (s : State) (v : Clock) : ({ s with clock := v } : State).sluice = s.sluice := rfl
@[simp] theorem State.sluice_with_cust (s : State) (v : Custody) : ({ s with cust := v } : State).sluice = s.sluice := rfl
@[simp] theorem State.sluice_with_units (s : State) (v : Units) : ({ s with units := v } : State).sluice = s.sluice := rfl
@[simp] theorem State.sluice_with_cores (s : State) (v : Map Core) : ({ s with cores := v } : State).sluice = s.sluice := rfl
@[simp] theorem State.sluice_with_gates (s : State) (v : Gates) : ({ s with gates := v } : State).sluice = s.sluice := rfl
@[simp] theorem State.sluice_with_sluice (s : State) (v : Sluice) : ({ s with sluice := v } : State).sluice = v := rfl
@[simp] theorem State.sluice_with_stn (s : State) (v : Stations) : ({ s with stn := v } : State).sluice = s.sluice := rfl
@[simp] theorem State.sluice_with_line (s : State) (v : Line) : ({ s with line := v } : State).sluice = s.sluice := rfl
@[simp] theorem State.sluice_with_tamper (s : State) (v : Tamper) : ({ s with tamper := v } : State).sluice = s.sluice := rfl
@[simp] theorem State.sluice_with_wisp (s : State) (v : Wisp) : ({ s with wisp := v } : State).sluice = s.sluice := rfl
@[simp] theorem State.sluice_with_flash (s : State) (v : Flash) : ({ s with flash := v } : State).sluice = s.sluice := rfl
@[simp] theorem State.sluice_with_boot (s : State) (v : Boot) : ({ s with boot := v } : State).sluice = s.sluice := rfl
@[simp] theorem State.sluice_with_power (s : State) (v : Power) : ({ s with power := v } : State).sluice = s.sluice := rfl
@[simp] theorem State.sluice_with_diag (s : State) (v : Diag) : ({ s with diag := v } : State).sluice = s.sluice := rfl
@[simp] theorem State.sluice_with_now (s : State) (v : Nat) : ({ s with now := v } : State).sluice = s.sluice := rfl
@[simp] theorem State.sluice_with_fresh (s : State) (v : Nat) : ({ s with fresh := v } : State).sluice = s.sluice := rfl
@[simp] theorem State.sluice_with_pending (s : State) (v : List Instr) : ({ s with pending := v } : State).sluice = s.sluice := rfl
@[simp] theorem State.stn_with_regs (s : State) (v : Map Word) : ({ s with regs := v } : State).stn = s.stn := rfl
@[simp] theorem State.stn_with_mem (s : State) (v : Map Word) : ({ s with mem := v } : State).stn = s.stn := rfl
@[simp] theorem State.stn_with_host (s : State) (v : Map Octet) : ({ s with host := v } : State).stn = s.stn := rfl
@[simp] theorem State.stn_with_bus (s : State) (v : Bus) : ({ s with bus := v } : State).stn = s.stn := rfl
@[simp] theorem State.stn_with_evt (s : State) (v : Events) : ({ s with evt := v } : State).stn = s.stn := rfl
@[simp] theorem State.stn_with_linkV (s : State) (v : Link) : ({ s with linkV := v } : State).stn = s.stn := rfl
@[simp] theorem State.stn_with_linkF (s : State) (v : Link) : ({ s with linkF := v } : State).stn = s.stn := rfl
@[simp] theorem State.stn_with_lev (s : State) (v : Levels) : ({ s with lev := v } : State).stn = s.stn := rfl
@[simp] theorem State.stn_with_queues (s : State) (v : Map Queue) : ({ s with queues := v } : State).stn = s.stn := rfl
@[simp] theorem State.stn_with_jobs (s : State) (v : Map (Option Job)) : ({ s with jobs := v } : State).stn = s.stn := rfl
@[simp] theorem State.stn_with_lode (s : State) (v : Lode) : ({ s with lode := v } : State).stn = s.stn := rfl
@[simp] theorem State.stn_with_net (s : State) (v : Net) : ({ s with net := v } : State).stn = s.stn := rfl
@[simp] theorem State.stn_with_clock (s : State) (v : Clock) : ({ s with clock := v } : State).stn = s.stn := rfl
@[simp] theorem State.stn_with_cust (s : State) (v : Custody) : ({ s with cust := v } : State).stn = s.stn := rfl
@[simp] theorem State.stn_with_units (s : State) (v : Units) : ({ s with units := v } : State).stn = s.stn := rfl
@[simp] theorem State.stn_with_cores (s : State) (v : Map Core) : ({ s with cores := v } : State).stn = s.stn := rfl
@[simp] theorem State.stn_with_gates (s : State) (v : Gates) : ({ s with gates := v } : State).stn = s.stn := rfl
@[simp] theorem State.stn_with_sluice (s : State) (v : Sluice) : ({ s with sluice := v } : State).stn = s.stn := rfl
@[simp] theorem State.stn_with_stn (s : State) (v : Stations) : ({ s with stn := v } : State).stn = v := rfl
@[simp] theorem State.stn_with_line (s : State) (v : Line) : ({ s with line := v } : State).stn = s.stn := rfl
@[simp] theorem State.stn_with_tamper (s : State) (v : Tamper) : ({ s with tamper := v } : State).stn = s.stn := rfl
@[simp] theorem State.stn_with_wisp (s : State) (v : Wisp) : ({ s with wisp := v } : State).stn = s.stn := rfl
@[simp] theorem State.stn_with_flash (s : State) (v : Flash) : ({ s with flash := v } : State).stn = s.stn := rfl
@[simp] theorem State.stn_with_boot (s : State) (v : Boot) : ({ s with boot := v } : State).stn = s.stn := rfl
@[simp] theorem State.stn_with_power (s : State) (v : Power) : ({ s with power := v } : State).stn = s.stn := rfl
@[simp] theorem State.stn_with_diag (s : State) (v : Diag) : ({ s with diag := v } : State).stn = s.stn := rfl
@[simp] theorem State.stn_with_now (s : State) (v : Nat) : ({ s with now := v } : State).stn = s.stn := rfl
@[simp] theorem State.stn_with_fresh (s : State) (v : Nat) : ({ s with fresh := v } : State).stn = s.stn := rfl
@[simp] theorem State.stn_with_pending (s : State) (v : List Instr) : ({ s with pending := v } : State).stn = s.stn := rfl
@[simp] theorem State.line_with_regs (s : State) (v : Map Word) : ({ s with regs := v } : State).line = s.line := rfl
@[simp] theorem State.line_with_mem (s : State) (v : Map Word) : ({ s with mem := v } : State).line = s.line := rfl
@[simp] theorem State.line_with_host (s : State) (v : Map Octet) : ({ s with host := v } : State).line = s.line := rfl
@[simp] theorem State.line_with_bus (s : State) (v : Bus) : ({ s with bus := v } : State).line = s.line := rfl
@[simp] theorem State.line_with_evt (s : State) (v : Events) : ({ s with evt := v } : State).line = s.line := rfl
@[simp] theorem State.line_with_linkV (s : State) (v : Link) : ({ s with linkV := v } : State).line = s.line := rfl
@[simp] theorem State.line_with_linkF (s : State) (v : Link) : ({ s with linkF := v } : State).line = s.line := rfl
@[simp] theorem State.line_with_lev (s : State) (v : Levels) : ({ s with lev := v } : State).line = s.line := rfl
@[simp] theorem State.line_with_queues (s : State) (v : Map Queue) : ({ s with queues := v } : State).line = s.line := rfl
@[simp] theorem State.line_with_jobs (s : State) (v : Map (Option Job)) : ({ s with jobs := v } : State).line = s.line := rfl
@[simp] theorem State.line_with_lode (s : State) (v : Lode) : ({ s with lode := v } : State).line = s.line := rfl
@[simp] theorem State.line_with_net (s : State) (v : Net) : ({ s with net := v } : State).line = s.line := rfl
@[simp] theorem State.line_with_clock (s : State) (v : Clock) : ({ s with clock := v } : State).line = s.line := rfl
@[simp] theorem State.line_with_cust (s : State) (v : Custody) : ({ s with cust := v } : State).line = s.line := rfl
@[simp] theorem State.line_with_units (s : State) (v : Units) : ({ s with units := v } : State).line = s.line := rfl
@[simp] theorem State.line_with_cores (s : State) (v : Map Core) : ({ s with cores := v } : State).line = s.line := rfl
@[simp] theorem State.line_with_gates (s : State) (v : Gates) : ({ s with gates := v } : State).line = s.line := rfl
@[simp] theorem State.line_with_sluice (s : State) (v : Sluice) : ({ s with sluice := v } : State).line = s.line := rfl
@[simp] theorem State.line_with_stn (s : State) (v : Stations) : ({ s with stn := v } : State).line = s.line := rfl
@[simp] theorem State.line_with_line (s : State) (v : Line) : ({ s with line := v } : State).line = v := rfl
@[simp] theorem State.line_with_tamper (s : State) (v : Tamper) : ({ s with tamper := v } : State).line = s.line := rfl
@[simp] theorem State.line_with_wisp (s : State) (v : Wisp) : ({ s with wisp := v } : State).line = s.line := rfl
@[simp] theorem State.line_with_flash (s : State) (v : Flash) : ({ s with flash := v } : State).line = s.line := rfl
@[simp] theorem State.line_with_boot (s : State) (v : Boot) : ({ s with boot := v } : State).line = s.line := rfl
@[simp] theorem State.line_with_power (s : State) (v : Power) : ({ s with power := v } : State).line = s.line := rfl
@[simp] theorem State.line_with_diag (s : State) (v : Diag) : ({ s with diag := v } : State).line = s.line := rfl
@[simp] theorem State.line_with_now (s : State) (v : Nat) : ({ s with now := v } : State).line = s.line := rfl
@[simp] theorem State.line_with_fresh (s : State) (v : Nat) : ({ s with fresh := v } : State).line = s.line := rfl
@[simp] theorem State.line_with_pending (s : State) (v : List Instr) : ({ s with pending := v } : State).line = s.line := rfl
@[simp] theorem State.tamper_with_regs (s : State) (v : Map Word) : ({ s with regs := v } : State).tamper = s.tamper := rfl
@[simp] theorem State.tamper_with_mem (s : State) (v : Map Word) : ({ s with mem := v } : State).tamper = s.tamper := rfl
@[simp] theorem State.tamper_with_host (s : State) (v : Map Octet) : ({ s with host := v } : State).tamper = s.tamper := rfl
@[simp] theorem State.tamper_with_bus (s : State) (v : Bus) : ({ s with bus := v } : State).tamper = s.tamper := rfl
@[simp] theorem State.tamper_with_evt (s : State) (v : Events) : ({ s with evt := v } : State).tamper = s.tamper := rfl
@[simp] theorem State.tamper_with_linkV (s : State) (v : Link) : ({ s with linkV := v } : State).tamper = s.tamper := rfl
@[simp] theorem State.tamper_with_linkF (s : State) (v : Link) : ({ s with linkF := v } : State).tamper = s.tamper := rfl
@[simp] theorem State.tamper_with_lev (s : State) (v : Levels) : ({ s with lev := v } : State).tamper = s.tamper := rfl
@[simp] theorem State.tamper_with_queues (s : State) (v : Map Queue) : ({ s with queues := v } : State).tamper = s.tamper := rfl
@[simp] theorem State.tamper_with_jobs (s : State) (v : Map (Option Job)) : ({ s with jobs := v } : State).tamper = s.tamper := rfl
@[simp] theorem State.tamper_with_lode (s : State) (v : Lode) : ({ s with lode := v } : State).tamper = s.tamper := rfl
@[simp] theorem State.tamper_with_net (s : State) (v : Net) : ({ s with net := v } : State).tamper = s.tamper := rfl
@[simp] theorem State.tamper_with_clock (s : State) (v : Clock) : ({ s with clock := v } : State).tamper = s.tamper := rfl
@[simp] theorem State.tamper_with_cust (s : State) (v : Custody) : ({ s with cust := v } : State).tamper = s.tamper := rfl
@[simp] theorem State.tamper_with_units (s : State) (v : Units) : ({ s with units := v } : State).tamper = s.tamper := rfl
@[simp] theorem State.tamper_with_cores (s : State) (v : Map Core) : ({ s with cores := v } : State).tamper = s.tamper := rfl
@[simp] theorem State.tamper_with_gates (s : State) (v : Gates) : ({ s with gates := v } : State).tamper = s.tamper := rfl
@[simp] theorem State.tamper_with_sluice (s : State) (v : Sluice) : ({ s with sluice := v } : State).tamper = s.tamper := rfl
@[simp] theorem State.tamper_with_stn (s : State) (v : Stations) : ({ s with stn := v } : State).tamper = s.tamper := rfl
@[simp] theorem State.tamper_with_line (s : State) (v : Line) : ({ s with line := v } : State).tamper = s.tamper := rfl
@[simp] theorem State.tamper_with_tamper (s : State) (v : Tamper) : ({ s with tamper := v } : State).tamper = v := rfl
@[simp] theorem State.tamper_with_wisp (s : State) (v : Wisp) : ({ s with wisp := v } : State).tamper = s.tamper := rfl
@[simp] theorem State.tamper_with_flash (s : State) (v : Flash) : ({ s with flash := v } : State).tamper = s.tamper := rfl
@[simp] theorem State.tamper_with_boot (s : State) (v : Boot) : ({ s with boot := v } : State).tamper = s.tamper := rfl
@[simp] theorem State.tamper_with_power (s : State) (v : Power) : ({ s with power := v } : State).tamper = s.tamper := rfl
@[simp] theorem State.tamper_with_diag (s : State) (v : Diag) : ({ s with diag := v } : State).tamper = s.tamper := rfl
@[simp] theorem State.tamper_with_now (s : State) (v : Nat) : ({ s with now := v } : State).tamper = s.tamper := rfl
@[simp] theorem State.tamper_with_fresh (s : State) (v : Nat) : ({ s with fresh := v } : State).tamper = s.tamper := rfl
@[simp] theorem State.tamper_with_pending (s : State) (v : List Instr) : ({ s with pending := v } : State).tamper = s.tamper := rfl
@[simp] theorem State.wisp_with_regs (s : State) (v : Map Word) : ({ s with regs := v } : State).wisp = s.wisp := rfl
@[simp] theorem State.wisp_with_mem (s : State) (v : Map Word) : ({ s with mem := v } : State).wisp = s.wisp := rfl
@[simp] theorem State.wisp_with_host (s : State) (v : Map Octet) : ({ s with host := v } : State).wisp = s.wisp := rfl
@[simp] theorem State.wisp_with_bus (s : State) (v : Bus) : ({ s with bus := v } : State).wisp = s.wisp := rfl
@[simp] theorem State.wisp_with_evt (s : State) (v : Events) : ({ s with evt := v } : State).wisp = s.wisp := rfl
@[simp] theorem State.wisp_with_linkV (s : State) (v : Link) : ({ s with linkV := v } : State).wisp = s.wisp := rfl
@[simp] theorem State.wisp_with_linkF (s : State) (v : Link) : ({ s with linkF := v } : State).wisp = s.wisp := rfl
@[simp] theorem State.wisp_with_lev (s : State) (v : Levels) : ({ s with lev := v } : State).wisp = s.wisp := rfl
@[simp] theorem State.wisp_with_queues (s : State) (v : Map Queue) : ({ s with queues := v } : State).wisp = s.wisp := rfl
@[simp] theorem State.wisp_with_jobs (s : State) (v : Map (Option Job)) : ({ s with jobs := v } : State).wisp = s.wisp := rfl
@[simp] theorem State.wisp_with_lode (s : State) (v : Lode) : ({ s with lode := v } : State).wisp = s.wisp := rfl
@[simp] theorem State.wisp_with_net (s : State) (v : Net) : ({ s with net := v } : State).wisp = s.wisp := rfl
@[simp] theorem State.wisp_with_clock (s : State) (v : Clock) : ({ s with clock := v } : State).wisp = s.wisp := rfl
@[simp] theorem State.wisp_with_cust (s : State) (v : Custody) : ({ s with cust := v } : State).wisp = s.wisp := rfl
@[simp] theorem State.wisp_with_units (s : State) (v : Units) : ({ s with units := v } : State).wisp = s.wisp := rfl
@[simp] theorem State.wisp_with_cores (s : State) (v : Map Core) : ({ s with cores := v } : State).wisp = s.wisp := rfl
@[simp] theorem State.wisp_with_gates (s : State) (v : Gates) : ({ s with gates := v } : State).wisp = s.wisp := rfl
@[simp] theorem State.wisp_with_sluice (s : State) (v : Sluice) : ({ s with sluice := v } : State).wisp = s.wisp := rfl
@[simp] theorem State.wisp_with_stn (s : State) (v : Stations) : ({ s with stn := v } : State).wisp = s.wisp := rfl
@[simp] theorem State.wisp_with_line (s : State) (v : Line) : ({ s with line := v } : State).wisp = s.wisp := rfl
@[simp] theorem State.wisp_with_tamper (s : State) (v : Tamper) : ({ s with tamper := v } : State).wisp = s.wisp := rfl
@[simp] theorem State.wisp_with_wisp (s : State) (v : Wisp) : ({ s with wisp := v } : State).wisp = v := rfl
@[simp] theorem State.wisp_with_flash (s : State) (v : Flash) : ({ s with flash := v } : State).wisp = s.wisp := rfl
@[simp] theorem State.wisp_with_boot (s : State) (v : Boot) : ({ s with boot := v } : State).wisp = s.wisp := rfl
@[simp] theorem State.wisp_with_power (s : State) (v : Power) : ({ s with power := v } : State).wisp = s.wisp := rfl
@[simp] theorem State.wisp_with_diag (s : State) (v : Diag) : ({ s with diag := v } : State).wisp = s.wisp := rfl
@[simp] theorem State.wisp_with_now (s : State) (v : Nat) : ({ s with now := v } : State).wisp = s.wisp := rfl
@[simp] theorem State.wisp_with_fresh (s : State) (v : Nat) : ({ s with fresh := v } : State).wisp = s.wisp := rfl
@[simp] theorem State.wisp_with_pending (s : State) (v : List Instr) : ({ s with pending := v } : State).wisp = s.wisp := rfl
@[simp] theorem State.flash_with_regs (s : State) (v : Map Word) : ({ s with regs := v } : State).flash = s.flash := rfl
@[simp] theorem State.flash_with_mem (s : State) (v : Map Word) : ({ s with mem := v } : State).flash = s.flash := rfl
@[simp] theorem State.flash_with_host (s : State) (v : Map Octet) : ({ s with host := v } : State).flash = s.flash := rfl
@[simp] theorem State.flash_with_bus (s : State) (v : Bus) : ({ s with bus := v } : State).flash = s.flash := rfl
@[simp] theorem State.flash_with_evt (s : State) (v : Events) : ({ s with evt := v } : State).flash = s.flash := rfl
@[simp] theorem State.flash_with_linkV (s : State) (v : Link) : ({ s with linkV := v } : State).flash = s.flash := rfl
@[simp] theorem State.flash_with_linkF (s : State) (v : Link) : ({ s with linkF := v } : State).flash = s.flash := rfl
@[simp] theorem State.flash_with_lev (s : State) (v : Levels) : ({ s with lev := v } : State).flash = s.flash := rfl
@[simp] theorem State.flash_with_queues (s : State) (v : Map Queue) : ({ s with queues := v } : State).flash = s.flash := rfl
@[simp] theorem State.flash_with_jobs (s : State) (v : Map (Option Job)) : ({ s with jobs := v } : State).flash = s.flash := rfl
@[simp] theorem State.flash_with_lode (s : State) (v : Lode) : ({ s with lode := v } : State).flash = s.flash := rfl
@[simp] theorem State.flash_with_net (s : State) (v : Net) : ({ s with net := v } : State).flash = s.flash := rfl
@[simp] theorem State.flash_with_clock (s : State) (v : Clock) : ({ s with clock := v } : State).flash = s.flash := rfl
@[simp] theorem State.flash_with_cust (s : State) (v : Custody) : ({ s with cust := v } : State).flash = s.flash := rfl
@[simp] theorem State.flash_with_units (s : State) (v : Units) : ({ s with units := v } : State).flash = s.flash := rfl
@[simp] theorem State.flash_with_cores (s : State) (v : Map Core) : ({ s with cores := v } : State).flash = s.flash := rfl
@[simp] theorem State.flash_with_gates (s : State) (v : Gates) : ({ s with gates := v } : State).flash = s.flash := rfl
@[simp] theorem State.flash_with_sluice (s : State) (v : Sluice) : ({ s with sluice := v } : State).flash = s.flash := rfl
@[simp] theorem State.flash_with_stn (s : State) (v : Stations) : ({ s with stn := v } : State).flash = s.flash := rfl
@[simp] theorem State.flash_with_line (s : State) (v : Line) : ({ s with line := v } : State).flash = s.flash := rfl
@[simp] theorem State.flash_with_tamper (s : State) (v : Tamper) : ({ s with tamper := v } : State).flash = s.flash := rfl
@[simp] theorem State.flash_with_wisp (s : State) (v : Wisp) : ({ s with wisp := v } : State).flash = s.flash := rfl
@[simp] theorem State.flash_with_flash (s : State) (v : Flash) : ({ s with flash := v } : State).flash = v := rfl
@[simp] theorem State.flash_with_boot (s : State) (v : Boot) : ({ s with boot := v } : State).flash = s.flash := rfl
@[simp] theorem State.flash_with_power (s : State) (v : Power) : ({ s with power := v } : State).flash = s.flash := rfl
@[simp] theorem State.flash_with_diag (s : State) (v : Diag) : ({ s with diag := v } : State).flash = s.flash := rfl
@[simp] theorem State.flash_with_now (s : State) (v : Nat) : ({ s with now := v } : State).flash = s.flash := rfl
@[simp] theorem State.flash_with_fresh (s : State) (v : Nat) : ({ s with fresh := v } : State).flash = s.flash := rfl
@[simp] theorem State.flash_with_pending (s : State) (v : List Instr) : ({ s with pending := v } : State).flash = s.flash := rfl
@[simp] theorem State.boot_with_regs (s : State) (v : Map Word) : ({ s with regs := v } : State).boot = s.boot := rfl
@[simp] theorem State.boot_with_mem (s : State) (v : Map Word) : ({ s with mem := v } : State).boot = s.boot := rfl
@[simp] theorem State.boot_with_host (s : State) (v : Map Octet) : ({ s with host := v } : State).boot = s.boot := rfl
@[simp] theorem State.boot_with_bus (s : State) (v : Bus) : ({ s with bus := v } : State).boot = s.boot := rfl
@[simp] theorem State.boot_with_evt (s : State) (v : Events) : ({ s with evt := v } : State).boot = s.boot := rfl
@[simp] theorem State.boot_with_linkV (s : State) (v : Link) : ({ s with linkV := v } : State).boot = s.boot := rfl
@[simp] theorem State.boot_with_linkF (s : State) (v : Link) : ({ s with linkF := v } : State).boot = s.boot := rfl
@[simp] theorem State.boot_with_lev (s : State) (v : Levels) : ({ s with lev := v } : State).boot = s.boot := rfl
@[simp] theorem State.boot_with_queues (s : State) (v : Map Queue) : ({ s with queues := v } : State).boot = s.boot := rfl
@[simp] theorem State.boot_with_jobs (s : State) (v : Map (Option Job)) : ({ s with jobs := v } : State).boot = s.boot := rfl
@[simp] theorem State.boot_with_lode (s : State) (v : Lode) : ({ s with lode := v } : State).boot = s.boot := rfl
@[simp] theorem State.boot_with_net (s : State) (v : Net) : ({ s with net := v } : State).boot = s.boot := rfl
@[simp] theorem State.boot_with_clock (s : State) (v : Clock) : ({ s with clock := v } : State).boot = s.boot := rfl
@[simp] theorem State.boot_with_cust (s : State) (v : Custody) : ({ s with cust := v } : State).boot = s.boot := rfl
@[simp] theorem State.boot_with_units (s : State) (v : Units) : ({ s with units := v } : State).boot = s.boot := rfl
@[simp] theorem State.boot_with_cores (s : State) (v : Map Core) : ({ s with cores := v } : State).boot = s.boot := rfl
@[simp] theorem State.boot_with_gates (s : State) (v : Gates) : ({ s with gates := v } : State).boot = s.boot := rfl
@[simp] theorem State.boot_with_sluice (s : State) (v : Sluice) : ({ s with sluice := v } : State).boot = s.boot := rfl
@[simp] theorem State.boot_with_stn (s : State) (v : Stations) : ({ s with stn := v } : State).boot = s.boot := rfl
@[simp] theorem State.boot_with_line (s : State) (v : Line) : ({ s with line := v } : State).boot = s.boot := rfl
@[simp] theorem State.boot_with_tamper (s : State) (v : Tamper) : ({ s with tamper := v } : State).boot = s.boot := rfl
@[simp] theorem State.boot_with_wisp (s : State) (v : Wisp) : ({ s with wisp := v } : State).boot = s.boot := rfl
@[simp] theorem State.boot_with_flash (s : State) (v : Flash) : ({ s with flash := v } : State).boot = s.boot := rfl
@[simp] theorem State.boot_with_boot (s : State) (v : Boot) : ({ s with boot := v } : State).boot = v := rfl
@[simp] theorem State.boot_with_power (s : State) (v : Power) : ({ s with power := v } : State).boot = s.boot := rfl
@[simp] theorem State.boot_with_diag (s : State) (v : Diag) : ({ s with diag := v } : State).boot = s.boot := rfl
@[simp] theorem State.boot_with_now (s : State) (v : Nat) : ({ s with now := v } : State).boot = s.boot := rfl
@[simp] theorem State.boot_with_fresh (s : State) (v : Nat) : ({ s with fresh := v } : State).boot = s.boot := rfl
@[simp] theorem State.boot_with_pending (s : State) (v : List Instr) : ({ s with pending := v } : State).boot = s.boot := rfl
@[simp] theorem State.power_with_regs (s : State) (v : Map Word) : ({ s with regs := v } : State).power = s.power := rfl
@[simp] theorem State.power_with_mem (s : State) (v : Map Word) : ({ s with mem := v } : State).power = s.power := rfl
@[simp] theorem State.power_with_host (s : State) (v : Map Octet) : ({ s with host := v } : State).power = s.power := rfl
@[simp] theorem State.power_with_bus (s : State) (v : Bus) : ({ s with bus := v } : State).power = s.power := rfl
@[simp] theorem State.power_with_evt (s : State) (v : Events) : ({ s with evt := v } : State).power = s.power := rfl
@[simp] theorem State.power_with_linkV (s : State) (v : Link) : ({ s with linkV := v } : State).power = s.power := rfl
@[simp] theorem State.power_with_linkF (s : State) (v : Link) : ({ s with linkF := v } : State).power = s.power := rfl
@[simp] theorem State.power_with_lev (s : State) (v : Levels) : ({ s with lev := v } : State).power = s.power := rfl
@[simp] theorem State.power_with_queues (s : State) (v : Map Queue) : ({ s with queues := v } : State).power = s.power := rfl
@[simp] theorem State.power_with_jobs (s : State) (v : Map (Option Job)) : ({ s with jobs := v } : State).power = s.power := rfl
@[simp] theorem State.power_with_lode (s : State) (v : Lode) : ({ s with lode := v } : State).power = s.power := rfl
@[simp] theorem State.power_with_net (s : State) (v : Net) : ({ s with net := v } : State).power = s.power := rfl
@[simp] theorem State.power_with_clock (s : State) (v : Clock) : ({ s with clock := v } : State).power = s.power := rfl
@[simp] theorem State.power_with_cust (s : State) (v : Custody) : ({ s with cust := v } : State).power = s.power := rfl
@[simp] theorem State.power_with_units (s : State) (v : Units) : ({ s with units := v } : State).power = s.power := rfl
@[simp] theorem State.power_with_cores (s : State) (v : Map Core) : ({ s with cores := v } : State).power = s.power := rfl
@[simp] theorem State.power_with_gates (s : State) (v : Gates) : ({ s with gates := v } : State).power = s.power := rfl
@[simp] theorem State.power_with_sluice (s : State) (v : Sluice) : ({ s with sluice := v } : State).power = s.power := rfl
@[simp] theorem State.power_with_stn (s : State) (v : Stations) : ({ s with stn := v } : State).power = s.power := rfl
@[simp] theorem State.power_with_line (s : State) (v : Line) : ({ s with line := v } : State).power = s.power := rfl
@[simp] theorem State.power_with_tamper (s : State) (v : Tamper) : ({ s with tamper := v } : State).power = s.power := rfl
@[simp] theorem State.power_with_wisp (s : State) (v : Wisp) : ({ s with wisp := v } : State).power = s.power := rfl
@[simp] theorem State.power_with_flash (s : State) (v : Flash) : ({ s with flash := v } : State).power = s.power := rfl
@[simp] theorem State.power_with_boot (s : State) (v : Boot) : ({ s with boot := v } : State).power = s.power := rfl
@[simp] theorem State.power_with_power (s : State) (v : Power) : ({ s with power := v } : State).power = v := rfl
@[simp] theorem State.power_with_diag (s : State) (v : Diag) : ({ s with diag := v } : State).power = s.power := rfl
@[simp] theorem State.power_with_now (s : State) (v : Nat) : ({ s with now := v } : State).power = s.power := rfl
@[simp] theorem State.power_with_fresh (s : State) (v : Nat) : ({ s with fresh := v } : State).power = s.power := rfl
@[simp] theorem State.power_with_pending (s : State) (v : List Instr) : ({ s with pending := v } : State).power = s.power := rfl
@[simp] theorem State.diag_with_regs (s : State) (v : Map Word) : ({ s with regs := v } : State).diag = s.diag := rfl
@[simp] theorem State.diag_with_mem (s : State) (v : Map Word) : ({ s with mem := v } : State).diag = s.diag := rfl
@[simp] theorem State.diag_with_host (s : State) (v : Map Octet) : ({ s with host := v } : State).diag = s.diag := rfl
@[simp] theorem State.diag_with_bus (s : State) (v : Bus) : ({ s with bus := v } : State).diag = s.diag := rfl
@[simp] theorem State.diag_with_evt (s : State) (v : Events) : ({ s with evt := v } : State).diag = s.diag := rfl
@[simp] theorem State.diag_with_linkV (s : State) (v : Link) : ({ s with linkV := v } : State).diag = s.diag := rfl
@[simp] theorem State.diag_with_linkF (s : State) (v : Link) : ({ s with linkF := v } : State).diag = s.diag := rfl
@[simp] theorem State.diag_with_lev (s : State) (v : Levels) : ({ s with lev := v } : State).diag = s.diag := rfl
@[simp] theorem State.diag_with_queues (s : State) (v : Map Queue) : ({ s with queues := v } : State).diag = s.diag := rfl
@[simp] theorem State.diag_with_jobs (s : State) (v : Map (Option Job)) : ({ s with jobs := v } : State).diag = s.diag := rfl
@[simp] theorem State.diag_with_lode (s : State) (v : Lode) : ({ s with lode := v } : State).diag = s.diag := rfl
@[simp] theorem State.diag_with_net (s : State) (v : Net) : ({ s with net := v } : State).diag = s.diag := rfl
@[simp] theorem State.diag_with_clock (s : State) (v : Clock) : ({ s with clock := v } : State).diag = s.diag := rfl
@[simp] theorem State.diag_with_cust (s : State) (v : Custody) : ({ s with cust := v } : State).diag = s.diag := rfl
@[simp] theorem State.diag_with_units (s : State) (v : Units) : ({ s with units := v } : State).diag = s.diag := rfl
@[simp] theorem State.diag_with_cores (s : State) (v : Map Core) : ({ s with cores := v } : State).diag = s.diag := rfl
@[simp] theorem State.diag_with_gates (s : State) (v : Gates) : ({ s with gates := v } : State).diag = s.diag := rfl
@[simp] theorem State.diag_with_sluice (s : State) (v : Sluice) : ({ s with sluice := v } : State).diag = s.diag := rfl
@[simp] theorem State.diag_with_stn (s : State) (v : Stations) : ({ s with stn := v } : State).diag = s.diag := rfl
@[simp] theorem State.diag_with_line (s : State) (v : Line) : ({ s with line := v } : State).diag = s.diag := rfl
@[simp] theorem State.diag_with_tamper (s : State) (v : Tamper) : ({ s with tamper := v } : State).diag = s.diag := rfl
@[simp] theorem State.diag_with_wisp (s : State) (v : Wisp) : ({ s with wisp := v } : State).diag = s.diag := rfl
@[simp] theorem State.diag_with_flash (s : State) (v : Flash) : ({ s with flash := v } : State).diag = s.diag := rfl
@[simp] theorem State.diag_with_boot (s : State) (v : Boot) : ({ s with boot := v } : State).diag = s.diag := rfl
@[simp] theorem State.diag_with_power (s : State) (v : Power) : ({ s with power := v } : State).diag = s.diag := rfl
@[simp] theorem State.diag_with_diag (s : State) (v : Diag) : ({ s with diag := v } : State).diag = v := rfl
@[simp] theorem State.diag_with_now (s : State) (v : Nat) : ({ s with now := v } : State).diag = s.diag := rfl
@[simp] theorem State.diag_with_fresh (s : State) (v : Nat) : ({ s with fresh := v } : State).diag = s.diag := rfl
@[simp] theorem State.diag_with_pending (s : State) (v : List Instr) : ({ s with pending := v } : State).diag = s.diag := rfl
@[simp] theorem State.now_with_regs (s : State) (v : Map Word) : ({ s with regs := v } : State).now = s.now := rfl
@[simp] theorem State.now_with_mem (s : State) (v : Map Word) : ({ s with mem := v } : State).now = s.now := rfl
@[simp] theorem State.now_with_host (s : State) (v : Map Octet) : ({ s with host := v } : State).now = s.now := rfl
@[simp] theorem State.now_with_bus (s : State) (v : Bus) : ({ s with bus := v } : State).now = s.now := rfl
@[simp] theorem State.now_with_evt (s : State) (v : Events) : ({ s with evt := v } : State).now = s.now := rfl
@[simp] theorem State.now_with_linkV (s : State) (v : Link) : ({ s with linkV := v } : State).now = s.now := rfl
@[simp] theorem State.now_with_linkF (s : State) (v : Link) : ({ s with linkF := v } : State).now = s.now := rfl
@[simp] theorem State.now_with_lev (s : State) (v : Levels) : ({ s with lev := v } : State).now = s.now := rfl
@[simp] theorem State.now_with_queues (s : State) (v : Map Queue) : ({ s with queues := v } : State).now = s.now := rfl
@[simp] theorem State.now_with_jobs (s : State) (v : Map (Option Job)) : ({ s with jobs := v } : State).now = s.now := rfl
@[simp] theorem State.now_with_lode (s : State) (v : Lode) : ({ s with lode := v } : State).now = s.now := rfl
@[simp] theorem State.now_with_net (s : State) (v : Net) : ({ s with net := v } : State).now = s.now := rfl
@[simp] theorem State.now_with_clock (s : State) (v : Clock) : ({ s with clock := v } : State).now = s.now := rfl
@[simp] theorem State.now_with_cust (s : State) (v : Custody) : ({ s with cust := v } : State).now = s.now := rfl
@[simp] theorem State.now_with_units (s : State) (v : Units) : ({ s with units := v } : State).now = s.now := rfl
@[simp] theorem State.now_with_cores (s : State) (v : Map Core) : ({ s with cores := v } : State).now = s.now := rfl
@[simp] theorem State.now_with_gates (s : State) (v : Gates) : ({ s with gates := v } : State).now = s.now := rfl
@[simp] theorem State.now_with_sluice (s : State) (v : Sluice) : ({ s with sluice := v } : State).now = s.now := rfl
@[simp] theorem State.now_with_stn (s : State) (v : Stations) : ({ s with stn := v } : State).now = s.now := rfl
@[simp] theorem State.now_with_line (s : State) (v : Line) : ({ s with line := v } : State).now = s.now := rfl
@[simp] theorem State.now_with_tamper (s : State) (v : Tamper) : ({ s with tamper := v } : State).now = s.now := rfl
@[simp] theorem State.now_with_wisp (s : State) (v : Wisp) : ({ s with wisp := v } : State).now = s.now := rfl
@[simp] theorem State.now_with_flash (s : State) (v : Flash) : ({ s with flash := v } : State).now = s.now := rfl
@[simp] theorem State.now_with_boot (s : State) (v : Boot) : ({ s with boot := v } : State).now = s.now := rfl
@[simp] theorem State.now_with_power (s : State) (v : Power) : ({ s with power := v } : State).now = s.now := rfl
@[simp] theorem State.now_with_diag (s : State) (v : Diag) : ({ s with diag := v } : State).now = s.now := rfl
@[simp] theorem State.now_with_now (s : State) (v : Nat) : ({ s with now := v } : State).now = v := rfl
@[simp] theorem State.now_with_fresh (s : State) (v : Nat) : ({ s with fresh := v } : State).now = s.now := rfl
@[simp] theorem State.now_with_pending (s : State) (v : List Instr) : ({ s with pending := v } : State).now = s.now := rfl
@[simp] theorem State.fresh_with_regs (s : State) (v : Map Word) : ({ s with regs := v } : State).fresh = s.fresh := rfl
@[simp] theorem State.fresh_with_mem (s : State) (v : Map Word) : ({ s with mem := v } : State).fresh = s.fresh := rfl
@[simp] theorem State.fresh_with_host (s : State) (v : Map Octet) : ({ s with host := v } : State).fresh = s.fresh := rfl
@[simp] theorem State.fresh_with_bus (s : State) (v : Bus) : ({ s with bus := v } : State).fresh = s.fresh := rfl
@[simp] theorem State.fresh_with_evt (s : State) (v : Events) : ({ s with evt := v } : State).fresh = s.fresh := rfl
@[simp] theorem State.fresh_with_linkV (s : State) (v : Link) : ({ s with linkV := v } : State).fresh = s.fresh := rfl
@[simp] theorem State.fresh_with_linkF (s : State) (v : Link) : ({ s with linkF := v } : State).fresh = s.fresh := rfl
@[simp] theorem State.fresh_with_lev (s : State) (v : Levels) : ({ s with lev := v } : State).fresh = s.fresh := rfl
@[simp] theorem State.fresh_with_queues (s : State) (v : Map Queue) : ({ s with queues := v } : State).fresh = s.fresh := rfl
@[simp] theorem State.fresh_with_jobs (s : State) (v : Map (Option Job)) : ({ s with jobs := v } : State).fresh = s.fresh := rfl
@[simp] theorem State.fresh_with_lode (s : State) (v : Lode) : ({ s with lode := v } : State).fresh = s.fresh := rfl
@[simp] theorem State.fresh_with_net (s : State) (v : Net) : ({ s with net := v } : State).fresh = s.fresh := rfl
@[simp] theorem State.fresh_with_clock (s : State) (v : Clock) : ({ s with clock := v } : State).fresh = s.fresh := rfl
@[simp] theorem State.fresh_with_cust (s : State) (v : Custody) : ({ s with cust := v } : State).fresh = s.fresh := rfl
@[simp] theorem State.fresh_with_units (s : State) (v : Units) : ({ s with units := v } : State).fresh = s.fresh := rfl
@[simp] theorem State.fresh_with_cores (s : State) (v : Map Core) : ({ s with cores := v } : State).fresh = s.fresh := rfl
@[simp] theorem State.fresh_with_gates (s : State) (v : Gates) : ({ s with gates := v } : State).fresh = s.fresh := rfl
@[simp] theorem State.fresh_with_sluice (s : State) (v : Sluice) : ({ s with sluice := v } : State).fresh = s.fresh := rfl
@[simp] theorem State.fresh_with_stn (s : State) (v : Stations) : ({ s with stn := v } : State).fresh = s.fresh := rfl
@[simp] theorem State.fresh_with_line (s : State) (v : Line) : ({ s with line := v } : State).fresh = s.fresh := rfl
@[simp] theorem State.fresh_with_tamper (s : State) (v : Tamper) : ({ s with tamper := v } : State).fresh = s.fresh := rfl
@[simp] theorem State.fresh_with_wisp (s : State) (v : Wisp) : ({ s with wisp := v } : State).fresh = s.fresh := rfl
@[simp] theorem State.fresh_with_flash (s : State) (v : Flash) : ({ s with flash := v } : State).fresh = s.fresh := rfl
@[simp] theorem State.fresh_with_boot (s : State) (v : Boot) : ({ s with boot := v } : State).fresh = s.fresh := rfl
@[simp] theorem State.fresh_with_power (s : State) (v : Power) : ({ s with power := v } : State).fresh = s.fresh := rfl
@[simp] theorem State.fresh_with_diag (s : State) (v : Diag) : ({ s with diag := v } : State).fresh = s.fresh := rfl
@[simp] theorem State.fresh_with_now (s : State) (v : Nat) : ({ s with now := v } : State).fresh = s.fresh := rfl
@[simp] theorem State.fresh_with_fresh (s : State) (v : Nat) : ({ s with fresh := v } : State).fresh = v := rfl
@[simp] theorem State.fresh_with_pending (s : State) (v : List Instr) : ({ s with pending := v } : State).fresh = s.fresh := rfl
@[simp] theorem State.pending_with_regs (s : State) (v : Map Word) : ({ s with regs := v } : State).pending = s.pending := rfl
@[simp] theorem State.pending_with_mem (s : State) (v : Map Word) : ({ s with mem := v } : State).pending = s.pending := rfl
@[simp] theorem State.pending_with_host (s : State) (v : Map Octet) : ({ s with host := v } : State).pending = s.pending := rfl
@[simp] theorem State.pending_with_bus (s : State) (v : Bus) : ({ s with bus := v } : State).pending = s.pending := rfl
@[simp] theorem State.pending_with_evt (s : State) (v : Events) : ({ s with evt := v } : State).pending = s.pending := rfl
@[simp] theorem State.pending_with_linkV (s : State) (v : Link) : ({ s with linkV := v } : State).pending = s.pending := rfl
@[simp] theorem State.pending_with_linkF (s : State) (v : Link) : ({ s with linkF := v } : State).pending = s.pending := rfl
@[simp] theorem State.pending_with_lev (s : State) (v : Levels) : ({ s with lev := v } : State).pending = s.pending := rfl
@[simp] theorem State.pending_with_queues (s : State) (v : Map Queue) : ({ s with queues := v } : State).pending = s.pending := rfl
@[simp] theorem State.pending_with_jobs (s : State) (v : Map (Option Job)) : ({ s with jobs := v } : State).pending = s.pending := rfl
@[simp] theorem State.pending_with_lode (s : State) (v : Lode) : ({ s with lode := v } : State).pending = s.pending := rfl
@[simp] theorem State.pending_with_net (s : State) (v : Net) : ({ s with net := v } : State).pending = s.pending := rfl
@[simp] theorem State.pending_with_clock (s : State) (v : Clock) : ({ s with clock := v } : State).pending = s.pending := rfl
@[simp] theorem State.pending_with_cust (s : State) (v : Custody) : ({ s with cust := v } : State).pending = s.pending := rfl
@[simp] theorem State.pending_with_units (s : State) (v : Units) : ({ s with units := v } : State).pending = s.pending := rfl
@[simp] theorem State.pending_with_cores (s : State) (v : Map Core) : ({ s with cores := v } : State).pending = s.pending := rfl
@[simp] theorem State.pending_with_gates (s : State) (v : Gates) : ({ s with gates := v } : State).pending = s.pending := rfl
@[simp] theorem State.pending_with_sluice (s : State) (v : Sluice) : ({ s with sluice := v } : State).pending = s.pending := rfl
@[simp] theorem State.pending_with_stn (s : State) (v : Stations) : ({ s with stn := v } : State).pending = s.pending := rfl
@[simp] theorem State.pending_with_line (s : State) (v : Line) : ({ s with line := v } : State).pending = s.pending := rfl
@[simp] theorem State.pending_with_tamper (s : State) (v : Tamper) : ({ s with tamper := v } : State).pending = s.pending := rfl
@[simp] theorem State.pending_with_wisp (s : State) (v : Wisp) : ({ s with wisp := v } : State).pending = s.pending := rfl
@[simp] theorem State.pending_with_flash (s : State) (v : Flash) : ({ s with flash := v } : State).pending = s.pending := rfl
@[simp] theorem State.pending_with_boot (s : State) (v : Boot) : ({ s with boot := v } : State).pending = s.pending := rfl
@[simp] theorem State.pending_with_power (s : State) (v : Power) : ({ s with power := v } : State).pending = s.pending := rfl
@[simp] theorem State.pending_with_diag (s : State) (v : Diag) : ({ s with diag := v } : State).pending = s.pending := rfl
@[simp] theorem State.pending_with_now (s : State) (v : Nat) : ({ s with now := v } : State).pending = s.pending := rfl
@[simp] theorem State.pending_with_fresh (s : State) (v : Nat) : ({ s with fresh := v } : State).pending = s.pending := rfl
@[simp] theorem State.pending_with_pending (s : State) (v : List Instr) : ({ s with pending := v } : State).pending = v := rfl

end Sys2Proof.Machine
end

