-- ==== Sys2Proof/Laws/Ops.lean ====
section
/-! SUPPORT. The shared operations on the state: what each reads and leaves, once. -/
namespace Sys2Proof.Machine

/-! ### Registers -/

/-- A register read after a write of one. -/
@[simp] theorem State.reg_setReg (s : State) (p w q x : Nat) (v : Word) :
    (s.setReg p w v).reg q x = if q * 1024 + x = p * 1024 + w then v else s.reg q x := by
  simp [State.reg, State.setReg]

@[simp] theorem State.get_setReg (s : State) (p w k : Nat) (v : Word) :
    Map.get regReset (s.setReg p w v).regs k = if k = p * 1024 + w then v else Map.get regReset s.regs k := by
  simp [State.setReg]

@[simp] theorem State.reg_modReg (s : State) (p w q x : Nat) (f : Word → Word) :
    (s.modReg p w f).reg q x = if q * 1024 + x = p * 1024 + w then f (s.reg p w) else s.reg q x := by
  simp [State.modReg]

@[simp] theorem State.reg_setRbit (s : State) (p w i q x : Nat) (b : Bool) :
    (s.setRbit p w i b).reg q x = if q * 1024 + x = p * 1024 + w then sb (s.reg p w) i b else s.reg q x := by
  simp [State.setRbit]

@[simp] theorem State.reg_setRfld (s : State) (p w hi lo n q x : Nat) :
    (s.setRfld p w hi lo n).reg q x = if q * 1024 + x = p * 1024 + w then putBits (s.reg p w) hi lo n else s.reg q x := by
  simp [State.setRfld]

@[simp] theorem State.reg_setReg36 (s : State) (p w q x : Nat) (v : DWord) :
    (s.setReg36 p w v).reg q x = if q * 1024 + x = p * 1024 + (w + 1) then hiWord v
      else if q * 1024 + x = p * 1024 + w then loWord v else s.reg q x := by
  simp [State.setReg36]

/-- A register with two slots reads what was written to it (R13). -/
@[simp] theorem State.reg36_setReg36 (s : State) (p w : Nat) (v : DWord) : (s.setReg36 p w v).reg36 p w = v := by
  have h : dword (loWord v) (hiWord v) = v := by
    unfold dword loWord hiWord
    apply BitVec.eq_of_toNat_eq
    have h1 := v.isLt
    have h2 : (BitVec.setWidth 18 v).toNat < 2 ^ 18 := (BitVec.setWidth 18 v).isLt
    rw [BitVec.toNat_append, ← Nat.shiftLeft_add_eq_or_of_lt h2]
    simp only [BitVec.toNat_setWidth, BitVec.toNat_ushiftRight, Nat.shiftRight_eq_div_pow, Nat.shiftLeft_eq]
    omega
  simp [State.reg36, h]

@[simp] theorem State.reg_mend (s : State) (k q x : Nat) : (s.mend k).reg q x = s.reg q x := rfl

/-- The registers of another page are no concern of an event. -/
@[simp] theorem State.reg_event (s : State) (p b q x : Nat) :
    (s.event p b).reg q x = if q * 1024 + x = p * 1024 + R.PG_EVT_RAW then sb (s.reg p R.PG_EVT_RAW) b true else s.reg q x := by
  simp only [State.event, State.raising]
  exact State.reg_setRbit s p R.PG_EVT_RAW b q x true

@[simp] theorem State.get_event (s : State) (p b k : Nat) :
    Map.get regReset (s.event p b).regs k =
      if k = p * 1024 + R.PG_EVT_RAW then sb (s.reg p R.PG_EVT_RAW) b true else Map.get regReset s.regs k := by
  simp only [State.event, State.raising]
  exact State.get_setReg s p R.PG_EVT_RAW k _

/-- An event counts its source as raised where it turns a PEND bit on (R47). -/
theorem State.raised_event (s : State) (p b : Nat) :
    (s.event p b).evt.raised =
      s.evt.raised ++ newSources p (s.pend p) ((s.setRbit p R.PG_EVT_RAW b true).pend p) := rfl

/-! ### Memory and host octets -/

@[simp] theorem State.word_setWord (s : State) (a b : Nat) (v : Word) :
    (s.setWord a v).word b = if b = a then v else s.word b := by
  simp [State.word, State.setWord]

/-- Words outside a written run read as before. -/
theorem State.word_setWords_off (s : State) (a b : Nat) (l : List Word) (h : b < a ∨ a + l.length ≤ b) :
    (s.setWords a l).word b = s.word b := Map.get_putList_off l s.mem a b h

/-- Words of a written run read the values written. -/
theorem State.word_setWords_in (s : State) (a i : Nat) (l : List Word) (h : i < l.length) :
    (s.setWords a l).word (a + i) = l[i] := Map.get_putList_in l s.mem a i h

/-- A cleared run reads zero; every other word reads as before. -/
theorem State.word_clearWords (s : State) (a n b : Nat) :
    (s.clearWords a n).word b = if b < a ∨ a + n ≤ b then s.word b else 0 := by
  simp [State.word, State.clearWords, Map.get_keep, dflt]

theorem State.hostOctet_toHost_off (s : State) (a b : Nat) (l : List Octet) (h : b < a ∨ a + l.length ≤ b) :
    (s.toHost a l).hostOctet b = s.hostOctet b := Map.get_putList_off l s.host a b h

theorem State.hostOctet_toHost_in (s : State) (a i : Nat) (l : List Octet) (h : i < l.length) :
    (s.toHost a l).hostOctet (a + i) = l[i] := Map.get_putList_in l s.host a i h

/-! ### Cores -/

@[simp] theorem State.core_setCore (s : State) (c d : Nat) (v : Core) :
    (s.setCore c v).core d = if d = c then v else s.core d := by
  simp [State.core, State.setCore]

@[simp] theorem State.core_modCore (s : State) (c d : Nat) (f : Core → Core) :
    (s.modCore c f).core d = if d = c then f (s.core c) else s.core d := by
  simp [State.modCore]

@[simp] theorem State.cst_setCst (s : State) (n m : Nat) (v : Cst) : (s.setCst n v).cst m = if m = n then v else s.cst m := by
  simp [State.cst, State.setCst]

@[simp] theorem State.fst_setFst (s : State) (n m : Nat) (v : Fst) : (s.setFst n v).fst m = if m = n then v else s.fst m := by
  simp [State.fst, State.setFst]

/-! ### What each operation leaves: every part of the state but the ones named -/

@[simp] theorem State.mem_setReg (s : State) (p w : Nat) (v : Word) : (s.setReg p w v).mem = s.mem := rfl
@[simp] theorem State.host_setReg (s : State) (p w : Nat) (v : Word) : (s.setReg p w v).host = s.host := rfl
@[simp] theorem State.bus_setReg (s : State) (p w : Nat) (v : Word) : (s.setReg p w v).bus = s.bus := rfl
@[simp] theorem State.evt_setReg (s : State) (p w : Nat) (v : Word) : (s.setReg p w v).evt = s.evt := rfl
@[simp] theorem State.linkV_setReg (s : State) (p w : Nat) (v : Word) : (s.setReg p w v).linkV = s.linkV := rfl
@[simp] theorem State.linkF_setReg (s : State) (p w : Nat) (v : Word) : (s.setReg p w v).linkF = s.linkF := rfl
@[simp] theorem State.lev_setReg (s : State) (p w : Nat) (v : Word) : (s.setReg p w v).lev = s.lev := rfl
@[simp] theorem State.queues_setReg (s : State) (p w : Nat) (v : Word) : (s.setReg p w v).queues = s.queues := rfl
@[simp] theorem State.jobs_setReg (s : State) (p w : Nat) (v : Word) : (s.setReg p w v).jobs = s.jobs := rfl
@[simp] theorem State.lode_setReg (s : State) (p w : Nat) (v : Word) : (s.setReg p w v).lode = s.lode := rfl
@[simp] theorem State.net_setReg (s : State) (p w : Nat) (v : Word) : (s.setReg p w v).net = s.net := rfl
@[simp] theorem State.clock_setReg (s : State) (p w : Nat) (v : Word) : (s.setReg p w v).clock = s.clock := rfl
@[simp] theorem State.cust_setReg (s : State) (p w : Nat) (v : Word) : (s.setReg p w v).cust = s.cust := rfl
@[simp] theorem State.units_setReg (s : State) (p w : Nat) (v : Word) : (s.setReg p w v).units = s.units := rfl
@[simp] theorem State.cores_setReg (s : State) (p w : Nat) (v : Word) : (s.setReg p w v).cores = s.cores := rfl
@[simp] theorem State.gates_setReg (s : State) (p w : Nat) (v : Word) : (s.setReg p w v).gates = s.gates := rfl
@[simp] theorem State.sluice_setReg (s : State) (p w : Nat) (v : Word) : (s.setReg p w v).sluice = s.sluice := rfl
@[simp] theorem State.stn_setReg (s : State) (p w : Nat) (v : Word) : (s.setReg p w v).stn = s.stn := rfl
@[simp] theorem State.line_setReg (s : State) (p w : Nat) (v : Word) : (s.setReg p w v).line = s.line := rfl
@[simp] theorem State.tamper_setReg (s : State) (p w : Nat) (v : Word) : (s.setReg p w v).tamper = s.tamper := rfl
@[simp] theorem State.wisp_setReg (s : State) (p w : Nat) (v : Word) : (s.setReg p w v).wisp = s.wisp := rfl
@[simp] theorem State.flash_setReg (s : State) (p w : Nat) (v : Word) : (s.setReg p w v).flash = s.flash := rfl
@[simp] theorem State.boot_setReg (s : State) (p w : Nat) (v : Word) : (s.setReg p w v).boot = s.boot := rfl
@[simp] theorem State.power_setReg (s : State) (p w : Nat) (v : Word) : (s.setReg p w v).power = s.power := rfl
@[simp] theorem State.diag_setReg (s : State) (p w : Nat) (v : Word) : (s.setReg p w v).diag = s.diag := rfl
@[simp] theorem State.now_setReg (s : State) (p w : Nat) (v : Word) : (s.setReg p w v).now = s.now := rfl
@[simp] theorem State.fresh_setReg (s : State) (p w : Nat) (v : Word) : (s.setReg p w v).fresh = s.fresh := rfl
@[simp] theorem State.pending_setReg (s : State) (p w : Nat) (v : Word) : (s.setReg p w v).pending = s.pending := rfl

@[simp] theorem State.mem_modReg (s : State) (p w : Nat) (f : Word → Word) : (s.modReg p w f).mem = s.mem := rfl
@[simp] theorem State.host_modReg (s : State) (p w : Nat) (f : Word → Word) : (s.modReg p w f).host = s.host := rfl
@[simp] theorem State.bus_modReg (s : State) (p w : Nat) (f : Word → Word) : (s.modReg p w f).bus = s.bus := rfl
@[simp] theorem State.evt_modReg (s : State) (p w : Nat) (f : Word → Word) : (s.modReg p w f).evt = s.evt := rfl
@[simp] theorem State.linkV_modReg (s : State) (p w : Nat) (f : Word → Word) : (s.modReg p w f).linkV = s.linkV := rfl
@[simp] theorem State.linkF_modReg (s : State) (p w : Nat) (f : Word → Word) : (s.modReg p w f).linkF = s.linkF := rfl
@[simp] theorem State.lev_modReg (s : State) (p w : Nat) (f : Word → Word) : (s.modReg p w f).lev = s.lev := rfl
@[simp] theorem State.queues_modReg (s : State) (p w : Nat) (f : Word → Word) : (s.modReg p w f).queues = s.queues := rfl
@[simp] theorem State.jobs_modReg (s : State) (p w : Nat) (f : Word → Word) : (s.modReg p w f).jobs = s.jobs := rfl
@[simp] theorem State.lode_modReg (s : State) (p w : Nat) (f : Word → Word) : (s.modReg p w f).lode = s.lode := rfl
@[simp] theorem State.net_modReg (s : State) (p w : Nat) (f : Word → Word) : (s.modReg p w f).net = s.net := rfl
@[simp] theorem State.clock_modReg (s : State) (p w : Nat) (f : Word → Word) : (s.modReg p w f).clock = s.clock := rfl
@[simp] theorem State.cust_modReg (s : State) (p w : Nat) (f : Word → Word) : (s.modReg p w f).cust = s.cust := rfl
@[simp] theorem State.units_modReg (s : State) (p w : Nat) (f : Word → Word) : (s.modReg p w f).units = s.units := rfl
@[simp] theorem State.cores_modReg (s : State) (p w : Nat) (f : Word → Word) : (s.modReg p w f).cores = s.cores := rfl
@[simp] theorem State.gates_modReg (s : State) (p w : Nat) (f : Word → Word) : (s.modReg p w f).gates = s.gates := rfl
@[simp] theorem State.sluice_modReg (s : State) (p w : Nat) (f : Word → Word) : (s.modReg p w f).sluice = s.sluice := rfl
@[simp] theorem State.stn_modReg (s : State) (p w : Nat) (f : Word → Word) : (s.modReg p w f).stn = s.stn := rfl
@[simp] theorem State.line_modReg (s : State) (p w : Nat) (f : Word → Word) : (s.modReg p w f).line = s.line := rfl
@[simp] theorem State.tamper_modReg (s : State) (p w : Nat) (f : Word → Word) : (s.modReg p w f).tamper = s.tamper := rfl
@[simp] theorem State.wisp_modReg (s : State) (p w : Nat) (f : Word → Word) : (s.modReg p w f).wisp = s.wisp := rfl
@[simp] theorem State.flash_modReg (s : State) (p w : Nat) (f : Word → Word) : (s.modReg p w f).flash = s.flash := rfl
@[simp] theorem State.boot_modReg (s : State) (p w : Nat) (f : Word → Word) : (s.modReg p w f).boot = s.boot := rfl
@[simp] theorem State.power_modReg (s : State) (p w : Nat) (f : Word → Word) : (s.modReg p w f).power = s.power := rfl
@[simp] theorem State.diag_modReg (s : State) (p w : Nat) (f : Word → Word) : (s.modReg p w f).diag = s.diag := rfl
@[simp] theorem State.now_modReg (s : State) (p w : Nat) (f : Word → Word) : (s.modReg p w f).now = s.now := rfl
@[simp] theorem State.fresh_modReg (s : State) (p w : Nat) (f : Word → Word) : (s.modReg p w f).fresh = s.fresh := rfl
@[simp] theorem State.pending_modReg (s : State) (p w : Nat) (f : Word → Word) : (s.modReg p w f).pending = s.pending := rfl

@[simp] theorem State.mem_setRbit (s : State) (p w i : Nat) (b : Bool) : (s.setRbit p w i b).mem = s.mem := rfl
@[simp] theorem State.host_setRbit (s : State) (p w i : Nat) (b : Bool) : (s.setRbit p w i b).host = s.host := rfl
@[simp] theorem State.bus_setRbit (s : State) (p w i : Nat) (b : Bool) : (s.setRbit p w i b).bus = s.bus := rfl
@[simp] theorem State.evt_setRbit (s : State) (p w i : Nat) (b : Bool) : (s.setRbit p w i b).evt = s.evt := rfl
@[simp] theorem State.linkV_setRbit (s : State) (p w i : Nat) (b : Bool) : (s.setRbit p w i b).linkV = s.linkV := rfl
@[simp] theorem State.linkF_setRbit (s : State) (p w i : Nat) (b : Bool) : (s.setRbit p w i b).linkF = s.linkF := rfl
@[simp] theorem State.lev_setRbit (s : State) (p w i : Nat) (b : Bool) : (s.setRbit p w i b).lev = s.lev := rfl
@[simp] theorem State.queues_setRbit (s : State) (p w i : Nat) (b : Bool) : (s.setRbit p w i b).queues = s.queues := rfl
@[simp] theorem State.jobs_setRbit (s : State) (p w i : Nat) (b : Bool) : (s.setRbit p w i b).jobs = s.jobs := rfl
@[simp] theorem State.lode_setRbit (s : State) (p w i : Nat) (b : Bool) : (s.setRbit p w i b).lode = s.lode := rfl
@[simp] theorem State.net_setRbit (s : State) (p w i : Nat) (b : Bool) : (s.setRbit p w i b).net = s.net := rfl
@[simp] theorem State.clock_setRbit (s : State) (p w i : Nat) (b : Bool) : (s.setRbit p w i b).clock = s.clock := rfl
@[simp] theorem State.cust_setRbit (s : State) (p w i : Nat) (b : Bool) : (s.setRbit p w i b).cust = s.cust := rfl
@[simp] theorem State.units_setRbit (s : State) (p w i : Nat) (b : Bool) : (s.setRbit p w i b).units = s.units := rfl
@[simp] theorem State.cores_setRbit (s : State) (p w i : Nat) (b : Bool) : (s.setRbit p w i b).cores = s.cores := rfl
@[simp] theorem State.gates_setRbit (s : State) (p w i : Nat) (b : Bool) : (s.setRbit p w i b).gates = s.gates := rfl
@[simp] theorem State.sluice_setRbit (s : State) (p w i : Nat) (b : Bool) : (s.setRbit p w i b).sluice = s.sluice := rfl
@[simp] theorem State.stn_setRbit (s : State) (p w i : Nat) (b : Bool) : (s.setRbit p w i b).stn = s.stn := rfl
@[simp] theorem State.line_setRbit (s : State) (p w i : Nat) (b : Bool) : (s.setRbit p w i b).line = s.line := rfl
@[simp] theorem State.tamper_setRbit (s : State) (p w i : Nat) (b : Bool) : (s.setRbit p w i b).tamper = s.tamper := rfl
@[simp] theorem State.wisp_setRbit (s : State) (p w i : Nat) (b : Bool) : (s.setRbit p w i b).wisp = s.wisp := rfl
@[simp] theorem State.flash_setRbit (s : State) (p w i : Nat) (b : Bool) : (s.setRbit p w i b).flash = s.flash := rfl
@[simp] theorem State.boot_setRbit (s : State) (p w i : Nat) (b : Bool) : (s.setRbit p w i b).boot = s.boot := rfl
@[simp] theorem State.power_setRbit (s : State) (p w i : Nat) (b : Bool) : (s.setRbit p w i b).power = s.power := rfl
@[simp] theorem State.diag_setRbit (s : State) (p w i : Nat) (b : Bool) : (s.setRbit p w i b).diag = s.diag := rfl
@[simp] theorem State.now_setRbit (s : State) (p w i : Nat) (b : Bool) : (s.setRbit p w i b).now = s.now := rfl
@[simp] theorem State.fresh_setRbit (s : State) (p w i : Nat) (b : Bool) : (s.setRbit p w i b).fresh = s.fresh := rfl
@[simp] theorem State.pending_setRbit (s : State) (p w i : Nat) (b : Bool) : (s.setRbit p w i b).pending = s.pending := rfl

@[simp] theorem State.mem_setRfld (s : State) (p w hi lo v : Nat) : (s.setRfld p w hi lo v).mem = s.mem := rfl
@[simp] theorem State.host_setRfld (s : State) (p w hi lo v : Nat) : (s.setRfld p w hi lo v).host = s.host := rfl
@[simp] theorem State.bus_setRfld (s : State) (p w hi lo v : Nat) : (s.setRfld p w hi lo v).bus = s.bus := rfl
@[simp] theorem State.evt_setRfld (s : State) (p w hi lo v : Nat) : (s.setRfld p w hi lo v).evt = s.evt := rfl
@[simp] theorem State.linkV_setRfld (s : State) (p w hi lo v : Nat) : (s.setRfld p w hi lo v).linkV = s.linkV := rfl
@[simp] theorem State.linkF_setRfld (s : State) (p w hi lo v : Nat) : (s.setRfld p w hi lo v).linkF = s.linkF := rfl
@[simp] theorem State.lev_setRfld (s : State) (p w hi lo v : Nat) : (s.setRfld p w hi lo v).lev = s.lev := rfl
@[simp] theorem State.queues_setRfld (s : State) (p w hi lo v : Nat) : (s.setRfld p w hi lo v).queues = s.queues := rfl
@[simp] theorem State.jobs_setRfld (s : State) (p w hi lo v : Nat) : (s.setRfld p w hi lo v).jobs = s.jobs := rfl
@[simp] theorem State.lode_setRfld (s : State) (p w hi lo v : Nat) : (s.setRfld p w hi lo v).lode = s.lode := rfl
@[simp] theorem State.net_setRfld (s : State) (p w hi lo v : Nat) : (s.setRfld p w hi lo v).net = s.net := rfl
@[simp] theorem State.clock_setRfld (s : State) (p w hi lo v : Nat) : (s.setRfld p w hi lo v).clock = s.clock := rfl
@[simp] theorem State.cust_setRfld (s : State) (p w hi lo v : Nat) : (s.setRfld p w hi lo v).cust = s.cust := rfl
@[simp] theorem State.units_setRfld (s : State) (p w hi lo v : Nat) : (s.setRfld p w hi lo v).units = s.units := rfl
@[simp] theorem State.cores_setRfld (s : State) (p w hi lo v : Nat) : (s.setRfld p w hi lo v).cores = s.cores := rfl
@[simp] theorem State.gates_setRfld (s : State) (p w hi lo v : Nat) : (s.setRfld p w hi lo v).gates = s.gates := rfl
@[simp] theorem State.sluice_setRfld (s : State) (p w hi lo v : Nat) : (s.setRfld p w hi lo v).sluice = s.sluice := rfl
@[simp] theorem State.stn_setRfld (s : State) (p w hi lo v : Nat) : (s.setRfld p w hi lo v).stn = s.stn := rfl
@[simp] theorem State.line_setRfld (s : State) (p w hi lo v : Nat) : (s.setRfld p w hi lo v).line = s.line := rfl
@[simp] theorem State.tamper_setRfld (s : State) (p w hi lo v : Nat) : (s.setRfld p w hi lo v).tamper = s.tamper := rfl
@[simp] theorem State.wisp_setRfld (s : State) (p w hi lo v : Nat) : (s.setRfld p w hi lo v).wisp = s.wisp := rfl
@[simp] theorem State.flash_setRfld (s : State) (p w hi lo v : Nat) : (s.setRfld p w hi lo v).flash = s.flash := rfl
@[simp] theorem State.boot_setRfld (s : State) (p w hi lo v : Nat) : (s.setRfld p w hi lo v).boot = s.boot := rfl
@[simp] theorem State.power_setRfld (s : State) (p w hi lo v : Nat) : (s.setRfld p w hi lo v).power = s.power := rfl
@[simp] theorem State.diag_setRfld (s : State) (p w hi lo v : Nat) : (s.setRfld p w hi lo v).diag = s.diag := rfl
@[simp] theorem State.now_setRfld (s : State) (p w hi lo v : Nat) : (s.setRfld p w hi lo v).now = s.now := rfl
@[simp] theorem State.fresh_setRfld (s : State) (p w hi lo v : Nat) : (s.setRfld p w hi lo v).fresh = s.fresh := rfl
@[simp] theorem State.pending_setRfld (s : State) (p w hi lo v : Nat) : (s.setRfld p w hi lo v).pending = s.pending := rfl

@[simp] theorem State.mem_setReg36 (s : State) (p w : Nat) (v : DWord) : (s.setReg36 p w v).mem = s.mem := rfl
@[simp] theorem State.host_setReg36 (s : State) (p w : Nat) (v : DWord) : (s.setReg36 p w v).host = s.host := rfl
@[simp] theorem State.bus_setReg36 (s : State) (p w : Nat) (v : DWord) : (s.setReg36 p w v).bus = s.bus := rfl
@[simp] theorem State.evt_setReg36 (s : State) (p w : Nat) (v : DWord) : (s.setReg36 p w v).evt = s.evt := rfl
@[simp] theorem State.linkV_setReg36 (s : State) (p w : Nat) (v : DWord) : (s.setReg36 p w v).linkV = s.linkV := rfl
@[simp] theorem State.linkF_setReg36 (s : State) (p w : Nat) (v : DWord) : (s.setReg36 p w v).linkF = s.linkF := rfl
@[simp] theorem State.lev_setReg36 (s : State) (p w : Nat) (v : DWord) : (s.setReg36 p w v).lev = s.lev := rfl
@[simp] theorem State.queues_setReg36 (s : State) (p w : Nat) (v : DWord) : (s.setReg36 p w v).queues = s.queues := rfl
@[simp] theorem State.jobs_setReg36 (s : State) (p w : Nat) (v : DWord) : (s.setReg36 p w v).jobs = s.jobs := rfl
@[simp] theorem State.lode_setReg36 (s : State) (p w : Nat) (v : DWord) : (s.setReg36 p w v).lode = s.lode := rfl
@[simp] theorem State.net_setReg36 (s : State) (p w : Nat) (v : DWord) : (s.setReg36 p w v).net = s.net := rfl
@[simp] theorem State.clock_setReg36 (s : State) (p w : Nat) (v : DWord) : (s.setReg36 p w v).clock = s.clock := rfl
@[simp] theorem State.cust_setReg36 (s : State) (p w : Nat) (v : DWord) : (s.setReg36 p w v).cust = s.cust := rfl
@[simp] theorem State.units_setReg36 (s : State) (p w : Nat) (v : DWord) : (s.setReg36 p w v).units = s.units := rfl
@[simp] theorem State.cores_setReg36 (s : State) (p w : Nat) (v : DWord) : (s.setReg36 p w v).cores = s.cores := rfl
@[simp] theorem State.gates_setReg36 (s : State) (p w : Nat) (v : DWord) : (s.setReg36 p w v).gates = s.gates := rfl
@[simp] theorem State.sluice_setReg36 (s : State) (p w : Nat) (v : DWord) : (s.setReg36 p w v).sluice = s.sluice := rfl
@[simp] theorem State.stn_setReg36 (s : State) (p w : Nat) (v : DWord) : (s.setReg36 p w v).stn = s.stn := rfl
@[simp] theorem State.line_setReg36 (s : State) (p w : Nat) (v : DWord) : (s.setReg36 p w v).line = s.line := rfl
@[simp] theorem State.tamper_setReg36 (s : State) (p w : Nat) (v : DWord) : (s.setReg36 p w v).tamper = s.tamper := rfl
@[simp] theorem State.wisp_setReg36 (s : State) (p w : Nat) (v : DWord) : (s.setReg36 p w v).wisp = s.wisp := rfl
@[simp] theorem State.flash_setReg36 (s : State) (p w : Nat) (v : DWord) : (s.setReg36 p w v).flash = s.flash := rfl
@[simp] theorem State.boot_setReg36 (s : State) (p w : Nat) (v : DWord) : (s.setReg36 p w v).boot = s.boot := rfl
@[simp] theorem State.power_setReg36 (s : State) (p w : Nat) (v : DWord) : (s.setReg36 p w v).power = s.power := rfl
@[simp] theorem State.diag_setReg36 (s : State) (p w : Nat) (v : DWord) : (s.setReg36 p w v).diag = s.diag := rfl
@[simp] theorem State.now_setReg36 (s : State) (p w : Nat) (v : DWord) : (s.setReg36 p w v).now = s.now := rfl
@[simp] theorem State.fresh_setReg36 (s : State) (p w : Nat) (v : DWord) : (s.setReg36 p w v).fresh = s.fresh := rfl
@[simp] theorem State.pending_setReg36 (s : State) (p w : Nat) (v : DWord) : (s.setReg36 p w v).pending = s.pending := rfl

@[simp] theorem State.mem_inc36 (s : State) (p w : Nat) : (s.inc36 p w).mem = s.mem := rfl
@[simp] theorem State.host_inc36 (s : State) (p w : Nat) : (s.inc36 p w).host = s.host := rfl
@[simp] theorem State.bus_inc36 (s : State) (p w : Nat) : (s.inc36 p w).bus = s.bus := rfl
@[simp] theorem State.evt_inc36 (s : State) (p w : Nat) : (s.inc36 p w).evt = s.evt := rfl
@[simp] theorem State.linkV_inc36 (s : State) (p w : Nat) : (s.inc36 p w).linkV = s.linkV := rfl
@[simp] theorem State.linkF_inc36 (s : State) (p w : Nat) : (s.inc36 p w).linkF = s.linkF := rfl
@[simp] theorem State.lev_inc36 (s : State) (p w : Nat) : (s.inc36 p w).lev = s.lev := rfl
@[simp] theorem State.queues_inc36 (s : State) (p w : Nat) : (s.inc36 p w).queues = s.queues := rfl
@[simp] theorem State.jobs_inc36 (s : State) (p w : Nat) : (s.inc36 p w).jobs = s.jobs := rfl
@[simp] theorem State.lode_inc36 (s : State) (p w : Nat) : (s.inc36 p w).lode = s.lode := rfl
@[simp] theorem State.net_inc36 (s : State) (p w : Nat) : (s.inc36 p w).net = s.net := rfl
@[simp] theorem State.clock_inc36 (s : State) (p w : Nat) : (s.inc36 p w).clock = s.clock := rfl
@[simp] theorem State.cust_inc36 (s : State) (p w : Nat) : (s.inc36 p w).cust = s.cust := rfl
@[simp] theorem State.units_inc36 (s : State) (p w : Nat) : (s.inc36 p w).units = s.units := rfl
@[simp] theorem State.cores_inc36 (s : State) (p w : Nat) : (s.inc36 p w).cores = s.cores := rfl
@[simp] theorem State.gates_inc36 (s : State) (p w : Nat) : (s.inc36 p w).gates = s.gates := rfl
@[simp] theorem State.sluice_inc36 (s : State) (p w : Nat) : (s.inc36 p w).sluice = s.sluice := rfl
@[simp] theorem State.stn_inc36 (s : State) (p w : Nat) : (s.inc36 p w).stn = s.stn := rfl
@[simp] theorem State.line_inc36 (s : State) (p w : Nat) : (s.inc36 p w).line = s.line := rfl
@[simp] theorem State.tamper_inc36 (s : State) (p w : Nat) : (s.inc36 p w).tamper = s.tamper := rfl
@[simp] theorem State.wisp_inc36 (s : State) (p w : Nat) : (s.inc36 p w).wisp = s.wisp := rfl
@[simp] theorem State.flash_inc36 (s : State) (p w : Nat) : (s.inc36 p w).flash = s.flash := rfl
@[simp] theorem State.boot_inc36 (s : State) (p w : Nat) : (s.inc36 p w).boot = s.boot := rfl
@[simp] theorem State.power_inc36 (s : State) (p w : Nat) : (s.inc36 p w).power = s.power := rfl
@[simp] theorem State.diag_inc36 (s : State) (p w : Nat) : (s.inc36 p w).diag = s.diag := rfl
@[simp] theorem State.now_inc36 (s : State) (p w : Nat) : (s.inc36 p w).now = s.now := rfl
@[simp] theorem State.fresh_inc36 (s : State) (p w : Nat) : (s.inc36 p w).fresh = s.fresh := rfl
@[simp] theorem State.pending_inc36 (s : State) (p w : Nat) : (s.inc36 p w).pending = s.pending := rfl

@[simp] theorem State.mem_incSat (s : State) (p w : Nat) : (s.incSat p w).mem = s.mem := rfl
@[simp] theorem State.host_incSat (s : State) (p w : Nat) : (s.incSat p w).host = s.host := rfl
@[simp] theorem State.bus_incSat (s : State) (p w : Nat) : (s.incSat p w).bus = s.bus := rfl
@[simp] theorem State.evt_incSat (s : State) (p w : Nat) : (s.incSat p w).evt = s.evt := rfl
@[simp] theorem State.linkV_incSat (s : State) (p w : Nat) : (s.incSat p w).linkV = s.linkV := rfl
@[simp] theorem State.linkF_incSat (s : State) (p w : Nat) : (s.incSat p w).linkF = s.linkF := rfl
@[simp] theorem State.lev_incSat (s : State) (p w : Nat) : (s.incSat p w).lev = s.lev := rfl
@[simp] theorem State.queues_incSat (s : State) (p w : Nat) : (s.incSat p w).queues = s.queues := rfl
@[simp] theorem State.jobs_incSat (s : State) (p w : Nat) : (s.incSat p w).jobs = s.jobs := rfl
@[simp] theorem State.lode_incSat (s : State) (p w : Nat) : (s.incSat p w).lode = s.lode := rfl
@[simp] theorem State.net_incSat (s : State) (p w : Nat) : (s.incSat p w).net = s.net := rfl
@[simp] theorem State.clock_incSat (s : State) (p w : Nat) : (s.incSat p w).clock = s.clock := rfl
@[simp] theorem State.cust_incSat (s : State) (p w : Nat) : (s.incSat p w).cust = s.cust := rfl
@[simp] theorem State.units_incSat (s : State) (p w : Nat) : (s.incSat p w).units = s.units := rfl
@[simp] theorem State.cores_incSat (s : State) (p w : Nat) : (s.incSat p w).cores = s.cores := rfl
@[simp] theorem State.gates_incSat (s : State) (p w : Nat) : (s.incSat p w).gates = s.gates := rfl
@[simp] theorem State.sluice_incSat (s : State) (p w : Nat) : (s.incSat p w).sluice = s.sluice := rfl
@[simp] theorem State.stn_incSat (s : State) (p w : Nat) : (s.incSat p w).stn = s.stn := rfl
@[simp] theorem State.line_incSat (s : State) (p w : Nat) : (s.incSat p w).line = s.line := rfl
@[simp] theorem State.tamper_incSat (s : State) (p w : Nat) : (s.incSat p w).tamper = s.tamper := rfl
@[simp] theorem State.wisp_incSat (s : State) (p w : Nat) : (s.incSat p w).wisp = s.wisp := rfl
@[simp] theorem State.flash_incSat (s : State) (p w : Nat) : (s.incSat p w).flash = s.flash := rfl
@[simp] theorem State.boot_incSat (s : State) (p w : Nat) : (s.incSat p w).boot = s.boot := rfl
@[simp] theorem State.power_incSat (s : State) (p w : Nat) : (s.incSat p w).power = s.power := rfl
@[simp] theorem State.diag_incSat (s : State) (p w : Nat) : (s.incSat p w).diag = s.diag := rfl
@[simp] theorem State.now_incSat (s : State) (p w : Nat) : (s.incSat p w).now = s.now := rfl
@[simp] theorem State.fresh_incSat (s : State) (p w : Nat) : (s.incSat p w).fresh = s.fresh := rfl
@[simp] theorem State.pending_incSat (s : State) (p w : Nat) : (s.incSat p w).pending = s.pending := rfl

@[simp] theorem State.mem_setStat (s : State) (p i : Nat) (b : Bool) : (s.setStat p i b).mem = s.mem := rfl
@[simp] theorem State.host_setStat (s : State) (p i : Nat) (b : Bool) : (s.setStat p i b).host = s.host := rfl
@[simp] theorem State.bus_setStat (s : State) (p i : Nat) (b : Bool) : (s.setStat p i b).bus = s.bus := rfl
@[simp] theorem State.evt_setStat (s : State) (p i : Nat) (b : Bool) : (s.setStat p i b).evt = s.evt := rfl
@[simp] theorem State.linkV_setStat (s : State) (p i : Nat) (b : Bool) : (s.setStat p i b).linkV = s.linkV := rfl
@[simp] theorem State.linkF_setStat (s : State) (p i : Nat) (b : Bool) : (s.setStat p i b).linkF = s.linkF := rfl
@[simp] theorem State.lev_setStat (s : State) (p i : Nat) (b : Bool) : (s.setStat p i b).lev = s.lev := rfl
@[simp] theorem State.queues_setStat (s : State) (p i : Nat) (b : Bool) : (s.setStat p i b).queues = s.queues := rfl
@[simp] theorem State.jobs_setStat (s : State) (p i : Nat) (b : Bool) : (s.setStat p i b).jobs = s.jobs := rfl
@[simp] theorem State.lode_setStat (s : State) (p i : Nat) (b : Bool) : (s.setStat p i b).lode = s.lode := rfl
@[simp] theorem State.net_setStat (s : State) (p i : Nat) (b : Bool) : (s.setStat p i b).net = s.net := rfl
@[simp] theorem State.clock_setStat (s : State) (p i : Nat) (b : Bool) : (s.setStat p i b).clock = s.clock := rfl
@[simp] theorem State.cust_setStat (s : State) (p i : Nat) (b : Bool) : (s.setStat p i b).cust = s.cust := rfl
@[simp] theorem State.units_setStat (s : State) (p i : Nat) (b : Bool) : (s.setStat p i b).units = s.units := rfl
@[simp] theorem State.cores_setStat (s : State) (p i : Nat) (b : Bool) : (s.setStat p i b).cores = s.cores := rfl
@[simp] theorem State.gates_setStat (s : State) (p i : Nat) (b : Bool) : (s.setStat p i b).gates = s.gates := rfl
@[simp] theorem State.sluice_setStat (s : State) (p i : Nat) (b : Bool) : (s.setStat p i b).sluice = s.sluice := rfl
@[simp] theorem State.stn_setStat (s : State) (p i : Nat) (b : Bool) : (s.setStat p i b).stn = s.stn := rfl
@[simp] theorem State.line_setStat (s : State) (p i : Nat) (b : Bool) : (s.setStat p i b).line = s.line := rfl
@[simp] theorem State.tamper_setStat (s : State) (p i : Nat) (b : Bool) : (s.setStat p i b).tamper = s.tamper := rfl
@[simp] theorem State.wisp_setStat (s : State) (p i : Nat) (b : Bool) : (s.setStat p i b).wisp = s.wisp := rfl
@[simp] theorem State.flash_setStat (s : State) (p i : Nat) (b : Bool) : (s.setStat p i b).flash = s.flash := rfl
@[simp] theorem State.boot_setStat (s : State) (p i : Nat) (b : Bool) : (s.setStat p i b).boot = s.boot := rfl
@[simp] theorem State.power_setStat (s : State) (p i : Nat) (b : Bool) : (s.setStat p i b).power = s.power := rfl
@[simp] theorem State.diag_setStat (s : State) (p i : Nat) (b : Bool) : (s.setStat p i b).diag = s.diag := rfl
@[simp] theorem State.now_setStat (s : State) (p i : Nat) (b : Bool) : (s.setStat p i b).now = s.now := rfl
@[simp] theorem State.fresh_setStat (s : State) (p i : Nat) (b : Bool) : (s.setStat p i b).fresh = s.fresh := rfl
@[simp] theorem State.pending_setStat (s : State) (p i : Nat) (b : Bool) : (s.setStat p i b).pending = s.pending := rfl

@[simp] theorem State.mem_event (s : State) (p b : Nat) : (s.event p b).mem = s.mem := rfl
@[simp] theorem State.host_event (s : State) (p b : Nat) : (s.event p b).host = s.host := rfl
@[simp] theorem State.bus_event (s : State) (p b : Nat) : (s.event p b).bus = s.bus := rfl
@[simp] theorem State.linkV_event (s : State) (p b : Nat) : (s.event p b).linkV = s.linkV := rfl
@[simp] theorem State.linkF_event (s : State) (p b : Nat) : (s.event p b).linkF = s.linkF := rfl
@[simp] theorem State.lev_event (s : State) (p b : Nat) : (s.event p b).lev = s.lev := rfl
@[simp] theorem State.queues_event (s : State) (p b : Nat) : (s.event p b).queues = s.queues := rfl
@[simp] theorem State.jobs_event (s : State) (p b : Nat) : (s.event p b).jobs = s.jobs := rfl
@[simp] theorem State.lode_event (s : State) (p b : Nat) : (s.event p b).lode = s.lode := rfl
@[simp] theorem State.net_event (s : State) (p b : Nat) : (s.event p b).net = s.net := rfl
@[simp] theorem State.clock_event (s : State) (p b : Nat) : (s.event p b).clock = s.clock := rfl
@[simp] theorem State.cust_event (s : State) (p b : Nat) : (s.event p b).cust = s.cust := rfl
@[simp] theorem State.units_event (s : State) (p b : Nat) : (s.event p b).units = s.units := rfl
@[simp] theorem State.cores_event (s : State) (p b : Nat) : (s.event p b).cores = s.cores := rfl
@[simp] theorem State.gates_event (s : State) (p b : Nat) : (s.event p b).gates = s.gates := rfl
@[simp] theorem State.sluice_event (s : State) (p b : Nat) : (s.event p b).sluice = s.sluice := rfl
@[simp] theorem State.stn_event (s : State) (p b : Nat) : (s.event p b).stn = s.stn := rfl
@[simp] theorem State.line_event (s : State) (p b : Nat) : (s.event p b).line = s.line := rfl
@[simp] theorem State.tamper_event (s : State) (p b : Nat) : (s.event p b).tamper = s.tamper := rfl
@[simp] theorem State.wisp_event (s : State) (p b : Nat) : (s.event p b).wisp = s.wisp := rfl
@[simp] theorem State.flash_event (s : State) (p b : Nat) : (s.event p b).flash = s.flash := rfl
@[simp] theorem State.boot_event (s : State) (p b : Nat) : (s.event p b).boot = s.boot := rfl
@[simp] theorem State.power_event (s : State) (p b : Nat) : (s.event p b).power = s.power := rfl
@[simp] theorem State.diag_event (s : State) (p b : Nat) : (s.event p b).diag = s.diag := rfl
@[simp] theorem State.now_event (s : State) (p b : Nat) : (s.event p b).now = s.now := rfl
@[simp] theorem State.fresh_event (s : State) (p b : Nat) : (s.event p b).fresh = s.fresh := rfl
@[simp] theorem State.pending_event (s : State) (p b : Nat) : (s.event p b).pending = s.pending := rfl

@[simp] theorem State.regs_setCore (s : State) (c : Nat) (v : Core) : (s.setCore c v).regs = s.regs := rfl
@[simp] theorem State.mem_setCore (s : State) (c : Nat) (v : Core) : (s.setCore c v).mem = s.mem := rfl
@[simp] theorem State.host_setCore (s : State) (c : Nat) (v : Core) : (s.setCore c v).host = s.host := rfl
@[simp] theorem State.bus_setCore (s : State) (c : Nat) (v : Core) : (s.setCore c v).bus = s.bus := rfl
@[simp] theorem State.evt_setCore (s : State) (c : Nat) (v : Core) : (s.setCore c v).evt = s.evt := rfl
@[simp] theorem State.linkV_setCore (s : State) (c : Nat) (v : Core) : (s.setCore c v).linkV = s.linkV := rfl
@[simp] theorem State.linkF_setCore (s : State) (c : Nat) (v : Core) : (s.setCore c v).linkF = s.linkF := rfl
@[simp] theorem State.lev_setCore (s : State) (c : Nat) (v : Core) : (s.setCore c v).lev = s.lev := rfl
@[simp] theorem State.queues_setCore (s : State) (c : Nat) (v : Core) : (s.setCore c v).queues = s.queues := rfl
@[simp] theorem State.jobs_setCore (s : State) (c : Nat) (v : Core) : (s.setCore c v).jobs = s.jobs := rfl
@[simp] theorem State.lode_setCore (s : State) (c : Nat) (v : Core) : (s.setCore c v).lode = s.lode := rfl
@[simp] theorem State.net_setCore (s : State) (c : Nat) (v : Core) : (s.setCore c v).net = s.net := rfl
@[simp] theorem State.clock_setCore (s : State) (c : Nat) (v : Core) : (s.setCore c v).clock = s.clock := rfl
@[simp] theorem State.cust_setCore (s : State) (c : Nat) (v : Core) : (s.setCore c v).cust = s.cust := rfl
@[simp] theorem State.units_setCore (s : State) (c : Nat) (v : Core) : (s.setCore c v).units = s.units := rfl
@[simp] theorem State.gates_setCore (s : State) (c : Nat) (v : Core) : (s.setCore c v).gates = s.gates := rfl
@[simp] theorem State.sluice_setCore (s : State) (c : Nat) (v : Core) : (s.setCore c v).sluice = s.sluice := rfl
@[simp] theorem State.stn_setCore (s : State) (c : Nat) (v : Core) : (s.setCore c v).stn = s.stn := rfl
@[simp] theorem State.line_setCore (s : State) (c : Nat) (v : Core) : (s.setCore c v).line = s.line := rfl
@[simp] theorem State.tamper_setCore (s : State) (c : Nat) (v : Core) : (s.setCore c v).tamper = s.tamper := rfl
@[simp] theorem State.wisp_setCore (s : State) (c : Nat) (v : Core) : (s.setCore c v).wisp = s.wisp := rfl
@[simp] theorem State.flash_setCore (s : State) (c : Nat) (v : Core) : (s.setCore c v).flash = s.flash := rfl
@[simp] theorem State.boot_setCore (s : State) (c : Nat) (v : Core) : (s.setCore c v).boot = s.boot := rfl
@[simp] theorem State.power_setCore (s : State) (c : Nat) (v : Core) : (s.setCore c v).power = s.power := rfl
@[simp] theorem State.diag_setCore (s : State) (c : Nat) (v : Core) : (s.setCore c v).diag = s.diag := rfl
@[simp] theorem State.now_setCore (s : State) (c : Nat) (v : Core) : (s.setCore c v).now = s.now := rfl
@[simp] theorem State.fresh_setCore (s : State) (c : Nat) (v : Core) : (s.setCore c v).fresh = s.fresh := rfl
@[simp] theorem State.pending_setCore (s : State) (c : Nat) (v : Core) : (s.setCore c v).pending = s.pending := rfl

@[simp] theorem State.regs_setWord (s : State) (a : Nat) (v : Word) : (s.setWord a v).regs = s.regs := rfl
@[simp] theorem State.host_setWord (s : State) (a : Nat) (v : Word) : (s.setWord a v).host = s.host := rfl
@[simp] theorem State.bus_setWord (s : State) (a : Nat) (v : Word) : (s.setWord a v).bus = s.bus := rfl
@[simp] theorem State.evt_setWord (s : State) (a : Nat) (v : Word) : (s.setWord a v).evt = s.evt := rfl
@[simp] theorem State.linkV_setWord (s : State) (a : Nat) (v : Word) : (s.setWord a v).linkV = s.linkV := rfl
@[simp] theorem State.linkF_setWord (s : State) (a : Nat) (v : Word) : (s.setWord a v).linkF = s.linkF := rfl
@[simp] theorem State.lev_setWord (s : State) (a : Nat) (v : Word) : (s.setWord a v).lev = s.lev := rfl
@[simp] theorem State.queues_setWord (s : State) (a : Nat) (v : Word) : (s.setWord a v).queues = s.queues := rfl
@[simp] theorem State.jobs_setWord (s : State) (a : Nat) (v : Word) : (s.setWord a v).jobs = s.jobs := rfl
@[simp] theorem State.lode_setWord (s : State) (a : Nat) (v : Word) : (s.setWord a v).lode = s.lode := rfl
@[simp] theorem State.net_setWord (s : State) (a : Nat) (v : Word) : (s.setWord a v).net = s.net := rfl
@[simp] theorem State.clock_setWord (s : State) (a : Nat) (v : Word) : (s.setWord a v).clock = s.clock := rfl
@[simp] theorem State.cust_setWord (s : State) (a : Nat) (v : Word) : (s.setWord a v).cust = s.cust := rfl
@[simp] theorem State.units_setWord (s : State) (a : Nat) (v : Word) : (s.setWord a v).units = s.units := rfl
@[simp] theorem State.cores_setWord (s : State) (a : Nat) (v : Word) : (s.setWord a v).cores = s.cores := rfl
@[simp] theorem State.gates_setWord (s : State) (a : Nat) (v : Word) : (s.setWord a v).gates = s.gates := rfl
@[simp] theorem State.sluice_setWord (s : State) (a : Nat) (v : Word) : (s.setWord a v).sluice = s.sluice := rfl
@[simp] theorem State.stn_setWord (s : State) (a : Nat) (v : Word) : (s.setWord a v).stn = s.stn := rfl
@[simp] theorem State.line_setWord (s : State) (a : Nat) (v : Word) : (s.setWord a v).line = s.line := rfl
@[simp] theorem State.tamper_setWord (s : State) (a : Nat) (v : Word) : (s.setWord a v).tamper = s.tamper := rfl
@[simp] theorem State.wisp_setWord (s : State) (a : Nat) (v : Word) : (s.setWord a v).wisp = s.wisp := rfl
@[simp] theorem State.flash_setWord (s : State) (a : Nat) (v : Word) : (s.setWord a v).flash = s.flash := rfl
@[simp] theorem State.boot_setWord (s : State) (a : Nat) (v : Word) : (s.setWord a v).boot = s.boot := rfl
@[simp] theorem State.power_setWord (s : State) (a : Nat) (v : Word) : (s.setWord a v).power = s.power := rfl
@[simp] theorem State.diag_setWord (s : State) (a : Nat) (v : Word) : (s.setWord a v).diag = s.diag.written a 1 := rfl
@[simp] theorem State.now_setWord (s : State) (a : Nat) (v : Word) : (s.setWord a v).now = s.now := rfl
@[simp] theorem State.fresh_setWord (s : State) (a : Nat) (v : Word) : (s.setWord a v).fresh = s.fresh := rfl
@[simp] theorem State.pending_setWord (s : State) (a : Nat) (v : Word) : (s.setWord a v).pending = s.pending := rfl

@[simp] theorem State.regs_setWords (s : State) (a : Nat) (l : List Word) : (s.setWords a l).regs = s.regs := rfl
@[simp] theorem State.host_setWords (s : State) (a : Nat) (l : List Word) : (s.setWords a l).host = s.host := rfl
@[simp] theorem State.bus_setWords (s : State) (a : Nat) (l : List Word) : (s.setWords a l).bus = s.bus := rfl
@[simp] theorem State.evt_setWords (s : State) (a : Nat) (l : List Word) : (s.setWords a l).evt = s.evt := rfl
@[simp] theorem State.linkV_setWords (s : State) (a : Nat) (l : List Word) : (s.setWords a l).linkV = s.linkV := rfl
@[simp] theorem State.linkF_setWords (s : State) (a : Nat) (l : List Word) : (s.setWords a l).linkF = s.linkF := rfl
@[simp] theorem State.lev_setWords (s : State) (a : Nat) (l : List Word) : (s.setWords a l).lev = s.lev := rfl
@[simp] theorem State.queues_setWords (s : State) (a : Nat) (l : List Word) : (s.setWords a l).queues = s.queues := rfl
@[simp] theorem State.jobs_setWords (s : State) (a : Nat) (l : List Word) : (s.setWords a l).jobs = s.jobs := rfl
@[simp] theorem State.lode_setWords (s : State) (a : Nat) (l : List Word) : (s.setWords a l).lode = s.lode := rfl
@[simp] theorem State.net_setWords (s : State) (a : Nat) (l : List Word) : (s.setWords a l).net = s.net := rfl
@[simp] theorem State.clock_setWords (s : State) (a : Nat) (l : List Word) : (s.setWords a l).clock = s.clock := rfl
@[simp] theorem State.cust_setWords (s : State) (a : Nat) (l : List Word) : (s.setWords a l).cust = s.cust := rfl
@[simp] theorem State.units_setWords (s : State) (a : Nat) (l : List Word) : (s.setWords a l).units = s.units := rfl
@[simp] theorem State.cores_setWords (s : State) (a : Nat) (l : List Word) : (s.setWords a l).cores = s.cores := rfl
@[simp] theorem State.gates_setWords (s : State) (a : Nat) (l : List Word) : (s.setWords a l).gates = s.gates := rfl
@[simp] theorem State.sluice_setWords (s : State) (a : Nat) (l : List Word) : (s.setWords a l).sluice = s.sluice := rfl
@[simp] theorem State.stn_setWords (s : State) (a : Nat) (l : List Word) : (s.setWords a l).stn = s.stn := rfl
@[simp] theorem State.line_setWords (s : State) (a : Nat) (l : List Word) : (s.setWords a l).line = s.line := rfl
@[simp] theorem State.tamper_setWords (s : State) (a : Nat) (l : List Word) : (s.setWords a l).tamper = s.tamper := rfl
@[simp] theorem State.wisp_setWords (s : State) (a : Nat) (l : List Word) : (s.setWords a l).wisp = s.wisp := rfl
@[simp] theorem State.flash_setWords (s : State) (a : Nat) (l : List Word) : (s.setWords a l).flash = s.flash := rfl
@[simp] theorem State.boot_setWords (s : State) (a : Nat) (l : List Word) : (s.setWords a l).boot = s.boot := rfl
@[simp] theorem State.power_setWords (s : State) (a : Nat) (l : List Word) : (s.setWords a l).power = s.power := rfl
@[simp] theorem State.diag_setWords (s : State) (a : Nat) (l : List Word) : (s.setWords a l).diag = s.diag.written a l.length := rfl
@[simp] theorem State.now_setWords (s : State) (a : Nat) (l : List Word) : (s.setWords a l).now = s.now := rfl
@[simp] theorem State.fresh_setWords (s : State) (a : Nat) (l : List Word) : (s.setWords a l).fresh = s.fresh := rfl
@[simp] theorem State.pending_setWords (s : State) (a : Nat) (l : List Word) : (s.setWords a l).pending = s.pending := rfl

@[simp] theorem State.regs_clearWords (s : State) (a n : Nat) : (s.clearWords a n).regs = s.regs := rfl
@[simp] theorem State.host_clearWords (s : State) (a n : Nat) : (s.clearWords a n).host = s.host := rfl
@[simp] theorem State.bus_clearWords (s : State) (a n : Nat) : (s.clearWords a n).bus = s.bus := rfl
@[simp] theorem State.evt_clearWords (s : State) (a n : Nat) : (s.clearWords a n).evt = s.evt := rfl
@[simp] theorem State.linkV_clearWords (s : State) (a n : Nat) : (s.clearWords a n).linkV = s.linkV := rfl
@[simp] theorem State.linkF_clearWords (s : State) (a n : Nat) : (s.clearWords a n).linkF = s.linkF := rfl
@[simp] theorem State.lev_clearWords (s : State) (a n : Nat) : (s.clearWords a n).lev = s.lev := rfl
@[simp] theorem State.queues_clearWords (s : State) (a n : Nat) : (s.clearWords a n).queues = s.queues := rfl
@[simp] theorem State.jobs_clearWords (s : State) (a n : Nat) : (s.clearWords a n).jobs = s.jobs := rfl
@[simp] theorem State.lode_clearWords (s : State) (a n : Nat) : (s.clearWords a n).lode = s.lode := rfl
@[simp] theorem State.net_clearWords (s : State) (a n : Nat) : (s.clearWords a n).net = s.net := rfl
@[simp] theorem State.clock_clearWords (s : State) (a n : Nat) : (s.clearWords a n).clock = s.clock := rfl
@[simp] theorem State.cust_clearWords (s : State) (a n : Nat) : (s.clearWords a n).cust = s.cust := rfl
@[simp] theorem State.units_clearWords (s : State) (a n : Nat) : (s.clearWords a n).units = s.units := rfl
@[simp] theorem State.cores_clearWords (s : State) (a n : Nat) : (s.clearWords a n).cores = s.cores := rfl
@[simp] theorem State.gates_clearWords (s : State) (a n : Nat) : (s.clearWords a n).gates = s.gates := rfl
@[simp] theorem State.sluice_clearWords (s : State) (a n : Nat) : (s.clearWords a n).sluice = s.sluice := rfl
@[simp] theorem State.stn_clearWords (s : State) (a n : Nat) : (s.clearWords a n).stn = s.stn := rfl
@[simp] theorem State.line_clearWords (s : State) (a n : Nat) : (s.clearWords a n).line = s.line := rfl
@[simp] theorem State.tamper_clearWords (s : State) (a n : Nat) : (s.clearWords a n).tamper = s.tamper := rfl
@[simp] theorem State.wisp_clearWords (s : State) (a n : Nat) : (s.clearWords a n).wisp = s.wisp := rfl
@[simp] theorem State.flash_clearWords (s : State) (a n : Nat) : (s.clearWords a n).flash = s.flash := rfl
@[simp] theorem State.boot_clearWords (s : State) (a n : Nat) : (s.clearWords a n).boot = s.boot := rfl
@[simp] theorem State.power_clearWords (s : State) (a n : Nat) : (s.clearWords a n).power = s.power := rfl
@[simp] theorem State.diag_clearWords (s : State) (a n : Nat) : (s.clearWords a n).diag = s.diag.written a n := rfl
@[simp] theorem State.now_clearWords (s : State) (a n : Nat) : (s.clearWords a n).now = s.now := rfl
@[simp] theorem State.fresh_clearWords (s : State) (a n : Nat) : (s.clearWords a n).fresh = s.fresh := rfl
@[simp] theorem State.pending_clearWords (s : State) (a n : Nat) : (s.clearWords a n).pending = s.pending := rfl

@[simp] theorem State.regs_toHost (s : State) (a : Nat) (l : List Octet) : (s.toHost a l).regs = s.regs := rfl
@[simp] theorem State.mem_toHost (s : State) (a : Nat) (l : List Octet) : (s.toHost a l).mem = s.mem := rfl
@[simp] theorem State.bus_toHost (s : State) (a : Nat) (l : List Octet) : (s.toHost a l).bus = s.bus := rfl
@[simp] theorem State.evt_toHost (s : State) (a : Nat) (l : List Octet) : (s.toHost a l).evt = s.evt := rfl
@[simp] theorem State.linkV_toHost (s : State) (a : Nat) (l : List Octet) : (s.toHost a l).linkV = s.linkV := rfl
@[simp] theorem State.linkF_toHost (s : State) (a : Nat) (l : List Octet) : (s.toHost a l).linkF = s.linkF := rfl
@[simp] theorem State.lev_toHost (s : State) (a : Nat) (l : List Octet) : (s.toHost a l).lev = s.lev := rfl
@[simp] theorem State.queues_toHost (s : State) (a : Nat) (l : List Octet) : (s.toHost a l).queues = s.queues := rfl
@[simp] theorem State.jobs_toHost (s : State) (a : Nat) (l : List Octet) : (s.toHost a l).jobs = s.jobs := rfl
@[simp] theorem State.lode_toHost (s : State) (a : Nat) (l : List Octet) : (s.toHost a l).lode = s.lode := rfl
@[simp] theorem State.net_toHost (s : State) (a : Nat) (l : List Octet) : (s.toHost a l).net = s.net := rfl
@[simp] theorem State.clock_toHost (s : State) (a : Nat) (l : List Octet) : (s.toHost a l).clock = s.clock := rfl
@[simp] theorem State.cust_toHost (s : State) (a : Nat) (l : List Octet) : (s.toHost a l).cust = s.cust := rfl
@[simp] theorem State.units_toHost (s : State) (a : Nat) (l : List Octet) : (s.toHost a l).units = s.units := rfl
@[simp] theorem State.cores_toHost (s : State) (a : Nat) (l : List Octet) : (s.toHost a l).cores = s.cores := rfl
@[simp] theorem State.gates_toHost (s : State) (a : Nat) (l : List Octet) : (s.toHost a l).gates = s.gates := rfl
@[simp] theorem State.sluice_toHost (s : State) (a : Nat) (l : List Octet) : (s.toHost a l).sluice = s.sluice := rfl
@[simp] theorem State.stn_toHost (s : State) (a : Nat) (l : List Octet) : (s.toHost a l).stn = s.stn := rfl
@[simp] theorem State.line_toHost (s : State) (a : Nat) (l : List Octet) : (s.toHost a l).line = s.line := rfl
@[simp] theorem State.tamper_toHost (s : State) (a : Nat) (l : List Octet) : (s.toHost a l).tamper = s.tamper := rfl
@[simp] theorem State.wisp_toHost (s : State) (a : Nat) (l : List Octet) : (s.toHost a l).wisp = s.wisp := rfl
@[simp] theorem State.flash_toHost (s : State) (a : Nat) (l : List Octet) : (s.toHost a l).flash = s.flash := rfl
@[simp] theorem State.boot_toHost (s : State) (a : Nat) (l : List Octet) : (s.toHost a l).boot = s.boot := rfl
@[simp] theorem State.power_toHost (s : State) (a : Nat) (l : List Octet) : (s.toHost a l).power = s.power := rfl
@[simp] theorem State.diag_toHost (s : State) (a : Nat) (l : List Octet) : (s.toHost a l).diag = s.diag := rfl
@[simp] theorem State.now_toHost (s : State) (a : Nat) (l : List Octet) : (s.toHost a l).now = s.now := rfl
@[simp] theorem State.fresh_toHost (s : State) (a : Nat) (l : List Octet) : (s.toHost a l).fresh = s.fresh := rfl
@[simp] theorem State.pending_toHost (s : State) (a : Nat) (l : List Octet) : (s.toHost a l).pending = s.pending := rfl

/-- A register error writes PG_ERR and its two detail words of its page, and nothing else. -/
theorem State.frame_pgErr (s : State) (p b : Nat) (req : Requester) (off : Nat) (d : Word) :
    { s.pgErr p b req off d with regs := s.regs } = s := by
  unfold State.pgErr
  split <;> rfl

end Sys2Proof.Machine
end

