-- ==== Sys2Proof/Laws/PerInstr.lean ====
section
/-! SUPPORT. What holds of every command as syntax: the table gives no row bits, so no word spells the command. -/
open Sys2Proof

/-- No word, of any width, spells the command. -/
def Sys2Proof.Laws.NoWord.Statement (i : Instr) : Prop := ∀ nbits w, decodeTableWord nbits w ≠ some i

theorem Sys2Proof.Laws.NoWord.noWord (i : Instr) : Statement i := fun _ _ h => nomatch h

theorem Sys2Proof.Laws.NoWord.regWrite (req : Requester) (page : Nat) (word : Nat) (width : Width) (val : BitVec 36) : Statement (.regWrite req page word width val) := noWord _
theorem Sys2Proof.Laws.NoWord.reg36LowerRead (req : Requester) (page : Nat) (word : Nat) (acc : Access) : Statement (.reg36LowerRead req page word acc) := noWord _
theorem Sys2Proof.Laws.NoWord.reg36UpperRead (req : Requester) (page : Nat) (word : Nat) (acc : Access) : Statement (.reg36UpperRead req page word acc) := noWord _
theorem Sys2Proof.Laws.NoWord.reg36LowerWrite (req : Requester) (page : Nat) (word : Nat) (val : Word) : Statement (.reg36LowerWrite req page word val) := noWord _
theorem Sys2Proof.Laws.NoWord.reg36UpperWrite (req : Requester) (page : Nat) (word : Nat) (val : Word) : Statement (.reg36UpperWrite req page word val) := noWord _
theorem Sys2Proof.Laws.NoWord.postedWriteSettle (page : Nat) : Statement (.postedWriteSettle page) := noWord _
theorem Sys2Proof.Laws.NoWord.enWrite1 (req : Requester) (page : Nat) : Statement (.enWrite1 req page) := noWord _
theorem Sys2Proof.Laws.NoWord.enWrite0 (req : Requester) (page : Nat) : Statement (.enWrite0 req page) := noWord _
theorem Sys2Proof.Laws.NoWord.stop (req : Requester) (page : Nat) : Statement (.stop req page) := noWord _
theorem Sys2Proof.Laws.NoWord.sreset (req : Requester) (page : Nat) : Statement (.sreset req page) := noWord _
theorem Sys2Proof.Laws.NoWord.shutdownComplete (page : Nat) : Statement (.shutdownComplete page) := noWord _
theorem Sys2Proof.Laws.NoWord.startUpDone (page : Nat) (pass : Bool) (vec : Nat) : Statement (.startUpDone page pass vec) := noWord _
theorem Sys2Proof.Laws.NoWord.pgLockWrite (req : Requester) (page : Nat) : Statement (.pgLockWrite req page) := noWord _
theorem Sys2Proof.Laws.NoWord.eventDeliver (src : Nat) : Statement (.eventDeliver src) := noWord _
theorem Sys2Proof.Laws.NoWord.msixUnmask (vec : Nat) : Statement (.msixUnmask vec) := noWord _
theorem Sys2Proof.Laws.NoWord.routeDataAccess (req : Requester) (wr : Option Word) : Statement (.routeDataAccess req wr) := noWord _
theorem Sys2Proof.Laws.NoWord.lostSrcRead (req : Requester) : Statement (.lostSrcRead req) := noWord _
theorem Sys2Proof.Laws.NoWord.swSetWrite (req : Requester) (idx : Nat) (val : Word) : Statement (.swSetWrite req idx val) := noWord _
theorem Sys2Proof.Laws.NoWord.causewayIdle (dieF : Bool) (far : Bool) : Statement (.causewayIdle dieF far) := noWord _
theorem Sys2Proof.Laws.NoWord.causewayTransferReceive (dieF : Bool) (far : Bool) (payload : List Word) (ctr : BitVec 72) (tag : BitVec 36) : Statement (.causewayTransferReceive dieF far payload ctr tag) := noWord _
theorem Sys2Proof.Laws.NoWord.causewaySilence (dieF : Bool) : Statement (.causewaySilence dieF) := noWord _
theorem Sys2Proof.Laws.NoWord.tailDbWrite (req : Requester) (q : Nat) (val : Word) : Statement (.tailDbWrite req q val) := noWord _
theorem Sys2Proof.Laws.NoWord.entryFetchData (q : Nat) (cells : List Octet) (err : Bool) : Statement (.entryFetchData q cells err) := noWord _
theorem Sys2Proof.Laws.NoWord.hostDataArrive (key : Nat) (cell : Nat) (sg : List Octet) (data : List Octet) (err : Bool) : Statement (.hostDataArrive key cell sg data err) := noWord _
theorem Sys2Proof.Laws.NoWord.hostWriteError (key : Nat) : Statement (.hostWriteError key) := noWord _
theorem Sys2Proof.Laws.NoWord.jobPlace (key : Nat) : Statement (.jobPlace key) := noWord _
theorem Sys2Proof.Laws.NoWord.prqHostError : Statement (.prqHostError) := noWord _
theorem Sys2Proof.Laws.NoWord.jobPark (key : Nat) (done : Nat) : Statement (.jobPark key done) := noWord _
theorem Sys2Proof.Laws.NoWord.jobResume (key : Nat) (rec : List Octet) (err : Bool) : Statement (.jobResume key rec err) := noWord _
theorem Sys2Proof.Laws.NoWord.sessionMigrate (sess : Nat) : Statement (.sessionMigrate sess) := noWord _
theorem Sys2Proof.Laws.NoWord.headPublish (q : Nat) : Statement (.headPublish q) := noWord _
theorem Sys2Proof.Laws.NoWord.irqModTimer (q : Nat) : Statement (.irqModTimer q) := noWord _
theorem Sys2Proof.Laws.NoWord.wqNop (key : Nat) : Statement (.wqNop key) := noWord _
theorem Sys2Proof.Laws.NoWord.placeCommit (req : Requester) : Statement (.placeCommit req) := noWord _
theorem Sys2Proof.Laws.NoWord.placeDiscard (req : Requester) : Statement (.placeDiscard req) := noWord _
theorem Sys2Proof.Laws.NoWord.placeLookup (req : Requester) : Statement (.placeLookup req) := noWord _
theorem Sys2Proof.Laws.NoWord.lookupDone : Statement (.lookupDone) := noWord _
theorem Sys2Proof.Laws.NoWord.recomputeDone : Statement (.recomputeDone) := noWord _
theorem Sys2Proof.Laws.NoWord.membershipFrameReceive (src : Nat) (epoch : BitVec 18) (members : List (Nat × Word)) (ovrs : List (Nat × Word × Word × Word × Word)) (salt : Option (BitVec 36)) : Statement (.membershipFrameReceive src epoch members ovrs salt) := noWord _
theorem Sys2Proof.Laws.NoWord.resyncReceive (epoch : BitVec 18) (members : List (Nat × Word)) (ovrs : List (Nat × Word × Word × Word × Word)) (salt : BitVec 36) : Statement (.resyncReceive epoch members ovrs salt) := noWord _
theorem Sys2Proof.Laws.NoWord.forwardReceive (origin : Nat) (tag : Nat) (epoch : BitVec 18) (cls : Nat) (resWait : Bool) (rdyWait : Bool) (qkey : BitVec 16) (gb : Bool) (cells : List Octet) (data : List (Nat × List Octet)) (verdict : Nat) (ctx : Option (List Word)) : Statement (.forwardReceive origin tag epoch cls resWait rdyWait qkey gb cells data verdict ctx) := noWord _
theorem Sys2Proof.Laws.NoWord.moved (tag : Nat) (epoch : BitVec 18) : Statement (.moved tag epoch) := noWord _
theorem Sys2Proof.Laws.NoWord.forwardAckReceive (src : Nat) (tag : Nat) : Statement (.forwardAckReceive src tag) := noWord _
theorem Sys2Proof.Laws.NoWord.forwardTimeout (tag : Nat) : Statement (.forwardTimeout tag) := noWord _
theorem Sys2Proof.Laws.NoWord.heartbeat (dst : Nat) : Statement (.heartbeat dst) := noWord _
theorem Sys2Proof.Laws.NoWord.forwardResultReceive (src : Nat) (tag : Nat) (status : Nat) (octets : List Octet) (outs : List (Nat × List Octet)) (ctx : Option (List Word)) : Statement (.forwardResultReceive src tag status octets outs ctx) := noWord _
theorem Sys2Proof.Laws.NoWord.resultAckReceive (src : Nat) (tag : Nat) : Statement (.resultAckReceive src tag) := noWord _
theorem Sys2Proof.Laws.NoWord.forwardAbortReceive (src : Nat) (tag : Nat) : Statement (.forwardAbortReceive src tag) := noWord _
theorem Sys2Proof.Laws.NoWord.forwardAbortAck (q : Nat) (tag : Nat) : Statement (.forwardAbortAck q tag) := noWord _
theorem Sys2Proof.Laws.NoWord.flitReceive (port : Nat) (flit : List Octet) : Statement (.flitReceive port flit) := noWord _
theorem Sys2Proof.Laws.NoWord.nakReceive (port : Nat) : Statement (.nakReceive port) := noWord _
theorem Sys2Proof.Laws.NoWord.denletMessageReceive (port : Nat) (len : Nat) (dst : Nat) : Statement (.denletMessageReceive port len dst) := noWord _
theorem Sys2Proof.Laws.NoWord.linkRekey (port : Nat) (tx : Bool) : Statement (.linkRekey port tx) := noWord _
theorem Sys2Proof.Laws.NoWord.denletSilence (port : Nat) : Statement (.denletSilence port) := noWord _
theorem Sys2Proof.Laws.NoWord.trainDone (port : Nat) (ok : Bool) : Statement (.trainDone port ok) := noWord _
theorem Sys2Proof.Laws.NoWord.attestDone (port : Nat) (certOk : Bool) (anchors : List Octet) (sigOk : Bool) (peer : Nat) (epoch : BitVec 18) : Statement (.attestDone port certOk anchors sigOk peer epoch) := noWord _
theorem Sys2Proof.Laws.NoWord.eqIdleInsert (port : Nat) : Statement (.eqIdleInsert port) := noWord _
theorem Sys2Proof.Laws.NoWord.dnlxRouteDataAccess (req : Requester) (wr : Option Word) : Statement (.dnlxRouteDataAccess req wr) := noWord _
theorem Sys2Proof.Laws.NoWord.timeExchange (port : Nat) (t1 : Nat) (t2 : Nat) (t3 : Nat) (t4 : Nat) : Statement (.timeExchange port t1 t2 t3 t4) := noWord _
theorem Sys2Proof.Laws.NoWord.timeMasterLoss : Statement (.timeMasterLoss) := noWord _
theorem Sys2Proof.Laws.NoWord.timeSet (req : Requester) (val : Word) : Statement (.timeSet req val) := noWord _
theorem Sys2Proof.Laws.NoWord.systimeRead (req : Requester) : Statement (.systimeRead req) := noWord _
theorem Sys2Proof.Laws.NoWord.healthFail (last : List Octet) (window : List Octet) : Statement (.healthFail last window) := noWord _
theorem Sys2Proof.Laws.NoWord.drbgReseed (inst : Nat) : Statement (.drbgReseed inst) := noWord _
theorem Sys2Proof.Laws.NoWord.sessOpen (key : Nat) : Statement (.sessOpen key) := noWord _
theorem Sys2Proof.Laws.NoWord.sessClose (key : Nat) : Statement (.sessClose key) := noWord _
theorem Sys2Proof.Laws.NoWord.sessRekey (key : Nat) : Statement (.sessRekey key) := noWord _
theorem Sys2Proof.Laws.NoWord.pageLoad (key : Nat) : Statement (.pageLoad key) := noWord _
theorem Sys2Proof.Laws.NoWord.chunkVerify (key : Nat) (chunk : Nat) (data : List Octet) (err : Bool) : Statement (.chunkVerify key chunk data err) := noWord _
theorem Sys2Proof.Laws.NoWord.pageEvict (key : Nat) : Statement (.pageEvict key) := noWord _
theorem Sys2Proof.Laws.NoWord.evictWrite (key : Nat) : Statement (.evictWrite key) := noWord _
theorem Sys2Proof.Laws.NoWord.credWrite (key : Nat) : Statement (.credWrite key) := noWord _
theorem Sys2Proof.Laws.NoWord.credDerive (key : Nat) : Statement (.credDerive key) := noWord _
theorem Sys2Proof.Laws.NoWord.credRetire (key : Nat) : Statement (.credRetire key) := noWord _
theorem Sys2Proof.Laws.NoWord.reclaim (key : Nat) : Statement (.reclaim key) := noWord _
theorem Sys2Proof.Laws.NoWord.slotGenerate (key : Nat) : Statement (.slotGenerate key) := noWord _
theorem Sys2Proof.Laws.NoWord.slotUnwrap (key : Nat) : Statement (.slotUnwrap key) := noWord _
theorem Sys2Proof.Laws.NoWord.slotWrap (key : Nat) : Statement (.slotWrap key) := noWord _
theorem Sys2Proof.Laws.NoWord.slotDerive (key : Nat) : Statement (.slotDerive key) := noWord _
theorem Sys2Proof.Laws.NoWord.slotDestroy (key : Nat) : Statement (.slotDestroy key) := noWord _
theorem Sys2Proof.Laws.NoWord.slotInfo (key : Nat) : Statement (.slotInfo key) := noWord _
theorem Sys2Proof.Laws.NoWord.rngGet (key : Nat) : Statement (.rngGet key) := noWord _
theorem Sys2Proof.Laws.NoWord.journalCompact : Statement (.journalCompact) := noWord _
theorem Sys2Proof.Laws.NoWord.qkeyDataWrite (req : Requester) (val : Word) : Statement (.qkeyDataWrite req val) := noWord _
theorem Sys2Proof.Laws.NoWord.cerCommission (req : Requester) : Statement (.cerCommission req) := noWord _
theorem Sys2Proof.Laws.NoWord.cerEnrolDomain (req : Requester) : Statement (.cerEnrolDomain req) := noWord _
theorem Sys2Proof.Laws.NoWord.cerSetTamper (req : Requester) : Statement (.cerSetTamper req) := noWord _
theorem Sys2Proof.Laws.NoWord.cerLeaveGb (req : Requester) : Statement (.cerLeaveGb req) := noWord _
theorem Sys2Proof.Laws.NoWord.cerRetire (req : Requester) : Statement (.cerRetire req) := noWord _
theorem Sys2Proof.Laws.NoWord.cerCustodians (req : Requester) : Statement (.cerCustodians req) := noWord _
theorem Sys2Proof.Laws.NoWord.cerCancel (req : Requester) : Statement (.cerCancel req) := noWord _
theorem Sys2Proof.Laws.NoWord.custodianCardProcess (stn : Nat) (pubkey : List Octet) (sig : List Octet) (comp : List Octet) (fail : Option Nat) : Statement (.custodianCardProcess stn pubkey sig comp fail) := noWord _
theorem Sys2Proof.Laws.NoWord.ceremonyTimeout : Statement (.ceremonyTimeout) := noWord _
theorem Sys2Proof.Laws.NoWord.ecbEnc (key : Nat) (chk : UnitCheck) : Statement (.ecbEnc key chk) := noWord _
theorem Sys2Proof.Laws.NoWord.ecbDec (key : Nat) (chk : UnitCheck) : Statement (.ecbDec key chk) := noWord _
theorem Sys2Proof.Laws.NoWord.cbcEnc (key : Nat) (chk : UnitCheck) : Statement (.cbcEnc key chk) := noWord _
theorem Sys2Proof.Laws.NoWord.cbcDec (key : Nat) (chk : UnitCheck) : Statement (.cbcDec key chk) := noWord _
theorem Sys2Proof.Laws.NoWord.ctr (key : Nat) (chk : UnitCheck) : Statement (.ctr key chk) := noWord _
theorem Sys2Proof.Laws.NoWord.gcmEnc (key : Nat) (chk : UnitCheck) : Statement (.gcmEnc key chk) := noWord _
theorem Sys2Proof.Laws.NoWord.gcmDec (key : Nat) (chk : UnitCheck) : Statement (.gcmDec key chk) := noWord _
theorem Sys2Proof.Laws.NoWord.ccmEnc (key : Nat) (chk : UnitCheck) : Statement (.ccmEnc key chk) := noWord _
theorem Sys2Proof.Laws.NoWord.ccmDec (key : Nat) (chk : UnitCheck) : Statement (.ccmDec key chk) := noWord _
theorem Sys2Proof.Laws.NoWord.cmacGen (key : Nat) (chk : UnitCheck) : Statement (.cmacGen key chk) := noWord _
theorem Sys2Proof.Laws.NoWord.cmacVer (key : Nat) (chk : UnitCheck) : Statement (.cmacVer key chk) := noWord _
theorem Sys2Proof.Laws.NoWord.kwWrap (key : Nat) (chk : UnitCheck) : Statement (.kwWrap key chk) := noWord _
theorem Sys2Proof.Laws.NoWord.kwUnwrap (key : Nat) (chk : UnitCheck) : Statement (.kwUnwrap key chk) := noWord _
theorem Sys2Proof.Laws.NoWord.kwpWrap (key : Nat) (chk : UnitCheck) : Statement (.kwpWrap key chk) := noWord _
theorem Sys2Proof.Laws.NoWord.kwpUnwrap (key : Nat) (chk : UnitCheck) : Statement (.kwpUnwrap key chk) := noWord _
theorem Sys2Proof.Laws.NoWord.akaMilenage (key : Nat) (chk : UnitCheck) : Statement (.akaMilenage key chk) := noWord _
theorem Sys2Proof.Laws.NoWord.akaResync (key : Nat) (chk : UnitCheck) : Statement (.akaResync key chk) := noWord _
theorem Sys2Proof.Laws.NoWord.sha224 (key : Nat) (chk : UnitCheck) : Statement (.sha224 key chk) := noWord _
theorem Sys2Proof.Laws.NoWord.sha256 (key : Nat) (chk : UnitCheck) : Statement (.sha256 key chk) := noWord _
theorem Sys2Proof.Laws.NoWord.sha384 (key : Nat) (chk : UnitCheck) : Statement (.sha384 key chk) := noWord _
theorem Sys2Proof.Laws.NoWord.sha512 (key : Nat) (chk : UnitCheck) : Statement (.sha512 key chk) := noWord _
theorem Sys2Proof.Laws.NoWord.sha3224 (key : Nat) (chk : UnitCheck) : Statement (.sha3224 key chk) := noWord _
theorem Sys2Proof.Laws.NoWord.sha3256 (key : Nat) (chk : UnitCheck) : Statement (.sha3256 key chk) := noWord _
theorem Sys2Proof.Laws.NoWord.sha3384 (key : Nat) (chk : UnitCheck) : Statement (.sha3384 key chk) := noWord _
theorem Sys2Proof.Laws.NoWord.sha3512 (key : Nat) (chk : UnitCheck) : Statement (.sha3512 key chk) := noWord _
theorem Sys2Proof.Laws.NoWord.shake128 (key : Nat) (chk : UnitCheck) : Statement (.shake128 key chk) := noWord _
theorem Sys2Proof.Laws.NoWord.shake256 (key : Nat) (chk : UnitCheck) : Statement (.shake256 key chk) := noWord _
theorem Sys2Proof.Laws.NoWord.hmacGen (key : Nat) : Statement (.hmacGen key) := noWord _
theorem Sys2Proof.Laws.NoWord.hmacVer (key : Nat) : Statement (.hmacVer key) := noWord _
theorem Sys2Proof.Laws.NoWord.gbHmac (key : Nat) (chk : UnitCheck) : Statement (.gbHmac key chk) := noWord _
theorem Sys2Proof.Laws.NoWord.resultRead (req : Requester) (unit : Nat) (idx : Nat) : Statement (.resultRead req unit idx) := noWord _
theorem Sys2Proof.Laws.NoWord.windowExpired (unit : Nat) : Statement (.windowExpired unit) := noWord _
theorem Sys2Proof.Laws.NoWord.bnModexp (key : Nat) (chk : UnitCheck) : Statement (.bnModexp key chk) := noWord _
theorem Sys2Proof.Laws.NoWord.bnModmul (key : Nat) (chk : UnitCheck) : Statement (.bnModmul key chk) := noWord _
theorem Sys2Proof.Laws.NoWord.bnModadd (key : Nat) (chk : UnitCheck) : Statement (.bnModadd key chk) := noWord _
theorem Sys2Proof.Laws.NoWord.bnModsub (key : Nat) (chk : UnitCheck) : Statement (.bnModsub key chk) := noWord _
theorem Sys2Proof.Laws.NoWord.bnModinv (key : Nat) (chk : UnitCheck) : Statement (.bnModinv key chk) := noWord _
theorem Sys2Proof.Laws.NoWord.bnCurvechk (key : Nat) (chk : UnitCheck) : Statement (.bnCurvechk key chk) := noWord _
theorem Sys2Proof.Laws.NoWord.bnProgramEnqueue (key : Nat) : Statement (.bnProgramEnqueue key) := noWord _
theorem Sys2Proof.Laws.NoWord.load (unit : Nat) (chk : UnitCheck) : Statement (.load unit chk) := noWord _
theorem Sys2Proof.Laws.NoWord.store (unit : Nat) (chk : UnitCheck) : Statement (.store unit chk) := noWord _
theorem Sys2Proof.Laws.NoWord.convert (unit : Nat) (chk : UnitCheck) : Statement (.convert unit chk) := noWord _
theorem Sys2Proof.Laws.NoWord.toMont (unit : Nat) (chk : UnitCheck) : Statement (.toMont unit chk) := noWord _
theorem Sys2Proof.Laws.NoWord.fromMont (unit : Nat) (chk : UnitCheck) : Statement (.fromMont unit chk) := noWord _
theorem Sys2Proof.Laws.NoWord.modadd (unit : Nat) (chk : UnitCheck) : Statement (.modadd unit chk) := noWord _
theorem Sys2Proof.Laws.NoWord.modsub (unit : Nat) (chk : UnitCheck) : Statement (.modsub unit chk) := noWord _
theorem Sys2Proof.Laws.NoWord.modmul (unit : Nat) (chk : UnitCheck) : Statement (.modmul unit chk) := noWord _
theorem Sys2Proof.Laws.NoWord.modinv (unit : Nat) (chk : UnitCheck) : Statement (.modinv unit chk) := noWord _
theorem Sys2Proof.Laws.NoWord.modexp (unit : Nat) (chk : UnitCheck) : Statement (.modexp unit chk) := noWord _
theorem Sys2Proof.Laws.NoWord.curvechk (unit : Nat) (chk : UnitCheck) : Statement (.curvechk unit chk) := noWord _
theorem Sys2Proof.Laws.NoWord.bnYield (unit : Nat) (done : Nat) : Statement (.bnYield unit done) := noWord _
theorem Sys2Proof.Laws.NoWord.bnAbort (key : Nat) : Statement (.bnAbort key) := noWord _
theorem Sys2Proof.Laws.NoWord.refuseRead (req : Requester) (unit : Nat) : Statement (.refuseRead req unit) := noWord _
theorem Sys2Proof.Laws.NoWord.kNop (core : Nat) (pre : List (BitVec 9)) (w : Word) : Statement (.kNop core pre w) := noWord _
theorem Sys2Proof.Laws.NoWord.kRfe (core : Nat) (pre : List (BitVec 9)) (w : Word) : Statement (.kRfe core pre w) := noWord _
theorem Sys2Proof.Laws.NoWord.kSync (core : Nat) (pre : List (BitVec 9)) (w : Word) : Statement (.kSync core pre w) := noWord _
theorem Sys2Proof.Laws.NoWord.kWaiti (core : Nat) (pre : List (BitVec 9)) (w : Word) : Statement (.kWaiti core pre w) := noWord _
theorem Sys2Proof.Laws.NoWord.kBreak (core : Nat) (pre : List (BitVec 9)) (w : Word) : Statement (.kBreak core pre w) := noWord _
theorem Sys2Proof.Laws.NoWord.kCtxsw (core : Nat) (pre : List (BitVec 9)) (w : Word) : Statement (.kCtxsw core pre w) := noWord _
theorem Sys2Proof.Laws.NoWord.kJget (core : Nat) (pre : List (BitVec 9)) (w : Word) : Statement (.kJget core pre w) := noWord _
theorem Sys2Proof.Laws.NoWord.kSavectx (core : Nat) (pre : List (BitVec 9)) (w : Word) : Statement (.kSavectx core pre w) := noWord _
theorem Sys2Proof.Laws.NoWord.kLoadctx (core : Nat) (pre : List (BitVec 9)) (w : Word) : Statement (.kLoadctx core pre w) := noWord _
theorem Sys2Proof.Laws.NoWord.kJdone (core : Nat) (pre : List (BitVec 9)) (w : Word) : Statement (.kJdone core pre w) := noWord _
theorem Sys2Proof.Laws.NoWord.kMov (core : Nat) (pre : List (BitVec 9)) (w : Word) : Statement (.kMov core pre w) := noWord _
theorem Sys2Proof.Laws.NoWord.kAdd (core : Nat) (pre : List (BitVec 9)) (w : Word) : Statement (.kAdd core pre w) := noWord _
theorem Sys2Proof.Laws.NoWord.kSub (core : Nat) (pre : List (BitVec 9)) (w : Word) : Statement (.kSub core pre w) := noWord _
theorem Sys2Proof.Laws.NoWord.kAddx (core : Nat) (pre : List (BitVec 9)) (w : Word) : Statement (.kAddx core pre w) := noWord _
theorem Sys2Proof.Laws.NoWord.kSubx (core : Nat) (pre : List (BitVec 9)) (w : Word) : Statement (.kSubx core pre w) := noWord _
theorem Sys2Proof.Laws.NoWord.kAnd (core : Nat) (pre : List (BitVec 9)) (w : Word) : Statement (.kAnd core pre w) := noWord _
theorem Sys2Proof.Laws.NoWord.kOr (core : Nat) (pre : List (BitVec 9)) (w : Word) : Statement (.kOr core pre w) := noWord _
theorem Sys2Proof.Laws.NoWord.kXor (core : Nat) (pre : List (BitVec 9)) (w : Word) : Statement (.kXor core pre w) := noWord _
theorem Sys2Proof.Laws.NoWord.kAndn (core : Nat) (pre : List (BitVec 9)) (w : Word) : Statement (.kAndn core pre w) := noWord _
theorem Sys2Proof.Laws.NoWord.kShl (core : Nat) (pre : List (BitVec 9)) (w : Word) : Statement (.kShl core pre w) := noWord _
theorem Sys2Proof.Laws.NoWord.kShr (core : Nat) (pre : List (BitVec 9)) (w : Word) : Statement (.kShr core pre w) := noWord _
theorem Sys2Proof.Laws.NoWord.kSar (core : Nat) (pre : List (BitVec 9)) (w : Word) : Statement (.kSar core pre w) := noWord _
theorem Sys2Proof.Laws.NoWord.kRol (core : Nat) (pre : List (BitVec 9)) (w : Word) : Statement (.kRol core pre w) := noWord _
theorem Sys2Proof.Laws.NoWord.kMul (core : Nat) (pre : List (BitVec 9)) (w : Word) : Statement (.kMul core pre w) := noWord _
theorem Sys2Proof.Laws.NoWord.kMulh (core : Nat) (pre : List (BitVec 9)) (w : Word) : Statement (.kMulh core pre w) := noWord _
theorem Sys2Proof.Laws.NoWord.kMulhs (core : Nat) (pre : List (BitVec 9)) (w : Word) : Statement (.kMulhs core pre w) := noWord _
theorem Sys2Proof.Laws.NoWord.kMull (core : Nat) (pre : List (BitVec 9)) (w : Word) : Statement (.kMull core pre w) := noWord _
theorem Sys2Proof.Laws.NoWord.kBrev (core : Nat) (pre : List (BitVec 9)) (w : Word) : Statement (.kBrev core pre w) := noWord _
theorem Sys2Proof.Laws.NoWord.kClz (core : Nat) (pre : List (BitVec 9)) (w : Word) : Statement (.kClz core pre w) := noWord _
theorem Sys2Proof.Laws.NoWord.kPopc (core : Nat) (pre : List (BitVec 9)) (w : Word) : Statement (.kPopc core pre w) := noWord _
theorem Sys2Proof.Laws.NoWord.kOcthi (core : Nat) (pre : List (BitVec 9)) (w : Word) : Statement (.kOcthi core pre w) := noWord _
theorem Sys2Proof.Laws.NoWord.kOctlo (core : Nat) (pre : List (BitVec 9)) (w : Word) : Statement (.kOctlo core pre w) := noWord _
theorem Sys2Proof.Laws.NoWord.kOctpk (core : Nat) (pre : List (BitVec 9)) (w : Word) : Statement (.kOctpk core pre w) := noWord _
theorem Sys2Proof.Laws.NoWord.kMovd (core : Nat) (pre : List (BitVec 9)) (w : Word) : Statement (.kMovd core pre w) := noWord _
theorem Sys2Proof.Laws.NoWord.kAddd (core : Nat) (pre : List (BitVec 9)) (w : Word) : Statement (.kAddd core pre w) := noWord _
theorem Sys2Proof.Laws.NoWord.kSubd (core : Nat) (pre : List (BitVec 9)) (w : Word) : Statement (.kSubd core pre w) := noWord _
theorem Sys2Proof.Laws.NoWord.kMova (core : Nat) (pre : List (BitVec 9)) (w : Word) : Statement (.kMova core pre w) := noWord _
theorem Sys2Proof.Laws.NoWord.kMovda (core : Nat) (pre : List (BitVec 9)) (w : Word) : Statement (.kMovda core pre w) := noWord _
theorem Sys2Proof.Laws.NoWord.kAdda (core : Nat) (pre : List (BitVec 9)) (w : Word) : Statement (.kAdda core pre w) := noWord _
theorem Sys2Proof.Laws.NoWord.kShld (core : Nat) (pre : List (BitVec 9)) (w : Word) : Statement (.kShld core pre w) := noWord _
theorem Sys2Proof.Laws.NoWord.kShrd (core : Nat) (pre : List (BitVec 9)) (w : Word) : Statement (.kShrd core pre w) := noWord _
theorem Sys2Proof.Laws.NoWord.kCmpeq (core : Nat) (pre : List (BitVec 9)) (w : Word) : Statement (.kCmpeq core pre w) := noWord _
theorem Sys2Proof.Laws.NoWord.kCmplt (core : Nat) (pre : List (BitVec 9)) (w : Word) : Statement (.kCmplt core pre w) := noWord _
theorem Sys2Proof.Laws.NoWord.kCmpltu (core : Nat) (pre : List (BitVec 9)) (w : Word) : Statement (.kCmpltu core pre w) := noWord _
theorem Sys2Proof.Laws.NoWord.kPand (core : Nat) (pre : List (BitVec 9)) (w : Word) : Statement (.kPand core pre w) := noWord _
theorem Sys2Proof.Laws.NoWord.kPor (core : Nat) (pre : List (BitVec 9)) (w : Word) : Statement (.kPor core pre w) := noWord _
theorem Sys2Proof.Laws.NoWord.kPxor (core : Nat) (pre : List (BitVec 9)) (w : Word) : Statement (.kPxor core pre w) := noWord _
theorem Sys2Proof.Laws.NoWord.kPandn (core : Nat) (pre : List (BitVec 9)) (w : Word) : Statement (.kPandn core pre w) := noWord _
theorem Sys2Proof.Laws.NoWord.kMovi (core : Nat) (pre : List (BitVec 9)) (w : Word) : Statement (.kMovi core pre w) := noWord _
theorem Sys2Proof.Laws.NoWord.kAddi (core : Nat) (pre : List (BitVec 9)) (w : Word) : Statement (.kAddi core pre w) := noWord _
theorem Sys2Proof.Laws.NoWord.kAndi (core : Nat) (pre : List (BitVec 9)) (w : Word) : Statement (.kAndi core pre w) := noWord _
theorem Sys2Proof.Laws.NoWord.kOri (core : Nat) (pre : List (BitVec 9)) (w : Word) : Statement (.kOri core pre w) := noWord _
theorem Sys2Proof.Laws.NoWord.kXori (core : Nat) (pre : List (BitVec 9)) (w : Word) : Statement (.kXori core pre w) := noWord _
theorem Sys2Proof.Laws.NoWord.kShli (core : Nat) (pre : List (BitVec 9)) (w : Word) : Statement (.kShli core pre w) := noWord _
theorem Sys2Proof.Laws.NoWord.kShri (core : Nat) (pre : List (BitVec 9)) (w : Word) : Statement (.kShri core pre w) := noWord _
theorem Sys2Proof.Laws.NoWord.kSari (core : Nat) (pre : List (BitVec 9)) (w : Word) : Statement (.kSari core pre w) := noWord _
theorem Sys2Proof.Laws.NoWord.kMuli (core : Nat) (pre : List (BitVec 9)) (w : Word) : Statement (.kMuli core pre w) := noWord _
theorem Sys2Proof.Laws.NoWord.kMovid (core : Nat) (pre : List (BitVec 9)) (w : Word) : Statement (.kMovid core pre w) := noWord _
theorem Sys2Proof.Laws.NoWord.kAddid (core : Nat) (pre : List (BitVec 9)) (w : Word) : Statement (.kAddid core pre w) := noWord _
theorem Sys2Proof.Laws.NoWord.kAddia (core : Nat) (pre : List (BitVec 9)) (w : Word) : Statement (.kAddia core pre w) := noWord _
theorem Sys2Proof.Laws.NoWord.kMovia (core : Nat) (pre : List (BitVec 9)) (w : Word) : Statement (.kMovia core pre w) := noWord _
theorem Sys2Proof.Laws.NoWord.kLeapc (core : Nat) (pre : List (BitVec 9)) (w : Word) : Statement (.kLeapc core pre w) := noWord _
theorem Sys2Proof.Laws.NoWord.kUcmdCipher (core : Nat) (pre : List (BitVec 9)) (w : Word) : Statement (.kUcmdCipher core pre w) := noWord _
theorem Sys2Proof.Laws.NoWord.kUcmdDigest (core : Nat) (pre : List (BitVec 9)) (w : Word) : Statement (.kUcmdDigest core pre w) := noWord _
theorem Sys2Proof.Laws.NoWord.kUcmdBignum (core : Nat) (pre : List (BitVec 9)) (w : Word) : Statement (.kUcmdBignum core pre w) := noWord _
theorem Sys2Proof.Laws.NoWord.kUcmdHostRead (core : Nat) (pre : List (BitVec 9)) (w : Word) : Statement (.kUcmdHostRead core pre w) := noWord _
theorem Sys2Proof.Laws.NoWord.kUcmdHostWrite (core : Nat) (pre : List (BitVec 9)) (w : Word) : Statement (.kUcmdHostWrite core pre w) := noWord _
theorem Sys2Proof.Laws.NoWord.kUcmdComplete (key : Nat) (chk : UnitCheck) : Statement (.kUcmdComplete key chk) := noWord _
theorem Sys2Proof.Laws.NoWord.kLd (core : Nat) (pre : List (BitVec 9)) (w : Word) : Statement (.kLd core pre w) := noWord _
theorem Sys2Proof.Laws.NoWord.kSt (core : Nat) (pre : List (BitVec 9)) (w : Word) : Statement (.kSt core pre w) := noWord _
theorem Sys2Proof.Laws.NoWord.kLdd (core : Nat) (pre : List (BitVec 9)) (w : Word) : Statement (.kLdd core pre w) := noWord _
theorem Sys2Proof.Laws.NoWord.kStd (core : Nat) (pre : List (BitVec 9)) (w : Word) : Statement (.kStd core pre w) := noWord _
theorem Sys2Proof.Laws.NoWord.kLda (core : Nat) (pre : List (BitVec 9)) (w : Word) : Statement (.kLda core pre w) := noWord _
theorem Sys2Proof.Laws.NoWord.kSta (core : Nat) (pre : List (BitVec 9)) (w : Word) : Statement (.kSta core pre w) := noWord _
theorem Sys2Proof.Laws.NoWord.kLea (core : Nat) (pre : List (BitVec 9)) (w : Word) : Statement (.kLea core pre w) := noWord _
theorem Sys2Proof.Laws.NoWord.kSwap (core : Nat) (pre : List (BitVec 9)) (w : Word) : Statement (.kSwap core pre w) := noWord _
theorem Sys2Proof.Laws.NoWord.kBr (core : Nat) (pre : List (BitVec 9)) (w : Word) : Statement (.kBr core pre w) := noWord _
theorem Sys2Proof.Laws.NoWord.kCall (core : Nat) (pre : List (BitVec 9)) (w : Word) : Statement (.kCall core pre w) := noWord _
theorem Sys2Proof.Laws.NoWord.kJr (core : Nat) (pre : List (BitVec 9)) (w : Word) : Statement (.kJr core pre w) := noWord _
theorem Sys2Proof.Laws.NoWord.kCallr (core : Nat) (pre : List (BitVec 9)) (w : Word) : Statement (.kCallr core pre w) := noWord _
theorem Sys2Proof.Laws.NoWord.kLoop (core : Nat) (pre : List (BitVec 9)) (w : Word) : Statement (.kLoop core pre w) := noWord _
theorem Sys2Proof.Laws.NoWord.kLoopi (core : Nat) (pre : List (BitVec 9)) (w : Word) : Statement (.kLoopi core pre w) := noWord _
theorem Sys2Proof.Laws.NoWord.kTrap (core : Nat) (pre : List (BitVec 9)) (w : Word) : Statement (.kTrap core pre w) := noWord _
theorem Sys2Proof.Laws.NoWord.kMovsFromSpecial (core : Nat) (pre : List (BitVec 9)) (w : Word) : Statement (.kMovsFromSpecial core pre w) := noWord _
theorem Sys2Proof.Laws.NoWord.kMovsToSpecial (core : Nat) (pre : List (BitVec 9)) (w : Word) : Statement (.kMovsToSpecial core pre w) := noWord _
theorem Sys2Proof.Laws.NoWord.kVadd (core : Nat) (pre : List (BitVec 9)) (w : Word) : Statement (.kVadd core pre w) := noWord _
theorem Sys2Proof.Laws.NoWord.kVsub (core : Nat) (pre : List (BitVec 9)) (w : Word) : Statement (.kVsub core pre w) := noWord _
theorem Sys2Proof.Laws.NoWord.kVmul (core : Nat) (pre : List (BitVec 9)) (w : Word) : Statement (.kVmul core pre w) := noWord _
theorem Sys2Proof.Laws.NoWord.kVbfly (core : Nat) (pre : List (BitVec 9)) (w : Word) : Statement (.kVbfly core pre w) := noWord _
theorem Sys2Proof.Laws.NoWord.kVgs (core : Nat) (pre : List (BitVec 9)) (w : Word) : Statement (.kVgs core pre w) := noWord _
theorem Sys2Proof.Laws.NoWord.kVperm (core : Nat) (pre : List (BitVec 9)) (w : Word) : Statement (.kVperm core pre w) := noWord _
theorem Sys2Proof.Laws.NoWord.kVld (core : Nat) (pre : List (BitVec 9)) (w : Word) : Statement (.kVld core pre w) := noWord _
theorem Sys2Proof.Laws.NoWord.kVst (core : Nat) (pre : List (BitVec 9)) (w : Word) : Statement (.kVst core pre w) := noWord _
theorem Sys2Proof.Laws.NoWord.kVldb (core : Nat) (pre : List (BitVec 9)) (w : Word) : Statement (.kVldb core pre w) := noWord _
theorem Sys2Proof.Laws.NoWord.kVmov (core : Nat) (pre : List (BitVec 9)) (w : Word) : Statement (.kVmov core pre w) := noWord _
theorem Sys2Proof.Laws.NoWord.kVsplat (core : Nat) (pre : List (BitVec 9)) (w : Word) : Statement (.kVsplat core pre w) := noWord _
theorem Sys2Proof.Laws.NoWord.kVext (core : Nat) (pre : List (BitVec 9)) (w : Word) : Statement (.kVext core pre w) := noWord _
theorem Sys2Proof.Laws.NoWord.kVins (core : Nat) (pre : List (BitVec 9)) (w : Word) : Statement (.kVins core pre w) := noWord _
theorem Sys2Proof.Laws.NoWord.interruptEntry (core : Nat) : Statement (.interruptEntry core) := noWord _
theorem Sys2Proof.Laws.NoWord.lockstepMismatch (core : Nat) : Statement (.lockstepMismatch core) := noWord _
theorem Sys2Proof.Laws.NoWord.compositeAbort (core : Nat) : Statement (.compositeAbort core) := noWord _
theorem Sys2Proof.Laws.NoWord.abortTimeout (core : Nat) : Statement (.abortTimeout core) := noWord _
theorem Sys2Proof.Laws.NoWord.vfailRead (req : Requester) (core : Nat) : Statement (.vfailRead req core) := noWord _
theorem Sys2Proof.Laws.NoWord.rsaCrt (key : Nat) : Statement (.rsaCrt key) := noWord _
theorem Sys2Proof.Laws.NoWord.ecdsaP256Sign (key : Nat) : Statement (.ecdsaP256Sign key) := noWord _
theorem Sys2Proof.Laws.NoWord.ecdsaP256Ver (key : Nat) : Statement (.ecdsaP256Ver key) := noWord _
theorem Sys2Proof.Laws.NoWord.ecdsaP384Ver (key : Nat) : Statement (.ecdsaP384Ver key) := noWord _
theorem Sys2Proof.Laws.NoWord.ecdhP256 (key : Nat) : Statement (.ecdhP256 key) := noWord _
theorem Sys2Proof.Laws.NoWord.cryptogramVer (key : Nat) : Statement (.cryptogramVer key) := noWord _
theorem Sys2Proof.Laws.NoWord.pinTranslate (key : Nat) : Statement (.pinTranslate key) := noWord _
theorem Sys2Proof.Laws.NoWord.kdfTree (key : Nat) : Statement (.kdfTree key) := noWord _
theorem Sys2Proof.Laws.NoWord.akaTuak (key : Nat) : Statement (.akaTuak key) := noWord _
theorem Sys2Proof.Laws.NoWord.mlkemKeygen (key : Nat) : Statement (.mlkemKeygen key) := noWord _
theorem Sys2Proof.Laws.NoWord.mlkemEncaps (key : Nat) : Statement (.mlkemEncaps key) := noWord _
theorem Sys2Proof.Laws.NoWord.mlkemDecaps (key : Nat) : Statement (.mlkemDecaps key) := noWord _
theorem Sys2Proof.Laws.NoWord.mldsaKeygen (key : Nat) : Statement (.mldsaKeygen key) := noWord _
theorem Sys2Proof.Laws.NoWord.mldsaSign (key : Nat) : Statement (.mldsaSign key) := noWord _
theorem Sys2Proof.Laws.NoWord.mldsaVerify (key : Nat) : Statement (.mldsaVerify key) := noWord _
theorem Sys2Proof.Laws.NoWord.randRead (req : Requester) (cl : Nat) (idx : Nat) : Statement (.randRead req cl idx) := noWord _
theorem Sys2Proof.Laws.NoWord.gcolDataAccess (req : Requester) (n : Nat) (wr : Option Word) : Statement (.gcolDataAccess req n wr) := noWord _
theorem Sys2Proof.Laws.NoWord.granuleClear (n : Nat) : Statement (.granuleClear n) := noWord _
theorem Sys2Proof.Laws.NoWord.ruleDataAccess (req : Requester) (wr : Option Word) : Statement (.ruleDataAccess req wr) := noWord _
theorem Sys2Proof.Laws.NoWord.dbgRead (req : Requester) : Statement (.dbgRead req) := noWord _
theorem Sys2Proof.Laws.NoWord.dbgWrite (req : Requester) : Statement (.dbgWrite req) := noWord _
theorem Sys2Proof.Laws.NoWord.dbgacc (cmd : Nat) (addr : BitVec 36) (data : Word) : Statement (.dbgacc cmd addr data) := noWord _
theorem Sys2Proof.Laws.NoWord.haltReqWrite (req : Requester) (k : Nat) (val : Word) : Statement (.haltReqWrite req k val) := noWord _
theorem Sys2Proof.Laws.NoWord.coreHalt (core : Nat) : Statement (.coreHalt core) := noWord _
theorem Sys2Proof.Laws.NoWord.resumeWrite (req : Requester) (k : Nat) (val : Word) : Statement (.resumeWrite req k val) := noWord _
theorem Sys2Proof.Laws.NoWord.lifeAdv (req : Requester) (val : Word) : Statement (.lifeAdv req val) := noWord _
theorem Sys2Proof.Laws.NoWord.arbiterGrant (kind : Nat) (inst : Nat) (arrivals : List Present) (cycles : Nat) : Statement (.arbiterGrant kind inst arrivals cycles) := noWord _
theorem Sys2Proof.Laws.NoWord.ageRaise (kind : Nat) (inst : Nat) (rq : Nat) : Statement (.ageRaise kind inst rq) := noWord _
theorem Sys2Proof.Laws.NoWord.owmSwitched : Statement (.owmSwitched) := noWord _
theorem Sys2Proof.Laws.NoWord.rqClassAccess (req : Requester) (wr : Option Word) : Statement (.rqClassAccess req wr) := noWord _
theorem Sys2Proof.Laws.NoWord.monSelWrite (req : Requester) (val : Word) : Statement (.monSelWrite req val) := noWord _
theorem Sys2Proof.Laws.NoWord.monMaxwaitRead (req : Requester) : Statement (.monMaxwaitRead req) := noWord _
theorem Sys2Proof.Laws.NoWord.cstActivate (key : Nat) : Statement (.cstActivate key) := noWord _
theorem Sys2Proof.Laws.NoWord.cstApdu (key : Nat) : Statement (.cstApdu key) := noWord _
theorem Sys2Proof.Laws.NoWord.cstDeactivate (key : Nat) : Statement (.cstDeactivate key) := noWord _
theorem Sys2Proof.Laws.NoWord.cstWarmReset (key : Nat) : Statement (.cstWarmReset key) := noWord _
theorem Sys2Proof.Laws.NoWord.atrReceive (stn : Nat) (octets : List Octet) (parity : Bool) : Statement (.atrReceive stn octets parity) := noWord _
theorem Sys2Proof.Laws.NoWord.atrTimeout (stn : Nat) : Statement (.atrTimeout stn) := noWord _
theorem Sys2Proof.Laws.NoWord.classRetryWait (stn : Nat) : Statement (.classRetryWait stn) := noWord _
theorem Sys2Proof.Laws.NoWord.ppsResponse (stn : Nat) (octets : List Octet) (parity : Bool) : Statement (.ppsResponse stn octets parity) := noWord _
theorem Sys2Proof.Laws.NoWord.t0ProcedureByte (stn : Nat) (errs : Nat) (octets : List Octet) : Statement (.t0ProcedureByte stn errs octets) := noWord _
theorem Sys2Proof.Laws.NoWord.wwtExpiry (stn : Nat) : Statement (.wwtExpiry stn) := noWord _
theorem Sys2Proof.Laws.NoWord.busyLimitExpiry (stn : Nat) : Statement (.busyLimitExpiry stn) := noWord _
theorem Sys2Proof.Laws.NoWord.t1BlockReceive (stn : Nat) (octets : List Octet) (parity : Bool) : Statement (.t1BlockReceive stn octets parity) := noWord _
theorem Sys2Proof.Laws.NoWord.bwtExpiry (stn : Nat) : Statement (.bwtExpiry stn) := noWord _
theorem Sys2Proof.Laws.NoWord.cwtExpiry (stn : Nat) : Statement (.cwtExpiry stn) := noWord _
theorem Sys2Proof.Laws.NoWord.clockStop (stn : Nat) : Statement (.clockStop stn) := noWord _
theorem Sys2Proof.Laws.NoWord.presChange (stn : Nat) (high : Bool) : Statement (.presChange stn high) := noWord _
theorem Sys2Proof.Laws.NoWord.overcurrent (stn : Nat) : Statement (.overcurrent stn) := noWord _
theorem Sys2Proof.Laws.NoWord.deactDone (stn : Nat) : Statement (.deactDone stn) := noWord _
theorem Sys2Proof.Laws.NoWord.stationFault (stn : Nat) : Statement (.stationFault stn) := noWord _
theorem Sys2Proof.Laws.NoWord.fstActivate (key : Nat) : Statement (.fstActivate key) := noWord _
theorem Sys2Proof.Laws.NoWord.fstApdu (key : Nat) : Statement (.fstApdu key) := noWord _
theorem Sys2Proof.Laws.NoWord.fstDeactivate (key : Nat) : Statement (.fstDeactivate key) := noWord _
theorem Sys2Proof.Laws.NoWord.fieldOn (stn : Nat) : Statement (.fieldOn stn) := noWord _
theorem Sys2Proof.Laws.NoWord.guardEnd (stn : Nat) : Statement (.guardEnd stn) := noWord _
theorem Sys2Proof.Laws.NoWord.fieldOffDone (stn : Nat) : Statement (.fieldOffDone stn) := noWord _
theorem Sys2Proof.Laws.NoWord.ping (stn : Nat) (inPhase : Int) (quadrature : Int) : Statement (.ping stn inPhase quadrature) := noWord _
theorem Sys2Proof.Laws.NoWord.relearn (req : Requester) (stn : Nat) : Statement (.relearn req stn) := noWord _
theorem Sys2Proof.Laws.NoWord.calMeasure (stn : Nat) (a : Nat) (phi : Int) (gap : Bool) : Statement (.calMeasure stn a phi gap) := noWord _
theorem Sys2Proof.Laws.NoWord.tagFrameReceive (stn : Nat) (octets : List Octet) (coll : Option Nat) (parity : Bool) : Statement (.tagFrameReceive stn octets coll parity) := noWord _
theorem Sys2Proof.Laws.NoWord.noAnswerTimeout (stn : Nat) : Statement (.noAnswerTimeout stn) := noWord _
theorem Sys2Proof.Laws.NoWord.hltaAccepted (stn : Nat) : Statement (.hltaAccepted stn) := noWord _
theorem Sys2Proof.Laws.NoWord.isodepBlockReceive (stn : Nat) (octets : List Octet) (parity : Bool) : Statement (.isodepBlockReceive stn octets parity) := noWord _
theorem Sys2Proof.Laws.NoWord.fwtExpiry (stn : Nat) : Statement (.fwtExpiry stn) := noWord _
theorem Sys2Proof.Laws.NoWord.arriveTimeout (stn : Nat) : Statement (.arriveTimeout stn) := noWord _
theorem Sys2Proof.Laws.NoWord.fieldStationFault (stn : Nat) : Statement (.fieldStationFault stn) := noWord _
theorem Sys2Proof.Laws.NoWord.midrRead (req : Requester) : Statement (.midrRead req) := noWord _
theorem Sys2Proof.Laws.NoWord.identityReadDone (stn : Nat) (start : Bool) (outcome : Nat) (fails : Nat) (octets : List Octet) : Statement (.identityReadDone stn start outcome fails octets) := noWord _
theorem Sys2Proof.Laws.NoWord.encoderCount (enc1 : Bool) (kind : Nat) : Statement (.encoderCount enc1 kind) := noWord _
theorem Sys2Proof.Laws.NoWord.speedUpdate : Statement (.speedUpdate) := noWord _
theorem Sys2Proof.Laws.NoWord.markEdge (ago : Nat) : Statement (.markEdge ago) := noWord _
theorem Sys2Proof.Laws.NoWord.checkMarkEdge (j : Nat) (ago : Nat) : Statement (.checkMarkEdge j ago) := noWord _
theorem Sys2Proof.Laws.NoWord.lineOkChange (level : Bool) : Statement (.lineOkChange level) := noWord _
theorem Sys2Proof.Laws.NoWord.holdSet (req : Requester) : Statement (.holdSet req) := noWord _
theorem Sys2Proof.Laws.NoWord.holdClr (req : Requester) : Statement (.holdClr req) := noWord _
theorem Sys2Proof.Laws.NoWord.lineItem (key : Nat) : Statement (.lineItem key) := noWord _
theorem Sys2Proof.Laws.NoWord.lineSetId (key : Nat) : Statement (.lineSetId key) := noWord _
theorem Sys2Proof.Laws.NoWord.lineDone (key : Nat) : Statement (.lineDone key) := noWord _
theorem Sys2Proof.Laws.NoWord.lineReject (key : Nat) : Statement (.lineReject key) := noWord _
theorem Sys2Proof.Laws.NoWord.lineQuery (key : Nat) : Statement (.lineQuery key) := noWord _
theorem Sys2Proof.Laws.NoWord.mossCheck (bad : Option (Nat × Word × Word)) : Statement (.mossCheck bad) := noWord _
theorem Sys2Proof.Laws.NoWord.tamperAlarm (src : Nat) : Statement (.tamperAlarm src) := noWord _
theorem Sys2Proof.Laws.NoWord.tamperConditionClear (src : Nat) : Statement (.tamperConditionClear src) := noWord _
theorem Sys2Proof.Laws.NoWord.zeroiseDone (src : Nat) (bit : Nat) : Statement (.zeroiseDone src bit) := noWord _
theorem Sys2Proof.Laws.NoWord.resetDevice (src : Nat) : Statement (.resetDevice src) := noWord _
theorem Sys2Proof.Laws.NoWord.retire (src : Nat) : Statement (.retire src) := noWord _
theorem Sys2Proof.Laws.NoWord.tamperActionsDone (src : Nat) : Statement (.tamperActionsDone src) := noWord _
theorem Sys2Proof.Laws.NoWord.tamperPeriodEnd (src : Nat) : Statement (.tamperPeriodEnd src) := noWord _
theorem Sys2Proof.Laws.NoWord.latchWrite (req : Requester) (k : Nat) (val : Word) : Statement (.latchWrite req k val) := noWord _
theorem Sys2Proof.Laws.NoWord.bistStart (req : Requester) : Statement (.bistStart req) := noWord _
theorem Sys2Proof.Laws.NoWord.bistDone (outcome : Nat) (us : Nat) (still : Bool) : Statement (.bistDone outcome us still) := noWord _
theorem Sys2Proof.Laws.NoWord.respStageAccess (req : Requester) (wr : Option Word) : Statement (.respStageAccess req wr) := noWord _
theorem Sys2Proof.Laws.NoWord.respDiscard (req : Requester) : Statement (.respDiscard req) := noWord _
theorem Sys2Proof.Laws.NoWord.lastFailRead (req : Requester) : Statement (.lastFailRead req) := noWord _
theorem Sys2Proof.Laws.NoWord.logAppend : Statement (.logAppend) := noWord _
theorem Sys2Proof.Laws.NoWord.append (req : Requester) : Statement (.append req) := noWord _
theorem Sys2Proof.Laws.NoWord.wispLink (req : Requester) : Statement (.wispLink req) := noWord _
theorem Sys2Proof.Laws.NoWord.wispCheck (req : Requester) : Statement (.wispCheck req) := noWord _
theorem Sys2Proof.Laws.NoWord.ent0Read (req : Requester) (busy : Bool) : Statement (.ent0Read req busy) := noWord _
theorem Sys2Proof.Laws.NoWord.rtc0Read (req : Requester) : Statement (.rtc0Read req) := noWord _
theorem Sys2Proof.Laws.NoWord.wispFieldOn : Statement (.wispFieldOn) := noWord _
theorem Sys2Proof.Laws.NoWord.wispReqa (wupa : Bool) : Statement (.wispReqa wupa) := noWord _
theorem Sys2Proof.Laws.NoWord.wispSelect (known : List Bool) (crcOk : Bool) : Statement (.wispSelect known crcOk) := noWord _
theorem Sys2Proof.Laws.NoWord.wispHlta (crcOk : Bool) : Statement (.wispHlta crcOk) := noWord _
theorem Sys2Proof.Laws.NoWord.rdblk (block : Nat) (crcOk : Bool) : Statement (.rdblk block crcOk) := noWord _
theorem Sys2Proof.Laws.NoWord.program (req : Requester) : Statement (.program req) := noWord _
theorem Sys2Proof.Laws.NoWord.erase (req : Requester) : Statement (.erase req) := noWord _
theorem Sys2Proof.Laws.NoWord.suspend (req : Requester) (inPulse : Bool) : Statement (.suspend req inPulse) := noWord _
theorem Sys2Proof.Laws.NoWord.resume (req : Requester) : Statement (.resume req) := noWord _
theorem Sys2Proof.Laws.NoWord.mapProgram (req : Requester) : Statement (.mapProgram req) := noWord _
theorem Sys2Proof.Laws.NoWord.portDProgram (page : Nat) (seg : Option (Nat × Bool)) (data : List Octet) (inPulse : Bool) : Statement (.portDProgram page seg data inPulse) := noWord _
theorem Sys2Proof.Laws.NoWord.flashPulseDone (pass : Bool) : Statement (.flashPulseDone pass) := noWord _
theorem Sys2Proof.Laws.NoWord.flashWindowRead (req : Requester) (i : Nat) (corr : Nat) (fail : Bool) : Statement (.flashWindowRead req i corr fail) := noWord _
theorem Sys2Proof.Laws.NoWord.brownout : Statement (.brownout) := noWord _
theorem Sys2Proof.Laws.NoWord.brownoutClear : Statement (.brownoutClear) := noWord _
theorem Sys2Proof.Laws.NoWord.flashWpChange (low : Bool) : Statement (.flashWpChange low) := noWord _
theorem Sys2Proof.Laws.NoWord.flashScanDone : Statement (.flashScanDone) := noWord _
theorem Sys2Proof.Laws.NoWord.porRelease (gb : Bool) : Statement (.porRelease gb) := noWord _
theorem Sys2Proof.Laws.NoWord.supplyBrownout : Statement (.supplyBrownout) := noWord _
theorem Sys2Proof.Laws.NoWord.vfieldLost : Statement (.vfieldLost) := noWord _
theorem Sys2Proof.Laws.NoWord.vfieldGood : Statement (.vfieldGood) := noWord _
theorem Sys2Proof.Laws.NoWord.powerUpdate (vcore : Nat) (rest : Nat) : Statement (.powerUpdate vcore rest) := noWord _
theorem Sys2Proof.Laws.NoWord.regionStepDone : Statement (.regionStepDone) := noWord _
theorem Sys2Proof.Laws.NoWord.stationAdmit : Statement (.stationAdmit) := noWord _
theorem Sys2Proof.Laws.NoWord.clGateWrite (req : Requester) (val : Word) : Statement (.clGateWrite req val) := noWord _
theorem Sys2Proof.Laws.NoWord.ungateDone (cl : Nat) : Statement (.ungateDone cl) := noWord _
theorem Sys2Proof.Laws.NoWord.pmbusPoll (good : Bool) (vout : Nat) (iout : Nat) : Statement (.pmbusPoll good vout iout) := noWord _
theorem Sys2Proof.Laws.NoWord.pmbAlert (good : Bool) : Statement (.pmbAlert good) := noWord _
theorem Sys2Proof.Laws.NoWord.pmbusRetry (good : Bool) (linear : Bool) (vout : Nat) : Statement (.pmbusRetry good linear vout) := noWord _
theorem Sys2Proof.Laws.NoWord.resetN : Statement (.resetN) := noWord _
theorem Sys2Proof.Laws.NoWord.perstN : Statement (.perstN) := noWord _
theorem Sys2Proof.Laws.NoWord.devWdtExpiry (gb : Bool) : Statement (.devWdtExpiry gb) := noWord _
theorem Sys2Proof.Laws.NoWord.rgWdtExpiry (k : Nat) : Statement (.rgWdtExpiry k) := noWord _
theorem Sys2Proof.Laws.NoWord.kick (req : Requester) (val : Word) : Statement (.kick req val) := noWord _
theorem Sys2Proof.Laws.NoWord.rgReset (req : Requester) (val : Word) : Statement (.rgReset req val) := noWord _
theorem Sys2Proof.Laws.NoWord.rgResetDone (k : Nat) (pass : Bool) (bad : Bool) : Statement (.rgResetDone k pass bad) := noWord _
theorem Sys2Proof.Laws.NoWord.causeRead (req : Requester) : Statement (.causeRead req) := noWord _
theorem Sys2Proof.Laws.NoWord.hummockCheck (found : List Nat) : Statement (.hummockCheck found) := noWord _
theorem Sys2Proof.Laws.NoWord.clusterBistDone (cl : Nat) (pass : Bool) : Statement (.clusterBistDone cl pass) := noWord _
theorem Sys2Proof.Laws.NoWord.bootVerify (badA : Bool) (badB : Bool) : Statement (.bootVerify badA badB) := noWord _
theorem Sys2Proof.Laws.NoWord.firmwareCopy : Statement (.firmwareCopy) := noWord _
theorem Sys2Proof.Laws.NoWord.journalRestore : Statement (.journalRestore) := noWord _
theorem Sys2Proof.Laws.NoWord.rollbackAdv (req : Requester) : Statement (.rollbackAdv req) := noWord _
theorem Sys2Proof.Laws.NoWord.bootcfgWrite (req : Requester) (val : Word) : Statement (.bootcfgWrite req val) := noWord _
theorem Sys2Proof.Laws.NoWord.scrubRead (k : Nat) (b : Nat) (outcome : Nat) (word : Nat) : Statement (.scrubRead k b outcome word) := noWord _
theorem Sys2Proof.Laws.NoWord.backgroundCompare (background : Bool) (bad : Option (Nat × Nat)) : Statement (.backgroundCompare background bad) := noWord _
theorem Sys2Proof.Laws.NoWord.injectScrubFlip (req : Requester) (rg : Nat) : Statement (.injectScrubFlip req rg) := noWord _
theorem Sys2Proof.Laws.NoWord.injectTestRow (req : Requester) (rg : Nat) : Statement (.injectTestRow req rg) := noWord _
theorem Sys2Proof.Laws.NoWord.injectRegComplement (req : Requester) : Statement (.injectRegComplement req) := noWord _
theorem Sys2Proof.Laws.NoWord.injectDone : Statement (.injectDone) := noWord _
theorem Sys2Proof.Laws.NoWord.ueInfoRead (req : Requester) : Statement (.ueInfoRead req) := noWord _
theorem Sys2Proof.Laws.NoWord.regfPageRead (req : Requester) : Statement (.regfPageRead req) := noWord _
theorem Sys2Proof.Laws.NoWord.linkRead (req : Requester) : Statement (.linkRead req) := noWord _
theorem Sys2Proof.Laws.NoWord.atrCharacterTimeout (stn : Nat) : Statement (.atrCharacterTimeout stn) := noWord _
theorem Sys2Proof.Laws.NoWord.ppsTimeout (stn : Nat) : Statement (.ppsTimeout stn) := noWord _
theorem Sys2Proof.Laws.NoWord.movedResend (tag : Nat) : Statement (.movedResend tag) := noWord _
theorem Sys2Proof.Laws.NoWord.tamperResetRelease (gb : Bool) : Statement (.tamperResetRelease gb) := noWord _
theorem Sys2Proof.Laws.NoWord.resetNRelease (gb : Bool) : Statement (.resetNRelease gb) := noWord _
theorem Sys2Proof.Laws.NoWord.perstNRelease : Statement (.perstNRelease) := noWord _
theorem Sys2Proof.Laws.NoWord.devWdtWarn : Statement (.devWdtWarn) := noWord _
theorem Sys2Proof.Laws.NoWord.vbatApply : Statement (.vbatApply) := noWord _
theorem Sys2Proof.Laws.NoWord.wispFieldOff : Statement (.wispFieldOff) := noWord _
end

