-- ==== Sys2Proof/Laws/Safety.lean ====
section
/-! SUPPORT. What the words of `Safety` mean for the operations that test them. -/
namespace Sys2Proof.Machine

/-- A job whose data is delivered passes the length outcomes (R77). -/
@[simp] theorem State.lenGate_delivered (s : State) (k : Nat) (j : Job) (need : List (Nat × Nat)) (f : State)
    (h : j.delivered need = true) : s.lenGate k j need f = f := by
  unfold Job.delivered Job.gated Job.listsOk at h
  unfold State.lenGate
  by_cases ho : j.origin.isSome = true
  · simp_all
  · simp only [ho, Bool.false_or, Bool.and_eq_true, Bool.not_eq_true', Option.isNone_iff_eq_none] at h
    simp [ho, h]

/-- A job whose data is delivered has its lists in form and every piece of its data. -/
theorem Job.delivered_lists (j : Job) (need : List (Nat × Nat)) (h : j.delivered need = true) : j.listsOk need = true := by
  simp only [Job.delivered, Job.gated, Bool.and_eq_true] at h; exact h.1.2

end Sys2Proof.Machine
end

