-- ==== Sys2Proof/Tests/Slice0.lean ====
section
/-! SUPPORT. Tests of the model: ill-formed commands are refused, words and octets are read as the spec writes them, and
for every statement with hypotheses a concrete state and operands that meet them. -/
namespace Sys2Proof.Tests

open Sys2Proof Sys2Proof.Machine

set_option Elab.async false
set_option maxRecDepth 20000
set_option exponentiation.threshold 100000

/-- The block out of reset, with nothing enabled. -/
def up : State := { State.reset with boot := { State.reset.boot with por := false } }

/-- Page `p` enabled. -/
def on (p : Nat) (s : State) : State := s.setReg p R.PG_CTRL 1

/-- Page `p` enabled and READY. -/
def ready (p : Nat) (s : State) : State := (on p s).setStat p ST.ready true

/-- A running job of an opcode with a body. -/
def jobOf (op : Nat) (body : List Octet) : Job :=
  { newJob 0 0 false ⟨true, false, 1 + body.length / 16, op, 0, false, false, 0, none, 0, false⟩ body 2 0xFFFF false false with
    st := .running }

/-- Job 5 in the table. -/
def has (j : Job) (s : State) : State := s.setJob 5 j

/-! ### Ill-formed commands: for each command one well-formed term, and an ill-formed one for each check. -/

theorem test_ill_formed_commands_are_refused_0 :
    ((Instr.regWrite .host 0 0 .single 0).wf = true ∧ (Instr.regWrite (.core 64) 0 0 .single 0).wf = false ∧ (Instr.regWrite
      .host 4112 0 .single 0).wf = false ∧ (Instr.regWrite .host 0 1024 .single 0).wf = false) ∧
    (∀ f ∈ [Instr.reg36LowerRead, Instr.reg36UpperRead],
      (f .host 0 0 .word).wf = true ∧ (f (.core 64) 0 0 .word).wf = false ∧ (f .host 4096 0 .word).wf = false ∧
      (f .host 0 1024 .word).wf = false ∧ (f .host 0 0 .both).wf = true ∧ (f (.core 0) 0 0 .both).wf = false ∧
      (f .host 0 0 (.octets 2 2)).wf = true ∧ (f (.core 0) 0 0 (.octets 2 2)).wf = false ∧
      (f .host 0 0 (.octets 2 0)).wf = false ∧ (f .host 0 0 (.octets 2 3)).wf = false) ∧
    (∀ f ∈ [Instr.reg36LowerWrite, Instr.reg36UpperWrite],
      (f .host 0 0 0).wf = true ∧ (f (.core 64) 0 0 0).wf = false ∧ (f .host 4096 0 0).wf = false ∧ (f .host 0 1024 0).wf =
        false) ∧
    (∀ f ∈ [Instr.postedWriteSettle, Instr.shutdownComplete, Instr.eventDeliver],
      (f 0).wf = true ∧ (f 4096).wf = false) ∧
    (∀ f ∈ [Instr.enWrite1, Instr.enWrite0, Instr.stop, Instr.sreset, Instr.pgLockWrite],
      (f .host 0).wf = true ∧ (f (.core 64) 0).wf = false ∧ (f .host 4096).wf = false) ∧
    ((Instr.startUpDone 0 true 0).wf = true ∧ (Instr.startUpDone 4096 true 0).wf = false ∧ (Instr.startUpDone 0 true 32).wf =
      false) ∧
    ((Instr.msixUnmask 0).wf = true ∧ (Instr.msixUnmask 2048).wf = false) ∧
    (∀ f ∈ [Instr.routeDataAccess, Instr.dnlxRouteDataAccess, Instr.rqClassAccess, Instr.respStageAccess, Instr.ruleDataAccess],
      (f .host none).wf = true ∧ (f (.core 64) none).wf = false) ∧
    (∀ f ∈ [Instr.lostSrcRead, Instr.placeCommit, Instr.placeDiscard, Instr.placeLookup, Instr.systimeRead,
      Instr.cerCommission, Instr.cerEnrolDomain, Instr.cerSetTamper, Instr.cerLeaveGb, Instr.cerRetire, Instr.cerCustodians,
      Instr.cerCancel, Instr.monMaxwaitRead, Instr.midrRead, Instr.holdSet, Instr.holdClr, Instr.bistStart, Instr.respDiscard,
      Instr.lastFailRead, Instr.append, Instr.wispLink, Instr.wispCheck, Instr.rtc0Read, Instr.program, Instr.erase,
      Instr.mapProgram, Instr.resume, Instr.causeRead, Instr.rollbackAdv, Instr.injectRegComplement, Instr.ueInfoRead,
      Instr.regfPageRead, Instr.linkRead, Instr.dbgRead, Instr.dbgWrite],
      (f .host).wf = true ∧ (f (.core 64)).wf = false) := by
  (repeat' apply And.intro) <;> decide

theorem test_ill_formed_commands_are_refused_1 :
    ((Instr.swSetWrite .host 0 0).wf = true ∧ (Instr.swSetWrite (.core 64) 0 0).wf = false ∧ (Instr.swSetWrite .host 7 0).wf =
      false) ∧
    ((Instr.tailDbWrite .host 0 0).wf = true ∧ (Instr.tailDbWrite (.core 64) 0 0).wf = false ∧ (Instr.tailDbWrite .host 256
      0).wf = false) ∧
    ((Instr.entryFetchData 0 (zeros 16) true).wf = true ∧ (Instr.entryFetchData 256 (zeros 16) true).wf = false ∧
      (Instr.entryFetchData 0 (zeros 8) true).wf = false) ∧
    ((Instr.hostDataArrive 0 0 (zeros 16) [] true).wf = true ∧ (Instr.hostDataArrive 0 64 (zeros 16) [] true).wf = false ∧
      (Instr.hostDataArrive 0 0 (zeros 8) [] true).wf = false ∧ (Instr.hostDataArrive 0 0 (zeros 4112) [] true).wf = false) ∧
    ((Instr.sessionMigrate 0).wf = true ∧ (Instr.sessionMigrate 16384).wf = false) ∧
    (∀ f ∈ [Instr.headPublish, Instr.irqModTimer],
      (f 0).wf = true ∧ (f 256).wf = false) ∧
    ((Instr.membershipFrameReceive 0 0 [] [] none).wf = true ∧ (Instr.membershipFrameReceive 65536 0 [] [] none).wf = false ∧
      (Instr.membershipFrameReceive 0 0 [(65536, 0)] [] none).wf = false ∧ (Instr.membershipFrameReceive 0 0 [] [(65536, 0, 0,
      0, 0)] none).wf = false) ∧
    ((Instr.resyncReceive 0 [] [] 0).wf = true ∧ (Instr.resyncReceive 0 [(65536, 0)] [] 0).wf = false ∧ (Instr.resyncReceive 0
      [] [(65536, 0, 0, 0, 0)] 0).wf = false) ∧
    ((Instr.forwardReceive 0 0 0 0 true true 0 true (zeros 16) [] 0 none).wf = true ∧ (Instr.forwardReceive 65536 0 0 0 true
      true 0 true (zeros 16) [] 0 none).wf = false ∧ (Instr.forwardReceive 0 8192 0 0 true true 0 true (zeros 16) [] 0
      none).wf = false ∧ (Instr.forwardReceive 0 0 0 4 true true 0 true (zeros 16) [] 0 none).wf = false ∧
      (Instr.forwardReceive 0 0 0 0 true true 0 true (zeros 24) [] 0 none).wf = false ∧ (Instr.forwardReceive 0 0 0 0 true
      true 0 true [] [] 0 none).wf = false ∧ (Instr.forwardReceive 0 0 0 0 true true 0 true (zeros 1040) [] 0 none).wf = false
      ∧ (Instr.forwardReceive 0 0 0 0 true true 0 true (zeros 16) [] 3 none).wf = false ∧ (Instr.forwardReceive 0 0 0 0 true
      true 0 true (zeros 16) [] 0 (some (List.replicate 63 0))).wf = false) ∧
    ((Instr.moved 0 0).wf = true ∧ (Instr.moved 8192 0).wf = false) ∧
    (∀ f ∈ [Instr.forwardAckReceive, Instr.resultAckReceive, Instr.forwardAbortReceive],
      (f 0 0).wf = true ∧ (f 65536 0).wf = false ∧ (f 0 8192).wf = false) ∧
    (∀ f ∈ [Instr.forwardTimeout, Instr.movedResend],
      (f 0).wf = true ∧ (f 8192).wf = false) ∧
    ((Instr.heartbeat 0).wf = true ∧ (Instr.heartbeat 65536).wf = false) ∧
    ((Instr.forwardResultReceive 0 0 0 [] [] none).wf = true ∧ (Instr.forwardResultReceive 65536 0 0 [] [] none).wf = false ∧
      (Instr.forwardResultReceive 0 8192 0 [] [] none).wf = false ∧ (Instr.forwardResultReceive 0 0 21 [] [] none).wf = false
      ∧ (Instr.forwardResultReceive 0 0 0 [] [] (some (List.replicate 63 0))).wf = false) ∧
    ((Instr.forwardAbortAck 0 0).wf = true ∧ (Instr.forwardAbortAck 256 0).wf = false ∧ (Instr.forwardAbortAck 0 8192).wf =
      false) ∧
    ((Instr.flitReceive 0 (zeros 64)).wf = true ∧ (Instr.flitReceive 4 (zeros 64)).wf = false ∧
      (Instr.flitReceive 0 (zeros 63)).wf = false) ∧
    ((Instr.causewayTransferReceive true false (List.replicate 8 0) 0 0).wf = true ∧
      (Instr.causewayTransferReceive true false (List.replicate 9 0) 0 0).wf = false) ∧
    ((Instr.timeExchange 0 0 0 0 0).wf = true ∧ (Instr.timeExchange 4 0 0 0 0).wf = false ∧
      (Instr.timeExchange 0 (2 ^ 72) 0 0 0).wf = false ∧ (Instr.timeExchange 0 0 (2 ^ 72) 0 0).wf = false ∧
      (Instr.timeExchange 0 0 0 (2 ^ 72) 0).wf = false ∧ (Instr.timeExchange 0 0 0 0 (2 ^ 72)).wf = false) ∧
    ((Instr.healthFail (zeros 255) (zeros 512)).wf = true ∧ (Instr.healthFail (zeros 256) []).wf = false ∧
      (Instr.healthFail [] (zeros 513)).wf = false) ∧
    (∀ f ∈ [Instr.nakReceive, Instr.denletSilence, Instr.eqIdleInsert, Instr.rgWdtExpiry],
      (f 0).wf = true ∧ (f 4).wf = false) ∧
    ((Instr.denletMessageReceive 0 1 0).wf = true ∧ (Instr.denletMessageReceive 4 1 0).wf = false ∧
      (Instr.denletMessageReceive 0 0 0).wf = false ∧ (Instr.denletMessageReceive 0 1 65536).wf = false) ∧
    (∀ f ∈ [Instr.linkRekey, Instr.trainDone],
      (f 0 true).wf = true ∧ (f 4 true).wf = false) ∧
    ((Instr.attestDone 0 true [] true 0 0).wf = true ∧ (Instr.attestDone 4 true [] true 0 0).wf = false ∧
      (Instr.attestDone 0 true [] true 65536 0).wf = false) ∧
    (∀ f ∈ [Instr.timeSet, Instr.qkeyDataWrite, Instr.monSelWrite, Instr.clGateWrite, Instr.kick, Instr.rgReset,
      Instr.bootcfgWrite, Instr.lifeAdv],
      (f .host 0).wf = true ∧ (f (.core 64) 0).wf = false) ∧
    ((Instr.drbgReseed 0).wf = true ∧ (Instr.drbgReseed 5).wf = false) ∧
    ((Instr.chunkVerify 0 0 [] true).wf = true ∧ (Instr.chunkVerify 0 16 [] true).wf = false) ∧
    ((Instr.custodianCardProcess 0 (zeros 65) (zeros 64) (zeros 48) none).wf = true ∧ (Instr.custodianCardProcess 16 (zeros
      65) (zeros 64) (zeros 48) none).wf = false ∧ (Instr.custodianCardProcess 0 (zeros 64) (zeros 64) (zeros 48) none).wf =
      false ∧ (Instr.custodianCardProcess 0 (zeros 65) (zeros 63) (zeros 48) none).wf = false ∧ (Instr.custodianCardProcess 0
      (zeros 65) (zeros 64) (zeros 47) none).wf = false ∧ (Instr.custodianCardProcess 0 (zeros 65) (zeros 64) (zeros 48) (some
      5)).wf = false) ∧
    ((Instr.resultRead .host 0 0).wf = true ∧ (Instr.resultRead (.core 64) 0 0).wf = false ∧ (Instr.resultRead .host 32 0).wf
      = false ∧ (Instr.resultRead .host 0 32).wf = false) ∧
    ((Instr.windowExpired 0).wf = true ∧ (Instr.windowExpired 32).wf = false) ∧
    (∀ f ∈ [Instr.load, Instr.store, Instr.convert, Instr.toMont, Instr.fromMont, Instr.modadd, Instr.modsub, Instr.modmul,
      Instr.modinv, Instr.modexp, Instr.curvechk],
      (f 0 .pass).wf = true ∧ (f 16 .pass).wf = false) ∧
    (∀ f ∈ [Instr.presChange, Instr.clusterBistDone],
      (f 0 true).wf = true ∧ (f 16 true).wf = false) ∧
    ((Instr.bnYield 0 0).wf = true ∧ (Instr.bnYield 16 0).wf = false) := by
  (repeat' apply And.intro) <;> decide

theorem test_ill_formed_commands_are_refused_2 :
    (∀ f ∈ [Instr.atrTimeout, Instr.atrCharacterTimeout, Instr.classRetryWait, Instr.ppsTimeout,
      Instr.wwtExpiry, Instr.busyLimitExpiry, Instr.bwtExpiry, Instr.cwtExpiry, Instr.clockStop, Instr.overcurrent,
      Instr.deactDone, Instr.stationFault, Instr.fieldOn, Instr.guardEnd, Instr.fieldOffDone, Instr.noAnswerTimeout,
      Instr.hltaAccepted, Instr.fwtExpiry, Instr.arriveTimeout, Instr.fieldStationFault, Instr.ungateDone,
      Instr.granuleClear],
      (f 0).wf = true ∧ (f 16).wf = false) ∧
    (∀ f ∈ [Instr.refuseRead, Instr.relearn],
      (f .host 0).wf = true ∧ (f (.core 64) 0).wf = false ∧ (f .host 16).wf = false) ∧
    ((Instr.arbiterGrant 1 0 [] 1).wf = true ∧ (Instr.arbiterGrant 0 0 [] 1).wf = false ∧ (Instr.arbiterGrant 9 0 [] 1).wf =
      false ∧ (Instr.arbiterGrant 1 176 [] 1).wf = false ∧ (Instr.arbiterGrant 1 0 [⟨272, .other 0⟩] 1).wf = false ∧
      (Instr.arbiterGrant 1 0 [⟨0, .other 71⟩] 1).wf = false ∧ (Instr.arbiterGrant 1 0 [⟨0, .carries 4⟩] 1).wf = false ∧
      (Instr.arbiterGrant 1 0 [⟨0, .passed 3 0⟩] 1).wf = true ∧ (Instr.arbiterGrant 1 0 [⟨0, .passed 2 0⟩] 1).wf = false ∧
      (Instr.arbiterGrant 1 0 [⟨0, .passed 8 0⟩] 1).wf = false ∧ (Instr.arbiterGrant 1 0 [⟨0, .passed 3 1000⟩] 1).wf = false ∧
      (Instr.arbiterGrant 1 0 [] 0).wf = false) ∧
    ((Instr.ageRaise 1 0 0).wf = true ∧ (Instr.ageRaise 0 0 0).wf = false ∧ (Instr.ageRaise 9 0 0).wf = false ∧
      (Instr.ageRaise 1 176 0).wf = false ∧ (Instr.ageRaise 1 0 272).wf = false) ∧
    (∀ f ∈ [Instr.atrReceive, Instr.ppsResponse, Instr.t1BlockReceive, Instr.isodepBlockReceive],
      (f 0 [] true).wf = true ∧ (f 16 [] true).wf = false) ∧
    ((Instr.t0ProcedureByte 0 0 []).wf = true ∧ (Instr.t0ProcedureByte 16 0 []).wf = false) ∧
    ((Instr.ping 0 0 0).wf = true ∧ (Instr.ping 16 0 0).wf = false) ∧
    ((Instr.calMeasure 0 0 0 true).wf = true ∧ (Instr.calMeasure 16 0 0 true).wf = false) ∧
    ((Instr.tagFrameReceive 0 [] none true).wf = true ∧ (Instr.tagFrameReceive 16 [] none true).wf = false ∧
      (Instr.tagFrameReceive 0 [] (some 40) true).wf = false) ∧
    ((Instr.identityReadDone 0 true 0 0 (zeros 256)).wf = true ∧ (Instr.identityReadDone 16 true 0 0 (zeros 256)).wf = false ∧
      (Instr.identityReadDone 0 true 3 0 (zeros 256)).wf = false ∧ (Instr.identityReadDone 0 true 0 4 (zeros 256)).wf = false
      ∧ (Instr.identityReadDone 0 true 0 0 (zeros 255)).wf = false) ∧
    ((Instr.encoderCount true 0).wf = true ∧ (Instr.encoderCount true 3).wf = false) ∧
    ((Instr.checkMarkEdge 0 0).wf = true ∧ (Instr.checkMarkEdge 4 0).wf = false) ∧
    ((Instr.mossCheck none).wf = true ∧ (Instr.mossCheck (some (0, 0, 0))).wf = true ∧
      (Instr.mossCheck (some (208, 0, 0))).wf = false) ∧
    (∀ f ∈ [Instr.tamperAlarm, Instr.tamperConditionClear, Instr.resetDevice, Instr.retire, Instr.tamperActionsDone,
      Instr.tamperPeriodEnd],
      (f 0).wf = true ∧ (f 128).wf = false) ∧
    ((Instr.zeroiseDone 0 5).wf = true ∧ (Instr.zeroiseDone 128 5).wf = false ∧ (Instr.zeroiseDone 0 4).wf = false ∧
      (Instr.zeroiseDone 0 11).wf = false) ∧
    ((Instr.latchWrite .host 0 0).wf = true ∧ (Instr.latchWrite (.core 64) 0 0).wf = false ∧ (Instr.latchWrite .host 8 0).wf =
      false) ∧
    ((Instr.bistDone 0 0 true).wf = true ∧ (Instr.bistDone 3 0 true).wf = false) ∧
    (∀ f ∈ [Instr.ent0Read, Instr.suspend],
      (f .host true).wf = true ∧ (f (.core 64) true).wf = false) := by
  (repeat' apply And.intro) <;> decide

theorem test_ill_formed_commands_are_refused_3 :
    ((Instr.wispSelect [] true).wf = true ∧ (Instr.wispSelect (List.replicate 41 false) true).wf = false) ∧
    ((Instr.rdblk 0 true).wf = true ∧ (Instr.rdblk 65536 true).wf = false) ∧
    ((Instr.portDProgram 0 none (zeros 512) true).wf = true ∧ (Instr.portDProgram 131072 none (zeros 512) true).wf = false ∧
      (Instr.portDProgram 0 none (zeros 511) true).wf = false) ∧
    ((Instr.flashWindowRead .host 0 0 true).wf = true ∧ (Instr.flashWindowRead (.core 64) 0 0 true).wf = false ∧
      (Instr.flashWindowRead .host 33554432 0 true).wf = false) ∧
    ((Instr.hummockCheck []).wf = true ∧ (Instr.hummockCheck [128]).wf = false) ∧
    ((Instr.rgResetDone 0 true true).wf = true ∧ (Instr.rgResetDone 4 true true).wf = false) ∧
    ((Instr.scrubRead 0 0 0 0).wf = true ∧ (Instr.scrubRead 4 0 0 0).wf = false ∧ (Instr.scrubRead 0 16 0 0).wf = false ∧
      (Instr.scrubRead 0 0 3 0).wf = false ∧ (Instr.scrubRead 0 0 0 8).wf = false) ∧
    (∀ f ∈ [Instr.injectScrubFlip, Instr.injectTestRow],
      (f .host 0).wf = true ∧ (f (.core 64) 0).wf = false ∧ (f .host 4).wf = false) ∧
    ((Instr.gcolDataAccess .host 0 none).wf = true ∧ (Instr.gcolDataAccess (.core 64) 0 none).wf = false ∧
      (Instr.gcolDataAccess .host 16 none).wf = false) ∧
    ((Instr.dbgacc 0 0 0).wf = true ∧ (Instr.dbgacc 4 0 0).wf = false) ∧
    (∀ f ∈ [Instr.haltReqWrite, Instr.resumeWrite],
      (f .host 0 0).wf = true ∧ (f (.core 64) 0 0).wf = false ∧ (f .host 4 0).wf = false) ∧
    ((Instr.vfailRead .host 0).wf = true ∧ (Instr.vfailRead (.core 64) 0).wf = false ∧ (Instr.vfailRead .host 64).wf = false) ∧
    ((Instr.randRead .host 0 0).wf = true ∧ (Instr.randRead (.core 64) 0 0).wf = false ∧ (Instr.randRead .host 16 0).wf =
      false ∧ (Instr.randRead .host 0 16).wf = false) ∧
    (∀ f ∈ [Instr.kNop, Instr.kRfe, Instr.kSync, Instr.kWaiti, Instr.kBreak, Instr.kCtxsw, Instr.kJget, Instr.kSavectx,
      Instr.kLoadctx, Instr.kJdone, Instr.kMov, Instr.kAdd, Instr.kSub, Instr.kAddx, Instr.kSubx, Instr.kAnd, Instr.kOr,
      Instr.kXor, Instr.kAndn, Instr.kShl, Instr.kShr, Instr.kSar, Instr.kRol, Instr.kMul, Instr.kMulh, Instr.kMulhs,
      Instr.kMull, Instr.kBrev, Instr.kClz, Instr.kPopc, Instr.kOcthi, Instr.kOctlo, Instr.kOctpk, Instr.kMovd, Instr.kAddd,
      Instr.kSubd, Instr.kMova, Instr.kMovda, Instr.kAdda, Instr.kShld, Instr.kShrd, Instr.kCmpeq, Instr.kCmplt,
      Instr.kCmpltu, Instr.kPand, Instr.kPor, Instr.kPxor, Instr.kPandn, Instr.kMovi, Instr.kAddi, Instr.kAndi, Instr.kOri,
      Instr.kXori, Instr.kShli, Instr.kShri, Instr.kSari, Instr.kMuli, Instr.kMovid, Instr.kAddid, Instr.kAddia, Instr.kMovia,
      Instr.kLeapc, Instr.kUcmdCipher, Instr.kUcmdDigest, Instr.kUcmdBignum, Instr.kUcmdHostRead, Instr.kUcmdHostWrite,
      Instr.kLd, Instr.kSt, Instr.kLdd, Instr.kStd, Instr.kLda, Instr.kSta, Instr.kLea, Instr.kSwap, Instr.kBr, Instr.kCall,
      Instr.kJr, Instr.kCallr, Instr.kLoop, Instr.kLoopi, Instr.kTrap, Instr.kMovsFromSpecial, Instr.kMovsToSpecial,
      Instr.kVadd, Instr.kVsub, Instr.kVmul, Instr.kVbfly, Instr.kVgs, Instr.kVperm, Instr.kVld, Instr.kVst, Instr.kVldb,
      Instr.kVmov, Instr.kVsplat, Instr.kVext, Instr.kVins],
      (f 0 [] 0).wf = true ∧ (f 64 [] 0).wf = false ∧ (f 0 (List.replicate 9 0) 0).wf = false ∧ (f 0 [] 0o100).wf = false ∧ (f
        0 [] 0o700000).wf = false) := by
  (repeat' apply And.intro) <;> decide

theorem test_ill_formed_commands_are_refused_4 :
    (∀ f ∈ [Instr.interruptEntry, Instr.lockstepMismatch, Instr.compositeAbort, Instr.abortTimeout, Instr.coreHalt],
      (f 0).wf = true ∧ (f 64).wf = false) :=
  by decide

/-! ### Witnesses of the hypotheses: the bus, the events, the links -/

theorem witness_AnEmptyQueueLetsANanosecondPass :
    (State.reset.pending = [] ∧ State.reset.inReset = true) ∧ (up.pending = [] ∧ up.inReset = false ∧ up.clock.slew = 0) ∧
    (∃ s : State, s.pending = [] ∧ s.inReset = false ∧ s.now % 10000 = 0 ∧ 0 < s.clock.slew) ∧
    (∃ s : State, s.pending = [] ∧ s.inReset = false ∧ s.now % 10000 = 0 ∧ s.clock.slew < 0) :=
  ⟨by decide, by decide, ⟨{ up with clock := { up.clock with slew := 3 } }, by decide⟩,
    ⟨{ up with clock := { up.clock with slew := -3 } }, by decide⟩⟩

theorem witness_EveryStepKeepsTheCanonicalForm : State.reset.canonical = true ∧
    ∃ t, step State.reset = .next t := ⟨by decide, _, rfl⟩

theorem witness_EveryStepTakesExactlyOneCommand : State.reset.queueWf = true ∧
    ∃ t, step { State.reset with pending := [.causewayIdle true true] } = .next t := ⟨by decide, _, rfl⟩

def busy : State := { up with bus := { up.bus with posted := [⟨.host, P.wq 3, 0o20, 4, false, true⟩] } }

theorem witness_RegisterAccessesAreGatedAndPosted :
    (P.wq 3 < 4096 ∧ up.deaf (P.wq 3) = false ∧
      up.checkAccess (up.whoOf .host) (pageAddr (P.wq 3) 0o20) 1 .w = .allowed) ∧
    (aligned8 (P.wq 3) 0o22 = true ∧ aligned8 (P.wq 3) 0o20 = false ∧ aligned8 (P.kz 0) R.KZ_BOOT = false) ∧
    (R.WQ_CFG ≠ R.PG_LOCK ∧ up.bus.stalled = [] ∧ reqDomain .host = pageDomain (P.wq 3) ∧
      up.bus.posted.any (fun y => pageDomain y.page == pageDomain (P.wq 3)) = false) ∧
    (Posted.ownIntEn ⟨.core 0, P.kz 0, R.KZ_INT_EN, 0, false, true⟩ = true) ∧
    ((busy.bus.posted.filter (fun y => y.page == P.wq 3)).length < 16 ∧
      busy.bus.posted.any (fun y => pageDomain y.page == pageDomain (P.wq 3)) = true) ∧
    (∃ s : State, s.bus.stalled = [] ∧ 16 ≤ (s.bus.posted.filter (fun y => y.page == P.wq 3)).length) ∧
    (halfOf (P.wq 3) 0o22 = .lower ∧ halfOf (P.wq 3) 0o23 = .upper ∧
      up.checkAccess (up.whoOf .host) (pageAddr (P.wq 3) 0o22) 1 .r = .allowed) ∧
    (halfOf (P.kz 0) R.KZ_BOOT = .lower ∧ R.KZ_BOOT % 2 = 1) := by
  refine ⟨by decide, by decide, by decide, by decide, by decide, ⟨{ up with bus := { up.bus with
    posted := List.replicate 16 ⟨.host, P.wq 3, 0o20, 4, false, true⟩ } }, by decide⟩, by decide, by decide⟩

theorem witness_RegisterAccessesAreGatedAndPosted_settling :
    (∃ s : State, s.heldHalf .host (P.wq 3 * 1024 + 0o23 - 1) = some 7 ∧ s.deaf (P.wq 3) = false) ∧
    (busy.nextPosted (pageDomain (P.wq 3)) = some ⟨.host, P.wq 3, 0o20, 4, false, true⟩ ∧
      linkTo (pageDomain (P.wq 3)) = none ∧ linkTo (pageDomain (P.cst 0)) = some true) ∧
    (∃ s : State, s.nextPosted (pageDomain (P.cst 0)) = some ⟨.host, P.cst 0, 0o20, 4, false, true⟩) ∧
    (4096 ≤ 4096 ∧ up.inReset = false) := by
  refine ⟨⟨up.holdHalf .host (P.wq 3 * 1024 + 0o23 - 1) 7, by decide⟩, by decide, ⟨{ up with bus := { up.bus with
    posted := [⟨.host, P.cst 0, 0o20, 4, false, true⟩] } }, by decide⟩, by decide⟩

theorem witness_TheFirstErrorOfAPageIsLatched :
    up.reg P.pwr R.PG_ERR = 0 ∧ (up.pgErr P.pwr 0 .host 0o20 1).reg P.pwr R.PG_ERR ≠ 0 := by decide

theorem witness_AnEnabledEventRaisesItsSourceOnce : 7 < 8 := by decide

def stopping (p : Nat) (s : State) : State := s.setStat p ST.stopping true

theorem witness_ControlBitsActAsTheTableSays :
    (up.deaf (P.wq 3) = false ∧ State.reset.deaf (P.wq 3) = true) ∧
    (blockOf (P.wq 3) = some (.wq, 3) ∧ Block.alwaysOn .wq = false ∧ up.stat (P.wq 3) ST.quar = false ∧
      up.mismatched (P.wq 3) = false ∧ (stopping (P.wq 3) up).stat (P.wq 3) ST.stopping = true ∧
      (stopping (P.wq 3) up).en (P.wq 3) = false ∧ (stopping (P.wq 3) up).stat (P.wq 3) ST.quar = false) ∧
    (up.stat (P.wq 3) ST.stopping = false ∧ up.en (P.wq 3) = false ∧ (on (P.wq 3) up).en (P.wq 3) = true) ∧
    ((up.setStat (P.wq 3) ST.quar true).stat (P.wq 3) ST.quar = true) ∧
    (blockOf (P.cst 2) = some (.cst, 2) ∧ Block.alwaysOn .cst = false ∧ Block.cst ≠ .wq ∧
      (on (P.cst 2) up).stat (P.cst 2) ST.quar = false ∧ (on (P.cst 2) up).en (P.cst 2) = true) ∧
    ((stopping (P.wq 3) up).en (P.wq 3) = false ∧ (stopping (P.wq 3) up).quiet (P.wq 3) = true) ∧
    (({ up with lev := { up.lev with starting := [P.rng] } } : State).startable' P.rng = true) := by decide

theorem witness_AStoppedFunctionRestartsOnlyWhenAsked :
    blockOf P.place = some (.place, 0) ∧ up.stat P.place ST.restart = false ∧
    (up.setStat P.place ST.restart true).stat P.place ST.restart = true ∧
    blockOf P.dnlx = some (.dnlx, 0) ∧ blockOf (P.bn 5) = some (.bn, 5) := by decide

/-- Source 9 raised, routed by `e`. -/
def routed (e : Word) (s : State) : State :=
  { s with evt := { s.evt with raised := [9], routes := Map.put (dflt 0) s.evt.routes 9 e } }

/-- A source of die F raised behind a quarantined link. -/
def cutOff : State :=
  { up with linkF := { up.linkF with quar := true }, evt := { up.evt with raised := [srcBase (P.cst 0)] } }

theorem witness_RaisedSourcesReachTheirTargets_cut :
    cutOff.evt.raised.contains (srcBase (P.cst 0)) = true ∧ srcLink (srcBase (P.cst 0)) = some true ∧
      (cutOff.link true).quar = true := by decide

theorem witness_RaisedSourcesReachTheirTargets :
    (srcLink 9 = none ∧ up.deaf P.evt0 = false ∧ up.deaf P.evt3 = false ∧ srcLink (srcBase (P.cst 0)) = some true ∧
      (up.link true).quar = false) ∧
    ((routed 0o400005 up).evt.raised.contains 9 = true ∧ Map.get (dflt 0) (routed 0o400005 up).evt.routes 9 = 0o400005 ∧
      tb (0o400005 : Word) 17 = true ∧ tb (0o400005 : Word) 16 = false ∧ up.isBad (routeKey 9) = false) ∧
    (up.masked 5 = true ∧ (up.wMsix (4 * 5 + 3) 0).masked 5 = false) ∧
    (tb (0o600105 : Word) 16 = true ∧ up.stat (P.clu (bits (0o600105 : Word) 11 6 / 4)) ST.quar = false ∧
      (up.setStat (P.clu 0) ST.quar true).stat (P.clu (bits (0o600105 : Word) 11 6 / 4)) ST.quar = true) ∧
    (up.rbit P.evt0 R.EVT0_LOST_SRC 17 = false ∧ (up.lose 9).rbit P.evt0 R.EVT0_LOST_SRC 17 = true) ∧
    (4 * 2047 + 3 < 8192 ∧ up.evt.msixPend.contains 2047 = false) ∧
    ((up.setRbit P.evt0 R.EVT0_EVT_CTRL 0 true).rbit P.evt0 R.EVT0_EVT_CTRL 0 = true) := by decide

/-- Some tag differs from a given one. -/
theorem exists_ne_tag (t : BitVec 36) : ∃ u : BitVec 36, u ≠ t := by
  by_cases h : t = 0
  · exact ⟨1, by subst h; decide⟩
  · exact ⟨0, fun e => h e.symm⟩

theorem witness_CausewayTransfersCountUntilTheLinkFails :
    ((up.link true).quar = false ∧ up.inReset = false ∧ (up.link true).farRx ≠ 5) ∧
    (∃ tag, tag = Config.linkTag (up.link true).key false (up.link true).farRx [7]) ∧
    (∃ tag, tag = Config.linkTag (up.link true).key false 5 [7]) ∧
    (∃ tag, tag ≠ Config.linkTag (up.link true).key false (up.link true).farRx [7]) :=
  ⟨by decide, ⟨_, rfl⟩, ⟨_, rfl⟩, exists_ne_tag _⟩

/-- Queue 3 runs with 16 cells, its doorbell rung at 5. -/
def queue3 : State := ((((ready (P.wq 3) up).setReg (P.wq 3) R.WQ_CFG 4).setReg (P.wq 3) R.WQ_TAIL_DB 0o200005).setQueue 3
  { Queue.idle with rung := true })

/-- A one-cell entry with OPCODE 0 and OWN 1. -/
def nopCell : List Octet := [0, 0, 0x80, 0xC0] ++ zeros 12

/-- The header of the same entry with LEN 2. -/
def nopCell2 : List Octet := [0, 0, 0, 0xC1] ++ zeros 12
/-- Queue 3 with the header of a two-cell entry taken. -/
def queue3h : State := queue3.setQueue 3 { Queue.idle with rung := true, hdr := some nopCell2 }
/-- Queue 3 whose FETCH stands at the doorbell. -/
def queue3d : State := queue3.setReg (P.wq 3) R.WQ_FETCH 0o200005
/-- A job whose first descriptor cell has half of its octets. -/
def halfIn : Job := { jobOf 0o040 (zeros 24 ++ leOctets 4 32 ++ zeros 36) with
  inputs := [{ cell := (descCells false 0o040 0).headD 0, supplied := 32, elems := [(0, 32)], bad := false, octets := zeros 16 }] }

theorem witness_QueueEntriesAreFetchedInOrder :
    (up.deaf (P.wq 3) = false ∧ queue3.deaf (P.wq 3) = false ∧ queue3.en (P.wq 3) = true ∧
      queue3.stat (P.wq 3) ST.stopping = false ∧ queue3.dbInRange 3 ((0o200005 : Word) &&& 0o377777) = true ∧
      queue3.dbInRange 3 ((0o200020 : Word) &&& 0o377777) = false) ∧
    (queue3.mayFetch 3 = true ∧ (queue3.queue 3).hdr = none ∧ 16 ≤ nopCell.length ∧
      (decodeHeader (queue3.rbit (P.wq 3) R.WQ_CFG 17) (nopCell.take 16)).own = true ∧
      (decodeHeader (queue3.rbit (P.wq 3) R.WQ_CFG 17) (nopCell.take 16)).lap = tb (queue3.reg (P.wq 3) R.WQ_FETCH) 16 ∧
      (decodeHeader (queue3.rbit (P.wq 3) R.WQ_CFG 17) (nopCell.take 16)).len ≤ 1 ∧
      (decodeHeader (queue3.rbit (P.wq 3) R.WQ_CFG 17) (nopCell2.take 16)).own = true ∧
      (decodeHeader (queue3.rbit (P.wq 3) R.WQ_CFG 17) (nopCell2.take 16)).lap = tb (queue3.reg (P.wq 3) R.WQ_FETCH) 16 ∧
      1 < (decodeHeader (queue3.rbit (P.wq 3) R.WQ_CFG 17) (nopCell2.take 16)).len) ∧
    ((decodeHeader (queue3.rbit (P.wq 3) R.WQ_CFG 17) (zeros 16)).own = false ∧ ([] : List Octet).length < 16 ∧
      queue3.beyondDb 3 = false ∧ queue3d.mayFetch 3 = true ∧ queue3d.beyondDb 3 = true ∧ (queue3d.queue 3).hdr = none) ∧
    (queue3h.mayFetch 3 = true ∧ (queue3h.queue 3).hdr = some nopCell2) :=
  ⟨by decide, by decide, by decide, by decide⟩

theorem witness_QueueEntriesAreFetchedInOrder_taken :
    (entryCause false 4 0o200000 (decodeHeader false nopCell2) (zeros 16) false = none ∧
      (zeros 16).length = 16 * ((decodeHeader false nopCell2).len - 1) ∧
      entryCause false 4 0o200000 (decodeHeader false nopCell2) [] false = none ∧
      ([] : List Octet).length < 16 * ((decodeHeader false nopCell2).len - 1) ∧
      (entryCause false 4 0o200000 (decodeHeader false nopCell2) [] true).isSome = true) ∧
    ((has (jobOf 0o040 (zeros 64)) up).job 5 = some (jobOf 0o040 (zeros 64)) ∧
      (descCells false 0o040 0).contains ((descCells false 0o040 0).headD 0) = true ∧ (descCells false 0o040 0) ≠ [] ∧
      (jobOf 0o040 (zeros 64)).st ≠ .done ∧ ((jobOf 0o040 (zeros 64)).inp ((descCells false 0o040 0).headD 0)).isSome = false ∧
      (hostIn (jobOf 0o040 (zeros 64)) ((descCells false 0o040 0).headD 0) [] []).isSome = true) ∧
    ((has halfIn up).job 5 = some halfIn ∧ (halfIn.inp ((descCells false 0o040 0).headD 0)).isSome = true ∧
      halfIn.dataHere ((descCells false 0o040 0).headD 0) = false) ∧
    ((jobOf 0o304 []).utype = .core ∧ 0 < 1 ∧ 1 < (jobOf 0o304 (zeros 16)).len) := by decide
/-! ### Witnesses: queues, placement, forwarding, links, time -/

def fetchedJob : Job := { jobOf 0o200 (zeros 80) with st := .fetched }
def doneJob : Job := { jobOf 0 [] with st := .done }
def published3 : State := has { doneJob with queue := 3 } (queue3.setQueue 3 { Queue.idle with fifo := [5], unreported := 1 })

theorem witness_JobsLeaveTheQueueAndArePublished :
    ((has fetchedJob up).job 5 = some fetchedJob ∧ fetchedJob.st = .fetched ∧ (has fetchedJob up).canLeave 5 fetchedJob = true ∧
      fetchedJob.opcode ≠ 0 ∧ fetchedJob.isProg = false ∧ (has fetchedJob up).readsSound fetchedJob) ∧
    ((has { doneJob with st := .fetched } up).canLeave 5 { doneJob with st := .fetched } = true ∧ doneJob.opcode = 0) ∧
    (({ fetchedJob with st := .dispatched } : Job).fwd = none ∧ up.readsSound { fetchedJob with st := .dispatched }) ∧
    (published3.en (P.wq 3) = true ∧ published3.stat (P.wq 3) ST.stopping = false ∧
      published3.donePrefix (published3.queue 3).fifo ≠ []) ∧
    ((published3.setReg (P.wq 3) R.WQ_IRQ_MOD 1).rfld (P.wq 3) R.WQ_IRQ_MOD 8 0 ≠ 0 ∧ (published3.queue 3).unreported ≠ 0) ∧
    (published3.job 5 = some { doneJob with queue := 3 } ∧ doneJob.origin = none ∧
      (published3.queue 3).fifo.contains 5 = true) :=
  ⟨⟨by decide, by decide, by decide, by decide, by decide, by decide, fun _ _ h => nomatch h⟩, by decide,
    ⟨by decide, by decide, fun _ _ h => nomatch h⟩, by decide, by decide, by decide⟩

/-- Job 5 fetched, a bignum unit READY for it. -/
def placeable : State := has fetchedJob (ready (P.bn 0) up)
/-- A NOP that names session 9, which is not open. -/
def nopSess : Job := { doneJob with st := .fetched, sess := some 9 }
/-- Job 5 dispatched to bignum unit 0, which does not serve, beside unit 1, which does. -/
def strandedJob : Job := { fetchedJob with st := .dispatched, unit := some (P.bn 0) }
def stranded : State := has strandedJob (ready (P.bn 1) up)

theorem witness_JobsLeaveTheQueueAndArePublished_placed :
    (placeable.job 5 = some fetchedJob ∧ fetchedJob.opcode ≠ 0o010 ∧ fetchedJob.cmd = none ∧ fetchedJob.sess = none ∧
      placeable.credOf 5 fetchedJob = none ∧ placeable.sessionCheck 5 fetchedJob = none ∧
      placeable.custodyReady 5 fetchedJob = true ∧ placeable.gbAkaWait 5 fetchedJob = none ∧ fetchedJob.utype = .bignum ∧
      (List.range 4).any (placeable.hasUnit .bignum) = true) ∧
    (placeable.pickRegion .bignum = 0 ∧ placeable.parkedAhead .bignum 0 fetchedJob.cls = false ∧
      placeable.pickUnit .bignum 0 = some (P.bn 0) ∧ placeable.canLeave 5 fetchedJob = true) ∧
    ((has nopSess up).job 5 = some nopSess ∧ (has nopSess up).canLeave 5 nopSess = true ∧ nopSess.opcode = 0 ∧
      (has nopSess up).sessionCheck 5 nopSess = some S.denied ∧
      (has { nopSess with sess := none } up).sessionCheck 5 { nopSess with sess := none } = none) ∧
    (stranded.job 5 = some strandedJob ∧ strandedJob.unit = some (P.bn 0) ∧ stranded.serves (P.bn 0) = false ∧
      P.bn 0 < 0x400 ∧ stranded.pickUnit strandedJob.utype strandedJob.region = some (P.bn 1)) :=
  ⟨by decide, by decide, by decide, by decide⟩

/-- A SHA-256 job of class 0 with two blocks on digest unit 0, whose input queue is full, and a job of class 3 that waits. -/
def longSha : Job := { jobOf 0o141 (zeros 8 ++ leOctets 4 128 ++ zeros 36) with
  cls := 0, resoff := 2, unit := some (P.dig 0),
  inputs := [{ cell := 1, supplied := 128, elems := [(0, 128)], bad := false, octets := zeros 128 }] }
def crowded : State :=
  let s := (has longSha ((ready (P.dig 0) up).setRbit (P.dig 0) R.DIG_CFG 0 true)).setRuns (P.dig 0) (some 5)
  let s := s.setJob 6 { longSha with cls := 3, st := .fetched, unit := none }
  { s with lode := { s.lode with inQ := Map.put (dflt []) s.lode.inQ (P.dig 0) [11, 12, 13, 14] } }
def bnJob : Job := { jobOf 0o200 (zeros 80) with cls := 0, unit := some (P.bn 0) }
def parkedJob : Job := { bnJob with st := .parked, unit := none, parkMode := 1 }

/-- A keyed digest job, parked in the region's record 0, whose slot is no longer LIVE. -/
def parkedHmac : Job := { jobOf 0o162 (zeros 80) with st := .parked, parkMode := 1 }
/-- A digest job parked to host memory, with no state that fits. -/
def parkedSha : Job := { jobOf 0o140 (zeros 16) with st := .parked, parkMode := 3 }
/-- A parked job and a unit of its type. -/
def parkedIn (p : Nat) (j : Job) : State := has j (ready p up)

theorem witness_JobsParkResumeAndMoveSessions :
    (crowded.job 5 = some longSha ∧ longSha.unit = some (P.dig 0) ∧ crowded.parkable 5 longSha = true ∧
      (crowded.park 5 longSha 1).isSome = true ∧ crowded.shutPark longSha = false ∧
      (crowded.isVictim crowded.parkable 5 longSha).isSome = true) ∧
    ((stopping (P.dig 0) crowded).shutPark longSha = true ∧ (stopping (P.dig 0) crowded).parkable 5 longSha = true ∧
      ((stopping (P.dig 0) crowded).park 5 longSha 1).isSome = true) ∧
    ((parkedIn (P.bn 0) parkedJob).resumeUnit parkedJob = some (P.bn 0) ∧
      (parkedIn (P.bn 0) parkedJob).job 5 = some parkedJob ∧ parkedJob.st = .parked ∧ parkedJob.unit = none ∧
      (parkedIn (P.bn 0) parkedJob).recStruck parkedJob = none ∧
      (parkedIn (P.bn 0) parkedJob).savedWords parkedJob [] = some [] ∧
      (parkedIn (P.bn 0) parkedJob).resumeKey 5 parkedJob = none) ∧
    ((parkedIn (P.dig 0) parkedHmac).resumeUnit parkedHmac = some (P.dig 0) ∧
      (parkedIn (P.dig 0) parkedHmac).job 5 = some parkedHmac ∧ parkedHmac.unit = none ∧
      (parkedIn (P.dig 0) parkedHmac).recStruck parkedHmac = none ∧
      ((parkedIn (P.dig 0) parkedHmac).savedWords parkedHmac []).isSome = true ∧
      ((parkedIn (P.dig 0) parkedHmac).resumeKey 5 parkedHmac).isSome = true) ∧
    ((parkedIn (P.dig 0) parkedSha).resumeUnit parkedSha = some (P.dig 0) ∧ parkedSha.parkMode = 3 ∧
      (parkedIn (P.dig 0) parkedSha).job 5 = some parkedSha ∧ parkedSha.unit = none ∧
      (parkedIn (P.dig 0) parkedSha).recStruck parkedSha = none ∧
      (parkedIn (P.dig 0) parkedSha).savedWords parkedSha [] = none) :=
  ⟨by decide +kernel, by decide +kernel, by decide, by decide, by decide⟩

/-- The first word of record 0 of region 0 lost. -/
def lostRec : State := 
  let s := parkedIn (P.dig 0) parkedHmac
  { s with diag := { s.diag with upset := [digestRecAddr 0 0] } }

theorem witness_JobsParkResumeAndMoveSessions_lost :
    ((lostRec.recStruck parkedHmac).isSome = true ∧ lostRec.resumeUnit parkedHmac = some (P.dig 0)) ∧
    (∃ s : State, s.lode.moving.find? (fun m => m.1 == 7) = some (7, 2) ∧ s.sessSlot 7 = some 3 ∧
      s.struckIn (ctxBase 3) 64 = none) ∧
    (∃ s : State, s.cust.lastReq = some 9) := by
  refine ⟨by decide, ⟨{ up with lode := { up.lode with moving := [(7, 2)], slotOf := [(7, 4)] } }, by decide⟩,
    ⟨{ up with cust := { up.cust with lastReq := some 9 } }, rfl⟩⟩

theorem witness_TakingAJobLeavesMemoryAlone :
    (∃ t, exec (.eventDeliver 9) up = .next t) ∧ (∃ t, exec (.tailDbWrite .host 3 0o200005) queue3 = .next t) :=
  ⟨⟨_, rfl⟩, ⟨_, rfl⟩⟩

/-- Device 2, whose placement keeper is device 1. -/
def member : State := (up.setReg P.dnlx R.DNLX_DEV_ID 2).setReg P.place R.PLACE_CFG 1
theorem witness_PlacementChangesComeFromTheKeeper :
    (up.deaf P.place = false ∧ up.isKeeper = true ∧ up.committing = false) ∧
    (∃ s : State, s.deaf P.place = false ∧ s.isKeeper = true ∧ s.committing = true) ∧
    (member.deaf P.place = false ∧ member.isKeeper = false) ∧
    (∃ s : State, s.net.looking = true) ∧ (∃ s : State, s.net.next = some s.net.staged) ∧
    (epochRel member.net.applied.epoch 1 ≠ .rejected ∧ (1 : BitVec 18) = member.net.applied.epoch + 1 ∧
      epochRel member.net.applied.epoch 5 ≠ .rejected ∧ (5 : BitVec 18) ≠ member.net.applied.epoch + 1) ∧
    (epochRel up.net.applied.epoch 3 = .ahead ∧ epochRel member.net.applied.epoch 0o400000 = .rejected) := by
  refine ⟨by decide, ⟨{ up with net := { up.net with held := [.membership 2 1 [] []  none] } }, by decide⟩, by decide,
    ⟨{ up with net := { up.net with looking := true } }, rfl⟩,
    ⟨{ up with net := { up.net with next := some up.net.staged } }, rfl⟩, by decide, by decide⟩
/-- Page 0 is owned by device 4, with its replica on device 6, by an override. -/
def owned4 : State := { member with net := { member.net with applied := { member.net.applied with
  ovr := [(0, ⟨0o600000, 0, 4, 6⟩)] } } }
/-- The cells of a CRED_WRITE job (OPCODE 012) that names page 0. -/
def credCells : List Octet := [0, 0x80, 0x82, 0xC1] ++ zeros 60
def fwdRec : Fwd := { owner := 4, tag := 7, acked := false, onReplica := false, first := 0, resend := true }
def fwdd : Job := { jobOf 0o012 (zeros 48) with st := .dispatched, fwd := some fwdRec }
def fwdNop : Job := { jobOf 0o020 (zeros 48) with st := .dispatched, fwd := some fwdRec }
def foreignNop : Job := { jobOf 0o020 (zeros 48) with origin := some (4, 7) }

theorem witness_JobsAreForwardedToTheirOwner_received :
    (epochRel owned4.net.applied.epoch 0 ≠ .rejected ∧
      ((owned4.seeEpoch 4 0).job (foreignKey 4 7)) = none ∧
      (owned4.seeEpoch 4 0).credOf (foreignKey 4 7) (foreignJob 4 7 2 false false 0xFFFF false (zeros 16) [] 0 none) = none ∧
      (((owned4.setJob (foreignKey 4 7) foreignNop).seeEpoch 4 0).job (foreignKey 4 7)).isSome = true) ∧
    (∃ h, (owned4.seeEpoch 4 0).credOf (foreignKey 4 7) (foreignJob 4 7 2 false false 0xFFFF false credCells [] 0 none) = some h ∧
      ((owned4.seeEpoch 4 0).resident (hPage h) || (owned4.seeEpoch 4 0).ownsPage (hPage h)) = false) ∧
    ((owned4.setJob (foreignKey 4 7) foreignNop).job (foreignKey 4 7) = some foreignNop ∧ runsOn2 foreignNop = false ∧
      runsOn2 { foreignNop with opcode := 0o300 } = true ∧ ({ foreignNop with st := .done } : Job).st = .done ∧
      owned4.job (foreignKey 4 7) = none) ∧
    ((owned4.setQueue 3 { Queue.idle with aborts := [7] }).queue 3).aborts.contains 7 = true ∧
    ((foreignKey 4 7, some foreignNop) ∈ (owned4.setJob (foreignKey 4 7) foreignNop).jobs ∧ foreignNop.origin = some (4, 7)) := by
  refine ⟨by decide, ⟨_, rfl, by decide⟩, by decide, by decide, by decide⟩

theorem witness_JobsAreForwardedToTheirOwner_originated :
    ((has fwdNop owned4).fwdJob 7 = some (5, fwdNop) ∧ (has fwdNop owned4).replicaOf 5 fwdNop = none) ∧
    ((has fwdd owned4).fwdJob 7 = some (5, fwdd) ∧ fwdd.fwd = some fwdRec ∧ (has fwdd owned4).replicaOf 5 fwdd = some 6 ∧
      fwdRec.onReplica = false ∧ 6 ≠ fwdRec.owner ∧ 6 ≠ owned4.devId ∧ fwdRec.resend = true) ∧
    (∃ h, (((has fwdd owned4).inc36 P.place R.PLACE_REDIRECTS).seeEpoch 4 0).credOf 5 fwdd = some h ∧
      ((((has fwdd owned4).inc36 P.place R.PLACE_REDIRECTS).seeEpoch 4 0).owner (hPage h)).1 = 4 ∧ 4 ≠ 3) ∧
    ((((has fwdNop owned4).post (.resultAck 4 7)).fwdJob 7 = some (5, fwdNop)) ∧ fwdRec.owner = 4 ∧
      fwdNop.outSmall [] = false ∧ fwdNop.outSmall [(1, zeros 4)] = true) ∧
    (({ fwdRec with onReplica := true } : Fwd).onReplica = true) := by
  refine ⟨by decide, by decide, ⟨_, rfl, by decide⟩, by decide, by decide⟩

def linkIn (st : Nat) : State := up.setLink 1 st 0

/-- The trust and identity slots (slot 0) live, with key `k`. -/
def trusted (k : BitVec 256) : State := (linkIn L.attest).setSlot 0 ⟨k, 0, 0o200⟩
/-- Port 1 UP with changes to its record. -/
def portS (f : Port → Port) : State := (linkIn L.up).setPort 1 (f (up.port 1))
/-- A flit of a TYPE with sequence number `sq` and a good CRC. -/
def goodFlit (typ sq : Nat) : List Octet :=
  let l := [BitVec.ofNat 8 (16 * typ)] ++ beOctets 3 (4096 * sq) ++ zeros 56
  l ++ leOctets 4 (crc32 l).toNat

theorem witness_DenletLinksTrainCarryAndFail :
    ((linkIn L.train).lstate 1 = L.train ∧ (linkIn L.attest).lstate 1 = L.attest ∧ (linkIn L.up).lstate 1 = L.up) ∧
    (up.anchored [] = false ∧ up.hasIdentity = false) ∧
    (∃ s : State, s.lstate 1 = L.attest ∧ s.anchored [] = true ∧ s.hasIdentity = true ∧ 0 = s.devId ∧ 5 ≠ s.devId ∧
      epochRel s.net.applied.epoch 0o400000 = .rejected ∧ epochRel s.net.applied.epoch 3 ≠ .rejected) ∧
    ((portS (fun v => { v with replay := [(3, [])] })).port 1).replay ≠ [] ∧
    ((portS (fun v => { v with ready := [(0, [])] })).port 1).ready = (0, []) :: [] ∧
    ((portS (fun v => { v with ready := [(0, [])] })).opened 1 5 [] = none) ∧
    (2 ^ 32 ≤ ((portS (fun v => { v with txMsg := 2 ^ 32, rxMsg := 2 ^ 32 })).port 1).txMsg ∧
      2 ^ 32 ≤ ((portS (fun v => { v with txMsg := 2 ^ 32, rxMsg := 2 ^ 32 })).port 1).rxMsg) ∧
    ((linkIn L.up).eqFrozen 1 = false ∧ up.deaf P.dnlx = false) := by
  refine ⟨by decide, by decide, ⟨trusted (BitVec.ofNat 256 (beNat (sha3_256 []))), by decide +kernel⟩, by decide, by decide,
    by decide, by decide, by decide⟩

theorem witness_DenletLinksTrainCarryAndFail_flits :
    (∀ p ∈ [(0, 9), (5, 9), (4, 0), (4, 9)],
      leNat (sliceOct (goodFlit p.1 p.2) 60 4) = (crc32 (sliceOct (goodFlit p.1 p.2) 0 60)).toNat ∧
      ((goodFlit p.1 p.2).getD 0 0).toNat < 128 ∧ ((goodFlit p.1 p.2).getD 0 0).toNat / 16 = p.1 ∧
      beNat (sliceOct (goodFlit p.1 p.2) 1 3) / 4096 = p.2) ∧
    (0 = (((((linkIn L.up).acked 1 0).inc36 (P.dnl 1) R.DNL_RX_FLITS).port 1).rxSeq + 1) % 4096 ∧
      9 ≠ (((((linkIn L.up).acked 1 0).inc36 (P.dnl 1) R.DNL_RX_FLITS).port 1).rxSeq + 1) % 4096) ∧
    (leNat (sliceOct (zeros 64) 60 4) ≠ (crc32 (sliceOct (zeros 64) 0 60)).toNat ∧ 128 ≤ ((goodFlit 8 0).getD 0 0).toNat) := by
  decide +kernel

/-- A message of one octet, sealed as the peer seals it. -/
def sealedMsg : List Octet :=
  let r := gcmEnc (beOctets 32 ((linkIn L.up).port 1).rxKey.toNat)
    (netIv ((linkIn L.up).peerOf 1) (linkIn L.up).devId ((linkIn L.up).port 1).rxMsg) [] [7]
  r.1 ++ r.2 ++ zeros 39

/-- A message sealed with a key and an IV opens with them (R118). -/
theorem gcm_opens (key iv aad pt : List Octet) :
    (gcmDec key iv aad (gcmEnc key iv aad pt).1 (gcmEnc key iv aad pt).2).isSome = true := by
  simp [gcmDec, gcmEnc]

/-- A ciphertext of one octet, its tag of 16 and the padding come apart again. -/
theorem sealed_parts (c t p : List Octet) (hc : c.length = 1) (ht : t.length = 16) :
    (c ++ t ++ p).take 1 = c ∧ sliceOct (c ++ t ++ p) 1 16 = t ∧ (c ++ t ++ p).drop 17 = p := by
  match c, hc with
  | [a], _ => simp [sliceOct, ht]

theorem witness_DenletLinksTrainCarryAndFail_opened :
    ((linkIn L.up).opened 1 1 sealedMsg).isSome = true ∧ 0 = (linkIn L.up).devId ∧ 9 ≠ (linkIn L.up).devId := by
  refine ⟨?_, by decide⟩
  obtain ⟨a, b, c⟩ := sealed_parts (gcmEnc (beOctets 32 ((linkIn L.up).port 1).rxKey.toNat)
    (netIv ((linkIn L.up).peerOf 1) (linkIn L.up).devId ((linkIn L.up).port 1).rxMsg) [] [7]).1 (gcmEnc
    (beOctets 32 ((linkIn L.up).port 1).rxKey.toNat)
    (netIv ((linkIn L.up).peerOf 1) (linkIn L.up).devId ((linkIn L.up).port 1).rxMsg) [] [7]).2 (zeros 39)
    (by decide +kernel) (by decide +kernel)
  rw [State.opened, if_pos (by decide +kernel), sealedMsg, a, b]
  exact gcm_opens _ _ _ _

/-- Device 2, one hop on port 1 from device 1, the time master. -/
def slave : State :=
  let s := (member.setReg P.dnlx R.DNLX_TIME_CFG 1).setLink 1 L.up 0
  { s with net := { s.net with routes := Map.put (dflt 0) s.net.routes 1 0o500000 } }

theorem witness_SystemTimeFollowsItsMaster :
    (up.deaf P.dnlx = false ∧ up.timeMaster = true ∧
      ¬ ((0 : Word) ++ up.clock.set2 ++ up.clock.set1 ++ up.clock.set0 : BitVec 72) < up.clock.sys) ∧
    (∃ s : State, s.timeMaster = true ∧ ((0 : Word) ++ s.clock.set2 ++ s.clock.set1 ++ s.clock.set0 : BitVec 72) < s.clock.sys) ∧
    (member.timeMaster = false ∧ (up.setLink 1 L.up 0).lstate 1 = L.up ∧ (up.setLink 1 L.up 0).timeMaster = true) ∧
    (slave.lstate 1 = L.up ∧ slave.timeMaster = false ∧ slave.masterPort = some 1 ∧ slave.masterPort ≠ some 2) ∧
    (1000 < (1001 : Int).natAbs ∧ (-100 : Int).natAbs ≤ 100 ∧ 100 < (-101 : Int).natAbs) ∧
    (∃ s : State, 15 ≤ s.clock.good ∧ s.rbit P.dnlx R.DNLX_TIME_STAT 17 = false) ∧
    (∃ s : State, s.clock.good < 15 ∧ s.rbit P.dnlx R.DNLX_TIME_STAT 17 = true) := by
  refine ⟨by decide, ⟨{ up with clock := { up.clock with sys := 5 } }, by decide⟩, by decide, by decide, by decide,
    ⟨{ member with clock := { member.clock with good := 15 } }, by decide⟩,
    ⟨member.setRbit P.dnlx R.DNLX_TIME_STAT 17 true, by decide⟩⟩
/-! ### Witnesses: sessions, credentials, slots, custody -/

/-- Page 0 in frame 0, its entry 0 in state `st` with generation 0 and colour 0. -/
def paged (st : Nat) (s : State) : State :=
  (s.setFrame 0 ⟨true, false, false, false, 0, 0⟩).setWords (frameBase 0 + 7) [wd (16 * st)]
/-- Slot 7 LIVE, with every usage, exportable, ALG 3. -/
def slotted (s : State) : State := s.setSlot 7 ⟨1, 0o177702, 0o200⟩
/-- PEAT serves keys: the master key is live. -/
def serving (s : State) : State := (ready P.peat s).setReg P.hmk R.HMK_STAT 1
/-- The DRBGs deliver. -/
def rngOn (s : State) : State := (ready P.rng s).setReg P.rng R.RNG_STAT 0o37
/-- A body whose double word `d` of cell 1 is `v`, of three cells more. -/
def body1 (d v : Nat) : List Octet := zeros (4 * d) ++ leOctets 4 v ++ zeros (12 - 4 * d) ++ zeros 48

def sessJob : Job := { jobOf 0o001 (zeros 32) with sess := some 9 }

theorem witness_SessionJobsChangeTheContextAtPublication :
    ((has sessJob up).runs 5 0o001 sessJob ∧ bits sessJob.oparg 31 5 = 0 ∧ sessClean sessJob = true ∧
      sessJob.keyHolds (bits sessJob.oparg 3 0) = true ∧ (has sessJob up).sessStale 5 sessJob = false) ∧
    (bits ({ sessJob with oparg := 32 } : Job).oparg 31 5 ≠ 0 ∧ ({ sessJob with qkey := 0 } : Job).keyHolds 0 = false) ∧
    ((has { sessJob with body := body1 0 (2 ^ 31 + 7) } up).sessStale 5 { sessJob with body := body1 0 (2 ^ 31 + 7) } = true ∧
      sessClean { sessJob with body := body1 0 (2 ^ 31 + 7) } = true) ∧
    ((has (jobOf 0o002 []) up).runs 5 0o002 (jobOf 0o002 []) ∧ (jobOf 0o002 []).oparg = 0) ∧
    ((has { sessJob with opcode := 3 } up).runs 5 0o003 { sessJob with opcode := 3 } ∧
      (has { sessJob with opcode := 3 } up).sessStale 5 { sessJob with opcode := 3 } = false) := by
  simp only [State.runs]; decide

/-- The header of page 0's image, under slot 7, and its octets. -/
def headWords : List Word := [0o513001, 0, 0, 0, 7] ++ List.replicate 31 0
def loadIn : HostIn := { cell := 1, supplied := imageLen, elems := [(0, imageLen)], bad := false, octets := zeros 81 }
def loadOk : HostIn := { loadIn with octets := wordStream headWords }
def loadWith (h : HostIn) : Job := { jobOf 0o010 (zeros 8 ++ leOctets 4 imageLen ++ zeros 4) with inputs := [h] }
def loadJob : Job := loadWith loadIn
def evictJob : Job := { jobOf 0o011 (leOctets 4 imageLen ++ zeros 4 ++ leOctets 4 imageLen ++ zeros 4 ++ leOctets 4 7 ++ zeros 28) with
  oparg := 2 ^ 31 }
def loadS (j : Job) : State := has j (rngOn (slotted up))
/-- Every region quarantined. -/
def allQuar (s : State) : State := s.setReg P.rstc R.RSTC_RG_STAT 0o360

theorem witness_CredentialPagesLoadAndLeave :
    ((loadS loadJob).runs 5 0o010 loadJob ∧ loadJob.frame = none ∧ bits loadJob.oparg 31 26 = 0 ∧ loadJob.sgBad 1 = false ∧
      loadJob.lenKnown 1 = true ∧ imageLen ≤ loadJob.supplied 1 ∧ loadJob.hostErr = false ∧ loadJob.inp 1 = some loadIn ∧
      81 ≤ loadIn.octets.length ∧
      ((loadS loadJob).headerCheck (streamWords 36 (loadIn.octets.take 81)) (bits loadJob.oparg 25 0)).isSome = true ∧
      (loadS loadJob).headerStruck (streamWords 36 (loadIn.octets.take 81)) (bits loadJob.oparg 25 0) = none) ∧
    ((loadS (loadWith loadOk)).headerCheck (streamWords 36 (loadOk.octets.take 81)) 0 = none ∧ 81 ≤ loadOk.octets.length ∧
      (loadS (loadWith loadOk)).headerStruck (streamWords 36 (loadOk.octets.take 81)) 0 = none ∧
      (loadS (loadWith loadOk)).pickFrame = some 0 ∧
      (allQuar (loadS (loadWith loadOk))).headerCheck (streamWords 36 (loadOk.octets.take 81)) 0 = none ∧
      (allQuar (loadS (loadWith loadOk))).pickFrame = none) ∧
    (({ loadJob with frame := some 0 } : Job).frame = some 0 ∧ (up.frame 0).chunks.getLsbD 15 = false ∧
      up.slotStruck ((cw (streamWords 36 (loadIn.octets.take 81)) 4).setWidth 32) = none) := by
  simp only [State.runs]
  exact ⟨by decide, by decide, by decide⟩

theorem witness_CredentialPagesLoadAndLeave_evict :
    ((has evictJob (paged 0 up)).runs 5 0o011 evictJob ∧ evictJob.frame = none ∧ tb evictJob.oparg 31 = true ∧
      bits evictJob.oparg 30 26 = 0 ∧ refClean (evictJob.dw 2 0) = true ∧ bits (evictJob.dw 2 1) 31 5 = 0 ∧
      bits (evictJob.dw 2 1) 4 0 ≤ 16 ∧ (has evictJob (paged 0 up)).frameOf (bits evictJob.oparg 25 0) = some 0 ∧
      ((has evictJob (paged 0 up)).frame 0).loading = false ∧ ((has evictJob (paged 0 up)).frame 0).dirty = false) ∧
    (∃ j, j = { evictJob with oparg := 0 } ∧ tb j.oparg 31 = false ∧ (loadS j).slotStruck (j.dw 2 0) = none ∧
      (loadS j).domainCheck (refSlot (j.dw 2 0)) (refGen (j.dw 2 0)) U.wrap = none ∧ j.sgBad 1 = false ∧
      j.lenKnown 1 = true ∧ imageLen ≤ j.supplied 1) ∧
    ((has { evictJob with frame := some 0 } (paged 0 up)).pageQuiet 5 0 = true ∧
      tb ({ evictJob with oparg := 0 } : Job).oparg 31 = false ∧ (rngOn up).rngOk custodyInst = true ∧
      (rngOn up).slotStruck (evictJob.dw 2 0) = none ∧
      ((up.setFrame 0 ⟨true, false, true, false, 0, 0⟩).frame 0).dirty = true) := by
  simp only [State.runs]
  exact ⟨by decide, ⟨_, rfl, by decide⟩, by decide⟩

/-- Every ciphertext has a tag of 16 octets under a key and an IV that give a block. -/
theorem gcm_has_tag (key iv aad ct : List Octet) (h : (encBlk (aesSchedule key) (gcmJ0 iv)).length = 16) :
    ∃ t : List Octet, t.length = 16 ∧ (gcmDec key iv aad ct t).isSome = true := by
  refine ⟨gcmTag (aesSchedule key) iv (ghash (gcmH (aesSchedule key)) (ghash (gcmH (aesSchedule key)) 0 (chunks 16 aad))
    (chunks 16 ct)) aad.length ct.length, ?_, ?_⟩
  · simp [gcmTag, xorO, beOctets, h]
  · simp [gcmDec]

/-- A chunk whose tag holds: its 4,608 octets and the tag behind them. -/
theorem chunk_exists (key iv aad : List Octet) (h : (encBlk (aesSchedule key) (gcmJ0 iv)).length = 16) :
    ∃ d : List Octet, (gcmDec key iv aad (d.take 4608) (sliceOct d 4608 16)).isSome = true := by
  obtain ⟨t, ht, hm⟩ := gcm_has_tag key iv aad (List.replicate 4608 0) h
  refine ⟨List.replicate 4608 0 ++ t, ?_⟩
  have a : (List.replicate 4608 (0 : Octet) ++ t).take 4608 = List.replicate 4608 0 := by simp
  have b : sliceOct (List.replicate 4608 (0 : Octet) ++ t) 4608 16 = t := by
    rw [sliceOct, List.drop_left' (by simp), List.take_of_length_le (by omega), ht]
    simp
  rw [a, b]; exact hm

theorem witness_CredentialPagesLoadAndLeave_chunk :
    ∃ data : List Octet, (gcmDec (beOctets 32 ((loadS loadJob).slot 7).key.toNat) (headerNonce headWords ++ beOctets 2 15)
      (wordStream headWords ++ [15]) (data.take 4608) (sliceOct data 4608 16)).isSome = true :=
  chunk_exists _ _ _ (by decide +kernel)

def slotJob (op : Nat) : Job := { jobOf op (body1 0 7) with oparg := 9 }
def credJob (op : Nat) : Job := jobOf op (body1 2 7)
def slotS (j : Job) : State := has j (rngOn (serving (slotted (paged 0 up))))
def attrBody : List Octet := leOctets 4 0o177702 ++ zeros 60
def deriveIn : HostIn := { cell := 2, supplied := 4, elems := [(0, 4)], bad := false, octets := zeros 4 }
def deriveJob : Job := { jobOf 0o023 (leOctets 4 7 ++ leOctets 4 0o177702 ++ zeros 16 ++ leOctets 4 4 ++ zeros 20) with
  oparg := 9, inputs := [deriveIn] }
def rngJob : Job := { jobOf 0o030 (zeros 8 ++ leOctets 4 4 ++ zeros 4) with oparg := 4 }

/-- Slot 7's key, and a CRED_WRITE of sixteen octets wrapped under it. -/
def slot7Key : List Octet := (Slot.mk 1 0o177702 0o200).keyOctets
/-- A secret and a slot's key with its attributes, as slot 7 wraps them, and blobs that do not unwrap. -/
def goodEntry : List Octet := kwWrap slot7Key (zeros 16)
def badEntry : List Octet := kwWrapIv slot7Key (zeros 8) (zeros 16)
def slotPlain : List Octet := zeros 31 ++ [1] ++ beOctets 3 0o177702
def goodSlot : List Octet := kwpWrap slot7Key slotPlain
def badSlot : List Octet := kwWrapIv slot7Key (zeros 8) (zeros 40)
/-- A CRED_WRITE of blob `b`, and a SLOT_UNWRAP of it to slot 9. -/
def writeJob (b : List Octet) : Job := jobOf 0o012 ((body1 2 7).take 16 ++ b ++ zeros 24)
def unwrapJob (b : List Octet) : Job := { jobOf 0o021 ((body1 0 7).take 16 ++ b ++ zeros 16) with oparg := 9 }

theorem witness_CredentialsAndSlotsAreMadeByTheirJobs :
    ((slotS (credJob 0o012)).credSlotCheck 5 (credJob 0o012) U.unwrap = none ∧ (slotS (credJob 0o012)).runs 5 0o012 (credJob 0o012) ∧
      (credJob 0o012).oct 2 24 8 = zeros 8) ∧
    ((slotS (credJob 0o013)).credSlotCheck 5 (credJob 0o013) U.derive = none ∧ (slotS (credJob 0o013)).runs 5 0o013 (credJob 0o013)) ∧
    (∀ op ∈ [0o014, 0o015], ∃ n, (has (jobOf op (zeros 32)) (paged n up)).runs 5 op (jobOf op (zeros 32)) ∧
      (jobOf op (zeros 32)).oparg = 0 ∧ (jobOf op (zeros 32)).handlePad 1 0 = true ∧
      eState ((has (jobOf op (zeros 32)) (paged n up)).credView 5 (jobOf op (zeros 32)) 0 0) = n ∧
      (n = 1 ∧ op = 0o014 ∨ n = 2 ∧ op = 0o015) ∧
      eGen ((has (jobOf op (zeros 32)) (paged n up)).credView 5 (jobOf op (zeros 32)) 0 0) = hGen 0 ∧
      (jobOf op (zeros 32)).colourOk (eColour ((has (jobOf op (zeros 32)) (paged n up)).credView 5 (jobOf op (zeros 32)) 0 0)) = true ∧
      (has (jobOf op (zeros 32)) (paged n up)).sessionHolds 0 0 = false) ∧
    (∃ j, j = { slotJob 0o015 with oparg := 1 } ∧ (has j (up.setSlot 7 ⟨0, 0o177702, 0o400⟩)).runs 5 0o015 j ∧
      refClean (j.dw 1 0) = true ∧ tb (j.dw 1 0) 31 = false ∧ refSlot (j.dw 1 0) < custodianFirst ∧
      ((has j (up.setSlot 7 ⟨0, 0o177702, 0o400⟩)).slot (refSlot (j.dw 1 0))).state = 2 ∧
      ((has j (up.setSlot 7 ⟨0, 0o177702, 0o400⟩)).slot (refSlot (j.dw 1 0))).gen = refGen (j.dw 1 0) ∧
      j.keyHolds ((has j (up.setSlot 7 ⟨0, 0o177702, 0o400⟩)).slot (refSlot (j.dw 1 0))).colour = true) := by
  simp only [State.runs]
  refine ⟨by decide, by decide, ?_, ⟨_, rfl, by decide⟩⟩
  intro op h
  simp only [List.mem_cons, List.not_mem_nil, or_false] at h
  rcases h with rfl | rfl
  · exact ⟨1, by decide⟩
  · exact ⟨2, by decide⟩

theorem witness_CredentialsAndSlotsAreMadeByTheirJobs_slots :
    (∃ j, j = { slotJob 0o020 with body := attrBody } ∧ (slotS j).runs 5 0o020 j ∧ slotArg j = true ∧ bits (j.dw 1 0) 31 18 = 0 ∧
      j.dw 1 1 = 0 ∧ (slotS j).targetCheck j 9 (wd (j.dw 1 0).toNat) = none ∧ (slotS j).rngOk custodyInst = true ∧
      ((slotS j).targetCheck j 7 (wd (j.dw 1 0).toNat)).isSome = true) ∧
    (∃ j, j = slotJob 0o021 ∧ (slotS j).runs 5 0o021 j ∧ slotArg j = true ∧ tb (j.dw 1 0) 31 = false ∧ j.dw 1 1 = 0 ∧
      bits j.oparg 15 0 < custodianFirst ∧ (slotS j).slotCheck j (j.dw 1 0) U.unwrap = none ∧
      ((slotS j).slot (refSlot (j.dw 1 0))).alg ≤ 3) ∧
    (∃ j, j = { slotJob 0o022 with oparg := 7 } ∧ (slotS j).runs 5 0o022 j ∧ refClean j.oparg = true ∧ tb j.oparg 31 = false ∧
      refSlot j.oparg < custodianFirst ∧ ((slotS j).slot 7).state = 1 ∧ ((slotS j).slot 7).gen = refGen j.oparg ∧
      j.keyHolds ((slotS j).slot 7).colour = true ∧ ((slotS j).slot 7).export = true ∧
      (slotS j).slotCheck j (j.dw 1 0) U.wrap = none) ∧
    ((slotS deriveJob).runs 5 0o023 deriveJob ∧ slotArg deriveJob = true ∧ bits (deriveJob.dw 1 1) 31 18 = 0 ∧
      (slotS deriveJob).slotCheck deriveJob (deriveJob.dw 1 0) U.derive = none ∧
      (slotS deriveJob).targetCheck deriveJob 9 (derivedAttr ((slotS deriveJob).slot 7) (wd (deriveJob.dw 1 1).toNat)) = none ∧
      deriveJob.declared 2 ≠ 0 ∧ deriveJob.declared 2 ≤ 256 ∧ deriveJob.sgBad 2 = false ∧ deriveJob.lenKnown 2 = true ∧
      deriveJob.lenStatus = none ∧ deriveJob.hostErr = false ∧ deriveJob.dataHere 2 = true) ∧
    (∃ j, j = { slotJob 0o024 with oparg := 7 } ∧ (slotS j).runs 5 0o024 j ∧ ((slotS j).slot (refSlot j.oparg)).state = 1) ∧
    ((slotS (slotJob 0o025)).runs 5 0o025 (slotJob 0o025) ∧ slotArg (slotJob 0o025) = true ∧
      ((slotS (slotJob 0o025)).slot (bits (slotJob 0o025).oparg 15 0)).state ≠ 1 ∧
      (slotJob 0o025).keyHolds ((slotS (slotJob 0o025)).slot 7).colour = true) := by
  simp only [State.runs]
  exact ⟨⟨_, rfl, by decide⟩, ⟨_, rfl, by decide⟩, ⟨_, rfl, by decide⟩, by decide, ⟨_, rfl, by decide⟩, by decide⟩

theorem slot7_long : 4 ≤ slot7Key.length := by decide
theorem oct_of_append (h b z : List Octet) (hh : h.length = 16) :
    sliceOct (h ++ b ++ z) ((2 - 1) * 16 + 0) b.length = b := by
  have e : (h ++ b ++ z).drop ((2 - 1) * 16 + 0) = b ++ z := by rw [List.append_assoc]; exact List.drop_left' hh
  rw [sliceOct, e, List.take_left]
  simp
theorem goodEntry_length : goodEntry.length = 24 := kwWrapIv_length slot7Key _ [zeros 8, zeros 8] slot7_long rfl (by decide)
theorem badEntry_length : badEntry.length = 24 := kwWrapIv_length slot7Key _ [zeros 8, zeros 8] slot7_long rfl (by decide)

theorem witness_CredentialsAndSlotsAreMadeByTheirJobs_entries :
    (∀ b ∈ [goodEntry, badEntry], (slotS (writeJob b)).credSlotCheck 5 (writeJob b) U.unwrap = none ∧
      (slotS (writeJob b)).runs 5 0o012 (writeJob b) ∧ (writeJob b).oct 2 24 8 = zeros 8) ∧
    kwUnwrap slot7Key ((writeJob goodEntry).oct 2 0 24) = some (zeros 16) ∧
    kwUnwrap slot7Key ((writeJob badEntry).oct 2 0 24) = none := by
  simp only [State.runs]
  have g : (writeJob goodEntry).oct 2 0 24 = goodEntry := by
    have := oct_of_append ((body1 2 7).take 16) goodEntry (zeros 24) (by decide)
    rw [goodEntry_length] at this
    exact this
  have b : (writeJob badEntry).oct 2 0 24 = badEntry := by
    have := oct_of_append ((body1 2 7).take 16) badEntry (zeros 24) (by decide)
    rw [badEntry_length] at this
    exact this
  have n : (List.replicate 8 (0xA6 : Octet)).length = 8 := rfl
  have z : (zeros 16).length = 8 * 2 := rfl
  refine ⟨?_, ?_, ?_⟩
  · intro b h
    simp only [List.mem_cons, List.not_mem_nil, or_false] at h
    rcases h with rfl | rfl <;> exact ⟨by decide +kernel, ⟨rfl, rfl, rfl, by decide +kernel⟩, by decide +kernel⟩
  · rw [g]; exact (kwUnwrap_kwWrapIv _ _ _ 2 slot7_long n z).trans (if_pos rfl)
  · rw [b]; exact (kwUnwrap_kwWrapIv _ _ _ 2 slot7_long rfl z).trans (if_neg (by decide))

theorem witness_CredentialsAndSlotsAreMadeByTheirJobs_blobs :
    (∀ b ∈ [goodSlot, badSlot], (slotS (unwrapJob b)).runs 5 0o021 (unwrapJob b) ∧
      (slotS (unwrapJob b)).slotCheck (unwrapJob b) ((unwrapJob b).dw 1 0) U.unwrap = none ∧
      (slotS (unwrapJob b)).targetCheck (unwrapJob b) 9 0o177702 = none) ∧
    (slotPlain.length = 35 ∧ beNat (slotPlain.drop 32) = 0o177702) ∧
    kwpUnwrap slot7Key goodSlot = some slotPlain ∧ kwpUnwrap slot7Key badSlot = none := by
  simp only [State.runs]
  refine ⟨?_, by decide, kwpUnwrap_kwpWrap _ _ slot7_long (by decide) (by decide),
    kwpUnwrap_none _ _ _ 5 slot7_long rfl rfl (by decide) (by decide)⟩
  intro b h
  simp only [List.mem_cons, List.not_mem_nil, or_false] at h
  rcases h with rfl | rfl <;> exact ⟨⟨rfl, rfl, rfl, by decide +kernel⟩, by decide +kernel, by decide +kernel⟩
theorem witness_CredentialsAndSlotsAreMadeByTheirJobs_blobsRead :
    (unwrapJob goodSlot).oct 2 0 48 = goodSlot ∧ (unwrapJob badSlot).oct 2 0 48 = badSlot := by
  have g : goodSlot.length = 48 := by
    have := kwWrapIv_length slot7Key (kwpIv 35) (chunks 8 (slotPlain ++ zeros 5)) slot7_long rfl (by decide)
    exact this
  have b : badSlot.length = 48 := kwWrapIv_length slot7Key (zeros 8) (List.replicate 5 (zeros 8)) slot7_long rfl (by decide)
  have r := oct_of_append ((body1 0 7).take 16) goodSlot (zeros 16) (by decide)
  have t := oct_of_append ((body1 0 7).take 16) badSlot (zeros 16) (by decide)
  rw [g] at r
  rw [b] at t
  exact ⟨r, t⟩

theorem witness_CredentialsAndSlotsAreMadeByTheirJobs_rest :
    ((slotS rngJob).runs 5 0o030 rngJob ∧ bits rngJob.oparg 12 0 = 4 ∧ bits rngJob.oparg 31 13 = 0 ∧ rngJob.sgBad 1 = false ∧
      rngJob.lenKnown 1 = true ∧ 4 ≤ rngJob.supplied 1 ∧ (slotS rngJob).rngOk rngJob.region = true ∧
      up.rngOk rngJob.region = false) ∧
    (up.slotPending 5 9 = false ∧ up.cust.compacting = false ∧ up.journalFull = false ∧
      up.cust.journal.length < up.journalCap) := by
  simp only [State.runs]
  exact ⟨by decide, by decide⟩

/-! ### Witnesses: entropy, ceremonies, ciphers, digests, bignum -/
/-- A cell that describes `n` octets. -/
def descN (n : Nat) : List Octet := zeros 8 ++ leOctets 4 n ++ zeros 4

theorem witness_EntropyJournalAndColourKeys :
    ((rngOn up).en P.rng = true ∧ (rngOn up).stat P.rng ST.error = false) ∧
    (max 0o20 ((rngOn up).rfld P.rng R.RNG_RCT_CUT 7 0) ≤ (zeros 255).length ∧
      ((zeros 255).drop ((zeros 255).length - max 0o20 ((rngOn up).rfld P.rng R.RNG_RCT_CUT 7 0))).all
        (fun o => o == (zeros 255).getLastD 0) = true) ∧
    ((zeros 512).isEmpty = false ∧ (rngOn up).rfld P.rng R.RNG_APT_CUT 8 0 ≤
      ((zeros 512).filter (fun x => x == (zeros 512).headD 0)).length) ∧
    (∃ s : State, s.rngOk 4 = true ∧ max 1 (s.rfld P.rng R.RNG_CFG 15 0) * 4096 ≤ Map.get (dflt 0) s.cust.reqs 4) ∧
    (∃ s : State, s.rngOk 4 = true ∧ Map.get (dflt 0) s.cust.seeded 4 + 1000000000 ≤ s.now + 1) ∧
    (∃ s : State, s.cust.compacting = true) ∧
    (up.deaf P.peat = false ∧ up.en (P.wq (up.rfld P.peat R.PEAT_QKEY_SEL 7 0)) = false ∧
      up.stat (P.wq (up.rfld P.peat R.PEAT_QKEY_SEL 7 0)) ST.stopping = false) ∧
    ((on (P.wq 0) up).en (P.wq ((on (P.wq 0) up).rfld P.peat R.PEAT_QKEY_SEL 7 0)) = true) := by
  refine ⟨by decide, by decide, by decide,
    ⟨{ rngOn up with cust := { (rngOn up).cust with reqs := [(4, 2 ^ 28)] } }, by decide⟩,
    ⟨{ rngOn up with now := 1000000000 }, by decide⟩,
    ⟨{ up with cust := { up.cust with compacting := true } }, rfl⟩, by decide, by decide⟩

/-- A ceremony of function `f` in CER_STAT `st`, with the card of station 2 present. -/
def cerS (f st : Nat) : State :=
  let s := (((ready (P.cst 2) up).setRfld P.peat R.PEAT_CER_STAT 2 0 st).setRbit P.peat R.PEAT_CUST_STN 2 true).setRbit
    (P.cst 2) R.CST_STAT 3 true
  { s with cust := { s.cust with cer := { s.cust.cer with func := f } } }

/-- Two custodian cards by their keys, whose signatures of the challenges of a LEAVE_GB ceremony from nonce 0 and an
ENROL_DOMAIN ceremony from nonce 3 are twice the challenge: r = s = e, so that both scalars of the verification are 1. -/
def keyOf (x y : Nat) : List Octet := [0x04] ++ beOctets 32 x ++ beOctets 32 y
def x3 : Nat := 92417129788977096326670070281208363856552784961111710875966341200317817633515
def y3 : Nat := 58848080529361420743143856428401238326934964839609289283208124198597632879637
def signed3 : List Octet := beOctets 32 108593714230834483121243506431940444233758608532505893094924866828486708702788
def x1 : Nat := 31257714619574449258296978353398695498265136287814020804619559043727452214001
def y1 : Nat := 37396952546275838831299525205045925056326849236253417398810292497441121039964
def signed1 : List Octet := beOctets 32 85432294922533683083693747687336905144191142354633589843435179132623208071097
def twice (l : List Octet) : List Octet := l ++ l
/-- The card is a custodian's; new cards are being enrolled; a card has been seen. -/
def withCustodian (k : BitVec 256) (s : State) : State := s.setSlot custodianFirst ⟨k, 0, 0o200⟩
def cerWith (f : Ceremony → Ceremony) (s : State) : State := { s with cust := { s.cust with cer := f s.cust.cer } }

theorem witness_CeremoniesRunByQuorum :
    (up.deaf P.peat = false ∧ (cerS 0 1).cerRuns = true ∧ up.cerRuns = false ∧
      cerAllowed 1 (up.rfld P.hmk R.HMK_STAT 1 0) = false ∧ cerAllowed 0 (up.rfld P.hmk R.HMK_STAT 1 0) = true ∧
      quorumOk (up.reg P.peat R.PEAT_CER_PARAM) = false ∧
      quorumOk (((rngOn up).setReg P.peat R.PEAT_CER_PARAM 0o43).reg P.peat R.PEAT_CER_PARAM) = true ∧
      ((rngOn up).setReg P.peat R.PEAT_CER_PARAM 0o43).rngOk custodyInst = true) ∧
    ((cerS 0 2).rfld P.peat R.PEAT_CER_STAT 2 0 = 2 ∧ (cerS 0 2).cust.cer.func ≠ 2) ∧
    (∃ s : State, s.cerRuns = true ∧ s.cust.cer.startSys.toNat + 600000000000 ≤ s.clock.sys.toNat) ∧
    ((cerS 3 1).cerState = 1 ∧ (cerS 3 1).rbit P.peat R.PEAT_CUST_STN 2 = true ∧ (cerS 3 1).ready (P.cst 2) = true ∧
      (cerS 3 1).rbit (P.cst 2) R.CST_STAT 3 = true ∧ (cerS 3 1).rfld (P.cst 2) R.CST_STAT 2 0 = 0) ∧
    ((cerS 0 1).enrolling = true ∧ (cerS 0 1).cust.cer.enrolled.contains 9 = false ∧
      (cerWith (fun c => { c with enrolled := [9] }) (cerS 0 1)).cust.cer.enrolled.contains 9 = true) ∧
    ((cerS 3 1).enrolling = false ∧ (cerS 3 1).isCustodian 9 = false ∧ (withCustodian 9 (cerS 3 1)).isCustodian 9 = true ∧
      (withCustodian 9 (cerS 3 1)).cust.cer.counted.contains 9 = false ∧
      (cerWith (fun c => { c with counted := [9] }) (cerS 3 1)).cust.cer.counted.contains 9 = true) ∧
    ((cerS 3 1).cardSig [] [] = false ∧ (cerS 3 1).cardSteps [] [] = 2 ∧ openComponent 1 [] [] = none) := by
  refine ⟨by decide, by decide, ⟨{ cerS 3 1 with clock := { up.clock with sys := 600000000000 } }, by decide⟩, by decide,
    by decide, by decide, by decide, by decide +kernel, by decide⟩

/-- A verification reads no more of the digest than its number. -/
theorem verify_digest (c : Curve) (x y r t : Nat) (e f : List Octet) (h : c.digestNat e = c.digestNat f) :
    c.verify x y e r t = c.verify x y f r t := by simp only [Curve.verify, h]

/-- A card's signature verifies where the challenge has the digest it signed. -/
theorem card_signs (s : State) (x y : Nat) (sig e : List Octet) (k : p256.parse (keyOf x y) = some (x, y))
    (h : p256.digestNat s.challenge = p256.digestNat e)
    (v : p256.verify x y e (beNat (sig.take 32)) (beNat (sig.drop 32)) = true) : s.cardSig (keyOf x y) sig = true := by
  simp only [State.cardSig, k]
  rw [verify_digest p256 x y _ _ _ e h, v]

/-- The ENROL_DOMAIN ceremony of nonce 3. -/
def domS : State := cerWith (fun c => { c with nonce := 3 }) (cerS 1 1)
theorem challenge1 : p256.digestNat domS.challenge = p256.digestNat signed1 := by decide +kernel
theorem challenge3 : p256.digestNat (cerS 3 1).challenge = p256.digestNat signed3 := by decide +kernel
theorem parse1 : p256.parse (keyOf x1 y1) = some (x1, y1) := by decide +kernel
theorem parse3 : p256.parse (keyOf x3 y3) = some (x3, y3) := by decide +kernel
theorem verify1 : p256.verify x1 y1 signed1 (beNat ((twice signed1).take 32)) (beNat ((twice signed1).drop 32)) = true := by
  decide +kernel
theorem verify3 : p256.verify x3 y3 signed3 (beNat ((twice signed3).take 32)) (beNat ((twice signed3).drop 32)) = true := by
  decide +kernel

theorem witness_CeremoniesRunByQuorum_leaveGb : (cerS 3 1).cardSig (keyOf x3 y3) (twice signed3) = true :=
  card_signs _ x3 y3 _ _ parse3 challenge3 verify3
theorem witness_CeremoniesRunByQuorum_domain : domS.cardSig (keyOf x1 y1) (twice signed1) = true :=
  card_signs _ x1 y1 _ _ parse1 challenge1 verify1
theorem witness_CeremoniesRunByQuorum_enrols :
    (cerWith (fun c => { c with enrolling := true }) (cerS 3 1)).cardSig (keyOf x3 y3) (twice signed3) = true := by
  have h : (cerWith (fun c => { c with enrolling := true }) (cerS 3 1)).challenge = (cerS 3 1).challenge := rfl
  exact card_signs _ x3 y3 _ signed3 parse3 (by rw [h, challenge3]) verify3

/-- A custodian's digest is enrolled. -/
theorem custodian_enrolled (k : BitVec 256) (s : State) : (withCustodian k s).isCustodian k = true := by
  rw [State.isCustodian, List.any_eq_true]
  exact ⟨0, by decide, by simp [withCustodian, custodianFirst, State.slot, State.setSlot, Slot.state, bits]⟩

/-- In ENROL_DOMAIN a custodian's card that signs is sent four commands. -/
theorem witness_CeremoniesRunByQuorum_steps :
    (rngOn domS).rngOk custodyInst = true ∧
    (withCustodian (cardDigest (keyOf x1 y1)) (rngOn domS)).cardSteps (keyOf x1 y1) (twice signed1) = 4 := by
  generalize hd : cardDigest (keyOf x1 y1) = d
  have a : (withCustodian d (rngOn domS)).cardCounts d = true := by
    simp only [State.cardCounts, custodian_enrolled]
    rfl
  have h : (withCustodian d (rngOn domS)).challenge = domS.challenge := rfl
  have g := card_signs (withCustodian d (rngOn domS)) x1 y1 (twice signed1) signed1 parse1 (by rw [h, challenge1]) verify1
  refine ⟨by decide, ?_⟩
  rw [State.cardSteps, hd, a, g]
  rfl

/-- A component that its MAC admits. -/
theorem witness_CeremoniesRunByQuorum_component (d : Nat) :
    ∃ comp : List Octet, (openComponent d (keyOf x1 y1) comp).isSome = true := by
  refine ⟨List.replicate 32 0 ++ cmac ((kdfHmac 1 (beOctets 32 (xOf (p256.mul d (some (x1, y1))))) (kdfInput (ascii "COMPONENT") []
    48) 48).drop 32) (List.replicate 32 0), ?_⟩
  simp [openComponent, parse1]

/-- A job on a unit page, which it runs on. -/
def unitS (p : Nat) (j : Job) : State := (has j (serving (slotted (ready p up)))).setRuns p (some 5)
def in16 (c : Nat) : HostIn := { cell := c, supplied := 16, elems := [(0, 16)], bad := false, octets := zeros 16 }
/-- A cell that describes 16 octets. -/
def desc16 : List Octet := zeros 8 ++ leOctets 4 16 ++ zeros 4
def ecbJob : Job := { jobOf 0o040 (leOctets 4 7 ++ zeros 12 ++ desc16 ++ desc16) with
  unit := some (P.ciph 0), inputs := [in16 2, in16 3] }
def akaJob (op : Nat) : Job := { jobOf op (zeros 64) with unit := some (P.ciph 0), oparg := 1 }
/-- Slot 0 LIVE with an AES-128 key of zeros. -/
def aesSlot (s : State) : State := s.setSlot 0 ⟨0, 0o077702, 0o200⟩

/-- Session 9 open in context slot 0 with KEYREF0 slot 7; page 0 with a credential of KIND 0 and its follower of KIND 3. -/
def withSess (s : State) : State :=
  let s := s.setWords (ctxBase 0) ([0o400000, 0, 0, 0, 7, 0o400000] ++ List.replicate 58 0)
  { s with lode := { s.lode with slotOf := Map.put (dflt 0) s.lode.slotOf 9 1 } }
def withCreds (s : State) : State := ((paged 1 s).setFrame 0 ⟨true, false, false, false, 0xFFFF, 0⟩).setWords (frameBase 0) (mkEntry (zeros 16) 0 0 1 0 ++ mkEntry (zeros 16) 0 0 1 3)
/-- A cipher job on cipher unit 0, with what it may name. -/
def ciphS (j : Job) : State := aesSlot (withCreds (withSess (unitS (P.ciph 0) j)))
/-- Its bits refer to slot 9, which is empty. -/
def staleJob : Job := { ecbJob with body := leOctets 4 9 ++ zeros 12 ++ desc16 ++ desc16 }
def oddJob : Job := { ecbJob with body := leOctets 4 7 ++ zeros 12 ++ zeros 8 ++ leOctets 4 15 ++ zeros 4 ++ desc16 }
/-- CMAC_VER of 16 octets against a MAC of zeros. -/
def macVerJob : Job := { jobOf 0o052 (leOctets 4 7 ++ zeros 12 ++ desc16 ++ zeros 16) with
  unit := some (P.ciph 0), inputs := [in16 2] }
def gbJob (op n : Nat) : Job := { jobOf op (zeros 8 ++ leOctets 4 n ++ zeros 4) with
  gb := true, sess := some 9, unit := some (P.ciph 0),
  inputs := [{ cell := 1, supplied := n, elems := [(0, n)], bad := false, octets := [0x23] ++ zeros (n - 1) }] }

theorem witness_CipherJobsWriteTheirResult :
    ((ciphS ecbJob).runsOnUnit 5 0o040 ecbJob .cipher (P.ciph 0) ∧ ecbJob.gb = false ∧ (ciphS ecbJob).namesKey 5 ecbJob = true ∧
      (∃ k, (ciphS ecbJob).cipherKey 5 ecbJob = .ok k ∧ ((ciphS ecbJob).cipherRun 5 ecbJob k).isSome = true) ∧
      (ciphS ecbJob).cipherForm 5 ecbJob = none ∧ ecbJob.cipherLimits = none ∧ ecbJob.delivered ecbJob.cipherNeed = true) ∧
    ((ciphS (gbJob 0o061 64)).runsOnUnit 5 0o061 (gbJob 0o061 64) .cipher (P.ciph 0) ∧
      (ciphS { gbJob 0o040 32 with sess := none }).runsOnUnit 5 0o040 { gbJob 0o040 32 with sess := none } .cipher (P.ciph 0) ∧
      (ciphS { gbJob 0o040 32 with sess := none }).namesKey 5 { gbJob 0o040 32 with sess := none } = false) ∧
    ((ciphS staleJob).runsOnUnit 5 0o040 staleJob .cipher (P.ciph 0) ∧ ∃ st, (ciphS staleJob).cipherKey 5 staleJob = .error st) ∧
    (∃ j, j = { ecbJob with oparg := 2 ^ 31 } ∧ (ciphS j).runsOnUnit 5 0o040 j .cipher (P.ciph 0) ∧
      (∃ k, (ciphS j).cipherKey 5 j = .ok k) ∧ ((ciphS j).cipherForm 5 j).isSome = true) ∧
    ((ciphS oddJob).runsOnUnit 5 0o040 oddJob .cipher (P.ciph 0) ∧ (∃ k, (ciphS oddJob).cipherKey 5 oddJob = .ok k) ∧
      (ciphS oddJob).cipherForm 5 oddJob = none ∧ (oddJob.cipherLimits).isSome = true) := by
  simp only [State.runsOnUnit, State.runs]
  refine ⟨⟨by decide, by decide, by decide, ⟨_, rfl, by decide +kernel⟩, by decide, by decide, by decide⟩, by decide,
    ⟨by decide, ⟨_, rfl⟩⟩, ⟨_, rfl, by decide, ⟨_, rfl⟩, by decide⟩, ⟨by decide, ⟨_, rfl⟩, by decide, by decide⟩⟩

theorem witness_CipherJobsWriteTheirResult_fails :
    (ciphS macVerJob).runsOnUnit 5 0o052 macVerJob .cipher (P.ciph 0) ∧
    (∃ k, (ciphS macVerJob).cipherKey 5 macVerJob = .ok k ∧ (ciphS macVerJob).cipherRun 5 macVerJob k = none) ∧
    (ciphS macVerJob).cipherForm 5 macVerJob = none ∧ macVerJob.cipherLimits = none ∧
    macVerJob.delivered macVerJob.cipherNeed = true := by
  simp only [State.runsOnUnit, State.runs]
  exact ⟨by decide, ⟨_, rfl, by decide +kernel⟩, by decide, by decide, by decide⟩

theorem witness_CipherJobsWriteTheirResult_gb :
    (∀ op ∈ [0o040, 0o044, 0o051], (ciphS (gbJob op 32)).runsOnUnit 5 op (gbJob op 32) .cipher (P.ciph 0) ∧
      (∃ k, (ciphS (gbJob op 32)).cipherKey 5 (gbJob op 32) = .ok k) ∧ (gbJob op 32).gbBad = false ∧
      (gbJob op 32).delivered [] = true) ∧
    ((∃ k, (ciphS (gbJob 0o040 33)).cipherKey 5 (gbJob 0o040 33) = .ok k) ∧ (gbJob 0o040 33).gbBad = true ∧
      (ciphS (gbJob 0o040 33)).runsOnUnit 5 0o040 (gbJob 0o040 33) .cipher (P.ciph 0)) := by
  simp only [State.runsOnUnit, State.runs]
  refine ⟨?_, ⟨⟨_, rfl⟩, by decide, by decide⟩⟩
  intro op h
  simp only [List.mem_cons, List.not_mem_nil, or_false] at h
  rcases h with rfl | rfl | rfl <;> exact ⟨by decide, ⟨_, rfl⟩, by decide, by decide⟩

theorem witness_CipherJobsWriteTheirResult_aka :
    ((ciphS (akaJob 0o060)).runsOnUnit 5 0o060 (akaJob 0o060) .cipher (P.ciph 0) ∧ (akaJob 0o060).gb = false ∧
      (∃ x, (ciphS (akaJob 0o060)).akaKeys 5 (akaJob 0o060) (tb (akaJob 0o060).oparg 0)
        ((akaJob 0o060).dw 1 0 &&& 0x7FFFFFFF) ((akaJob 0o060).dw 1 1 &&& 0x7FFFFFFF) ((akaJob 0o060).handle 1 0) = .ok x) ∧
      bits (akaJob 0o060).oparg 31 1 = 0 ∧ (tb ((akaJob 0o060).dw 1 0) 31 || tb ((akaJob 0o060).dw 1 1) 31) = false) ∧
    ((ciphS (gbJob 0o060 64)).runsOnUnit 5 0o060 (gbJob 0o060 64) .cipher (P.ciph 0) ∧ (gbJob 0o060 64).gb = true ∧
      (gbJob 0o060 64).oparg = 0 ∧ (gbJob 0o060 64).declared 1 = 64 ∧ (gbJob 0o060 64).delivered [] = true ∧
      leNat (((gbJob 0o060 64).data 1).take 8) = 0x23 ∧ 0x23 / 2 ^ 54 = 0 ∧
      (∃ x, (ciphS (gbJob 0o060 64)).akaKeys 5 (gbJob 0o060 64) false 0 0 (0x23 % 2 ^ 54) = .ok x)) ∧
    ((ciphS (gbJob 0o060 32)).runsOnUnit 5 0o060 (gbJob 0o060 32) .cipher (P.ciph 0) ∧ (gbJob 0o060 32).declared 1 ≠ 64) ∧
    (∀ op ∈ [0o060, 0o061], (unitS (P.ciph 0) { akaJob op with oparg := 0 }).runsOnUnit 5 op { akaJob op with oparg := 0 }
        .cipher (P.ciph 0) ∧
      (∃ st, (unitS (P.ciph 0) { akaJob op with oparg := 0 }).akaKeys 5 { akaJob op with oparg := 0 } false
        ((akaJob op).dw 1 0 &&& 0x7FFFFFFF) ((akaJob op).dw 1 1 &&& 0x7FFFFFFF) ((akaJob op).handle 1 0) = .error st)) := by
  simp only [State.runsOnUnit, State.runs]
  refine ⟨⟨by decide, by decide, ⟨_, rfl⟩, by decide, by decide⟩,
    ⟨by decide, rfl, rfl, by decide, by decide, by decide, by decide, ⟨_, rfl⟩⟩, by decide, ?_⟩
  intro op h
  simp only [List.mem_cons, List.not_mem_nil, or_false] at h
  rcases h with rfl | rfl <;> exact ⟨by decide, ⟨S.staleHandle, by
    rw [State.akaKeys, if_neg (by decide), show State.credCheck _ _ _ _ = some S.staleHandle from by decide]⟩⟩

/-- An AUTS whose MAC-S holds under K and OPc of zeros, and one whose does not. -/
def goodAuts : List Octet :=
  xorO (milOut (zeros 16) (zeros 16) (milTemp (zeros 16) (zeros 16) (zeros 16)) 12 8) (zeros 6) ++
    (milOut1 (zeros 16) (zeros 16) (milTemp (zeros 16) (zeros 16) (zeros 16)) (zeros 6) (zeros 2)).drop 8 ++ zeros 2
theorem witness_CipherJobsWriteTheirResult_resync :
    ((ciphS (akaJob 0o061)).runsOnUnit 5 0o061 (akaJob 0o061) .cipher (P.ciph 0) ∧
      (∃ x, (ciphS (akaJob 0o061)).akaKeys 5 (akaJob 0o061) (tb (akaJob 0o061).oparg 0)
        ((akaJob 0o061).dw 1 0 &&& 0x7FFFFFFF) ((akaJob 0o061).dw 1 1 &&& 0x7FFFFFFF) ((akaJob 0o061).handle 1 0) = .ok x) ∧
      bits (akaJob 0o061).oparg 31 1 = 0 ∧ (tb ((akaJob 0o061).dw 1 0) 31 || tb ((akaJob 0o061).dw 1 1) 31) = false ∧
      (akaJob 0o061).oct 1 8 8 = zeros 8 ∧ (akaJob 0o061).oct 3 14 2 = zeros 2) ∧
    milResync (zeros 16) (zeros 16) (zeros 16) (zeros 16) = none := by
  simp only [State.runsOnUnit, State.runs]
  exact ⟨⟨by decide, ⟨_, rfl⟩, by decide, by decide, by decide, by decide⟩, by decide +kernel⟩
theorem witness_CipherJobsWriteTheirResult_autsHolds :
    (milResync (zeros 16) (zeros 16) (zeros 16) goodAuts).isSome = true := by
  decide +kernel

def shaJob : Job := { jobOf 0o141 (desc16 ++ zeros 32) with
  resoff := 2, unit := some (P.dig 0), inputs := [in16 1] }
/-- A SHA-256 job that continues a message from a record of zeros, and one that saves its state after one block. -/
def in243 : HostIn := { cell := 2, supplied := 243, elems := [(0, 243)], bad := false, octets := zeros 243 }
def desc243 : List Octet := zeros 8 ++ leOctets 4 243 ++ zeros 4
def contJob : Job := { jobOf 0o141 (desc16 ++ desc243 ++ zeros 32) with
  resoff := 3, oparg := 0o20, unit := some (P.dig 0), inputs := [in16 1, in243] }
def moreJob : Job := { jobOf 0o141 (zeros 8 ++ leOctets 4 64 ++ zeros 4 ++ desc243 ++ zeros 32) with
  resoff := 3, oparg := 0o40, unit := some (P.dig 0),
  inputs := [{ cell := 1, supplied := 64, elems := [(0, 64)], bad := false, octets := zeros 64 }, in243] }
/-- HMAC of 16 octets under slot 7 on core 3, which compares with `tag`. -/
def macJob (op : Nat) (tag : List Octet) : Job := { jobOf op (leOctets 4 7 ++ zeros 12 ++ desc16 ++ tag ++ zeros 32) with
  resoff := 3, unit := some (P.kz 3), inputs := [in16 2] }
/-- Slot 7 LIVE with a 32-octet HMAC-SHA-256 key. -/
def macSlot (s : State) : State := s.setSlot 7 ⟨1, 0o237702, 0o200⟩
def macS (j : Job) : State := (macSlot (serving (has j (ready (P.dig 0) up)))).setCore 3 { (up.core 3) with held := 6 }
/-- HMAC-SHA-256 of 16 zero octets under the 32-octet key 1. -/
def macTag : List Octet := beOctets 32 56140736154221671401442826836213465168818037120783320687006318086201054199670

theorem witness_DigestJobsWriteTheirResult :
    ((unitS (P.dig 0) shaJob).runsOnUnit 5 0o141 shaJob .digest (P.dig 0) ∧ (unitS (P.dig 0) shaJob).digestForm 5 shaJob 1 = none ∧
      shaJob.delivered shaJob.digestNeed = true ∧ (shaJob.digestStart 1).isSome = true ∧ shaJob.cont = false ∧ shaJob.more = false) ∧
    (((unitS (P.dig 0) shaJob).digestForm 5 { shaJob with oparg := 2 ^ 31 } 1).isSome = true) ∧
    ((unitS (P.dig 0) contJob).runsOnUnit 5 0o141 contJob .digest (P.dig 0) ∧ contJob.cont = true ∧ contJob.gb = false ∧
      (unitS (P.dig 0) contJob).digestForm 5 contJob 1 = none ∧ contJob.listsOk contJob.digestNeed = true ∧
      contJob.dataHere 2 = true ∧ contJob.digestStart 1 = none) ∧
    ((unitS (P.dig 0) moreJob).runsOnUnit 5 0o141 moreJob .digest (P.dig 0) ∧ moreJob.more = true ∧ moreJob.cont = false ∧
      (unitS (P.dig 0) moreJob).digestForm 5 moreJob 1 = none ∧ moreJob.delivered moreJob.digestNeed = true ∧
      (moreJob.digestStart 1).isSome = true) := by
  simp only [State.runsOnUnit, State.runs]
  exact ⟨by decide, by decide, by decide +kernel, by decide⟩

theorem witness_DigestJobsWriteTheirResult_hmac :
    ∀ op ∈ [0o160, 0o161], ∀ tag ∈ [zeros 32, macTag], (macS (macJob op tag)).runs 5 op (macJob op tag) ∧
      (macJob op tag).unit = some (P.kz 3) ∧ coreOf (P.kz 3) = some 3 ∧
      ((macS (macJob op tag)).core 3).held = 5 + 1 ∧ (macJob op tag).orphan = false ∧
      (∃ k, (macS (macJob op tag)).hmacKeyOf 5 (macJob op tag) = .ok (1, k)) ∧
      (macS (macJob op tag)).hmacForm 5 (macJob op tag) 1 = none ∧ (macJob op tag).macLen = 0 ∧
      (macJob op tag).delivered ((macJob op tag).parkNeed 261) = true ∧
      ((macS (macJob op tag)).hmacRuns (macJob op tag).region 1 16).isSome = true := by
  simp only [State.runs]
  intro op h tag ht
  simp only [List.mem_cons, List.not_mem_nil, or_false] at h ht
  rcases h with rfl | rfl <;> rcases ht with rfl | rfl <;>
    exact ⟨by decide, by decide, by decide, by decide, by decide, ⟨_, rfl⟩, by decide, by decide, by decide, by decide⟩

theorem witness_DigestJobsWriteTheirResult_tags :
    (macJob 0o161 macTag).expectTag.take 32 = macTag ∧ (macJob 0o161 (zeros 32)).expectTag.take 32 = zeros 32 ∧
    beNat (hmac 1 (beOctets 32 1) ((macJob 0o161 macTag).data 2)) = beNat macTag ∧
    (hmac 1 (beOctets 32 1) ((macJob 0o161 macTag).data 2)).length = 32 ∧ beNat macTag ≠ beNat (zeros 32) := by
  decide +kernel

/-- A GB_HMAC job that holds the states of slot 7. -/
def gbMacJob (o : Nat) : Job := { jobOf 0o162 desc16 with
  gb := true, oparg := BitVec.ofNat 32 o, unit := some (P.dig 0), sess := some 9, inputs := [in16 1], pair := some ⟨1, 0o237702, 0o200⟩ }
def gbMacS (j : Job) : State := withSess (unitS (P.dig 0) j)
theorem witness_DigestJobsWriteTheirResult_gb :
    ((gbMacS (gbMacJob 0)).runsOnUnit 5 0o162 (gbMacJob 0) .digest (P.dig 0) ∧ (gbMacJob 0).delivered [] = true ∧
      (gbMacJob 0).oparg = 0 ∧ (∃ k, (gbMacS (gbMacJob 0)).hmacKeyOf 5 (gbMacJob 0) = .ok (1, k))) ∧
    ((gbMacS (gbMacJob 1)).runsOnUnit 5 0o162 (gbMacJob 1) .digest (P.dig 0) ∧ (gbMacJob 1).oparg ≠ 0 ∧
      (∃ k, (gbMacS (gbMacJob 1)).hmacKeyOf 5 (gbMacJob 1) = .ok (1, k))) ∧
    (∃ st, (unitS (P.dig 0) { gbMacJob 0 with sess := none }).hmacKeyOf 5 { gbMacJob 0 with sess := none } = .error st) := by
  simp only [State.runsOnUnit, State.runs]
  exact ⟨⟨by decide, by decide, by decide, ⟨_, rfl⟩⟩, ⟨by decide, by decide, ⟨_, rfl⟩⟩, ⟨_, rfl⟩⟩

theorem witness_TheResultWindowIsReadOnce :
    (3 / 16 = 2 / 8 ∧ (up.setRbit (P.dig 2) R.DIG_WSTAT 17 true).rbit (P.dig 2) R.DIG_WSTAT 17 = true ∧
      up.rbit (P.dig 2) R.DIG_WSTAT 17 = false) ∧
    (∃ s : State, s.holdOf (P.dig 2) ≠ 0) := by
  refine ⟨by decide, ⟨{ up with units := { up.units with hold := [(P.dig 2, 4)] } }, by decide⟩⟩

def num1 (c v : Nat) : HostIn := { cell := c, supplied := 1, elems := [(0, 1)], bad := false, octets := [BitVec.ofNat 8 v] }
def desc1 : List Octet := zeros 8 ++ leOctets 4 1 ++ zeros 4
/-- BN_MODADD of 5 and 9 modulo `m`. -/
def addJob (m : Nat) : Job := { jobOf 0o202 (desc1 ++ desc1 ++ desc1 ++ desc1) with
  unit := some (P.bn 0), inputs := [num1 1 m, num1 2 5, num1 3 9, num1 4 0] }

theorem witness_BignumJobsComputeModuloTheirModulus :
    ((unitS (P.bn 0) (addJob 11)).runsOnUnit 5 0o202 (addJob 11) .bignum (P.bn 0) ∧ (addJob 11).orphan = false ∧
      (addJob 11).bnLimits = true ∧ (addJob 11).delivered (addJob 11).bnOut = true) ∧
    bnResult 0o202 (addJob 11).bnNums = .ok 3 ∧ bnResult 0o202 (addJob 7).bnNums = .error 0 ∧
    ((unitS (P.bn 0) (addJob 7)).runsOnUnit 5 0o202 (addJob 7) .bignum (P.bn 0) ∧ (addJob 7).bnLimits = true ∧
      (addJob 7).delivered (addJob 7).bnOut = true) ∧
    (∃ j, j = { jobOf 0o202 (zeros 64) with unit := some (P.bn 0) } ∧
      (unitS (P.bn 0) j).runsOnUnit 5 0o202 j .bignum (P.bn 0) ∧ j.bnLimits = false) := by
  simp only [State.runsOnUnit, State.runs]
  exact ⟨by decide, rfl, rfl, by decide, ⟨_, rfl, by decide⟩⟩

/-! ### Witnesses: the Kazolo cores -/

/-- Core 0 runs in supervisor mode at the start of its cluster's SRAM, with every colour in its bank. -/
def kS : State := (ready (P.kz 0) up).setCore 0 { up.core 0 with run := true, gateBank := 0xFFFF, pc := BitVec.ofNat 36 (2 * sramBase 0), sup := true }

/-- The instruction of base word `w` issues as `op`. -/
def runsAs (s : State) (op : KOp) (w : Word) : Bool :=
  s.issues 0 && (match (s.wakeUp 0).kadmit 0 [] w op with | .run _ => true | _ => false)

/-- A word of each Kazolo instruction that can run at once. -/
def kWords0 : List (KOp × Nat) := [
  (.nop, 0o0), (.rfe, 0o1), (.sync, 0o2), (.waiti, 0o3), (.brk, 0o4), (.ctxsw, 0o5), (.jget, 0o6), (.savectx, 0o10),
  (.loadctx, 0o20), (.jdone, 0o40), (.mov, 0o100000), (.add, 0o102000), (.sub, 0o104000), (.addx, 0o106000),
  (.subx, 0o110000), (.and_, 0o112000), (.or_, 0o114000), (.xor_, 0o116000), (.andn, 0o120000), (.shl, 0o122000)]
def kWords1 : List (KOp × Nat) := [
  (.shr, 0o124000), (.sar, 0o126000), (.rol, 0o130000), (.mul, 0o132000), (.mulh, 0o134000), (.mulhs, 0o136000),
  (.mull, 0o140000), (.brev, 0o142000), (.clz, 0o144000), (.popc, 0o146000), (.octhi, 0o150000), (.octlo, 0o152000),
  (.octpk, 0o154000), (.movd, 0o156000), (.addd, 0o160000), (.subd, 0o162000), (.mova, 0o164000), (.movda, 0o166000),
  (.adda, 0o170000), (.shld, 0o172000)]
def kWords2 : List (KOp × Nat) := [
  (.shrd, 0o174000), (.cmpeq, 0o200000), (.cmplt, 0o220000), (.cmpltu, 0o240000), (.pand, 0o260000), (.por, 0o260400),
  (.pxor, 0o261000), (.pandn, 0o261400), (.movi, 0o300000), (.addi, 0o304000), (.andi, 0o310000), (.ori, 0o314000),
  (.xori, 0o320000), (.shli, 0o324000), (.shri, 0o330000), (.sari, 0o334000), (.muli, 0o340000), (.movid, 0o344000),
  (.addid, 0o350000), (.addia, 0o354000)]
def kWords3 : List (KOp × Nat) := [
  (.movia, 0o360000), (.ucmd 0, 0o364000), (.ucmd 1, 0o364001), (.ucmd 2, 0o364002), (.ucmd 3, 0o364003),
  (.ucmd 4, 0o364004), (.leapc, 0o370000), (.ld, 0o400000), (.st, 0o410000), (.ldd, 0o420000), (.std, 0o430000),
  (.lda, 0o440000), (.sta, 0o450000), (.lea, 0o460000), (.swap, 0o470000), (.br, 0o500000), (.call, 0o510000),
  (.jr, 0o520000), (.callr, 0o530000), (.loop, 0o540000)]
def kWords4 : List (KOp × Nat) := [
  (.loopi, 0o550000), (.trap, 0o560000), (.movsFrom, 0o570000), (.movsTo, 0o574000), (.vadd, 0o600000),
  (.vsub, 0o610000), (.vmul, 0o620000), (.vbfly, 0o630000), (.vgs, 0o640000), (.vperm, 0o650000), (.vld, 0o660000),
  (.vst, 0o660040), (.vldb, 0o660100), (.vmov, 0o660140), (.vsplat, 0o660200), (.vext, 0o670000), (.vins, 0o670010)]
def kWords : List (KOp × Nat) := kWords0 ++ kWords1 ++ kWords2 ++ kWords3 ++ kWords4

theorem runsAs_runs {s : State} {op : KOp} {w : Word} (h : runsAs s op w = true) :
    ∃ t i x, s.runsIns t 0 [] w op i x := by
  simp only [runsAs, Bool.and_eq_true] at h
  obtain ⟨h1, h2⟩ := h
  split at h2
  · next i hi => exact ⟨_, i, _, h1, rfl, rfl, hi⟩
  · cases h2

theorem kWords_run : ∀ p ∈ kWords, runsAs kS p.1 (wd p.2) = true := by decide +kernel

/-- Every Kazolo instruction runs somewhere: the hypothesis of the statements on what they compute. -/
theorem witness_KazoloInstructionsRun : ∀ p ∈ kWords, ∃ t i x, kS.runsIns t 0 [] (wd p.2) p.1 i x :=
  fun p h => runsAs_runs (kWords_run p h)

theorem witness_KazoloDoubleAddressAndPredicateOperations :
    ∃ i x, kS.runsIns (kS.wakeUp 0) 0 [] 0o172000 .shld i x ∧ (x.wr (bits i.w 4 0)).toNat < 36 :=
  ⟨_, _, ⟨by decide, rfl, rfl, rfl⟩, by decide⟩

/-- Core 0 changed. -/
def kWith (f : Core → Core) : State := kS.modCore 0 f

/-- The first word of core 0's program has lost its value. -/
def struckCode : State := { kS with diag := { kS.diag with upset := [0] } }

theorem witness_AKazoloInstructionThatDoesNotRunHasNoEffect :
    ((kWith (fun x => { x with pc := 0o1000000000 * 2 })).fetchCheck (kS.coreWho 0) 0o1000000000 1).isSome = true ∧
    kS.fetchCheck (kS.coreWho 0) ((kS.core 0).pc.toNat / 2) (sylWords (kS.core 0).pc 2) = none ∧ kS.fetchStruck (kS.coreWho 0) (kS.core 0).pc 2 = none ∧
    parsePre 0 Pre.none [0] = none ∧ (parsePre 0 Pre.none []).isSome = true ∧
    opOf 0o777777 = none ∧
    (∃ p, parsePre 0 Pre.none [0o720, 0o610] = some p ∨ KOp.prefixOk .rfe 1 { Pre.none with amode := some 0o720 } = false) ∧
    KOp.fieldsOk .movd 0o156777 false = false ∧
    (kS.core 0).predOk { Pre.none with pred := some 0o767 } = false ∧ (kS.core 0).predOk Pre.none = true ∧
    (KOp.noDelay .br = true ∧ ((kWith (fun x => { x with delay := some (x.delayOf ⟨0, 2, 0, Pre.none⟩ none false) })).core 0).delay ≠ none) ∧
    (KOp.noLoopEnd .br 0 = true ∧ ((kWith (fun x => { x with lc0 := 2, le0 := x.pc })).core 0).atLoopEnd = true) ∧
    (KOp.supOnly .rfe = true ∧ ((kWith (fun x => { x with sup := false })).core 0).sup = false) ∧
    (KOp.supOnly .movsTo = false ∧ 20 ≤ bits (0o576400 : Word) 10 6) ∧
    up.issues 0 = false ∧ kS.issues 0 = true := by
  refine ⟨by decide, by decide, by decide, by decide, by decide, by decide, ⟨Pre.none, .inr (by decide)⟩, by decide, by decide, by decide,
    by decide, by decide, by decide, by decide, by decide, by decide⟩
theorem witness_AKazoloInstructionThatDoesNotRunHasNoEffect_stopped :
    (struckCode.fetchCheck (struckCode.coreWho 0) 0 1 = none ∧
      struckCode.fetchStruck (struckCode.coreWho 0) (struckCode.core 0).pc 2 = some 0) ∧
    (struckCode.issues 0 = true ∧ ∃ u, (struckCode.wakeUp 0).kadmit 0 [] 0o100000 .mov = .ue u) ∧
    (∃ u e d, (kS.wakeUp 0).kadmit 0 [] 0o777777 .mov = .fault u e d) ∧
    (∃ i, (kS.wakeUp 0).kadmit 0 [0o701] 0o100000 .mov = .skip i) ∧
    opOf 0o100000 = some .mov ∧ KOp.prefixOk .mov 0o100000 Pre.none = true ∧ KOp.fieldsOk .mov 0o100000 false = true ∧
    (KOp.noDelay .mov = false ∧ KOp.noLoopEnd .mov 0o100000 = false ∧ (kS.core 0).sup = true) :=
  ⟨by decide, ⟨by decide, _, rfl⟩, ⟨_, _, _, rfl⟩, ⟨_, rfl⟩, by decide, by decide, by decide, by decide⟩

/-- Register a0 of core 0 holds `v`. -/
def kA (v : Nat) : State := kWith (fun x => x.setA 0 (BitVec.ofNat 36 v))

/-- The same, with a0 8 and double lanes. -/
def kDl : State := kWith (fun x => { x.setA 0 (BitVec.ofNat 36 8) with mstat := 1 })

theorem witness_KazoloLoadsAndStoresMoveTheirWords :
    (kA 8).grants 0 8 16 .r ∧ (kA 8).grants 0 8 16 .w ∧ (kA 8).grants 0 8 1 .r ∧ (kA 8).grants 0 8 2 .w ∧
    runsAs (kA 8) .st 0o410000 = true ∧ (((kA 8).core 0).address4 ⟨0, 2, 0o410000, Pre.none⟩).1 = 8 ∧
    (((kA 7).core 0).address4 ⟨0, 2, 0o420000, Pre.none⟩).1 % 2 = 1 ∧ runsAs (kA 7) .ldd 0o420000 = true ∧
    (((kA 7).core 0).addressV ⟨0, 2, 0o660040, Pre.none⟩).1 % 2 = 1 ∧ runsAs (kA 7) .vst 0o660040 = true ∧
    ((kA 0o600000000).clearingAt (kS.coreWho 0) 0o600000000 = false ∧
      (kA 0o600000000).checkAccess (kS.coreWho 0) 0o600000000 1 .w = .unassigned ∧ runsAs (kA 0o600000000) .st 0o410000 = true) ∧
    (runsAs (kA 8) .swap 0o470000 = true ∧ runsAs (kA 8) .vldb 0o660100 = true ∧ vdl ((kA 8).core 0).mode = false) ∧
    (runsAs kDl .vldb 0o660100 = true ∧ runsAs kDl .vst 0o660040 = true ∧ ((kDl.core 0).addressV ⟨0, 2, 0o660100, Pre.none⟩).1 = 8 ∧
      ((kDl.core 0).vr 0).length = 16 ∧ kDl.grants 0 8 2 .r ∧ kDl.grants 0 8 16 .w ∧ vdl (kDl.core 0).mode = true) := by
  simp only [State.grants]; decide +kernel

theorem witness_AStoreOfACoreWritesOnlyItsWords :
    (kA 8).grants 0 8 1 .w ∧ (kA 8).grants 0 8 1 .r ∧ placeOf (some (0 / 4)) 8 = .sram 0 8 ∧ 8 < sramWords ∧
    runsAs (kA 8) .st 0o410000 = true ∧ runsAs (kA 8) .swap 0o470000 = true := by
  simp only [State.grants]; decide +kernel

/-- Core 0 in an exception that came from supervisor mode. -/
def kRet : State := kWith (fun x => { x with estat := sb (sb 0 34 true) 35 true })
def held0 (j : Job) : State := (kWith (fun x => { x with held := 6 })).setJob 5 j
def waitJob : Job := { jobOf 0o300 (zeros 64) with st := .dispatched, unit := some (P.kz 0) }

/-- The same job waits for core 0. -/
def takeS : State := has waitJob { kS with lode := { kS.lode with inQ := Map.put (dflt []) kS.lode.inQ (P.kz 0) [5] } }

theorem witness_KazoloSystemInstructions :
    runsAs kS .brk 0o4 = true ∧ kRet.rfeRefused 0 = none ∧
    (kWith (fun x => { x with estat := sb 0 34 true })).rfeRefused 0 = some 1 ∧
    ((kA 8).grants 0 8 16 .w ∧ (kA 8).grants 0 8 16 .r ∧ runsAs (kA 8) .savectx 0o10 = true ∧ runsAs (kA 8) .loadctx 0o20 = true) ∧
    ((kA 7).core 0).ar 0 % 2 = 1 ∧ bits (cw ((kA 8).readWords ((kA 8).coreWho 0) 8 16).2 15) 17 9 ≠ 0o524 ∧
    (kS.rfld (P.kz 0) R.KZ_BADTAGS 2 0 + 1 ≠ 4 ∧
      (kS.setRfld (P.kz 0) R.KZ_BADTAGS 2 0 3).rfld (P.kz 0) R.KZ_BADTAGS 2 0 + 1 = 4) := by
  simp only [State.grants]; decide +kernel

/-- A context record at word 8 whose last word is `v`. -/
def ctxS (v : Nat) : State := (kA 8).setWord 23 (wd (0o524000 + v))
theorem ctxS_words : ∀ v : Fin 512, (ctxS v).readWords ((ctxS v).coreWho 0) 8 16 = (ctxS v, List.replicate 15 0 ++ [wd (0o524000 + v.val)]) := by
  decide +kernel
theorem ctxS_last : ∀ v : Fin 512, bits (wd (0o524000 + v.val)) 17 9 = 0o524 ∧ bits (wd (0o524000 + v.val)) 8 0 = v.val := by decide +kernel
/-- Whatever the tag of the fifteen words is, one record bears it and another does not. -/
theorem witness_KazoloSystemInstructions_records (t : Fin 512) :
    ∃ v u : Fin 512, (∀ x ∈ [v, u], ((ctxS x).readWords ((ctxS x).coreWho 0) 8 16).2.take 15 = List.replicate 15 0 ∧
      bits (cw ((ctxS x).readWords ((ctxS x).coreWho 0) 8 16).2 15) 17 9 = 0o524) ∧
      bits (cw ((ctxS v).readWords ((ctxS v).coreWho 0) 8 16).2 15) 8 0 = t.val ∧
      bits (cw ((ctxS u).readWords ((ctxS u).coreWho 0) 8 16).2 15) 8 0 ≠ t.val := by
  simp only [ctxS_words]
  refine ⟨t, t + 1, fun x _ => ⟨rfl, (ctxS_last x).1⟩, (ctxS_last t).2, ?_⟩
  rw [show cw (List.replicate 15 0 ++ [wd (0o524000 + (t + 1).val)]) 15 = wd (0o524000 + (t + 1).val) from rfl, (ctxS_last (t + 1)).2]
  intro h
  have e := Fin.val_add t 1
  rw [h] at e
  have l := t.isLt
  simp only [show (1 : Fin 512).val = 1 from rfl] at e
  omega
theorem witness_KazoloSystemInstructions_runs :
    ((kS.setDbgBit R.DBG_BRK_ARM 0 true).dbgOpen = true ∧ runsAs (kS.setDbgBit R.DBG_BRK_ARM 0 true) .brk 0o4 = true ∧
      (kS.setDbgBit R.DBG_BRK_ARM 0 true).dbgBit R.DBG_BRK_ARM 0 = true ∧ (kS.setDbgBit R.DBG_BRK_ARM 0 true).sealedCode 0 = false) ∧
    (kS.dbgBit R.DBG_BRK_ARM 0 = false ∧ runsAs kRet .rfe 1 = true ∧
      runsAs (kWith (fun x => { x with estat := sb 0 34 true })) .rfe 1 = true) ∧
    (runsAs (kA 7) .savectx 0o10 = true ∧ runsAs (kA 7) .loadctx 0o20 = true ∧ runsAs (ctxS 3) .loadctx 0o20 = true) ∧
    ((ctxS 3).rfld (P.kz 0) R.KZ_BADTAGS 2 0 + 1 ≠ 4 ∧
      runsAs ((kA 8).setRfld (P.kz 0) R.KZ_BADTAGS 2 0 3) .loadctx 0o20 = true) := by decide +kernel

/-- A command of type `typ` of job 5, on unit `p`. -/
def cmdJob (typ : Nat) (p : Option Nat) : Job := { jobOf 0o777 [] with
  unit := p, cmd := some ⟨0, typ, 0, [0o1000], 0, true, false⟩ }

theorem witness_KazoloJobAndUnitCommands_taken :
    (∃ k j, takeS.nextHeld 0 = some (k, j) ∧ takeS.sessStruck j = none ∧ runsAs takeS .jget 0o6 = true) ∧
    (runsAs (kS.setJob 5 (jobOf 0o300 [])) (.ucmd 0) 0o364000 = true ∧
      runsAs (held0 (jobOf 0o300 [])) (.ucmd 4) 0o364004 = true) ∧
    (∀ typ ∈ [0, 1, 2, 3, 4], (cmdJob typ (if typ < 3 then some (P.ciph 0) else none)).st = .running ∧
      bits (cw [0o1000] 0) 10 9 ≠ 0) :=
  ⟨⟨_, _, rfl, by decide, by decide⟩, by decide +kernel, by decide⟩

theorem witness_KazoloJobAndUnitCommands :
    (kS.nextHeld 0 = none ∧ runsAs kS .jget 0o6 = true) ∧
    (runsAs kS .jdone 0o40 = true ∧ (kS.core 0).cmds = [] ∧ kS.heldJob 0 = none ∧
      (held0 (jobOf 0o300 [])).heldJob 0 = some (5, jobOf 0o300 []) ∧ kS.sessStruck (jobOf 0o300 []) = none ∧
      (held0 (jobOf 0o300 [])).struckIn ((held0 (jobOf 0o300 [])).frameAddr 0) 0o1120 = none) ∧
    (placeOf (some 0) 0 = .sram 0 0 ∧ sramBase 0 + kS.blockWords 4 0 ≤ sramWords ∧ runsAs kS (.ucmd 4) 0o364004 = true) ∧
    (placeOf (some 0) 0 = .sram 0 0 ∧ kS.grants 0 0 (kS.blockWords 0 0) .r ∧ runsAs kS (.ucmd 0) 0o364000 = true ∧
      ((held0 (jobOf 0o300 [])).core 0).cmds.length < 8 ∧
      8 ≤ ((kWith (fun x => { x with cmds := [1, 2, 3, 4, 5, 6, 7, 8] })).core 0).cmds.length) ∧
    placeOf (some 0) 0o600000000 = .unassigned ∧
    (({ jobOf 0 [] with cmd := some ⟨0, 3, 0, [], 0, true, false⟩ } : Job).unit = none ∧
      ({ jobOf 0 [] with cmd := some ⟨0, 3, 0, [], 0, true, false⟩ } : Job).st = .running) := by
  simp only [State.grants]; decide +kernel

theorem witness_AnEntrySavesAndTransfersAsTheRulesSay :
    EXC.priv < 640 ∧ (kS.core 0).faultSaved.sh ≤ 2 ∧ EXC.priv ≠ EXC.illret ∧ ((kS.core 0).drainLoads).unsaved = false ∧
    ((kWith (fun x => { x with unsaved := true })).core 0).drainLoads.unsaved = true ∧
    (kS.setCore 0 (kS.core 0).drainLoads).checkAccess { kS.coreWho 0 with sup := true } (2 * EXC.priv) 2 .r = .allowed ∧
    (kS.setCore 0 (kS.core 0).drainLoads).rangesStruck { kS.coreWho 0 with sup := true } [(2 * EXC.priv, 2, .r)] = none ∧
    (kS.setCore 0 (kS.core 0).drainLoads).fetchCheck { kS.coreWho 0 with sup := true } 0 1 = none := by decide +kernel

theorem witness_RfeRestoresWhatTheEntrySaved :
    runsAs kRet .rfe 1 = true ∧ kRet.rfeRefused 0 = none ∧ (kRet.core 0).loads = [] ∧
    (runsAs (kWith (fun x => { x with estat := sb 0 34 true })) .rfe 1 = true ∧
      ((kWith (fun x => { x with estat := sb 0 34 true })).core 0).psup = true ∧
      ((kWith (fun x => { x with estat := sb 0 34 true })).core 0).seal = false) := by decide +kernel

def asking : State := ((kWith (fun x => { x with estat := sb 0 17 true })).setLevel 0 9 true).setRbit
  (P.kz 0) R.KZ_INT_EN 9 true

theorem witness_InterruptsLockstepAndAborts :
    (asking.accepted 0 = some 9 ∧ asking.boundary 0 = true) ∧ kS.coreUp 0 = true ∧
    ((held0 { jobOf 0o300 [] with orphan := true }).heldJob 0 = some (5, { jobOf 0o300 [] with orphan := true }) ∧
      ((held0 { jobOf 0o300 [] with orphan := true }).core 0).aborting = false) ∧
    (((kWith (fun x => { x with aborting := true, held := 6 })).core 0).aborting = true ∧
      ((kWith (fun x => { x with aborting := true, held := 6 })).core 0).held ≠ 0) ∧
    kS.frozen (P.kz 0) = false := by decide +kernel
/-! ### Witnesses: composites, gates, Sluice -/

/-- A composite that core 0 holds, with slot 7 LIVE of algorithm `alg`, and a card credential in page 0. -/
def compJob (op : Nat) (oparg : BitVec 32) (body : List Octet) (ins : List HostIn) : Job :=
  { jobOf op body with oparg := oparg, unit := some (P.kz 0), inputs := ins }
def compS (alg : Nat) (j : Job) : State :=
  (((serving (kWith (fun x => { x with held := 6 }))).setJob 5 j).setSlot 7 ⟨1, wd (alg * 2 ^ 14 + 0o37702), 0o200⟩).setFrame 0
    ⟨true, false, false, false, 1, 0⟩ |>.setWords (frameBase 0)
      ([0o4020, 0o4024, 0o4030, 0o4034, 0o4034].flatMap (fun w => [0, 0, 0, 0, 0, 0, 0, w]))
def dIn (c n : Nat) (l : List Octet) : HostIn := { cell := c, supplied := n, elems := [(0, n)], bad := false, octets := l }
def key7 : List Octet := leOctets 4 7 ++ zeros 12

def rsaJob : Job := compJob 0o300 128 (key7 ++ descN (blobLen 448) ++ descN 128 ++ descN 128)
  [dIn 2 (blobLen 448) (zeros (blobLen 448)), dIn 3 128 (zeros 128), dIn 4 128 []]
def signJob : Job := compJob 0o301 0 (key7 ++ descN 32) [dIn 2 32 (zeros 32)]
def verJob (op n : Nat) : Job := compJob op 0 (descN (5 * n + 1)) [dIn 1 (5 * n + 1) (zeros (5 * n + 1))]
def ecdhJob : Job := compJob 0o304 9 (key7 ++ descN 65)
  [dIn 2 65 ([0x04] ++ beOctets 32 p256.gx ++ beOctets 32 p256.gy)]
def cryptoJob : Job := compJob 0o305 0 (leOctets 8 (mkHandle 0 0 2) ++ zeros 8 ++ descN 1 ++ zeros 16) [dIn 2 1 [0]]
def pinJob : Job := compJob 0o306 0 (leOctets 4 7 ++ leOctets 4 7 ++ zeros 40) []
def treeJob : Job := compJob 0o307 9 (leOctets 4 7 ++ leOctets 4 0o200702 ++ leOctets 4 2 ++ zeros 4 ++ descN 32)
  [dIn 2 32 (zeros 32)]

def tuakJob : Job := compJob 0o310 0 (leOctets 8 (mkHandle 0 1 2) ++ zeros 56) []
def verGJob (op : Nat) (c : Curve) : Job := compJob op 0 (descN (5 * c.len + 1)) [dIn 1 (5 * c.len + 1)
  ([0x04] ++ beOctets c.len c.gx ++ beOctets c.len c.gy ++ zeros (3 * c.len))]
def pinOkJob : Job := compJob 0o306 0 (leOctets 4 7 ++ leOctets 4 7 ++ zeros 8 ++ beOctets 16 0x52aeb535cb9b3a568f5be23555747c16 ++ zeros 16) []
def cryptoOkJob : Job := compJob 0o305 0 (leOctets 8 (mkHandle 0 0 2) ++ zeros 8 ++ descN 1 ++ beOctets 8 0xe1ec0bdce2646950 ++ zeros 8)
  [dIn 2 1 [0]]
/-- A modulus of 1,024 bits, its factors, exponents and inverse. -/
def rsaPart : Nat → Nat
  | 0 => 2 ^ 511 + 3
  | 1 => 2 ^ 511 + 1
  | _ => 1
def rsaKey : List Octet := beOctets 128 (2 ^ 1023 + 1) ++ (List.range 5).flatMap (fun i => beOctets 64 (rsaPart i))
/-- The same core with no slot 7. -/
def slotless (j : Job) : State := (compS 3 j).setSlot 7 ⟨0, 0, 0⟩

theorem witness_PaymentCompositesWriteTheirResult_keys :
    ((compS 3 rsaJob).holds 5 0o300 rsaJob 0 ∧ (∃ v, (compS 3 rsaJob).refSlotOf rsaJob (rsaJob.dw 1 0) U.unwrap [3] = .ok v) ∧
      rsaJob.declared 2 = blobLen (128 + 5 * (128 / 2)) ∧ rsaJob.declared 3 = 128 ∧ rsaJob.delivered [(4, 128)] = true) ∧
    (rsaKey.length = 128 + 5 * (128 / 2) ∧ (∀ i : Fin 5, rsaPart i = beNat (sliceOct rsaKey (128 + i * (128 / 2)) (128 / 2))) ∧
      2 < beNat (rsaKey.take 128) ∧ rsaPart 1 < rsaPart 0 ∧
      rsaProgram (beNat (rsaKey.take 128)) (rsaPart 0) (rsaPart 1) (rsaPart 2) (rsaPart 3) (rsaPart 4) 2 = some 2) ∧
    ((compS 8 signJob).holds 5 0o301 signJob 0 ∧ (∃ v, (compS 8 signJob).refSlotOf signJob (signJob.dw 1 0) U.sign [8] = .ok v) ∧
      signJob.oparg = 0 ∧ signJob.declared 2 = 32 ∧ signJob.delivered [] = true ∧ (compS 8 signJob).rngOk signJob.region = false ∧
      (rngOn (compS 8 signJob)).holds 5 0o301 signJob 0 ∧
      (∃ v, (rngOn (compS 8 signJob)).refSlotOf signJob (signJob.dw 1 0) U.sign [8] = .ok v) ∧
      (rngOn (compS 8 signJob)).rngOk signJob.region = true) ∧
    ((compS 8 ecdhJob).holds 5 0o304 ecdhJob 0 ∧ (∃ v, (compS 8 ecdhJob).refSlotOf ecdhJob (ecdhJob.dw 1 0) U.derive [8] = .ok v ∧
        (compS 8 ecdhJob).targetCheck ecdhJob 9 (ecdhAttr v) = none) ∧
      slotArg ecdhJob = true ∧ ecdhJob.declared 2 = 65 ∧ ecdhJob.delivered [] = true ∧ (p256.parse (ecdhJob.data 2)).isSome = true) ∧
    ((compS 7 treeJob).holds 5 0o307 treeJob 0 ∧
      (∃ v, (compS 7 treeJob).refSlotOf treeJob (treeJob.dw 1 0) U.derive [1, 2, 3, 7] = .ok v ∧
        (compS 7 treeJob).targetCheck treeJob 9 (derivedAttr v (wd (treeJob.dw 1 1).toNat)) = none) ∧
      bits (treeJob.dw 1 2) 3 0 = 2 ∧ bits (treeJob.dw 1 1) 31 18 = 0 ∧ bits (treeJob.dw 1 2) 31 4 = 0 ∧
      treeJob.declared 2 = 16 * 2 ∧ treeJob.delivered [] = true) := by
  simp only [State.holds, State.runs]
  exact ⟨⟨⟨by decide, ⟨_, rfl, rfl⟩, by decide⟩, ⟨_, rfl⟩, by decide +kernel⟩, by decide +kernel,
    ⟨⟨by decide, ⟨_, rfl, rfl⟩, by decide⟩, ⟨_, rfl⟩, by decide, by decide, by decide, by decide,
      ⟨by decide, ⟨_, rfl, rfl⟩, by decide⟩, ⟨_, rfl⟩, by decide⟩,
    ⟨⟨by decide, ⟨_, rfl, rfl⟩, by decide⟩, ⟨_, rfl, by decide⟩, by decide +kernel⟩,
    ⟨⟨by decide, ⟨_, rfl, rfl⟩, by decide⟩, ⟨_, rfl, by decide⟩, by decide +kernel⟩⟩

theorem witness_PaymentCompositesWriteTheirResult_refusals :
    (∀ e ∈ [(rsaJob, U.unwrap, [3], false), (signJob, U.sign, [8], false), (ecdhJob, U.derive, [8], false),
        (treeJob, U.derive, [1, 2, 3, 7], false)], (slotless e.1).holds 5 e.1.opcode e.1 0 ∧
      (slotless e.1).refSlotOf e.1 (e.1.dw 1 0) e.2.1 e.2.2.1 = .error S.staleHandle) ∧
    (bits ({ rsaJob with oparg := 2 ^ 31 } : Job).oparg 31 10 ≠ 0 ∧ ({ signJob with oparg := 1 } : Job).oparg ≠ 0 ∧
      slotArg { ecdhJob with oparg := 2 ^ 31 } = false ∧ slotArg { treeJob with oparg := 2 ^ 31 } = false) ∧
    (∃ v, (compS 3 { rsaJob with oparg := 2 ^ 31 }).refSlotOf { rsaJob with oparg := 2 ^ 31 } (rsaJob.dw 1 0) U.unwrap [3] = .ok v) := by
  simp only [State.holds, State.runs]
  refine ⟨?_, by decide, ⟨_, rfl⟩⟩
  intro e he
  simp only [List.mem_cons, List.not_mem_nil, or_false] at he
  rcases he with rfl | rfl | rfl | rfl <;> exact ⟨⟨by decide, ⟨_, rfl, rfl⟩, by decide⟩, rfl⟩

theorem witness_PaymentCompositesWriteTheirResult :
    ((compS 8 (verJob 0o302 32)).holds 5 0o302 (verJob 0o302 32) 0 ∧ (verJob 0o302 32).declared 1 = 5 * p256.len + 1 ∧
      (verJob 0o302 32).delivered [] = true ∧ p256.parse (((verJob 0o302 32).data 1).take 65) = none ∧
      (compS 8 (verJob 0o303 48)).holds 5 0o303 (verJob 0o303 48) 0 ∧ (verJob 0o303 48).declared 1 = 5 * p384.len + 1 ∧
      p384.parse (((verJob 0o303 48).data 1).take 97) = none) ∧
    ((p256.parse (((verGJob 0o302 p256).data 1).take 65)).isSome = true ∧ (verGJob 0o302 p256).delivered [] = true ∧
      (p384.parse (((verGJob 0o303 p384).data 1).take 97)).isSome = true ∧ (verGJob 0o303 p384).delivered [] = true) ∧
    (∀ j ∈ [cryptoJob, cryptoOkJob], (compS 8 j).holds 5 0o305 j 0 ∧ (compS 8 j).credCheck 5 j (j.handle 1 0) = none ∧
      (compS 8 j).kindOk 5 j (hPage (j.handle 1 0)) (hEntry (j.handle 1 0)) 0 [] = true ∧
      j.handlePad 1 0 = true ∧ 1 ≤ j.declared 2 ∧ j.delivered [] = true) ∧
    (∀ j ∈ [pinJob, pinOkJob], (compS 1 j).holds 5 0o306 j 0 ∧ (∃ v, (compS 1 j).refSlotOf j (j.dw 1 0) U.decrypt [1, 2, 3] = .ok v) ∧
      (∃ v, (compS 1 j).refSlotOf j (j.dw 1 1) U.encrypt [1, 2, 3] = .ok v)) ∧
    ((compS 8 tuakJob).holds 5 0o310 tuakJob 0 ∧ (compS 8 tuakJob).credCheck 5 tuakJob (tuakJob.handle 1 0) = none ∧
      (compS 8 tuakJob).kindOk 5 tuakJob 0 1 1 [(1, 2), (2, 3), (3, 3)] = true ∧ tuakJob.handlePad 1 0 = true) := by
  simp only [State.holds, State.runs]
  refine ⟨⟨⟨by decide, ⟨_, rfl, rfl⟩, by decide⟩, by decide +kernel, by decide +kernel, by decide +kernel,
      ⟨by decide, ⟨_, rfl, rfl⟩, by decide⟩, by decide +kernel⟩, by decide +kernel, ?_, ?_,
    ⟨⟨by decide, ⟨_, rfl, rfl⟩, by decide⟩, by decide +kernel⟩⟩
  · intro j hj
    simp only [List.mem_cons, List.not_mem_nil, or_false] at hj
    rcases hj with rfl | rfl <;> exact ⟨⟨by decide, ⟨_, rfl, rfl⟩, by decide⟩, by decide +kernel⟩
  · intro j hj
    simp only [List.mem_cons, List.not_mem_nil, or_false] at hj
    rcases hj with rfl | rfl <;> exact ⟨⟨by decide, ⟨_, rfl, rfl⟩, by decide⟩, ⟨_, rfl⟩, ⟨_, rfl⟩⟩

/-- RSA_CRT of 2 under that key, and under a blob that does not unwrap. -/
def rsaBlob : List Octet := kwpWrap slot7Key rsaKey
def rsaNoBlob : List Octet := kwWrapIv slot7Key (zeros 8) (zeros 448)
def rsaJobOf (b : List Octet) : Job := compJob 0o300 128 (key7 ++ descN 456 ++ descN 128 ++ descN 128)
  [dIn 2 456 b, dIn 3 128 (beOctets 128 2), dIn 4 128 []]
theorem take_all {l r : List Octet} {n : Nat} (h : l.length = n) (e : r = l.take n) : r = l := by
  rw [e, List.take_of_length_le (Nat.le_of_eq h)]
theorem rsaKey_length : rsaKey.length = 448 := by decide
theorem witness_PaymentCompositesWriteTheirResult_rsa :
    (∀ b ∈ [rsaBlob, rsaNoBlob], (compS 3 (rsaJobOf b)).holds 5 0o300 (rsaJobOf b) 0 ∧
      (∃ v, (compS 3 (rsaJobOf b)).refSlotOf (rsaJobOf b) ((rsaJobOf b).dw 1 0) U.unwrap [3] = .ok v ∧ v.keyOctets = slot7Key) ∧
      (rsaJobOf b).declared 2 = blobLen (128 + 5 * (128 / 2)) ∧ (rsaJobOf b).declared 3 = 128 ∧
      (rsaJobOf b).delivered [(4, 128)] = true ∧ beNat ((rsaJobOf b).data 3) = 2) ∧
    kwpUnwrap slot7Key ((rsaJobOf rsaBlob).data 2) = some rsaKey ∧ kwpUnwrap slot7Key ((rsaJobOf rsaNoBlob).data 2) = none := by
  have e : rsaBlob.length = 456 := by
    have := kwpWrap_length slot7Key rsaKey slot7_long (by rw [rsaKey_length]; decide)
    rw [rsaKey_length] at this
    exact this
  have n : rsaNoBlob.length = 456 := kwWrapIv_length' _ _ _ 56 slot7_long rfl (by simp [zeros])
  have de : (rsaJobOf rsaBlob).data 2 = rsaBlob := take_all e rfl
  have dn : (rsaJobOf rsaNoBlob).data 2 = rsaNoBlob := take_all n rfl
  simp only [State.holds, State.runs]
  refine ⟨?_, ?_, ?_⟩
  · intro b h
    simp only [List.mem_cons, List.not_mem_nil, or_false] at h
    rcases h with rfl | rfl <;>
      exact ⟨⟨⟨rfl, rfl, rfl, by decide +kernel⟩, ⟨_, rfl, rfl⟩, by decide +kernel⟩, ⟨_, rfl, by decide⟩, by decide +kernel, by decide +kernel, by decide +kernel,
        by decide +kernel⟩
  · rw [de]; exact kwpUnwrap_kwpWrap _ _ slot7_long (by rw [rsaKey_length]; decide) (by rw [rsaKey_length]; decide)
  · rw [dn]; exact kwpUnwrap_none _ _ _ 56 slot7_long rfl (by simp [zeros]) (by decide) (by decide)

theorem witness_PaymentCompositesWriteTheirResult_pins :
    pinFieldOk (decBlk (aesSchedule slot7Key) (xorO (decBlk (aesSchedule slot7Key) (pinOkJob.oct 2 0 16)) (pinOkJob.oct 3 0 16))) = true ∧
    pinFieldOk (decBlk (aesSchedule slot7Key) (xorO (decBlk (aesSchedule slot7Key) (pinJob.oct 2 0 16)) (pinJob.oct 3 0 16))) = false := by
  decide +kernel
theorem witness_PaymentCompositesWriteTheirResult_cryptograms : ∀ sk, sk = aesEnc (zeros 15 ++ [0]) (beOctets 2 0 ++ [0xF0] ++ zeros 13) →
    (cmac sk (cryptoOkJob.data 2)).take 8 = cryptoOkJob.oct 3 0 8 ∧ (cmac sk (cryptoJob.data 2)).take 8 ≠ cryptoJob.oct 3 0 8 := by
  rintro _ rfl
  decide +kernel

def kemJob : Job := compJob 0o340 0 (key7 ++ descN 800 ++ descN 72) [dIn 2 800 [], dIn 3 72 []]
def encJob : Job := compJob 0o341 0 (descN 800 ++ descN 768) [dIn 1 800 (zeros 800), dIn 2 768 []]
def decJobOf (b : List Octet) : Job := compJob 0o342 0 (key7 ++ descN 72 ++ descN 768) [dIn 2 72 b, dIn 3 768 (zeros 768)]
def decJob : Job := decJobOf (zeros 72)
def dkgJob : Job := compJob 0o350 0 (key7 ++ descN 1312 ++ descN 40) [dIn 2 1312 [], dIn 3 40 []]
def dsgJobOf (b : List Octet) : Job := compJob 0o351 0 (key7 ++ descN 40 ++ descN 2 ++ descN 2420)
  [dIn 2 40 b, dIn 3 2 [0, 0], dIn 4 2420 []]
def dsgJob : Job := dsgJobOf (zeros 40)
def dvfJob : Job := compJob 0o352 0 (descN 1312 ++ descN 2 ++ descN 2420)
  [dIn 1 1312 (zeros 1312), dIn 2 2 [0, 0], dIn 3 2420 (zeros 2420)]

theorem witness_LatticeCompositesWriteTheirResult :
    ((compS 3 kemJob).runs 5 0o340 kemJob ∧ (∃ v, (compS 3 kemJob).refSlotOf kemJob (kemJob.dw 1 0) U.wrap [3] = .ok v) ∧
      kemJob.setOk false = true ∧ kemJob.declared 2 = (kemSet 0).ekLen ∧ kemJob.declared 3 = 72 ∧
      kemJob.delivered [(2, (kemSet 0).ekLen), (3, 72)] = true) ∧
    ((compS 3 encJob).runs 5 0o341 encJob ∧ encJob.declared 1 = (kemSet 0).ekLen ∧ encJob.declared 2 = (kemSet 0).ctLen ∧
      encJob.delivered [(2, (kemSet 0).ctLen)] = true) ∧
    ((compS 3 decJob).runs 5 0o342 decJob ∧ (∃ v, (compS 3 decJob).refSlotOf decJob (decJob.dw 1 0) U.unwrap [3] = .ok v) ∧
      decJob.declared 2 = 72 ∧ decJob.declared 3 = (kemSet 0).ctLen ∧ decJob.delivered [] = true) ∧
    ((compS 3 dkgJob).runs 5 0o350 dkgJob ∧ (∃ v, (compS 3 dkgJob).refSlotOf dkgJob (dkgJob.dw 1 0) U.wrap [3] = .ok v) ∧
      dkgJob.declared 2 = (dsaSet 0).pkLen ∧ dkgJob.delivered [(2, (dsaSet 0).pkLen), (3, 40)] = true) ∧
    ((compS 3 dsgJob).runs 5 0o351 dsgJob ∧ (∃ v, (compS 3 dsgJob).refSlotOf dsgJob (dsgJob.dw 1 0) U.unwrap [3] = .ok v) ∧
      dsgJob.setOk true = true ∧ dsgJob.declared 4 = (dsaSet 0).sigLen ∧ dsgJob.delivered [(4, (dsaSet 0).sigLen)] = true) ∧
    ((compS 3 dvfJob).runs 5 0o352 dvfJob ∧ dvfJob.declared 1 = (dsaSet 0).pkLen ∧ dvfJob.declared 3 = (dsaSet 0).sigLen ∧
      dvfJob.delivered [] = true) ∧
    (((compS 3 kemJob).core 0).held = 5 + 1 ∧ (compS 3 kemJob).rngOk kemJob.region = false ∧
      ((rngOn (compS 3 kemJob)).core 0).held = 5 + 1 ∧ (rngOn (compS 3 kemJob)).rngOk kemJob.region = true) ∧
    (tb ({ dsgJob with oparg := 4 } : Job).oparg 2 = true ∧ tb dsgJob.oparg 2 = false) := by
  simp only [State.runs]
  exact ⟨⟨by decide, ⟨_, rfl⟩, by decide +kernel⟩, ⟨by decide, by decide +kernel⟩, ⟨by decide, ⟨_, rfl⟩, by decide +kernel⟩,
    ⟨by decide, ⟨_, rfl⟩, by decide +kernel⟩, ⟨by decide, ⟨_, rfl⟩, by decide +kernel⟩, ⟨by decide, by decide +kernel⟩,
    by decide, by decide⟩

theorem witness_LatticeCompositesWriteTheirResult_data :
    (ekOk (kemSet 0) (zeros 800) = true ∧ ekOk (kemSet 0) (List.replicate 800 0xFF) = false) ∧
    (0 / 4 = 0 ∧ up.frozen (P.clu 0) = false ∧ (rngOn up).frozen (P.clu 0) = false ∧ (rngOn up).rngOk 0 = true ∧ up.rngOk 0 = false) ∧
    (kemLanes.els = 16 ∧ dsaLanes.els = 8) := by decide +kernel

/-- Seeds of ML-KEM and ML-DSA wrapped under the key of slot 7, and blobs that do not unwrap. -/
theorem witness_LatticeCompositesWriteTheirResult_seeds :
    (∀ n ∈ [32, 64], kwpUnwrap slot7Key (kwpWrap slot7Key (zeros n)) = some (zeros n) ∧ (zeros n).length = n) ∧
    (∀ m ∈ [4, 8], kwpUnwrap slot7Key (kwWrapIv slot7Key (zeros 8) (zeros (8 * m))) = none) ∧
    (((dsgJobOf (kwpWrap slot7Key (zeros 32))).declared 2 = 40 ∧ (decJobOf (kwpWrap slot7Key (zeros 64))).declared 2 = 72) ∧
      (dsgJobOf (kwpWrap slot7Key (zeros 32))).data 2 = kwpWrap slot7Key (zeros 32) ∧
      (decJobOf (kwpWrap slot7Key (zeros 64))).data 2 = kwpWrap slot7Key (zeros 64)) := by
  have l : ∀ n, (zeros n).length = n := fun n => by simp [zeros]
  have k : ∀ n, 8 < n → (kwpWrap slot7Key (zeros n)).length = 8 + 8 * ((n + 7) / 8) := fun n h => by
    rw [kwpWrap_length _ _ slot7_long (by rw [l]; exact h), l]
  refine ⟨?_, ?_, by decide +kernel, ?_, ?_⟩
  · intro n h
    simp only [List.mem_cons, List.not_mem_nil, or_false] at h
    exact ⟨kwpUnwrap_kwpWrap _ _ slot7_long (by rw [l]; omega) (by rw [l]; omega), l n⟩
  · intro m h
    simp only [List.mem_cons, List.not_mem_nil, or_false] at h
    exact kwpUnwrap_none _ _ _ m slot7_long rfl (l _) (by omega) (by decide)
  · exact take_all (k 32 (by decide)) rfl
  · exact take_all (k 64 (by decide)) rfl

/-- Table 9-3's rows, each value on two lanes, S_0 and the stored example of R280 (09_lattice_lanes.md). -/
theorem test_lane_tables :
    (List.range 16).map (kemLanes.twiddle 0) = [1, 1, 1, 1, 3328, 3328, 3328, 3328].flatMap (fun x => [x, x]) ∧
    (List.range 16).map (kemLanes.twiddle 1) = [1, 1, 3328, 3328, 1729, 1729, 1729, 1729].flatMap (fun x => [x, x]) ∧
    (List.range 16).map (kemLanes.twiddle 2) = [1, 3328, 1729, 1729, 2580, 3289, 3289, 2580].flatMap (fun x => [x, x]) ∧
    (List.range 16).map kemLanes.sigma = [1, 3328, 3328, 1600, 3328, 40, 1600, 40].flatMap (fun x => [x, x]) ∧
    (List.range 16).map (kemLanes.scale 0) = [1, 17, 289, 1584, 296, 1703, 2319, 2804].flatMap (fun x => [x, x]) ∧
    kemLanes.stored 0 0 = 23304 := by decide +kernel

theorem witness_GateTablesAndTheDebugPort :
    (up.lockedPage (P.cgate 2) = false ∧ up.gcolSel 2 < 1212 ∧
      (up.setRbit (P.cgate 2) R.PG_LOCK 0 true).lockedPage (P.cgate 2) = true ∧ up.lockedPage P.gate = false ∧
      (up.setRbit P.gate R.PG_LOCK 0 true).lockedPage P.gate = true) ∧
    (∃ s : State, s.gates.clearing.find? (fun x => x.1 == 2) = some (2, 7, 3)) ∧
    (up.dbgOpen = true ∧ up.tapOpen = true ∧ up.life = 0 ∧ bits (0o525001 : Word) 17 9 = 0o525 ∧
      bits (0o525001 : Word) 1 0 = up.life + 1 ∧ bits (1 : Word) 17 9 ≠ 0o525) ∧
    (kS.boundary 0 = true ∧ (kS.setReg P.dbg R.DBG_HALT_REQ 1).haltAsked 0 = true ∧
      (kS.setReg P.dbg R.DBG_HALT_REQ 1).boundary 0 = true ∧ kS.dbgBit R.DBG_DEFERRED 0 = false) ∧
    (∃ s : State, s.boundary 0 = true ∧ s.haltAsked 0 = true ∧ s.sealedCode 0 = true) ∧
    (∃ s : State, s.boundary 0 = true ∧ s.haltAsked 0 = true ∧ s.sealedCode 0 = false) := by
  refine ⟨by decide, ⟨{ up with gates := { up.gates with clearing := [(2, 7, 3)] } }, by decide⟩, by decide, by decide,
    ⟨(kS.setReg P.dbg R.DBG_HALT_REQ 1).setGcol 0 0 15, by decide⟩, ⟨(kS.setReg P.dbg R.DBG_HALT_REQ 1).setGcol 0 0 1, by decide⟩⟩

def clearS : State := { up with gates := { up.gates with clearing := [(2, 7, 3)] } }
theorem witness_GateTablesAndTheDebugPort_open :
    (up.frozen (P.cgate 2) = false ∧ up.deaf (P.cgate 2) = false ∧
      (up.setRbit (P.cgate 2) R.PG_LOCK 0 true).deaf (P.cgate 2) = false) ∧
    (up.deaf P.gate = false ∧ (up.setRbit P.gate R.PG_LOCK 0 true).deaf P.gate = false ∧ up.deaf P.dbg = false) ∧
    (clearS.gates.clearing.find? (fun x => x.1 == 2) = some (2, 7, 3) ∧ clearS.commandOn 2 7 = false) ∧
    (((kS.setReg P.dbg R.DBG_HALT_REQ 1).setGcol 0 0 15).sealedCode 0 = true ∧
      ((kS.setReg P.dbg R.DBG_HALT_REQ 1).setGcol 0 0 15).dbgBit R.DBG_DEFERRED 0 = false) := by decide

def aged : SReq := { rq := 3, cls := 1, origin := 0, wait := 0, lost := 4096 }
def arbS : State := up.setArb 2 0 { up.arb 2 0 with pend := [aged] }

theorem witness_ArbitersGrantByClassAgeAndWeight :
    arbS.monitored 2 0 = false ∧
    (∃ r b, (arbS.present (arbS.modeOf 2 (arbS.arb 2 0)) []).choose (arbRequesters 2 0) = some (r, b)) ∧
    (up.present (up.modeOf 2 (up.arb 2 0)) []).choose (arbRequesters 2 0) = none ∧
    (aged ∈ heads (arbS.arb 2 0).pend ∧ 4096 ≤ aged.lost ∧ aged.cls < 3) ∧
    (up.setRbit P.sluice R.SLUICE_STAT 1 true).rbit P.sluice R.SLUICE_STAT 1 = true ∧
    up.lockedPage P.sluice = false ∧ bits (0o020000 : Word) 11 0 < arbInstances (bits (0o020000 : Word) 17 12) := by
  refine ⟨by decide, ⟨_, _, rfl⟩, by decide, by decide, by decide, by decide, by decide⟩
theorem witness_ArbitersGrantByClassAgeAndWeight_presented :
    (2 ≠ 1 ∧ up.deaf P.sluice = false ∧ up.monitored 2 0 = false) ∧
    (∃ r b, (up.present (up.modeOf 2 (up.arb 2 0)) [⟨0, .other 0⟩, ⟨1, .passed 1 0⟩]).choose (arbRequesters 2 0) = some (r, b)) :=
  ⟨by decide, _, _, rfl⟩
/-! ### Witnesses: stations -/

/-- Station job of opcode `op` at the head of the queue of the READY station page `p`. -/
def stnJobOf (op : Nat) (p : Nat) (body : List Octet) (ins : List HostIn) : Job :=
  { jobOf op body with st := .dispatched, unit := some p, inputs := ins }
def stnS (p : Nat) (j : Job) (s : State) : State :=
  let s := has j (ready p s)
  { s with lode := { s.lode with inQ := Map.put (dflt []) s.lode.inQ p [5] } }
/-- Contact station 0 in PHASE `ph`, its card present. -/
def cph (ph : Nat) : State := (up.setRbit (P.cst 0) R.CST_STAT 3 true).setCphase 0 ph
def apduBody : List Octet := descN 4 ++ descN 2
def apduIns : List HostIn := [dIn 1 4 [0, 0xA4, 0, 0], dIn 2 2 []]
def cstOf (op : Nat) : Job := stnJobOf op (P.cst 0) (if op = 0o401 then apduBody else []) (if op = 0o401 then apduIns else [])

theorem witness_ContactStationsRunTheirExchanges :
    ((stnS (P.cst 0) (cstOf 0o400) (cph 0)).stnTurn 5 (cstOf 0o400) = true ∧ (cstOf 0o400).stnNo = 0 ∧
      (stnS (P.cst 0) (cstOf 0o400) (cph 0)).cphase 0 ≠ 4 ∧ (stnS (P.cst 0) (cstOf 0o400) (cph 0)).cphase 0 ≠ 5 ∧
      (cstOf 0o400).stnArgBad = false ∧ (stnS (P.cst 0) (cstOf 0o400) (cph 0)).replayOf (cstOf 0o400) = none ∧
      (cstOf 0o400).stnOp = 0o400 ∧ (stnS (P.cst 0) (cstOf 0o400) (cph 0)).cpresent 0 = true ∧
      (stnS (P.cst 0) (cstOf 0o400) (cph 0)).cactive 0 = false ∧
      (stnS (P.cst 0) (cstOf 0o400) up).cpresent 0 = false ∧
      ({ cstOf 0o400 with oparg := 2 ^ 31 } : Job).stnArgBad = true) ∧
    ((stnS (P.cst 0) (cstOf 0o401) (cph 2)).stnTurn 5 (cstOf 0o401) = true ∧
      (stnS (P.cst 0) (cstOf 0o401) (cph 2)).apduCheck (cstOf 0o401) = some none ∧
      (stnS (P.cst 0) (cstOf 0o401) (cph 2)).cactive 0 = true) ∧
    (∀ op ∈ [0o402, 0o403], (stnS (P.cst 0) (cstOf op) (cph 2)).stnTurn 5 (cstOf op) = true ∧ (cstOf op).stnOp = op ∧
      (stnS (P.cst 0) (cstOf op) (cph 2)).cactive 0 = true ∧ (stnS (P.cst 0) (cstOf op) (cph 0)).cactive 0 = false) ∧
    ((cph 1).setCst 0 { (cph 1).cst 0 with admitted := true }).cawaitAtr 0 = true ∧
    (parseAtr [0x3B, 0]).isSome = true ∧
    (∃ s : State, (s.cst 0).next = .retry 2 ∧ s.cphase 0 = 0) ∧
    (∃ s : State, s.cphase 0 = 1 ∧ (s.cst 0).pps ≠ []) ∧
    (∃ s : State, s.cphase 0 = 4 ∧ (s.cst 0).t0 = .proc ∧ (s.cst 0).x.left = [] ∧ (s.cst 0).expect = 0 ∧
      s.rfld (P.cst 0) R.CST_BUSY_LIMIT 15 0 ≠ 0 ∧ 0 < s.ccfg1 0 8 5 ∧ s.ccfg1 0 8 5 ≤ 15) ∧
    (∃ s : State, s.t1Live 0 = true) ∧
    (∃ s : State, s.rbit (P.cst 0) R.CST_CFG 12 = true ∧ (s.cst 0).stopInd ≠ 0 ∧ s.cphase 0 = 2 ∧ s.runsOn (P.cst 0) = none) ∧
    ((true == up.rbit (P.cst 0) R.CST_CFG 3) ≠ up.cpresent 0 ∨ (false == up.rbit (P.cst 0) R.CST_CFG 3) ≠ up.cpresent 0) ∧
    (cph 5).cphase 0 = 5 := by
  refine ⟨by decide, by decide, by decide, by decide, by decide,
    ⟨up.setCst 0 { up.cst 0 with next := .retry 2 }, by decide⟩, ⟨(cph 1).setCst 0 { up.cst 0 with pps := [0xFF] }, by decide⟩,
    ⟨((cph 4).setReg (P.cst 0) R.CST_BUSY_LIMIT 9).setCst 0 { up.cst 0 with t0 := .proc }, by decide⟩,
    ⟨((cph 4).setRbit (P.cst 0) R.CST_STAT 6 true).setCst 0 { up.cst 0 with x := { Exch.none with sent := true } }, by decide⟩,
    ⟨((cph 2).setRbit (P.cst 0) R.CST_CFG 12 true).setCst 0 { up.cst 0 with atr := [0x3B, 0x80, 0x80, 0x1F, 0x45, 0x5A] }, by decide⟩,
    by decide, by decide⟩
/-- The T=0 exchange of an APDU whose command is not yet sent. -/
def apduS : State := (stnS (P.cst 0) (cstOf 0o401) (cph 4)).setRuns (P.cst 0) (some 5)
def goS (op : Nat) (s : State) : State :=
  ((stnS (P.cst 0) (cstOf op) s).startJob (P.cst 0) 5 (cstOf op)).modJob 5 (fun x => { x with begun := true })
theorem witness_ContactStationsRunTheirExchanges_more :
    (∀ op ∈ [0o400, 0o401, 0o402, 0o403], (stnS (P.cst 0) (cstOf op) (cph 2)).replayOf (cstOf op) = none ∧ (cstOf op).opcode = op ∧
      (cstOf op).stnArgBad = false ∧ (cph 2).cpresent 0 = true) ∧
    ((goS 0o400 (cph 0)).cactive 0 = false ∧ (goS 0o400 (cph 0)).cclasses 0 ≠ []) ∧
    ((goS 0o401 (cph 2)).job 5).isSome = true ∧
    (apduS.runsOn (P.cst 0) = some 5 ∧ (apduS.job 5).isSome = true ∧ (apduS.cst 0).x.sent = false ∧ apduS.cphase 0 = 4) ∧
    ((parseAtr [0x3B, 0]).bind (fun f => atrFor f 15 0) = none ∧ (parseAtr [0x3B, 0]).isSome = true) := by decide
/-! ### Witnesses: contactless stations -/

/-- Contactless station 0 in PHASE `ph`. -/
def fph (ph : Nat) : State := up.setFphase 0 ph
def fstOf (op : Nat) (body : List Octet) (ins : List HostIn) : Job :=
  stnJobOf op (P.fst 0) body ins
def stnF (j : Job) (s : State) : State := stnS (P.fst 0) j s
def aTag : Tag := ⟨false, [1, 2, 3, 4], 0x20, [4, 0]⟩
/-- A field on with an active tag. -/
def fieldS : State := ((fph 5).setFbit 0 13 true).setFst 0 { up.fst 0 with tag := some aTag }
/-- 252 octets of an identity record. -/
def recOf : List Octet := [0x59, 0x4D, 0x01, 1] ++ beOctets 2 1000 ++ [0, 200] ++ beOctets 2 500 ++
  ((List.range 8).flatMap (fun _ => [10, 20, 0, 100])) ++ zeros 210

theorem witness_FieldStationsRunTheirExchanges :
    (((stnF (fstOf 0o440 (zeros 16) []) (fph 0)).stnTurn 5 (fstOf 0o440 (zeros 16) []) = true ∧
        (fstOf 0o440 (zeros 16) []).stnNo - 16 = 0 ∧ (fstOf 0o440 (zeros 16) []).stnArgBad = false ∧
        (stnF (fstOf 0o440 (zeros 16) []) (fph 0)).replayOf (fstOf 0o440 (zeros 16) []) = none ∧
        (fstOf 0o440 (zeros 16) []).stnOp = 0o440 ∧
        (stnF (fstOf 0o440 (zeros 16) []) (fph 0)).fstCheck 0 (fstOf 0o440 (zeros 16) []) = none ∧
        (fph 0).fieldIsOn 0 = false ∧ ({ fstOf 0o440 (zeros 16) [] with oparg := 2 ^ 31 } : Job).stnArgBad = true) ∧
      ((stnF (fstOf 0o441 apduBody apduIns) fieldS).stnTurn 5 (fstOf 0o441 apduBody apduIns) = true ∧
        (stnF (fstOf 0o441 apduBody apduIns) fieldS).apduCheck (fstOf 0o441 apduBody apduIns) = some none ∧
        (fstOf 0o441 apduBody apduIns).respSmall = false ∧ fieldS.fphase 0 = 5 ∧ (fieldS.fst 0).tag = some aTag ∧
        fieldS.fbit 0 13 = true ∧ fieldS.unidentified (fstOf 0o441 apduBody apduIns) = false) ∧
      ((stnF (fstOf 0o442 [] []) fieldS).stnTurn 5 (fstOf 0o442 [] []) = true ∧ fieldS.fieldIsOn 0 = true ∧
        (fstOf 0o442 [] []).stnArgBad = false)) ∧
    ((∃ s : State, s.fphase 0 = 2 ∧ (s.fst 0).wait = .power ∧ (s.fst 0).admitted = true ∧ s.stnJob (P.fst 0) = none ∧
        s.runsOn (P.fst 0) = none ∧ (s.fst 0).tuned = true ∧ (s.fst 0).lastType = 1) ∧
      (fph 3).fphase 0 = 3 ∧ ((fph 7).fphase 0 = 7 ∧ ((fph 7).fst 0).wait ≠ .off) ∧
      (∃ s : State, s.ready (P.fst 0) = true ∧ s.rbit (P.fst 0) R.FST_CFG 6 = true ∧ s.fphase 0 ≤ 2 ∧ s.fieldIsOn 0 = false) ∧
      (fieldS.setRbit (P.fst 0) R.FST_CFG 6 true).rbit (P.fst 0) R.FST_CFG 6 = true ∧ (fph 4).fphase 0 = 4 ∧
      (((fph 4).setFst 0 { up.fst 0 with sing := .halt }).fst 0).sing = .halt ∧ (fph 6).fxlive 0 = true) ∧
    ((∃ s : State, ∃ k j, s.stnJob (P.fst 0) = some (k, j) ∧ (s.fst 0).wait = .arrive) ∧
      up.rbit P.midr R.MIDR_STAT 16 = false ∧
      (∃ s : State, s.lev.starting.contains (P.fst 0) = true ∧ (s.fst 0).recRead = false ∧ s.rbit P.midr R.MIDR_CFG (0 / 4) = true ∧
        recCause (recOf ++ beOctets 4 (crc32 recOf).toNat) (min 250 (s.rfld (P.fst 0) R.FST_PLIMIT 8 0)) none = 0)) := by
  refine ⟨by decide, ⟨⟨(fph 2).setFst 0 { up.fst 0 with wait := .power, admitted := true, tuned := true, lastType := 1 }, by decide⟩,
      by decide, by decide, ⟨(ready (P.fst 0) (fph 0)).setRbit (P.fst 0) R.FST_CFG 6 true, by decide⟩,
      by decide, by decide, by decide, by decide⟩,
    ⟨⟨(((stnF (fstOf 0o440 (zeros 16) []) (fph 0)).startJob (P.fst 0) 5 (fstOf 0o440 (zeros 16) []))).setFst 0
        { up.fst 0 with wait := .arrive }, _, _, ⟨rfl, rfl⟩⟩, by decide,
      ⟨({ (up.setRbit P.midr R.MIDR_CFG 0 true).setReg (P.fst 0) R.FST_PLIMIT 250 with
          lev := { up.lev with starting := [P.fst 0] } } : State), by decide, by decide, by decide, by decide +kernel⟩⟩⟩
def farriveJob : Job := fstOf 0o440 (zeros 16) []
theorem witness_FieldStationsRunTheirExchanges_more :
    ((stnF farriveJob (fph 0)).waitBlind 0 farriveJob = false ∧ (fph 0).fphase 0 ≠ 7 ∧
      (stnF (fstOf 0o441 apduBody apduIns) fieldS).replayOf (fstOf 0o441 apduBody apduIns) = none ∧
      (stnF (fstOf 0o442 [] []) fieldS).replayOf (fstOf 0o442 [] []) = none ∧
      (stnF (fstOf 0o442 [] []) (fph 0)).stnTurn 5 (fstOf 0o442 [] []) = true ∧ (fph 0).fieldIsOn 0 = false) ∧
    ((fstOf 0o441 apduBody apduIns).stnArgBad = false ∧ (fieldS.fst 0).tag.isSome = true ∧
      ((stnF farriveJob (fph 0)).startJob (P.fst 0) 5 farriveJob).fieldIsOn 0 = false) ∧
    (up.deaf (P.fst 0) = false ∧ (fieldS.setRbit (P.fst 0) R.FST_CFG 6 true).fieldIsOn 0 = true ∧
      (fieldS.setRbit (P.fst 0) R.FST_CFG 6 true).deaf (P.fst 0) = false ∧
      ((fph 0).setRbit (P.fst 0) R.FST_CFG 6 true).rbit (P.fst 0) R.FST_CFG 6 = true ∧
      ((fph 0).setRbit (P.fst 0) R.FST_CFG 6 true).deaf (P.fst 0) = false) ∧
    (up.deaf P.midr = false ∧ fieldS.fieldIsOn 0 = true) := by decide
/-! ### Witnesses: line, tamper, log -/

def lineS (l : Line) : State := { up with line := l }
def mkItem (n : Nat) : Item := { num := n, m := 100, ident := [], reject := false, reason := 0, done := false, recs := [], checks := [], final := false }
def lineJob (op : Nat) (body : List Octet) (ins : List HostIn) : Job := { jobOf op body with inputs := ins }

theorem witness_TheLineMarksChecksAndHolds :
    ((∃ s : State, s.line.pos - s.line.samples.getD 9 0 ≠ 0 ∧
        100 * (s.line.pos - s.line.samples.getD 9 0) ≤ (105 * s.lreg R.LINE_SPEED_MAX : Int)) ∧
      (∃ s : State, ∃ m l, s.edgeAt 0 = some m ∧ s.line.lastMark = some l ∧ m - l < (s.lreg R.LINE_PITCH_MIN : Int)) ∧
      (∃ s : State, ∃ m, s.edgeAt 0 = some m ∧ s.line.lastMark = none) ∧
      (∃ s : State, ∃ p, s.edgeAt 0 = some p ∧ s.isCheck 1 = true ∧ s.line.items = []) ∧
      (∃ s : State, ∃ p i, s.edgeAt 0 = some p ∧ s.isCheck 1 = true ∧
        s.line.items.find? (fun i => decide ((p - i.m - s.rfld P.line (R.LINE_CHK + 1) 16 0).natAbs ≤ s.lreg R.LINE_CHK_TOL)) = some i ∧
        i.checks.contains 1 = false)) ∧
    ((up.setRbit P.line R.LINE_STAT 0 false).holding = false ∧
      (∃ s : State, s.en P.line = true ∧ s.stat P.line ST.stopping = false ∧ s.rbit P.line R.LINE_STAT 1 = true ∧
        s.holdPersists = false ∧ s.holding = true) ∧
      (up.setRbit P.line R.LINE_STAT 2 false).holdPersists = true ∧
      (has (jobOf 0o500 []) up).job 5 = some (jobOf 0o500 [])) ∧
    ((∃ s : State, ∃ j i, s.runs 5 0o501 j ∧ lineClean j = true ∧ ((j.oct 2 0 1).headD 0).toNat = 4 ∧
        s.item j.itemNo = some i ∧ i.ident = []) ∧
      (∃ s : State, ∃ j, s.runs 5 0o502 j ∧ lineClean j = true ∧ s.item j.itemNo = none) ∧
      (∃ s : State, ∃ j i, s.runs 5 0o503 j ∧ lineClean j = true ∧ s.item j.itemNo = some i ∧ s.decided i = false) ∧
      (∃ s : State, ∃ j i, s.runs 5 0o503 j ∧ lineClean j = true ∧ s.item j.itemNo = some i ∧ i.reject = false ∧ s.decided i = true) ∧
      (∃ s : State, ∃ j i, s.runs 5 0o504 j ∧ lineClean j = true ∧ s.item j.itemNo = some i ∧ j.itemNo < s.nextItem + 4096)) := by
  simp only [State.runs]
  refine ⟨⟨⟨(lineS { up.line with pos := 1 }).setReg P.line R.LINE_SPEED_MAX 100, by decide⟩,
      ⟨(lineS { up.line with trail := [(10, true)], lastMark := some 8 }).setReg P.line R.LINE_PITCH_MIN 100, 10, 8, by decide⟩,
      ⟨lineS { up.line with trail := [(10, true)], lastMark := none }, 10, by decide⟩,
      ⟨(lineS { up.line with trail := [(10, true)] }).setReg P.line (R.LINE_CHK + 1) (wd 0o777777), 10, by decide⟩,
      ⟨(lineS { up.line with trail := [(131171, true)], items := [mkItem 0] }).setReg P.line (R.LINE_CHK + 1) (wd 0o777777), 131171, mkItem 0, by decide⟩⟩,
    ⟨by decide, ⟨((on P.line up).setReg P.line R.LINE_STAT (wd 7)), by decide⟩, by decide, by decide⟩,
    ⟨⟨has (lineJob 0o501 (zeros 16 ++ [4, 1, 2, 3, 4] ++ zeros 11) []) (lineS { up.line with items := [mkItem 0] }), _, _,
        ⟨rfl, rfl, rfl, by decide⟩, by decide, by decide, rfl, by decide⟩,
      ⟨has (lineJob 0o502 (zeros 16) []) up, _, ⟨rfl, rfl, rfl, by decide⟩, by decide, by decide⟩,
      ⟨(has (lineJob 0o503 (zeros 16) []) (lineS { up.line with items := [mkItem 0], high := 0 })), _, _,
        ⟨rfl, rfl, rfl, by decide⟩, by decide, rfl, by decide⟩,
      ⟨(has (lineJob 0o503 (zeros 16) []) (lineS { up.line with items := [mkItem 0], high := 1000 })), _, _,
        ⟨rfl, rfl, rfl, by decide⟩, by decide, rfl, by decide, by decide⟩,
      ⟨(has (lineJob 0o504 (zeros 16) []) (lineS { up.line with items := [mkItem 0] })), _, _,
        ⟨rfl, rfl, rfl, by decide⟩, by decide, rfl, by decide⟩⟩⟩

/-- HOLD is asserted, the line is still, enabled and quiet. -/
def heldLine : State := (on P.line up).setReg P.line R.LINE_STAT (wd 7)
theorem witness_TheLineMarksChecksAndHolds_more :
    (heldLine.deaf P.line = false ∧ heldLine.holding = true ∧ heldLine.holdPersists = false ∧
      (up.setRbit P.line R.LINE_STAT 2 false).deaf P.line = false) ∧
    ((lineS { up.line with trail := [(1000, true)], lastMark := some 8 }).edgeAt 0 = some 1000 ∧
      (((lineS { up.line with trail := [(1000, true)], lastMark := some 8 }).setReg P.line R.LINE_PITCH_MIN 100).lreg
        R.LINE_PITCH_MIN : Int) ≤ 1000 - 8) ∧
    ((jobOf 0o500 []).opcode = 0o500 ∧
      (∃ s : State, ∃ j i, s.runs 5 0o502 j ∧ lineClean j = true ∧ s.item j.itemNo = some i) ∧
      (∃ s : State, ∃ j, s.runs 5 0o503 j ∧ lineClean j = true ∧ s.item j.itemNo = none) ∧
      (lineS { up.line with items := [{ mkItem 0 with final := true }] }).decided { mkItem 0 with final := true } = true) := by
  simp only [State.runs]
  exact ⟨by decide, by decide, by decide,
    ⟨has (lineJob 0o502 (zeros 16) []) (lineS { up.line with items := [mkItem 0] }), _, _, ⟨rfl, rfl, rfl, by decide⟩, by decide, rfl⟩,
    ⟨has (lineJob 0o503 (zeros 16) []) up, _, ⟨rfl, rfl, rfl, by decide⟩, by decide, by decide⟩, by decide⟩

def tampS (t : Tamper) : State := { up with tamper := t }
def aRun (src : Nat) (set done : Word) : RunSet := ⟨src, set, done, 0, 0⟩

theorem witness_TamperAlarmsRunTheirResponses :
    (up.tamper.present.contains 3 = false ∧ up.hummockOn = true ∧ up.mainPower = true ∧ up.tamper.bist = none) ∧
    ((tampS { up.tamper with running := [aRun 3 (wd 32) 0] }).runIdx 3 (fun r => r.open 5) = some 0 ∧ zeroBits.contains 5 = true) ∧
    ((tampS { up.tamper with running := [aRun 3 (wd 512) 0] }).runIdx 3 (fun r => r.open 9) = some 0 ∧
      (tampS { up.tamper with running := [aRun 3 (wd 512) 0] }).tamper.running.all
        (fun r => waitBits.all (fun b => !r.open b)) = true) ∧
    (tampS { up.tamper with running := [aRun 3 (wd 1024) 0] }).runIdx 3 (fun r => r.open 10) = some 0 ∧
    (tampS { up.tamper with running := [aRun 3 1 1] }).runIdx 3 (fun r => decide (r.done = r.set)) = some 0 ∧
    (Map.get (dflt 0) up.tamper.counted 3 ≤ 1 ∧ up.rfld P.tamp0 R.TAMP0_BIST_SEL 6 0 = 0 ∧
      Map.get (dflt 0) up.tamper.tested 0 = 0 ∧ (tampS { up.tamper with bist := some 0 }).tamper.bist ≠ none ∧
      tb (up.reg P.tamp1 R.TAMP1_RESP_SEL) 17 = false ∧ up.setTamperRuns = false) ∧
    (∃ s : State, s.setTamperRuns = true ∧ s.deaf P.tamp1 = false ∧ tb (s.reg P.tamp1 R.TAMP1_RESP_SEL) 17 = false) ∧
    up.deaf P.tamp1 = false := by
  refine ⟨by decide, by decide, by decide, by decide, by decide, by decide,
    ⟨({ up with cust := { up.cust with cer := { up.cust.cer with func := 2 } } } : State).setReg P.peat R.PEAT_CER_STAT 1, by decide⟩,
    by decide⟩

theorem witness_TamperAlarmsRunTheirResponses_mesh :
    (up.deaf P.tamp0 = false ∧ (tampS { up.tamper with bist := some 0 }).deaf P.tamp0 = false ∧
      (tampS { up.tamper with bist := some 0 }).mainPower = true) ∧
    (up.frozen P.moss = false ∧ (up.putLink false { up.link false with quar := true }).frozen P.moss = true) ∧
    (up.hummockOn = true ∧ up.mossPattern 5 = some 0o761674 ∧ mossNets 5 0o761674 0 0 = ([10, 11], 2) ∧
      mossNets 5 0o761674 0o761674 0o016103 = ([], 0)) ∧
    up.tamper.steps + 18 * up.mossPairs.length < 65536 ∧
    ((tampS { up.tamper with running := [aRun 3 1 1] }).tamper.running[0]? = some (aRun 3 1 1) ∧
      (tampS { up.tamper with running := [aRun 3 (wd 512) 0] }).mainPower = true ∧
      ((119 ≠ 118 ∧ 81 < 119) ∧ up.tamper.present.contains 119 = false)) := by decide

def wispS (w : Wisp) : State := { up with wisp := w }
def anEntry : LogEntry := ⟨1, 2, 3, 4⟩

theorem witness_TheWispLogIsAppendedAndRead :
    (∃ s : State, s.wisp.queue = [anEntry] ∧ s.hummockOn = true ∧
      (State.writeLog { s with wisp := { s.wisp with queue := [] } } anEntry).wisp.dropped = 0) ∧
    (up.wisp.lastAppend = 0 ∧ up.wisp.queue.length ≤ 12) ∧
    12 < (wispS { up.wisp with queue := List.replicate 13 anEntry }).wisp.queue.length ∧
    (wispS { up.wisp with vbat := true }).wisp.vbat = true ∧
    (up.setRbit P.wisp R.WISP_CFG 0 true).rbit P.wisp R.WISP_CFG 0 = true ∧
    up.wisp.tag = .off ∧
    (∃ s : State, s.wisp.tag = .ready ∧ (uidBits s.wisp.uid).take 3 = [false, false, false] ∧
      (uidBits s.wisp.uid).take ((uidBits s.wisp.uid).take 40).length = (uidBits s.wisp.uid).take 40 ∧
      40 ≤ ((uidBits s.wisp.uid).take 40).length) := by
  refine ⟨⟨wispS { up.wisp with queue := [anEntry] }, by decide⟩, by decide, by decide, by decide, by decide, by decide,
    ⟨wispS { up.wisp with tag := .ready, uid := [8, 1, 2, 3] }, by decide⟩⟩
/-- VBAT is there and the tag is selected, with `n` entries queued. -/
def wispOn (n : Nat) : State :=
  wispS { up.wisp with vbat := true, tag := .selected, queue := List.replicate n anEntry }
theorem witness_TheWispLogIsAppendedAndRead_more :
    (up.deaf P.wisp = false ∧ (wispOn 13).deaf P.wisp = false ∧ 12 < (wispOn 13).wisp.queue.length ∧
      (wispOn 0).wisp.lastAppend = 0 ∧ (wispOn 0).wisp.vbat = true ∧
      (up.setRbit P.wisp R.WISP_CFG 0 true).deaf P.wisp = false ∧ up.frozen P.wisp = false) ∧
    ((wispOn 0).wisp.tag = .selected ∧ (wispS { up.wisp with tag := .idle }).wisp.tag = .idle ∧
      (wispS { up.wisp with tag := .halted }).wisp.tag = .halted ∧ (wispS { up.wisp with tag := .ready }).wisp.tag = .ready) := by
  decide
/-! ### Witnesses: flash, power, resets, bring-up -/

def flashS (f : Flash) : State := { on P.flash up with flash := f }
def anErase : FlOp := ⟨2, 128000, [], 0, false, none⟩

theorem witness_TheFlashControllerRunsItsOperations :
    ((on P.flash up).en P.flash = true ∧ (on P.flash up).stat P.flash ST.stopping = false ∧ (on P.flash up).portHBusy = false ∧
      (flashS { up.flash with running := some anErase }).portHBusy = true ∧
      (on P.flash up).flAddr % 128 = 0 ∧
      (∃ st, ((on P.flash up).setRbit P.flash R.FLASH_FL_STAT 5 true).opRefused ⟨5, 0, [], 0, false, none⟩ false = some st) ∧
      (on P.flash up).opRefused anErase false = none ∧ (on P.flash up).flash.running = none) ∧
    ((flashS { up.flash with running := some ⟨1, 0, [], 0, true, none⟩ }).portHBusy = false ∧
      (flashS { up.flash with running := some ⟨1, 0, [], 0, true, none⟩ }).opRefused anErase false = none) ∧
    (∃ s : State, s.en P.flash = true ∧ s.portHBusy = false ∧
      (s.flBuf.all (fun w => tb w 17 && tb w 8)) = true) ∧
    ((flashS { up.flash with susp := some (anErase, false) }).flash.susp = some (anErase, false) ∧
      up.flash.susp = none ∧ (on P.flash up).opRefused ⟨1, 0, [], 0, true, none⟩ false = none ∧
      sectorOf anErase.page ≠ sectorOf 0) ∧
    (({ anErase with pulses := 11 } : FlOp).op = 2 ∧ (⟨1, 0, [], 8, false, none⟩ : FlOp).op ≠ 2) ∧
    up.checkAccess (up.whoOf .debug) (0o002000000000 + 32768 * 200) 1 .r = .allowed ∧
    (up.brownedOut = false ∧ (up.setRbit P.flash R.FLASH_FL_STAT 4 true).brownedOut = true) ∧
    (∃ s : State, s.lev.starting.contains P.flash = true ∧ s.flash.running = none ∧ s.flash.susp = none) := by
  refine ⟨⟨by decide, by decide, by decide, by decide, by decide, ⟨FS.wp, by decide⟩, by decide, by decide⟩, by decide,
    ⟨(on P.flash up).each (List.range 288) (fun t i => t.setReg P.flash (R.FLASH_FL_BUF + i) (wd 0o400400)), by decide +kernel⟩,
    by decide, by decide, by decide, by decide,
    ⟨{ up with lev := { up.lev with starting := [P.flash] } }, by decide⟩⟩

theorem witness_TheFlashControllerRunsItsOperations_more :
    ((on P.flash up).deaf P.flash = false ∧ (flashS { up.flash with running := some anErase }).deaf P.flash = false ∧
      (flashS { up.flash with susp := some (anErase, false) }).deaf P.flash = false ∧ up.deaf P.flash = false) ∧
    ((flashS { up.flash with running := some anErase }).flash.running = some anErase ∧ anErase.op = 2 ∧ anErase.pulses < 11 ∧
      (flashS { up.flash with running := some anErase }).opRefused ⟨1, 0, [], 0, true, none⟩ false = none) := by decide

def bootS (b : Boot) : State := { up with boot := b }

theorem witness_PowerAndResetsMoveTheDevice :
    (up.boot.pin = false ∧ (bootS { up.boot with pin := true }).boot.pin = true ∧
      (bootS { up.boot with tamper := true }).tamper.present.all
        (fun n => !tb ((bootS { up.boot with tamper := true }).activeSet n) 9) = true ∧
      State.reset.boot.por = true ∧ up.boot.por = false ∧ up.wisp.vbat = false ∧
      (bootS { up.boot with perst := false }).boot.perst = false) ∧
    (∃ s : State, s.inReset = false ∧ s.devWdt ≠ 0 ∧ s.devWdt ≤ s.sinceKick 4) ∧
    (∃ s : State, s.inReset = false ∧ s.rgWdt 0 ≠ 0 ∧ s.rgWdt 0 ≤ s.sinceKick 0 ∧ s.rbit P.rstc R.RSTC_RG_STAT 8 = false) ∧
    (bits (wd 0o525001) 17 9 = 0o525 ∧
      (List.range 4).all (fun k => !tb (wd 0o525001) k || ofRegion (.core 0) k) = true ∧ bits (0 : Word) 17 9 ≠ 0o525) ∧
    (up.setRbit P.rstc R.RSTC_RG_STAT 0 true).rbit P.rstc R.RSTC_RG_STAT 0 = true ∧
    ((up.setRbit P.pwr R.PWR_STAT 3 true).vfield = true ∧ up.vfield = false ∧ up.mainPower = true) ∧
    (up.pmbOk = false ∧ 2000 + 100 ≤ 3600 ∧ up.power.step = none) ∧
    (((up.setReg P.pwr R.PWR_PKG_POWER (wd 3100)).setReg P.pwr R.PWR_RG_POINT 1).choose ≠ none ∧
      ((up.setReg P.pwr R.PWR_PKG_POWER (wd 2100)).setReg P.pwr R.PWR_CAP (wd 210)).choose = none) ∧
    ({ up with power := { up.power with step := some (0, true) } } : State).power.step = some (0, true) ∧
    (∃ s : State, ∃ p l, s.stn.waits = p :: l ∧
      s.rfld P.pwr R.PWR_STN_RESERVED 17 0 + s.stnNeed p ≤ s.rfld P.pwr R.PWR_STN_BUDGET 17 0 ∧
      s.rfld P.pwr R.PWR_PKG_POWER 17 0 * 10 + s.stnNeed p ≤ s.rfld P.pwr R.PWR_CAP 8 0 * 100) ∧
    (up.clusterIdle 0 = true ∧ (on (P.kz 0) up).clusterIdle 0 = false) ∧
    ({ up with power := { up.power with ungating := [3] } } : State).power.ungating.contains 3 = true := by
  refine ⟨by decide,
    ⟨({ up with now := 5000000, boot := { up.boot with kicks := [] } } : State).setReg P.rstc R.RSTC_DEV_WDT 3, by decide⟩,
    ⟨({ up with now := 5000000, boot := { up.boot with kicks := [] } } : State).setReg P.rstc R.RSTC_RG_WDT 3, by decide⟩,
    by decide, by decide, by decide, by decide, by decide, by decide,
    ⟨((({ up with stn := { up.stn with waits := [P.cst 0] } } : State).setReg P.pwr R.PWR_STN_BUDGET (wd 1000)).setReg P.pwr
      R.PWR_CAP (wd 300)), P.cst 0, [], by decide⟩, by decide, by decide⟩

theorem witness_PowerAndResetsMoveTheDevice_more :
    (up.deaf P.rstc = false ∧ up.deaf P.pwr = false ∧
      (bootS { up.boot with tamper := true }).boot.tamper = true ∧ State.reset.boot.pin = false) ∧
    ((wispS { up.wisp with vbat := true }).wisp.vbat = true ∧
      (tampS { up.tamper with present := [118] }).tamper.present.contains 118 = true) ∧
    ((up.setRbit P.pwr R.PWR_STAT 2 true).pmbOk = true ∧ 2000 + 100 ≤ 3600) := by decide

def stepS (n : Nat) : State := up.setRfld P.dev R.DEV_STAT 9 6 n

/-- A SLOT_INFO of slot 9, whose word has lost its value, as have the tables. -/
def infoJob : Job := { jobOf 0o025 (zeros 16) with oparg := 9 }
def struckS : State := { has infoJob up with diag := { up.diag with upset := [2 ^ 40 + 9, 2 ^ 42] } }

/-- A job that names entry 0 of page 0 and slot 7 in every form, and a device whose words have lost their values. -/
def strikeJob (op : Nat) : Job := { jobOf op (body1 0 7) with oparg := 7, sess := some 9 }
def allStruck (j : Job) : State :=
  let s := has j (paged 0 up)
  { s with
    lode := { s.lode with slotOf := Map.put (dflt 0) s.lode.slotOf 9 1 }
    diag := { s.diag with upset := [2 ^ 40 + 7, frameBase 0 + 7, ctxBase 0] } }

theorem witness_BringUpAndDiagnosisStepByStep :
    (struckS.job 5 = some infoJob ∧ infoJob.st = .running ∧ infoJob.opcode = 0o025 ∧
      struckS.jobStruck 5 infoJob = some (2 ^ 40 + 9) ∧ struckS.struckIn (2 ^ 42) 1 = some (2 ^ 42)) ∧
    ((stepS 1).inReset = false ∧ (stepS 1).bootStep = 1 ∧ (stepS 1).hmkLive = false) ∧
    ({ up with lev := { up.lev with clBist := [2] } } : State).lev.clBist.contains 2 = true ∧
    (∃ s : State, s.inReset = false ∧ s.retired = false ∧ 2 ≤ s.bootStep ∧ s.bootStep < 5 ∧ s.lev.clBist = [] ∧
      s.ready P.flash = true ∧ s.lev.clPassed ≠ []) ∧
    (((stepS 5).setRbit P.dev R.DEV_STAT 3 true).bootStep = 5 ∧
      ((stepS 5).setRbit P.dev R.DEV_STAT 3 true).rbit P.dev R.DEV_STAT 3 = true) ∧
    (∃ s : State, s.inReset = false ∧ s.hmkLive = true ∧ s.rbit P.dev R.DEV_STAT 3 = true ∧ 6 ≤ s.bootStep ∧
      s.peatRestored = false) ∧
    up.rbit P.dev R.DEV_STAT 3 = false ∧
    (up.lockedPage P.dev = false ∧ (up.setReg P.dev R.PG_LOCK 1).lockedPage P.dev = true) ∧
    (up.frame (scrubFrame 0 0 0)).used = false ∧
    (up.inReset = false ∧ canMismatch 1 0 = true ∧ up.isBad (regKey 1 0) = false) ∧
    (up.diag.inject = none ∧ ({ up with diag := { up.diag with inject := some (1, 0) } } : State).diag.inject ≠ none) := by
  refine ⟨by decide, by decide, by decide,
    ⟨{ ready P.flash (stepS 4) with lev := { up.lev with clPassed := [0] } }, by decide⟩, by decide,
    ⟨((stepS 6).setRbit P.dev R.DEV_STAT 3 true).setRfld P.hmk R.HMK_STAT 1 0 1, by decide⟩,
    by decide, by decide, by decide, by decide, by decide⟩
theorem witness_BringUpAndDiagnosisStepByStep_more :
    (up.deaf P.dev = false ∧ (up.setReg P.dev R.PG_LOCK 1).deaf P.dev = false ∧
      ((stepS 5).setRbit P.dev R.DEV_STAT 3 true).deaf P.dev = false ∧ up.deaf P.diag = false ∧
      tb (0 : Word) 0 = up.rbit P.dev R.DEV_BOOTCFG 0) ∧
    (∀ op ∈ [0o001, 0o003, 0o012, 0o013, 0o014, 0o015, 0o021, 0o022, 0o023, 0o025], ∃ s : State, ∃ j,
      s.job 5 = some j ∧ j.st = .running ∧ j.opcode = op ∧ (s.jobStruck 5 j).isSome = true) := by
  refine ⟨by decide, ?_⟩
  intro op h
  simp only [List.mem_cons, List.not_mem_nil, or_false] at h
  rcases h with rfl | rfl | rfl | rfl | rfl | rfl | rfl | rfl | rfl | rfl
  all_goals exact ⟨allStruck (strikeJob _), strikeJob _, rfl, rfl, rfl, by decide⟩
/-! ### Witnesses: bignum programs, control flow and vectors -/

/-- A one-command program: the header and the command's first two words. -/
def bnProg (w0 w1 : Word) : List Word := [1, 0, 0, 0, w0, w1, 0, 0]
def progJob (w0 w1 : Word) (slots : Map BnSlot) : Job :=
  { jobOf 0o777 [] with unit := some (P.bn 0), cmd := some ⟨0, 2, 2 ^ 25, bnProg w0 w1, 0xFFFF, true, false⟩,
                        bn := { (jobOf 0o777 []).bn with slots := slots } }
def progS (j : Job) : State := unitS (P.bn 0) j
/-- Slot 0 with an algorithm and every usage. -/
def keyS (alg : Nat) (j : Job) : State := (progS j).setSlot 0 ⟨7, wd (alg * 2 ^ 14 + 0o37702), 0o200⟩
/-- An operand of `n` octets. -/
def inN (c n v : Nat) : HostIn := { cell := c, supplied := n, elems := [(0, n)], bad := false, octets := beOctets n v }
/-- 3 to the power 2^511 modulo 2^512 - 1: long enough to yield to a sum. -/
def anExp : Job := { jobOf 0o200 (descN 64 ++ descN 64 ++ descN 64 ++ descN 64) with
  unit := some (P.bn 0), inputs := [inN 1 64 (2 ^ 512 - 1), inN 2 64 3, inN 3 64 (2 ^ 511), inN 4 64 0] }
def longS : State :=
  ((progS anExp).setJob 6 { addJob 11 with st := .dispatched }).setRfld P.lode R.LODE_CFG 8 4 3
def yieldS : State := { longS with lode := { longS.lode with inQ := Map.put (dflt []) longS.lode.inQ (P.bn 0) [6] } }

theorem witness_BignumProgramsRunTheirCommandsInOrder :
    (∃ j c x, (progS j).runsCommand 0 5 5 j c x ∧ j.bn.refused x = none ∧ (j.bn.compute x).isSome = true) ∧
    (∃ j c x, (progS j).runsCommand 0 8 5 j c x ∧ j.bn.refused x = none ∧ j.bn.compute x = none) ∧
    (∃ j c x i, (progS j).runsCommand 0 5 5 j c x ∧ j.bn.refused x = some i) ∧
    (∃ j c x, (progS j).runsCommand 0 2 5 j c x ∧ x.c = 1 ∧ (j.bn.slot x.a).keyed = true) ∧
    (∃ j c x, (progS j).runsCommand 0 2 5 j c x ∧ x.c = 1 ∧ (j.bn.slot x.a).keyed = false) ∧
    (∃ j c x, (progS j).runsCommand 0 0 5 j c x ∧ x.c = 0 ∧
      (((progS j).drawRho (P.bn 0) 1).checkRanges c.who [(x.arg, x.n, .r)]).2 = false) ∧
    (∃ j c x, (progS j).runsCommand 0 0 5 j c x ∧ x.c = 0 ∧
      (((progS j).drawRho (P.bn 0) 1).checkRanges c.who [(x.arg, x.n, .r)]).2 = true ∧
      (((progS j).drawRho (P.bn 0) 1).checkRanges c.who [(x.arg, x.n, .r)]).1.rangesStruck c.who [(x.arg, x.n, .r)] = none) ∧
    (∃ j c x, (progS j).runsCommand 0 1 5 j c x ∧ (j.bn.slot x.a).keyed = false ∧
      (((progS j).drawRho (P.bn 0) 1).checkRanges c.who [(x.arg, x.n, .w)]).2 = true) ∧
    (∃ j c x, (progS j).runsCommand 0 1 5 j c x ∧ (j.bn.slot x.a).keyed = false ∧
      (((progS j).drawRho (P.bn 0) 1).checkRanges c.who [(x.arg, x.n, .w)]).2 = false) ∧
    (∃ j c x, (progS j).runsCommand 0 1 5 j c x ∧ (j.bn.slot x.a).keyed = true) := by
  simp only [State.runsCommand]
  refine ⟨⟨progJob 0o244104 0 [(0, ⟨[7], false, 0⟩), (1, ⟨[3], false, 0⟩)], _, _, ⟨rfl, rfl, rfl, rfl, by decide⟩, by decide, by decide⟩,
    ⟨progJob 0o404100 0 [(0, ⟨[9], false, 0⟩), (1, ⟨[3], false, 0⟩)], _, _, ⟨rfl, rfl, rfl, rfl, by decide⟩, by decide, by decide⟩,
    ⟨progJob 0o240004 0 [(0, ⟨[8], false, 0⟩)], _, _, 0, ⟨rfl, rfl, rfl, rfl, by decide⟩, by decide⟩,
    ⟨progJob 0o100000 0o002000 [(0, ⟨[8], true, 0⟩)], _, _, ⟨rfl, rfl, rfl, rfl, by decide⟩, by decide⟩,
    ⟨progJob 0o100000 0o002000 [(0, ⟨[8], false, 0⟩)], _, _, ⟨rfl, rfl, rfl, rfl, by decide⟩, by decide⟩,
    ⟨{ progJob 0 0 [] with cmd := some ⟨0, 2, 2 ^ 25, [1, 0, 0, 0, 0, 0, 0o600, 0o600], 0xFFFF, true, false⟩ }, _, _, ⟨rfl, rfl, rfl, rfl, by decide⟩, by decide⟩,
    ⟨progJob 0 0 [], _, _, ⟨rfl, rfl, rfl, rfl, by decide⟩, by decide⟩,
    ⟨progJob 0o040000 0 [], _, _, ⟨rfl, rfl, rfl, rfl, by decide⟩, by decide⟩,
    ⟨{ progJob 0 0 [] with cmd := some ⟨0, 2, 2 ^ 25, [1, 0, 0, 0, 0o040000, 0, 0o600, 0o600], 0xFFFF, true, false⟩ }, _, _,
      ⟨rfl, rfl, rfl, rfl, by decide⟩, by decide⟩,
    ⟨progJob 0o040000 0 [(0, ⟨[8], true, 0⟩)], _, _, ⟨rfl, rfl, rfl, rfl, by decide⟩, by decide⟩⟩

theorem witness_BignumProgramsRunTheirCommandsInOrder_slots :
    (∃ j c x, (keyS 8 j).runsCommand 0 0 5 j c x ∧ x.c ≠ 0 ∧ x.n ≠ 15) ∧
    (∃ j c x, (keyS 8 j).runsCommand 0 0 5 j c x ∧ x.c ≠ 0 ∧ x.n = 15 ∧
      ((keyS 8 j).drawRho (P.bn 0) 1).slotStruck (BitVec.ofNat 32 x.arg) = none ∧
      ((keyS 8 j).drawRho (P.bn 0) 1).slotCheck j (BitVec.ofNat 32 x.arg) U.sign = none ∧
      (((keyS 8 j).drawRho (P.bn 0) 1).slot (refSlot (BitVec.ofNat 32 x.arg))).alg = 8) ∧
    (∃ j c x, (keyS 3 j).runsCommand 0 0 5 j c x ∧ x.c ≠ 0 ∧ x.n = 15 ∧
      ((keyS 3 j).drawRho (P.bn 0) 1).slotCheck j (BitVec.ofNat 32 x.arg) U.sign = none ∧
      (((keyS 3 j).drawRho (P.bn 0) 1).slot (refSlot (BitVec.ofNat 32 x.arg))).alg ≠ 8) ∧
    (∃ j c x, (progS j).runsCommand 0 0 5 j c x ∧ x.c ≠ 0 ∧ x.n = 15 ∧
      (((progS j).drawRho (P.bn 0) 1).slotCheck j (BitVec.ofNat 32 x.arg) U.sign).isSome = true) := by
  simp only [State.runsCommand]
  exact ⟨⟨progJob 0 0o002000 [], _, _, ⟨rfl, rfl, rfl, rfl, by decide⟩, by decide⟩,
    ⟨progJob 0 0o002016 [], _, _, ⟨rfl, rfl, rfl, rfl, by decide⟩, by decide⟩,
    ⟨progJob 0 0o002016 [], _, _, ⟨rfl, rfl, rfl, rfl, by decide⟩, by decide⟩,
    ⟨progJob 0 0o002016 [], _, _, ⟨rfl, rfl, rfl, rfl, by decide⟩, by decide⟩⟩

/-- A program of one command, fetched, at the start of the SRAM. -/
def newProg : Job := { progJob 0 0 [] with st := .fetched, unit := none }
def enqS (w0 : Word) (s : State) : State := (has newProg s).setWords (2 ^ 25) (bnProg w0 0)
def fullQ (s : State) : State := { s with lode := { s.lode with inQ := Map.put (dflt []) s.lode.inQ (P.bn 0) [11, 12, 13, 14] } }
/-- A bignum job whose queue has been stopped. -/
def orphanExp : Job := { anExp with orphan := true }
theorem witness_BignumProgramsRunTheirCommandsInOrder_enqueued :
    ((enqS 0o240004 up).job 5 = some newProg ∧ newProg.st = .fetched ∧
      progForm ((enqS 0o240004 up).words (2 ^ 25) (4 + 4 * progCount ((enqS 0o240004 up).words (2 ^ 25) 1))) true = none ∧
      (enqS 0o240004 up).struckIn (2 ^ 25) 8 = none) ∧
    (progForm ((enqS 0o777777 up).words (2 ^ 25) (4 + 4 * progCount ((enqS 0o777777 up).words (2 ^ 25) 1))) true =
        some (S.invalidOperand, 0) ∧ (enqS 0o777777 up).hasUnit .bignum newProg.region = false) ∧
    ((enqS 0o777777 (ready (P.bn 0) up)).hasUnit .bignum newProg.region = true ∧
      (enqS 0o777777 (ready (P.bn 0) up)).pickUnit .bignum newProg.region = some (P.bn 0)) ∧
    ((fullQ (enqS 0o777777 (ready (P.bn 0) up))).hasUnit .bignum newProg.region = true ∧
      (fullQ (enqS 0o777777 (ready (P.bn 0) up))).pickUnit .bignum newProg.region = none) ∧
    ((progS orphanExp).job 5 = some orphanExp ∧ orphanExp.st = .running ∧ orphanExp.utype = .bignum) := by
  exact ⟨by decide, by decide, by decide, by decide, by decide⟩
theorem witness_BignumProgramsRunTheirCommandsInOrder_yield :
    yieldS.runsOn (P.bn 0) = some 5 ∧ yieldS.job 5 = some anExp ∧ yieldS.yieldTo (P.bn 0) anExp 79 = some 6 ∧
    (yieldS.job 6).isSome = true ∧ (yieldS.park 5 anExp 79).isSome = true ∧ yieldS.parkable 5 anExp = true ∧
    anExp.parks < yieldS.parkLimit ∧ anExp.utype = .bignum := by
  decide +kernel
theorem witness_KazoloWordOperationsComputeAsTabled :
    ∃ t i x, kS.runsIns t 0 [] 0o102000 .add i x := witness_KazoloInstructionsRun (.add, 0o102000) (by decide)

theorem witness_KazoloControlFlow :
    (∃ i x, kS.runsIns (kS.wakeUp 0) 0 [] 0o540000 .loop i x ∧ x.wr (bits i.w 10 6) = 0) ∧
    (∃ i x, (kS.modCore 0 (fun y => y.setW 1 5)).runsIns ((kS.modCore 0 (fun y => y.setW 1 5)).wakeUp 0) 0 [] 0o540100 .loop i x ∧
      x.wr (bits i.w 10 6) ≠ 0) :=
  ⟨⟨_, _, ⟨by decide, rfl, rfl, rfl⟩, by decide⟩, ⟨_, _, ⟨by decide, rfl, rfl, rfl⟩, by decide⟩⟩

theorem witness_KazoloVectorInstructionsActOnEveryLane :
    (∃ i x, kS.runsIns (kS.wakeUp 0) 0 [] 0o670000 .vext i x ∧ vdl x.mode = false) ∧
    (∃ s : State, ∃ i x, s.runsIns (s.wakeUp 0) 0 [] 0o670000 .vext i x ∧ vdl x.mode = true) :=
  ⟨⟨_, _, ⟨by decide, rfl, rfl, rfl⟩, by decide⟩,
    ⟨kS.modCore 0 (fun y => { y with mstat := 1 }), _, _, ⟨by decide, rfl, rfl, rfl⟩, by decide⟩⟩

/-! ### Witnesses: numbers -/

theorem witness_ModularResultsAreTheArithmetic :
    2 ≤ 7 ∧ 7 % 2 = 1 ∧ 3 < 7 ∧ invMod 3 7 = some 5 ∧ invMod 3 9 = none ∧ powMod 3 5 7 = 5 ∧ subMod 3 5 7 = 5 := by
  decide +kernel

theorem witness_PackedStringsKeepTheirOctets :
    unpackWords [0o401401, 0o401000] = some [1, 1, 1] ∧ unpackWords [0o001401] = none ∧ unpackWords [0o401000, 0o401401] = none := by
  decide

/-! ### Words, octets and standard algorithms -/

/-- The opcode table gives no row bits (log entry 1). -/
theorem test_no_word_spells_a_command : decodeTableWord 18 0 = none ∧ decodeTableWord 72 0o344201 = none := ⟨rfl, rfl⟩

/-- The words of the spec's example of a pointwise product (08_kazolo_core.md, Example), each as the operation it stands
for there. -/
theorem test_kazolo_words_of_the_example :
    opOf 0o344201 = some .movid ∧ opOf 0o574102 = some .movsTo ∧ opOf 0o263400 = some .pandn ∧ opOf 0o552014 = some .loopi ∧
    opOf 0o660034 = some .vld ∧ opOf 0o660435 = some .vld ∧ opOf 0o661076 = some .vst ∧ opOf 0o262400 = some .por ∧
    opOf 0o621001 = some .vmul := by decide

/-- The same example: 3,329 is spelled by the immediate syllable 0o064 and IMM6 1; LOOPI's offset is 12; VST bears PRED p1
and AMODE +16. -/
theorem test_kazolo_prefixes_of_the_example :
    (parsePre 0 Pre.none [0o760, 0o064]).map (fun p => (⟨0, 0, 0o344201, p⟩ : Ins).imm6 36) = some 3329 ∧
    (⟨0, 0, 0o552014, Pre.none⟩ : Ins).loopEnd = 12 ∧
    (parsePre 0 Pre.none [0o701, 0o720]).map (fun p => (p.pred, p.amode)) = some (some 0o701, some 0o720) := by decide

/-- FIPS 197, appendix C.1 (log entry 8). -/
theorem test_aes128 : aesEnc (beOctets 16 0x000102030405060708090a0b0c0d0e0f) (beOctets 16 0x00112233445566778899aabbccddeeff) =
    beOctets 16 0x69c4e0d86a7b0430d8cdb78070b4c55a := by decide +kernel

/-- FIPS 180-4's and FIPS 202's own vectors for "abc" (log entry 8). -/
theorem test_sha2_and_sha3 :
    sha256 [0x61, 0x62, 0x63] = beOctets 32 0xba7816bf8f01cfea414140de5dae2223b00361a396177a9cb410ff61f20015ad ∧
    sha3_256 [0x61, 0x62, 0x63] = beOctets 32 0x3a985da74fe225b2045c172d6bd390bd855f086e3e9d525b46bfe24511431532 := by
  decide +kernel

/-- The check values of CRC-32 (IEEE 802.3) and CRC_A (ISO/IEC 14443-3, annex B) (log entry 48). -/
theorem test_check_sequences :
    crc32 [0x31, 0x32, 0x33, 0x34, 0x35, 0x36, 0x37, 0x38, 0x39] = 0xCBF43926 ∧ crcA [0x00, 0x00] = [0xA0, 0x1E] := by
  decide +kernel

/-- Power-on reset is left by POR_RELEASE (Table 18-3, R492). -/
theorem test_power_on : (match step { State.reset with pending := [.porRelease false] } with
    | .next t => !t.inReset && t.pending.isEmpty | _ => false) = true := by decide +kernel

/-- A write of EN to a page of a block that is out of reset starts its function (R42). -/
theorem test_enable_starts : (match step { up with pending := [.enWrite1 .host (P.ciph 0)] } with
    | .next t => t.en (P.ciph 0) && t.pending.isEmpty | _ => false) = true := by decide +kernel

end Sys2Proof.Tests
end

section
/-! PROOFS. The forms of numbers and octet strings (chapter 0): limbs (R10), big-endian octets (R218), packed words
(R6, R7). -/
namespace Sys2Proof.Machine

/-! ### Limbs -/

theorem natLimbs_length (n v : Nat) : (natLimbs n v).length = n := by
  induction n generalizing v with
  | zero => rfl
  | succ n ih => rw [natLimbs, List.length_cons, ih]

@[simp] theorem limbsNat_zero (l : List Word) : limbsNat l 0 = 0 := rfl

@[simp] theorem limbsNat_cons (w : Word) (l : List Word) (n : Nat) :
    limbsNat (w :: l) (n + 1) = w.toNat + 2 ^ 18 * limbsNat l n := rfl

/-- The limbs of a number hold it below the radix: what is cut off is what `n` limbs have no room for. -/
theorem limbsNat_natLimbs (n v : Nat) : limbsNat (natLimbs n v) n = v % 2 ^ (18 * n) := by
  induction n generalizing v with
  | zero => simp [Nat.mod_one]
  | succ n ih =>
    have hpow : 2 ^ (18 * (n + 1)) = 2 ^ 18 * 2 ^ (18 * n) := by rw [Nat.mul_succ, Nat.add_comm, Nat.pow_add]
    rw [natLimbs, limbsNat_cons, ih, hpow, Nat.mod_mul, wd, BitVec.toNat_ofNat]

/-- A list of words is the list of limbs of the number in them. -/
theorem natLimbs_limbsNat (l : List Word) : natLimbs l.length (limbsNat l l.length) = l := by
  induction l with
  | nil => rfl
  | cons w l ih =>
    have hw := w.isLt
    have hrest : (w.toNat + 2 ^ 18 * limbsNat l l.length) / 2 ^ 18 = limbsNat l l.length := by omega
    have hhead : wd (w.toNat + 2 ^ 18 * limbsNat l l.length) = w := by
      apply BitVec.eq_of_toNat_eq
      rw [wd, BitVec.toNat_ofNat]
      omega
    rw [List.length_cons, limbsNat_cons, natLimbs, hrest, hhead, ih]

/-! ### Big-endian octets -/

/-- The last of the octets of a number is its least significant one. -/
theorem beOctets_succ_snoc (n v : Nat) : beOctets (n + 1) v = beOctets n (v / 256) ++ [BitVec.ofNat 8 v] := by
  induction n with
  | zero => simp [beOctets]
  | succ n ih =>
    rw [beOctets, ih, beOctets, List.cons_append, Nat.div_div_eq_div_mul, Nat.pow_succ']

theorem beNat_snoc (l : List Octet) (o : Octet) : beNat (l ++ [o]) = beNat l * 256 + o.toNat := by
  simp [beNat]

/-- A string is the octets of the number it stands for. -/
theorem beOctets_beNat (l : List Octet) : beOctets l.length (beNat l) = l := by
  induction l using List.reverseRecOn with
  | nil => rfl
  | append_singleton l o ih =>
    have ho := o.isLt
    have hfront : (beNat l * 256 + o.toNat) / 256 = beNat l := by omega
    have hlast : BitVec.ofNat 8 (beNat l * 256 + o.toNat) = o := by
      apply BitVec.eq_of_toNat_eq
      rw [BitVec.toNat_ofNat]
      omega
    rw [beNat_snoc, List.length_append, List.length_singleton, beOctets_succ_snoc, hfront, hlast, ih]

/-- Settles O35: each form is an inverse of the other, by induction on the limbs and on the octets. -/
theorem numbersKeepTheirLimbs : Obligations.NumbersKeepTheirLimbs :=
  ⟨fun n v => ⟨natLimbs_length n v, limbsNat_natLimbs n v⟩, natLimbs_limbsNat,
    fun n v => ⟨beOctets_length n v, beNat_beOctets n v⟩, beOctets_beNat⟩

/-! ### The fields of a packed word (R6) -/

theorem tb_wd (n i : Nat) (h : i < 18) : tb (wd n) i = decide (n / 2 ^ i % 2 = 1) := by
  rw [tb, wd, BitVec.getLsbD_ofNat, decide_eq_true h, Bool.true_and, Nat.testBit_eq_decide_div_mod_eq]

theorem bits_wd (n hi lo : Nat) : bits (wd n) hi lo = n % 2 ^ 18 / 2 ^ lo % 2 ^ (hi + 1 - lo) := by
  rw [bits, wd, BitVec.toNat_ofNat, Nat.shiftRight_eq_div_pow]

theorem tb_and (w m : Word) (i : Nat) : tb (w &&& m) i = (tb w i && tb m i) := BitVec.getLsbD_and

theorem bits_and (w m : Word) (hi lo : Nat) : bits (w &&& m) hi lo = bits w hi lo &&& bits m hi lo := by
  rw [bits, bits, bits, BitVec.toNat_and, Nat.shiftRight_and_distrib, Nat.and_mod_two_pow]

/-- The packed word of two octets. -/
def pairWord (a b : Octet) : Word := wd (2 ^ 17 + a.toNat * 512 + 256 + b.toNat)

/-- The packed word of one octet, the last of an odd string. -/
def oddWord (a : Octet) : Word := wd (2 ^ 17 + a.toNat * 512)

theorem pairWord_fields (a b : Octet) :
    tb (pairWord a b) 17 = true ∧ tb (pairWord a b) 8 = true ∧ bits (pairWord a b) 16 9 = a.toNat ∧
      bits (pairWord a b) 7 0 = b.toNat := by
  have ha := a.isLt
  have hb := b.isLt
  rw [pairWord, tb_wd _ _ (by decide), tb_wd _ _ (by decide), bits_wd, bits_wd, decide_eq_true_eq, decide_eq_true_eq]
  omega

theorem oddWord_fields (a : Octet) :
    tb (oddWord a) 17 = true ∧ tb (oddWord a) 8 = false ∧ bits (oddWord a) 16 9 = a.toNat ∧ bits (oddWord a) 7 0 = 0 := by
  have ha := a.isLt
  rw [oddWord, tb_wd _ _ (by decide), tb_wd _ _ (by decide), bits_wd, bits_wd, decide_eq_true_eq, decide_eq_false_iff_not]
  omega

/-! ### Packing -/

@[simp] theorem packWords_nil : packWords [] = [] := rfl

@[simp] theorem packWords_singleton (a : Octet) : packWords [a] = [oddWord a] := rfl

@[simp] theorem packWords_cons_cons (a b : Octet) (r : List Octet) :
    packWords (a :: b :: r) = pairWord a b :: packWords r := rfl

theorem packWords_length (l : List Octet) : (packWords l).length = (l.length + 1) / 2 := by
  induction l using packWords.induct with
  | case1 => simp
  | case2 a => simp
  | case3 a b r ih =>
    simp only [packWords_cons_cons, List.length_cons, ih]
    omega

theorem unpackWords_packWords (l : List Octet) : unpackWords (packWords l) = some l := by
  induction l using packWords.induct with
  | case1 => rfl
  | case2 a =>
    obtain ⟨hvalid, hodd, hhi, -⟩ := oddWord_fields a
    simp [unpackWords, hvalid, hodd, hhi]
  | case3 a b r ih =>
    obtain ⟨hvalid, hpair, hhi, hlo⟩ := pairWord_fields a b
    simp [unpackWords, hvalid, hpair, hhi, hlo, ih]

/-- The marks of the words of a packed string: bit 17 in each, bit 8 in each but the last of an odd string. -/
theorem packWords_marks (l : List Octet) (i : Nat) (w : Word) (h : (packWords l)[i]? = some w) :
    tb w 17 = true ∧ (i + 1 < (packWords l).length → tb w 8 = true) ∧
      (i + 1 = (packWords l).length → tb w 8 = decide (l.length % 2 = 0)) ∧ (tb w 8 = false → bits w 7 0 = 0) := by
  induction l using packWords.induct generalizing i with
  | case1 => simp at h
  | case2 a =>
    obtain ⟨hvalid, hodd, -, hlo⟩ := oddWord_fields a
    obtain ⟨rfl, rfl⟩ : i = 0 ∧ oddWord a = w := by simpa [List.getElem?_singleton] using h
    exact ⟨hvalid, by simp, by simp [hodd], fun _ => hlo⟩
  | case3 a b r ih =>
    cases i with
    | zero =>
      obtain ⟨hvalid, hpair, -, -⟩ := pairWord_fields a b
      obtain rfl : pairWord a b = w := by simpa using h
      refine ⟨hvalid, fun _ => hpair, fun hlast => ?_, by simp [hpair]⟩
      have hr : (r.length + 1) / 2 = 0 := by simpa [packWords_length] using hlast
      rw [hpair, eq_comm, decide_eq_true_eq, List.length_cons, List.length_cons]
      omega
    | succ i =>
      have hparity : (a :: b :: r).length % 2 = r.length % 2 := Nat.add_mod_right r.length 2
      rw [hparity]
      simpa using ih i (by simpa using h)

/-! ### Unpacking -/

/-- What unpacks: a full word before a string that unpacks, or a half word alone. -/
theorem unpackWords_cons_eq_some {w : Word} {r : List Word} {o : List Octet} (h : unpackWords (w :: r) = some o) :
    tb w 17 = true ∧
      ((tb w 8 = true ∧ ∃ p, unpackWords r = some p ∧ o = BitVec.ofNat 8 (bits w 16 9) :: BitVec.ofNat 8 (bits w 7 0) :: p) ∨
        (r = [] ∧ o = [BitVec.ofNat 8 (bits w 16 9)])) := by
  rw [unpackWords] at h
  split at h
  case isFalse => cases h
  case isTrue hvalid =>
    refine ⟨hvalid, ?_⟩
    split at h
    case isTrue hfull =>
      obtain ⟨p, hp, rfl⟩ := Option.map_eq_some_iff.mp h
      exact .inl ⟨hfull, p, hp, rfl⟩
    case isFalse =>
      split at h
      case isTrue hr => exact .inr ⟨List.isEmpty_iff.mp hr, (Option.some.inj h).symm⟩
      case isFalse => cases h

/-- A string that unpacks has bit 17 in each word and bit 8 in each but the last. -/
theorem marks_of_unpackWords {l : List Word} {o : List Octet} (h : unpackWords l = some o) (i : Nat) (w : Word)
    (hw : l[i]? = some w) : tb w 17 = true ∧ (i + 1 < l.length → tb w 8 = true) := by
  induction l generalizing o i with
  | nil => simp at hw
  | cons x r ih =>
    obtain ⟨hvalid, hform⟩ := unpackWords_cons_eq_some h
    cases i with
    | zero =>
      obtain rfl : x = w := by simpa using hw
      obtain ⟨hfull, -⟩ | ⟨rfl, -⟩ := hform
      · exact ⟨hvalid, fun _ => hfull⟩
      · exact ⟨hvalid, by simp⟩
    | succ i =>
      obtain ⟨-, p, hp, -⟩ | ⟨rfl, -⟩ := hform
      · simpa using ih hp i (by simpa using hw)
      · simp at hw

theorem length_of_unpackWords {l : List Word} {o : List Octet} (h : unpackWords l = some o) :
    (o.length + 1) / 2 = l.length := by
  induction l generalizing o with
  | nil =>
    obtain rfl : [] = o := by simpa [unpackWords] using h
    rfl
  | cons w r ih =>
    obtain ⟨-, ⟨-, p, hp, rfl⟩ | ⟨rfl, rfl⟩⟩ := unpackWords_cons_eq_some h
    · have hlen := ih hp
      simp only [List.length_cons]
      omega
    · simp

/-- A word that may not stand where it does makes the whole string malformed (R8). -/
theorem unpackWords_eq_none {l : List Word} {i : Nat} {w : Word} (hw : l[i]? = some w)
    (hbad : tb w 17 = false ∨ (tb w 8 = false ∧ i + 1 < l.length)) : unpackWords l = none := by
  rw [Option.eq_none_iff_forall_ne_some]
  intro o h
  obtain ⟨hvalid, hfull⟩ := marks_of_unpackWords h i w hw
  obtain hv | ⟨hf, hi⟩ := hbad
  · simp [hv] at hvalid
  · simp [hf] at hfull
    omega

/-- Of the last word only what it unpacks to by itself counts. -/
theorem unpackWords_snoc_congr (l : List Word) {w x : Word} (h : unpackWords [w] = unpackWords [x]) :
    unpackWords (l ++ [w]) = unpackWords (l ++ [x]) := by
  induction l with
  | nil => exact h
  | cons y l ih => simp [unpackWords, ih]

/-- A last word with bit 8 clear gives its first octet, or makes the string malformed; its bits 7:0 do not count. -/
theorem unpackWords_odd {w : Word} (h : tb w 8 = false) :
    unpackWords [w] = if tb w 17 then some [BitVec.ofNat 8 (bits w 16 9)] else none := by
  simp [unpackWords, h]

/-- The mask of bits 17:8 leaves the marks and the first octet of a word as they are. -/
theorem fields_and_mask (w : Word) :
    tb (w &&& 0o777400) 17 = tb w 17 ∧ tb (w &&& 0o777400) 8 = tb w 8 ∧
      bits (w &&& 0o777400) 16 9 = bits w 16 9 := by
  have hmask : tb (0o777400 : Word) 17 = true ∧ tb (0o777400 : Word) 8 = true ∧ bits (0o777400 : Word) 16 9 = 2 ^ 8 - 1 := by
    decide
  obtain ⟨h17, h8, h16⟩ := hmask
  refine ⟨by rw [tb_and, h17, Bool.and_true], by rw [tb_and, h8, Bool.and_true], ?_⟩
  rw [bits_and, h16, Nat.and_two_pow_sub_one_eq_mod, bits, Nat.mod_mod]

/-- Settles O36: packing and unpacking by induction on the string; a malformed string by what a string that unpacks is. -/
theorem packedStringsKeepTheirOctets : Obligations.PackedStringsKeepTheirOctets := by
  refine ⟨fun l => ⟨packWords_length l, unpackWords_packWords l, packWords_marks l⟩,
    fun l o h => ⟨marks_of_unpackWords h, length_of_unpackWords h⟩,
    fun l i w hw hbad => unpackWords_eq_none hw hbad, fun l w hodd => unpackWords_snoc_congr l ?_⟩
  obtain ⟨h17, h8, h16⟩ := fields_and_mask w
  rw [unpackWords_odd hodd, unpackWords_odd (h8.trans hodd), h17, h16]

end Sys2Proof.Machine
end

section
/-! PROOFS. The register bus (R11 to R13, R35 to R38, R46): what each form of a read or write of a register does. -/
namespace Sys2Proof.Machine

/-! ### Writes past the gate -/

/-- A write of another word than PG_LOCK leaves the page's lock alone (R46). -/
theorem State.lockNow_of_ne (s : State) {x : Posted} (h : x.word ≠ R.PG_LOCK) : s.lockNow x = s := by
  simp [State.lockNow, h]

/-- A write that finds no writer stalled is posted where its page has room, and else is the first to stall (R36, R37). -/
theorem State.enqueueWrite_of_noStall {s : State} (x : Posted) (h : s.bus.stalled = []) :
    s.enqueueWrite x =
      if (s.bus.posted.filter (fun y => y.page == x.page)).length < 16 then
        { s with bus := { s.bus with posted := s.bus.posted ++ [x] } }
      else { s with bus := { s.bus with stalled := [x] } } := by
  simp [State.enqueueWrite, h]

/-- An accepted write, with no writer stalled: at once, or as a posted write (R35 to R37, R315). -/
theorem State.acceptWrite_of_noStall {s : State} {x : Posted} (hx : x.word ≠ R.PG_LOCK) (h : s.bus.stalled = []) :
    s.acceptWrite x =
      if x.ownIntEn = true ∨ (reqDomain x.req = pageDomain x.page ∧
          s.bus.posted.any (fun y => pageDomain y.page == pageDomain x.page) = false) then s.applyWrite x
      else if (s.bus.posted.filter (fun y => y.page == x.page)).length < 16 then
        { s with bus := { s.bus with posted := s.bus.posted ++ [x] } }
      else { s with bus := { s.bus with stalled := [x] } } := by
  have hnone : s.bus.stalled.any (fun y => y.req == x.req) = false := by rw [h]; rfl
  simp only [State.acceptWrite, s.lockNow_of_ne hx, hnone, and_true, State.enqueueWrite_of_noStall x h]

/-- A lower half is held for its requester (R13). -/
theorem State.writeReg_lower {s : State} {p w : Nat} (req : Requester) (v : Word) (hd : s.deaf p = false)
    (h : halfOf p w = .lower) : s.writeReg req p w v = s.holdHalf req (p * 1024 + w) v := by
  simp [State.writeReg, State.formWrite, hd, h]

/-- An upper half commits both, where the requester has written the lower one (R13). -/
theorem State.writeReg_upper {s : State} {p w : Nat} {req : Requester} {lo : Word} (v : Word) (hd : s.deaf p = false)
    (h : halfOf p w = .upper) (hheld : s.heldHalf req (p * 1024 + w - 1) = some lo) :
    s.writeReg req p w v = (s.dropHalf req (p * 1024 + w - 1)).acceptWrite
      ⟨req, p, w - 1, dword lo v, true, !s.lockedPage p⟩ := by
  simp [State.writeReg, State.formWrite, hd, h, hheld]

/-! ### REG_WRITE (R11, R12) -/

section
variable {page word : Nat} {s : State}

/-- A write of one word that its gate allows. -/
theorem execRegWrite_single (req : Requester) (val : BitVec 36) (hp : page < 4096) (hd : s.deaf page = false)
    (ha : s.checkAccess (s.whoOf req) (pageAddr page word) 1 .w = .allowed) :
    execRegWrite req page word .single val s = .next (s.writeReg req page word (val.setWidth 18)) := by
  simp [execRegWrite, hp.not_ge, hd, ha]

/-- An aligned 8-octet write that its gate allows: both halves in one step. -/
theorem execRegWrite_double (req : Requester) (val : BitVec 36) (hp : page < 4096) (hd : s.deaf page = false)
    (ha : s.checkAccess (s.whoOf req) (pageAddr page word) 1 .w = .allowed) (h8 : aligned8 page word = true) :
    execRegWrite req page word .double val s = .next (s.acceptWrite ⟨req, page, word, val, true, !s.lockedPage page⟩) := by
  simp [execRegWrite, State.writeReg2, hp.not_ge, hd, ha, h8]

/-- A narrow write, or an 8-octet write of anything but one 36-bit register, is dropped with the WIDTH error, whatever the
gate would say. -/
theorem execRegWrite_misfit {width : Width} (req : Requester) (val : BitVec 36) (hp : page < 4096) (hd : s.deaf page = false)
    (hw : width = .narrow ∨ (width = .double ∧ aligned8 page word = false)) :
    execRegWrite req page word width val s = .next (s.pgErr page ERR.width req word) := by
  simp [execRegWrite, hp.not_ge, hd, hw]

/-- A host write beyond BAR0 is one of the MSI-X table in BAR2 (R49). -/
theorem execRegWrite_bar2 (val : BitVec 36) (hp : 4096 ≤ page) (hr : s.inReset = false) :
    execRegWrite .host page word .single val s = .next (s.wMsix ((page - 4096) * 1024 + word) (val.setWidth 32)) := by
  simp [execRegWrite, hp, hr]

/-! ### The REG36 rows (R12, R13) -/

/-- A word read of a slot is the gated read of it. -/
theorem State.access_word (req : Requester) : s.access req page word .word = State.answered (s.gatedRead req page word) := rfl

/-- A narrower read answers the addressed octets of the gated read. -/
theorem State.access_octets (req : Requester) (i n : Nat) : s.access req page word (.octets i n) =
    (s.gatedRead req page word).1.answer (octetsOf (s.gatedRead req page word).2 i n) := rfl

/-- An aligned 8-octet read that its gate allows answers both halves. -/
theorem State.access_both_aligned (req : Requester) (h8 : aligned8 page word = true)
    (ha : s.checkAccess (s.whoOf req) (pageAddr page word) 1 .r = .allowed) :
    s.access req page word .both = { s with bus := { s.bus with rdata := (s.peek36 page word).setWidth 72 } } := by
  simp [State.access, State.gatedBoth, h8, ha]

/-- Any other 8-octet read answers a free value (log entry 92). -/
theorem State.access_both_misaligned (req : Requester) (h8 : aligned8 page word = false) :
    ∃ v, s.access req page word .both = ({ s with fresh := s.fresh + 1 } : State).answer v :=
  ⟨Config.freeWord s.fresh, by simp [State.access, h8]⟩

theorem aligned8_of_lower (h : halfOf page word = .lower) : aligned8 page word = decide (word % 2 = 0) := by
  simp [aligned8, h]

theorem aligned8_of_upper (h : halfOf page word = .upper) : aligned8 page word = false := by
  simp [aligned8, h]

theorem execReg36LowerWrite_eq (req : Requester) (val : Word) (hp : page < 4096) (hd : s.deaf page = false)
    (ha : s.checkAccess (s.whoOf req) (pageAddr page word) 1 .w = .allowed) (h : halfOf page word = .lower) :
    execReg36LowerWrite req page word val s = .next (s.writeReg req page word val) := by
  simp [execReg36LowerWrite, when, h, execRegWrite_single req _ hp hd ha, State.after]

theorem execReg36UpperWrite_eq (req : Requester) (val : Word) (hp : page < 4096) (hd : s.deaf page = false)
    (ha : s.checkAccess (s.whoOf req) (pageAddr page word) 1 .w = .allowed) (h : halfOf page word = .upper) :
    execReg36UpperWrite req page word val s = .next (s.writeReg req page word val) := by
  simp [execReg36UpperWrite, when, h, execRegWrite_single req _ hp hd ha, State.after]

end

/-! ### POSTED_WRITE_SETTLE (R35 to R37) -/

/-- The oldest posted write of the page's domain leaves the bus, crosses, and the stalled writes take the room. -/
theorem execPostedWriteSettle_eq {s : State} {page : Nat} {x : Posted} (h : s.nextPosted (pageDomain page) = some x)
    (hx : x.page = page) : execPostedWriteSettle page s =
      .next (({ s with bus := { s.bus with posted := s.bus.posted.erase x } } : State).crossed x).retryStalled := by
  simp [execPostedWriteSettle, h, hx, when]

/-- A write to a page with no link on its way takes effect in the state as it is. -/
theorem State.crossed_near {s : State} {x : Posted} (h : linkTo (pageDomain x.page) = none) :
    s.crossed x = s.applyWrite x := by
  simp [State.crossed, h]

/-- A write to a page of a far die advances its link first (R28). -/
theorem State.crossed_far {s : State} {x : Posted} {f : Bool} (h : linkTo (pageDomain x.page) = some f) :
    s.crossed x = (s.putLink f (s.link f).toFar).applyWrite x := by
  simp [State.crossed, h]

/-! ### The bus rows -/

theorem exec_regWrite_forms (req : Requester) (page word : Nat) (val : BitVec 36) (s : State) (hp : page < 4096)
    (hd : s.deaf page = false) :
    (s.checkAccess (s.whoOf req) (pageAddr page word) 1 .w = .allowed →
      exec (.regWrite req page word .single val) s = .next (s.writeReg req page word (val.setWidth 18)) ∧
      (aligned8 page word = true → exec (.regWrite req page word .double val) s =
        .next (s.acceptWrite ⟨req, page, word, val, true, !s.lockedPage page⟩))) ∧
    (aligned8 page word = false → exec (.regWrite req page word .double val) s = .next (s.pgErr page ERR.width req word)) ∧
    exec (.regWrite req page word .narrow val) s = .next (s.pgErr page ERR.width req word) :=
  ⟨fun ha => ⟨execRegWrite_single req val hp hd ha, execRegWrite_double req val hp hd ha⟩,
    fun h8 => execRegWrite_misfit req val hp hd (.inr ⟨rfl, h8⟩), execRegWrite_misfit req val hp hd (.inl rfl)⟩

theorem exec_reg36LowerRead {page word : Nat} (req : Requester) (acc : Access) (s : State) (h : halfOf page word = .lower) :
    exec (.reg36LowerRead req page word acc) s = .next (s.access req page word acc) :=
  calc exec (.reg36LowerRead req page word acc) s = execReg36LowerRead req page word acc s := rfl
    _ = _ := by simp [execReg36LowerRead, when, h]

theorem exec_reg36UpperRead {page word : Nat} (req : Requester) (acc : Access) (s : State) (h : halfOf page word = .upper) :
    exec (.reg36UpperRead req page word acc) s = .next (s.access req page word acc) :=
  calc exec (.reg36UpperRead req page word acc) s = execReg36UpperRead req page word acc s := rfl
    _ = _ := by simp [execReg36UpperRead, when, h]

theorem exec_reg36LowerWrite {page word : Nat} (req : Requester) (val : Word) {s : State} (hp : page < 4096)
    (hd : s.deaf page = false) (ha : s.checkAccess (s.whoOf req) (pageAddr page word) 1 .w = .allowed)
    (h : halfOf page word = .lower) :
    exec (.reg36LowerWrite req page word val) s = .next (s.holdHalf req (page * 1024 + word) val) :=
  calc exec (.reg36LowerWrite req page word val) s
      = .next (s.writeReg req page word val) := execReg36LowerWrite_eq req val hp hd ha h
    _ = .next (s.holdHalf req (page * 1024 + word) val) := by rw [State.writeReg_lower req val hd h]

theorem exec_reg36UpperWrite {page word : Nat} {req : Requester} {lo : Word} (val : Word) {s : State} (hp : page < 4096)
    (hd : s.deaf page = false) (ha : s.checkAccess (s.whoOf req) (pageAddr page word) 1 .w = .allowed)
    (h : halfOf page word = .upper) (hheld : s.heldHalf req (page * 1024 + word - 1) = some lo) :
    exec (.reg36UpperWrite req page word val) s = .next ((s.dropHalf req (page * 1024 + word - 1)).acceptWrite
      ⟨req, page, word - 1, dword lo val, true, !s.lockedPage page⟩) :=
  calc exec (.reg36UpperWrite req page word val) s
      = .next (s.writeReg req page word val) := execReg36UpperWrite_eq req val hp hd ha h
    _ = _ := by rw [State.writeReg_upper val hd h hheld]

theorem exec_pgLockWrite {page : Nat} (req : Requester) {s : State} (hd : s.deaf page = false) :
    exec (.pgLockWrite req page) s = .next (s.acceptWrite ⟨req, page, R.PG_LOCK, 1, false, true⟩) :=
  calc exec (.pgLockWrite req page) s = execPgLockWrite req page s := rfl
    _ = _ := by simp [execPgLockWrite, hd]

/-- Settles O9, clause by clause from the lemma about each form of access. -/
theorem registerAccessesAreGatedAndPosted : Obligations.RegisterAccessesAreGatedAndPosted := by
  refine ⟨exec_regWrite_forms, fun s x => State.acceptWrite_of_noStall, fun req page word s => ⟨fun hl => ?_, fun hu => ?_⟩,
    fun req page word val s hp hd ha => ⟨exec_reg36LowerWrite req val hp hd ha,
      fun lo => exec_reg36UpperWrite val hp hd ha⟩, fun page x s hx hpage => ?_,
    fun req page s => exec_pgLockWrite req, fun page word val s => execRegWrite_bar2 val⟩
  · have hread := fun acc => exec_reg36LowerRead req acc s hl
    refine ⟨hread .word, fun i n => hread (.octets i n), fun heven ha => ?_, fun hodd => ?_⟩
    · rw [hread, State.access_both_aligned req (by simp [aligned8_of_lower hl, heven]) ha]
    · have h8 : aligned8 page word = false := by simp [aligned8_of_lower hl, hodd]
      obtain ⟨v, hv⟩ := State.access_both_misaligned (s := s) req h8
      exact ⟨v, by rw [hread, hv]⟩
  · have hread := fun acc => exec_reg36UpperRead req acc s hu
    obtain ⟨v, hv⟩ := State.access_both_misaligned (s := s) req (aligned8_of_upper hu)
    exact ⟨hread .word, fun i n => hread (.octets i n), v, by rw [hread, hv]⟩
  · subst hpage
    exact ⟨_, _, rfl, State.crossed_near, fun f => State.crossed_far, execPostedWriteSettle_eq hx rfl⟩

end Sys2Proof.Machine
end

section
/-! PROOFS. What registers, words and host octets read after a write (R13, R53), the first-error latch (R45) and the
events of a page (R47). -/
namespace Sys2Proof.Machine

/-! ### Memory (R13, R53) -/

/-- A key in a written run reads the run's value there, every other key as before. -/
theorem Map.get_putList {α : Type} [DecidableEq α] {d : Nat → α} (l : List α) (m : Map α) (k k' : Nat) :
    Map.get d (Map.putList d m k l) k' = if k ≤ k' then l.getD (k' - k) (Map.get d m k') else Map.get d m k' := by
  by_cases hk : k ≤ k'
  · rw [if_pos hk]
    by_cases hin : k' - k < l.length
    · rw [show k' = k + (k' - k) by omega, Map.get_putList_in l m k _ hin, Nat.add_sub_cancel_left,
        List.getD_eq_getElem _ _ hin]
    · rw [Map.get_putList_off l m k k' (by omega), List.getD_eq_default _ _ (by omega)]
  · rw [if_neg hk, Map.get_putList_off l m k k' (by omega)]

/-- Settles O8: each clause is the read-after-write law of its table. -/
theorem memoryReadsBackWhatWasWritten : Obligations.MemoryReadsBackWhatWasWritten := by
  refine ⟨fun s p w q x v => State.reg_setReg s p w q x v, State.reg36_setReg36,
    fun s a b l => Map.get_putList l s.mem a b, fun s a n b => ?_, fun s a b l => Map.get_putList l s.host a b⟩
  have hin : (b < a ∨ a + n ≤ b) ↔ ¬ (a ≤ b ∧ b < a + n) := by omega
  simp only [State.word_clearWords, hin, ite_not]

/-! ### Register errors (R45) -/

section
variable (s : State) (p bit off : Nat) (req : Requester) (detail : Word)

/-- The first error of a page latches its detail. -/
theorem State.pgErr_first (h : s.reg p R.PG_ERR = 0) : s.pgErr p bit req off detail =
    ((s.setReg p R.PG_ERR (sb 0 bit true)).setReg p R.PG_ERR_INFO_LO (wd (reqCode req * 1024 + off % 1024))).setReg
      p R.PG_ERR_INFO_HI detail := if_pos h

/-- A later error sets its bit and OVERRUN. -/
theorem State.pgErr_later (h : s.reg p R.PG_ERR ≠ 0) :
    s.pgErr p bit req off detail = (s.setRbit p R.PG_ERR bit true).setRbit p R.PG_ERR 13 true := if_neg h

/-- An error changes the three error registers of its page alone. -/
theorem State.reg_pgErr_off (q x : Nat) (h : ¬ (q * 1024 + x = p * 1024 + R.PG_ERR ∨
    q * 1024 + x = p * 1024 + R.PG_ERR_INFO_LO ∨ q * 1024 + x = p * 1024 + R.PG_ERR_INFO_HI)) :
    (s.pgErr p bit req off detail).reg q x = s.reg q x := by
  obtain ⟨he, hlo, hhi⟩ : _ ∧ _ ∧ _ := by simpa only [not_or] using h
  by_cases h0 : s.reg p R.PG_ERR = 0
  · simp [s.pgErr_first p bit off req detail h0, he, hlo, hhi]
  · simp [s.pgErr_later p bit off req detail h0, he]

end

/-- Settles O10, by the two cases of PG_ERR and the frame of an error. -/
theorem theFirstErrorOfAPageIsLatched : Obligations.TheFirstErrorOfAPageIsLatched := by
  intro s p bit req off detail
  refine ⟨fun h0 => ?_, fun h1 => ?_, s.reg_pgErr_off p bit off req detail⟩
  · simp [s.pgErr_first p bit off req detail h0]
  · simp [s.pgErr_later p bit off req detail h1]

/-! ### Events (R47) -/

/-- A word with bit `b` set has that bit beside its own. -/
theorem tb_sb_true {n : Nat} (w : BitVec n) {b : Nat} (i : Nat) (h : b < n) :
    tb (sb w b true) i = (tb w i || decide (i = b)) := by
  have hbit : (BitVec.ofNat n (2 ^ b)).getLsbD i = decide (i = b) := by
    rw [BitVec.getLsbD_ofNat, Nat.testBit_two_pow]
    by_cases hi : i = b
    · simp [hi, h]
    · simp [hi, Ne.symm hi]
  rw [sb, if_pos rfl, tb, BitVec.getLsbD_or, hbit, tb]

/-- PEND once an event has set its RAW bit. -/
theorem State.pend_setRaw (s : State) (p b : Nat) :
    (s.setRbit p R.PG_EVT_RAW b true).pend p = sb (s.reg p R.PG_EVT_RAW) b true &&& s.reg p R.PG_EVT_EN := by
  simp [State.pend]

/-- Of the numbers below `n`, those equal to `b`, where `c` holds. -/
theorem filter_range_eq {n b : Nat} (h : b < n) (c : Bool) :
    (List.range n).filter (fun i => decide (i = b) && c) = if c then [b] else [] := by
  cases c with
  | false => simp
  | true =>
    have hone : (List.range n).count b = 1 := List.count_eq_one_of_mem List.nodup_range (List.mem_range.2 h)
    simpa [hone] using List.filter_eq (l := List.range n) b

/-- Setting RAW bit `b` turns a PEND bit on only where that bit is enabled and was clear: it is bit `b`. -/
theorem newSources_setRaw (s : State) (p : Nat) {b : Nat} (h : b < 8) :
    newSources p (s.pend p) ((s.setRbit p R.PG_EVT_RAW b true).pend p) =
      if tb (s.reg p R.PG_EVT_EN) b = true ∧ tb (s.reg p R.PG_EVT_RAW) b = false then [srcBase p + b] else [] := by
  have hnew : ∀ i, (tb ((s.setRbit p R.PG_EVT_RAW b true).pend p) i && !tb (s.pend p) i) =
      (decide (i = b) && (tb (s.reg p R.PG_EVT_EN) b && !tb (s.reg p R.PG_EVT_RAW) b)) := by
    intro i
    rw [State.pend_setRaw, State.pend, tb_and, tb_and, tb_sb_true _ _ (by omega)]
    by_cases hi : i = b
    · subst hi; cases tb (s.reg p R.PG_EVT_EN) i <;> simp
    · simp [hi]
  simp only [newSources, hnew, filter_range_eq h, Bool.and_eq_true, Bool.not_eq_true']
  split <;> rfl

/-- Settles O11: the registers by the law of an event, the raised sources by the one bit of PEND it can turn on. -/
theorem anEnabledEventRaisesItsSourceOnce : Obligations.AnEnabledEventRaisesItsSourceOnce := by
  intro s p b h
  refine ⟨by simp, fun q x hne => by simp [hne], ?_⟩
  rw [State.raised_event, newSources_setRaw s p h]

end Sys2Proof.Machine
end

section
/-! PROOFS. Every step keeps the canonical form of the register table, of the word memories and of the host's octets. -/
namespace Sys2Proof.Machine

/-- Every command keeps the queue's rest and the canonical form: arm by arm of `exec`, the law of the command's meaning. -/
theorem kept_exec {u s : State} (h : Kept u s) : ∀ c : Instr, KeptO u (exec c s)
  | .regWrite .. => kept_execRegWrite (h := h) ..
  | .reg36LowerRead .. => kept_execReg36LowerRead (h := h) ..
  | .reg36UpperRead .. => kept_execReg36UpperRead (h := h) ..
  | .reg36LowerWrite .. => kept_execReg36LowerWrite (h := h) ..
  | .reg36UpperWrite .. => kept_execReg36UpperWrite (h := h) ..
  | .postedWriteSettle .. => kept_execPostedWriteSettle (h := h) ..
  | .enWrite1 .. => kept_execEnWrite1 (h := h) ..
  | .enWrite0 .. => kept_execEnWrite0 (h := h) ..
  | .stop .. => kept_execStop (h := h) ..
  | .sreset .. => kept_execSreset (h := h) ..
  | .shutdownComplete .. => kept_execShutdownComplete (h := h) ..
  | .startUpDone .. => kept_execStartUpDone (h := h) ..
  | .pgLockWrite .. => kept_execPgLockWrite (h := h) ..
  | .eventDeliver .. => kept_execEventDeliver (h := h) ..
  | .msixUnmask .. => kept_execMsixUnmask (h := h) ..
  | .routeDataAccess .. => kept_execRouteDataAccess (h := h) ..
  | .lostSrcRead req => kept_execLostSrcRead req h
  | .swSetWrite req idx val => kept_execSwSetWrite req idx val h
  | .causewayIdle .. => kept_execCausewayIdle (h := h) ..
  | .causewayTransferReceive .. => kept_execCausewayTransferReceive (h := h) ..
  | .causewaySilence .. => kept_execCausewaySilence (h := h) ..
  | .tailDbWrite .. => kept_execTailDbWrite (h := h) ..
  | .entryFetchData .. => kept_execEntryFetchData (h := h) ..
  | .hostDataArrive .. => kept_execHostDataArrive (h := h) ..
  | .hostWriteError .. => kept_execHostWriteError (h := h) ..
  | .jobPlace .. => kept_execJobPlace (h := h) ..
  | .prqHostError => kept_execPrqHostError h
  | .jobPark .. => kept_execJobPark (h := h) ..
  | .jobResume .. => kept_execJobResume (h := h) ..
  | .sessionMigrate .. => kept_execSessionMigrate (h := h) ..
  | .headPublish .. => kept_execHeadPublish (h := h) ..
  | .irqModTimer .. => kept_execIrqModTimer (h := h) ..
  | .wqNop .. => kept_execWqNop (h := h) ..
  | .placeCommit .. => kept_execPlaceCommit (h := h) ..
  | .placeDiscard .. => kept_execPlaceDiscard (h := h) ..
  | .placeLookup req => kept_execPlaceLookup req h
  | .lookupDone => kept_execLookupDone h
  | .recomputeDone => kept_execRecomputeDone h
  | .membershipFrameReceive .. => kept_execMembershipFrameReceive (h := h) ..
  | .resyncReceive .. => kept_execResyncReceive (h := h) ..
  | .forwardReceive .. => kept_execForwardReceive (h := h) ..
  | .moved .. => kept_execMoved (h := h) ..
  | .forwardAckReceive .. => kept_execForwardAckReceive (h := h) ..
  | .forwardTimeout .. => kept_execForwardTimeout (h := h) ..
  | .heartbeat .. => kept_execHeartbeat (h := h) ..
  | .forwardResultReceive .. => kept_execForwardResultReceive (h := h) ..
  | .resultAckReceive .. => kept_execResultAckReceive (h := h) ..
  | .forwardAbortReceive .. => kept_execForwardAbortReceive (h := h) ..
  | .forwardAbortAck .. => kept_execForwardAbortAck (h := h) ..
  | .flitReceive .. => kept_execFlitReceive (h := h) ..
  | .nakReceive .. => kept_execNakReceive (h := h) ..
  | .denletMessageReceive .. => kept_execDenletMessageReceive (h := h) ..
  | .linkRekey .. => kept_execLinkRekey (h := h) ..
  | .denletSilence .. => kept_execDenletSilence (h := h) ..
  | .trainDone .. => kept_execTrainDone (h := h) ..
  | .attestDone .. => kept_execAttestDone (h := h) ..
  | .eqIdleInsert .. => kept_execEqIdleInsert (h := h) ..
  | .dnlxRouteDataAccess req wr => kept_execDnlxRouteDataAccess req wr h
  | .timeExchange .. => kept_execTimeExchange (h := h) ..
  | .timeMasterLoss => kept_execTimeMasterLoss h
  | .timeSet .. => kept_execTimeSet (h := h) ..
  | .systimeRead .. => kept_execSystimeRead (h := h) ..
  | .healthFail .. => kept_execHealthFail (h := h) ..
  | .drbgReseed .. => kept_execDrbgReseed (h := h) ..
  | .sessOpen .. => kept_execSessOpen (h := h) ..
  | .sessClose .. => kept_execSessClose (h := h) ..
  | .sessRekey .. => kept_execSessRekey (h := h) ..
  | .pageLoad .. => kept_execPageLoad (h := h) ..
  | .chunkVerify .. => kept_execChunkVerify (h := h) ..
  | .pageEvict .. => kept_execPageEvict (h := h) ..
  | .evictWrite .. => kept_execEvictWrite (h := h) ..
  | .credWrite .. => kept_execCredWrite (h := h) ..
  | .credDerive .. => kept_execCredDerive (h := h) ..
  | .credRetire .. => kept_execCredRetire (h := h) ..
  | .reclaim .. => kept_execReclaim (h := h) ..
  | .slotGenerate .. => kept_execSlotGenerate (h := h) ..
  | .slotUnwrap .. => kept_execSlotUnwrap (h := h) ..
  | .slotWrap .. => kept_execSlotWrap (h := h) ..
  | .slotDerive .. => kept_execSlotDerive (h := h) ..
  | .slotDestroy .. => kept_execSlotDestroy (h := h) ..
  | .slotInfo .. => kept_execSlotInfo (h := h) ..
  | .rngGet .. => kept_execRngGet (h := h) ..
  | .journalCompact => kept_execJournalCompact h
  | .qkeyDataWrite .. => kept_execQkeyDataWrite (h := h) ..
  | .cerCommission .. => kept_execCerCommission (h := h) ..
  | .cerEnrolDomain .. => kept_execCerEnrolDomain (h := h) ..
  | .cerSetTamper .. => kept_execCerSetTamper (h := h) ..
  | .cerLeaveGb .. => kept_execCerLeaveGb (h := h) ..
  | .cerRetire .. => kept_execCerRetire (h := h) ..
  | .cerCustodians .. => kept_execCerCustodians (h := h) ..
  | .cerCancel req => kept_execCerCancel req h
  | .custodianCardProcess .. => kept_execCustodianCardProcess (h := h) ..
  | .ceremonyTimeout => kept_execCeremonyTimeout h
  | .ecbEnc .. => kept_execEcbEnc (h := h) ..
  | .ecbDec .. => kept_execEcbDec (h := h) ..
  | .cbcEnc .. => kept_execCbcEnc (h := h) ..
  | .cbcDec .. => kept_execCbcDec (h := h) ..
  | .ctr .. => kept_execCtr (h := h) ..
  | .gcmEnc .. => kept_execGcmEnc (h := h) ..
  | .gcmDec .. => kept_execGcmDec (h := h) ..
  | .ccmEnc .. => kept_execCcmEnc (h := h) ..
  | .ccmDec .. => kept_execCcmDec (h := h) ..
  | .cmacGen .. => kept_execCmacGen (h := h) ..
  | .cmacVer .. => kept_execCmacVer (h := h) ..
  | .kwWrap .. => kept_execKwWrap (h := h) ..
  | .kwUnwrap .. => kept_execKwUnwrap (h := h) ..
  | .kwpWrap .. => kept_execKwpWrap (h := h) ..
  | .kwpUnwrap .. => kept_execKwpUnwrap (h := h) ..
  | .akaMilenage .. => kept_execAkaMilenage (h := h) ..
  | .akaResync .. => kept_execAkaResync (h := h) ..
  | .sha224 .. => kept_execSha224 (h := h) ..
  | .sha256 .. => kept_execSha256 (h := h) ..
  | .sha384 .. => kept_execSha384 (h := h) ..
  | .sha512 .. => kept_execSha512 (h := h) ..
  | .sha3224 .. => kept_execSha3224 (h := h) ..
  | .sha3256 .. => kept_execSha3256 (h := h) ..
  | .sha3384 .. => kept_execSha3384 (h := h) ..
  | .sha3512 .. => kept_execSha3512 (h := h) ..
  | .shake128 .. => kept_execShake128 (h := h) ..
  | .shake256 .. => kept_execShake256 (h := h) ..
  | .hmacGen .. => kept_execHmacGen (h := h) ..
  | .hmacVer .. => kept_execHmacVer (h := h) ..
  | .gbHmac .. => kept_execGbHmac (h := h) ..
  | .resultRead .. => kept_execResultRead (h := h) ..
  | .windowExpired .. => kept_execWindowExpired (h := h) ..
  | .bnModexp .. => kept_execBnModexp (h := h) ..
  | .bnModmul .. => kept_execBnModmul (h := h) ..
  | .bnModadd .. => kept_execBnModadd (h := h) ..
  | .bnModsub .. => kept_execBnModsub (h := h) ..
  | .bnModinv .. => kept_execBnModinv (h := h) ..
  | .bnCurvechk .. => kept_execBnCurvechk (h := h) ..
  | .bnProgramEnqueue .. => kept_execBnProgramEnqueue (h := h) ..
  | .load .. => kept_execLoad (h := h) ..
  | .store .. => kept_execStore (h := h) ..
  | .convert .. => kept_execConvert (h := h) ..
  | .toMont .. => kept_execToMont (h := h) ..
  | .fromMont .. => kept_execFromMont (h := h) ..
  | .modadd .. => kept_execModadd (h := h) ..
  | .modsub .. => kept_execModsub (h := h) ..
  | .modmul .. => kept_execModmul (h := h) ..
  | .modinv .. => kept_execModinv (h := h) ..
  | .modexp .. => kept_execModexp (h := h) ..
  | .curvechk .. => kept_execCurvechk (h := h) ..
  | .bnYield .. => kept_execBnYield (h := h) ..
  | .bnAbort .. => kept_execBnAbort (h := h) ..
  | .refuseRead .. => kept_execRefuseRead (h := h) ..
  | .kNop .. => kept_execKNop (h := h) ..
  | .kRfe .. => kept_execKRfe (h := h) ..
  | .kSync .. => kept_execKSync (h := h) ..
  | .kWaiti .. => kept_execKWaiti (h := h) ..
  | .kBreak .. => kept_execKBreak (h := h) ..
  | .kCtxsw .. => kept_execKCtxsw (h := h) ..
  | .kJget .. => kept_execKJget (h := h) ..
  | .kSavectx .. => kept_execKSavectx (h := h) ..
  | .kLoadctx .. => kept_execKLoadctx (h := h) ..
  | .kJdone .. => kept_execKJdone (h := h) ..
  | .kMov .. => kept_execKMov (h := h) ..
  | .kAdd .. => kept_execKAdd (h := h) ..
  | .kSub .. => kept_execKSub (h := h) ..
  | .kAddx .. => kept_execKAddx (h := h) ..
  | .kSubx .. => kept_execKSubx (h := h) ..
  | .kAnd .. => kept_execKAnd (h := h) ..
  | .kOr .. => kept_execKOr (h := h) ..
  | .kXor .. => kept_execKXor (h := h) ..
  | .kAndn .. => kept_execKAndn (h := h) ..
  | .kShl .. => kept_execKShl (h := h) ..
  | .kShr .. => kept_execKShr (h := h) ..
  | .kSar .. => kept_execKSar (h := h) ..
  | .kRol .. => kept_execKRol (h := h) ..
  | .kMul .. => kept_execKMul (h := h) ..
  | .kMulh .. => kept_execKMulh (h := h) ..
  | .kMulhs .. => kept_execKMulhs (h := h) ..
  | .kMull .. => kept_execKMull (h := h) ..
  | .kBrev .. => kept_execKBrev (h := h) ..
  | .kClz .. => kept_execKClz (h := h) ..
  | .kPopc .. => kept_execKPopc (h := h) ..
  | .kOcthi .. => kept_execKOcthi (h := h) ..
  | .kOctlo .. => kept_execKOctlo (h := h) ..
  | .kOctpk .. => kept_execKOctpk (h := h) ..
  | .kMovd .. => kept_execKMovd (h := h) ..
  | .kAddd .. => kept_execKAddd (h := h) ..
  | .kSubd .. => kept_execKSubd (h := h) ..
  | .kMova .. => kept_execKMova (h := h) ..
  | .kMovda .. => kept_execKMovda (h := h) ..
  | .kAdda .. => kept_execKAdda (h := h) ..
  | .kShld .. => kept_execKShld (h := h) ..
  | .kShrd .. => kept_execKShrd (h := h) ..
  | .kCmpeq .. => kept_execKCmpeq (h := h) ..
  | .kCmplt .. => kept_execKCmplt (h := h) ..
  | .kCmpltu .. => kept_execKCmpltu (h := h) ..
  | .kPand .. => kept_execKPand (h := h) ..
  | .kPor .. => kept_execKPor (h := h) ..
  | .kPxor .. => kept_execKPxor (h := h) ..
  | .kPandn .. => kept_execKPandn (h := h) ..
  | .kMovi .. => kept_execKMovi (h := h) ..
  | .kAddi .. => kept_execKAddi (h := h) ..
  | .kAndi .. => kept_execKAndi (h := h) ..
  | .kOri .. => kept_execKOri (h := h) ..
  | .kXori .. => kept_execKXori (h := h) ..
  | .kShli .. => kept_execKShli (h := h) ..
  | .kShri .. => kept_execKShri (h := h) ..
  | .kSari .. => kept_execKSari (h := h) ..
  | .kMuli .. => kept_execKMuli (h := h) ..
  | .kMovid .. => kept_execKMovid (h := h) ..
  | .kAddid .. => kept_execKAddid (h := h) ..
  | .kAddia .. => kept_execKAddia (h := h) ..
  | .kMovia .. => kept_execKMovia (h := h) ..
  | .kLeapc .. => kept_execKLeapc (h := h) ..
  | .kUcmdCipher .. => kept_execKUcmdCipher (h := h) ..
  | .kUcmdDigest .. => kept_execKUcmdDigest (h := h) ..
  | .kUcmdBignum .. => kept_execKUcmdBignum (h := h) ..
  | .kUcmdHostRead .. => kept_execKUcmdHostRead (h := h) ..
  | .kUcmdHostWrite .. => kept_execKUcmdHostWrite (h := h) ..
  | .kUcmdComplete .. => kept_execKUcmdComplete (h := h) ..
  | .kLd .. => kept_execKLd (h := h) ..
  | .kSt .. => kept_execKSt (h := h) ..
  | .kLdd .. => kept_execKLdd (h := h) ..
  | .kStd .. => kept_execKStd (h := h) ..
  | .kLda .. => kept_execKLda (h := h) ..
  | .kSta .. => kept_execKSta (h := h) ..
  | .kLea .. => kept_execKLea (h := h) ..
  | .kSwap .. => kept_execKSwap (h := h) ..
  | .kBr .. => kept_execKBr (h := h) ..
  | .kCall .. => kept_execKCall (h := h) ..
  | .kJr .. => kept_execKJr (h := h) ..
  | .kCallr .. => kept_execKCallr (h := h) ..
  | .kLoop .. => kept_execKLoop (h := h) ..
  | .kLoopi .. => kept_execKLoopi (h := h) ..
  | .kTrap .. => kept_execKTrap (h := h) ..
  | .kMovsFromSpecial .. => kept_execKMovsFromSpecial (h := h) ..
  | .kMovsToSpecial .. => kept_execKMovsToSpecial (h := h) ..
  | .kVadd .. => kept_execKVadd (h := h) ..
  | .kVsub .. => kept_execKVsub (h := h) ..
  | .kVmul .. => kept_execKVmul (h := h) ..
  | .kVbfly .. => kept_execKVbfly (h := h) ..
  | .kVgs .. => kept_execKVgs (h := h) ..
  | .kVperm .. => kept_execKVperm (h := h) ..
  | .kVld .. => kept_execKVld (h := h) ..
  | .kVst .. => kept_execKVst (h := h) ..
  | .kVldb .. => kept_execKVldb (h := h) ..
  | .kVmov .. => kept_execKVmov (h := h) ..
  | .kVsplat .. => kept_execKVsplat (h := h) ..
  | .kVext .. => kept_execKVext (h := h) ..
  | .kVins .. => kept_execKVins (h := h) ..
  | .interruptEntry .. => kept_execInterruptEntry (h := h) ..
  | .lockstepMismatch .. => kept_execLockstepMismatch (h := h) ..
  | .compositeAbort .. => kept_execCompositeAbort (h := h) ..
  | .abortTimeout .. => kept_execAbortTimeout (h := h) ..
  | .vfailRead req core => kept_execVfailRead req core h
  | .rsaCrt .. => kept_execRsaCrt (h := h) ..
  | .ecdsaP256Sign .. => kept_execEcdsaP256Sign (h := h) ..
  | .ecdsaP256Ver .. => kept_execEcdsaP256Ver (h := h) ..
  | .ecdsaP384Ver .. => kept_execEcdsaP384Ver (h := h) ..
  | .ecdhP256 .. => kept_execEcdhP256 (h := h) ..
  | .cryptogramVer .. => kept_execCryptogramVer (h := h) ..
  | .pinTranslate .. => kept_execPinTranslate (h := h) ..
  | .kdfTree .. => kept_execKdfTree (h := h) ..
  | .akaTuak .. => kept_execAkaTuak (h := h) ..
  | .mlkemKeygen .. => kept_execMlkemKeygen (h := h) ..
  | .mlkemEncaps .. => kept_execMlkemEncaps (h := h) ..
  | .mlkemDecaps .. => kept_execMlkemDecaps (h := h) ..
  | .mldsaKeygen .. => kept_execMldsaKeygen (h := h) ..
  | .mldsaSign .. => kept_execMldsaSign (h := h) ..
  | .mldsaVerify .. => kept_execMldsaVerify (h := h) ..
  | .randRead .. => kept_execRandRead (h := h) ..
  | .gcolDataAccess .. => kept_execGcolDataAccess (h := h) ..
  | .granuleClear .. => kept_execGranuleClear (h := h) ..
  | .ruleDataAccess .. => kept_execRuleDataAccess (h := h) ..
  | .dbgRead req => kept_execDbgRead req h
  | .dbgWrite req => kept_execDbgWrite req h
  | .dbgacc .. => kept_execDbgacc (h := h) ..
  | .haltReqWrite req k val => kept_execHaltReqWrite req k val h
  | .coreHalt .. => kept_execCoreHalt (h := h) ..
  | .resumeWrite req k val => kept_execResumeWrite req k val h
  | .lifeAdv .. => kept_execLifeAdv (h := h) ..
  | .arbiterGrant .. => kept_execArbiterGrant (h := h) ..
  | .ageRaise .. => kept_execAgeRaise (h := h) ..
  | .owmSwitched => kept_execOwmSwitched h
  | .rqClassAccess req wr => kept_execRqClassAccess req wr h
  | .monSelWrite .. => kept_execMonSelWrite (h := h) ..
  | .monMaxwaitRead req => kept_execMonMaxwaitRead req h
  | .cstActivate .. => kept_execCstActivate (h := h) ..
  | .cstApdu .. => kept_execCstApdu (h := h) ..
  | .cstDeactivate .. => kept_execCstDeactivate (h := h) ..
  | .cstWarmReset .. => kept_execCstWarmReset (h := h) ..
  | .atrReceive .. => kept_execAtrReceive (h := h) ..
  | .atrTimeout .. => kept_execAtrTimeout (h := h) ..
  | .classRetryWait .. => kept_execClassRetryWait (h := h) ..
  | .ppsResponse .. => kept_execPpsResponse (h := h) ..
  | .t0ProcedureByte .. => kept_execT0ProcedureByte (h := h) ..
  | .wwtExpiry .. => kept_execWwtExpiry (h := h) ..
  | .busyLimitExpiry .. => kept_execBusyLimitExpiry (h := h) ..
  | .t1BlockReceive .. => kept_execT1BlockReceive (h := h) ..
  | .bwtExpiry .. => kept_execBwtExpiry (h := h) ..
  | .cwtExpiry .. => kept_execCwtExpiry (h := h) ..
  | .clockStop .. => kept_execClockStop (h := h) ..
  | .presChange .. => kept_execPresChange (h := h) ..
  | .overcurrent .. => kept_execOvercurrent (h := h) ..
  | .deactDone .. => kept_execDeactDone (h := h) ..
  | .stationFault .. => kept_execStationFault (h := h) ..
  | .fstActivate .. => kept_execFstActivate (h := h) ..
  | .fstApdu .. => kept_execFstApdu (h := h) ..
  | .fstDeactivate .. => kept_execFstDeactivate (h := h) ..
  | .fieldOn .. => kept_execFieldOn (h := h) ..
  | .guardEnd .. => kept_execGuardEnd (h := h) ..
  | .fieldOffDone .. => kept_execFieldOffDone (h := h) ..
  | .ping .. => kept_execPing (h := h) ..
  | .relearn .. => kept_execRelearn (h := h) ..
  | .calMeasure .. => kept_execCalMeasure (h := h) ..
  | .tagFrameReceive .. => kept_execTagFrameReceive (h := h) ..
  | .noAnswerTimeout .. => kept_execNoAnswerTimeout (h := h) ..
  | .hltaAccepted .. => kept_execHltaAccepted (h := h) ..
  | .isodepBlockReceive .. => kept_execIsodepBlockReceive (h := h) ..
  | .fwtExpiry .. => kept_execFwtExpiry (h := h) ..
  | .arriveTimeout .. => kept_execArriveTimeout (h := h) ..
  | .fieldStationFault .. => kept_execFieldStationFault (h := h) ..
  | .midrRead .. => kept_execMidrRead (h := h) ..
  | .identityReadDone .. => kept_execIdentityReadDone (h := h) ..
  | .encoderCount .. => kept_execEncoderCount (h := h) ..
  | .speedUpdate => kept_execSpeedUpdate h
  | .markEdge .. => kept_execMarkEdge (h := h) ..
  | .checkMarkEdge .. => kept_execCheckMarkEdge (h := h) ..
  | .lineOkChange .. => kept_execLineOkChange (h := h) ..
  | .holdSet req => kept_execHoldSet req h
  | .holdClr .. => kept_execHoldClr (h := h) ..
  | .lineItem .. => kept_execLineItem (h := h) ..
  | .lineSetId .. => kept_execLineSetId (h := h) ..
  | .lineDone .. => kept_execLineDone (h := h) ..
  | .lineReject .. => kept_execLineReject (h := h) ..
  | .lineQuery .. => kept_execLineQuery (h := h) ..
  | .mossCheck .. => kept_execMossCheck (h := h) ..
  | .tamperAlarm .. => kept_execTamperAlarm (h := h) ..
  | .tamperConditionClear .. => kept_execTamperConditionClear (h := h) ..
  | .zeroiseDone .. => kept_execZeroiseDone (h := h) ..
  | .resetDevice .. => kept_execResetDevice (h := h) ..
  | .retire .. => kept_execRetire (h := h) ..
  | .tamperActionsDone .. => kept_execTamperActionsDone (h := h) ..
  | .tamperPeriodEnd .. => kept_execTamperPeriodEnd (h := h) ..
  | .latchWrite req k val => kept_execLatchWrite req k val h
  | .bistStart .. => kept_execBistStart (h := h) ..
  | .bistDone .. => kept_execBistDone (h := h) ..
  | .respStageAccess .. => kept_execRespStageAccess (h := h) ..
  | .respDiscard .. => kept_execRespDiscard (h := h) ..
  | .lastFailRead req => kept_execLastFailRead req h
  | .logAppend => kept_execLogAppend h
  | .append .. => kept_execAppend (h := h) ..
  | .wispLink req => kept_execWispLink req h
  | .wispCheck req => kept_execWispCheck req h
  | .ent0Read .. => kept_execEnt0Read (h := h) ..
  | .rtc0Read req => kept_execRtc0Read req h
  | .wispFieldOn => kept_execWispFieldOn h
  | .wispReqa .. => kept_execWispReqa (h := h) ..
  | .wispSelect .. => kept_execWispSelect (h := h) ..
  | .wispHlta .. => kept_execWispHlta (h := h) ..
  | .rdblk .. => kept_execRdblk (h := h) ..
  | .program .. => kept_execProgram (h := h) ..
  | .erase .. => kept_execErase (h := h) ..
  | .suspend .. => kept_execSuspend (h := h) ..
  | .resume .. => kept_execResume (h := h) ..
  | .mapProgram .. => kept_execMapProgram (h := h) ..
  | .portDProgram .. => kept_execPortDProgram (h := h) ..
  | .flashPulseDone .. => kept_execFlashPulseDone (h := h) ..
  | .flashWindowRead .. => kept_execFlashWindowRead (h := h) ..
  | .brownout => kept_execBrownout h
  | .brownoutClear => kept_execBrownoutClear h
  | .flashWpChange .. => kept_execFlashWpChange (h := h) ..
  | .flashScanDone => kept_execFlashScanDone h
  | .porRelease .. => kept_execPorRelease (h := h) ..
  | .supplyBrownout => kept_execSupplyBrownout h
  | .vfieldLost => kept_execVfieldLost h
  | .vfieldGood => kept_execVfieldGood h
  | .powerUpdate .. => kept_execPowerUpdate (h := h) ..
  | .regionStepDone => kept_execRegionStepDone h
  | .stationAdmit => kept_execStationAdmit h
  | .clGateWrite .. => kept_execClGateWrite (h := h) ..
  | .ungateDone .. => kept_execUngateDone (h := h) ..
  | .pmbusPoll .. => kept_execPmbusPoll (h := h) ..
  | .pmbAlert .. => kept_execPmbAlert (h := h) ..
  | .pmbusRetry .. => kept_execPmbusRetry (h := h) ..
  | .resetN => kept_execResetN h
  | .perstN => kept_execPerstN h
  | .devWdtExpiry .. => kept_execDevWdtExpiry (h := h) ..
  | .rgWdtExpiry .. => kept_execRgWdtExpiry (h := h) ..
  | .kick .. => kept_execKick (h := h) ..
  | .rgReset req val => kept_execRgReset req val h
  | .rgResetDone .. => kept_execRgResetDone (h := h) ..
  | .causeRead req => kept_execCauseRead req h
  | .hummockCheck .. => kept_execHummockCheck (h := h) ..
  | .clusterBistDone .. => kept_execClusterBistDone (h := h) ..
  | .bootVerify .. => kept_execBootVerify (h := h) ..
  | .firmwareCopy => kept_execFirmwareCopy h
  | .journalRestore => kept_execJournalRestore h
  | .rollbackAdv .. => kept_execRollbackAdv (h := h) ..
  | .bootcfgWrite .. => kept_execBootcfgWrite (h := h) ..
  | .scrubRead .. => kept_execScrubRead (h := h) ..
  | .backgroundCompare .. => kept_execBackgroundCompare (h := h) ..
  | .injectScrubFlip .. => kept_execInjectScrubFlip (h := h) ..
  | .injectTestRow .. => kept_execInjectTestRow (h := h) ..
  | .injectRegComplement .. => kept_execInjectRegComplement (h := h) ..
  | .injectDone => kept_execInjectDone h
  | .ueInfoRead req => kept_execUeInfoRead req h
  | .regfPageRead req => kept_execRegfPageRead req h
  | .linkRead req => kept_execLinkRead req h
  | .atrCharacterTimeout .. => kept_execAtrCharacterTimeout (h := h) ..
  | .ppsTimeout .. => kept_execPpsTimeout (h := h) ..
  | .movedResend .. => kept_execMovedResend (h := h) ..
  | .tamperResetRelease .. => kept_execTamperResetRelease (h := h) ..
  | .resetNRelease .. => kept_execResetNRelease (h := h) ..
  | .perstNRelease => kept_execPerstNRelease h
  | .devWdtWarn => kept_execDevWdtWarn h
  | .vbatApply => kept_execVbatApply h
  | .wispFieldOff => kept_execWispFieldOff h

/-- A nanosecond without a command keeps both. -/
theorem kept_step_nil {s t : State} (hp : s.pending = []) (h : step s = .next t) : Kept s t := by
  have hk : KeptO s (step s) := by
    rw [step, hp]
    exact kept_tick (Kept.refl s)
  rwa [h] at hk

/-- A step that takes a command keeps the rest of the queue, and the canonical form. -/
theorem kept_step_cons {s t : State} {c : Instr} {rest : List Instr} (hp : s.pending = c :: rest) (h : step s = .next t) :
    Kept { s with pending := rest } t := by
  have hk : KeptO { s with pending := rest } (step s) := by
    rw [step, hp]
    exact kept_exec (Kept.refl _) c
  rwa [h] at hk

/-- Settles O5: the canonical form does not see the queue, and both kinds of step keep it. -/
theorem everyStepKeepsTheCanonicalForm : Obligations.EveryStepKeepsTheCanonicalForm := by
  intro s t hs h
  cases hp : s.pending with
  | nil => exact (kept_step_nil hp h).2 hs
  | cons c rest => exact (kept_step_cons hp h).2 hs

end Sys2Proof.Machine
end

section
/-! PROOFS. When a command acts at all (R38), and the control bits of a page (R22, R42 to R44). -/
namespace Sys2Proof.Machine

/-! ### Conditions of a command -/

/-- A command whose condition holds acts. -/
theorem when_of_true {c : Bool} {s t : State} (h : c = true) : when c s t = .next t := congrArg Host.Outcome.next (if_pos h)

/-- A page that takes writes takes this one. -/
theorem written_of_taken {s t : State} {p : Nat} (h : s.deaf p = false) : s.written p t = .next t :=
  congrArg Host.Outcome.next (if_neg (by rw [h]; decide))

/-- A page that takes no writes drops this one (R38). -/
theorem written_of_deaf {s t : State} {p : Nat} (h : s.deaf p = true) : s.written p t = .next s :=
  congrArg Host.Outcome.next (if_pos h)

/-! ### The control bits (R22, R42 to R44) -/

@[simp] theorem State.stat_touch (s : State) (p q i : Nat) : (s.touch p).stat q i = s.stat q i := rfl
@[simp] theorem State.en_touch (s : State) (p q : Nat) : (s.touch p).en q = s.en q := rfl
@[simp] theorem State.mismatched_touch (s : State) (p q : Nat) : (s.touch p).mismatched q = s.mismatched q := rfl

section
variable {s : State} {page i : Nat} {b : Block} (req : Requester) (hb : blockOf page = some (b, i))
  (hd : s.deaf page = false)
include hb hd

/-- EN written 1 on a page that software enables (R42, R516). -/
theorem exec_enWrite1 (hon : b.alwaysOn = false) : exec (.enWrite1 req page) s = .next
    (if s.stat page ST.quar || (stopsOnMismatch page && s.mismatched page) then
        (s.touch page).pgErr page ERR.quar req R.PG_CTRL
      else if s.stat page ST.stopping then (s.touch page).setStat page ST.restart true
      else if s.en page then s.touch page else (s.touch page).startPage req page) := by
  refine (written_of_taken hd).trans ?_
  simp only [hb, hon, if_neg, Bool.false_eq_true, not_false_eq_true]
  rfl

/-- EN written 0 on a page that software enables (R42, R44). -/
theorem exec_enWrite0 (hon : b.alwaysOn = false) : exec (.enWrite0 req page) s = .next
    (if s.stat page ST.quar then (s.touch page).pgErr page ERR.quar req R.PG_CTRL
      else if s.en page then (s.touch page).shutdown page else s.touch page) := by
  refine (written_of_taken hd).trans ?_
  simp only [hb, hon, if_neg, Bool.false_eq_true, not_false_eq_true]
  rfl

/-- EN written 1 where neither a quarantine nor a mismatch keeps it from being written (R42, R516). -/
theorem exec_enWrite1_sound (hon : b.alwaysOn = false) (hq : s.stat page ST.quar = false)
    (hm : stopsOnMismatch page = false ∨ s.mismatched page = false) : exec (.enWrite1 req page) s = .next
    (if s.stat page ST.stopping then (s.touch page).setStat page ST.restart true
      else if s.en page then s.touch page else (s.touch page).startPage req page) := by
  have hmis : (stopsOnMismatch page && s.mismatched page) = false := by obtain h | h := hm <;> simp [h]
  rw [exec_enWrite1 req hb hd hon, if_neg (by rw [hq, hmis]; decide)]

/-- STOP written to a quarantined page (R44). -/
theorem exec_stop_quarantined (hon : b.alwaysOn = false) (hq : s.stat page ST.quar = true) :
    exec (.stop req page) s = .next ((s.touch page).pgErr page ERR.quar req R.PG_CTRL) := by
  refine (written_of_taken hd).trans ?_
  simp [hb, hon, hq]

/-- STOP on an enabled page other than a queue's: a drain, which goes on to the shutdown where no work is held (R42). -/
theorem exec_stop_enabled (hon : b.alwaysOn = false) (hwq : b ≠ .wq) (hq : s.stat page ST.quar = false)
    (hen : s.en page = true) {t : State} (ht : t = ((s.touch page).setStat page ST.ready false).setDraining page true) :
    exec (.stop req page) s = .next (if t.drained page then t.shutdown page else t) := by
  refine (written_of_taken hd).trans ?_
  simp [hb, hon, hq, hen, hwq, ht]

/-- SRESET of a page that is not quarantined, or that SRESET releases (R22, R44). -/
theorem exec_sreset (h : s.stat page ST.quar = false ∨ releasesBySreset b = true) :
    exec (.sreset req page) s = .next ((s.touch page).sreset page b i) := by
  refine (written_of_taken hd).trans ?_
  have hno : (s.stat page ST.quar && !releasesBySreset b) = false := by obtain h | h := h <;> simp [h]
  simp only [hb, State.stat_touch, hno, if_neg, Bool.false_eq_true, not_false_eq_true]

end

/-- SHUTDOWN_COMPLETE on a stopping page with nothing left to do (R43). -/
theorem exec_shutdownComplete {s : State} {page : Nat} (hen : s.en page = false) (hs : s.stat page ST.stopping = true)
    (hq : s.quiet page = true) : exec (.shutdownComplete page) s = .next (s.shutEnd page) := by
  refine congrArg Host.Outcome.next ?_
  simp [hen, hs, hq]

/-- Settles O12, row by row. -/
theorem controlBitsActAsTheTableSays : Obligations.ControlBitsActAsTheTableSays := by
  refine ⟨fun req page s hd => ⟨written_of_deaf hd, written_of_deaf hd, written_of_deaf hd, written_of_deaf hd⟩,
    fun req page b i s hb hd hon hq hm => ⟨fun hs => ⟨?_, fun hen => ?_⟩, fun hs hen => ?_, fun hen => ?_⟩,
    fun req page b i s hb hd hon hq => ⟨?_, ?_, exec_stop_quarantined req hb hd hon hq⟩,
    fun req page b i s hb hd hon hwq hq hen => ⟨_, rfl, exec_stop_enabled req hb hd hon hwq hq hen rfl⟩,
    fun req page b i s hb hd => exec_sreset req hb hd, fun page s => exec_shutdownComplete,
    fun page pass vec s h => when_of_true h⟩
  · simp [exec_enWrite1_sound req hb hd hon hq hm, hs]
  · simp [exec_enWrite0 req hb hd hon, hq, hen]
  · simp [exec_enWrite1_sound req hb hd hon hq hm, hs, hen]
  · simp [exec_enWrite0 req hb hd hon, hq, hen]
  · simp [exec_enWrite1 req hb hd hon, hq]
  · simp [exec_enWrite0 req hb hd hon, hq]
end Sys2Proof.Machine
end

section
/-! PROOFS. The event pages (R30, R48 to R52): where a raised source is delivered, and what their registers do. -/
namespace Sys2Proof.Machine

/-! ### Raised sources on their way (R30, R48) -/

/-- The state with a raised source taken from the list. -/
def State.take (s : State) (src : Nat) : State := { s with evt := { s.evt with raised := s.evt.raised.erase src } }

@[simp] theorem State.evt_putLink (s : State) (f : Bool) (l : Link) : (s.putLink f l).evt = s.evt := by cases f <;> rfl
@[simp] theorem State.regs_putLink (s : State) (f : Bool) (l : Link) : (s.putLink f l).regs = s.regs := by cases f <;> rfl
@[simp] theorem State.diag_putLink (s : State) (f : Bool) (l : Link) : (s.putLink f l).diag = s.diag := by cases f <;> rfl

/-- Where a source is delivered: past the link it crosses, if it crosses one. -/
def State.arrived (s : State) (src : Nat) : State :=
  match srcLink src with
  | none => s.take src
  | some f => (s.take src).putLink f (s.link f).toC

section
variable {src : Nat} {s : State}

theorem State.arrived_near (h : srcLink src = none) : s.arrived src = s.take src := by simp [State.arrived, h]

theorem State.arrived_far {f : Bool} (h : srcLink src = some f) : s.arrived src = (s.take src).putLink f (s.link f).toC := by
  simp [State.arrived, h]

/-- On its way a source changes nothing that its delivery reads. -/
theorem State.arrived_frame (s : State) (src : Nat) :
    (s.arrived src).evt = (s.take src).evt ∧ (s.arrived src).regs = s.regs ∧ (s.arrived src).diag = s.diag := by
  cases h : srcLink src with
  | none => rw [s.arrived_near h]; exact ⟨rfl, rfl, rfl⟩
  | some f => rw [s.arrived_far h]; simp [State.take]

/-- Where the source's link is quarantined, the event is dropped (R30). -/
theorem exec_eventDeliver_dropped {f : Bool} (h : s.evt.raised.contains src = true) (hf : srcLink src = some f)
    (hq : (s.link f).quar = true) : exec (.eventDeliver src) s = .next (s.take src) := by
  refine (when_of_true h).trans ?_
  simp only [hf, hq, if_pos, State.take]

/-- Otherwise it is delivered by its route. -/
theorem exec_eventDeliver_arrived (h : s.evt.raised.contains src = true)
    (hq : ∀ f, srcLink src = some f → (s.link f).quar = false) :
    exec (.eventDeliver src) s = .next ((s.arrived src).deliver src) := by
  refine (when_of_true h).trans ?_
  cases hl : srcLink src with
  | none => rw [State.arrived_near hl, State.take]
  | some f => simp [hq f hl, State.arrived_far hl, State.take]

end

/-! ### Delivery by a route (R48 to R50) -/

/-- What a source's route entry `e` does to the state it arrives in, as the registers and vectors of `s` stand. -/
def State.routed (s : State) (src : Nat) (e : Word) : State :=
  if tb e 16 then
    if s.stat (P.clu (bits e 11 6 / 4)) ST.quar then (s.arrived src).lose src
    else (s.arrived src).setRbit P.evt2 (R.EVT2_CORE_PEND + 4 * bits e 11 6 + bits e 5 0 / 16) (bits e 5 0 % 16) true
  else if s.masked (bits e 10 0) then
    { s.arrived src with evt := { (s.arrived src).evt with msixPend := add1 s.evt.msixPend (bits e 10 0) } }
  else (s.arrived src).sendMsix (bits e 10 0)

/-- Delivery by a route that is enabled and whose two copies agree. -/
theorem State.deliver_arrived {s : State} {src : Nat} {e : Word} (he : e = Map.get (dflt 0) s.evt.routes src)
    (hon : tb e 17 = true) (hgood : s.isBad (routeKey src) = false) : (s.arrived src).deliver src = s.routed src e := by
  obtain ⟨hevt, hregs, hdiag⟩ := s.arrived_frame src
  have hroutes : Map.get (dflt 0) (s.arrived src).evt.routes src = e := by rw [hevt, he]; rfl
  have hpend : (s.arrived src).evt.msixPend = s.evt.msixPend := by rw [hevt]; rfl
  have hmask (n : Nat) : (s.arrived src).masked n = s.masked n := by rw [State.masked, hevt]; rfl
  have hbad : (s.arrived src).isBad (routeKey src) = false := by rw [State.isBad, hdiag]; exact hgood
  have hstat (p i : Nat) : (s.arrived src).stat p i = s.stat p i := by simp only [State.stat, State.rbit, State.reg, hregs]
  simp only [State.deliver, State.routed, hroutes, hpend, hmask, hbad, hstat, hon, Bool.not_true, Bool.or_false]
  rfl

/-- A source lost while LOST_SRC is free is latched in it (R50). -/
theorem State.lose_of_free {s : State} (src : Nat) (h : s.rbit P.evt0 R.EVT0_LOST_SRC 17 = false) :
    s.lose src = (s.setReg P.evt0 R.EVT0_LOST_SRC (wd (2 ^ 17 + src))).event P.evt0 0 := by
  rw [State.lose, if_neg (by simp [h])]

/-- A source lost while LOST_SRC holds another sets MORE (R50). -/
theorem State.lose_of_held {s : State} (src : Nat) (h : s.rbit P.evt0 R.EVT0_LOST_SRC 17 = true) :
    s.lose src = (s.setRbit P.evt0 R.EVT0_LOST_SRC 16 true).event P.evt0 0 := by
  rw [State.lose, if_pos h]

/-! ### The event pages' registers (R49, R51, R52) -/

/-- A zero written to a vector's control doubleword unmasks the vector. -/
theorem State.wMsix_unmask (s : State) {vec : Nat} (h : 4 * vec + 3 < 8192) : s.wMsix (4 * vec + 3) 0 =
    ({ s with evt := { s.evt with msix := Map.put msixReset s.evt.msix (4 * vec + 3) 0 } } : State).unmasked vec := by
  have hmod : (4 * vec + 3) % 4 = 3 := by omega
  have hdiv : (4 * vec + 3) / 4 = vec := by omega
  simp [State.wMsix, h.not_ge, hmod, hdiv, tb]

/-- Unmasking a vector with nothing pending sends nothing. -/
theorem State.unmasked_of_idle {s : State} {vec : Nat} (h : s.evt.msixPend.contains vec = false) : s.unmasked vec = s := by
  rw [State.unmasked, if_neg (by simp only [h]; decide)]

/-- Unmasking a vector sends its pending message (R49). -/
theorem State.unmasked_of_pending {s : State} {vec : Nat} (h : s.evt.msixPend.contains vec = true) :
    s.unmasked vec = ({ s with evt := { s.evt with msixPend := drop1 s.evt.msixPend vec } } : State).sendMsix vec := by
  rw [State.unmasked, if_pos h]

/-- A route entry for a core, or for one of the vectors there are, is stored (R52). -/
theorem State.wRoute_of_good (s : State) (req : Requester) {v : Word} (h : tb v 16 = true ∨ tb v 11 = false) :
    s.wRoute req v = State.routeNext { s.mend (routeKey (s.rfld P.evt0 R.EVT0_ROUTE_SEL 11 0)) with
      evt := { s.evt with routes := Map.put (dflt 0) s.evt.routes (s.rfld P.evt0 R.EVT0_ROUTE_SEL 11 0) (v &&& 0o607777) } } := by
  have hok : (!tb v 16 && tb v 11) = false := by obtain h | h := h <;> simp [h]
  exact if_neg (by rw [hok]; decide)

/-- A write of ROUTE_DATA past R38 is one of the selected entry (R52). -/
theorem exec_routeDataAccess_write (req : Requester) {s : State} {v : Word} (hd : s.deaf P.evt0 = false) :
    exec (.routeDataAccess req (some v)) s = .next (s.wRoute req v) :=
  congrArg Host.Outcome.next (if_neg (by rw [hd]; decide))

/-- Under AUTOINC an access advances ROUTE_SEL (R52). -/
theorem State.routeNext_of_autoinc {s : State} (h : s.rbit P.evt0 R.EVT0_EVT_CTRL 0 = true) :
    s.routeNext = s.setRfld P.evt0 R.EVT0_ROUTE_SEL 11 0 (s.rfld P.evt0 R.EVT0_ROUTE_SEL 11 0 + 1) := if_pos h

/-- Settles O14: delivery by the route entry where the source arrives, and the event registers row by row. -/
theorem raisedSourcesReachTheirTargets : Obligations.RaisedSourcesReachTheirTargets := by
  refine ⟨fun src f s h hf hq => exec_eventDeliver_dropped h hf hq, fun src s h hq => ?_,
    fun src s => ⟨State.lose_of_free src, State.lose_of_held src⟩, fun vec s hvec => ?_,
    fun req s => ⟨rfl, fun v hd hv => ?_⟩, fun s => State.routeNext_of_autoinc, fun req s => rfl,
    fun req i v s => ⟨written_of_taken, ?_, rfl⟩⟩
  · obtain ⟨e, he⟩ : ∃ e, e = Map.get (dflt 0) s.evt.routes src := ⟨_, rfl⟩
    have hroute (hon : tb e 17 = true) (hgood : s.isBad (routeKey src) = false) :
        exec (.eventDeliver src) s = .next (s.routed src e) := by
      rw [exec_eventDeliver_arrived h hq, State.deliver_arrived he hon hgood]
    refine ⟨s.take src, s.arrived src, e, rfl, State.arrived_near, fun f => State.arrived_far, he,
      fun hon hgood ht hm => ?_, fun hon hgood ht hm => ?_, fun hon hgood ht hq => ?_, fun hon hgood ht hq => ?_⟩
    · simp [hroute hon hgood, State.routed, ht, hm]
    · simp [hroute hon hgood, State.routed, ht, hm]
    · simp [hroute hon hgood, State.routed, ht, hq]
    · simp [hroute hon hgood, State.routed, ht, hq]
  · refine ⟨_, rfl, fun hp => ?_, fun hp => ?_⟩
    · exact congrArg Host.Outcome.next ((s.wMsix_unmask hvec).trans (State.unmasked_of_idle hp))
    · exact congrArg Host.Outcome.next ((s.wMsix_unmask hvec).trans (State.unmasked_of_pending hp))
  · exact ⟨_, rfl, (exec_routeDataAccess_write req hd).trans (by rw [s.wRoute_of_good req hv]; rfl)⟩
  · exact (State.reg_setReg s _ _ _ _ _).trans (if_pos rfl)
end Sys2Proof.Machine
end

section
/-! PROOFS. The Causeway links (R28 to R30): what a transfer counts, and what fails a link. -/
namespace Sys2Proof.Machine

section
variable {dieF : Bool} {s : State}

/-- CAUSEWAY_IDLE on a link that carries transfers (R29). -/
theorem exec_causewayIdle (hup : s.linkUp dieF = true) (far : Bool) : exec (.causewayIdle dieF far) s =
    .next (s.putLink dieF (if far then
        { s.link dieF with farTx := (s.link dieF).farTx + 1, farIdles := (s.link dieF).farIdles + 1 }
      else { s.link dieF with tx := (s.link dieF).tx + 1, idles := (s.link dieF).idles + 1 })) :=
  when_of_true hup

/-- CAUSEWAY_SILENCE on such a link (R29). -/
theorem exec_causewaySilence (hup : s.linkUp dieF = true) : exec (.causewaySilence dieF) s = .next (s.linkFail dieF 3) :=
  when_of_true hup

variable {far : Bool} {payload : List Word} {ctr : BitVec 72} {tag : BitVec 36}

/-- CAUSEWAY_TRANSFER_RECEIVE on such a link: the tag is checked, then the counter (R28, R29). -/
theorem exec_causewayTransferReceive (hup : s.linkUp dieF = true) :
    exec (.causewayTransferReceive dieF far payload ctr tag) s =
      .next (if tag ≠ Config.linkTag (s.link dieF).key (!far) ctr payload then s.linkFail dieF 1
        else if ctr ≠ (s.link dieF).next far then s.linkFail dieF 2 else s.putLink dieF ((s.link dieF).accept far)) :=
  when_of_true hup

end

/-- Settles O15: idle and silence by their rows, a received transfer by the two checks it passes. -/
theorem causewayTransfersCountUntilTheLinkFails : Obligations.CausewayTransfersCountUntilTheLinkFails := by
  intro dieF s hquar hreset
  have hup : s.linkUp dieF = true := by simp [State.linkUp, hquar, hreset]
  refine ⟨exec_causewayIdle hup false, exec_causewayIdle hup true,
    fun far payload ctr tag htag (hctr : ctr = (s.link dieF).next far) => ?_, fun far payload ctr tag htag => ?_,
    fun far payload ctr tag htag (hctr : ctr ≠ (s.link dieF).next far) => ?_, exec_causewaySilence hup⟩
  · rw [exec_causewayTransferReceive hup, if_neg (not_not_intro htag), if_neg (not_not_intro hctr)]
    rfl
  · rw [exec_causewayTransferReceive hup, if_pos htag]
  · rw [exec_causewayTransferReceive hup, if_neg (not_not_intro htag), if_pos hctr]

end Sys2Proof.Machine
end

section
/-! PROOFS. A job from its place in the queue to its publication (R63 to R75, R91, R96, R97). -/
namespace Sys2Proof.Machine

/-- A session context whose words are sound is left as it is when the context is read (R512). -/
theorem State.ctxUe_of_sound {s : State} {sess : Option Nat}
    (h : ∀ n c, sess = some n → s.sessSlot n = some c → s.struckIn (ctxBase c) 64 = none) : s.ctxUe sess = s := by
  cases sess with
  | none => rfl
  | some n =>
    cases hc : s.sessSlot n with
    | none => simp [State.ctxUe, hc]
    | some c => simp [State.ctxUe, hc, h n c rfl hc]

section
variable {s : State} {key : Nat} {j : Job}

/-- JOB_PLACE where all that it reads is sound (R512). -/
theorem exec_jobPlace_of_sound (hj : s.job key = some j) (hr : s.readsSound j) :
    exec (.jobPlace key) s = s.placeNext key := by
  obtain ⟨htab, hctx⟩ := hr
  have hue : s.placeUe key = s := by
    rw [State.placeUe, hj]
    exact State.ctxUe_of_sound hctx
  calc exec (.jobPlace key) s = execJobPlace key s := rfl
    _ = s.placeNext key := by simp only [execJobPlace, htab, hue]

/-- A fetched job that may leave is placed (R69, R96). -/
theorem State.placeNext_fetched (hj : s.job key = some j) (hst : j.st = .fetched) (hl : s.canLeave key j = true)
    (hop : j.opcode ≠ 0) (hp : j.isProg = false) : s.placeNext key = .next (s.place key j) := by
  simp [State.placeNext, when, hj, hst, hl, hop, hp]

/-- A dispatched job of this device starts where it needs no unit, else it is moved if its unit is lost (log entry 22). -/
theorem State.placeNext_dispatched (hj : s.job key = some j) (hst : j.st = .dispatched) (hf : j.fwd = none) :
    s.placeNext key = .next (if j.unit.isNone then s.setJob key { j with st := .running } else s.moveJob key j) := by
  simp [State.placeNext, hj, hst, hf]

/-- The placement of a job other than PAGE_LOAD ends no page request (R82). -/
theorem State.place_of_ne (s : State) (key : Nat) (h : j.opcode ≠ 0o010) : s.place key j = s.placeJob key j := by
  simp only [State.place, h, false_and, if_false]

/-- A job of a unit with neither session nor credential, which nothing refuses, goes to any region (R96 step 3). -/
theorem State.placeJob_any {t : UType} (hc : s.sessionCheck key j = none) (hcmd : j.cmd = none)
    (hcust : s.custodyReady key j = true) (haka : s.gbAkaWait key j = none) (ht : j.utype = t)
    (hunit : t = .cipher ∨ t = .digest ∨ t = .bignum ∨ t = .core) (hcred : s.credOf key j = none)
    (hsess : j.sess = none) :
    s.placeJob key j = s.placeAny key j t := by
  obtain rfl | rfl | rfl | rfl := hunit <;>
    simp [State.placeJob, ht, hc, hcmd, hcust, haka, hcred, hsess]

/-- A free input slot of the region's choice takes the job (R97). -/
theorem State.placeAny_of_free {t : UType} {p rg : Nat} (hany : (List.range 4).any (s.hasUnit t) = true)
    (hrg : s.pickRegion t = rg) (hpark : s.parkedAhead t rg j.cls = false) (hp : s.pickUnit t rg = some p) :
    s.placeAny key j t = State.enqueue { s with lode := { s.lode with
      lastRegion := rg, lastUnit := Map.put (dflt 0) s.lode.lastUnit (rg * 64 + typeNo t) p } } key j p rg := by
  rw [State.placeAny, if_pos hany, hrg, State.placeUnit, if_neg (by rw [hpark]; decide), hp]

/-- A job whose unit no longer serves moves to another one of its region (R22, R191). -/
theorem State.moveJob_of_lost {p p' : Nat} (hu : j.unit = some p) (hs : s.serves p = false) (hp : p < 0x400)
    (hpick : s.pickUnit j.utype j.region = some p') :
    s.moveJob key j = (s.setInQ p (drop1 (s.inQ p) key)).enqueue key j p' j.region := by
  have hstay : (s.serves p || decide (0x400 ≤ p)) = false := by simp [hs, hp]
  simp only [State.moveJob, hu, hpick, hstay, Bool.false_eq_true, if_false]

/-- A NOP ends as the check of its session says (R63, R71). -/
theorem exec_wqNop (hj : s.job key = some j) (hst : j.st = .fetched) (hl : s.canLeave key j = true) (hop : j.opcode = 0) :
    exec (.wqNop key) s = .next (s.finish key j ((s.sessionCheck key j).getD S.ok)) :=
  calc exec (.wqNop key) s = execWqNop key s := rfl
    _ = _ := by simp [execWqNop, hj, when, hst, hl, hop]

/-- HOST_WRITE_ERROR on a finished job of an enabled queue (R91). -/
theorem exec_hostWriteError (hj : s.job key = some j) (ho : j.origin = none) (hst : j.st = .done)
    (hc : (s.queue j.queue).fifo.contains key = true) (hen : s.en (P.wq j.queue) = true) {later : List Nat}
    (hlater : later = key :: (s.queue j.queue).fifo.drop ((before key (s.queue j.queue).fifo).length + 1)) :
    exec (.hostWriteError key) s = .next
      ((((s.each later.reverse (fun t k => t.discardFrom j.queue k)).pgErr (P.wq j.queue) 3 .host R.WQ_HEAD).queueError
        j.queue (wd j.pos) 0o012)) := by
  subst hlater
  calc exec (.hostWriteError key) s = execHostWriteError key s := rfl
    _ = _ := by
      simp only [execHostWriteError, hj]
      exact when_of_true (by simp only [ho, hst, hc, hen]; decide)

end

/-- HEAD_PUBLISH on an enabled queue with a finished job at its front (R72). -/
theorem exec_headPublish {q : Nat} {s : State} (hen : s.en (P.wq q) = true) (hs : s.stat (P.wq q) ST.stopping = false)
    (hd : s.donePrefix (s.queue q).fifo ≠ []) : exec (.headPublish q) s = .next (s.publish q) :=
  when_of_true (by simp [hen, hs, hd])

/-- IRQ_MOD_TIMER with a time set and publications unreported (R75). -/
theorem exec_irqModTimer {q : Nat} {s : State} (ht : s.rfld (P.wq q) R.WQ_IRQ_MOD 8 0 ≠ 0)
    (hu : (s.queue q).unreported ≠ 0) :
    exec (.irqModTimer q) s = .next ((s.setQueue q { s.queue q with unreported := 0 }).event (P.wq q) 0) :=
  when_of_true (by simp [ht, hu])

/-- Settles O17: each row by the lemma about it, JOB_PLACE by the state of the job. -/
theorem jobsLeaveTheQueueAndArePublished : Obligations.JobsLeaveTheQueueAndArePublished := by
  refine ⟨fun key j s hj hst hl hr => ⟨fun hop hprog => ?_,
      fun t p rg hop hload hprog hcmd hsess hcred hcheck hcust haka ht hunit hany hrg hpark hp => ?_,
      fun hop hcheck => ?_, fun st hop hcheck => ?_⟩,
    fun key j s hj hst hf hr => ⟨fun hu => ?_, fun p p' hu hs hp hpick => ?_⟩,
    fun q s => exec_headPublish, fun q s => exec_irqModTimer,
    fun key j s hj ho hst hc hen => ⟨_, rfl, exec_hostWriteError hj ho hst hc hen rfl⟩⟩
  · rw [exec_jobPlace_of_sound hj hr, State.placeNext_fetched hj hst hl hop hprog]
  · rw [exec_jobPlace_of_sound hj hr, State.placeNext_fetched hj hst hl hop hprog, s.place_of_ne key hload,
      State.placeJob_any hcheck hcmd hcust haka ht hunit hcred hsess, State.placeAny_of_free hany hrg hpark hp]
  · rw [exec_wqNop hj hst hl hop, hcheck, Option.getD_none]
  · rw [exec_wqNop hj hst hl hop, hcheck, Option.getD_some]
  · rw [exec_jobPlace_of_sound hj hr, State.placeNext_dispatched hj hst hf, hu, Option.isNone_none, if_pos rfl]
  · rw [exec_jobPlace_of_sound hj hr, State.placeNext_dispatched hj hst hf, State.moveJob_of_lost hu hs hp hpick, hu]
    rfl

end Sys2Proof.Machine
end

section
/-! PROOFS. From the doorbell to a job with its data (R57, R60, R61, R65 to R68). -/
namespace Sys2Proof.Machine

/-! ### The doorbell (R57) -/

/-- A write of another word of a page leaves its EN. -/
theorem State.en_setReg_of_ne (s : State) (p : Nat) {w : Nat} (v : Word) (h : w ≠ R.PG_CTRL) :
    (s.setReg p w v).en p = s.en p := by
  simp [State.en, State.rbit, h.symm]

/-- A write of another word of a page leaves its status bits. -/
theorem State.stat_setReg_of_ne (s : State) (p i : Nat) {w : Nat} (v : Word) (h : w ≠ R.PG_STAT) :
    (s.setReg p w v).stat p i = s.stat p i := by
  simp [State.stat, State.rbit, h.symm]

section
variable {q : Nat} {val : Word} {s : State} (req : Requester) (hd : s.deaf (P.wq q) = false)
include hd

/-- A doorbell in range at an enabled queue stores the tail and lets fetching go on (R57, R66). -/
theorem exec_tailDbWrite_inRange (hen : s.en (P.wq q) = true) (hs : s.stat (P.wq q) ST.stopping = false)
    (hr : s.dbInRange q (val &&& 0o377777) = true) : exec (.tailDbWrite req q val) s = .next
      ((s.setReg (P.wq q) R.WQ_TAIL_DB (val &&& 0o377777)).setQueue q
        { s.queue q with rung := true, stalled := false }) := by
  refine (written_of_taken hd).trans ?_
  simp only [hr, if_true, State.en_setReg_of_ne s _ _ (w := R.WQ_TAIL_DB) (by decide),
    State.stat_setReg_of_ne s _ _ (w := R.WQ_TAIL_DB) _ (by decide), hen, hs]
  rfl

/-- A doorbell out of range records the error of bit 2 (R57). -/
theorem exec_tailDbWrite_outOfRange (hr : s.dbInRange q (val &&& 0o377777) = false) :
    exec (.tailDbWrite req q val) s = .next (s.pgErr (P.wq q) 2 req R.WQ_TAIL_DB) := by
  refine (written_of_taken hd).trans ?_
  rw [if_neg (by rw [hr]; decide)]

end

/-! ### The read at FETCH (R65, R66, R68) -/

section
variable {q : Nat} {cells : List Octet} {s : State}

/-- ENTRY_FETCH_DATA at a queue that may fetch. -/
theorem exec_entryFetchData (err : Bool) (hf : s.mayFetch q = true) :
    exec (.entryFetchData q cells err) s = .next (s.fetchEntry q cells err) :=
  when_of_true hf

/-- With a header held, what is read is the entry's body. -/
theorem State.fetchEntry_of_held {hc : List Octet} (err : Bool) (hh : (s.queue q).hdr = some hc) {h : Header}
    (hdec : h = decodeHeader (s.rbit (P.wq q) R.WQ_CFG 17) hc) :
    s.fetchEntry q cells err = s.takeEntry q h ((cells.drop 16).take (16 * (h.len - 1))) err := by
  simp only [State.fetchEntry, hh, hdec]

/-- A read at FETCH that has a header, where none is held. -/
theorem State.fetchEntry_of_header (err : Bool) (hn : (s.queue q).hdr = none) (hl : 16 ≤ cells.length) {h : Header}
    (hdec : h = decodeHeader (s.rbit (P.wq q) R.WQ_CFG 17) (cells.take 16)) : s.fetchEntry q cells err =
      if h.own = false ∨ h.lap ≠ tb (s.reg (P.wq q) R.WQ_FETCH) 16 then s.setQueue q { s.queue q with stalled := true }
      else if h.len ≤ 1 then s.takeEntry q h [] false
      else s.setQueue q { s.queue q with hdr := some (cells.take 16) } := by
  simp [State.fetchEntry, hn, hl.not_gt, hdec]

/-- A read at FETCH that failed before a header came, where none is held (log entry 93). -/
theorem State.fetchEntry_of_hostError (hn : (s.queue q).hdr = none) (hl : cells.length < 16) :
    s.fetchEntry q cells true = if s.beyondDb q then s.setQueue q { s.queue q with stalled := true }
      else s.queueError q (s.reg (P.wq q) R.WQ_FETCH) 0o011 := by
  simp only [State.fetchEntry, hn, hl, if_true]

end

/-! ### The entry (R67, R68) -/

section
variable {s : State} {q : Nat} {h : Header} {body : List Octet} {err : Bool} {pos : Word} {gb : Bool}
  (hpos : pos = s.reg (P.wq q) R.WQ_FETCH) (hgb : gb = s.rbit (P.wq q) R.WQ_CFG 17)
include hpos hgb

/-- An entry that a check refuses stops its queue at its position (R68). -/
theorem State.takeEntry_of_refused {c : Nat} (hc : entryCause gb (s.log2size q) pos h body err = some c) :
    s.takeEntry q h body err = s.queueError q pos c := by
  subst hpos hgb
  simp only [State.takeEntry, hc]

/-- An entry whose cells have not all come is left. -/
theorem State.takeEntry_of_incomplete (hc : entryCause gb (s.log2size q) pos h body err = none)
    (hl : body.length < 16 * (h.len - 1)) : s.takeEntry q h body err = s := by
  subst hpos hgb
  simp only [State.takeEntry, hc, hl, if_true]

/-- A whole entry becomes the last job of its queue, and FETCH moves past it (R67). -/
theorem State.takeEntry_of_whole (hc : entryCause gb (s.log2size q) pos h body err = none)
    (hl : body.length = 16 * (h.len - 1)) {j : Job} {u : State}
    (hj : j = newJob q pos.toNat gb h body (s.rfld (P.wq q) R.WQ_CFG 16 15) (Map.get (dflt 0) s.cust.qkeys q)
      (s.rbit (P.wq q) R.WQ_CFG 14) (s.rbit (P.wq q) R.WQ_CFG 13))
    (hu : u = (s.setJob (jobKey q pos.toNat) j).setFetch q (posAdd (s.log2size q) pos h.len)) :
    s.takeEntry q h body err =
      u.setQueue q { u.queue q with fifo := (u.queue q).fifo ++ [jobKey q pos.toNat], hdr := none } := by
  subst hpos hgb hj hu
  simp only [State.takeEntry, hc, hl.not_lt, if_false]

end

/-! ### Host data (R60, R61) -/

/-- HOST_DATA_ARRIVE for a cell that a waiting job reads and that is not all there (R61). -/
theorem exec_hostDataArrive {key cell : Nat} {sg data : List Octet} {j : Job} {s : State} (err : Bool)
    (hj : s.job key = some j) (hst : j.st ≠ .done)
    (hcell : (descCells j.gb j.opcode j.oparg).contains cell = true ∨ (j.utype = .core ∧ 0 < cell ∧ cell < j.len))
    (hmiss : (j.inp cell).isSome = false ∨ j.dataHere cell = false) :
    exec (.hostDataArrive key cell sg data err) s = .next
      (if err then s.setJob key { j with hostErr := true }
        else if (j.inp cell).isSome then s.setJob key (j.moreIn cell data)
        else (hostIn j cell sg data).elim s (fun h => s.setJob key { j with inputs := j.inputs ++ [h] })) := by
  have hreads : ((descCells j.gb j.opcode j.oparg).contains cell ||
      (decide (j.utype = .core) && decide (0 < cell) && decide (cell < j.len))) = true := by
    obtain h | ⟨ht, h0, hlen⟩ := hcell
    · rw [h, Bool.true_or]
    · simp [ht, h0, hlen]
  have hpart : ((j.inp cell).isSome && j.dataHere cell) = false := Bool.and_eq_false_iff.mpr hmiss
  calc exec (.hostDataArrive key cell sg data err) s = execHostDataArrive key cell sg data err s := rfl
    _ = _ := by
      simp only [execHostDataArrive, hj, hreads, hst, hpart, decide_false, Bool.not_true, Bool.or_false,
        Bool.false_eq_true, if_false]
      cases hostIn j cell sg data <;> split_ifs <;> rfl

/-- Settles O16: doorbell, read at FETCH, entry and host data, each by the lemmas of its cases. -/
theorem queueEntriesAreFetchedInOrder : Obligations.QueueEntriesAreFetchedInOrder := by
  refine ⟨fun req q val s hd hen hs => ⟨exec_tailDbWrite_inRange req hd hen hs, exec_tailDbWrite_outOfRange req hd⟩,
    fun q cells err s hf hn => ⟨fun hl => ⟨_, rfl, fun hbad => ?_, fun hown hlap => ⟨fun hlen => ?_, fun hlen => ?_⟩⟩,
      fun hl => ⟨fun hb => ?_, fun hb => ?_⟩⟩,
    fun q cells hc err s hf hh => ⟨_, rfl, ?_⟩,
    fun q h body err s => ⟨_, _, rfl, rfl, fun c => State.takeEntry_of_refused rfl rfl,
      State.takeEntry_of_incomplete rfl rfl, fun hc hl => ⟨_, _, rfl, rfl, State.takeEntry_of_whole rfl rfl hc hl rfl rfl⟩⟩,
    fun key cell sg data j s hj hst hcell => ⟨fun hmiss => ?_, fun h hno hin => ?_, fun hsome hpart => ?_⟩⟩
  · rw [exec_entryFetchData err hf, State.fetchEntry_of_header err hn hl rfl, if_pos hbad]
  · rw [exec_entryFetchData err hf, State.fetchEntry_of_header err hn hl rfl, if_neg (by simp [hown, hlap]),
      if_neg hlen.not_ge]
  · rw [exec_entryFetchData err hf, State.fetchEntry_of_header err hn hl rfl, if_neg (by simp [hown, hlap]), if_pos hlen]
  · rw [exec_entryFetchData true hf, State.fetchEntry_of_hostError hn hl, if_pos hb]
  · rw [exec_entryFetchData true hf, State.fetchEntry_of_hostError hn hl, if_neg (by rw [hb]; decide)]
  · rw [exec_entryFetchData err hf, State.fetchEntry_of_held err hh rfl]
  · rw [exec_hostDataArrive true hj hst hcell hmiss, if_pos rfl]
  · rw [exec_hostDataArrive false hj hst hcell (.inl hno), hno, hin]
    rfl
  · rw [exec_hostDataArrive false hj hst hcell (.inr hpart), hsome]
    rfl

end Sys2Proof.Machine
end

section
/-! PROOFS. Jobs that park and resume, sessions that move, and a page request lost on its way (R81, R99 to R102, R188, R512). -/
namespace Sys2Proof.Machine

/-! ### JOB_PARK (R101, R191) -/

section
variable {key done p : Nat} {j : Job} {s t : State} (hj : s.job key = some j) (hu : j.unit = some p)
  (hcan : s.parkable key j = true) (ht : s.park key j done = some t)
include hj hu hcan ht

/-- On a unit that shuts down, the job parks alone (R191). -/
theorem exec_jobPark_shut (hshut : s.shutPark j = true) : exec (.jobPark key done) s = .next t :=
  calc exec (.jobPark key done) s = execJobPark key done s := rfl
    _ = .next t := by simp [execJobPark, hj, hu, hcan, hshut, ht]

/-- A victim parks, the preemption is counted, and the waiting job takes the unit (R101). -/
theorem exec_jobPark_victim {w : Nat × Job} (hrun : s.shutPark j = false)
    (hw : s.isVictim s.parkable key j = some w) :
    exec (.jobPark key done) s = .next ((t.inc36 P.lode R.LODE_PREEMPTS).placeOn w p j.region) :=
  calc exec (.jobPark key done) s = execJobPark key done s := rfl
    _ = _ := by simp [execJobPark, hj, hu, hcan, hrun, hw, ht]

end

/-! ### JOB_RESUME (R102, R188) -/

/-- A job without a unit is not changed when it gives its unit up. -/
theorem Job.with_unit_none {j : Job} (h : j.unit = none) : { j with unit := none } = j := by
  rw [← h]

/-- What becomes of a parked job whose resumption fails: its record is cleared, and it completes (R188). -/
def State.stopResume (s : State) (key : Nat) (j : Job) (st : Nat) : State :=
  (s.freeRec j).fail key { j with parkMode := 0 } st

/-- A failed resumption takes the unit from the job, which has none. -/
theorem State.stopResume_of_unit_none {j : Job} (s : State) (key st : Nat) (h : j.unit = none) :
    (s.freeRec j).fail key { j with unit := none, parkMode := 0 } st = s.stopResume key j st := by
  rw [State.stopResume, ← h]

/-- JOB_RESUME of a parked job with a unit to go to: the saved state is read, then the key is asked for (R102, R188, R512). -/
theorem exec_jobResume {key p : Nat} {j : Job} {s : State} (rec : List Octet) (err : Bool) (hj : s.job key = some j)
    (hst : j.st = .parked) (hu : j.unit = none) (hp : s.resumeUnit j = some p) :
    exec (.jobResume key rec err) s = .next
      (if j.parkMode = 3 ∧ err = true then s.stopResume key j S.aborted
        else (s.recStruck j).elim
          ((s.savedWords j rec).elim (s.stopResume key j S.authFail)
            (fun ws => (s.resumeKey key j).elim (s.resumeOn key j p ws) (s.stopResume key j)))
          s.memUe) := by
  calc exec (.jobResume key rec err) s = execJobResume key rec err s := rfl
    _ = _ := by
      simp only [execJobResume, hj]
      rw [if_neg (by simp [hst, hu])]
      simp only [hp, hu, Job.with_unit_none hu, s.stopResume_of_unit_none key _ hu]
      split_ifs
      · rfl
      · cases s.recStruck j with
        | some a => rfl
        | none => cases s.savedWords j rec with
          | none => rfl
          | some ws => cases s.resumeKey key j <;> rfl

/-! ### SESSION_MIGRATE (R100) and PRQ_HOST_ERROR (R548) -/

/-- SESSION_MIGRATE of a moving session whose context is sound copies it to its new slot (R100). -/
theorem exec_sessionMigrate {sess n t c : Nat} {s u : State}
    (hm : s.lode.moving.find? (fun m => m.1 == sess) = some (n, t)) (hc : s.sessSlot sess = some c)
    (hs : s.struckIn (ctxBase c) 64 = none)
    (hu : u = (s.setWords (ctxBase t) (s.words (ctxBase c) 64)).clearWords (ctxBase c) 64) :
    exec (.sessionMigrate sess) s = .next (State.inc36 { u with lode := { u.lode with
        slotOf := Map.put (dflt 0) u.lode.slotOf sess (t + 1), count := Map.put (dflt 0) u.lode.count sess 0,
        moving := u.lode.moving.filter (fun m => m.1 != sess) } } P.lode R.LODE_MIGRATIONS) := by
  have hsound (n' c' : Nat) (hn : (if s.isMoving sess then some sess else none) = some n')
      (hc' : s.sessSlot n' = some c') : s.struckIn (ctxBase c') 64 = none := by
    obtain ⟨-, hn⟩ := Option.ite_none_right_eq_some.mp hn
    obtain rfl := Option.some.inj hn
    obtain rfl : c = c' := Option.some.inj (hc.symm.trans hc')
    exact hs
  calc exec (.sessionMigrate sess) s = execSessionMigrate sess s := rfl
    _ = s.migrate sess := by rw [execSessionMigrate, State.ctxUe_of_sound hsound]
    _ = _ := by simp only [State.migrate, hm, hc, hu]

/-- PRQ_HOST_ERROR takes the last request back, counts it lost and ends it (R548). -/
theorem exec_prqHostError {page n : Nat} {s u : State} (hl : s.cust.lastReq = some page)
    (hn : n = s.rfld P.cred R.CRED_PRQ_SIZE 4 0)
    (hu : u = ((s.setReg P.cred R.CRED_PRQ_PROD (posAdd n (s.reg P.cred R.CRED_PRQ_PROD) (2 ^ (n + 1) - 1))).prqLose).pgErr
      P.cred 2 .host R.CRED_PRQ_BASE) :
    exec .prqHostError s = .next (State.endRequest { u with cust := { u.cust with lastReq := none } } page true true) :=
  calc exec .prqHostError s = execPrqHostError s := rfl
    _ = _ := by simp only [execPrqHostError, hl, hn, hu]

/-- Settles O18: each row by the lemma about it, JOB_RESUME in the order of its checks. -/
theorem jobsParkResumeAndMoveSessions : Obligations.JobsParkResumeAndMoveSessions := by
  refine ⟨fun key done j p t s hj hu hcan ht => ⟨exec_jobPark_shut hj hu hcan ht, fun w => exec_jobPark_victim hj hu hcan ht⟩,
    fun key rec p j s hj hst hu hp => ⟨fun hm => ?_, fun a ha => ?_,
      fun hr => ⟨fun hw => ?_, fun ws hw => ⟨fun st hk => ?_, fun hk => ?_⟩⟩⟩,
    fun sess n t c s hm hc hs => ⟨_, rfl, exec_sessionMigrate hm hc hs rfl⟩,
    fun page s hl => ⟨_, _, rfl, rfl, exec_prqHostError hl rfl rfl⟩⟩
  · rw [exec_jobResume rec true hj hst hu hp, if_pos ⟨hm, rfl⟩, State.stopResume]
  · rw [exec_jobResume rec false hj hst hu hp, if_neg (by simp), ha, Option.elim_some]
  · rw [exec_jobResume rec false hj hst hu hp, if_neg (by simp), hr, Option.elim_none, hw, Option.elim_none, State.stopResume]
  · rw [exec_jobResume rec false hj hst hu hp, if_neg (by simp), hr, Option.elim_none, hw, Option.elim_some, hk,
      Option.elim_some, State.stopResume]
  · rw [exec_jobResume rec false hj hst hu hp, if_neg (by simp), hr, Option.elim_none, hw, Option.elim_some, hk,
      Option.elim_none]

end Sys2Proof.Machine
end

section
/-! PROOFS. The session jobs (R159 to R162): the context each leaves pending, and what SESS_OPEN refuses. -/
namespace Sys2Proof.Machine

/-- An opcode's row acts on a running job of its opcode that reads no lost word. -/
theorem State.onRun_of_runs {s : State} {key op : Nat} {j : Job} (h : s.runs key op j) (f : Job → State) :
    s.onRun key op f = .next (f j) := by
  obtain ⟨hj, hst, hop, hsound⟩ := h
  simp [State.onRun, State.onJob, hj, hst, hop, hsound]

/-! ### SESS_OPEN (R99, R160) -/

section
variable {s : State} {key : Nat} {j : Job} (hr : s.runs key 0o001 j)
include hr

/-- Reserved operand bits refuse SESS_OPEN. -/
theorem exec_sessOpen_reserved (h : bits j.oparg 31 5 ≠ 0 ∨ sessClean j = false) :
    exec (.sessOpen key) s = .next (s.fail key j S.invalidOperand) :=
  (State.onRun_of_runs hr _).trans (congrArg Host.Outcome.next (if_pos (by simpa using h)))

variable (ho : bits j.oparg 31 5 = 0) (hc : sessClean j = true)
include ho hc

/-- A SESS_OPEN of reserved bits 0 is checked for its colour, then for stale references. -/
theorem exec_sessOpen_clean : exec (.sessOpen key) s = .next
    (if !j.keyHolds (bits j.oparg 3 0) then s.fail key j S.denied
      else if s.sessStale key j then s.fail key j S.staleHandle
      else State.finish { s.allocSlot (j.sess.getD 0) j.region with
          lode := { (s.allocSlot (j.sess.getD 0) j.region).lode with
            count := Map.put (dflt 0) (s.allocSlot (j.sess.getD 0) j.region).lode.count (j.sess.getD 0) 0 } }
        key { j with pendSess := some (newCtx j) } S.ok) :=
  (State.onRun_of_runs hr _).trans (congrArg Host.Outcome.next (if_neg (by simp [ho, hc])))

/-- A colour that the queue key does not hold refuses SESS_OPEN (R160). -/
theorem exec_sessOpen_colour (hk : j.keyHolds (bits j.oparg 3 0) = false) :
    exec (.sessOpen key) s = .next (s.fail key j S.denied) := by
  rw [exec_sessOpen_clean hr ho hc, if_pos (by rw [hk]; rfl)]

variable (hk : j.keyHolds (bits j.oparg 3 0) = true)
include hk

/-- A stale reference or handle refuses SESS_OPEN. -/
theorem exec_sessOpen_stale (hs : s.sessStale key j = true) :
    exec (.sessOpen key) s = .next (s.fail key j S.staleHandle) := by
  rw [exec_sessOpen_clean hr ho hc, if_neg (by rw [hk]; decide), if_pos hs]

/-- A SESS_OPEN that nothing refuses takes a slot and a fresh count, and leaves the new context pending (R99, R159). -/
theorem exec_sessOpen_live (hs : s.sessStale key j = false) {u : State} (hu : u = s.allocSlot (j.sess.getD 0) j.region) :
    exec (.sessOpen key) s = .next (State.finish { u with
      lode := { u.lode with count := Map.put (dflt 0) u.lode.count (j.sess.getD 0) 0 } }
        key { j with pendSess := some (newCtx j) } S.ok) := by
  rw [exec_sessOpen_clean hr ho hc, if_neg (by rw [hk]; decide), if_neg (by rw [hs]; decide), hu]

end

/-! ### SESS_CLOSE and SESS_REKEY (R160) -/

section
variable {s : State} {key : Nat} {j : Job} (ho : j.oparg = 0)
include ho

/-- SESS_CLOSE ends the session's failure and leaves an empty context pending (Table 19-3). -/
theorem exec_sessClose (hr : s.runs key 0o002 j) : exec (.sessClose key) s =
    .next (State.finish { s with diag := { s.diag with failSess := drop1 s.diag.failSess (j.sess.getD 0) } }
      key { j with pendSess := some (List.replicate 64 0) } S.ok) :=
  (State.onRun_of_runs hr _).trans (congrArg Host.Outcome.next (if_neg (not_not_intro ho)))

/-- SESS_REKEY keeps the header, and leaves zeroed counter and chaining state and the new keys pending. -/
theorem exec_sessRekey (hr : s.runs key 0o003 j) (hc : sessClean j = true) (hs : s.sessStale key j = false) :
    exec (.sessRekey key) s = .next (s.finish key { j with
      pendSess := some ([cw (s.sessView key j (j.sess.getD 0)) 0, 0, 0, 0] ++ sessKeys j ++ List.replicate 46 0) } S.ok) := by
  refine (State.onRun_of_runs hr _).trans (congrArg Host.Outcome.next ?_)
  rw [if_neg (by simp [ho, hc]), if_neg (by rw [hs]; decide)]

end

/-- Settles O24: SESS_OPEN in the order of its checks, SESS_CLOSE and SESS_REKEY where nothing refuses them. -/
theorem sessionJobsChangeTheContextAtPublication : Obligations.SessionJobsChangeTheContextAtPublication :=
  ⟨fun _ _ _ hr => ⟨exec_sessOpen_reserved hr, exec_sessOpen_colour hr,
      fun ho hc hk => ⟨exec_sessOpen_stale hr ho hc hk, fun hs => ⟨_, rfl, exec_sessOpen_live hr ho hc hk hs rfl⟩⟩⟩,
    fun _ _ _ hr ho => exec_sessClose ho hr,
    fun _ _ _ hr ho hc hs => exec_sessRekey ho hr hc hs⟩

end Sys2Proof.Machine
end

section
/-! PROOFS. One nanosecond on an empty queue (log entry 2, R123). -/
namespace Sys2Proof.Machine

/-! ### The system clock (R123) -/

section
variable {c : Clock} {now : Nat}

/-- With nothing to slew, or between two slewed nanoseconds, system time follows SYSCLK. -/
theorem Clock.tick_steady (h : c.slew = 0 ∨ now % 10000 ≠ 0) : c.tick now = { c with sys := c.sys + 1 } :=
  if_pos h.symm

/-- Ahead of the master, a slewed nanosecond is withheld. -/
theorem Clock.tick_withheld (hn : now % 10000 = 0) (hs : 0 < c.slew) : c.tick now = { c with slew := c.slew - 1 } := by
  rw [Clock.tick, if_neg (by simp [hn, hs.ne']), if_pos hs]

/-- Behind the master, a slewed nanosecond counts twice. -/
theorem Clock.tick_doubled (hn : now % 10000 = 0) (hs : c.slew < 0) :
    c.tick now = { c with sys := c.sys + 2, slew := c.slew + 1 } := by
  rw [Clock.tick, if_neg (by simp [hn, hs.ne]), if_neg hs.not_gt]

end

/-! ### The step on an empty queue -/

/-- In reset a nanosecond advances the model's clock alone. -/
theorem State.tick_inReset {s : State} (h : s.inReset = true) : s.tick = { s with now := s.now + 1 } := if_pos h

/-- Outside reset it advances system time and the cores' cycles too. -/
theorem State.tick_running {s : State} (h : s.inReset = false) : s.tick = { s with
    now := s.now + 1, clock := s.clock.tick s.now, power := { s.power with cycles := s.tickCycles } } :=
  if_neg (by rw [h]; decide)

theorem State.now_tick (s : State) : s.tick.now = s.now + 1 := by
  cases h : s.inReset with
  | true => rw [State.tick_inReset h]
  | false => rw [State.tick_running h]

theorem State.clock_tick {s : State} (h : s.inReset = false) : s.tick.clock = s.clock.tick s.now := by
  rw [State.tick_running h]

/-- Nothing but the two clocks and the cores' cycles changes in a nanosecond. -/
theorem State.frame_tick (s : State) :
    { s.tick with now := s.now, clock := s.clock, power := { s.tick.power with cycles := s.power.cycles } } = s := by
  cases h : s.inReset with
  | true => rw [State.tick_inReset h]
  | false => rw [State.tick_running h]

/-- Settles O2: the step is a tick, whose clock has its three cases. -/
theorem anEmptyQueueLetsANanosecondPass : Obligations.AnEmptyQueueLetsANanosecondPass := by
  intro s hempty
  refine ⟨s.tick, by rw [step, hempty], s.now_tick, fun hr => by rw [State.tick_inReset hr], fun hr hs => ?_,
    fun hr hn hs => ?_, fun hr hn hs => ?_, s.frame_tick⟩
  · rw [State.clock_tick hr, Clock.tick_steady hs]
    exact ⟨rfl, rfl⟩
  · rw [State.clock_tick hr, Clock.tick_withheld hn hs]
    exact ⟨rfl, rfl⟩
  · rw [State.clock_tick hr, Clock.tick_doubled hn hs]
    exact ⟨rfl, rfl⟩

end Sys2Proof.Machine
end

section
/-! PROOFS. The placement state: what the keeper's commands, a lookup and the frames between members do (R105 to R110, R126). -/
namespace Sys2Proof.Machine

/-! ### COMMIT and DISCARD (R109) -/

section
variable {s : State} (req : Requester) (hd : s.deaf P.place = false)
include hd

/-- COMMIT on the keeper sends what changes to every other member, where no earlier COMMIT is still being sent. -/
theorem exec_placeCommit_keeper (hk : s.isKeeper = true) {pl : Placement}
    (hpl : pl = { s.net.staged with epoch := s.known.epoch + 1 }) : exec (.placeCommit req) s = .next
      (if s.committing then (s.pgErr P.place 1 req R.PLACE_CMD).event P.place 1
        else (((s.peers pl).foldl (fun t d => t.post (frameTo s.known pl d)) s).recompute pl).setRbit
          P.place R.PLACE_STATE 0 false) := by
  subst hpl
  exact (written_of_taken hd).trans (congrArg Host.Outcome.next (if_neg (by rw [hk]; decide)))

/-- Another device refuses COMMIT. -/
theorem exec_placeCommit_member (hk : s.isKeeper = false) :
    exec (.placeCommit req) s = .next (s.pgErr P.place 0 req R.PLACE_CMD) :=
  (written_of_taken hd).trans (congrArg Host.Outcome.next (if_pos (by rw [hk]; rfl)))

/-- DISCARD on the keeper returns the staged state to the one last learned of. -/
theorem exec_placeDiscard_keeper (hk : s.isKeeper = true) : exec (.placeDiscard req) s =
    .next (State.setRbit { s with net := { s.net with staged := s.known } } P.place R.PLACE_STATE 0 false) :=
  (written_of_taken hd).trans (congrArg Host.Outcome.next (if_neg (by rw [hk]; decide)))

/-- Another device refuses DISCARD. -/
theorem exec_placeDiscard_member (hk : s.isKeeper = false) :
    exec (.placeDiscard req) s = .next (s.pgErr P.place 0 req R.PLACE_CMD) :=
  (written_of_taken hd).trans (congrArg Host.Outcome.next (if_pos (by rw [hk]; rfl)))

end

/-! ### What arrives from other members (R107, R109, R110) -/

/-- RECOMPUTE_DONE puts the state that was recomputed into use (R107). -/
theorem exec_recomputeDone {s : State} {pl : Placement} (h : s.net.next = some pl) : exec .recomputeDone s =
    .next (State.event { s with net := { s.net with
      applied := pl, next := none,
      staged := if s.isKeeper && s.rbit P.place R.PLACE_STATE 0 then s.net.staged else pl } } P.place 0) :=
  calc exec .recomputeDone s = execRecomputeDone s := rfl
    _ = _ := by simp only [execRecomputeDone, h]

section
variable {s : State} (src : Nat) {epoch : BitVec 18} (mem : List (Nat × Word))
  (ovrs : List (Nat × Word × Word × Word × Word)) (salt : Option (BitVec 36))

/-- A frame of a rejected epoch is dropped (R110). -/
theorem exec_membershipFrame_rejected (h : epochRel s.net.applied.epoch epoch = .rejected) :
    exec (.membershipFrameReceive src epoch mem ovrs salt) s = .next s :=
  calc exec (.membershipFrameReceive src epoch mem ovrs salt) s
    _ = execMembershipFrameReceive src epoch mem ovrs salt s := rfl
    _ = .next s := by simp only [execMembershipFrameReceive, h]

/-- Any other frame is answered by the keeper, and applied or refused by a member. -/
theorem exec_membershipFrame_accepted (h : epochRel s.net.applied.epoch epoch ≠ .rejected) :
    exec (.membershipFrameReceive src epoch mem ovrs salt) s = .next
      (if s.isKeeper then
        (if epochRel s.net.applied.epoch epoch = .ahead then s.post (.resync src s.known) else s)
      else if epoch = s.net.applied.epoch + 1 then s.recompute (s.net.applied.change mem ovrs salt epoch)
      else s.askNow) :=
  calc exec (.membershipFrameReceive src epoch mem ovrs salt) s
    _ = execMembershipFrameReceive src epoch mem ovrs salt s := rfl
    _ = _ := by
      rw [execMembershipFrameReceive]
      split
      next hr => exact absurd hr h
      next => rfl

end

/-- A member takes a resynchronisation as its next state (R109). -/
theorem exec_resyncReceive_member (epoch : BitVec 18) (mem : List (Nat × Word))
    (ovrs : List (Nat × Word × Word × Word × Word)) (salt : BitVec 36) {s : State} (hk : s.isKeeper = false) : exec (.resyncReceive epoch mem ovrs salt) s =
      .next (s.recompute ((⟨[], [], 0, 0⟩ : Placement).change mem ovrs (some salt) epoch)) :=
  congrArg Host.Outcome.next (if_neg (by rw [hk]; decide))

/-- Settles O20: the commands by who carries them out, the frames by their epoch. -/
theorem placementChangesComeFromTheKeeper : Obligations.PlacementChangesComeFromTheKeeper := by
  refine ⟨fun req s hd hk => ⟨fun hc => ⟨_, rfl, ?_⟩, fun hc => ?_, exec_placeDiscard_keeper req hd hk⟩,
    fun req s hd hk => ⟨exec_placeCommit_member req hd hk, exec_placeDiscard_member req hd hk⟩,
    fun req s hd => written_of_taken hd, fun s hl => ⟨_, rfl, when_of_true hl⟩,
    fun pl s hn => ⟨_, rfl, exec_recomputeDone hn⟩,
    fun src epoch mem ovrs salt s => ⟨fun hk hr => ⟨fun he => ?_, fun he => ?_⟩, fun hk hr => ?_,
      exec_membershipFrame_rejected src mem ovrs salt⟩,
    fun epoch mem ovrs salt s => exec_resyncReceive_member epoch mem ovrs salt⟩
  · rw [exec_placeCommit_keeper req hd hk rfl, if_neg (by rw [hc]; decide)]
  · rw [exec_placeCommit_keeper req hd hk rfl, if_pos hc]
  · rw [exec_membershipFrame_accepted src mem ovrs salt hr, if_neg (by rw [hk]; decide), if_pos he]
  · rw [exec_membershipFrame_accepted src mem ovrs salt hr, if_neg (by rw [hk]; decide), if_neg he]
  · rw [exec_membershipFrame_accepted src mem ovrs salt (by rw [hr]; decide), if_pos hk, if_pos hr]

end Sys2Proof.Machine
end

section
/-! PROOFS. Forwarded jobs, at the owner and at the originator (R111 to R115). -/
namespace Sys2Proof.Machine

/-! ### At the owner -/

section
variable {origin tag : Nat} {epoch : BitVec 18} {cls : Nat} {rw yw : Bool} {qkey : BitVec 16} {gb : Bool} {cells : List Octet}
  {data : List (Nat × List Octet)} {verdict : Nat} {ctx : Option (List Word)} {s u : State} {j : Job}

/-- A forward of an epoch that is not rejected: a replay is acknowledged again; a job of this device's pages is held and
acknowledged; any other is answered MOVED (R113, R114). -/
theorem exec_forwardReceive (he : epochRel s.net.applied.epoch epoch ≠ .rejected)
    (hj : j = foreignJob origin tag cls rw yw qkey gb cells data verdict ctx) (hu : u = s.seeEpoch origin epoch) :
    exec (.forwardReceive origin tag epoch cls rw yw qkey gb cells data verdict ctx) s = .next
      (if (u.job (foreignKey origin tag)).isSome then u.post (.fwdAck origin tag)
        else (u.credOf (foreignKey origin tag) j).elim ((u.setJob (foreignKey origin tag) j).post (.fwdAck origin tag))
          (fun h => if u.resident (hPage h) || u.ownsPage (hPage h) then
              (u.setJob (foreignKey origin tag) j).post (.fwdAck origin tag)
            else u.post (.moved origin tag u.net.applied.epoch.toNat))) := by
  subst hj hu
  calc exec (.forwardReceive origin tag epoch cls rw yw qkey gb cells data verdict ctx) s
    _ = execForwardReceive origin tag epoch cls rw yw qkey gb cells data verdict ctx s := rfl
    _ = _ := by
      simp only [execForwardReceive, if_neg he]
      cases (s.seeEpoch origin epoch).credOf (foreignKey origin tag)
        (foreignJob origin tag cls rw yw qkey gb cells data verdict ctx) <;> rfl

end

section
variable {src tag : Nat} {j : Job} {s : State}

/-- The owner forgets a completed job once its result is acknowledged (R112). -/
theorem exec_resultAckReceive (hj : s.job (foreignKey src tag) = some j) (hst : j.st = .done) :
    exec (.resultAckReceive src tag) s = .next (s.dropJob (foreignKey src tag)) :=
  calc exec (.resultAckReceive src tag) s = execResultAckReceive src tag s := rfl
    _ = _ := by simp only [execResultAckReceive, hj, when, hst, decide_true, if_true]

/-- An abort reaches a job that the owner holds (R115). -/
theorem exec_forwardAbortReceive_held (hj : s.job (foreignKey src tag) = some j) : exec (.forwardAbortReceive src tag) s = .next
    (if runsOn2 j then s.setJob (foreignKey src tag) { j with orphan := true }
      else (s.discard (foreignKey src tag)).post (.abortAck src tag)) :=
  calc exec (.forwardAbortReceive src tag) s = execForwardAbortReceive src tag s := rfl
    _ = _ := by simp only [execForwardAbortReceive, hj]

/-- An abort of a job no longer held is acknowledged too (R115). -/
theorem exec_forwardAbortReceive_gone (hj : s.job (foreignKey src tag) = none) :
    exec (.forwardAbortReceive src tag) s = .next (s.post (.abortAck src tag)) :=
  calc exec (.forwardAbortReceive src tag) s = execForwardAbortReceive src tag s := rfl
    _ = _ := by simp only [execForwardAbortReceive, hj]

end

/-- An originator with a job here gets its heartbeat (R113). -/
theorem exec_heartbeat {dst k : Nat} {j : Job} {o : Nat} {s : State} (hj : (k, some j) ∈ s.jobs)
    (ho : j.origin = some (dst, o)) : exec (.heartbeat dst) s = .next (s.post (.heartbeat dst)) :=
  when_of_true (List.any_eq_true.mpr ⟨_, hj, by simp [ho]⟩)

/-! ### At the originator -/

/-- The job whose owner, and replica if it has one, cannot be reached ends FORWARD_FAIL (R113). -/
def State.forwardLost (s : State) (tag k : Nat) (j : Job) : State :=
  (((s.freeTag tag).inc36 P.place R.PLACE_FWD_FAILS).event P.place 2).fail k j S.forwardFail

section
variable {tag k : Nat} {j : Job} {f : Fwd} {s : State} (hj : s.fwdJob tag = some (k, j)) (hf : j.fwd = some f)
include hj hf

/-- The owner's acknowledgement is noted (R113). -/
theorem exec_forwardAckReceive : exec (.forwardAckReceive f.owner tag) s =
    .next (s.setJob k { j with fwd := some { f with acked := true, resend := false } }) :=
  calc exec (.forwardAckReceive f.owner tag) s = execForwardAckReceive f.owner tag s := rfl
    _ = _ := by simp only [execForwardAckReceive, hj, hf, when, decide_true, if_true]

/-- At a time-out the replica is tried once (R113). -/
theorem exec_forwardTimeout : exec (.forwardTimeout tag) s = .next
    ((s.replicaOf k j).elim (s.forwardLost tag k j) (fun r =>
      if f.onReplica ∨ r = f.owner ∨ r = s.devId then s.forwardLost tag k j
      else s.sendFwd k j { f with owner := r, acked := false, onReplica := true, resend := false })) :=
  calc exec (.forwardTimeout tag) s = execForwardTimeout tag s := rfl
    _ = _ := by
      simp only [execForwardTimeout, hj, hf]
      cases s.replicaOf k j <;> rfl

/-- A forward marked for it is sent again (R114). -/
theorem exec_movedResend (hr : f.resend = true) :
    exec (.movedResend tag) s = .next (s.sendFwd k j { f with acked := false, resend := false }) :=
  calc exec (.movedResend tag) s = execMovedResend tag s := rfl
    _ = _ := by simp only [execMovedResend, hj, hf, when, hr, if_true]

/-- MOVED is counted, and the owner of the job's page resolved again (R114). -/
theorem exec_moved {epoch : BitVec 18} {h : Nat} {u : State}
    (hu : u = (s.inc36 P.place R.PLACE_REDIRECTS).seeEpoch f.owner epoch) (hc : u.credOf k j = some h) :
    exec (.moved tag epoch) s = .next
      (if (u.owner (hPage h)).1 = f.owner then u.setJob k { j with fwd := some { f with resend := true } }
        else u.sendFwd k j { f with owner := (u.owner (hPage h)).1, acked := false, resend := false }) := by
  subst hu
  calc exec (.moved tag epoch) s = execMoved tag epoch s := rfl
    _ = _ := by simp only [execMoved, hj, hf, hc]

end

/-- A result from the owner is acknowledged, frees the tag and completes the job (R62, R112). -/
theorem exec_forwardResultReceive {src tag k : Nat} {j : Job} {f : Fwd} {s u : State} (status : Nat) (octets : List Octet)
    (outs : List (Nat × List Octet)) (ctx : Option (List Word)) (hu : u = s.post (.resultAck src tag))
    (hj : u.fwdJob tag = some (k, j)) (hf : j.fwd = some f) (ho : f.owner = src) :
    exec (.forwardResultReceive src tag status octets outs ctx) s = .next
      (if j.outSmall outs then (u.freeTag tag).fail k j S.invalidOperand
        else ((outs.foldl (fun t o => t.toBuffer j o.1 o.2) (u.freeTag tag)).finish k j status octets).modJob k
          (fun x => { x with pendSess := if statusGood status then ctx else none })) := by
  subst hu
  calc exec (.forwardResultReceive src tag status octets outs ctx) s
    _ = execForwardResultReceive src tag status octets outs ctx s := rfl
    _ = _ := by simp only [execForwardResultReceive, hj, hf, when, ho, decide_true, if_true]

/-- The acknowledgement of an abort frees the tag (R83, R115). -/
theorem exec_forwardAbortAck {q tag : Nat} {s : State} (h : (s.queue q).aborts.contains tag = true) :
    exec (.forwardAbortAck q tag) s =
      .next ((s.setQueue q { s.queue q with aborts := drop1 (s.queue q).aborts tag }).freeTag tag) :=
  when_of_true h

/-- Settles O21: each message by the end that receives it. -/
theorem jobsAreForwardedToTheirOwner : Obligations.JobsAreForwardedToTheirOwner := by
  refine ⟨fun origin tag epoch cls rw yw qkey gb cells data verdict ctx s he =>
      ⟨_, _, rfl, rfl, fun hheld => ?_, fun hnew hhere => ?_, fun h hnew hc haway => ?_⟩,
    fun tag k j f s hj hf => ⟨exec_forwardAckReceive hj hf, fun hlost => ?_, fun r hr hon ho hd => ?_,
      exec_movedResend hj hf, fun epoch h u hu hc => ⟨_, rfl, fun ho => ?_, fun ho => ?_⟩⟩,
    fun src tag status octets outs ctx k j f u s hu hj hf ho => ⟨fun hfit => ?_, fun hsmall => ?_⟩,
    fun src tag j s hj => ⟨exec_resultAckReceive hj, fun hr => ?_, fun hr => ?_⟩,
    fun src tag s => exec_forwardAbortReceive_gone, fun q tag s => exec_forwardAbortAck,
    fun dst k j o s => exec_heartbeat⟩
  · rw [exec_forwardReceive he rfl rfl, if_pos hheld]
  · rw [exec_forwardReceive he rfl rfl, hnew, if_neg (by decide)]
    cases hc : (s.seeEpoch origin epoch).credOf (foreignKey origin tag)
        (foreignJob origin tag cls rw yw qkey gb cells data verdict ctx) with
    | none => rfl
    | some h => rw [Option.elim_some, if_pos (hhere h hc)]
  · rw [exec_forwardReceive he rfl rfl, hnew, if_neg (by decide), hc, Option.elim_some, if_neg (by rw [haway]; decide)]
  · rw [exec_forwardTimeout hj hf]
    obtain hnone | ⟨r, hr, hgone⟩ := hlost
    · rw [hnone]
      rfl
    · rw [hr, Option.elim_some, if_pos hgone]
      rfl
  · rw [exec_forwardTimeout hj hf, hr, Option.elim_some, if_neg (by simp [hon, ho, hd])]
  · rw [exec_moved hj hf hu hc, if_pos ho]
  · rw [exec_moved hj hf hu hc, if_neg ho]
  · rw [exec_forwardResultReceive status octets outs ctx hu hj hf ho, if_neg (by rw [hfit]; decide)]
  · rw [exec_forwardResultReceive status octets outs ctx hu hj hf ho, if_pos hsmall]
  · rw [exec_forwardAbortReceive_held hj, if_pos hr]
  · rw [exec_forwardAbortReceive_held hj, if_neg (by rw [hr]; decide)]

end Sys2Proof.Machine
end

section
/-! PROOFS. Denlet links: training and attestation, flits, messages, keys and routes (R116 to R122, R128). -/
namespace Sys2Proof.Machine

/-! ### Training and attestation (R119, R110) -/

section
variable {port : Nat} {s t : State}

/-- A port that has trained presents its certificates. -/
theorem exec_trainDone_ok (hst : s.lstate port = L.train) (ht : t = s.setLink port L.attest 0) :
    exec (.trainDone port true) s = .next
      { t with net := { t.net with out := t.net.out ++ [.certs port (s.rfld P.dnlx R.DNLX_CERT_SECTOR 9 0)] } } := by
  subst ht
  exact when_of_true (decide_eq_true hst)

/-- A port that cannot train has failed. -/
theorem exec_trainDone_failed (hst : s.lstate port = L.train) :
    exec (.trainDone port false) s = .next (s.failLink port 1) :=
  when_of_true (decide_eq_true hst)

end

/-- ATTEST_DONE in the order of its checks: chains and anchors, signature and own identity, peer, epoch. -/
theorem exec_attestDone {port peer : Nat} {anchors : List Octet} {epoch : BitVec 18} (cert sig : Bool) {s a b : State}
    (hst : s.lstate port = L.attest) (ha : a = s.setReg (P.dnl port) R.DNL_PEER_EPOCH epoch)
    (hb : b = a.setReg (P.dnl port) R.DNL_PEER_ID (wd (2 ^ 17 + peer))) :
    exec (.attestDone port cert anchors sig peer epoch) s = .next
      (if !cert || !s.anchored anchors then (a.failLink port 2).event (P.dnl port) 2
        else if !sig || !s.hasIdentity then (a.failLink port 3).event (P.dnl port) 2
        else if peer = s.devId then (b.failLink port 4).event (P.dnl port) 2
        else if epochRel s.net.applied.epoch epoch = .rejected then (b.failLink port 8).event (P.dnl port) 3
        else ((b.linkUpNow port peer).seeEpoch peer epoch).retry) := by
  subst hb ha
  exact when_of_true (decide_eq_true hst)

/-! ### Flits (R116, R117) -/

section
variable {port : Nat} {flit : List Octet} {s : State} (hst : s.lstate port = L.attest ∨ s.lstate port = L.up)
include hst

/-- A flit with a bad CRC or of an unassigned TYPE is a CRC error. -/
theorem exec_flitReceive_bad
    (h : leNat (sliceOct flit 60 4) ≠ (crc32 (sliceOct flit 0 60)).toNat ∨ 128 ≤ (flit.getD 0 0).toNat) :
    exec (.flitReceive port flit) s = .next (s.crcError port) :=
  (when_of_true (by simpa using hst)).trans (congrArg Host.Outcome.next (if_pos h))

/-- Any other is taken by its TYPE, virtual channel and sequence numbers. -/
theorem exec_flitReceive_good {o sq : Nat} (ho : o = (flit.getD 0 0).toNat) (hsq : sq = beNat (sliceOct flit 1 3))
    (hcrc : leNat (sliceOct flit 60 4) = (crc32 (sliceOct flit 0 60)).toNat) (htype : o < 128) :
    exec (.flitReceive port flit) s = .next
      (s.takeFlit port (o / 16) (o / 4 % 4) (sq / 4096) (sq % 4096) (sliceOct flit 4 56)) := by
  subst ho hsq
  exact (when_of_true (by simpa using hst)).trans
    (congrArg Host.Outcome.next (if_neg (not_or.mpr ⟨not_not_intro hcrc, htype.not_ge⟩)))

end

section
variable {i typ vc sq ackseq : Nat} {payload : List Octet} {s w : State}

/-- An idle flit only acknowledges. -/
theorem State.takeFlit_idle (h : typ = 0) : s.takeFlit i typ vc sq ackseq payload = s.acked i ackseq := if_pos h

/-- An ACK/NAK flit is counted too. -/
theorem State.takeFlit_ack (h : typ = 5) :
    s.takeFlit i typ vc sq ackseq payload = (s.acked i ackseq).inc36 (P.dnl i) R.DNL_RX_FLITS := by
  subst h
  rfl

variable (hidle : typ ≠ 0) (hack : typ ≠ 5) (hw : w = (s.acked i ackseq).inc36 (P.dnl i) R.DNL_RX_FLITS)
include hidle hack hw

/-- A flit that carries something, in sequence, joins its message. -/
theorem State.takeFlit_inSequence (h : sq = ((w.port i).rxSeq + 1) % 4096) : s.takeFlit i typ vc sq ackseq payload =
    w.setPort i ({ w.port i with rxSeq := sq }.join typ vc payload) := by
  subst hw
  exact (if_neg hidle).trans ((if_neg hack).trans (if_pos h))

/-- Out of sequence it is answered by a NAK. -/
theorem State.takeFlit_outOfSequence (h : sq ≠ ((w.port i).rxSeq + 1) % 4096) :
    s.takeFlit i typ vc sq ackseq payload = w.nak i := by
  subst hw
  exact (if_neg hidle).trans ((if_neg hack).trans (if_neg h))

end

/-! ### A port that is UP (R117, R118, R121) -/

section
variable {port : Nat} {s u : State} (hup : s.lstate port = L.up)
include hup

/-- A NAK replays what is not acknowledged; the eighth on one flit fails the link. -/
theorem exec_nakReceive (hr : (s.port port).replay ≠ [])
    (hu : u = ((s.setPort port { s.port port with tries := (s.port port).tries + 1 }).inc36 (P.dnl port)
      R.DNL_REPLAYS).add36 (P.dnl port) R.DNL_TX_FLITS (s.port port).replay.length) :
    exec (.nakReceive port) s = .next (if 8 ≤ (s.port port).tries + 1 then u.failLink port 7 else u) := by
  subst hu
  exact when_of_true (by simp [hup, hr])

/-- The oldest message received is opened; a text for this device is delivered, any other is routed on. -/
theorem exec_denletMessageReceive {len dst vc : Nat} {raw : List Octet} {rest : List (Nat × List Octet)}
    (hr : (s.port port).ready = (vc, raw) :: rest)
    (hu : u = s.setPort port { s.port port with ready := rest, rxMsg := (s.port port).rxMsg + 1 }) :
    exec (.denletMessageReceive port len dst) s = .next
      ((s.opened port len raw).elim ((s.detect 16).failLink port 6) (fun text =>
        if dst = s.devId then u.delivered text else u.post (.through dst port vc text))) := by
  subst hu
  calc exec (.denletMessageReceive port len dst) s = execDenletMessageReceive port len dst s := rfl
    _ = _ := by
      simp only [execDenletMessageReceive, hr, when, hup, decide_true, if_true]
      cases s.opened port len raw <;> rfl

/-- The sending direction takes its next key after 2^32 messages. -/
theorem exec_linkRekey_tx (h : 2 ^ 32 ≤ (s.port port).txMsg) : exec (.linkRekey port true) s = .next
    (s.setPort port { s.port port with
      txMsg := 0, txGen := (s.port port).txGen + 1,
      txKey := netKey (s.port port).secret s.devId (s.peerOf port) ((s.port port).txGen + 1) }) :=
  when_of_true (Bool.and_eq_true_iff.mpr ⟨decide_eq_true hup, decide_eq_true h⟩)

/-- So does the receiving one. -/
theorem exec_linkRekey_rx (h : 2 ^ 32 ≤ (s.port port).rxMsg) : exec (.linkRekey port false) s = .next
    (s.setPort port { s.port port with
      rxMsg := 0, rxGen := (s.port port).rxGen + 1,
      rxKey := netKey (s.port port).secret (s.peerOf port) s.devId ((s.port port).rxGen + 1) }) :=
  when_of_true (Bool.and_eq_true_iff.mpr ⟨decide_eq_true hup, decide_eq_true h⟩)

/-- Silence fails the link (R117). -/
theorem exec_denletSilence : exec (.denletSilence port) s = .next ((s.detect 16).failLink port 5) :=
  when_of_true (decide_eq_true hup)

/-- Idle flits are asked for unless equalisation is frozen (R121). -/
theorem exec_eqIdleInsert (h : s.eqFrozen port = false) : exec (.eqIdleInsert port) s =
    .next (s.setPort port { s.port port with eqInsert := true, eqRun := 0 }) :=
  when_of_true (by simp [hup, h])

end

/-- A write of ROUTE_DATA past R38 stores the selected route (R128). -/
theorem exec_dnlxRouteDataAccess_write (req : Requester) (val : Word) {s : State} (hd : s.deaf P.dnlx = false) :
    exec (.dnlxRouteDataAccess req (some val)) s = .next (s.wNetRoute val) :=
  congrArg Host.Outcome.next (if_neg (by rw [hd]; decide))

/-- Settles O22: attestation in the order of its checks, a flit by its TYPE and sequence, the rest row by row. -/
theorem denletLinksTrainCarryAndFail : Obligations.DenletLinksTrainCarryAndFail := by
  refine ⟨fun port s hst => ⟨⟨_, rfl, exec_trainDone_ok hst rfl⟩, exec_trainDone_failed hst⟩,
    fun port anchors peer epoch s hst => ⟨_, _, rfl, rfl, fun cert sig h => ?_,
      fun hc => ⟨fun sig h => ?_, fun hi => ⟨fun hp => ?_, fun hp he => ?_, fun hp he => ?_⟩⟩⟩,
    fun port flit s hst => ⟨_, _, _, rfl, rfl, rfl, exec_flitReceive_bad hst, fun hcrc ht =>
      ⟨fun h => ?_, fun h => ?_, fun hidle hack => ⟨_, rfl, fun h => ?_, fun h => ?_⟩⟩⟩,
    fun port s hup => ⟨fun hr => ⟨_, rfl, exec_nakReceive hup hr rfl⟩,
      fun len dst vc raw rest hr => ⟨fun ho => ?_, fun text ho => ⟨_, rfl, fun hd => ?_, fun hd => ?_⟩⟩,
      exec_linkRekey_tx hup, exec_linkRekey_rx hup, exec_denletSilence hup, exec_eqIdleInsert hup⟩,
    fun req s => ⟨rfl, fun val => exec_dnlxRouteDataAccess_write req val⟩⟩
  · rw [exec_attestDone cert sig hst rfl rfl, if_pos]
    obtain h | h := h <;> simp [h]
  · rw [exec_attestDone true sig hst rfl rfl, hc, if_neg (by decide), if_pos]
    obtain h | h := h <;> simp [h]
  · rw [exec_attestDone true true hst rfl rfl, hc, hi, if_neg (by decide), if_neg (by decide), if_pos hp]
  · rw [exec_attestDone true true hst rfl rfl, hc, hi, if_neg (by decide), if_neg (by decide), if_neg hp, if_pos he]
  · rw [exec_attestDone true true hst rfl rfl, hc, hi, if_neg (by decide), if_neg (by decide), if_neg hp, if_neg he]
  · rw [exec_flitReceive_good hst rfl rfl hcrc ht, State.takeFlit_idle h]
  · rw [exec_flitReceive_good hst rfl rfl hcrc ht, State.takeFlit_ack h]
  · rw [exec_flitReceive_good hst rfl rfl hcrc ht, State.takeFlit_inSequence hidle hack rfl h]
  · rw [exec_flitReceive_good hst rfl rfl hcrc ht, State.takeFlit_outOfSequence hidle hack rfl h]
  · rw [exec_denletMessageReceive hup hr rfl, ho, Option.elim_none]
  · rw [exec_denletMessageReceive hup hr rfl, ho, Option.elim_some, if_pos hd]
  · rw [exec_denletMessageReceive hup hr rfl, ho, Option.elim_some, if_neg hd]

end Sys2Proof.Machine
end

section
/-! PROOFS. System time: setting, reading and following it (R123, R124). -/
namespace Sys2Proof.Machine

/-! ### TIME_SET and SYSTIME_READ (R124) -/

section
variable {s : State} (req : Requester) (val : Word)

/-- The time that a write of TIME_SET3 makes with the words written before it. -/
def State.timeOf (s : State) (val : Word) : BitVec 72 := val ++ s.clock.set2 ++ s.clock.set1 ++ s.clock.set0

/-- On the master the fourth word loads all four, unless that would move time back. -/
theorem exec_timeSet_master (hd : s.deaf P.dnlx = false) (hm : s.timeMaster = true) : exec (.timeSet req val) s = .next
    (if s.timeOf val < s.clock.sys then s.pgErr P.dnlx 1 req (R.DNLX_TIME_SET + 3)
      else { s with clock := { s.clock with sys := s.timeOf val } }) := by
  refine (written_of_taken hd).trans (congrArg Host.Outcome.next ?_)
  rw [State.wTimeSet, hm]
  rfl

/-- Another device refuses it. -/
theorem exec_timeSet_other (hd : s.deaf P.dnlx = false) (hm : s.timeMaster = false) :
    exec (.timeSet req val) s = .next (s.pgErr P.dnlx 2 req (R.DNLX_TIME_SET + 3)) := by
  refine (written_of_taken hd).trans (congrArg Host.Outcome.next ?_)
  rw [State.wTimeSet, hm]
  rfl

end

/-! ### TIME_EXCHANGE (R123) -/

/-- An exchange on an UP port measures its path; the one towards the master is followed. -/
theorem exec_timeExchange {port : Nat} {s t : State} (t1 t2 t3 t4 : Nat) (hup : s.lstate port = L.up)
    (ht : t = s.setPort port { s.port port with delay := ((t4 - t1) - (t3 - t2)) / 2 }) :
    exec (.timeExchange port t1 t2 t3 t4) s = .next
      (if !s.timeMaster && decide (s.masterPort = some port) then
        t.follow ((((t1 : Int) - t2) + ((t4 : Int) - t3)) / 2) else t) := by
  subst ht
  exact when_of_true (by simp [hup])

/-- The run of good offsets after one more offset. -/
def Clock.goodAfter (c : Clock) (ofs : Int) : Nat := if ofs.natAbs ≤ 100 then min 16 (c.good + 1) else 0

/-- The state in which an offset is recorded, before the lock follows it. -/
def State.offsetSeen (s : State) (ofs : Int) : State :=
  State.setReg { s with clock := { s.clock.toward ofs with good := s.clock.goodAfter ofs } } P.dnlx R.DNLX_TIME_OFS (satOfs ofs)

/-- An offset is recorded; then the lock is lost, taken or left (R123). -/
theorem State.follow_eq (s : State) (ofs : Int) : s.follow ofs =
    if 1000 < ofs.natAbs then (s.offsetSeen ofs).timeUnlock
    else if s.clock.goodAfter ofs = 16 ∧ (s.offsetSeen ofs).rbit P.dnlx R.DNLX_TIME_STAT 17 = false then
      ((s.offsetSeen ofs).setRbit P.dnlx R.DNLX_TIME_STAT 17 true).event P.dnlx 0
    else s.offsetSeen ofs := rfl

/-- The sixteenth offset in a row of at most 100 ns completes the run. -/
theorem Clock.goodAfter_eq_16_iff (c : Clock) (ofs : Int) : c.goodAfter ofs = 16 ↔ ofs.natAbs ≤ 100 ∧ 15 ≤ c.good := by
  rw [Clock.goodAfter]
  split <;> omega

section
variable {s : State} {ofs : Int}

theorem State.follow_far (h : 1000 < ofs.natAbs) : s.follow ofs = (s.offsetSeen ofs).timeUnlock := by
  rw [s.follow_eq, if_pos h]

theorem State.follow_locks (h : ofs.natAbs ≤ 100) (hg : 15 ≤ s.clock.good)
    (hl : (s.offsetSeen ofs).rbit P.dnlx R.DNLX_TIME_STAT 17 = false) :
    s.follow ofs = ((s.offsetSeen ofs).setRbit P.dnlx R.DNLX_TIME_STAT 17 true).event P.dnlx 0 := by
  rw [s.follow_eq, if_neg (by omega), if_pos ⟨(Clock.goodAfter_eq_16_iff _ _).mpr ⟨h, hg⟩, hl⟩]

theorem State.follow_stays (h : ofs.natAbs ≤ 1000) (hl : 100 < ofs.natAbs ∨ s.clock.good < 15 ∨
      (s.offsetSeen ofs).rbit P.dnlx R.DNLX_TIME_STAT 17 = true) : s.follow ofs = s.offsetSeen ofs := by
  rw [s.follow_eq, if_neg h.not_gt, if_neg]
  rintro ⟨hrun, hfree⟩
  obtain ⟨hnear, hgood⟩ := (Clock.goodAfter_eq_16_iff _ _).mp hrun
  obtain hl | hl | hl := hl
  · exact hl.not_ge hnear
  · exact hl.not_ge hgood
  · exact Bool.false_ne_true (hfree.symm.trans hl)

end

/-- Settles O23: TIME_SET by who writes it, the exchange by its port, and what follows an offset by the cases of its size. -/
theorem systemTimeFollowsItsMaster : Obligations.SystemTimeFollowsItsMaster := by
  refine ⟨fun req val s hd => ⟨fun hm => ⟨_, rfl, fun h => ?_, fun h => ?_⟩, exec_timeSet_other req val hd⟩,
    fun req s => ⟨_, rfl, rfl, rfl, rfl⟩,
    fun port t1 t2 t3 t4 s hup => ⟨_, rfl, fun h => ?_, fun hm hp => ⟨_, rfl, ?_⟩⟩,
    fun ofs s => ⟨s.offsetSeen ofs, rfl, State.follow_far, State.follow_locks, State.follow_stays⟩,
    fun s hm => when_of_true (by rw [hm]; rfl)⟩
  · rw [exec_timeSet_master req val hd hm, State.timeOf, if_neg h]
  · rw [exec_timeSet_master req val hd hm, State.timeOf, if_pos h]
  · rw [exec_timeExchange t1 t2 t3 t4 hup rfl, if_neg]
    obtain h | h := h <;> simp [h]
  · rw [exec_timeExchange t1 t2 t3 t4 hup rfl, if_pos (by simp [hm, hp])]

end Sys2Proof.Machine
end

section
/-! PROOFS. Credential pages (R152 to R156): a load takes a frame and verifies its chunks, an evict frees its frame. -/
namespace Sys2Proof.Machine

/-- What an opcode's row makes of its running job is what the command does. -/
theorem State.onRun_next {s t : State} {key op : Nat} {j : Job} {f : Job → State} (hr : s.runs key op j) (h : f j = t) :
    s.onRun key op f = .next t :=
  (State.onRun_of_runs hr f).trans (congrArg Host.Outcome.next h)

/-! ### PAGE_LOAD (R153, R154) -/

/-- PAGE_LOAD of a whole image whose header slot is sound: the header is checked, then a free frame is looked for. -/
theorem exec_pageLoad {s : State} {key page : Nat} {j : Job} {h : HostIn} {hw : List Word} (hr : s.runs key 0o010 j)
    (hf : j.frame = none) (ho : bits j.oparg 31 26 = 0) (hsg : j.sgBad 1 = false) (hlen : j.lenKnown 1 = true)
    (hsup : imageLen ≤ j.supplied 1) (herr : j.hostErr = false) (hin : j.inp 1 = some h) (h81 : 81 ≤ h.octets.length)
    (hhw : hw = streamWords 36 (h.octets.take 81)) (hpage : page = bits j.oparg 25 0)
    (hst : s.headerStruck hw page = none) :
    exec (.pageLoad key) s = .next ((s.headerCheck hw page).elim
      (s.pickFrame.elim ((s.event P.cred 2).loadFail key j S.notResident)
        (fun f => (s.setFrame f ⟨true, true, false, false, 0, page⟩).setJob key
          { j with frame := some f, region := f / 256 }))
      (s.loadFail key j)) := by
  subst hhw hpage
  have hwhole : ¬ (h.octets.take 81).length < 81 := by simp [h81]
  refine State.onRun_next hr ?_
  simp only [hf, ho, hsg, hlen, herr, hin, hst, hsup.not_gt, hwhole, Option.isSome_none, Bool.not_true, Bool.false_eq_true,
    ne_eq, not_true_eq_false, or_self, if_false]
  cases s.headerCheck (streamWords 36 (h.octets.take 81)) (bits j.oparg 25 0) with
  | some st => rfl
  | none => cases s.pickFrame <;> rfl

/-! ### CHUNK_VERIFY (R154, R155) -/

section
variable {s : State} {key chunk f : Nat} {j : Job} {data : List Octet} (hr : s.runs key 0o010 j) (hf : j.frame = some f)
  (hch : (s.frame f).chunks.getLsbD chunk = false)
include hr hf hch

/-- A chunk that could not be read stops the load (R155). -/
theorem exec_chunkVerify_unread : exec (.chunkVerify key chunk data true) s = .next (s.loadStop key j f S.aborted) :=
  State.onRun_next hr (by simp only [hf, hch, Bool.true_or, Bool.false_eq_true, if_false, if_true])

/-- A chunk that was read is authenticated under the sound slot its header names; one that holds is kept, and the last one
missing completes the load (R154). -/
theorem exec_chunkVerify_read {h : HostIn} {hd : List Octet} {hw : List Word} (herr : j.hostErr = false)
    (hin : j.inp 1 = some h) (hhd : hd = h.octets.take 81) (hhw : hw = streamWords 36 hd)
    (hst : s.slotStruck ((cw hw 4).setWidth 32) = none) {ch : BitVec 16}
    (hall : ch = (s.frame f).chunks ||| BitVec.ofNat 16 (2 ^ chunk)) :
    exec (.chunkVerify key chunk data false) s = .next
      ((gcmDec (beOctets 32 (s.slot (bits (cw hw 4) 15 0)).key.toNat) (headerNonce hw ++ beOctets 2 chunk)
          (hd ++ [BitVec.ofNat 8 chunk]) (data.take 4608) (sliceOct data 4608 16)).elim
        (s.loadStop key j f S.authFail)
        (fun pt =>
          let u := s.setWords (frameBase f + 2048 * chunk) (streamWords 2048 pt)
          if ch = 0xFFFF then
            ((u.setFrame f { s.frame f with chunks := ch, loading := false }).endRequest (bits j.oparg 25 0) false
              false).finish key j (if imageLen < j.supplied 1 then S.okTruncated else S.ok) (imageResult hw)
          else u.setFrame f { s.frame f with chunks := ch })) := by
  subst hhd hhw hall
  refine State.onRun_next hr ?_
  simp only [hf, hch, herr, hin, hst, Bool.or_false, Bool.false_eq_true, if_false]
  cases gcmDec _ _ _ _ _ <;> rfl

end

/-! ### PAGE_EVICT and EVICT_WRITE (R156) -/

/-- What a PAGE_EVICT that writes an image needs, and a discard does without: its slot, and a buffer for the image. -/
def State.evictWritable (s : State) (j : Job) : Prop :=
  s.slotStruck (j.dw 2 0) = none ∧ s.domainCheck (refSlot (j.dw 2 0)) (refGen (j.dw 2 0)) U.wrap = none ∧
    j.sgBad 1 = false ∧ j.lenKnown 1 = true ∧ imageLen ≤ j.supplied 1

/-- A PAGE_EVICT that nothing refuses puts the page's frame out of use. -/
theorem exec_pageEvict {s : State} {key f : Nat} {j : Job} (hr : s.runs key 0o011 j) (hj : j.frame = none)
    (ho : bits j.oparg 30 26 = 0) (href : refClean (j.dw 2 0) = true) (hpad : bits (j.dw 2 1) 31 5 = 0)
    (hn : bits (j.dw 2 1) 4 0 ≤ 16) (hf : s.frameOf (bits j.oparg 25 0) = some f) (hload : (s.frame f).loading = false)
    (hdisc : tb j.oparg 31 = true → (s.frame f).dirty = false) (hwr : tb j.oparg 31 = false → s.evictWritable j) :
    exec (.pageEvict key) s = .next (((s.setFrame f { s.frame f with evicting := true }).endRequest (bits j.oparg 25 0)
      false false).setJob key { j with frame := some f, region := f / 256 }) := by
  refine State.onRun_next hr ?_
  cases hd : tb j.oparg 31 with
  | true => simp [hj, ho, href, hpad, hn.not_gt, hf, hload, hdisc hd]
  | false =>
    obtain ⟨hst, hdom, hsg, hlen, hsup⟩ := hwr hd
    simp [hj, ho, href, hpad, hn.not_gt, hf, hload, hst, hdom, hsg, hlen, hsup.not_gt]

section
variable {s : State} {key f : Nat} {j : Job} (hr : s.runs key 0o011 j) (hj : j.frame = some f)
  (hq : s.pageQuiet key (bits j.oparg 25 0) = true)
include hr hj hq

/-- EVICT_WRITE of a discard, with the page quiet: a page that has changed stays in use. -/
theorem exec_evictWrite_discard (hd : tb j.oparg 31 = true) : exec (.evictWrite key) s = .next
    (if (s.frame f).dirty then s.evictFail key j f S.denied
      else s.finish key j S.ok (imageResult (s.frameHeader j f 0))) :=
  State.onRun_next hr (by simp only [hj, hq, hd, Bool.not_true, Bool.false_eq_true, if_false, if_true])

/-- EVICT_WRITE of an image, with the page quiet and a nonce drawn: the chunks of the frame, each encrypted. -/
theorem exec_evictWrite_image (hd : tb j.oparg 31 = false) (hst : s.slotStruck (j.dw 2 0) = none)
    (hrng : s.rngOk custodyInst = true) {nonce : List Octet} {u : State} {ws hw : List Word}
    (hnonce : nonce = ((s.frameUe f).drawFrom custodyInst 10).1) (hu : u = ((s.frameUe f).drawFrom custodyInst 10).2)
    (hws : ws = u.words (frameBase f) 32768) (hhw : hw = u.frameHeader j f (beNat nonce)) :
    exec (.evictWrite key) s = .next ((u.toBuffer j 1 (wordStream hw ++ ((List.range 16).map (fun i =>
        imageChunk (beOctets 32 (u.slot (refSlot (j.dw 2 0))).key.toNat) (wordStream hw) nonce
          ((ws.drop (2048 * i)).take 2048) i)).flatten)).finish key j S.ok (imageResult hw)) := by
  subst hnonce hu hws hhw
  exact State.onRun_next hr (by simp only [hj, hq, hd, hst, hrng, Bool.not_true, Bool.false_eq_true, if_false])

end

/-- Settles O25: each row by the lemmas of its cases. -/
theorem credentialPagesLoadAndLeave : Obligations.CredentialPagesLoadAndLeave := by
  refine ⟨fun key j h s hr hf ho hsg hlen hsup herr hin h81 hst => ⟨_, rfl, fun st hc => ?_, fun hc hp => ?_,
      fun hc f hp => ?_⟩,
    fun key chunk j f h hd hw data s hr hf hch herr hin hhd hhw hst => ⟨_, rfl, exec_chunkVerify_unread hr hf hch,
      fun hm => ?_, fun pt hm => ⟨_, _, rfl, rfl, fun hne => ?_, fun hall => ?_⟩⟩,
    fun key j f s => exec_pageEvict,
    fun key j f s hr hj hq => ⟨fun hd hclean => ?_, fun hd hdirty => ?_,
      fun hd hst hrng => ⟨_, _, _, _, rfl, rfl, rfl, rfl, exec_evictWrite_image hr hj hq hd hst hrng rfl rfl rfl rfl⟩⟩⟩
  · rw [exec_pageLoad hr hf ho hsg hlen hsup herr hin h81 rfl rfl hst, hc, Option.elim_some]
  · rw [exec_pageLoad hr hf ho hsg hlen hsup herr hin h81 rfl rfl hst, hc, Option.elim_none, hp, Option.elim_none]
  · rw [exec_pageLoad hr hf ho hsg hlen hsup herr hin h81 rfl rfl hst, hc, Option.elim_none, hp, Option.elim_some]
  · rw [exec_chunkVerify_read hr hf hch herr hin hhd hhw hst rfl, hm, Option.elim_none]
  · rw [exec_chunkVerify_read hr hf hch herr hin hhd hhw hst rfl, hm, Option.elim_some]
    exact congrArg Host.Outcome.next (if_neg hne)
  · rw [exec_chunkVerify_read hr hf hch herr hin hhd hhw hst rfl, hm, Option.elim_some]
    exact congrArg Host.Outcome.next (if_pos hall)
  · rw [exec_evictWrite_discard hr hj hq hd, if_neg (by rw [hclean]; decide)]
  · rw [exec_evictWrite_discard hr hj hq hd, if_pos hdirty]

end Sys2Proof.Machine
end

section
/-! PROOFS. The credential and slot jobs (R138 to R141, R151, R157, R158, R162): what each makes of an entry or a slot once
nothing refuses it. -/
namespace Sys2Proof.Machine

/-! ### Credential entries (R157, R158) -/

section
variable {s : State} {key : Nat} {j : Job}

/-- CRED_WRITE stores the secret its blob unwraps to. -/
theorem exec_credWrite (hc : s.credSlotCheck key j U.unwrap = none) (hr : s.runs key 0o012 j)
    (hpad : j.oct 2 24 8 = zeros 8) : exec (.credWrite key) s = .next
      ((kwUnwrap (s.slot (refSlot (j.dw 1 2))).keyOctets (j.oct 2 0 24)).elim (s.fail key j S.authFail)
        (s.storeSecret key j (j.handle 1 0) (bits (j.dw 1 3) 3 0) (bits (j.dw 1 3) 5 4))) := by
  refine State.onRun_next hr ?_
  simp only [hc, hpad, ne_eq, not_true_eq_false, if_false]
  cases kwUnwrap (s.slot (refSlot (j.dw 1 2))).keyOctets (j.oct 2 0 24) <;> rfl

/-- CRED_DERIVE stores the secret it derives. -/
theorem exec_credDerive (hc : s.credSlotCheck key j U.derive = none) (hr : s.runs key 0o013 j) :
    exec (.credDerive key) s = .next (s.storeSecret key j (j.handle 1 0) (bits (j.dw 1 3) 3 0) (bits (j.dw 1 3) 5 4)
      (kdfCmac (s.slot (refSlot (j.dw 1 2))).keyOctets (kdfInput (ascii "CRED") (j.oct 2 0 16) 16) 16)) :=
  State.onRun_next hr (by simp only [hc])

section
variable {h : Nat} {w : List Word} (hh : h = j.handle 1 0) (hw : w = s.credView key j (hPage h) (hEntry h))
  (ho : j.oparg = 0) (hpad : j.handlePad 1 0 = true) (h2 : j.dw 1 2 = 0) (h3 : j.dw 1 3 = 0) (hgen : eGen w = hGen h)
  (hcol : j.colourOk (eColour w) = true)
include hh hw ho hpad h2 h3 hgen hcol

/-- CRED_RETIRE leaves an entry that is live or quarantined retired. -/
theorem exec_credRetire (hr : s.runs key 0o014 j) (hempty : eState w ≠ 0) (hret : eState w ≠ 2) :
    exec (.credRetire key) s = .next
      (s.finish key { j with pendCred := [(hPage h, hEntry h, entryWithState w 2 false)] } S.ok) := by
  subst hh hw
  exact State.onRun_next hr (by simp [ho, hpad, h2, h3, hgen, hcol, hempty, hret])

/-- RECLAIM leaves a retired entry that no open session holds empty, with GEN 0. -/
theorem exec_reclaim_entry (hr : s.runs key 0o015 j) (hret : eState w = 2)
    (hfree : s.sessionHolds (hPage h) (hEntry h) = false) : exec (.reclaim key) s = .next (s.finish key { j with
        pendCred := [(hPage h, hEntry h, w.take 7 ++ [putBits (putBits (cw w 7) 5 4 0) 17 10 0])] } S.ok) := by
  subst hh hw
  have hres : bits j.oparg 31 1 = 0 := by rw [ho]; decide
  have hslot : tb j.oparg 0 = false := by rw [ho]; decide
  exact State.onRun_next hr (by simp [hres, hslot, hpad, h2, h3, hgen, hcol, hret, hfree])

end

/-! ### Slots (R139, R141, R162) -/

/-- RECLAIM of a retired slot empties it, its generation with it. -/
theorem exec_reclaim_slot {v : Slot} (hr : s.runs key 0o015 j) (ho : j.oparg = 1) (hv : v = s.slot (refSlot (j.dw 1 0)))
    (href : refClean (j.dw 1 0) = true) (hvalid : tb (j.dw 1 0) 31 = false) (h1 : j.dw 1 1 = 0) (h2 : j.dw 1 2 = 0)
    (h3 : j.dw 1 3 = 0) (hcust : refSlot (j.dw 1 0) < custodianFirst) (hret : v.state = 2)
    (hgen : v.gen = refGen (j.dw 1 0)) (hcol : j.keyHolds v.colour = true) : exec (.reclaim key) s =
      .next (s.finishSlot key j (refSlot (j.dw 1 0)) ⟨0, 0, 0⟩ v.persist S.ok []) := by
  subst hv
  have hres : bits j.oparg 31 1 = 0 := by rw [ho]; decide
  have hslot : tb j.oparg 0 = true := by rw [ho]; decide
  exact State.onRun_next hr (by simp [hres, hslot, href, hvalid, h1, h2, h3, hcust.not_ge, hret, hgen, hcol])

/-- SLOT_GENERATE in good form: its target is checked; the slot is filled with 32 octets of a custody DRBG that delivers. -/
theorem exec_slotGenerate {a : Word} (hr : s.runs key 0o020 j) (ha : a = wd (j.dw 1 0).toNat) (harg : slotArg j = true)
    (h0 : bits (j.dw 1 0) 31 18 = 0) (h1 : j.dw 1 1 = 0) (h2 : j.dw 1 2 = 0) (h3 : j.dw 1 3 = 0) :
    exec (.slotGenerate key) s = .next ((s.targetCheck j (bits j.oparg 15 0) a).elim
      (if s.rngOk custodyInst then
          (s.drawFrom custodyInst 32).2.fillSlot key j (bits j.oparg 15 0) a (s.drawFrom custodyInst 32).1
        else s.fail key j S.deviceFault)
      (s.fail key j)) := by
  subst ha
  refine State.onRun_next hr ?_
  simp only [harg, h0, h1, h2, h3, Bool.not_true, Bool.false_eq_true, ne_eq, not_true_eq_false, or_self, if_false]
  cases s.targetCheck j (bits j.oparg 15 0) (wd (j.dw 1 0).toNat) with
  | some st => rfl
  | none => cases s.rngOk custodyInst <;> rfl

section
variable (hr : s.runs key 0o021 j) (harg : slotArg j = true) (hvalid : tb (j.dw 1 0) 31 = false) (h1 : j.dw 1 1 = 0)
  (h2 : j.dw 1 2 = 0) (h3 : j.dw 1 3 = 0) (hcust : bits j.oparg 15 0 < custodianFirst)
  (hkey : s.slotCheck j (j.dw 1 0) U.unwrap = none) (halg : (s.slot (refSlot (j.dw 1 0))).alg ≤ 3)
include hr harg hvalid h1 h2 h3 hcust hkey halg

/-- A blob whose tag fails gives SLOT_UNWRAP no key. -/
theorem exec_slotUnwrap_bad (hp : kwpUnwrap (s.slot (refSlot (j.dw 1 0))).keyOctets (j.oct 2 0 48) = none) :
    exec (.slotUnwrap key) s = .next (s.fail key j S.authFail) :=
  State.onRun_next hr (by simp [harg, hvalid, h1, h2, h3, hcust.not_ge, hkey, halg.not_gt, hp])

/-- SLOT_UNWRAP fills its slot with the key and the attributes of its blob. -/
theorem exec_slotUnwrap_good {o : List Octet} (hp : kwpUnwrap (s.slot (refSlot (j.dw 1 0))).keyOctets (j.oct 2 0 48) = some o)
    (hlen : o.length = 35) (hattr : beNat (o.drop 32) < 2 ^ 18)
    (ht : s.targetCheck j (bits j.oparg 15 0) (wd (beNat (o.drop 32))) = none) : exec (.slotUnwrap key) s =
      .next (s.fillSlot key j (bits j.oparg 15 0) (wd (beNat (o.drop 32))) (o.take 32)) :=
  State.onRun_next hr (by
    simp only [harg, hvalid, h1, h2, h3, hcust.not_ge, hkey, halg.not_gt, hp, hlen, hattr.not_ge, ht, Bool.not_true,
      Bool.false_eq_true, ne_eq, not_true_eq_false, or_self, if_false])

end

/-- SLOT_WRAP of a live slot whose EXPORT bit (bit 1 of ATTR0) is set returns its key and attributes wrapped. -/
theorem exec_slotWrap {v w : Slot} (hr : s.runs key 0o022 j) (hv : v = s.slot (refSlot j.oparg))
    (hw : w = s.slot (refSlot (j.dw 1 0))) (href : refClean j.oparg = true) (hvalid : tb j.oparg 31 = false)
    (hvalid' : tb (j.dw 1 0) 31 = false) (h1 : j.dw 1 1 = 0) (h2 : j.dw 1 2 = 0) (h3 : j.dw 1 3 = 0)
    (hcust : refSlot j.oparg < custodianFirst) (hlive : v.state = 1) (hgen : v.gen = refGen j.oparg)
    (hcol : j.keyHolds v.colour = true) (hexp : tb v.attr0 1 = true) (hkey : s.slotCheck j (j.dw 1 0) U.wrap = none)
    (halg : w.alg ≤ 3) : exec (.slotWrap key) s =
      .next (s.finish key j S.ok (kwpWrap w.keyOctets (beOctets 32 v.key.toNat ++ beOctets 3 v.attr0.toNat))) := by
  subst hv hw
  refine State.onRun_next hr ?_
  simp only [href, hvalid, hvalid', h1, h2, h3, hcust.not_ge, hlive, hgen, hcol, hkey, halg.not_gt, Bool.not_true,
    Bool.false_eq_true, ne_eq, not_true_eq_false, or_self, false_or, if_false]
  exact if_neg (fun h => absurd ((congrArg not hexp).symm.trans h) (by decide))

/-- SLOT_DERIVE with its target checked and its octets here fills the target with the key derived. -/
theorem exec_slotDerive {v : Slot} {a : Word} (hr : s.runs key 0o023 j) (hv : v = s.slot (refSlot (j.dw 1 0)))
    (ha : a = derivedAttr v (wd (j.dw 1 1).toNat)) (harg : slotArg j = true) (hvalid : tb (j.dw 1 0) 31 = false)
    (h1 : bits (j.dw 1 1) 31 18 = 0) (h2 : j.dw 1 2 = 0) (h3 : j.dw 1 3 = 0)
    (hkey : s.slotCheck j (j.dw 1 0) U.derive = none) (halg : v.alg ≤ 3 ∨ v.alg = 7)
    (ht : s.targetCheck j (bits j.oparg 15 0) a = none) (hne : j.declared 2 ≠ 0) (hmax : j.declared 2 ≤ 256)
    (hsg : j.sgBad 2 = false) (hlen : j.lenKnown 2 = true) (hst : j.lenStatus = none) (herr : j.hostErr = false)
    (hdata : j.dataHere 2 = true) :
    exec (.slotDerive key) s = .next (s.fillSlot key j (bits j.oparg 15 0) a (derivedKey v (j.data 2))) := by
  subst hv ha
  exact State.onRun_next hr (by
    simp only [harg, hvalid, h1, h2, h3, hkey, halg, ht, hne, hmax.not_gt, hsg, hlen, hst, herr, hdata, Bool.not_true,
      Bool.false_eq_true, ne_eq, not_true_eq_false, or_self, if_false])

/-- SLOT_DESTROY empties a live slot but for its generation. -/
theorem exec_slotDestroy {v : Slot} (hr : s.runs key 0o024 j) (hv : v = s.slot (refSlot j.oparg))
    (href : refClean j.oparg = true) (hvalid : tb j.oparg 31 = false) (hcust : refSlot j.oparg < custodianFirst)
    (hlive : v.state = 1) (hgen : v.gen = refGen j.oparg) (hcol : j.keyHolds v.colour = true) :
    exec (.slotDestroy key) s =
      .next (s.finishSlot key j (refSlot j.oparg) ⟨0, 0, wd (v.gen * 2 ^ 9)⟩ v.persist S.ok []) := by
  subst hv
  exact State.onRun_next hr (by simp [href, hvalid, hcust.not_ge, hlive, hgen, hcol])

/-- SLOT_INFO of a slot that is not live, or whose colour the queue holds, returns its attributes (R140). -/
theorem exec_slotInfo {v : Slot} (hr : s.runs key 0o025 j) (hv : v = s.slot (bits j.oparg 15 0)) (harg : slotArg j = true)
    (hsee : v.state ≠ 1 ∨ j.keyHolds v.colour = true) :
    exec (.slotInfo key) s = .next (s.finish key j S.ok (leOctets 4 v.attr0.toNat ++ leOctets 4 v.attr1.toNat)) := by
  subst hv
  have hsee' : ¬ ((s.slot (bits j.oparg 15 0)).state = 1 ∧ (!j.keyHolds (s.slot (bits j.oparg 15 0)).colour) = true) := by
    rintro ⟨hlive, hcol⟩
    obtain h | h := hsee
    · exact h hlive
    · exact absurd hcol (by rw [h]; decide)
  exact State.onRun_next hr (by simp only [harg, hsee', Bool.not_true, Bool.false_eq_true, if_false])

/-! ### RNG_GET (R162) -/

/-- RNG_GET in good form writes the octets its region's DRBG delivers. -/
theorem exec_rngGet {n : Nat} (hr : s.runs key 0o030 j) (hn : n = bits j.oparg 12 0) (ho : bits j.oparg 31 13 = 0)
    (hne : n ≠ 0) (hmax : n ≤ 4096) (hsg : j.sgBad 1 = false) (hlen : j.lenKnown 1 = true) (hsup : n ≤ j.supplied 1) :
    exec (.rngGet key) s = .next (if s.rngOk j.region then
        ((s.drawFrom j.region n).2.toBuffer j 1 (s.drawFrom j.region n).1).finish key j S.ok
      else s.fail key j S.deviceFault) := by
  subst hn
  refine State.onRun_next hr ?_
  simp only [ho, hne, hmax.not_gt, hsg, hlen, hsup.not_gt, Bool.not_true, Bool.false_eq_true, ne_eq, not_true_eq_false,
    or_self, if_false]
  cases s.rngOk j.region with
  | false => simp only [Bool.not_false, Bool.false_eq_true, if_true, if_false]
  | true => simp only [Bool.not_true, Bool.false_eq_true, if_true, if_false]

/-! ### A slot's change on its way (R139, R144) -/

/-- A change of a slot with no other change of it on its way, in a journal that takes records: it is recorded where the slot
is persistent, and waits for publication. -/
theorem State.finishSlot_of_room {n st : Nat} {v : Slot} (persist : Bool) (r : List Octet) (hpend : s.slotPending key n = false)
    (hcomp : s.cust.compacting = false) (hfull : s.journalFull = false) (hroom : s.cust.journal.length < s.journalCap) :
    s.finishSlot key j n v persist st r =
      (if persist then s.record (some n) v else s).finish key { j with pendSlot := some (n, v) } st r := by
  simp [State.finishSlot, hpend, hcomp, hfull, hroom]

end

/-- Settles O26: each row by the lemma about it where every check has passed. -/
theorem credentialsAndSlotsAreMadeByTheirJobs : Obligations.CredentialsAndSlotsAreMadeByTheirJobs := by
  refine ⟨fun key j s hc hr hpad => ⟨_, rfl, fun hm => ?_, fun sec hm => ?_⟩,
    fun key j s => exec_credDerive,
    fun key j h w s hr hh hw ho hpad h2 h3 hempty hret hgen hcol =>
      exec_credRetire hh hw ho hpad h2 h3 hgen hcol hr hempty hret,
    fun key j h w s hr hh hw ho hpad h2 h3 hret hgen hcol hfree =>
      exec_reclaim_entry hh hw ho hpad h2 h3 hgen hcol hr hret hfree,
    fun key j v s hr ho hv href hvalid h1 h2 h3 hcust hret hgen hcol =>
      exec_reclaim_slot hr ho hv href hvalid h1 h2 h3 hcust hret hgen hcol,
    fun key j a s hr ha harg h0 h1 h2 h3 => ⟨fun st ht => ?_, fun ht hrng => ?_⟩,
    fun key j p s hr harg hvalid h1 h2 h3 hcust hkey halg hp =>
      ⟨fun hm => exec_slotUnwrap_bad hr harg hvalid h1 h2 h3 hcust hkey halg (hp.symm.trans hm),
        fun o hm => exec_slotUnwrap_good hr harg hvalid h1 h2 h3 hcust hkey halg (hp.symm.trans hm)⟩,
    fun key j v w s => exec_slotWrap, fun key j v a s => exec_slotDerive, fun key j v s => exec_slotDestroy,
    fun key j v s => exec_slotInfo,
    fun key j n s hr hn ho hne hmax hsg hlen hsup => ⟨fun hrng => ?_, fun hrng => ?_⟩,
    fun key j n v persist st r s => State.finishSlot_of_room persist r⟩
  · rw [exec_credWrite hc hr hpad, hm, Option.elim_none]
  · rw [exec_credWrite hc hr hpad, hm, Option.elim_some]
  · rw [exec_slotGenerate hr ha harg h0 h1 h2 h3, ht, Option.elim_some]
  · rw [exec_slotGenerate hr ha harg h0 h1 h2 h3, ht, Option.elim_none, if_pos hrng]
  · rw [exec_rngGet hr hn ho hne hmax hsg hlen hsup, if_neg (by rw [hrng]; decide)]
  · rw [exec_rngGet hr hn ho hne hmax hsg hlen hsup, if_pos hrng]

end Sys2Proof.Machine
end

section
/-! PROOFS. Entropy, the journal and the colour keys (R133 to R135, R142, R144). -/
namespace Sys2Proof.Machine

/-! ### The health tests (R134) -/

/-- The repetition count test fails where as many samples as its cutoff have come and the newest of them are equal. -/
theorem State.rctFails_eq (s : State) (last : List Octet) : s.rctFails last =
    (decide (max 0o20 (s.rfld P.rng R.RNG_RCT_CUT 7 0) ≤ last.length) &&
      (last.drop (last.length - max 0o20 (s.rfld P.rng R.RNG_RCT_CUT 7 0))).all (fun o => o == last.getLastD 0)) := by
  have hlen (n : Nat) : (last.drop (last.length - n)).length = n ↔ n ≤ last.length := by
    rw [List.length_drop]
    omega
  simp only [State.rctFails, hlen]

/-- The adaptive proportion test fails where the first value of a window has come as often in it as its cutoff. -/
theorem State.aptFails_eq (s : State) (window : List Octet) : s.aptFails window = (!window.isEmpty &&
    decide (s.rfld P.rng R.RNG_APT_CUT 8 0 ≤ (window.filter (fun x => x == window.headD 0)).length)) := by
  cases window <;> rfl

/-- HEALTH_FAIL of a sample that fails a test, on an enabled generator not in ERROR (R135). -/
theorem exec_healthFail {last window : List Octet} {s : State} (hen : s.en P.rng = true)
    (herr : s.stat P.rng ST.error = false) (h : s.rctFails last = true ∨ s.aptFails window = true) :
    exec (.healthFail last window) s = .next (s.healthFail (s.rctFails last) (s.aptFails window)) :=
  when_of_true (by simp [hen, herr, h])

/-! ### Reseeding (R133) -/

/-- A DRBG that delivers and whose reseed is due is seeded again, and the reseed is counted. -/
theorem exec_drbgReseed {inst : Nat} {s : State} (hrng : s.rngOk inst = true)
    (hdue : max 1 (s.rfld P.rng R.RNG_CFG 15 0) * 4096 ≤ Map.get (dflt 0) s.cust.reqs inst ∨
      Map.get (dflt 0) s.cust.seeded inst + 1000000000 ≤ s.now + 1) :
    exec (.drbgReseed inst) s = .next ((s.seed inst).inc36 P.rng R.RNG_RESEEDS) :=
  when_of_true (by rw [hrng, Bool.true_and, State.reseedDue, ← Bool.decide_or]; exact decide_eq_true hdue)

/-! ### The journal (R144) -/

/-- A compaction leaves the records kept; it ends with JOURNAL_FULL where fewer than 64 segments became free. -/
theorem exec_journalCompact {s t u : State} {kept : List JRec} (hc : s.cust.compacting = true) (hkept : kept = s.journalKept)
    (ht : t = s.rewriteJournal kept)
    (hu : u = (State.setRbit { t with cust := { t.cust with compacting := false } } P.peat R.PEAT_STAT 1
      false).setRbit P.peat R.PEAT_STAT 2 (decide (t.journalCap < kept.length + 64))) :
    exec .journalCompact s = .next (if t.journalCap < kept.length + 64 then u.event P.peat 3 else u) := by
  subst hu ht hkept
  calc exec .journalCompact s = execJournalCompact s := rfl
    _ = _ := by simp only [execJournalCompact, hc, if_true, decide_eq_true_eq]

/-! ### The colour keys (R142) -/

/-- QKEY_DATA_WRITE where PEAT takes writes: the key of the selected queue, unless that queue runs. -/
theorem exec_qkeyDataWrite {q : Nat} (req : Requester) (val : Word) {s : State} (hd : s.deaf P.peat = false)
    (hq : q = s.rfld P.peat R.PEAT_QKEY_SEL 7 0) : exec (.qkeyDataWrite req val) s = .next
      (if s.en (P.wq q) || s.stat (P.wq q) ST.stopping then s.pgErr P.peat 0 req R.PEAT_QKEY_DATA
        else { s with cust := { s.cust with qkeys := Map.put (dflt 0) s.cust.qkeys q (val.setWidth 16) } }) := by
  subst hq
  exact written_of_taken hd

/-- Settles O27: the health tests by what each of them counts, the other rows by the lemmas about them. -/
theorem entropyJournalAndColourKeys : Obligations.EntropyJournalAndColourKeys := by
  refine ⟨fun last window s hen herr => ⟨s.rctFails last, s.aptFails window, s.rctFails_eq last, s.aptFails_eq window,
      exec_healthFail hen herr⟩,
    fun inst s => exec_drbgReseed,
    fun s hc => ⟨_, _, _, rfl, rfl, rfl, exec_journalCompact hc rfl rfl rfl⟩,
    fun req val q s hd hq => ⟨fun hen hs => ?_, fun hruns => ?_⟩⟩
  · rw [exec_qkeyDataWrite req val hd hq, if_neg (by simp [hen, hs])]
  · rw [exec_qkeyDataWrite req val hd hq, if_pos (by simp [hruns])]

end Sys2Proof.Machine
end

section
/-! PROOFS. Ceremonies (R129, R163 to R165): how one starts and ends, and what a card presented does. -/
namespace Sys2Proof.Machine

/-! ### START, CANCEL and the time-out (R165) -/

section
variable {s : State} (req : Requester) {func : Nat}

/-- A START while a ceremony runs is an error. -/
theorem State.cerStart_busy (hruns : s.cerRuns = true) : s.cerStart req func = s.pgErr P.peat 1 req R.PEAT_CER_CTRL :=
  if_pos hruns

variable (hruns : s.cerRuns = false) (hfunc : func < 6)
include hruns hfunc

/-- A START of a function that the state of the master key does not allow is refused (Table 4-18). -/
theorem State.cerStart_state (hno : cerAllowed func (s.rfld P.hmk R.HMK_STAT 1 0) = false) :
    s.cerStart req func = s.cerRefuse func CER.state := by
  simp [State.cerStart, hruns, hfunc.not_ge, hno]

variable (hok : cerAllowed func (s.rfld P.hmk R.HMK_STAT 1 0) = true)
include hok

/-- A START that enrols cards is refused where its quorum is out of range. -/
theorem State.cerStart_param (henrols : func = 0 ∨ func = 5) (hq : quorumOk (s.reg P.peat R.PEAT_CER_PARAM) = false) :
    s.cerStart req func = s.cerRefuse func CER.param := by
  simp [State.cerStart, hruns, hfunc.not_ge, hok, henrols, hq]

/-- A START that nothing refuses opens its ceremony. -/
theorem State.cerStart_opens (hq : func = 0 ∨ func = 5 → quorumOk (s.reg P.peat R.PEAT_CER_PARAM) = true)
    (hrng : s.rngOk custodyInst = true) : s.cerStart req func = s.cerOpen func := by
  have hparam : ¬ ((func = 0 ∨ func = 5) ∧ quorumOk (s.reg P.peat R.PEAT_CER_PARAM) = false) := by
    rintro ⟨henrols, hbad⟩
    rw [hq henrols] at hbad
    exact Bool.noConfusion hbad
  simp [State.cerStart, hruns, hfunc.not_ge, hok, hparam, hrng]

end

/-- The START commands with the function each opens (Table 4-18). -/
def startRows : List ((Requester → Instr) × Nat) :=
  [(fun r => .cerCommission r, 0), (fun r => .cerEnrolDomain r, 1), (fun r => .cerSetTamper r, 2), (fun r => .cerLeaveGb r, 3),
    (fun r => .cerRetire r, 4), (fun r => .cerCustodians r, 5)]

/-- A START command where PEAT takes writes starts its function. -/
theorem exec_start {row : (Requester → Instr) × Nat} (hrow : row ∈ startRows) (req : Requester) {s : State}
    (hd : s.deaf P.peat = false) : row.2 < 6 ∧ exec (row.1 req) s = .next (s.cerStart req row.2) := by
  simp only [startRows, List.mem_cons, List.not_mem_nil, or_false] at hrow
  obtain rfl | rfl | rfl | rfl | rfl | rfl := hrow <;> exact ⟨by decide, written_of_taken hd⟩

/-- A ceremony that runs ends FAILED with its cause; the tamper page hears of SET_TAMPER alone. -/
theorem State.cerFail_of_runs {s : State} (cause : Nat)
    (hruns : s.rfld P.peat R.PEAT_CER_STAT 2 0 = 1 ∨ s.rfld P.peat R.PEAT_CER_STAT 2 0 = 2) (hfunc : s.cust.cer.func ≠ 2) :
    s.cerFail cause =
      ((s.setRfld P.peat R.PEAT_CER_STAT 2 0 4).setRfld P.peat R.PEAT_CER_STAT 11 8 cause).event P.peat 1 := by
  simp only [State.cerFail, if_pos hruns, State.cust_event, State.cust_setRfld, hfunc, if_false]

/-- CANCEL of a ceremony other than SET_TAMPER's. -/
theorem exec_cerCancel (req : Requester) {s : State} (hd : s.deaf P.peat = false)
    (hruns : s.rfld P.peat R.PEAT_CER_STAT 2 0 = 1 ∨ s.rfld P.peat R.PEAT_CER_STAT 2 0 = 2) (hfunc : s.cust.cer.func ≠ 2) :
    exec (.cerCancel req) s = .next (((s.setRfld P.peat R.PEAT_CER_STAT 2 0 4).setRfld P.peat
      R.PEAT_CER_STAT 11 8 cerCancelled).event P.peat 1) :=
  (written_of_taken hd).trans (congrArg Host.Outcome.next (State.cerFail_of_runs cerCancelled hruns hfunc))

/-- CEREMONY_TIMEOUT of a ceremony that has run for 600 s. -/
theorem exec_ceremonyTimeout {s : State} (hruns : s.cerRuns = true)
    (ht : s.cust.cer.startSys.toNat + 600000000000 ≤ s.clock.sys.toNat) :
    exec .ceremonyTimeout s = .next (s.cerFail CER.timeout) :=
  when_of_true (by rw [hruns, Bool.true_and]; exact decide_eq_true ht)

/-! ### A card at a custodian station (R163) -/

/-- The APDUs begun with a card: all that it comes to, or those up to the one that failed. -/
def State.apdusBegun (s : State) (pubkey sig : List Octet) (fail : Option Nat) : Nat :=
  match fail with
  | some i => min i (s.cardSteps pubkey sig)
  | none => s.cardSteps pubkey sig

/-- The octets of the ephemeral scalar, drawn only where the fourth APDU is begun, and the state after the draw. -/
def State.cardKey (s : State) (n : Nat) : List Octet × State := if n = 4 then s.drawFrom custodyInst 32 else ([], s)

/-- The state in which a card that was sent `n` APDUs has been deactivated. -/
def State.cardSent (s : State) (stn n : Nat) : State :=
  (s.cardKey n).2.cardStation stn ([selectApdu, identifyApdu, approveApdu (s.cardKey n).2.challenge,
    componentApdu (p256.octets (p256.mul (ephemeral (s.cardKey n).1) p256.g))].take n)

/-- A card runs: it is sent its APDUs, then its answers count, or its failure does. -/
theorem State.cardRun_eq (s : State) (stn n : Nat) (pubkey sig comp : List Octet) (whole : Bool) :
    s.cardRun stn n pubkey sig comp whole =
      if whole then (s.cardSent stn n).cardAnswer pubkey sig comp (s.cardKey n).1
      else if n ≤ 2 then (s.cardSent stn n).cardNeeded else (s.cardSent stn n).cerFail CER.protocol := rfl

/-- CUSTODIAN_CARD_PROCESS of a card in an enabled custodian station, while cards are collected and the ephemeral key, where
it is needed, can be drawn. -/
theorem exec_custodianCardProcess {stn n : Nat} {pubkey sig : List Octet} (comp : List Octet) {fail : Option Nat} {s : State}
    (hst : s.cerState = 1) (hcust : s.rbit P.peat R.PEAT_CUST_STN stn = true) (hready : s.ready (P.cst stn) = true)
    (hpres : s.rbit (P.cst stn) R.CST_STAT 3 = true) (hidle : s.rfld (P.cst stn) R.CST_STAT 2 0 = 0)
    (hn : n = s.apdusBegun pubkey sig fail) (hrng : n = 4 → s.rngOk custodyInst = true) :
    exec (.custodianCardProcess stn pubkey sig comp fail) s = .next (s.cardRun stn n pubkey sig comp fail.isNone) := by
  subst hn
  have hdraws : ¬ (s.apdusBegun pubkey sig fail = 4 ∧ s.rngOk custodyInst = false) := by
    rintro ⟨hfour, hsilent⟩
    rw [hrng hfour] at hsilent
    exact Bool.noConfusion hsilent
  calc exec (.custodianCardProcess stn pubkey sig comp fail) s = execCustodianCardProcess stn pubkey sig comp fail s := rfl
    _ = .next (if s.apdusBegun pubkey sig fail = 4 ∧ s.rngOk custodyInst = false then
          ({ s with fresh := s.fresh + 1 } : State).cerFail s.cerSilent
        else s.cardRun stn (s.apdusBegun pubkey sig fail) pubkey sig comp fail.isNone) :=
      when_of_true (by simp [hst, hcust, hready, hpres, hidle])
    _ = _ := by rw [if_neg hdraws]

/-! ### What a card that answered does (R165) -/

section
variable {u : State} {pubkey sig : List Octet} (comp o : List Octet) {d : BitVec 256} (hd : d = cardDigest pubkey)
include hd

/-- A card that does not count asks for another one. -/
theorem State.cardAnswer_refused (hc : u.cardCounts d = false) : u.cardAnswer pubkey sig comp o = u.cardNeeded := by
  subst hd
  exact if_pos (by rw [hc]; rfl)

/-- A card that counts is taken where its signature verifies: enrolled, or counted with its component. -/
theorem State.cardAnswer_counts (hc : u.cardCounts d = true) : u.cardAnswer pubkey sig comp o =
    if !u.cardSig pubkey sig then u.cerFail CER.sig
    else if u.enrolling then u.enrolCard d
    else if u.cust.cer.func = 1 then (openComponent (ephemeral o) pubkey comp).elim (u.cerFail CER.sig) (u.countCard d)
    else u.countCard d 0 := by
  subst hd
  refine (if_neg (by rw [hc]; decide)).trans ?_
  cases openComponent (ephemeral o) pubkey comp <;> rfl

end

/-- While cards are enrolled, a card counts once. -/
theorem State.cardCounts_enrolling {u : State} (d : BitVec 256) (h : u.enrolling = true) :
    u.cardCounts d = !u.cust.cer.enrolled.contains d := if_pos h

/-- While cards approve, an enrolled custodian's counts once. -/
theorem State.cardCounts_approving {u : State} (d : BitVec 256) (h : u.enrolling = false) :
    u.cardCounts d = (u.isCustodian d && !u.cust.cer.counted.contains d) := if_neg (by rw [h]; decide)

/-- Settles O28: START in the order of its checks, the other commands by the lemmas about them, a card's answers by whether
the card counts. -/
theorem ceremoniesRunByQuorum : Obligations.CeremoniesRunByQuorum := by
  refine ⟨fun row hrow req s hd => ?_, fun req s => exec_cerCancel req, fun s => exec_ceremonyTimeout,
    fun stn pubkey sig comp fail n s hst hcust hready hpres hidle hn hrng => ?_,
    fun pubkey sig comp o u => ⟨_, rfl, fun he hc => ?_, fun he hc hs => ?_, fun he hc => ?_, fun he hcust hc => ?_⟩⟩
  · obtain ⟨hlt, hex⟩ := exec_start hrow req hd
    rw [hex]
    refine ⟨fun hruns => ?_, fun hruns hno => ?_, fun hruns hok => ⟨fun henrols hq => ?_, fun hq hrng => ?_⟩⟩
    · rw [State.cerStart_busy req hruns]
    · rw [State.cerStart_state req hruns hlt hno]
    · rw [State.cerStart_param req hruns hlt hok henrols hq]
    · rw [State.cerStart_opens req hruns hlt hok hq hrng]
  · have hex := exec_custodianCardProcess comp hst hcust hready hpres hidle hn hrng
    rw [State.cardRun_eq] at hex
    refine ⟨(s.cardKey n).1, (s.cardKey n).2, s.cardSent stn n, fun h4 => ?_, fun h4 => ?_, rfl, fun hf => ?_,
      fun hf h2 => ?_, fun hf h2 => ?_⟩
    · rw [State.cardKey, if_pos h4]
      exact ⟨rfl, rfl⟩
    · rw [State.cardKey, if_neg h4]
      exact ⟨rfl, rfl⟩
    · rw [hex, if_pos (by rw [hf]; rfl)]
    · rw [hex, if_neg (by simpa using hf), if_pos h2]
    · rw [hex, if_neg (by simpa using hf), if_neg h2.not_ge]
  · rw [State.cardAnswer_refused comp o rfl (by rw [State.cardCounts_enrolling _ he, hc]; rfl)]
  · rw [State.cardAnswer_counts comp o rfl (by rw [State.cardCounts_enrolling _ he, hc]; rfl), if_neg (by rw [hs]; decide),
      if_pos he]
  · have hno : u.cardCounts (cardDigest pubkey) = false := by
      rw [State.cardCounts_approving _ he]
      obtain h | h := hc
      · rw [h, Bool.false_and]
      · rw [h, Bool.not_true, Bool.and_false]
    rw [State.cardAnswer_refused comp o rfl hno]
  · have hcounts : u.cardCounts (cardDigest pubkey) = true := by
      rw [State.cardCounts_approving _ he, hcust, hc]
      rfl
    have happ : ¬ u.enrolling = true := by rw [he]; decide
    rw [State.cardAnswer_counts comp o rfl hcounts]
    refine ⟨fun hs => ?_, fun hs hf => ?_, fun hs hf => ⟨fun c hcomp => ?_, fun hcomp => ?_⟩⟩
    · rw [if_pos (by rw [hs]; rfl)]
    · rw [if_neg (by rw [hs]; decide), if_neg happ, if_neg hf]
    · rw [if_neg (by rw [hs]; decide), if_neg happ, if_pos hf, hcomp, Option.elim_some]
    · rw [if_neg (by rw [hs]; decide), if_neg happ, if_pos hf, hcomp, Option.elim_none]

end Sys2Proof.Machine
end

section
/-! PROOFS. The payment and telecom composites (R147, R149, R159, R211, R267, R274): what each makes of the job its core
holds. -/
namespace Sys2Proof.Machine

/-! ### The frame of a composite job (R266, R268) -/

section
variable {s t : State} {key op c : Nat} {j : Job}

/-- A composite opcode acts on a job its core holds; the frame is cleared when the job leaves the core. -/
theorem State.onHeld_next {f : Job → State} (hh : s.holds key op j c) (h : f j = t) :
    s.onHeld key op f = .next (t.leftHeld c key) := by
  obtain ⟨⟨hj, hst, hop, hsound⟩, ⟨p, hu, hp⟩, hheld, horph⟩ := hh
  simp [State.onHeld, State.onJob, State.leftHeld, hj, hst, hop, hsound, hu, hp, hheld, horph, h]

variable {r : BitVec 32} {usage : Nat} {algs : List Nat} {g : Slot → State}

/-- A slot that its checks refuse ends the job with their status. -/
theorem State.withSlot_of_error {st : Nat} (h : s.refSlotOf j r usage algs = .error st) :
    s.withSlot key j r usage algs g = s.fail key j st := by
  simp only [State.withSlot, h]

/-- A slot that passes its checks is used. -/
theorem State.withSlot_of_ok {v : Slot} (h : s.refSlotOf j r usage algs = .ok v) : s.withSlot key j r usage algs g = g v := by
  simp only [State.withSlot, h]

/-- A job in form goes on. -/
theorem State.need_of_true {b : Bool} (h : b = true) : s.need key j b t = t := if_pos h

/-- A job out of form ends INVALID_OPERAND. -/
theorem State.need_of_false {b : Bool} (h : b = false) : s.need key j b t = s.fail key j S.invalidOperand :=
  if_neg (by rw [h]; decide)

/-- A generator that delivers gives a job its random octets. -/
theorem State.withRandom_of_ok {n : Nat} {f : List Octet → State → State} (h : s.rngOk j.region = true) :
    s.withRandom key j n f = f (s.drawFrom j.region n).1 (s.drawFrom j.region n).2 := if_pos h

/-- A silent generator ends the job DEVICE_FAULT (R135). -/
theorem State.withRandom_of_silent {n : Nat} {f : List Octet → State → State} (h : s.rngOk j.region = false) :
    s.withRandom key j n f = s.fail key j S.deviceFault := if_neg (by rw [h]; decide)

end

/-! ### RSA and the curves (R274) -/

section
variable {s : State} {key c l n : Nat} {j : Job} {v : Slot} (hh : s.holds key 0o300 j c)
  (hv : s.refSlotOf j (j.dw 1 0) U.unwrap [3] = .ok v) (hl : l = bits j.oparg 9 0) (hn : n = l + 5 * (l / 2))
  (ho : bits j.oparg 31 10 = 0) (heven : l % 2 = 0) (hmin : 128 ≤ l) (hmax : l ≤ 512) (h2 : j.declared 2 = blobLen n)
  (h3 : j.declared 3 = l) (hdata : j.delivered [(4, l)] = true)
include hh hv hl hn ho heven hmin hmax h2 h3 hdata

/-- RSA_CRT with a blob that its slot does not unwrap. -/
theorem exec_rsaCrt_bad (hb : kwpUnwrap v.keyOctets (j.data 2) = none) :
    exec (.rsaCrt key) s = .next ((s.fail key j S.authFail).leftHeld c key) := by
  subst hn hl
  exact State.onHeld_next hh (by
    simp only [State.withSlot_of_ok hv, ho, heven, hmin, hmax, h2, h3, decide_true, Bool.and_self, State.need_of_true,
      State.lenGate_delivered _ _ _ _ _ hdata, hb])

/-- RSA_CRT with a key in form returns what the bignum program computes. -/
theorem exec_rsaCrt_good {b : List Octet} {part : Nat → Nat} (hb : kwpUnwrap v.keyOctets (j.data 2) = some b)
    (hpart : ∀ i, part i = beNat (sliceOct b (l + i * (l / 2)) (l / 2))) (hlen : b.length = n)
    (hx : beNat (j.data 3) < beNat (b.take l)) (hpq : part 1 < part 0) {r : Nat}
    (hr : rsaProgram (beNat (b.take l)) (part 0) (part 1) (part 2) (part 3) (part 4) (beNat (j.data 3)) = some r) :
    exec (.rsaCrt key) s = .next ((s.finishOut key j j.goodStatus [(4, beOctets l r)] []).leftHeld c key) := by
  subst hn hl
  refine State.onHeld_next hh ?_
  simp only [State.withSlot_of_ok hv, ho, heven, hmin, hmax, h2, h3, decide_true, Bool.and_self, State.need_of_true,
    State.lenGate_delivered _ _ _ _ _ hdata, hb, ← hpart, hlen, hx.not_ge, hpq.not_ge, ne_eq, not_true_eq_false, or_self,
    if_false, hr]

end

section
variable {s : State} {key c : Nat} {j : Job} {v : Slot} (hh : s.holds key 0o301 j c)
  (hv : s.refSlotOf j (j.dw 1 0) U.sign [8] = .ok v) (ho : j.oparg = 0) (h2 : j.declared 2 = 32)
  (hdata : j.delivered [] = true)
include hh hv ho h2 hdata

/-- ECDSA_P256_SIGN under a nonce the region's DRBG delivers. -/
theorem exec_ecdsaP256Sign_good (hrng : s.rngOk j.region = true) {o : List Octet} {u : State} {r t : Nat}
    (hdraw : (o, u) = s.drawFrom j.region 32)
    (hsign : (r, t) = p256.signWith v.key.toNat (2 + beNat o % (p256.n - 2)) (j.data 2)) : exec (.ecdsaP256Sign key) s =
      .next ((u.finish key j j.goodStatus (beOctets 32 r ++ beOctets 32 t)).leftHeld c key) :=
  State.onHeld_next hh (by
    simp only [State.withSlot_of_ok hv, ho, h2, decide_true, Bool.and_self, State.need_of_true,
      State.lenGate_delivered _ _ _ _ _ hdata, State.withRandom_of_ok hrng, ← hdraw, ← hsign])

/-- ECDSA_P256_SIGN with a silent generator. -/
theorem exec_ecdsaP256Sign_silent (hrng : s.rngOk j.region = false) :
    exec (.ecdsaP256Sign key) s = .next ((s.fail key j S.deviceFault).leftHeld c key) :=
  State.onHeld_next hh (by
    simp only [State.withSlot_of_ok hv, ho, h2, decide_true, Bool.and_self, State.need_of_true,
      State.lenGate_delivered _ _ _ _ _ hdata, State.withRandom_of_silent hrng])

end

section
variable {s : State} {key : Nat} {j : Job} {e : Curve} {n : Nat} {d : List Octet} (hn : n = e.len) (hd : d = j.data 1)
  (ho : j.oparg = 0) (h1 : j.declared 1 = 5 * n + 1) (hdata : j.delivered [] = true)
include hn hd ho h1 hdata

/-- A verification with a public key that is no point of the curve. -/
theorem State.ecdsaVer_bad (hq : e.parse (d.take (2 * n + 1)) = none) : s.ecdsaVer key j e = s.fail key j S.invalidOperand := by
  subst hn hd
  simp only [State.ecdsaVer, ho, h1, decide_true, Bool.and_self, State.need_of_true,
    State.lenGate_delivered _ _ _ _ _ hdata, hq]

/-- A verification ends as the signature says. -/
theorem State.ecdsaVer_point {x y : Nat} (hq : e.parse (d.take (2 * n + 1)) = some (x, y)) : s.ecdsaVer key j e =
    s.finish key j (if e.verify x y ((d.drop (2 * n + 1)).take n) (beNat ((d.drop (3 * n + 1)).take n))
      (beNat ((d.drop (4 * n + 1)).take n)) then j.goodStatus else S.authFail) := by
  subst hn hd
  simp only [State.ecdsaVer, ho, h1, decide_true, Bool.and_self, State.need_of_true,
    State.lenGate_delivered _ _ _ _ _ hdata, hq]
  split_ifs <;> rfl

end

/-- The two verifications, each with its curve. -/
noncomputable def verifyRows : List ((Nat → Instr) × Nat × Curve) :=
  [(fun k => .ecdsaP256Ver k, 0o302, p256), (fun k => .ecdsaP384Ver k, 0o303, p384)]

/-- A verification runs on the job its core holds. -/
theorem exec_ecdsaVer {row : (Nat → Instr) × Nat × Curve} (hrow : row ∈ verifyRows) {s : State} {key c : Nat} {j : Job}
    (hh : s.holds key row.2.1 j c) : exec (row.1 key) s = .next ((s.ecdsaVer key j row.2.2).leftHeld c key) := by
  simp only [verifyRows, List.mem_cons, List.not_mem_nil, or_false] at hrow
  obtain rfl | rfl := hrow <;> exact State.onHeld_next hh rfl

/-- ECDH_P256 with its target checked fills it with the shared secret. -/
theorem exec_ecdhP256 {s : State} {key c : Nat} {j : Job} {v : Slot} {q : Nat × Nat} (hh : s.holds key 0o304 j c)
    (hv : s.refSlotOf j (j.dw 1 0) U.derive [8] = .ok v) (harg : slotArg j = true) (h2 : j.declared 2 = 65)
    (ht : s.targetCheck j (bits j.oparg 15 0) (ecdhAttr v) = none) (hdata : j.delivered [] = true)
    (hq : p256.parse (j.data 2) = some q) : exec (.ecdhP256 key) s = .next ((s.fillSlot key j (bits j.oparg 15 0) (ecdhAttr v)
      (beOctets 32 (xOf (p256.mul v.key.toNat (some q))))).leftHeld c key) :=
  State.onHeld_next hh (by
    simp only [State.withSlot_of_ok hv, harg, h2, decide_true, Bool.and_self, State.need_of_true, ht,
      State.lenGate_delivered _ _ _ _ _ hdata, hq])

/-! ### Cards, PINs, derivation (R274) -/

/-- CRYPTOGRAM_VER under a credential that passes its checks: the response, where the cryptogram is the card's. -/
theorem exec_cryptogramVer {s : State} {key c h : Nat} {j : Job} {sk : List Octet} (hh : s.holds key 0o305 j c)
    (hhandle : h = j.handle 1 0) (hcred : s.credCheck key j h = none)
    (hkind : s.kindOk key j (hPage h) (hEntry h) 0 [] = true) (ho : j.oparg = 0) (hpad : j.handlePad 1 0 = true)
    (hmin : 1 ≤ j.declared 2) (hmax : j.declared 2 ≤ 256) (hdata : j.delivered [] = true)
    (hsk : sk = aesEnc (eSecret (s.credView key j (hPage h) (hEntry h)))
      (beOctets 2 (bits (j.dw 1 2) 15 0) ++ [0xF0] ++ zeros 13)) :
    exec (.cryptogramVer key) s = .next (State.leftHeld
      (if (cmac sk (j.data 2)).take 8 = j.oct 3 0 8 then
          s.finish key j j.goodStatus ((cmac sk (j.oct 3 0 8 ++ j.oct 3 8 2)).take 8)
        else s.fail key j S.authFail) c key) := by
  subst hhandle hsk
  refine State.onHeld_next hh ?_
  simp only [hcred, State.cryptogram, hkind, ho, hpad, hmin, hmax, decide_true, Bool.and_self, State.need_of_true,
    State.lenGate_delivered _ _ _ _ _ hdata]

/-- PIN_TRANSLATE: a field in form goes under the new key. -/
theorem exec_pinTranslate {s : State} {key c : Nat} {j : Job} {a b : Slot} {f : List Octet} (hh : s.holds key 0o306 j c)
    (ha : s.refSlotOf j (j.dw 1 0) U.decrypt [1, 2, 3] = .ok a) (hb : s.refSlotOf j (j.dw 1 1) U.encrypt [1, 2, 3] = .ok b)
    (ho : j.oparg = 0) (hf : f = decBlk (aesSchedule a.keyOctets)
      (xorO (decBlk (aesSchedule a.keyOctets) (j.oct 2 0 16)) (j.oct 3 0 16))) :
    exec (.pinTranslate key) s = .next (State.leftHeld
      (if pinFieldOk f then s.finish key j S.ok (aesEnc b.keyOctets (xorO (aesEnc b.keyOctets f) (j.oct 3 0 16)))
        else s.fail key j S.invalidOperand) c key) := by
  subst hf
  exact State.onHeld_next hh (by
    simp only [State.withSlot_of_ok ha, State.withSlot_of_ok hb, ho, decide_true, State.need_of_true])

/-- KDF_TREE with its target checked fills it with the key of the last level. -/
theorem exec_kdfTree {s : State} {key c depth : Nat} {j : Job} {v : Slot} {a : Word} (hh : s.holds key 0o307 j c)
    (hv : s.refSlotOf j (j.dw 1 0) U.derive [1, 2, 3, 7] = .ok v) (ha : a = derivedAttr v (wd (j.dw 1 1).toNat))
    (hdepth : depth = bits (j.dw 1 2) 3 0) (harg : slotArg j = true) (h1 : bits (j.dw 1 1) 31 18 = 0)
    (h2 : bits (j.dw 1 2) 31 4 = 0) (hmin : 1 ≤ depth) (hmax : depth ≤ 8) (hlen : j.declared 2 = 16 * depth)
    (ht : s.targetCheck j (bits j.oparg 15 0) a = none) (hdata : j.delivered [] = true) : exec (.kdfTree key) s =
      .next ((s.fillSlot key j (bits j.oparg 15 0) a (kdfTree v (chunks 16 (j.data 2)))).leftHeld c key) := by
  subst ha hdepth
  exact State.onHeld_next hh (by
    simp only [State.withSlot_of_ok hv, harg, h1, h2, hmin, hmax, hlen, decide_true, Bool.and_self, State.need_of_true, ht,
      State.lenGate_delivered _ _ _ _ _ hdata])

/-- AKA_TUAK under a credential that passes its checks returns its vector. -/
theorem exec_akaTuak {s : State} {key c h : Nat} {j : Job} {e : Nat → List Octet} (hh : s.holds key 0o310 j c)
    (hhandle : h = j.handle 1 0) (hcred : s.credCheck key j h = none)
    (hkind : s.kindOk key j (hPage h) (hEntry h) 1 [(1, 2), (2, 3), (3, 3)] = true) (ho : bits j.oparg 31 5 = 0)
    (hmac : bits j.oparg 1 0 < 3) (hpad : j.handlePad 1 0 = true)
    (he : ∀ i, e i = eSecret (s.credView key j (hPage h) (hEntry h + i))) :
    exec (.akaTuak key) s = .next ((s.finish key j S.ok (tuak (e 0 ++ e 1) (e 2 ++ e 3) (j.oct 2 0 16) (j.oct 1 8 6)
      (j.oct 1 14 2) ([8, 16, 32].getD (bits j.oparg 1 0) 8) ([4, 8, 16, 32].getD (bits j.oparg 3 2) 4)
      (tb j.oparg 4))).leftHeld c key) := by
  subst hhandle
  refine State.onHeld_next hh ?_
  simp only [hcred, State.tuakJob, hkind, ho, hmac, hpad, decide_true, Bool.and_self, State.need_of_true, ← he]

/-! ### Refusals -/

/-- The composites that name a key slot first: the opcode, the usage and algorithms of its slot, and the form of its job. -/
noncomputable def slotRows : List ((Nat → Instr) × Nat × Nat × List Nat × (Job → Bool)) := [
  (fun k => .rsaCrt k, 0o300, U.unwrap, [3], fun j => bits j.oparg 31 10 == 0),
  (fun k => .ecdsaP256Sign k, 0o301, U.sign, [8], fun j => j.oparg == 0 && j.declared 2 == 32),
  (fun k => .ecdhP256 k, 0o304, U.derive, [8], fun j => slotArg j && j.declared 2 == 65),
  (fun k => .kdfTree k, 0o307, U.derive, [1, 2, 3, 7], fun j => slotArg j && j.declared 2 == 16 * bits (j.dw 1 2) 3 0)]

section
variable {row : (Nat → Instr) × Nat × Nat × List Nat × (Job → Bool)} (hrow : row ∈ slotRows) {s : State} {key c : Nat}
  {j : Job} (hh : s.holds key row.2.1 j c)
include hrow hh

/-- Such a composite uses its slot only where its form, and what else it needs, holds. -/
theorem exec_slotRow : ∃ need : Slot → Bool, ∃ g : Slot → State, (∀ v, row.2.2.2.2 j = false → need v = false) ∧
    exec (row.1 key) s = .next ((s.withSlot key j (j.dw 1 0) row.2.2.1 row.2.2.2.1 (fun v =>
      s.need key j (need v) (g v))).leftHeld c key) := by
  simp only [slotRows, List.mem_cons, List.not_mem_nil, or_false] at hrow
  obtain rfl | rfl | rfl | rfl := hrow
  · refine ⟨_, _, fun v hform => ?_, State.onHeld_next hh rfl⟩
    simp [beq_eq_false_iff_ne.mp hform]
  · refine ⟨_, _, fun v hform => ?_, State.onHeld_next hh rfl⟩
    simpa using hform
  · refine ⟨_, _, fun v hform => ?_, State.onHeld_next hh rfl⟩
    simpa using hform
  · refine ⟨_, _, fun v hform => ?_, State.onHeld_next hh rfl⟩
    obtain h | h := Bool.and_eq_false_iff.mp hform
    · simp [h]
    · simp [beq_eq_false_iff_ne.mp h]

end

/-- Settles O49: each composite by the lemmas of its outcomes, the refusals by what every composite with a slot begins
with. -/
theorem paymentCompositesWriteTheirResult : Obligations.PaymentCompositesWriteTheirResult := by
  refine ⟨fun key j c v l n s hh hv hl hn ho heven hmin hmax h2 h3 hdata =>
      ⟨exec_rsaCrt_bad hh hv hl hn ho heven hmin hmax h2 h3 hdata, fun b part hb hpart hlen hx hpq r =>
        exec_rsaCrt_good hh hv hl hn ho heven hmin hmax h2 h3 hdata hb hpart hlen hx hpq⟩,
    fun row hrow key j c s hh => ?_,
    fun key j c v s hh hv ho h2 hdata => ⟨fun hrng => ⟨_, _, _, _, Prod.mk.eta, Prod.mk.eta,
      exec_ecdsaP256Sign_good hh hv ho h2 hdata hrng Prod.mk.eta Prod.mk.eta⟩, exec_ecdsaP256Sign_silent hh hv ho h2 hdata⟩,
    fun row hrow key j c n d s hh hn hd ho h1 hdata => ?_,
    fun key j c v q s => exec_ecdhP256,
    fun key j c h sk s hh hhandle hcred hkind ho hpad hmin hmax hdata hsk => ⟨fun hc => ?_, fun hc => ?_⟩,
    fun key j c a b f s hh ha hb ho hf => ⟨fun hp => ?_, fun hp => ?_⟩,
    fun key j c v a depth s => exec_kdfTree, fun key j c h e s => exec_akaTuak⟩
  · obtain ⟨need, g, hneed, hex⟩ := exec_slotRow hrow hh
    refine ⟨fun st hst => ?_, fun v hv hform => ?_⟩
    · rw [hex, State.withSlot_of_error hst]
    · rw [hex, State.withSlot_of_ok hv, State.need_of_false (hneed v hform)]
  · have hex := exec_ecdsaVer hrow hh
    refine ⟨fun hq => ?_, fun x y hq => ?_⟩
    · rw [hex, State.ecdsaVer_bad hn hd ho h1 hdata hq]
    · rw [hex, State.ecdsaVer_point hn hd ho h1 hdata hq]
  · rw [exec_cryptogramVer hh hhandle hcred hkind ho hpad hmin hmax hdata hsk, if_pos hc]
  · rw [exec_cryptogramVer hh hhandle hcred hkind ho hpad hmin hmax hdata hsk, if_neg hc]
  · rw [exec_pinTranslate hh ha hb ho hf, if_pos hp]
  · rw [exec_pinTranslate hh ha hb ho hf, if_neg (by rw [hp]; decide)]

end Sys2Proof.Machine
end

section
/-! PROOFS. The cipher units (R168 to R193): what the running job of each opcode comes to. -/
namespace Sys2Proof.Machine

/-! ### The checks of a unit (R146, R168, R169) -/

section
variable {s t : State} {key op p : Nat} {j : Job}

/-- A cipher opcode acts on the job its unit runs, under the checks of the unit. -/
theorem State.onCipher_of_runs (hr : s.runsOnUnit key op j .cipher p) (chk : UnitCheck) (f : Job → State) :
    s.onCipher key op chk f = .next (s.checked p chk (s.namesKey key j) (f j)) := by
  obtain ⟨hruns, hunit, htype, hcmd, -⟩ := hr
  exact State.onRun_next hruns (by simp only [hunit, htype, hcmd, Option.isNone_none, and_self, if_true])

/-- The job a unit runs has the opcode of its row. -/
theorem State.runsOnUnit.opcode {type : UType} (hr : s.runsOnUnit key op j type p) : j.opcode = op := by
  obtain ⟨⟨-, -, hop, -⟩, -⟩ := hr
  exact hop

/-- A unit whose checks pass leaves what the job comes to. -/
theorem State.onCipher_next {f : Job → State} (hr : s.runsOnUnit key op j .cipher p) (h : f j = t) :
    s.onCipher key op .pass f = .next t :=
  (State.onCipher_of_runs hr .pass f).trans (congrArg Host.Outcome.next h)

end

/-- The cipher opcodes with a GB2 form on a buffer (R193), but for AKA_MILENAGE. -/
def gbModes : List Nat := [0o040, 0o041, 0o042, 0o043, 0o044, 0o051]

/-- The block modes and the wraps with their opcodes (Table 5-3). -/
def modeRows : List ((Nat → UnitCheck → Instr) × Nat) :=
  [(fun k g => .ecbEnc k g, 0o040), (fun k g => .ecbDec k g, 0o041), (fun k g => .cbcEnc k g, 0o042),
    (fun k g => .cbcDec k g, 0o043), (fun k g => .ctr k g, 0o044), (fun k g => .gcmEnc k g, 0o045),
    (fun k g => .gcmDec k g, 0o046), (fun k g => .ccmEnc k g, 0o047), (fun k g => .ccmDec k g, 0o050),
    (fun k g => .cmacGen k g, 0o051), (fun k g => .cmacVer k g, 0o052), (fun k g => .kwWrap k g, 0o053),
    (fun k g => .kwUnwrap k g, 0o054), (fun k g => .kwpWrap k g, 0o055), (fun k g => .kwpUnwrap k g, 0o056)]

/-- The two AKA commands with their opcodes. -/
def akaRows : List ((Nat → UnitCheck → Instr) × Nat) :=
  [(fun k g => .akaMilenage k g, 0o060), (fun k g => .akaResync k g, 0o061)]

section
variable {row : (Nat → UnitCheck → Instr) × Nat} {s : State} {key p : Nat} {j : Job}

/-- A cipher command with an opcode up to KWP_UNWRAP's is a block mode or a wrap. -/
theorem mem_modeRows (hrow : row ∈ modeRows ++ akaRows) (hle : row.2 ≤ 0o056) : row ∈ modeRows := by
  obtain hmode | haka := List.mem_append.mp hrow
  · exact hmode
  · simp only [akaRows, List.mem_cons, List.not_mem_nil, or_false] at haka
    obtain rfl | rfl := haka <;> exact absurd hle (by decide)

/-- A block mode or a wrap leaves, under the checks of its unit, the outcome of its native form or, in a mode that has one
and on a GB2 queue, of its GB2 form. -/
theorem exec_modeRow (hrow : row ∈ modeRows) (hr : s.runsOnUnit key row.2 j .cipher p) (chk : UnitCheck) :
    exec (row.1 key chk) s = .next (s.checked p chk (s.namesKey key j)
      (if j.gb = true ∧ row.2 ∈ gbModes then s.cipherGb key j else s.cipherNative key j)) := by
  simp only [modeRows, List.mem_cons, List.not_mem_nil, or_false] at hrow
  obtain rfl | rfl | rfl | rfl | rfl | rfl | rfl | rfl | rfl | rfl | rfl | rfl | rfl | rfl | rfl := hrow <;>
    exact (State.onCipher_of_runs hr chk _).trans (by simp [State.cipherJob, gbModes])

/-- Every cipher command leaves some outcome under the checks of its unit. -/
theorem exec_cipherRow (hrow : row ∈ modeRows ++ akaRows) (hr : s.runsOnUnit key row.2 j .cipher p) :
    ∃ t : State, ∀ chk, exec (row.1 key chk) s = .next (s.checked p chk (s.namesKey key j) t) := by
  obtain hmode | haka := List.mem_append.mp hrow
  · exact ⟨_, exec_modeRow hmode hr⟩
  · simp only [akaRows, List.mem_cons, List.not_mem_nil, or_false] at haka
    obtain rfl | rfl := haka <;> exact ⟨_, fun chk => State.onCipher_of_runs hr chk _⟩

end

/-! ### Native jobs (R175 to R180) -/

section
variable {s : State} {key : Nat} {j : Job}

/-- A native job whose key is refused. -/
theorem State.cipherNative_refused {st : Nat} (hk : s.cipherKey key j = .error st) :
    s.cipherNative key j = s.fail key j st := by
  simp only [State.cipherNative, hk]

variable {ck : CKey} (hk : s.cipherKey key j = .ok ck)
include hk

/-- A native job out of form. -/
theorem State.cipherNative_misformed {st : Nat} (hf : s.cipherForm key j = some st) :
    s.cipherNative key j = s.fail key j st := by
  simp only [State.cipherNative, hk, hf]

variable (hf : s.cipherForm key j = none)
include hf

/-- A native job outside the limits of Table 5-4. -/
theorem State.cipherNative_outsideLimits {st : Nat} (hl : j.cipherLimits = some st) :
    s.cipherNative key j = s.fail key j st := by
  simp only [State.cipherNative, hk, hf, hl]

variable (hl : j.cipherLimits = none) (hdata : j.delivered j.cipherNeed = true)
include hl hdata

/-- A native job whose tag, MAC or wrapped value does not verify (R177). -/
theorem State.cipherNative_unverified (hrun : s.cipherRun key j ck = none) :
    s.cipherNative key j = (s.countBlocks j R.CIPH_BLOCKS j.aesBlocks).fail key j S.authFail := by
  simp only [State.cipherNative, hk, hf, hl, State.lenGate_delivered _ _ _ _ _ hdata, hrun]

/-- A native job that runs to its end. -/
theorem State.cipherNative_completes {o : COut} (hrun : s.cipherRun key j ck = some o) :
    s.cipherNative key j = ((s.countBlocks j R.CIPH_BLOCKS j.aesBlocks).noteChain j).finishOut key
      (s.withChain key j o.chain) j.goodStatus (if outCell j.opcode = 0 then [] else [(outCell j.opcode, o.out)]) o.res := by
  simp only [State.cipherNative, hk, hf, hl, State.lenGate_delivered _ _ _ _ _ hdata, hrun]

end

/-! ### GB2 jobs (R193) -/

section
variable {s : State} {key : Nat} {j : Job}

/-- A GB2 job whose key is refused. -/
theorem State.cipherGb_refused {st : Nat} (hk : s.cipherKey key j = .error st) : s.cipherGb key j = s.fail key j st := by
  simp only [State.cipherGb, hk]

variable {ck : CKey} (hk : s.cipherKey key j = .ok ck)
include hk

/-- A GB2 job that is malformed. -/
theorem State.cipherGb_bad (hbad : j.gbBad = true) : s.cipherGb key j = s.fail key j S.invalidOperand := by
  simp only [State.cipherGb, hk, hbad, if_true]

variable (hbad : j.gbBad = false) (hdata : j.delivered [] = true)
include hbad hdata

/-- A GB2 CMAC goes on from the accumulator it was parked with. -/
theorem State.cipherGb_cmac (hop : j.opcode = 0o051) :
    s.cipherGb key j = (s.countBlocks j R.CIPH_BLOCKS j.aesBlocks).finish key j j.goodStatus
      (cmacFrom (aesSchedule ck.key) (if j.saved.isEmpty then zeros 16 else (cstOf j.saved).acc)
        (if j.saved.isEmpty then j.data 1 else (j.data 1).drop (16 * j.parkDone))) := by
  simp only [State.cipherGb, hk, hbad, hop, State.lenGate_delivered _ _ _ _ _ hdata, Bool.false_eq_true, if_false, if_true]
  split <;> rfl

/-- Any other GB2 mode works in place on its buffer, after the chaining value where it has one. -/
theorem State.cipherGb_inPlace (hop : j.opcode ≤ 0o044) {e : CSt × List Octet}
    (he : e = stepsAll j.opcode 0 (aesSchedule ck.key)
      ⟨if 0o042 ≤ j.opcode then (j.data 1).take 16 else zeros 16, zeros 16, 0, 0⟩ []
      (chunks 16 (if 0o042 ≤ j.opcode then (j.data 1).drop 16 else j.data 1)) j.saved j.parkDone) :
    s.cipherGb key j = (s.countBlocks j R.CIPH_BLOCKS j.aesBlocks).finishOut key j j.goodStatus
      [(1, (if 0o042 ≤ j.opcode then (j.data 1).take 16 else []) ++ e.2)] (if 0o042 ≤ j.opcode then e.1.v else []) := by
  subst he
  have hmac : j.opcode ≠ 0o051 := by omega
  simp only [State.cipherGb, hk, hbad, hmac, Job.gbIv, hop, State.lenGate_delivered _ _ _ _ _ hdata, decide_true,
    Bool.and_true, decide_eq_true_eq, Bool.false_eq_true, if_false]

end

/-! ### MILENAGE (R181 to R183, R193) -/

/-- K and OPc of a native AKA job: of the slots or the credential its first cell names (R182). -/
abbrev State.akaCellKeys (s : State) (key : Nat) (j : Job) : Except Nat (List Octet × List Octet) :=
  s.akaKeys key j (tb j.oparg 0) (j.dw 1 0 &&& 0x7FFFFFFF) (j.dw 1 1 &&& 0x7FFFFFFF) (j.handle 1 0)

/-- The bits of the first cell of an AKA job that its key source leaves out are not all zero. -/
abbrev Job.akaCellBad (j : Job) : Bool :=
  if tb j.oparg 0 then tb (j.dw 1 0) 31 || tb (j.dw 1 1) 31 else !j.handlePad 1 0

section
variable {s : State} {key p : Nat} {j : Job} {kk opc : List Octet}

/-- A native AKA_MILENAGE under keys that are refused. -/
theorem State.akaNative_refused {st : Nat} (hk : s.akaCellKeys key j = .error st) : s.akaNative key j = s.fail key j st := by
  simp only [State.akaNative, hk]

/-- A native AKA_MILENAGE returns its vector. -/
theorem State.akaNative_completes (hk : s.akaCellKeys key j = .ok (kk, opc)) (ho : bits j.oparg 31 1 = 0)
    (hcell : j.akaCellBad = false) : s.akaNative key j = (s.countBlocks j R.CIPH_BLOCKS j.aesBlocks).finish key j S.ok
      (milenage kk opc (j.oct 2 0 16) (j.oct 1 8 6) (j.oct 1 14 2)) := by
  simp only [State.akaNative, hk, ho, hcell, ne_eq, not_true_eq_false, Bool.false_eq_true, or_self, if_false]

/-- AKA_MILENAGE on a GB2 queue, out of form. -/
theorem State.akaGb_misformed (hbad : j.oparg ≠ 0 ∨ j.declared 1 ≠ 64) : s.akaGb key j = s.fail key j S.invalidOperand :=
  if_pos hbad

/-- AKA_MILENAGE on a GB2 queue leaves its vector in its buffer, under the credential the buffer names. -/
theorem State.akaGb_completes {h : Nat} (ho : j.oparg = 0) (hlen : j.declared 1 = 64) (hdata : j.delivered [] = true)
    (hh : h = leNat ((j.data 1).take 8)) (hpad : h / 2 ^ 54 = 0) (hk : s.akaKeys key j false 0 0 (h % 2 ^ 54) = .ok (kk, opc)) :
    s.akaGb key j = (s.countBlocks j R.CIPH_BLOCKS j.aesBlocks).finishOut key j j.goodStatus
      [(1, milenage kk opc (sliceOct (j.data 1) 16 16) (sliceOct (j.data 1) 8 6) (sliceOct (j.data 1) 14 2) ++
        (j.data 1).drop 54)] [] := by
  subst hh
  simp only [State.akaGb, ho, hlen, State.lenGate_delivered _ _ _ _ _ hdata, hk, hpad, ne_eq, not_true_eq_false, or_self,
    if_false]

/-- A native AKA_MILENAGE is what `akaNative` makes of its job. -/
theorem exec_akaMilenage_native (hr : s.runsOnUnit key 0o060 j .cipher p) (hgb : j.gb = false) :
    exec (.akaMilenage key .pass) s = .next (s.akaNative key j) :=
  State.onCipher_next hr (if_neg (by rw [hgb]; decide))

/-- A GB2 AKA_MILENAGE is what `akaGb` makes of its job. -/
theorem exec_akaMilenage_gb (hr : s.runsOnUnit key 0o060 j .cipher p) (hgb : j.gb = true) :
    exec (.akaMilenage key .pass) s = .next (s.akaGb key j) :=
  State.onCipher_next hr (if_pos hgb)

variable (hr : s.runsOnUnit key 0o061 j .cipher p)
include hr

/-- AKA_RESYNC under keys that are refused. -/
theorem exec_akaResync_refused {st : Nat} (hk : s.akaCellKeys key j = .error st) :
    exec (.akaResync key .pass) s = .next (s.fail key j st) :=
  State.onCipher_next hr (by simp only [hk])

/-- AKA_RESYNC returns SQN_MS where MAC-S verifies, and fails where it does not. -/
theorem exec_akaResync_answers (hk : s.akaCellKeys key j = .ok (kk, opc)) (ho : bits j.oparg 31 1 = 0)
    (hcell : j.akaCellBad = false) (h1 : j.oct 1 8 8 = zeros 8) (h3 : j.oct 3 14 2 = zeros 2) :
    exec (.akaResync key .pass) s =
      .next ((milResync kk opc (j.oct 2 0 16) (j.oct 3 0 16)).elim
        ((s.countBlocks j R.CIPH_BLOCKS j.aesBlocks).fail key j S.authFail)
        (fun sqn => (s.countBlocks j R.CIPH_BLOCKS j.aesBlocks).finish key j S.ok sqn)) := by
  refine State.onCipher_next hr ?_
  simp only [hk, ho, hcell, h1, h3, ne_eq, not_true_eq_false, Bool.false_eq_true, or_self, if_false]
  cases milResync kk opc (j.oct 2 0 16) (j.oct 3 0 16) <;> rfl

end

/-! ### The rows -/

section
variable {row : (Nat → UnitCheck → Instr) × Nat} {s : State} {key p : Nat} {j : Job}

/-- A unit's check failure and parity failure take the place of its job's outcome; a job that names no key has no key
transfer to fail. -/
theorem exec_cipherRow_checks (hrow : row ∈ modeRows ++ akaRows) (hr : s.runsOnUnit key row.2 j .cipher p) :
    exec (row.1 key .mismatch) s = .next (s.checkFail p) ∧
    (s.namesKey key j = true → exec (row.1 key .parity) s = .next (s.parityFail p)) ∧
    (s.namesKey key j = false → exec (row.1 key .parity) s = exec (row.1 key .pass) s) := by
  obtain ⟨t, hex⟩ := exec_cipherRow hrow hr
  refine ⟨hex .mismatch, fun hnames => ?_, fun hnames => ?_⟩
  · rw [hex, State.checked, hnames, if_pos rfl]
  · rw [hex, hex, State.checked, State.checked, hnames, if_neg (by decide)]

variable (hrow : row ∈ modeRows) (hr : s.runsOnUnit key row.2 j .cipher p)
include hrow hr

/-- A block mode or a wrap in its native form. -/
theorem exec_modeRow_native (hform : j.gb = false ∨ row.2 ∉ gbModes) :
    exec (row.1 key .pass) s = .next (s.cipherNative key j) := by
  have hnative : ¬ (j.gb = true ∧ row.2 ∈ gbModes) := by rwa [not_and_or, Bool.not_eq_true]
  rw [exec_modeRow hrow hr, State.checked, if_neg hnative]

/-- A block mode in its GB2 form. -/
theorem exec_modeRow_gb (hmode : row.2 ∈ gbModes) (hgb : j.gb = true) :
    exec (row.1 key .pass) s = .next (s.cipherGb key j) := by
  rw [exec_modeRow hrow hr, State.checked, if_pos ⟨hgb, hmode⟩]

/-- In either form a refused key ends the job with its status. -/
theorem exec_modeRow_refused {st : Nat} (hk : s.cipherKey key j = .error st) :
    exec (row.1 key .pass) s = .next (s.fail key j st) := by
  rw [exec_modeRow hrow hr, State.checked, State.cipherGb_refused hk, State.cipherNative_refused hk, ite_self]

end

/-- Settles O29: the checks of the unit come first; then a mode's outcome is its native or its GB2 form's, and the AKA
opcodes have their own. -/
theorem cipherJobsWriteTheirResult : Obligations.CipherJobsWriteTheirResult := by
  refine ⟨fun row hrow key j p s hr => ?_,
    fun key j p kk opc s hr hgb hk ho hcell => by rw [exec_akaMilenage_native hr hgb, State.akaNative_completes hk ho hcell],
    fun key j p s hr hgb hbad => by rw [exec_akaMilenage_gb hr hgb, State.akaGb_misformed hbad],
    fun key j p h kk opc s hr hgb ho hlen hdata hh hpad hk => by
      rw [exec_akaMilenage_gb hr hgb, State.akaGb_completes ho hlen hdata hh hpad hk],
    fun row hrow key j p st s hr hgb hk => ?_,
    fun key j p kk opc s hr hk ho hcell h1 h3 => ⟨_, _, rfl, rfl, fun sqn hm => ?_, fun hm => ?_⟩⟩
  · obtain ⟨hmismatch, hparity, hkeyless⟩ := exec_cipherRow_checks hrow hr
    refine ⟨hmismatch, hparity, hkeyless, fun hle st hk => exec_modeRow_refused (mem_modeRows hrow hle) hr hk,
      fun hle hform ck hk => ?_, fun hmode hgb ck hk => ?_⟩
    · rw [exec_modeRow_native (mem_modeRows hrow hle) hr hform]
      exact ⟨fun st hf => by rw [State.cipherNative_misformed hk hf],
        fun st hf hl => by rw [State.cipherNative_outsideLimits hk hf hl],
        fun hf hl hdata => ⟨fun hrun => by rw [State.cipherNative_unverified hk hf hl hdata hrun],
          fun o hrun => by rw [State.cipherNative_completes hk hf hl hdata hrun]⟩⟩
    · have hle : row.2 ≤ 0o056 := (by decide : ∀ op ∈ gbModes, op ≤ 0o056) row.2 hmode
      rw [exec_modeRow_gb (mem_modeRows hrow hle) hr hmode hgb, ← hr.opcode]
      refine ⟨fun hbad => by rw [State.cipherGb_bad hk hbad], fun hbad hdata => ⟨_, _, _, rfl, rfl, rfl, fun hmac => ?_,
        fun hle => ⟨_, _, rfl, rfl, ?_⟩⟩⟩
      · rw [State.cipherGb_cmac hk hbad hdata hmac]
      · rw [State.cipherGb_inPlace hk hbad hdata hle rfl]
  · simp only [List.mem_cons, List.not_mem_nil, or_false] at hrow
    obtain rfl | rfl := hrow
    · exact (exec_akaMilenage_native hr (hgb rfl)).trans (congrArg Host.Outcome.next (State.akaNative_refused hk))
    · exact exec_akaResync_refused hr hk
  · rw [exec_akaResync_answers hr hk ho hcell h1 h3, hm, Option.elim_some]
  · rw [exec_akaResync_answers hr hk ho hcell h1 h3, hm, Option.elim_none]

end Sys2Proof.Machine
end

section
/-! PROOFS. The digest units (R194 to R215): what the running job of each digest opcode comes to, and what the resident
firmware makes of HMAC_GEN and HMAC_VER. -/
namespace Sys2Proof.Machine

/-! ### The checks of a unit (R146, R195) -/

section
variable {s t : State} {key op p : Nat} {j : Job}

/-- A digest opcode acts on the job its unit runs, under the checks of the unit. -/
theorem State.onDigest_of_runs (hr : s.runsOnUnit key op j .digest p) (chk : UnitCheck) (f : Job → State) :
    s.onDigest key op chk f = .next (s.checked p chk (s.namesKey key j) (f j)) := by
  obtain ⟨hruns, hunit, htype, hcmd, -⟩ := hr
  exact State.onRun_next hruns (by simp only [hunit, htype, hcmd, Option.isNone_none, and_self, if_true])

/-- A SHA or SHAKE job names no slot and no credential: nothing comes to it over the Culvert (R146, R197). -/
theorem State.namesKey_of_digest (hmin : 0o140 ≤ j.opcode) (hmax : j.opcode ≤ 0o151) : s.namesKey key j = false := by
  have hcred : s.credOf key j = none := by
    unfold State.credOf
    split
    case h_9 => exact if_neg fun ⟨_, hle, _⟩ => by omega
    all_goals omega
  have hslots : s.slotRefs key j = [] := by
    simp (disch := omega) only [State.slotRefs, if_neg]
  have hgb : j.opcode ≠ 0o162 := by omega
  simp [State.namesKey, hcred, hslots, hgb]

/-- A GB_HMAC job is given its slot's states over the Culvert (R215). -/
theorem State.namesKey_of_gbHmac (hop : j.opcode = 0o162) : s.namesKey key j = true := by
  simp [State.namesKey, hop]

end

/-! ### SHA and SHAKE jobs (R197 to R200) -/

section
variable {s : State} {key alg : Nat} {j : Job}

/-- A SHA or SHAKE job out of form. -/
theorem State.digestJob_misformed {st : Nat} (hf : s.digestForm key j alg = some st) :
    s.digestJob key j alg = s.fail key j st := by
  simp only [State.digestJob, hf]

variable (hf : s.digestForm key j alg = none)
include hf

/-- A continued job whose record has come and does not hold (R200). -/
theorem State.digestJob_recordBad (hcont : j.cont = true) (hgb : j.gb = false) (hlists : j.listsOk j.digestNeed = true)
    (hrec : j.dataHere 2 = true) (hstart : j.digestStart alg = none) :
    s.digestJob key j alg = s.fail key j S.invalidOperand := by
  simp [State.digestJob, hf, hcont, hgb, hlists, hrec, hstart]

/-- A job with its data and a starting state runs to its end. -/
theorem State.digestJob_runs (hdata : j.delivered j.digestNeed = true)
    (hrec : j.cont = true → j.gb = false → j.dataHere 2 = true) {d : DSt} (hstart : j.digestStart alg = some d) :
    s.digestJob key j alg = s.digestEnd key j alg d := by
  have hhere : ¬ (j.cont && !j.gb && j.listsOk j.digestNeed && !j.dataHere 2) = true := by
    simp only [Bool.and_eq_true, Bool.not_eq_true']
    rintro ⟨⟨⟨hcont, hgb⟩, -⟩, habsent⟩
    exact absurd (hrec hcont hgb) (by rw [habsent]; decide)
  simp only [State.digestJob, hf, if_neg hhere, hstart, Option.isNone_some, Bool.and_false, Bool.false_eq_true, if_false,
    State.lenGate_delivered _ _ _ _ _ hdata]

end

section
variable {s : State} {key alg : Nat} {j : Job} {d : DSt}

/-- The state a SHA or SHAKE job ends in, but for its completion: its blocks counted, the records it moved noted. -/
def State.digestCounted (s : State) (j : Job) (w : DWork) : State :=
  (s.countBlocks j R.DIG_BLOCKS (w.steps - (j.workAt w).2.1)).noteRecord j (j.more && !j.gb) (j.cont && !j.gb)

/-- With MORE set a job writes the record of its state (R200). -/
theorem State.digestEnd_saves (hmore : j.more = true) (hgb : j.gb = false) {w : DWork} (hw : w = j.digestWork alg d)
    {x : List Octet × Nat × List Octet} (hx : x = j.workAt w) :
    s.digestEnd key j alg d = (s.digestCounted j w).finishOut key j j.goodStatus
      [(2, wordStream (recordWords alg false 0 0 0 ⟨w.go x.1 x.2.1 w.blocks, d.count + w.len⟩))] [] := by
  subst hw hx
  exact if_pos (by rw [hmore, hgb]; rfl)

/-- Any other job completes with the digest (R197, R198). -/
theorem State.digestEnd_completes (hend : j.more = false ∨ j.gb = true) {w : DWork} (hw : w = j.digestWork alg d) :
    s.digestEnd key j alg d = (s.digestCounted j w).finish key j j.goodStatus (w.finish (j.workAt w)) := by
  subst hw
  refine if_neg ?_
  obtain hmore | hgb := hend
  · simp [hmore]
  · simp [hgb]

end

/-- The SHA and SHAKE commands with their opcodes and functions (Tables 6-1 and 6-3). -/
def digestRows : List ((Nat → UnitCheck → Instr) × Nat × Nat) :=
  [(fun k g => .sha224 k g, 0o140, 0), (fun k g => .sha256 k g, 0o141, 1), (fun k g => .sha384 k g, 0o142, 2),
    (fun k g => .sha512 k g, 0o143, 3), (fun k g => .sha3224 k g, 0o144, 4), (fun k g => .sha3256 k g, 0o145, 5),
    (fun k g => .sha3384 k g, 0o146, 6), (fun k g => .sha3512 k g, 0o147, 7), (fun k g => .shake128 k g, 0o150, 8),
    (fun k g => .shake256 k g, 0o151, 9)]

/-- The opcodes of the SHA and SHAKE commands are consecutive. -/
theorem digestRows_opcodes : ∀ row ∈ digestRows, 0o140 ≤ row.2.1 ∧ row.2.1 ≤ 0o151 := by
  simp [digestRows]

/-- A SHA or SHAKE command leaves, under the checks of its unit, what its job comes to; it has no key transfer to fail. -/
theorem exec_digestRow {row : (Nat → UnitCheck → Instr) × Nat × Nat} (hrow : row ∈ digestRows) {s : State} {key p : Nat}
    {j : Job} (hr : s.runsOnUnit key row.2.1 j .digest p) (chk : UnitCheck) :
    exec (row.1 key chk) s = .next (s.checked p chk false (s.digestJob key j row.2.2)) := by
  obtain ⟨hmin, hmax⟩ := digestRows_opcodes row hrow
  rw [← hr.opcode] at hmin hmax
  rw [← State.namesKey_of_digest (s := s) (key := key) hmin hmax]
  simp only [digestRows, List.mem_cons, List.not_mem_nil, or_false] at hrow
  obtain rfl | rfl | rfl | rfl | rfl | rfl | rfl | rfl | rfl | rfl := hrow <;> exact State.onDigest_of_runs hr chk _

/-! ### HMAC_GEN and HMAC_VER (R199, R211) -/

section
variable {s u : State} {key alg : Nat} {j : Job} {k : List Octet}

/-- The MAC an HMAC job computes over its data, in the length it asks for (R196, R198). -/
def Job.macOf (j : Job) (alg : Nat) (k : List Octet) : List Octet :=
  (hmac alg k (j.data 2)).take (if j.macLen = 0 then algOut alg else j.macLen)

variable (hk : s.hmacKeyOf key j = .ok (alg, k)) (hf : s.hmacForm key j alg = none)
  (hdata : j.delivered (j.parkNeed 261) = true) (hruns : s.hmacRuns j.region alg (j.data 2).length = some u)
include hk hf hdata hruns

/-- HMAC_GEN, its two commands run, returns the MAC. -/
theorem State.hmacJob_generates (hop : j.opcode = 0o160) :
    s.hmacJob key j = u.finish key j j.goodStatus (j.macOf alg k) := by
  simp only [State.hmacJob, hk, hf, State.lenGate_delivered _ _ _ _ _ hdata, hruns, if_pos hop, Job.macOf]

/-- HMAC_VER, its two commands run, compares the MAC with the expected tag. -/
theorem State.hmacJob_compares (hop : j.opcode = 0o161) {n : Nat} (hn : n = if j.macLen = 0 then algOut alg else j.macLen) :
    s.hmacJob key j = if j.macOf alg k = j.expectTag.take n then u.finish key j j.goodStatus else u.fail key j S.authFail := by
  subst hn
  have hver : j.opcode ≠ 0o160 := by rw [hop]; decide
  simp only [State.hmacJob, hk, hf, State.lenGate_delivered _ _ _ _ _ hdata, hruns, if_neg hver, Job.macOf]
  split_ifs <;> rfl

end

/-- A core that holds a job of either HMAC opcode holds it under the job's own opcode. -/
theorem State.holds_hmac_opcode {s : State} {key c : Nat} {j : Job}
    (hh : s.holds key 0o160 j c ∨ s.holds key 0o161 j c) : s.holds key j.opcode j c := by
  obtain ⟨⟨hj, hst, -, hsound⟩, hcore⟩ | ⟨⟨hj, hst, -, hsound⟩, hcore⟩ := hh <;> exact ⟨⟨hj, hst, rfl, hsound⟩, hcore⟩

/-! ### GB_HMAC (R215) -/

section
variable {s : State} {key p : Nat} {j : Job}

/-- A GB_HMAC job whose key is refused. -/
theorem State.gbHmac_refused {st : Nat} (hk : s.hmacKeyOf key j = .error st) : s.gbHmac key j = s.fail key j st := by
  simp only [State.gbHmac, hk]

/-- A GB_HMAC command leaves, under the checks of its unit, what its job comes to. -/
theorem exec_gbHmac (hr : s.runsOnUnit key 0o162 j .digest p) (chk : UnitCheck) :
    exec (.gbHmac key chk) s = .next (s.checked p chk true (s.gbHmac key j)) := by
  rw [← State.namesKey_of_gbHmac (s := s) (key := key) hr.opcode]
  exact State.onDigest_of_runs hr chk _

variable {alg : Nat} {k : List Octet} (hk : s.hmacKeyOf key j = .ok (alg, k))
include hk

/-- A GB_HMAC job out of form. -/
theorem State.gbHmac_misformed (ho : j.oparg ≠ 0) : s.gbHmac key j = s.fail key j S.invalidOperand := by
  simp only [State.gbHmac, hk, if_pos ho]

/-- A GB_HMAC job with its data returns the outer digest of the inner one. -/
theorem State.gbHmac_completes (ho : j.oparg = 0) (hdata : j.delivered [] = true) {w : DWork} (hw : w = j.gbWork alg k)
    {x : List Octet × Nat × List Octet} (hx : x = j.workAt w) :
    s.gbHmac key j = (s.countBlocks j R.DIG_BLOCKS (j.keyBlocks + (w.blocks + 1 - x.2.1))).finish key j j.goodStatus
      ((digest alg (hmacKey alg k 0x5C ++ (w.go x.1 x.2.1 w.blocks).take (algOut alg)) (algOut alg)).take 32) := by
  subst hw hx
  simp only [State.gbHmac, hk, ho, ne_eq, not_true_eq_false, if_false, State.lenGate_delivered _ _ _ _ _ hdata]

end

/-- Settles O30: the checks of the unit come first; then a SHA or SHAKE job ends as its form, its record and MORE say, the
firmware's HMAC as its opcode and comparison say, and GB_HMAC as its key and form say. -/
theorem digestJobsWriteTheirResult : Obligations.DigestJobsWriteTheirResult := by
  refine ⟨fun row hrow key j p s hr => ?_, fun key j c alg k u s hh hk hf hdata hruns => ?_, fun key j p s hr => ?_⟩
  · have hex := exec_digestRow hrow hr
    refine ⟨hex .mismatch, (hex .parity).trans (hex .pass).symm, fun st hf => ?_, fun hf =>
      ⟨fun hcont hgb hlists hrec hstart => ?_, fun hdata hrec d hstart => ⟨_, _, _, rfl, rfl, rfl, ?_⟩⟩⟩
    · rw [hex, State.checked, State.digestJob_misformed hf]
    · rw [hex, State.checked, State.digestJob_recordBad hf hcont hgb hlists hrec hstart]
    · rw [hex, State.checked, State.digestJob_runs hf hdata hrec hstart]
      exact ⟨fun hmore hgb => congrArg Host.Outcome.next (State.digestEnd_saves hmore hgb rfl rfl),
        fun hend => congrArg Host.Outcome.next (State.digestEnd_completes hend rfl)⟩
  · have hheld := State.holds_hmac_opcode hh
    refine ⟨_, _, rfl, rfl, fun hop => ?_, fun hop htag => ?_, fun hop htag => ?_⟩ <;> rw [hop] at hheld
    · exact State.onHeld_next hheld (State.hmacJob_generates hk hf hdata hruns hop)
    · exact State.onHeld_next hheld ((State.hmacJob_compares hk hf hdata hruns hop rfl).trans (if_pos htag))
    · exact State.onHeld_next hheld ((State.hmacJob_compares hk hf hdata hruns hop rfl).trans (if_neg htag))
  · have hex := exec_gbHmac hr
    refine ⟨hex .mismatch, hex .parity, fun st hk => ?_, fun alg k hk ho => ?_,
      fun alg k hk ho hdata => ⟨_, _, _, rfl, rfl, rfl, ?_⟩⟩
    · rw [hex, State.checked, State.gbHmac_refused hk]
    · rw [hex, State.checked, State.gbHmac_misformed hk ho]
    · rw [hex, State.checked, State.gbHmac_completes hk ho hdata rfl rfl]

end Sys2Proof.Machine
end

section
/-! PROOFS. Modular arithmetic (R223, R226, R228, R229): what square and multiply, Euclid's algorithm and a difference of
reduced operands compute. -/
namespace Sys2Proof.Machine

/-! ### Powers (R229) -/

/-- Square and multiply over the low `n` bits of the exponent raises what it has to 2^n and multiplies it by the power of
those bits. -/
theorem powBits_modEq (m b e n acc : Nat) : powBits m b e n acc ≡ acc ^ 2 ^ n * b ^ (e % 2 ^ n) [MOD m] := by
  induction n generalizing acc with
  | zero => simp [powBits, Nat.mod_one, Nat.ModEq.refl]
  | succ n ih =>
    have hsq : acc * acc % m ≡ acc ^ 2 [MOD m] := by rw [sq]; exact Nat.mod_modEq _ _
    rw [powBits, Nat.mod_pow_succ, ← Nat.toNat_testBit, pow_succ' 2, pow_mul]
    refine (ih _).trans ?_
    cases e.testBit n with
    | false => simpa using (hsq.pow (2 ^ n)).mul_right (b ^ (e % 2 ^ n))
    | true =>
      have hmul : acc * acc % m * b % m ≡ acc ^ 2 * b [MOD m] := (Nat.mod_modEq _ _).trans (hsq.mul_right b)
      calc (if true = true then acc * acc % m * b % m else acc * acc % m) ^ 2 ^ n * b ^ (e % 2 ^ n)
          ≡ (acc ^ 2 * b) ^ 2 ^ n * b ^ (e % 2 ^ n) [MOD m] := (hmul.pow (2 ^ n)).mul_right _
        _ = (acc ^ 2) ^ 2 ^ n * b ^ (e % 2 ^ n + 2 ^ n * true.toNat) := by rw [Bool.toNat_true]; ring

/-- Square and multiply keeps its accumulator reduced. -/
theorem powBits_lt {m acc : Nat} (b e n : Nat) (h : acc < m) : powBits m b e n acc < m := by
  induction n generalizing acc with
  | zero => exact h
  | succ n ih =>
    have hm : 0 < m := by omega
    refine ih ?_
    split
    · exact Nat.mod_lt _ hm
    · exact Nat.mod_lt _ hm

/-- Modular exponentiation (R229). -/
theorem powMod_eq (b e : Nat) {m : Nat} (hm : 2 ≤ m) : powMod b e m = b ^ e % m := by
  have hbits : e % 2 ^ (e.log2 + 1) = e := Nat.mod_eq_of_lt Nat.lt_log2_self
  have hone : 1 % m = 1 := Nat.mod_eq_of_lt hm
  have hpow : powMod b e m ≡ b ^ e [MOD m] := by
    refine (powBits_modEq m (b % m) e (e.log2 + 1) (1 % m)).trans ?_
    rw [hbits, hone, one_pow, one_mul]
    exact (Nat.mod_modEq b m).pow e
  exact (Nat.mod_eq_of_lt (powBits_lt _ _ _ (Nat.mod_lt 1 (by omega)))).symm.trans hpow

/-! ### Differences (R223) -/

/-- The difference of reduced operands is reduced. -/
theorem subMod_lt (a b : Nat) {m : Nat} (hm : 0 < m) : subMod a b m < m := Nat.mod_lt _ hm

/-- The difference of reduced operands undoes their sum. -/
theorem subMod_add_mod {a b m : Nat} (ha : a < m) (hb : b < m) : (subMod a b m + b) % m = a := by
  have hsum : a + (m - b) + b = a + m := by omega
  rw [subMod, Nat.mod_eq_of_lt hb, Nat.mod_add_mod, hsum, Nat.add_mod_right, Nat.mod_eq_of_lt ha]

/-! ### Inverses (R228) -/

/-- Euclid's step, over Nat. -/
theorem egcd_succ (n r0 : Nat) {r1 : Nat} (s0 s1 : Int) (h : r1 ≠ 0) :
    egcd (n + 1) r0 r1 s0 s1 = egcd n r1 (r0 % r1 : Nat) s1 (s0 - (r0 : Int) / r1 * s1) := by
  have hrem : (r0 : Int) - r0 / r1 * r1 = (r0 % r1 : Nat) := by
    have := Int.mul_ediv_add_emod (r0 : Int) r1
    push_cast
    linarith
  rw [egcd, if_neg (by exact_mod_cast h), hrem]

/-- With no remainder left Euclid's algorithm ends. -/
theorem egcd_zero_right (n : Nat) (r0 s0 s1 : Int) : egcd n r0 0 s0 s1 = (r0, s0) := by
  cases n with
  | zero => rfl
  | succ n => exact if_pos rfl

/-- A step of Euclid's algorithm at least halves the product of its two remainders. -/
theorem two_mul_mul_mod_le {r0 r1 : Nat} (h : r1 ≤ r0) : 2 * (r1 * (r0 % r1)) ≤ r0 * r1 := by
  obtain rfl | hpos := r1.eq_zero_or_pos
  · simp
  · have hlt := Nat.mod_lt r0 hpos
    have hle : r1 + r0 % r1 ≤ r0 := by
      have hdiv := Nat.div_add_mod r0 r1
      have hq : r1 * 1 ≤ r1 * (r0 / r1) := Nat.mul_le_mul_left r1 (Nat.div_pos h hpos)
      omega
    nlinarith

/-- Euclid's algorithm reaches the greatest common divisor within as many steps as the product of its numbers has bits. -/
theorem egcd_fst (n : Nat) {r0 r1 : Nat} (s0 s1 : Int) (hle : r1 ≤ r0) (hpos : 0 < r0) (hfuel : r0 * r1 < 2 ^ n) :
    (egcd n r0 r1 s0 s1).1 = (Nat.gcd r0 r1 : Nat) := by
  induction n generalizing r0 r1 s0 s1 with
  | zero =>
    obtain rfl : r1 = 0 := by nlinarith
    simp [egcd]
  | succ n ih =>
    obtain rfl | h1 := r1.eq_zero_or_pos
    · simp [egcd]
    · have hhalf := two_mul_mul_mod_le hle
      rw [egcd_succ n r0 s0 s1 h1.ne', ih _ _ (Nat.mod_lt r0 h1).le h1 (by rw [pow_succ] at hfuel; omega),
        Nat.gcd_comm r1, ← Nat.gcd_rec, Nat.gcd_comm]

/-- What Euclid's algorithm answers beside the divisor is the factor that takes `a` to it. -/
theorem egcd_modEq {m a : Int} (n : Nat) {r0 r1 s0 s1 : Int} (h0 : a * s0 ≡ r0 [ZMOD m]) (h1 : a * s1 ≡ r1 [ZMOD m]) :
    a * (egcd n r0 r1 s0 s1).2 ≡ (egcd n r0 r1 s0 s1).1 [ZMOD m] := by
  induction n generalizing r0 r1 s0 s1 with
  | zero => exact h0
  | succ n ih =>
    rw [egcd]
    split
    · exact h0
    · refine ih h1 ?_
      have hstep := h0.sub (h1.mul_left (r0 / r1))
      rwa [show a * s0 - r0 / r1 * (a * s1) = a * (s0 - r0 / r1 * s1) by ring] at hstep

/-- Euclid's algorithm as the inversion runs it: from a's residue and the modulus. -/
abbrev invRun (a m : Nat) : Int × Int := egcd (2 * (m.log2 + 2)) (a % m : Nat) (m : Nat) 1 0

/-- The fuel of an inversion is enough. -/
theorem invRun_fst (a : Nat) {m : Nat} (hm : 0 < m) : (invRun a m).1 = (Nat.gcd a m : Nat) := by
  have hlt : a % m < m := Nat.mod_lt a hm
  have hbits : m < 2 ^ (m.log2 + 1) := Nat.lt_log2_self
  have hfuel : m * (a % m) < 2 ^ (2 * (m.log2 + 1) + 1) :=
    calc m * (a % m) < m * m := Nat.mul_lt_mul_of_pos_left hlt hm
      _ ≤ 2 ^ (m.log2 + 1) * 2 ^ (m.log2 + 1) := Nat.mul_le_mul hbits.le hbits.le
      _ = 2 ^ (2 * (m.log2 + 1)) := by rw [← pow_add, two_mul]
      _ ≤ 2 ^ (2 * (m.log2 + 1) + 1) := Nat.pow_le_pow_right two_pos (by omega)
  rw [invRun, show 2 * (m.log2 + 2) = 2 * (m.log2 + 1) + 1 + 1 by ring, egcd_succ _ _ _ _ hm.ne', Nat.mod_eq_of_lt hlt,
    egcd_fst _ _ _ hlt.le hm hfuel, Nat.gcd_comm, ← Nat.gcd_rec, Nat.gcd_comm]

/-- The factor an inversion finds takes `a` to the common divisor, modulo m. -/
theorem invRun_snd (a m : Nat) : (a : Int) * (invRun a m).2 ≡ (invRun a m).1 [ZMOD m] := by
  refine egcd_modEq _ ?_ ?_
  · rw [mul_one, Int.natCast_mod]
    exact (Int.mod_modEq _ _).symm
  · rw [mul_zero]
    exact (Int.modEq_zero_iff_dvd.mpr dvd_rfl).symm

/-- An inversion answers the factor it found, reduced, where there is no common divisor. -/
theorem invMod_eq (a : Nat) {m : Nat} (hm : 0 < m) :
    invMod a m = if Nat.gcd a m = 1 then some ((invRun a m).2 % m).toNat else none := by
  have hgcd : ((invRun a m).1 = 1) = (Nat.gcd a m = 1) := by rw [invRun_fst a hm, Nat.cast_eq_one]
  simp only [invMod, ← hgcd]

/-- An inversion refuses just what has a common divisor with the modulus. -/
theorem invMod_eq_none_iff (a : Nat) {m : Nat} (hm : 0 < m) : invMod a m = none ↔ Nat.gcd a m ≠ 1 := by
  rw [invMod_eq a hm]
  split <;> simp_all

/-- What an inversion answers is a reduced inverse. -/
theorem invMod_sound {a m r : Nat} (hm : 2 ≤ m) (h : invMod a m = some r) : r < m ∧ a * r % m = 1 := by
  have hpos : (0 : Int) < m := by omega
  rw [invMod_eq a (by omega)] at h
  split at h
  case isFalse => cases h
  case isTrue hgcd =>
    cases h
    have hlt := Int.emod_lt_of_pos (invRun a m).2 hpos
    have hnonneg := Int.emod_nonneg (invRun a m).2 hpos.ne'
    have hinv : (a : Int) * ((invRun a m).2 % m) ≡ 1 [ZMOD m] := by
      have hfound := invRun_snd a m
      rw [invRun_fst a (by omega), hgcd, Nat.cast_one] at hfound
      exact ((Int.mod_modEq _ _).mul_left _).trans hfound
    refine ⟨by omega, ?_⟩
    have hnat : a * ((invRun a m).2 % m).toNat ≡ 1 [MOD m] := by
      rw [← Int.natCast_modEq_iff, Nat.cast_mul, Int.toNat_of_nonneg hnonneg]
      exact_mod_cast hinv
    rw [hnat, Nat.mod_eq_of_lt hm]

/-- Two reduced inverses of one number are the same. -/
theorem eq_of_mul_mod_eq_one {a m r t : Nat} (hr : r < m) (ht : t < m) (har : a * r % m = 1) (hat : a * t % m = 1) :
    r = t := by
  have hsame : a * r ≡ a * t [MOD m] := har.trans hat.symm
  have hrt : r ≡ t [MOD m] :=
    calc r = r * 1 := (mul_one r).symm
      _ ≡ r * (a * t) [MOD m] := (hat ▸ Nat.mod_modEq (a * t) m : 1 ≡ a * t [MOD m]).mul_left r
      _ = t * (a * r) := by ring
      _ ≡ t * 1 [MOD m] := (har ▸ (Nat.mod_modEq (a * r) m).symm : a * r ≡ 1 [MOD m]).mul_left t
      _ = t := mul_one t
  exact hrt.eq_of_lt_of_lt hr ht

/-- The inverse an inversion answers is the only one below the modulus (R228). -/
theorem invMod_eq_some_iff (a r : Nat) {m : Nat} (hm : 2 ≤ m) : invMod a m = some r ↔ r < m ∧ a * r % m = 1 := by
  refine ⟨invMod_sound hm, fun ⟨hr, har⟩ => ?_⟩
  have hgcd : Nat.gcd a m = 1 := Nat.coprime_of_mul_modEq_one r (har.trans (Nat.mod_eq_of_lt hm).symm)
  cases hi : invMod a m with
  | none => exact absurd hgcd ((invMod_eq_none_iff a (by omega)).mp hi)
  | some t =>
    obtain ⟨ht, hat⟩ := invMod_sound hm hi
    rw [eq_of_mul_mod_eq_one ht hr hat har]

/-- A number without a common divisor with the modulus is undone by its inverse. -/
theorem mul_inv0_mod {a m : Nat} (hm : 2 ≤ m) (hgcd : Nat.gcd a m = 1) : a * inv0 a m % m = 1 := by
  cases hi : invMod a m with
  | none => exact absurd hgcd ((invMod_eq_none_iff a (by omega)).mp hi)
  | some r => simpa [inv0, hi] using (invMod_sound hm hi).2

/-! ### Montgomery form (R223) -/

/-- R is invertible modulo any odd modulus, so leaving Montgomery form undoes entering it. -/
theorem fromMont_toMont {a m : Nat} (n : Nat) (hm : 2 ≤ m) (hodd : m % 2 = 1) (ha : a < m) :
    (a * 2 ^ (18 * n) % m) * inv0 (2 ^ (18 * n) % m) m % m = a := by
  have hcop : Nat.gcd (2 ^ (18 * n) % m) m = 1 := by
    rw [← Nat.gcd_rec, Nat.gcd_comm]
    exact Nat.Coprime.pow_left _ (Nat.coprime_two_left.mpr (Nat.odd_iff.mpr hodd))
  have hinv := mul_inv0_mod hm hcop
  rw [Nat.mod_mul_mod] at hinv ⊢
  rw [mul_assoc, Nat.mul_mod, hinv, mul_one, Nat.mod_mod, Nat.mod_eq_of_lt ha]

/-- Settles O34: square and multiply by its bits, the inversion by Euclid's algorithm and the uniqueness of inverses, and
Montgomery form by the inverse of R. -/
theorem modularResultsAreTheArithmetic : Obligations.ModularResultsAreTheArithmetic :=
  ⟨fun b e _ hm => powMod_eq b e hm, fun a b _ ha hb => ⟨subMod_lt a b (by omega), subMod_add_mod ha hb⟩,
    fun a _ r hm => invMod_eq_some_iff a r hm, fun a _ hm => invMod_eq_none_iff a (by omega),
    fun _ n _ hm hodd ha => fromMont_toMont n hm hodd ha⟩

end Sys2Proof.Machine
end

section
/-! PROOFS. The bignum units (R216 to R239): what a queue job and each command of a program come to, and how a program enters
and leaves its unit. -/
namespace Sys2Proof.Machine

/-! ### Queue jobs (R226, R227, R230, R237 to R239) -/

/-- The bignum commands of the queue with their opcodes (Table 7-5). -/
def bignumRows : List ((Nat → UnitCheck → Instr) × Nat) :=
  [(fun k g => .bnModexp k g, 0o200), (fun k g => .bnModmul k g, 0o201), (fun k g => .bnModadd k g, 0o202),
    (fun k g => .bnModsub k g, 0o203), (fun k g => .bnModinv k g, 0o204), (fun k g => .bnCurvechk k g, 0o205)]

/-- A bignum command leaves, under the checks of its unit, what its job comes to; it has no key transfer to fail. -/
theorem exec_bignumRow {row : (Nat → UnitCheck → Instr) × Nat} (hrow : row ∈ bignumRows) {s : State} {key p : Nat} {j : Job}
    (hr : s.runsOnUnit key row.2 j .bignum p) (horph : j.orphan = false) (chk : UnitCheck) :
    exec (row.1 key chk) s = .next (s.checked p chk false (s.bnJob key j)) := by
  obtain ⟨hruns, hunit, htype, hcmd, hsound⟩ := hr
  have hon : s.onBignum key row.2 chk = .next (s.checked p chk false (s.bnJob key j)) :=
    State.onRun_next hruns (by simp only [hunit, htype, hcmd, hsound, horph, Option.isNone_none, and_self, if_true,
      Bool.false_eq_true, if_false])
  simp only [bignumRows, List.mem_cons, List.not_mem_nil, or_false] at hrow
  obtain rfl | rfl | rfl | rfl | rfl | rfl := hrow <;> exact hon

section
variable {s : State} {key p : Nat} {j : Job}

/-- A bignum job outside the limits of its operands (R238, R239). -/
theorem State.bnJob_outsideLimits (hl : j.bnLimits = false) : s.bnJob key j = s.fail key j S.invalidOperand := by
  simp [State.bnJob, hl]

variable (hl : j.bnLimits = true) (hdata : j.delivered j.bnOut = true) (hunit : j.unit = some p)
include hl hdata hunit

/-- A bignum job with its data writes its result over its output, or in the GB2 form over its base. -/
theorem State.bnJob_completes {r : Nat} (hres : bnResult j.opcode j.bnNums = .ok r) :
    s.bnJob key j = ((s.drawRho p j.bnBuilt.length).countBlocks j R.BN_MULS
      ((j.bnBuilt.map BnCmd.muls).foldl (· + ·) 0 - boundMuls j.bnBuilt j.parkDone)).finishOut key j j.goodStatus
        (if j.gb then [(1, (j.data 1).take j.bnLens.1 ++ beOctets j.bnLens.1 r)]
          else j.bnOut.map (fun o => (o.1, beOctets j.bnLens.1 r))) [] := by
  simp only [State.bnJob, hl, Bool.not_true, Bool.false_eq_true, if_false, State.lenGate_delivered _ _ _ _ _ hdata, hunit,
    hres]

/-- A bignum job whose operands are refused records which command refused them, under a slot of the unit's choice. -/
theorem State.bnJob_refused {i : Nat} (hres : bnResult j.opcode j.bnNums = .error i) {u t : State}
    (hu : u = s.drawRho p j.bnBuilt.length)
    (ht : t = u.bnRefuse j (j.bnLens.2.length + 1 + i) (bits (Config.freeWord u.fresh) 3 0)) :
    s.bnJob key j = ({ t with fresh := t.fresh + 1 } : State).fail key j S.invalidOperand := by
  subst ht hu
  simp only [State.bnJob, hl, Bool.not_true, Bool.false_eq_true, if_false, State.lenGate_delivered _ _ _ _ _ hdata, hunit,
    hres]

end

/-- Settles O32: the checks of the unit come first; then a job ends as its limits, its data and its operands say. -/
theorem bignumJobsComputeModuloTheirModulus : Obligations.BignumJobsComputeModuloTheirModulus := by
  intro row hrow key j p s hr horph
  have hex := exec_bignumRow hrow hr horph
  obtain ⟨⟨-, -, hop, -⟩, hunit, -⟩ := hr
  rw [← hop]
  refine ⟨hex .mismatch, (hex .parity).trans (hex .pass).symm, fun hl => ?_, fun hl hdata => ⟨_, rfl, fun r hres => ?_,
    fun i t hres ht => ?_⟩⟩
  · rw [hex, State.checked, State.bnJob_outsideLimits hl]
  · rw [hex, State.checked, State.bnJob_completes hl hdata hunit hres]
  · rw [hex, State.checked, State.bnJob_refused hl hdata hunit hres rfl ht]

/-! ### The commands of a program (R223 to R228, R230) -/

section
variable {s : State} {unit op key : Nat} {j : Job} {c : Cmd} {x : BnCmd}

/-- The next command of a running program acts under the checks of its unit, after its residue mask is drawn; only a LOAD
from the Culvert bus has a key transfer to fail. -/
theorem State.onProg_of_runs (hr : s.runsCommand unit op key j c x) (chk : UnitCheck)
    (f : State → Nat → Job → Cmd → BnCmd → State) : s.onProg unit op chk f = .next
      (s.checked (P.bn unit) chk (op == 0 && x.c != 0) (f (s.drawRho (P.bn unit) 1) key j c x)) := by
  obtain ⟨hruns, hj, hcmd, rfl, hst, horph, hidx, rfl, hsound⟩ := hr
  simp only [State.onProg, hruns, hj, hcmd]
  exact (when_of_true (by simp [hst, hidx])).trans (by simp only [hsound, horph, Bool.false_eq_true, if_false])

/-- The next command of a running program has the code of its row. -/
theorem State.runsCommand.op_eq (hr : s.runsCommand unit op key j c x) : x.op = op := by
  obtain ⟨-, -, -, -, -, -, -, hop, -⟩ := hr
  exact hop

end

/-- The computing commands of a program with their codes (Table 7-3). -/
def computeRows : List ((Nat → UnitCheck → Instr) × Nat) :=
  [(fun u g => .convert u g, 2), (fun u g => .toMont u g, 3), (fun u g => .fromMont u g, 4), (fun u g => .modadd u g, 5),
    (fun u g => .modsub u g, 6), (fun u g => .modmul u g, 7), (fun u g => .modinv u g, 8), (fun u g => .modexp u g, 9),
    (fun u g => .curvechk u g, 10)]

/-- A computing command leaves, under the checks of its unit, what its operands come to; it has no key transfer to fail. -/
theorem exec_computeRow {row : (Nat → UnitCheck → Instr) × Nat} (hrow : row ∈ computeRows) {s : State} {unit key : Nat}
    {j : Job} {c : Cmd} {x : BnCmd} (hr : s.runsCommand unit row.2 key j c x) (chk : UnitCheck) :
    exec (row.1 unit chk) s =
      .next (s.checked (P.bn unit) chk false ((s.drawRho (P.bn unit) 1).progCompute key j x)) := by
  have hon := State.onProg_of_runs hr chk (fun t k j _ x => t.progCompute k j x)
  simp only [computeRows, List.mem_cons, List.not_mem_nil, or_false] at hrow
  obtain rfl | rfl | rfl | rfl | rfl | rfl | rfl | rfl | rfl := hrow <;> exact hon

section
variable {s : State} {key : Nat} {j : Job} {x : BnCmd}

/-- A value with a key in it is not packed (R225). -/
theorem State.progCompute_keyed (hop : x.op = 2) (hc : x.c = 1) (hk : (j.bn.slot x.a).keyed = true) :
    s.progCompute key j x = s.fail key j S.denied := if_pos ⟨hop, hc, hk⟩

variable (hk : x.op = 2 → x.c = 1 → (j.bn.slot x.a).keyed = false)
include hk

/-- A computing command whose operands do not validate (R226, R227). -/
theorem State.progCompute_refused {i : Nat} (href : j.bn.refused x = some i) :
    s.progCompute key j x = (s.bnRefuse j j.bn.idx i).fail key j S.invalidOperand := by
  have hfree : ¬ (x.op = 2 ∧ x.c = 1 ∧ (j.bn.slot x.a).keyed = true) := by
    simpa only [not_and, Bool.not_eq_true] using hk
  simp only [State.progCompute, if_neg hfree, href]

/-- A computing command whose operands validate counts its multiplications and writes its result, unless the result itself
refuses it (R228). -/
theorem State.progCompute_validated (href : j.bn.refused x = none) {t : State}
    (ht : t = s.countBlocks j R.BN_MULS (x.muls - x.mulsTo j.parkDone)) :
    s.progCompute key j x = (j.bn.compute x).elim ((t.bnRefuse j j.bn.idx x.a).fail key j S.invalidOperand) (fun w =>
      t.progNext key j (if x.writesD then (j.bn.noteMod x).setSlot x.d ⟨w, false, 0⟩ else j.bn.noteMod x)) := by
  have hfree : ¬ (x.op = 2 ∧ x.c = 1 ∧ (j.bn.slot x.a).keyed = true) := by
    simpa only [not_and, Bool.not_eq_true] using hk
  subst ht
  simp only [State.progCompute, if_neg hfree, href]
  cases j.bn.compute x <;> rfl

end

/-! ### LOAD and STORE (R225) -/

section
variable {s : State} {key : Nat} {j : Job} {c : Cmd} {x : BnCmd}

/-- LOAD reads words its requester may read into its slot. -/
theorem State.progLoad_allowed {l : List (Nat × Nat × AType)} (hc : x.c = 0) (hl : l = [(x.arg, x.n, AType.r)])
    (hok : (s.checkRanges c.who l).2 = true) (hsound : (s.checkRanges c.who l).1.rangesStruck c.who l = none) :
    s.progLoad key j c x = ((s.checkRanges c.who l).1.readWords c.who x.arg x.n).1.progNext key j
      (j.bn.setSlot x.d ⟨((s.checkRanges c.who l).1.readWords c.who x.arg x.n).2, false, 0⟩) := by
  subst hl
  simp only [State.progLoad, if_pos hc, if_pos hok, hsound]

/-- A refused LOAD. -/
theorem State.progLoad_refused {l : List (Nat × Nat × AType)} (hc : x.c = 0) (hl : l = [(x.arg, x.n, AType.r)])
    (hno : (s.checkRanges c.who l).2 = false) : s.progLoad key j c x = (s.checkRanges c.who l).1.fail key j S.denied := by
  subst hl
  simp only [State.progLoad, if_pos hc, hno, Bool.false_eq_true, if_false]

/-- A LOAD of a key with a length other than the key's. -/
theorem State.progLoad_length (hc : x.c ≠ 0) (hn : x.n ≠ 15) : s.progLoad key j c x = s.fail key j S.invalidOperand := by
  simp only [State.progLoad, if_neg hc, if_pos hn]

/-- A LOAD of a key from a sound slot: the slot's check, then its algorithm, decide (R138, R225). -/
theorem State.progLoad_key (hc : x.c ≠ 0) (hn : x.n = 15) {r : BitVec 32} (hr : r = BitVec.ofNat 32 x.arg)
    (hsound : s.slotStruck r = none) : s.progLoad key j c x = (s.slotCheck j r U.sign).elim
      (if (s.slot (refSlot r)).alg = 8 then
        s.progNext key j (j.bn.setSlot x.d ⟨natLimbs 15 (s.slot (refSlot r)).key.toNat, true, 0⟩)
      else s.fail key j S.denied) (fun st => s.fail key j st) := by
  subst hr
  simp only [State.progLoad, if_neg hc, hn, ne_eq, not_true_eq_false, if_false, hsound]
  cases s.slotCheck j (BitVec.ofNat 32 x.arg) U.sign <;> rfl

/-- A value with a key in it is not stored. -/
theorem State.progStore_keyed (hk : (j.bn.slot x.a).keyed = true) : s.progStore key j c x = s.fail key j S.denied := if_pos hk

/-- STORE writes the limbs of its slot where its requester may write; a refused one writes nothing. -/
theorem State.progStore_free {l : List (Nat × Nat × AType)} (hk : (j.bn.slot x.a).keyed = false)
    (hl : l = [(x.arg, x.n, AType.w)]) : s.progStore key j c x = if (s.checkRanges c.who l).2
      then ((s.checkRanges c.who l).1.writeWords c.who x.arg (natLimbs x.n (j.bn.val x.a x.n))).progNext key j j.bn
      else (s.checkRanges c.who l).1.fail key j S.denied := by
  subst hl
  exact if_neg (by rw [hk]; decide)

end

section
variable {s : State} {unit key : Nat} {j : Job} {c : Cmd} {x : BnCmd}

/-- A LOAD acts under the checks of its unit; one of a key has a key transfer to fail. -/
theorem exec_load (hr : s.runsCommand unit 0 key j c x) (chk : UnitCheck) : exec (.load unit chk) s =
    .next (s.checked (P.bn unit) chk (x.c != 0) ((s.drawRho (P.bn unit) 1).progLoad key j c x)) :=
  State.onProg_of_runs hr chk _

/-- A STORE acts under the checks of its unit. -/
theorem exec_store (hr : s.runsCommand unit 1 key j c x) (chk : UnitCheck) : exec (.store unit chk) s =
    .next (s.checked (P.bn unit) chk false ((s.drawRho (P.bn unit) 1).progStore key j c x)) :=
  State.onProg_of_runs hr chk _

/-- Without a key transfer a unit with no residue mismatch leaves what its command comes to. -/
theorem State.checked_keyless {g : UnitCheck} (hg : g = .pass ∨ g = .parity) (p : Nat) (f : State) :
    s.checked p g false f = f := by
  obtain rfl | rfl := hg <;> rfl

/-- A LOAD from memory, its parity failing or not. -/
theorem exec_load_memory (hr : s.runsCommand unit 0 key j c x) (hc : x.c = 0) {g : UnitCheck} (hg : g = .pass ∨ g = .parity) :
    exec (.load unit g) s = .next ((s.drawRho (P.bn unit) 1).progLoad key j c x) := by
  rw [exec_load hr, hc, bne_self_eq_false, State.checked_keyless hg]

/-- A STORE, its parity failing or not. -/
theorem exec_store_sound (hr : s.runsCommand unit 1 key j c x) {g : UnitCheck} (hg : g = .pass ∨ g = .parity) :
    exec (.store unit g) s = .next ((s.drawRho (P.bn unit) 1).progStore key j c x) := by
  rw [exec_store hr, State.checked_keyless hg]

/-- A LOAD of a key whose transfer fails its parity (R146). -/
theorem exec_load_parity (hr : s.runsCommand unit 0 key j c x) (hc : x.c ≠ 0) :
    exec (.load unit .parity) s = .next (s.parityFail (P.bn unit)) := by
  rw [exec_load hr, bne_iff_ne.mpr hc, State.checked, if_pos rfl]

end

/-! ### Entry, yield and abort (R219, R221, R233, R236) -/

section
variable {s : State} {key : Nat} {j : Job} {c : Cmd} {w : List Word}

/-- A program read soundly is checked for its form as it enters the input queue of a unit. -/
theorem exec_bnProgramEnqueue (hj : s.job key = some j) (hcmd : j.cmd = some c) (htyp : c.typ = 2) (hst : j.st = .fetched)
    (hw : w = s.words c.addr (4 + 4 * progCount (s.words c.addr 1)))
    (hsound : s.struckIn c.addr (4 + 4 * progCount (s.words c.addr 1)) = none) :
    exec (.bnProgramEnqueue key) s = .next ((progForm w c.sup).elim
      (s.placeIn key { j with cmd := some { c with words := w } } .bignum j.region) (fun e => s.progRefused key
        { j with cmd := some { c with words := w }, bn := { j.bn with idx := e.2 } } e.1)) := by
  subst hw
  simp only [exec, execBnProgramEnqueue, hj, hcmd, hsound]
  refine (when_of_true (by simp [htyp, hst])).trans (congrArg Host.Outcome.next ?_)
  cases progForm (s.words c.addr (4 + 4 * progCount (s.words c.addr 1))) c.sup <;> rfl

/-- A program out of form ends as a job of the unit it would have entered. -/
theorem State.progRefused_taken {st p : Nat} (hhas : s.hasUnit .bignum j.region = true)
    (hpick : s.pickUnit .bignum j.region = some p) : s.progRefused key j st = s.fail key { j with unit := some p } st := by
  simp only [State.progRefused, hhas, hpick, if_true]

/-- A program out of form waits while no unit has room. -/
theorem State.progRefused_waits {st : Nat} (hhas : s.hasUnit .bignum j.region = true)
    (hpick : s.pickUnit .bignum j.region = none) : s.progRefused key j st = s := by
  simp only [State.progRefused, hhas, hpick, if_true]

/-- A program out of form in a region without a unit. -/
theorem State.progRefused_noUnit {st : Nat} (hhas : s.hasUnit .bignum j.region = false) :
    s.progRefused key j st = s.notReadyJob key j := if_neg (by rw [hhas]; decide)

end

section
variable {s t : State} {unit k k' done : Nat} {j j' : Job}

/-- A bignum unit that yields parks its job and starts the one that waits (R233). -/
theorem exec_bnYield (hruns : s.runsOn (P.bn unit) = some k) (hj : s.job k = some j)
    (hto : s.yieldTo (P.bn unit) j done = some k') (hpark : s.park k j done = some t) (hj' : s.job k' = some j')
    (hable : s.parkable k j = true) (htype : j.utype = .bignum) (hlim : j.parks < s.parkLimit) :
    exec (.bnYield unit done) s = .next (t.startJob (P.bn unit) k' j') := by
  simp only [exec, execBnYield, hruns, hj, hto, hpark, hj']
  exact when_of_true (by simp [hable, htype, hlim])

/-- A discarded job that a bignum unit runs leaves it, with a count and event 5 (R236). -/
theorem exec_bnAbort {p : Nat} (hj : s.job k = some j) (hunit : j.unit = some p) (hst : j.st = .running)
    (horph : j.orphan = true) (htype : j.utype = .bignum) :
    exec (.bnAbort k) s = .next ((((s.dropJob k).leaveUnit k j).incSat p R.BN_ABORTS).event p 5) := by
  simp only [exec, execBnAbort, hj, hunit]
  exact (when_of_true (by simp [hst, horph, htype])).trans (by simp [State.noteAbort, hunit, htype, hst])

end

/-- Settles O33: each command acts under the checks of its unit, and its outcome is that of its operands or its access; a
program enters by its form. -/
theorem bignumProgramsRunTheirCommandsInOrder : Obligations.BignumProgramsRunTheirCommandsInOrder := by
  refine ⟨fun row hrow unit key j c x s hr => ?_, fun unit key j c x s hr hc hk => ?_,
    fun unit key j c x g u l s hr hc hl hg hu => ?_, fun unit key j c x u r s hr hc hu href => ?_,
    fun unit key j c x g u l s hr hk hl hg hu => ?_, fun unit key j c x s hr hk => ?_,
    fun unit op key j c x s hr => ⟨fun hop => ?_, fun hop => ?_⟩,
    fun key j c w s hj hcmd htyp hst hw hsound => ?_,
    fun unit k j k' j' done t s hruns hj hto hpark hj' hable htype hlim =>
      exec_bnYield hruns hj hto hpark hj' hable htype hlim,
    fun key j p s hj hunit hst horph htype => exec_bnAbort hj hunit hst horph htype⟩
  · have hex := exec_computeRow hrow hr
    have hop : x.op = row.2 := hr.op_eq
    refine ⟨hex .mismatch, (hex .parity).trans (hex .pass).symm, fun hk => ⟨_, rfl, fun i href => ?_,
      fun href => ⟨_, rfl, fun hnone => ?_, fun w hsome => ?_⟩⟩⟩ <;> rw [← hop] at hk
    · rw [hex, State.checked, State.progCompute_refused hk href]
    · rw [hex, State.checked, State.progCompute_validated hk href rfl, hnone, Option.elim_none]
    · rw [hex, State.checked, State.progCompute_validated hk href rfl, hsome, Option.elim_some]
  · have hop : x.op = 2 := hr.op_eq
    rw [exec_computeRow (row := (fun u g => .convert u g, 2)) (by simp [computeRows]) hr, State.checked,
      State.progCompute_keyed hop hc hk]
  · subst hu
    rw [exec_load_memory hr hc hg]
    exact ⟨fun hok hsound => by rw [State.progLoad_allowed hc hl hok hsound],
      fun hno => by rw [State.progLoad_refused hc hl hno]⟩
  · subst hu
    refine ⟨exec_load_parity hr hc, fun hn => ?_, fun hn hsound => ?_⟩ <;> rw [exec_load hr, State.checked]
    · rw [State.progLoad_length hc hn]
    · rw [State.progLoad_key hc hn href hsound]
      exact ⟨fun st hst => by rw [hst, Option.elim_some], fun hok => by
        rw [hok, Option.elim_none]
        exact ⟨fun halg => by rw [if_pos halg], fun halg => by rw [if_neg halg]⟩⟩
  · subst hu
    rw [exec_store_sound hr hg, State.progStore_free hk hl]
    exact ⟨fun hok => by rw [if_pos hok], fun hno => by rw [hno, if_neg (by decide)]⟩
  · rw [exec_store hr, State.checked, State.progStore_keyed hk]
  · subst hop
    exact exec_load hr .mismatch
  · subst hop
    exact exec_store hr .mismatch
  · rw [exec_bnProgramEnqueue hj hcmd htyp hst hw hsound]
    refine ⟨fun hform => by rw [hform, Option.elim_none], fun st i hform => ⟨_, rfl, fun hhas p hpick => ?_,
      fun hhas hpick => ?_, fun hhas => ?_⟩⟩ <;> rw [hform, Option.elim_some]
    · exact congrArg Host.Outcome.next (State.progRefused_taken hhas hpick)
    · exact congrArg Host.Outcome.next (State.progRefused_waits hhas hpick)
    · exact congrArg Host.Outcome.next (State.progRefused_noUnit hhas)

end Sys2Proof.Machine
end

section
/-! PROOFS. A Kazolo instruction at its issue (R249, R252, R292 to R296): which check stops it, and what a core makes of the
answer. -/
namespace Sys2Proof.Machine

/-! ### Issue -/

/-- What core `c` makes of the answer of its issue, where an instruction that runs comes to `r`. -/
def State.issued (s : State) (c : Nat) (op : KOp) (r : Ins → State) : Issue → State
  | .no => s
  | .ue u => u
  | .fault u e d => u.faultEntry c e d
  | .skip i => (s.wakeUp c).retire c i none (if op.branches && ((s.wakeUp c).core c).delay.isNone
      then some (((s.wakeUp c).core c).delayOf i none false) else none) i.next
  | .run i => r i

section
variable {s t : State} {c : Nat} {pre : List (BitVec 9)} {w : Word} {op : KOp} {i : Ins} {x : Core}

/-- A core that issues an instruction answers as the checks say; one that does not stays as it is. -/
theorem State.kaz_eq_issued (f : State → Ins → Core → Act) : s.kaz c pre w op f = .next (if s.issues c then
    s.issued c op (fun i => s.conclude c ((s.wakeUp c).core c) i (f (s.wakeUp c) i ((s.wakeUp c).core c)))
      ((s.wakeUp c).kadmit c pre w op) else s) := rfl

/-- An instruction that runs ends as its outcome says. -/
theorem State.kaz_run {f : State → Ins → Core → Act} (h : s.runsIns t c pre w op i x) :
    s.kaz c pre w op f = .next (s.conclude c x i (f t i x)) := by
  obtain ⟨hissues, rfl, rfl, hadmit⟩ := h
  rw [State.kaz_eq_issued, if_pos hissues, hadmit, State.issued]

/-- An instruction on registers retires with its results. -/
theorem State.kreg_run {f : Ins → Core → Core} (h : s.runsIns t c pre w op i x) :
    s.kreg c pre w op f = .next (t.doneIns c i (f i x)) := State.kaz_run h

end

/-! ### The checks of R296 -/

section
variable {s : State} {c : Nat} {pre : List (BitVec 9)} {w : Word} {op : KOp} {n : Nat} {x : Core}
  (hx : x = s.core c) (hn : n = pre.length + baseLen w)
include hx hn

/-- The fetch is checked first. -/
theorem State.kadmit_nx {t : State} {d : Nat}
    (hfetch : s.fetchCheck (s.coreWho c) (x.pc.toNat / 2) (sylWords x.pc n) = some (t, d)) :
    s.kadmit c pre w op = .fault t EXC.nx d := by
  subst hx hn
  simp only [State.kadmit, hfetch]

variable (hfetch : s.fetchCheck (s.coreWho c) (x.pc.toNat / 2) (sylWords x.pc n) = none)
include hfetch

/-- A lost word among those fetched comes before every check of the instruction itself (R512). -/
theorem State.kadmit_struck {k : Nat} (hstruck : s.fetchStruck (s.coreWho c) x.pc n = some k) :
    s.kadmit c pre w op = .ue (s.memUe k) := by
  subst hx hn
  simp only [State.kadmit, hfetch, hstruck]

variable (hsound : s.fetchStruck (s.coreWho c) x.pc n = none)
include hsound

/-- Prefixes out of form are illegal. -/
theorem State.kadmit_badPrefix (hpre : parsePre 0 Pre.none pre = none) :
    s.kadmit c pre w op = .fault s EXC.illegal 1 := by
  subst hx hn
  simp only [State.kadmit, hfetch, hsound, hpre]

variable {p : Pre} (hpre : parsePre 0 Pre.none pre = some p)
include hpre

/-- A base word that spells no operation is illegal. -/
theorem State.kadmit_noOp (hop : opOf w = none) : s.kadmit c pre w op = .fault s EXC.illegal 3 := by
  subst hx hn
  simp only [State.kadmit, hfetch, hsound, hpre, hop]

/-- The checks of an operation with prefixes in form, in the order of R296. -/
theorem State.kadmit_op (hop : opOf w = some op) : s.kadmit c pre w op =
    if !op.prefixOk w p then .fault s EXC.illegal 2
    else if !op.fieldsOk w (vdl x.mode) then .fault s EXC.illegal 3
    else if !x.predOk p then .skip ⟨x.pc, x.pc + BitVec.ofNat 36 n, w, p⟩
    else if op.noDelay && x.delay.isSome then .fault s EXC.illegal 4
    else if op.noLoopEnd w && x.atLoopEnd then .fault s EXC.illegal 5
    else if op.supOnly && !x.sup then .fault s EXC.priv 1
    else if (op == .movsFrom || op == .movsTo) && decide (20 ≤ bits w 10 6) && !x.sup then .fault s EXC.priv 2
    else .run ⟨x.pc, x.pc + BitVec.ofNat 36 n, w, p⟩ := by
  subst hx hn
  simp only [State.kadmit, hfetch, hsound, hpre, hop, ne_eq, not_true_eq_false, if_false]

end

/-- Settles O39: the checks one by one in their order, and what a core makes of each answer of its issue. -/
theorem aKazoloInstructionThatDoesNotRunHasNoEffect : Obligations.AKazoloInstructionThatDoesNotRunHasNoEffect := by
  refine ⟨fun c pre w op p o n x y s hx hn hy => ⟨fun t d => State.kadmit_nx hx hn,
    fun hfetch k => State.kadmit_struck hx hn hfetch, fun hfetch hsound =>
      ⟨State.kadmit_badPrefix hx hn hfetch hsound, fun hpre => ⟨State.kadmit_noOp hx hn hfetch hsound hpre,
        fun hop heq => ?_⟩⟩⟩, fun row hrow c pre w s => ?_⟩
  · subst heq hy
    have hdelay : (o.noDelay = false ∨ x.delay = none) → (o.noDelay && x.delay.isSome) = false := by
      rintro (h | h) <;> simp [h]
    have hend : (o.noLoopEnd w = false ∨ x.atLoopEnd = false) → (o.noLoopEnd w && x.atLoopEnd) = false := by
      rintro (h | h) <;> simp [h]
    rw [State.kadmit_op hx hn hfetch hsound hpre hop]
    refine ⟨fun hp => by simp [hp], fun hp hf => by simp [hp, hf], fun hp hf => ⟨fun hq => by simp [hp, hf, hq],
      fun hq => ⟨fun hd hin => ?_, fun hd he hat => ?_, fun hd he => ⟨fun hs hsup => ?_, fun hs hsup hmovs h20 => ?_,
        fun hpriv => ?_⟩⟩⟩⟩
    · simp [hp, hf, hq, hd, Option.isSome_iff_ne_none.2 hin]
    · simp [hp, hf, hq, hdelay hd, he, hat]
    · simp [hp, hf, hq, hdelay hd, hend he, hs, hsup]
    · simp [hp, hf, hq, hdelay hd, hend he, hs, hsup, hmovs, h20]
    · obtain hsup | ⟨hs, hfrom, hto⟩ | ⟨hs, hlow⟩ := hpriv
      · simp [hp, hf, hq, hdelay hd, hend he, hsup]
      · simp [hp, hf, hq, hdelay hd, hend he, hs, hfrom, hto]
      · simp [hp, hf, hq, hdelay hd, hend he, hs, hlow.not_ge]
  · obtain ⟨r, hexec⟩ : ∃ r, exec (row.1 c pre w) s =
        .next (if s.issues c then s.issued c row.2 r ((s.wakeUp c).kadmit c pre w row.2) else s) := by
      fin_cases hrow <;> exact ⟨_, rfl⟩
    rw [hexec]
    refine ⟨fun h => by simp [h], fun h => ⟨fun u e d hk => ?_, fun u hk => ?_, fun i hk => ?_⟩⟩ <;>
      rw [if_pos h, hk, State.issued]

end Sys2Proof.Machine
end

section
/-! PROOFS. The register instructions of the cores (Table 8-6): word operations, and the double-word, address, compare and
predicate operations. -/
namespace Sys2Proof.Machine

/-! ### Shifts, reversal, carry -/

/-- A left shift by a count of 18 or more is 0 as it is. -/
theorem shlW_eq (a : Word) (n : Nat) : shlW a n = a <<< n := by
  by_cases h : 18 ≤ n
  · rw [shlW, if_pos h, BitVec.shiftLeft_eq_zero h]; rfl
  · rw [shlW, if_neg h]

/-- A right shift by a count of 18 or more is 0 as it is. -/
theorem shrW_eq (a : Word) (n : Nat) : shrW a n = a >>> n := by
  by_cases h : 18 ≤ n
  · rw [shrW, if_pos h, BitVec.ushiftRight_eq_zero h]; rfl
  · rw [shrW, if_neg h]

/-- An arithmetic shift by a count of 18 or more fills the word with the sign, as one by 17 does. -/
theorem sarW_eq (a : Word) (n : Nat) : sarW a n = a.sshiftRight n := by
  refine BitVec.eq_of_getLsbD_eq fun i hi => ?_
  rw [sarW, BitVec.getLsbD_sshiftRight, BitVec.getLsbD_sshiftRight]
  by_cases h : n ≤ 17
  · rw [Nat.min_eq_left h]
  · rw [Nat.min_eq_right (by omega), if_neg (show ¬ n + i < 18 by omega)]
    by_cases h0 : i = 0
    · subst h0; rfl
    · rw [if_neg (by omega)]

/-- A reversal over `k` bits has no bit from `k` on. -/
theorem revBits_lt (k n : Nat) : revBits k n < 2 ^ k := by
  induction k generalizing n with
  | zero => exact Nat.one_pos
  | succ k ih =>
    have hlow := ih (n / 2)
    have hbit : n % 2 * 2 ^ k ≤ 1 * 2 ^ k := Nat.mul_le_mul_right _ (by omega)
    rw [revBits, Nat.pow_succ]
    omega

/-- Bit `i` of a reversal over `k` bits is bit `k - 1 - i`. -/
theorem testBit_revBits {k i : Nat} (h : i < k) (n : Nat) : (revBits k n).testBit i = n.testBit (k - 1 - i) := by
  induction k generalizing n with
  | zero => omega
  | succ k ih =>
    rw [revBits, Nat.mul_comm, Nat.testBit_two_pow_mul_add _ (revBits_lt k _)]
    by_cases hi : i < k
    · rw [if_pos hi, ih hi, Nat.testBit_div_two]
      congr 1
      omega
    · obtain rfl : i = k := by omega
      simp [Nat.testBit_zero]

/-- The reversal of a word is that of its bits. -/
theorem revW_eq (a : Word) : revW a = a.reverse := by
  refine BitVec.eq_of_getLsbD_eq fun i hi => ?_
  rw [revW, wd, BitVec.getLsbD_ofNat, testBit_revBits hi, BitVec.getLsbD_reverse, BitVec.getMsbD, BitVec.testBit_toNat]

/-- A sum with carry is the sum of its words. -/
theorem addCarry_eq (a b : Word) (c : Bool) :
    addCarry a b c = (a + b + wd (b2n c), decide (2 ^ 18 ≤ a.toNat + b.toNat + b2n c)) := by
  simp [addCarry, wd, BitVec.ofNat_add]

/-! ### The operations -/

/-- Settles O37: each operation retires with its result; the model's shifts and reversal are those of words. -/
theorem kazoloWordOperationsComputeAsTabled : Obligations.KazoloWordOperationsComputeAsTabled := by
  refine ⟨fun row hrow c pre w i x s t h => ?_, fun row hrow c pre w i x s t h => ?_,
    fun row hrow c pre w i x s t h => ?_, fun c pre w i x s t h => ?_, fun c pre w i x s t h => ?_⟩
  · have hexec : exec (row.1 c pre w) s = s.kww c pre w row.2.1 row.2.2 := by
      simp only [← shlW_eq, ← shrW_eq, ← sarW_eq, ← revW_eq] at hrow
      fin_cases hrow <;> rfl
    exact hexec.trans (State.kreg_run h)
  · have hexec : exec (row.1 c pre w) s = s.kwi c pre w row.2.1 row.2.2 := by fin_cases hrow <;> rfl
    exact hexec.trans (State.kreg_run h)
  · have hexec : exec (row.1 c pre w) s = s.kwn c pre w row.2.1 row.2.2 := by
      simp only [← shlW_eq, ← shrW_eq, ← sarW_eq] at hrow
      fin_cases hrow <;> rfl
    exact hexec.trans (State.kreg_run h)
  · have hrun : s.kwc c pre w .addx addCarry = _ := State.kreg_run h
    rw [addCarry_eq] at hrun
    exact hrun
  · have hrun : s.kwc c pre w .subx subBorrow = _ := State.kreg_run h
    simp only [subBorrow] at hrun
    exact hrun

/-- A 36-bit shift by a count that Table 8-6 states. -/
theorem shiftD_of_lt {n : Word} (h : n.toNat < 36) (left : Bool) (d : DWord) :
    shiftD left d n = if left then d <<< n.toNat else d >>> n.toNat := if_neg h.not_ge

/-- Settles O38: each operation retires with its result. -/
theorem kazoloDoubleAddressAndPredicateOperations : Obligations.KazoloDoubleAddressAndPredicateOperations := by
  refine ⟨fun row hrow c pre w i x s t h => ?_, fun c pre w i x s t h => ?_,
    fun c pre w i x s t hn => ⟨fun h => ?_, fun h => ?_⟩,
    fun c pre w i x s t => ⟨fun h => ?_, fun h => ?_, fun h => ?_, fun h => ?_, fun h => ?_, fun h => ?_, fun h => ?_,
      fun h => ?_, fun h => ?_⟩,
    fun row hrow c pre w i x s t h => ?_, fun row hrow c pre w i x s t h => ?_⟩
  · have hexec : exec (row.1 c pre w) s = s.kdd c pre w row.2.1 row.2.2 := by fin_cases hrow <;> rfl
    exact hexec.trans (State.kreg_run h)
  · exact (State.kreg_run h : s.kdw c pre w .mull (fun a b => BitVec.ofNat 36 ((loWord a).toNat * b.toNat)) = _)
  · have hrun : s.kdw c pre w .shld (shiftD true) = _ := State.kreg_run h
    simp only [shiftD_of_lt hn, if_true] at hrun
    exact hrun
  · have hrun : s.kdw c pre w .shrd (shiftD false) = _ := State.kreg_run h
    simp only [shiftD_of_lt hn, Bool.false_eq_true, if_false] at hrun
    exact hrun
  · exact (State.kreg_run h : execKMova c pre w s = _)
  · exact (State.kreg_run h : execKMovda c pre w s = _)
  · exact (State.kreg_run h : execKAdda c pre w s = _)
  · exact (State.kreg_run h : execKAddia c pre w s = _)
  · exact (State.kreg_run h : execKMovia c pre w s = _)
  · exact (State.kreg_run h : execKMovid c pre w s = _)
  · exact (State.kreg_run h : execKAddid c pre w s = _)
  · exact (State.kreg_run h : execKLeapc c pre w s = _)
  · exact (State.kreg_run h : execKLea c pre w s = _)
  · have hexec : exec (row.1 c pre w) s = s.kcmp c pre w row.2.1 row.2.2 := by fin_cases hrow <;> rfl
    exact hexec.trans (State.kreg_run h)
  · have hexec : exec (row.1 c pre w) s = s.kpp c pre w row.2.1 row.2.2 := by fin_cases hrow <;> rfl
    exact hexec.trans (State.kreg_run h)

end Sys2Proof.Machine
end

section
/-! PROOFS. What the Kazolo instructions that reach memory, branch or act on the system come to (R244 to R246, R253 to R259,
R292 to R311): an access the gates grant, an address out of alignment, and each instruction by its outcome. -/
namespace Sys2Proof.Machine

/-! ### Accesses (R246) -/

/-- An even address lets the access go on. -/
theorem evenOr_even {a : Nat} (h : a % 2 = 0) (detail : Nat) (s : State) (go : Act) : evenOr a detail s go = go :=
  if_neg (by omega)

/-- An odd address faults MISALIGN. -/
theorem evenOr_odd {a : Nat} (h : a % 2 = 1) (detail : Nat) (s : State) (go : Act) :
    evenOr a detail s go = .fault s EXC.misalign detail := if_pos h

section
variable {s : State} {c a n : Nat} {ty : AType}

/-- An access that the gates grant is made. -/
theorem State.kcheck_of_grants (h : s.grants c a n ty) (refusal : Nat) (go : Who → Act) :
    s.kcheck c a n ty refusal go = go (s.coreWho c) := by
  obtain ⟨hlo, hhi, hallowed, hsound⟩ := h
  simp only [State.kcheck, hlo, hhi, hallowed, hsound, Bool.or_self, Bool.false_eq_true, if_false]

/-- A load that the gates grant delivers the words read. -/
theorem State.kload_of_grants (h : s.grants c a n .r) (dst : Dest) (f : List Word → List Word) (y : Core) :
    s.kload c a n dst f y =
      .load ((s.readWords (s.coreWho c) a n).1.setCore c y) dst (f (s.readWords (s.coreWho c) a n).2) :=
  State.kcheck_of_grants h 1 _

/-- A store that the gates grant writes its words. -/
theorem State.kstore_of_grants {l : List Word} (h : s.grants c a l.length .w) (y : Core) :
    s.kstore c a l y = .done ((s.setCore c y).writeWords (s.coreWho c) a l) := State.kcheck_of_grants h 1 _

/-- A store of one word to an address that the map does not assign faults DENIED 2. -/
theorem State.kstore_unassigned (hclear : s.clearingAt (s.coreWho c) a = false)
    (hu : s.checkAccess (s.coreWho c) a 1 .w = .unassigned) (v : Word) (y : Core) :
    s.kstore c a [v] y = .fault s EXC.denied 2 := by
  simp [State.kstore, State.kcheck, hclear, hu]

end

/-! ### Loads and stores -/

/-- Settles O40: each instruction at its address, by what the gates and the alignment say. -/
theorem kazoloLoadsAndStoresMoveTheirWords : Obligations.KazoloLoadsAndStoresMoveTheirWords := by
  refine ⟨fun c pre w i x a y s t hay => ⟨_, rfl, fun hg h => ?_, fun hg h => ?_,
      fun he hg => ⟨fun h => ?_, fun h => ?_⟩, fun he hg => ⟨fun h => ?_, fun h => ?_⟩,
      fun ho => ⟨fun h => ?_, fun h => ?_, fun h => ?_, fun h => ?_⟩, fun hclear hu h => ?_, fun hr hw h => ?_⟩,
    fun c pre w i x a y s t hay => ⟨_, rfl, fun he hg h => ?_, fun he hg h => ?_, fun ho h => ?_, fun hdl hg h => ?_,
      fun hdl he hg h => ?_⟩⟩
  · simp only [exec, execKLd, State.kaz_run h, ← hay, State.kload_of_grants hg, State.conclude, id]
  · simp only [exec, execKSt, State.kaz_run h, ← hay, State.kstore_of_grants (l := [_]) hg, State.conclude]
  · simp only [exec, execKLdd, State.kaz_run h, ← hay, evenOr_even he, State.kload_of_grants hg, State.conclude, id]
  · simp only [exec, execKLda, State.kaz_run h, ← hay, evenOr_even he, State.kload_of_grants hg, State.conclude, id]
  · simp only [exec, execKStd, State.kaz_run h, ← hay, evenOr_even he, halves, State.kstore_of_grants (l := [_, _]) hg,
      State.conclude]
  · simp only [exec, execKSta, State.kaz_run h, ← hay, evenOr_even he, halves, State.kstore_of_grants (l := [_, _]) hg,
      State.conclude]
  · simp only [exec, execKLdd, State.kaz_run h, ← hay, evenOr_odd ho, State.conclude]
  · simp only [exec, execKStd, State.kaz_run h, ← hay, evenOr_odd ho, State.conclude]
  · simp only [exec, execKLda, State.kaz_run h, ← hay, evenOr_odd ho, State.conclude]
  · simp only [exec, execKSta, State.kaz_run h, ← hay, evenOr_odd ho, State.conclude]
  · simp only [exec, execKSt, State.kaz_run h, ← hay, State.kstore_unassigned hclear hu, State.conclude]
  · simp only [exec, execKSwap, State.kaz_run h, ← hay, State.kcheck_of_grants hr, State.kcheck_of_grants hw,
      State.conclude]
  · simp only [exec, execKVld, State.kaz_run h, ← hay, evenOr_even he, State.kload_of_grants hg, State.conclude, id]
  · simp only [exec, execKVst, State.kaz_run h, ← hay, evenOr_even he, State.kstore_of_grants hg, State.conclude]
  · simp only [exec, execKVst, State.kaz_run h, ← hay, evenOr_odd ho, State.conclude]
  · simp only [exec, execKVldb, State.kaz_run h, ← hay, hdl, Bool.false_eq_true, if_false, State.kload_of_grants hg,
      State.conclude]
  · simp only [exec, execKVldb, State.kaz_run h, ← hay, hdl, if_true, evenOr_even he, State.kload_of_grants hg,
      State.conclude]

/-! ### Branches and loops -/

theorem bits_lt {n : Nat} (w : BitVec n) (hi lo : Nat) : bits w hi lo < 2 ^ (hi + 1 - lo) := Nat.mod_lt _ (by positivity)

/-- The count of LOOPI is 1 to 32. -/
theorem loopiCount_ne_zero (w : Word) : wd (if bits w 10 6 = 0 then 32 else bits w 10 6) ≠ 0 := by
  have hlt := bits_lt w 10 6
  intro h
  have hnat : (wd (if bits w 10 6 = 0 then 32 else bits w 10 6)).toNat = 0 := by rw [h]; rfl
  rw [wd, BitVec.toNat_ofNat] at hnat
  split at hnat <;> omega

/-- Settles O42: each instruction by its outcome, a loop by its count. -/
theorem kazoloControlFlow : Obligations.KazoloControlFlow := by
  refine fun c pre w i x s t => ⟨_, rfl, fun h => ?_, fun h => ?_, fun h => ?_, fun h => ?_,
    fun h => ⟨_, _, rfl, rfl, fun hn => ?_, fun hn => ?_⟩, fun h => ?_, fun h => ?_⟩
  · simp only [exec, execKBr, State.kaz_run h, State.conclude]
  · simp only [exec, execKCall, State.kaz_run h, State.conclude]
  · simp only [exec, execKJr, State.kaz_run h, State.conclude]
  · simp only [exec, execKCallr, State.kaz_run h, State.conclude]
  · simp only [exec, execKLoop, State.kaz_run h, State.startLoop, hn, if_false, State.conclude, State.doneIns]
  · simp only [exec, execKLoop, State.kaz_run h, State.startLoop, hn, if_true, State.conclude]
  · simp only [exec, execKLoopi, State.kaz_run h, State.startLoop, loopiCount_ne_zero, if_false, State.conclude,
      State.doneIns]
  · simp only [exec, execKTrap, State.kaz_run h, State.conclude]

/-! ### The system instructions -/

/-- Settles O43: each instruction by its outcome, LOADCTX by the format, the tag and the count of its record. -/
theorem kazoloSystemInstructions : Obligations.KazoloSystemInstructions := by
  refine fun c pre w i x s t => ⟨fun h => ?_, fun h => ?_, fun h => ?_, fun h => ?_, fun h => ?_, fun h => ?_,
    fun h => ⟨_, rfl, fun harm => ?_, fun harm => ?_⟩, fun h => ⟨fun d hd => ?_, fun hd => ?_⟩,
    fun a ha => ⟨fun ho => ⟨fun h => ?_, fun h => ?_⟩, fun he hg h => ?_, fun he hg h => ⟨_, _, _, rfl, rfl, rfl,
      fun hform htag => ?_, fun hform htag hn => ?_, fun hform hn => ?_, fun hform hn => ?_⟩⟩⟩
  · simp only [exec, execKNop, State.kreg_run h]
  · simp only [exec, execKSync, State.kreg_run h]
  · simp only [exec, execKWaiti, State.kaz_run h, State.conclude, State.doneIns]
  · simp only [exec, execKCtxsw, State.kreg_run h]
  · simp only [exec, execKMovsFromSpecial, State.kaz_run h, State.conclude, State.doneIns]
  · simp only [exec, execKMovsToSpecial, State.kreg_run h]
  · simp only [exec, execKBreak, State.kaz_run h, harm, if_true, State.conclude]
  · simp only [exec, execKBreak, State.kaz_run h, harm, Bool.false_eq_true, if_false, State.conclude]
  · simp only [exec, execKRfe, State.kaz_run h, hd, State.conclude]
  · simp only [exec, execKRfe, State.kaz_run h, hd, State.conclude]
  all_goals subst ha
  · simp only [exec, execKSavectx, State.kaz_run h, evenOr_odd ho, State.conclude]
  · simp only [exec, execKLoadctx, State.kaz_run h, evenOr_odd ho, State.conclude]
  · simp only [exec, execKSavectx, State.kaz_run h, evenOr_even he, State.kcheck_of_grants hg, State.conclude]
  · simp only [exec, execKLoadctx, State.kaz_run h, evenOr_even he, State.kcheck_of_grants hg, hform, htag, ne_eq,
      not_true_eq_false, if_false, State.conclude, State.doneIns]
  · simp only [exec, execKLoadctx, State.kaz_run h, evenOr_even he, State.kcheck_of_grants hg, hform, htag, hn, ne_eq,
      not_true_eq_false, not_false_eq_true, if_true, if_false, State.badCtx, State.conclude]
  · simp only [exec, execKLoadctx, State.kaz_run h, evenOr_even he, State.kcheck_of_grants hg, hform, hn, ne_eq,
      not_false_eq_true, if_true, if_false, State.badCtx, State.conclude]
  · simp only [exec, execKLoadctx, State.kaz_run h, evenOr_even he, State.kcheck_of_grants hg, hform, hn, ne_eq,
      not_false_eq_true, if_true, State.badCtx, State.conclude]

end Sys2Proof.Machine
end

section
/-! PROOFS. The frame of a core's store (R246, R253, R326): what ST and SWAP leave as it was. -/
namespace Sys2Proof.Machine

/-! ### What waking and retiring leave -/

section
variable (s : State) (c : Nat)

/-- What no change of the core touches, waking leaves. -/
theorem State.wakeUp_keeps {α : Type} (g : State → α) (hg : ∀ y, g (s.setCore c y) = g s) : g (s.wakeUp c) = g s := by
  by_cases h : (s.core c).waiting = true
  · rw [State.wakeUp, if_pos h]
    exact hg _
  · rw [State.wakeUp, if_neg h]

@[simp] theorem State.word_wakeUp (b : Nat) : (s.wakeUp c).word b = s.word b :=
  s.wakeUp_keeps c (State.word · b) fun _ => rfl

@[simp] theorem State.hostOctet_wakeUp (b : Nat) : (s.wakeUp c).hostOctet b = s.hostOctet b :=
  s.wakeUp_keeps c (State.hostOctet · b) fun _ => rfl

@[simp] theorem State.reg_wakeUp (p q : Nat) : (s.wakeUp c).reg p q = s.reg p q :=
  s.wakeUp_keeps c (State.reg · p q) fun _ => rfl

theorem State.core_wakeUp_ne {d : Nat} (hd : d ≠ c) : (s.wakeUp c).core d = s.core d :=
  s.wakeUp_keeps c (State.core · d) fun y => (State.core_setCore s c d y).trans (if_neg hd)

variable (i : Ins) (ld : Option LoadW) (br : Option Delay) (next : DWord)

/-- What no change of the core and of its counts touches, retiring leaves. -/
theorem State.retire_keeps {α : Type} (g : State → α) (hg : ∀ y, g ((s.setCore c y).countIns c i) = g s) :
    g (s.retire c i ld br next) = g s := by
  by_cases h : (s.core c).run = true
  · rw [State.retire, if_pos h]
    exact hg _
  · rw [State.retire, if_neg h]

@[simp] theorem State.word_retire (b : Nat) : (s.retire c i ld br next).word b = s.word b :=
  s.retire_keeps c i ld br next (State.word · b) fun _ => rfl

@[simp] theorem State.hostOctet_retire (b : Nat) : (s.retire c i ld br next).hostOctet b = s.hostOctet b :=
  s.retire_keeps c i ld br next (State.hostOctet · b) fun _ => rfl

theorem State.core_retire_ne {d : Nat} (hd : d ≠ c) : (s.retire c i ld br next).core d = s.core d :=
  s.retire_keeps c i ld br next (State.core · d) fun y => (State.core_setCore s c d y).trans (if_neg hd)

theorem State.reg_retire_ne {p q : Nat} (hp : p ≠ P.kz c) (hq : q < 1024) :
    (s.retire c i ld br next).reg p q = s.reg p q := by
  have hne : ∀ w < 1024, p * 1024 + q ≠ P.kz c * 1024 + w := by omega
  refine s.retire_keeps c i ld br next (State.reg · p q) fun y => ?_
  rw [State.countIns, State.inc36, State.reg_setReg36, if_neg (hne _ (by decide)), if_neg (hne _ (by decide)),
    State.reg_setReg36, if_neg (hne _ (by decide)), if_neg (hne _ (by decide))]
  rfl

end

/-! ### A word of cluster memory (R53, R346) -/

section
variable {s : State} {c a n off : Nat} {ty : AType}

/-- A check that passes finds each of its points assigned. -/
theorem State.placeAt_of_checkList {r : Who} {l : List Nat} (h : s.checkList r ty l = .allowed) :
    ∀ b ∈ l, s.placeAt r.cluster b ≠ .unassigned := by
  induction l with
  | nil => simp
  | cons d l ih =>
    rw [State.checkList] at h
    refine List.forall_mem_cons.2 ⟨fun hun => ?_, ih ?_⟩
    · rw [hun] at h
      exact Verdict.noConfusion h
    · split at h
      · exact Verdict.noConfusion h
      · split at h
        · exact Verdict.noConfusion h
        · exact h

variable (hp : placeOf (some (c / 4)) a = .sram n off)
include hp

/-- The gates grant no access to the memory of a quarantined cluster (R346). -/
theorem State.placeAt_of_grants (hg : s.grants c a 1 ty) : s.placeAt (some (c / 4)) a = .sram n off := by
  obtain ⟨-, -, hallowed, -⟩ := hg
  have hne : s.placeAt (some (c / 4)) a ≠ .unassigned :=
    State.placeAt_of_checkList hallowed a (List.mem_append_right _ (List.mem_singleton.2 rfl))
  simp only [State.placeAt, hp] at hne ⊢
  split
  next hquar => exact absurd (if_pos hquar) hne
  next => rfl

/-- A granted read of a word of cluster memory delivers it and changes nothing. -/
theorem State.readWords_of_grants (hg : s.grants c a 1 .r) :
    s.readWords (s.coreWho c) a 1 = (s, [s.word (sramBase n + off)]) := by
  have hplace : s.placeAt (s.coreWho c).cluster a = .sram n off := State.placeAt_of_grants hp hg
  have hflat : flatAddr (s.coreWho c).cluster a = sramBase n + off := by
    simp only [flatAddr, show (s.coreWho c).cluster = some (c / 4) from rfl, hp]
  simp only [State.readWords, State.readWord, hplace, hflat]

/-- A granted write of a word of cluster memory stores it. -/
theorem State.writeWords_of_grants (hg : s.grants c a 1 ty) (y : Core) (v : Word) :
    (s.setCore c y).writeWords (s.coreWho c) a [v] = (s.setCore c y).setWords (sramBase n + off) [v] := by
  have hplace : (s.setCore c y).placeAt (s.coreWho c).cluster a = .sram n off :=
    (State.placeAt_of_grants hp hg : s.placeAt (some (c / 4)) a = _)
  have hflat : flatAddr (s.coreWho c).cluster a = sramBase n + off := by
    simp only [flatAddr, show (s.coreWho c).cluster = some (c / 4) from rfl, hp]
  simp only [State.writeWords, hplace, hflat]

end

/-! ### The stores of one word -/

/-- A core that stores a word and retires leaves every other word, the host's octets, the other cores and the other register
pages as they were before it awoke. -/
theorem State.storeWord_frame {s t u : State} {c a : Nat} {y : Core} {v : Word} {i : Ins} {ld : Option LoadW} {next : DWord}
    (ht : t = s.wakeUp c) (hu : u = ((t.setCore c y).setWords a [v]).retire c i ld none next) :
    u.word a = v ∧ (∀ b, b ≠ a → u.word b = s.word b) ∧ (∀ b, u.hostOctet b = s.hostOctet b) ∧
      (∀ d, d ≠ c → u.core d = s.core d) ∧ (∀ p q, p ≠ P.kz c → q < 1024 → u.reg p q = s.reg p q) := by
  subst ht hu
  refine ⟨?_, fun b hb => ?_, fun b => ?_, fun d hd => ?_, fun p q hp hq => ?_⟩
  · exact (State.word_retire ..).trans (State.word_setWords_in _ a 0 [v] Nat.one_pos)
  · rw [State.word_retire, State.word_setWords_off _ _ _ _ (by rw [List.length_singleton]; omega)]
    exact State.word_wakeUp s c b
  · exact (State.hostOctet_retire ..).trans (State.hostOctet_wakeUp s c b)
  · rw [State.core_retire_ne _ _ _ _ _ _ hd]
    exact ((State.core_setCore _ c d y).trans (if_neg hd)).trans (State.core_wakeUp_ne s c hd)
  · exact (State.reg_retire_ne _ _ _ _ _ _ hp hq).trans (State.reg_wakeUp s c p q)

/-- Settles O41: both instructions come to a store of one word and a retirement. -/
theorem aStoreOfACoreWritesOnlyItsWords : Obligations.AStoreOfACoreWritesOnlyItsWords := by
  intro c pre w i x a y n off s t hay hw hp _
  obtain ⟨_, rfl, -, hst, -, -, -, -, hswap⟩ := kazoloLoadsAndStoresMoveTheirWords.1 c pre w i x a y s t hay
  refine ⟨fun h => ⟨_, hst hw h, ?_⟩, fun hr h => ⟨_, hswap hr hw h, ?_⟩⟩ <;> obtain ⟨-, ht, -⟩ := h
  · rw [State.writeWords_of_grants hp hw]
    exact State.storeWord_frame ht rfl
  · rw [State.readWords_of_grants hp hr, State.writeWords_of_grants hp hw]
    obtain ⟨hword, hmem, hhost, hcore, -⟩ := State.storeWord_frame ht rfl
    exact ⟨hword, hmem, hhost, hcore⟩

end Sys2Proof.Machine
end

section
/-! PROOFS. The jobs, unit commands and vectors of the cores (R261 to R273), and what comes to a core from outside its
program: interrupts, a lockstep mismatch, the abort of its job (R265, R271, R303). -/
namespace Sys2Proof.Machine

/-! ### Unit commands (R269) -/

/-- UCMD of a block that lies in no cluster memory faults DENIED 3. -/
theorem State.kucmd_unassigned {s : State} {c a : Nat} (typ : Nat) (hp : placeOf (some (c / 4)) a = .unassigned) :
    s.kucmd c typ a = .fault s EXC.denied 3 := by
  simp only [State.kucmd, hp]

section
variable {s : State} {c typ a f off : Nat} (hp : placeOf (some (c / 4)) a = .sram (c / 4) off)
  (hf : f = sramBase (c / 4) + off) (hfit : off + s.blockWords typ f ≤ sramWords)
  (hg : s.grants c a (s.blockWords typ f) .r)
include hp hf hfit hg

/-- A command issued while no job is held is denied. -/
theorem State.kucmd_noJob (hh : s.heldJob c = none) : s.kucmd c typ a = .done (s.denyCmd c typ f) := by
  subst hf
  simp [State.kucmd, hp, hfit.not_gt, State.kcheck_of_grants hg, hh]

/-- A command of the held job is sent, or waits while eight are outstanding. -/
theorem State.kucmd_held {k : Nat} {j : Job} (hh : s.heldJob c = some (k, j)) : s.kucmd c typ a =
    if 8 ≤ (s.core c).cmds.length then .wait else .done (s.sendCmd c j (s.cmdOf c (s.coreWho c) typ f)) := by
  subst hf
  simp [State.kucmd, hp, hfit.not_gt, State.kcheck_of_grants hg, hh]

end

/-! ### The end of a unit command (R270) -/

section
variable {s : State} {key p : Nat} {j : Job} {k : Cmd} (hj : s.job key = some j) (hk : j.cmd = some k)
  (hst : j.st = .running)
include hj hk hst

/-- A cipher command ends under the checks of its unit; it takes a key over the Culvert. -/
theorem exec_kUcmdComplete_cipher (htyp : k.typ = 0) (hu : j.unit = some p) (chk : UnitCheck) :
    exec (.kUcmdComplete key chk) s = .next (s.checked p chk true (s.cipherCmd key j k)) := by
  simp [exec, execKUcmdComplete, hj, hk, hst, htyp, hu, when_of_true]

/-- A digest command ends under the checks of its unit; a keyed one takes a key over the Culvert. -/
theorem exec_kUcmdComplete_digest (htyp : k.typ = 1) (hu : j.unit = some p) (chk : UnitCheck) :
    exec (.kUcmdComplete key chk) s =
      .next (s.checked p chk (decide (bits (cw k.words 0) 10 9 ≠ 0)) (s.digestCmd key j k)) := by
  simp [exec, execKUcmdComplete, hj, hk, hst, htyp, hu, when_of_true]

/-- A program ends once its last command has run. -/
theorem exec_kUcmdComplete_program (htyp : k.typ = 2) (hu : j.unit = some p) (chk : UnitCheck) :
    exec (.kUcmdComplete key chk) s = .next (s.progDone key j k) := by
  simp [exec, execKUcmdComplete, hj, hk, hst, htyp, hu, when_of_true]

/-- A host transfer needs no unit. -/
theorem exec_kUcmdComplete_host (htyp : k.typ = 3 ∨ k.typ = 4) (hu : j.unit = none) (chk : UnitCheck) :
    exec (.kUcmdComplete key chk) s = .next (s.hostCmd key j k) := by
  obtain htyp | htyp := htyp <;> simp [exec, execKUcmdComplete, hj, hk, hst, htyp, hu, when_of_true]

end

/-- Settles O44: the job instructions by the job there is to take or to end, UCMD by its block and the commands outstanding,
the end of a command by its type and the checks of its unit. -/
theorem kazoloJobAndUnitCommands : Obligations.KazoloJobAndUnitCommands := by
  refine ⟨fun c pre w i x s t => ⟨fun h => ⟨fun hn => ?_, fun k j hn hs => ?_⟩,
      fun h hc => ⟨fun hh => ?_, fun k j hh hs => ?_⟩⟩,
    fun row hrow c pre w i x a s t h ha => ?_, fun key j k p s hj hk hst => ⟨fun htyp hu => ?_, fun htyp hu => ?_,
      fun htyp hu => exec_kUcmdComplete_program hj hk hst htyp hu _,
      fun htyp hu => exec_kUcmdComplete_host hj hk hst htyp hu _⟩⟩
  · simp only [exec, execKJget, State.kaz_run h, hn, State.conclude, State.doneIns]
  · simp only [exec, execKJget, State.kaz_run h, hn, hs, State.conclude, State.doneIns]
  · simp only [exec, execKJdone, State.kaz_run h, hc, List.isEmpty_nil, Bool.not_true, Bool.false_eq_true, if_false, hh,
      State.conclude]
  · simp only [exec, execKJdone, State.kaz_run h, hc, List.isEmpty_nil, Bool.not_true, Bool.false_eq_true, if_false, hh, hs,
      State.conclude]
  · have hexec : exec (row.1 c pre w) s =
        s.kaz c pre w (.ucmd row.2) (fun t i x => t.kucmd c row.2 (x.ar (bits i.w 8 6)).toNat) := by
      fin_cases hrow <;> rfl
    rw [hexec, State.kaz_run h, ← ha]
    refine ⟨fun off f hp hf hfit hg => ⟨fun hh => ?_, fun k j hh => ⟨fun hlt => ?_, fun hfull => ?_⟩⟩, fun hp => ?_⟩
    · rw [State.kucmd_noJob hp hf hfit hg hh, State.conclude]
    · rw [State.kucmd_held hp hf hfit hg hh, if_neg hlt.not_ge, State.conclude]
    · rw [State.kucmd_held hp hf hfit hg hh, if_pos hfull, State.conclude]
    · rw [State.kucmd_unassigned _ hp, State.conclude]
  · have hexec := exec_kUcmdComplete_cipher hj hk hst htyp hu
    exact ⟨hexec .pass, hexec .mismatch, hexec .parity⟩
  · have hexec := exec_kUcmdComplete_digest hj hk hst htyp hu
    exact ⟨hexec .pass, hexec .mismatch, fun hkeyed => (hexec .parity).trans (by simp [State.checked, hkeyed])⟩

/-! ### Vectors (R261 to R263) -/

/-- Settles O45: each instruction retires with its vector. -/
theorem kazoloVectorInstructionsActOnEveryLane : Obligations.KazoloVectorInstructionsActOnEveryLane := by
  refine fun c pre w i x s t => ⟨fun h => ?_, fun h => ?_, fun h => ?_, fun h => ?_, fun h => ?_, fun h => ?_, fun h => ?_,
    fun h => ?_, fun h => ⟨fun hdl => ?_, fun hdl => ?_⟩, fun h => ⟨fun hdl => ?_, fun hdl => ?_⟩⟩
  · simp only [exec, execKVadd, State.kreg_run h]
  · simp only [exec, execKVsub, State.kreg_run h]
  · simp only [exec, execKVmul, State.kreg_run h]
  · simp only [exec, execKVbfly, State.kreg_run h]
  · simp only [exec, execKVgs, State.kreg_run h]
  · simp only [exec, execKVperm, State.kreg_run h]
  · simp only [exec, execKVmov, State.kreg_run h]
  · simp only [exec, execKVsplat, State.kreg_run h]
  · simp only [exec, execKVext, State.kreg_run h, hdl, if_true]
  · simp only [exec, execKVext, State.kreg_run h, hdl, Bool.false_eq_true, if_false]
  · simp only [exec, execKVins, State.kreg_run h, hdl, if_true]
  · simp only [exec, execKVins, State.kreg_run h, hdl, Bool.false_eq_true, if_false]

/-! ### From outside the program -/

/-- Settles O48: each command acts where its condition holds. -/
theorem interruptsLockstepAndAborts : Obligations.InterruptsLockstepAndAborts := by
  refine ⟨fun c l s hl hb => ⟨_, rfl, ?_⟩, fun c s hup => when_of_true hup, fun c k j a s hh horph hab ha => ?_,
    fun c s hab hheld => when_of_true (by simp [hab, hheld]), fun req c s hf => ?_⟩
  · simp only [exec, execInterruptEntry, hl, when_of_true hb, State.accept]
  · subst ha
    simp only [exec, execCompositeAbort, hh]
    exact when_of_true (by simp [horph, hab])
  · exact congrArg Host.Outcome.next (if_neg (by rw [hf]; decide))

end Sys2Proof.Machine
end

section
/-! PROOFS. The lattice composites (R290, R291), RAND_READ (R284) and the lane-scaled form (R278 to R280). -/
namespace Sys2Proof.Machine

/-! ### ML-KEM (R290) -/

section
variable {s : State} {key c : Nat} {j : Job} {v : Slot} {p : KemSet} (hh : s.holds key 0o340 j c)
  (hp : p = kemSet (bits j.oparg 1 0)) (hv : s.refSlotOf j (j.dw 1 0) U.wrap [3] = .ok v) (hset : j.setOk false = true)
  (h2 : j.declared 2 = p.ekLen) (h3 : j.declared 3 = 72) (hdata : j.delivered [(2, p.ekLen), (3, 72)] = true)
include hh hp hv hset h2 h3 hdata

/-- MLKEM_KEYGEN in form asks the region's DRBG for the 64 octets of d and z. -/
theorem exec_mlkemKeygen : exec (.mlkemKeygen key) s = .next ((s.withRandom key j 64 (fun r u =>
    u.finishOut key j j.goodStatus [(2, (kpkeKeyGen p (r.take 32)).1), (3, kwpWrap v.keyOctets r)] [])).leftHeld c key) := by
  subst hp
  exact State.onHeld_next hh (by
    simp only [State.withSlot_of_ok hv, hset, h2, h3, decide_true, Bool.and_self, State.need_of_true,
      State.lenGate_delivered _ _ _ _ _ hdata])

end

section
variable {s : State} {key c : Nat} {j : Job} {p : KemSet} (hh : s.holds key 0o341 j c)
  (hp : p = kemSet (bits j.oparg 1 0)) (hset : j.setOk false = true) (h1 : j.declared 1 = p.ekLen)
  (h2 : j.declared 2 = p.ctLen) (hdata : j.delivered [(2, p.ctLen)] = true)
include hh hp hset h1 h2 hdata

/-- MLKEM_ENCAPS in form encapsulates 32 octets of the region's DRBG, where the key is well formed. -/
theorem exec_mlkemEncaps : exec (.mlkemEncaps key) s = .next (State.leftHeld
    (if ekOk p (j.data 1) then s.withRandom key j 32 (fun m u =>
        u.finishOut key j j.goodStatus [(2, (kemEncaps p (j.data 1) m).2)] (kemEncaps p (j.data 1) m).1)
      else s.fail key j S.invalidOperand) c key) := by
  subst hp
  exact State.onHeld_next hh (by
    simp only [hset, h1, h2, decide_true, Bool.and_self, State.need_of_true, State.lenGate_delivered _ _ _ _ _ hdata])

end

section
variable {s : State} {key c : Nat} {j : Job} {v : Slot} {p : KemSet} (hh : s.holds key 0o342 j c)
  (hp : p = kemSet (bits j.oparg 1 0)) (hv : s.refSlotOf j (j.dw 1 0) U.unwrap [3] = .ok v) (hset : j.setOk false = true)
  (h2 : j.declared 2 = 72) (h3 : j.declared 3 = p.ctLen) (hdata : j.delivered [] = true)
include hh hp hv hset h2 h3 hdata

/-- MLKEM_DECAPS with a seed that its slot does not unwrap. -/
theorem exec_mlkemDecaps_bad (hb : kwpUnwrap v.keyOctets (j.data 2) = none) :
    exec (.mlkemDecaps key) s = .next ((s.fail key j S.authFail).leftHeld c key) := by
  subst hp
  exact State.onHeld_next hh (by
    simp only [State.withSlot_of_ok hv, hset, h2, h3, decide_true, Bool.and_self, State.need_of_true,
      State.lenGate_delivered _ _ _ _ _ hdata, hb])

/-- MLKEM_DECAPS with an unwrapped seed returns the shared key. -/
theorem exec_mlkemDecaps_good {b : List Octet} (hb : kwpUnwrap v.keyOctets (j.data 2) = some b) (hlen : b.length = 64) :
    exec (.mlkemDecaps key) s =
      .next ((s.finish key j j.goodStatus (kemDecaps p (b.take 32) (b.drop 32) (j.data 3))).leftHeld c key) := by
  subst hp
  exact State.onHeld_next hh (by
    simp only [State.withSlot_of_ok hv, hset, h2, h3, decide_true, Bool.and_self, State.need_of_true,
      State.lenGate_delivered _ _ _ _ _ hdata, hb, hlen, ne_eq, not_true_eq_false, if_false])

end

/-! ### ML-DSA (R290, R291) -/

section
variable {s : State} {key c : Nat} {j : Job} {v : Slot} {p : DsaSet} (hh : s.holds key 0o350 j c)
  (hp : p = dsaSet (bits j.oparg 1 0)) (hv : s.refSlotOf j (j.dw 1 0) U.wrap [3] = .ok v) (hset : j.setOk false = true)
  (h2 : j.declared 2 = p.pkLen) (h3 : j.declared 3 = 40) (hdata : j.delivered [(2, p.pkLen), (3, 40)] = true)
include hh hp hv hset h2 h3 hdata

/-- MLDSA_KEYGEN in form asks the region's DRBG for the 32 octets of its seed. -/
theorem exec_mldsaKeygen : exec (.mldsaKeygen key) s = .next ((s.withRandom key j 32 (fun r u =>
    u.finishOut key j j.goodStatus [(2, (dsaKeyGen p r).pk), (3, kwpWrap v.keyOctets r)] [])).leftHeld c key) := by
  subst hp
  exact State.onHeld_next hh (by
    simp only [State.withSlot_of_ok hv, hset, h2, h3, decide_true, Bool.and_self, State.need_of_true,
      State.lenGate_delivered _ _ _ _ _ hdata])

end

/-- What signing under the seed `xi` with the 32 octets `r` of the randomiser makes of a job. -/
def State.dsaSigned (s : State) (key : Nat) (j : Job) (p : DsaSet) (xi r : List Octet) : State :=
  match dsaSign p xi (j.data 3) r with
  | none => s.fail key j S.aborted
  | some sig => s.finishOut key j j.goodStatus [(4, sig)] []

section
variable {s : State} {key c : Nat} {j : Job} {v : Slot} {p : DsaSet} (hh : s.holds key 0o351 j c)
  (hp : p = dsaSet (bits j.oparg 1 0)) (hv : s.refSlotOf j (j.dw 1 0) U.unwrap [3] = .ok v) (hset : j.setOk true = true)
  (h2 : j.declared 2 = 40) (hmin : 2 ≤ j.declared 3) (hmax : j.declared 3 ≤ 65536) (h4 : j.declared 4 = p.sigLen)
  (hdata : j.delivered [(4, p.sigLen)] = true)
include hh hp hv hset h2 hmin hmax h4 hdata

/-- MLDSA_SIGN with a seed that its slot does not unwrap. -/
theorem exec_mldsaSign_bad (hx : kwpUnwrap v.keyOctets (j.data 2) = none) :
    exec (.mldsaSign key) s = .next ((s.fail key j S.authFail).leftHeld c key) := by
  subst hp
  exact State.onHeld_next hh (by
    simp only [State.withSlot_of_ok hv, hset, h2, hmin, hmax, h4, decide_true, Bool.and_self, State.need_of_true,
      State.lenGate_delivered _ _ _ _ _ hdata, hx])

/-- MLDSA_SIGN with an unwrapped seed signs, under 32 octets of the region's DRBG where it is HEDGED and zeros where not. -/
theorem exec_mldsaSign {xi : List Octet} (hx : kwpUnwrap v.keyOctets (j.data 2) = some xi) (hlen : xi.length = 32) :
    exec (.mldsaSign key) s = .next (State.leftHeld
      (if tb j.oparg 2 then s.withRandom key j 32 (fun r u => u.dsaSigned key j p xi r)
        else s.dsaSigned key j p xi (zeros 32)) c key) := by
  subst hp
  refine State.onHeld_next hh ?_
  simp only [State.withSlot_of_ok hv, hset, h2, hmin, hmax, h4, decide_true, Bool.and_self, State.need_of_true,
    State.lenGate_delivered _ _ _ _ _ hdata, hx, hlen, ne_eq, not_true_eq_false, if_false]
  rfl

/-- A HEDGED signature with a silent generator. -/
theorem exec_mldsaSign_silent {xi : List Octet} (hx : kwpUnwrap v.keyOctets (j.data 2) = some xi) (hlen : xi.length = 32)
    (hhedged : tb j.oparg 2 = true) (hrng : s.rngOk j.region = false) :
    exec (.mldsaSign key) s = .next ((s.fail key j S.deviceFault).leftHeld c key) := by
  rw [exec_mldsaSign hh hp hv hset h2 hmin hmax h4 hdata hx hlen, if_pos hhedged, State.withRandom_of_silent hrng]

/-- A signature whose randomiser is at hand. -/
theorem exec_mldsaSign_drawn {xi r : List Octet} {u : State} (hx : kwpUnwrap v.keyOctets (j.data 2) = some xi)
    (hlen : xi.length = 32) (hrng : tb j.oparg 2 = true → s.rngOk j.region = true)
    (hdraw : (r, u) = if tb j.oparg 2 then s.drawFrom j.region 32 else (zeros 32, s)) :
    exec (.mldsaSign key) s = .next ((u.dsaSigned key j p xi r).leftHeld c key) := by
  rw [exec_mldsaSign hh hp hv hset h2 hmin hmax h4 hdata hx hlen]
  by_cases hhedged : tb j.oparg 2 = true
  · rw [if_pos hhedged] at hdraw
    rw [if_pos hhedged, State.withRandom_of_ok (hrng hhedged), ← hdraw]
  · rw [if_neg hhedged] at hdraw
    obtain ⟨rfl, rfl⟩ := Prod.mk.inj hdraw
    rw [if_neg hhedged]

end

/-- MLDSA_VERIFY in form ends as the signature says. -/
theorem exec_mldsaVerify {s : State} {key c : Nat} {j : Job} {p : DsaSet} (hh : s.holds key 0o352 j c)
    (hp : p = dsaSet (bits j.oparg 1 0)) (hset : j.setOk false = true) (h1 : j.declared 1 = p.pkLen)
    (h3 : j.declared 3 = p.sigLen) (hdata : j.delivered [] = true) : exec (.mldsaVerify key) s = .next (State.leftHeld
      (s.finish key j (if dsaVerify p (j.data 1) (j.data 2) (j.data 3) then j.goodStatus else S.authFail)) c key) := by
  subst hp
  refine State.onHeld_next hh ?_
  simp only [hset, h1, h3, decide_true, Bool.and_self, State.need_of_true, State.lenGate_delivered _ _ _ _ _ hdata]
  split_ifs <;> rfl

/-! ### RAND_READ (R284) -/

/-- A page that answers reads takes one with an effect of its own (R34). -/
theorem State.readLive_of_live {s t : State} {p : Nat} (w : Nat) (h : s.frozen p = false) : s.readLive p w t = t :=
  if_neg (by rw [h]; decide)

section
variable {s : State} {n : Nat} (idx : Nat) (hf : s.frozen (P.clu n) = false)
include hf

/-- A draw register of a page that answers reads draws. -/
theorem exec_randRead (req : Requester) :
    exec (.randRead req n idx) s = .next (State.answered (s.readRand req n (R.CLU_RAND + idx))) :=
  congrArg Host.Outcome.next (State.readLive_of_live _ hf)

/-- A core of the cluster draws a word while the region's DRBG delivers, and reads zero while it does not. -/
theorem exec_randRead_core {c : Nat} (hc : c / 4 = n) : exec (.randRead (.core c) n idx) s = .next
    (if s.rngOk (n / 4) then (s.drawFrom (n / 4) 3).2.answer (wd (beNat (s.drawFrom (n / 4) 3).1)) else s.answer 0) := by
  rw [exec_randRead idx hf, State.readRand, if_neg (not_not_intro hc)]
  split_ifs <;> rfl

end

/-! ### Twiddles (R279, R280) -/

section
variable {q z : Nat} (hq : 1 < q)
include hq

theorem zpow_lt (e : Nat) : zpow q z e < q := by
  cases e with
  | zero => exact hq
  | succ e => exact Nat.mod_lt _ (by omega)

/-- No power of a unit is zero. -/
theorem zpow_pos (hz : z.Coprime q) (e : Nat) : 0 < zpow q z e := by
  have hunit : (zpow q z e).Coprime q := by
    induction e with
    | zero => exact Nat.coprime_one_left q
    | succ e ih => exact (Nat.gcd_rec q _).symm.trans (ih.mul_left hz).symm
  exact Nat.pos_of_ne_zero fun h => by
    rw [h, Nat.coprime_zero_left] at hunit
    omega

end

/-- What the arithmetic of the lanes rests on: ζ is a unit, the elements are a power of two, at least eight, that divides
q − 1. -/
structure LaneForm.Valid (f : LaneForm) : Prop where
  one_lt : 1 < f.q
  unit : f.z.Coprime f.q
  els_eq : ∃ k, 3 ≤ k ∧ f.els = 2 ^ k
  residue : f.q ≡ 1 [MOD f.els]

theorem kemLanes_valid : kemLanes.Valid := ⟨by decide, by decide, ⟨4, by decide, rfl⟩, rfl⟩
theorem dsaLanes_valid : dsaLanes.Valid := ⟨by decide, by norm_num [dsaLanes], ⟨3, by decide, rfl⟩, rfl⟩

namespace LaneForm.Valid

variable {f : LaneForm} (hf : f.Valid)
include hf

/-- A twiddle is a residue: κ(j), or what the inverse of κ(j), which is not zero, lacks of q. -/
theorem twiddle_lt (n i : Nat) : f.twiddle n i < f.q := by
  have hpos : 0 < f.q := Nat.zero_lt_of_lt hf.one_lt
  have hentry : ∀ e : Nat × Nat, (if e.1 = 0 then f.kappa e.2 false else f.q - f.kappa e.2 true) < f.q := fun e => by
    split_ifs
    · exact zpow_lt hf.one_lt _
    · exact Nat.sub_lt hpos (zpow_pos hf.one_lt hf.unit _)
  exact hentry _

/-- The partner of an element is an element. -/
theorem partner_lt {n i : Nat} (hn : n < 3) (hi : i < f.els) : f.partner n i < f.els := by
  obtain ⟨k, hk, hels⟩ := hf.els_eq
  rw [LaneForm.partner, hels, Nat.pow_div (by omega) (by decide)]
  exact Nat.xor_lt_two_pow (hels ▸ hi) (Nat.pow_lt_pow_right (by decide) (by omega))

/-- A stored twiddle keeps its residue. -/
theorem stored_mod_q (n i : Nat) : f.stored n i % f.q = f.twiddle n i := by
  rw [LaneForm.stored, Nat.add_mul_mod_self_right, Nat.mod_eq_of_lt (hf.twiddle_lt n i)]

/-- A stored twiddle names its partner in its low bits: q is 1 there. -/
theorem stored_mod_els {n i : Nat} (hn : n < 3) (hi : i < f.els) : f.stored n i % f.els = f.partner n i := by
  have hpos : (f.els : Int) ≠ 0 := by omega
  have hq : (f.q : Int) ≡ 1 [ZMOD f.els] := (Int.natCast_modEq_iff (b := 1)).mpr hf.residue
  have hstored : (f.stored n i : Int) ≡ f.partner n i [ZMOD f.els] := calc
    (f.stored n i : Int) = f.twiddle n i + ((f.partner n i : Int) - f.twiddle n i) % f.els * f.q := by
      rw [LaneForm.stored, Nat.cast_add, Nat.cast_mul, Int.toNat_of_nonneg (Int.emod_nonneg _ hpos)]
    _ ≡ f.twiddle n i + ((f.partner n i : Int) - f.twiddle n i) * 1 [ZMOD f.els] :=
      ((Int.mod_modEq _ _).mul hq).add_left _
    _ = f.partner n i := by ring
  exact Nat.mod_eq_of_modEq (Int.natCast_modEq_iff.mp hstored) (hf.partner_lt hn hi)

end LaneForm.Valid

/-- A polynomial in lane-scaled form has each coefficient times its element's factor (R278). -/
theorem LaneForm.scaled_getElem? (f : LaneForm) (l : List Nat) (c : Nat) :
    (f.scaled l)[c]? = l[c]?.map (fun x => f.sigma (c % f.els) * x % f.q) := List.getElem?_mapIdx

/-- Settles O50: each opcode by the lemmas of its outcomes, the lanes by the arithmetic of their form. -/
theorem latticeCompositesWriteTheirResult : Obligations.LatticeCompositesWriteTheirResult := by
  refine ⟨fun key j c v p s hh hp hv hset h2 h3 hdata => ⟨fun hrng => ⟨_, _, Prod.mk.eta, ?_⟩, fun hrng => ?_⟩,
    fun key j c p s hh hp hset h1 h2 hdata => ?_,
    fun key j c v p s hh hp hv hset h2 h3 hdata => ⟨exec_mlkemDecaps_bad hh hp hv hset h2 h3 hdata,
      fun b => exec_mlkemDecaps_good hh hp hv hset h2 h3 hdata⟩,
    fun key j c v p s hh hp hv hset h2 h3 hdata => ⟨fun hrng => ⟨_, _, Prod.mk.eta, ?_⟩, fun hrng => ?_⟩,
    fun key j c v p s hh hp hv hset h2 hmin hmax h4 hdata => ⟨exec_mldsaSign_bad hh hp hv hset h2 hmin hmax h4 hdata,
      fun xi => exec_mldsaSign_silent hh hp hv hset h2 hmin hmax h4 hdata, fun xi r u hx hlen hrng hdraw => ?_⟩,
    fun key j c p s => exec_mldsaVerify, fun c n idx s hc hf => ⟨fun hrng => ⟨_, _, Prod.mk.eta, ?_⟩, fun hrng => ?_⟩,
    fun n idx s hf => exec_randRead idx hf .host, fun f n i hform hn hi => ?_, LaneForm.scaled_getElem?⟩
  · rw [exec_mlkemKeygen hh hp hv hset h2 h3 hdata, State.withRandom_of_ok hrng]
  · rw [exec_mlkemKeygen hh hp hv hset h2 h3 hdata, State.withRandom_of_silent hrng]
  · have hex := exec_mlkemEncaps hh hp hset h1 h2 hdata
    refine ⟨fun hek hrng => ⟨_, _, _, _, Prod.mk.eta, Prod.mk.eta, ?_⟩, fun hek hrng => ?_, fun hek => ?_⟩
    · rw [hex, if_pos hek, State.withRandom_of_ok hrng]
    · rw [hex, if_pos hek, State.withRandom_of_silent hrng]
    · rw [hex, if_neg (by rw [hek]; decide)]
  · rw [exec_mldsaKeygen hh hp hv hset h2 h3 hdata, State.withRandom_of_ok hrng]
  · rw [exec_mldsaKeygen hh hp hv hset h2 h3 hdata, State.withRandom_of_silent hrng]
  · have hex := exec_mldsaSign_drawn hh hp hv hset h2 hmin hmax h4 hdata hx hlen hrng hdraw
    refine ⟨fun sig hsig => ?_, fun hsig => ?_⟩
    · rw [hex, State.dsaSigned, hsig]
    · rw [hex, State.dsaSigned, hsig]
  · rw [exec_randRead_core idx hf hc, if_pos hrng]
  · rw [exec_randRead_core idx hf hc, if_neg (by rw [hrng]; decide)]
  · have hvalid : f.Valid := by
      obtain rfl | rfl := hform
      · exact kemLanes_valid
      · exact dsaLanes_valid
    exact ⟨hvalid.stored_mod_q n i, hvalid.stored_mod_els hn hi⟩

end Sys2Proof.Machine
end

section
/-! PROOFS. Bits and fields of a word after a bit or a field of it has been written. -/
namespace Sys2Proof.Machine

section
variable {n : Nat} (w : BitVec n)

/-- A bit read after a write of one. -/
theorem tb_sb {b : Nat} (h : b < n) (v : Bool) (i : Nat) : tb (sb w b v) i = if i = b then v else tb w i := by
  cases v with
  | true =>
    rw [tb_sb_true w i h]
    split <;> simp [*]
  | false =>
    have hbit : (BitVec.ofNat n (2 ^ b)).getLsbD i = decide (i = b) := by
      rw [BitVec.getLsbD_ofNat, Nat.testBit_two_pow]
      by_cases hi : i = b
      · simp [hi, h]
      · simp [hi, Ne.symm hi]
    have hin : w.getLsbD i = true → i < n := BitVec.lt_of_getLsbD
    rw [sb, if_neg Bool.false_ne_true, tb, BitVec.getLsbD_and, BitVec.getLsbD_not, hbit, tb]
    by_cases hi : i = b
    · simp [hi]
    · simpa [hi] using hin

/-- A bit read after a write of a field: of the number written inside the field, as before outside. -/
theorem tb_putBits {hi lo : Nat} (hlo : lo ≤ hi) (hhi : hi < n) (v i : Nat) :
    tb (putBits w hi lo v) i = if lo ≤ i ∧ i ≤ hi then v.testBit (i - lo) else tb w i := by
  have hmask : ((2 ^ (hi + 1 - lo) - 1) * 2 ^ lo).testBit i = decide (lo ≤ i ∧ i ≤ hi) := by
    rw [Nat.testBit_mul_two_pow, Nat.testBit_two_pow_sub_one, ← Bool.decide_and]
    exact decide_eq_decide.2 (by omega)
  have hmod : (2 ^ (hi + 1 - lo) - 1) * 2 ^ lo + 2 ^ lo = 2 ^ (hi + 1) := by
    rw [← Nat.succ_mul, Nat.succ_eq_add_one, Nat.sub_add_cancel Nat.one_le_two_pow, ← Nat.pow_add]
    congr 1
    omega
  have hin : w.getLsbD i = true → i < n := BitVec.lt_of_getLsbD
  rw [putBits, tb, hmod, BitVec.getLsbD_or, BitVec.getLsbD_and, BitVec.getLsbD_not, BitVec.getLsbD_ofNat,
    BitVec.getLsbD_ofNat, hmask, Nat.testBit_mod_two_pow, Nat.testBit_mul_two_pow, tb]
  by_cases hfield : lo ≤ i ∧ i ≤ hi
  · simp [hfield, show i < n by omega, show i < hi + 1 by omega]
  · have hout : (decide (i < hi + 1) && (decide (lo ≤ i) && v.testBit (i - lo))) = false := by
      rw [← Bool.and_assoc, ← Bool.decide_and, decide_eq_false (by omega), Bool.false_and]
    rw [hout]
    simpa [hfield] using hin

/-- The bits of a field. -/
theorem testBit_bits (hi lo j : Nat) : (bits w hi lo).testBit j = (decide (j < hi + 1 - lo) && tb w (lo + j)) := by
  rw [bits, Nat.testBit_mod_two_pow, Nat.testBit_shiftRight, BitVec.testBit_toNat, tb]

/-- A bit is the field of width 1 at its place. -/
theorem tb_of_bits {i : Nat} {b : Bool} (h : bits w i i = b2n b) : tb w i = b := by
  rw [tb, ← BitVec.testBit_toNat, Nat.testBit_eq_decide_div_mod_eq, ← Nat.shiftRight_eq_div_pow]
  rw [bits, Nat.add_sub_cancel_left, Nat.pow_one] at h
  rw [h]
  cases b <;> rfl

/-- A field of a number that is a word of `n` bits. -/
theorem bits_ofNat_of_lt {v : Nat} (h : v < 2 ^ n) (hi lo : Nat) :
    bits (BitVec.ofNat n v) hi lo = v / 2 ^ lo % 2 ^ (hi + 1 - lo) := by
  rw [bits, BitVec.toNat_ofNat, Nat.mod_eq_of_lt h, Nat.shiftRight_eq_div_pow]

end

/-! ### Fields side by side -/

/-- The number whose fields, each given with its width, lie side by side from bit 0 up. -/
def packFields : List (Nat × Nat) → Nat
  | [] => 0
  | (f, k) :: l => f + 2 ^ k * packFields l

/-- A field lies above the widths of those before it. -/
theorem packFields_field {l : List (Nat × Nat)} (hl : ∀ p ∈ l, p.1 < 2 ^ p.2) {i : Nat} (hi : i < l.length) :
    packFields l / 2 ^ ((l.take i).map Prod.snd).sum % 2 ^ l[i].2 = l[i].1 := by
  induction l generalizing i with
  | nil => exact absurd hi (Nat.not_lt_zero i)
  | cons p l ih =>
    obtain ⟨hp, hrest⟩ := List.forall_mem_cons.1 hl
    cases i with
    | zero => simpa [packFields] using Nat.mod_eq_of_lt hp
    | succ i =>
      rw [packFields, List.take_succ_cons, List.map_cons, List.sum_cons, Nat.pow_add, ← Nat.div_div_eq_div_mul,
        Nat.add_mul_div_left _ _ (Nat.two_pow_pos _), Nat.div_eq_of_lt hp, Nat.zero_add]
      exact ih hrest (Nat.lt_of_succ_lt_succ hi)

/-- Fields that fit their widths fill no more than the sum of these. -/
theorem packFields_lt {l : List (Nat × Nat)} (hl : ∀ p ∈ l, p.1 < 2 ^ p.2) : packFields l < 2 ^ (l.map Prod.snd).sum := by
  induction l with
  | nil => exact Nat.one_pos
  | cons p l ih =>
    obtain ⟨hp, hrest⟩ := List.forall_mem_cons.1 hl
    rw [packFields, List.map_cons, List.sum_cons, Nat.pow_add]
    calc p.1 + 2 ^ p.2 * packFields l < 2 ^ p.2 * (packFields l + 1) := by rw [Nat.mul_add_one]; omega
      _ ≤ 2 ^ p.2 * 2 ^ (l.map Prod.snd).sum := Nat.mul_le_mul_left _ (ih hrest)

end Sys2Proof.Machine
end

section
/-! PROOFS. Exceptions and privilege (R292 to R308): what taking a fault saves and where it goes, and what RFE takes back. -/
namespace Sys2Proof.Machine

/-! ### ESTAT (Table 10-5) -/

theorem b2n_le_one (b : Bool) : b2n b ≤ 1 := by cases b <;> decide

/-- The fields of ESTAT with their widths, from CAUSE up to SEAL, as the entry of a fault writes them (R295, Table 10-5). -/
def faultFields (x : Core) (e detail : Nat) (bd : Bool) (sh : Nat) : List (Nat × Nat) :=
  [(e, 10), (bits x.estat 16 10, 7), (0, 1), (detail, 5), (sh, 2), (b2n bd, 1), (bits x.estat 16 10, 7), (b2n x.ie, 1),
    (b2n x.sup, 1), (1, 1)]

section
variable (x : Core) {e detail sh : Nat} (bd : Bool)

theorem estatOf_eq_packFields :
    estatOf x e detail bd sh none = BitVec.ofNat 36 (packFields (faultFields x e detail bd sh)) := by
  simp only [estatOf, faultFields, packFields]
  congr 1
  omega

variable (he : e < 640) (hdetail : detail < 32) (hsh : sh ≤ 2)
include he hdetail hsh

theorem faultFields_fit : ∀ p ∈ faultFields x e detail bd sh, p.1 < 2 ^ p.2 := by
  have hipl : bits x.estat 16 10 < 128 := bits_lt x.estat 16 10
  simp [faultFields, b2n_le_one, hipl, hdetail, show e < 1024 by omega, show sh < 4 by omega]

/-- The fields of ESTAT after the entry of a fault. -/
theorem estatOf_fields {v : DWord} (hv : v = estatOf x e detail bd sh none) :
    tb v 35 = true ∧ tb v 34 = x.sup ∧ tb v 33 = x.ie ∧ bits v 32 26 = bits x.estat 16 10 ∧ tb v 25 = bd ∧
      bits v 24 23 = sh ∧ bits v 22 18 = detail ∧ tb v 17 = false ∧ bits v 16 10 = bits x.estat 16 10 ∧ bits v 9 0 = e := by
  have hfit := faultFields_fit x bd he hdetail hsh
  have hbits := bits_ofNat_of_lt (packFields_lt hfit)
  have hfield := fun i : Fin 10 => packFields_field hfit i.isLt
  rw [estatOf_eq_packFields] at hv
  subst hv
  exact ⟨tb_of_bits _ ((hbits 35 35).trans (hfield 9)), tb_of_bits _ ((hbits 34 34).trans (hfield 8)),
    tb_of_bits _ ((hbits 33 33).trans (hfield 7)), (hbits 32 26).trans (hfield 6),
    tb_of_bits _ ((hbits 25 25).trans (hfield 5)), (hbits 24 23).trans (hfield 4), (hbits 22 18).trans (hfield 3),
    tb_of_bits _ ((hbits 17 17).trans (hfield 2)), (hbits 16 10).trans (hfield 1), (hbits 9 0).trans (hfield 0)⟩

end

/-! ### The entry (R295, R297) -/

section
variable {s : State} {c e : Nat} {x : Core} (hx : x = (s.core c).drainLoads)
include hx

/-- An entry before the last one has been saved is a vector failure of reason 1 (R297). -/
theorem State.enter_of_unsaved (hunsaved : x.unsaved = true) (detail : Nat) (v : Saved) (lvl : Option Nat) :
    s.enter c e detail v lvl = (s.setCore c x).vectorFail c e 1 := by
  subst hx
  exact if_pos hunsaved

/-- An entry whose vector and handler can be read leaves the core as R295 says; that of ILLRET keeps EMODE and ELOOP (R307). -/
theorem State.core_enter {r : Who} {a : Nat} {h : DWord} (hr : r = { (s.setCore c x).coreWho c with sup := true })
    (ha : a = (x.vbase + BitVec.ofNat 36 (2 * e)).toNat) (hsaved : x.unsaved = false)
    (hallowed : (s.setCore c x).checkAccess r a 2 .r = .allowed)
    (hsound : (s.setCore c x).rangesStruck r [(a, 2, .r)] = none)
    (hh : h = dword (((s.setCore c x).readWords r a 2).2.getD 0 0) (((s.setCore c x).readWords r a 2).2.getD 1 0))
    (hfetch : ((s.setCore c x).readWords r a 2).1.fetchCheck r (h.toNat / 2) 1 = none)
    (detail : Nat) (v : Saved) (lvl : Option Nat) : (s.enter c e detail v lvl).core c =
      if e = EXC.illret then (x.entered e detail v lvl h).keepReturn x else x.entered e detail v lvl h := by
  subst hx hr ha hh
  simp only [State.enter, hsaved, hallowed, hsound, hfetch, Bool.false_eq_true, if_false]
  exact (State.core_setCore ..).trans (if_pos rfl)

end

/-- Settles O46: a fault enters with what `Core.faultSaved` gives it, and its ESTAT holds the fields of Table 10-5. -/
theorem anEntrySavesAndTransfersAsTheRulesSay : Obligations.AnEntrySavesAndTransfersAsTheRulesSay := by
  intro c e detail x v r a h s hx hv he hdetail hsh hillret hr ha
  refine ⟨fun hunsaved => State.enter_of_unsaved hx hunsaved detail _ none,
    fun hsaved hallowed hsound hh hfetch => ⟨_, rfl, ?_⟩⟩
  have hcore : (s.faultEntry c e detail).core c = x.entered e detail v none h :=
    hv ▸ (State.core_enter hx hr ha hsaved hallowed hsound hh hfetch detail _ none).trans (if_neg hillret)
  rw [hcore]
  obtain ⟨hseal, hpsup, hpie, hpipl, hbd, hesh, hdet, hie, hipl, hcause⟩ := estatOf_fields x v.bd he hdetail hsh rfl
  exact ⟨hseal, hpsup, hpie, hpipl, hbd, hesh, hdet, hie, hipl, hcause, by simp [Core.entered]⟩

/-! ### The return (R308) -/

/-- ESTAT as RFE leaves it: IE and IPL as they were saved, SEAL cleared. -/
theorem estatReturned_fields (v : DWord) : tb (estatReturned v) 17 = tb v 33 ∧
    bits (estatReturned v) 16 10 = bits v 32 26 ∧ tb (estatReturned v) 35 = false := by
  have hbit : ∀ i, tb (estatReturned v) i = if i = 35 then false else
      if 10 ≤ i ∧ i ≤ 16 then (bits v 32 26).testBit (i - 10) else if i = 17 then tb v 33 else tb v i := fun i => by
    rw [estatReturned, tb_sb _ (by decide), tb_putBits _ (by decide) (by decide), tb_sb _ (by decide)]
  refine ⟨hbit 17, Nat.eq_of_testBit_eq fun j => ?_, hbit 35⟩
  rw [testBit_bits, hbit]
  by_cases hj : j < 7
  · simp [hj, show 10 + j ≠ 35 by omega, show 10 + j ≤ 16 by omega]
  · simp [hj, testBit_bits]

/-- A core without loads in flight has none to age. -/
theorem Core.ageLoads_of_loads_nil {x : Core} (h : x.loads = []) : x.ageLoads = x := by
  simp only [Core.ageLoads, h, List.map_nil, List.filter_nil, List.foldl_nil]
  rw [← h]

/-- Counting an instruction writes registers of its core's page alone. -/
theorem State.reg_countIns_ne (s : State) (i : Ins) {c p q : Nat} (hp : p ≠ P.kz c) (hq : q < 1024) :
    (s.countIns c i).reg p q = s.reg p q := by
  have hne : ∀ w < 1024, p * 1024 + q ≠ P.kz c * 1024 + w := by omega
  rw [State.countIns, State.inc36, State.reg_setReg36, if_neg (hne _ (by decide)), if_neg (hne _ (by decide)),
    State.reg_setReg36, if_neg (hne _ (by decide)), if_neg (hne _ (by decide))]

/-- Counting an instruction changes no core. -/
theorem State.core_countIns (s : State) (c d : Nat) (i : Ins) : (s.countIns c i).core d = s.core d := rfl

/-- Settles O47: the outcomes of RFE are those of `kazoloSystemInstructions`; returning changes the core and its page. -/
theorem rfeRestoresWhatTheEntrySaved : Obligations.RfeRestoresWhatTheEntrySaved := by
  intro c pre w i x s t h
  obtain ⟨-, -, -, -, -, -, -, hrfe, -⟩ := kazoloSystemInstructions c pre w i x s t
  obtain ⟨hrefused, hreturns⟩ := hrfe h
  obtain ⟨-, rfl, hx, -⟩ := h
  refine ⟨fun hpsup hseal => hrefused 1 ?_, fun hpasses hloads => ⟨_, _, hreturns hpasses, rfl, ?_⟩⟩
  · subst hx
    simp only [State.rfeRefused, hpsup, hseal, Bool.not_false, Bool.and_self, if_true]
  · obtain ⟨hie, hipl, hseal⟩ := estatReturned_fields x.estat
    rw [State.core_countIns, State.core_modCore, if_pos rfl, ← hx, Core.ageLoads_of_loads_nil (x := x.returned) hloads]
    refine ⟨rfl, hie, hipl, hseal, rfl, rfl, rfl, rfl, rfl, rfl, rfl, rfl, rfl, rfl, rfl, rfl, rfl,
      fun a => State.word_wakeUp s c a, fun d hd => ?_, fun p q hp hq => ?_⟩
    · rw [State.core_countIns, State.core_modCore, if_neg hd, State.core_wakeUp_ne s c hd]
    · exact (State.reg_countIns_ne _ i hp hq).trans (State.reg_wakeUp s c p q)

end Sys2Proof.Machine
end

section
/-! PROOFS. What every step does: it takes the front command and nothing else of the queue, it answers a next state, and it
starts from a canonical state (chapter 98, log entries 2 and 3). -/
namespace Sys2Proof.Machine

/-! ### The queue of waiting commands -/

/-- Settles O1: by definition of a step. -/
theorem stepRunsTheFrontCommand : Obligations.StepRunsTheFrontCommand := fun _ _ _ => rfl

/-- Settles O4: every memory of the reset state is empty, and no command waits. -/
theorem resetIsCanonical : Obligations.ResetIsCanonical := ⟨rfl, rfl⟩

/-- A step leaves the queue without its first command. -/
theorem pending_of_step {s t : State} (h : step s = .next t) : t.pending = s.pending.tail := by
  cases hp : s.pending with
  | nil => exact (kept_step_nil hp h).1.trans hp
  | cons c rest => exact (kept_step_cons hp h).1

/-- The tail of a queue of well-formed commands is one. -/
theorem State.queueWf_of_tail {s t : State} (ht : t.pending = s.pending.tail) (hs : s.queueWf = true) : t.queueWf = true := by
  rw [State.queueWf, List.all_eq_true] at hs ⊢
  rw [ht]
  exact fun c hc => hs c (List.mem_of_mem_tail hc)

/-- Settles O6: a step leaves the tail of the queue, and every command of the tail waited in the queue. -/
theorem everyStepTakesExactlyOneCommand : Obligations.EveryStepTakesExactlyOneCommand := fun _ _ h =>
  ⟨pending_of_step h, State.queueWf_of_tail (pending_of_step h)⟩

/-! ### What the shared operations answer -/

/-- An outcome is a next state. -/
def Answers (o : Host.Outcome State Fault Refusal) : Prop := ∃ t, o = .next t

theorem answers_next (t : State) : Answers (.next t) := ⟨t, rfl⟩

theorem answers_when (c : Bool) (s t : State) : Answers (when c s t) := answers_next _

theorem answers_ite (c : Prop) [Decidable c] {a b : Host.Outcome State Fault Refusal} (ha : Answers a) (hb : Answers b) :
    Answers (if c then a else b) := by split <;> assumption

/-- Whether the job is there and runs its opcode, the row answers. -/
theorem answers_onJob (s : State) (key op : Nat) (f : Job → State) : Answers (s.onJob key op f) := by
  unfold State.onJob
  cases s.job key with
  | none => exact answers_next s
  | some j => exact answers_next _

theorem answers_onRun (s : State) (key op : Nat) (f : Job → State) : Answers (s.onRun key op f) := answers_onJob ..

theorem answers_onCipher (s : State) (key op : Nat) (chk : UnitCheck) (f : Job → State) : Answers (s.onCipher key op chk f) :=
  answers_onRun ..

theorem answers_onDigest (s : State) (key op : Nat) (chk : UnitCheck) (f : Job → State) : Answers (s.onDigest key op chk f) :=
  answers_onRun ..

theorem answers_onBignum (s : State) (key op : Nat) (chk : UnitCheck) : Answers (s.onBignum key op chk) := answers_onRun ..

theorem answers_onHeld (s : State) (key op : Nat) (f : Job → State) : Answers (s.onHeld key op f) := answers_onJob ..

/-- A row of a bignum program answers, whichever of unit, job and command is missing. -/
theorem answers_onProg (s : State) (unit op : Nat) (chk : UnitCheck) (f : State → Nat → Job → Cmd → BnCmd → State) :
    Answers (s.onProg unit op chk f) := by
  unfold State.onProg
  dsimp only
  split
  · exact answers_next s
  · split
    · exact answers_next s
    · split
      · exact answers_next s
      · exact answers_when ..

theorem answers_cstCmd (s : State) (key op : Nat) : Answers (s.cstCmd key op) := by
  unfold State.cstCmd
  cases s.job key with
  | none => exact answers_next s
  | some j => exact answers_when ..

theorem answers_fstCmd (s : State) (key op : Nat) : Answers (s.fstCmd key op) := by
  unfold State.fstCmd
  cases s.job key with
  | none => exact answers_next s
  | some j => exact answers_when ..

theorem answers_placeNext (s : State) (key : Nat) : Answers (s.placeNext key) := by
  unfold State.placeNext
  split
  · exact answers_next s
  · split <;> exact answers_next _

theorem answers_migrate (s : State) (sess : Nat) : Answers (s.migrate sess) := by
  unfold State.migrate
  dsimp only
  split <;> exact answers_next _

/-! ### The commands with most conditions of their own -/

theorem answers_hostDataArrive (key cell : Nat) (sg data : List Octet) (err : Bool) (s : State) :
    Answers (execHostDataArrive key cell sg data err s) := by
  unfold execHostDataArrive
  split
  · exact answers_next s
  · refine answers_ite _ (answers_next s) (answers_ite _ (answers_next _) (answers_ite _ (answers_next _) ?_))
    split <;> exact answers_next _

/-- A job that parks leaves its unit to a victim's successor or to the shutdown; one that cannot stays. -/
theorem answers_jobPark (key done : Nat) (s : State) : Answers (execJobPark key done s) := by
  unfold execJobPark
  split
  · exact answers_next s
  · split
    · exact answers_next s
    · refine answers_ite _ (answers_next s) (answers_ite _ (answers_next _) ?_)
      split
      · exact answers_next s
      · split <;> exact answers_next _

theorem answers_jobResume (key : Nat) (rec : List Octet) (err : Bool) (s : State) : Answers (execJobResume key rec err s) := by
  unfold execJobResume
  split
  · exact answers_next s
  · refine answers_ite _ (answers_next s) ?_
    split
    · exact answers_next s
    · refine answers_ite _ (answers_next _) ?_
      split
      · exact answers_next _
      · split
        · exact answers_next _
        · split <;> exact answers_next _

theorem answers_bnYield (unit done : Nat) (s : State) : Answers (execBnYield unit done s) := by
  unfold execBnYield
  dsimp only
  split
  · exact answers_next s
  · split
    · exact answers_next s
    · split
      · split
        · exact answers_when ..
        · exact answers_next s
      · exact answers_next s

/-! ### The commands -/

/-- Every command answers: by one of the shared operations, by the answers to the one or two questions it asks of the state,
or, where its answer does not wait for one, at once. -/
theorem answers_exec (c : Instr) (s : State) : Answers (exec c s) := by
  cases c with
  | sessOpen | sessClose | sessRekey | rngGet | credWrite | credDerive | credRetire | reclaim | slotGenerate | slotUnwrap | slotWrap
  | slotDerive | slotDestroy | slotInfo | pageLoad | pageEvict | chunkVerify | evictWrite | lineSetId | lineDone | lineReject
  | lineQuery => exact answers_onRun ..
  | ecbEnc | ecbDec | cbcEnc | cbcDec | ctr | cmacGen | cmacVer | gcmEnc | gcmDec | ccmEnc | ccmDec | kwWrap | kwUnwrap | kwpWrap
  | kwpUnwrap | akaMilenage | akaResync => exact answers_onCipher ..
  | sha224 | sha256 | sha384 | sha512 | sha3224 | sha3256 | sha3384 | sha3512 | shake128 | shake256 | gbHmac =>
    exact answers_onDigest ..
  | bnModexp | bnModmul | bnModadd | bnModsub | bnModinv | bnCurvechk => exact answers_onBignum ..
  | hmacGen | hmacVer | kdfTree | pinTranslate | cryptogramVer | akaTuak | ecdhP256 | ecdsaP256Sign | ecdsaP256Ver | ecdsaP384Ver
  | rsaCrt | mlkemKeygen | mlkemEncaps | mlkemDecaps | mldsaKeygen | mldsaSign | mldsaVerify => exact answers_onHeld ..
  | load | store | convert | toMont | fromMont | modadd | modsub | modmul | modexp | modinv | curvechk =>
    dsimp only [exec, execLoad, execStore, execConvert, execToMont, execFromMont, execModadd, execModsub, execModmul, execModexp,
      execModinv, execCurvechk]
    exact answers_onProg ..
  | cstActivate | cstApdu | cstDeactivate | cstWarmReset => exact answers_cstCmd ..
  | fstActivate | fstApdu | fstDeactivate => exact answers_fstCmd ..
  | sessionMigrate => exact answers_migrate ..
  | hostDataArrive => exact answers_hostDataArrive ..
  | jobPark => exact answers_jobPark ..
  | jobResume => exact answers_jobResume ..
  | bnYield => exact answers_bnYield ..
  | jobPlace =>
    dsimp only [exec, execJobPlace]
    split
    · exact answers_next _
    · exact answers_placeNext ..
  | hostWriteError | prqHostError | wqNop | lineItem | resultAckReceive | recomputeDone | denletMessageReceive | interruptEntry
  | compositeAbort =>
    dsimp only [exec, execHostWriteError, execPrqHostError, execWqNop, execLineItem, execResultAckReceive, execRecomputeDone,
      execDenletMessageReceive, execInterruptEntry, execCompositeAbort]
    split <;> exact answers_next _
  | arriveTimeout | classRetryWait | identityReadDone | checkMarkEdge | markEdge | logAppend | portDProgram | flashPulseDone
  | flashWindowRead | journalCompact =>
    dsimp only [exec, execArriveTimeout, execClassRetryWait, execIdentityReadDone, execCheckMarkEdge, execMarkEdge, execLogAppend,
      execPortDProgram, execFlashPulseDone, execFlashWindowRead, execJournalCompact]
    split <;> exact answers_next _
  | backgroundCompare | bistDone | retire | zeroiseDone | resetDevice | respStageAccess | regionStepDone | stationAdmit
  | gcolDataAccess | granuleClear | postedWriteSettle =>
    dsimp only [exec, execBackgroundCompare, execBistDone, execRetire, execZeroiseDone, execResetDevice, execRespStageAccess,
      execRegionStepDone, execStationAdmit, execGcolDataAccess, execGranuleClear, execPostedWriteSettle]
    split <;> exact answers_next _
  | forwardAckReceive | forwardTimeout | forwardResultReceive | moved | movedResend | tamperActionsDone =>
    dsimp only [exec, execForwardAckReceive, execForwardTimeout, execForwardResultReceive, execMoved, execMovedResend,
      execTamperActionsDone]
    split
    · split <;> exact answers_next _
    · exact answers_next _
  | bnAbort | bnProgramEnqueue | kUcmdComplete =>
    dsimp only [exec, execBnAbort, execBnProgramEnqueue, execKUcmdComplete]
    split
    · exact answers_next _
    · split <;> exact answers_next _
  | _ => exact answers_next _

/-- Settles O7: on an empty queue a nanosecond passes, and the front command answers. -/
theorem everyCommandAnswersANextState : Obligations.EveryCommandAnswersANextState := by
  intro s
  unfold step
  split
  · exact answers_next _
  · exact answers_exec ..

end Sys2Proof.Machine
end

section
/-! PROOFS. The line transport: encoders, speed, marks and check marks (R408 to R413), HOLD (R421, R425), and the line's
opcodes (R414 to R419, R428, R552). -/
namespace Sys2Proof.Machine

/-! ### Encoders and speed (R408 to R410) -/

/-- An encoder error asserts HOLD 2. -/
theorem exec_encoderCount_error (e : Bool) (s : State) : exec (.encoderCount e 2) s = .next (s.assertHold 2) := rfl

section
variable {k : Nat} {s t : State} (hk : k ≠ 2)
include hk

/-- A count of encoder 0 moves the position; the encoders may newly disagree (R410). -/
theorem exec_encoderCount_zero (ht : t = s.count ((k == 0) != s.rbit P.line R.LINE_CFG 4)) :
    exec (.encoderCount false k) s =
      .next (if t.disagree && !s.disagree then (t.detect 21).assertHold 1 else t) := by
  subst ht
  exact congrArg Host.Outcome.next (if_neg hk)

/-- A count of encoder 1 moves its own position; the encoders may newly disagree (R410). -/
theorem exec_encoderCount_one (ht : t = { s with line := { s.line with enc1 :=
      if ((k == 0) != s.rbit P.line R.LINE_CFG 5) then s.line.enc1 + 1 else s.line.enc1 - 1 } }) :
    exec (.encoderCount true k) s =
      .next (if t.disagree && !s.disagree then (t.detect 21).assertHold 1 else t) := by
  subst ht
  exact congrArg Host.Outcome.next (if_neg hk)

end

/-- A line that moves within its speed is neither still nor too fast (R409). -/
theorem exec_speedUpdate_moving {v : Int} {s : State} (hv : v = s.line.pos - s.line.samples.getD 9 0) (h0 : v ≠ 0)
    (hmax : 100 * v ≤ (105 * s.lreg R.LINE_SPEED_MAX : Int)) :
    exec .speedUpdate s = .next ((State.setReg { s with line := { s.line with
      samples := (s.line.pos :: s.line.samples).take 10, zeros := 0, past := 0 } } P.line R.LINE_SPEED
      (BitVec.ofInt 18 v)).setRbit P.line R.LINE_STAT 1 false) :=
  calc exec .speedUpdate s = execSpeedUpdate s := rfl
    _ = _ := by
      simp only [execSpeedUpdate, ← hv, if_neg h0, if_neg (Int.not_lt.mpr hmax)]
      rfl

/-! ### Marks and check marks (R411 to R413) -/

section
variable {ago : Nat} {m : Int} {s : State} (hm : s.edgeAt ago = some m)
include hm

/-- A mark too close to the last one asserts HOLD 5 (R411). -/
theorem exec_markEdge_double {l : Int} (hl : s.line.lastMark = some l) (hd : m - l < (s.lreg R.LINE_PITCH_MIN : Int)) :
    exec (.markEdge ago) s = .next (s.assertHold 5) :=
  calc exec (.markEdge ago) s = execMarkEdge ago s := rfl
    _ = _ := by simp only [execMarkEdge, hm, hl, decide_eq_true hd, if_true]

/-- A mark far enough from the last one takes a snapshot and a number; it enters the ledger, or overflows it (R413). -/
theorem exec_markEdge_single (hfar : ∀ l, s.line.lastMark = some l → (s.lreg R.LINE_PITCH_MIN : Int) ≤ m - l) {t u : State}
    (ht : t = (s.snapshot).inc36 P.line R.LINE_NEXT_ITEM) (hu : u = { t with line := { t.line with lastMark := some m } }) :
    exec (.markEdge ago) s =
      .next (if 4096 ≤ u.line.items.length then u.overflowMark m else u.enterItem s.nextItem m ago) := by
  subst ht hu
  calc exec (.markEdge ago) s = execMarkEdge ago s := rfl
    _ = _ := by
      cases hl : s.line.lastMark with
      | none => simp only [execMarkEdge, hm, hl, Bool.false_eq_true, if_false]
      | some l => simp only [execMarkEdge, hm, hl, decide_eq_false (Int.not_lt.mpr (hfar l hl)), Bool.false_eq_true, if_false]

end

section
variable {j ago : Nat} {p : Int} {s : State} (hp : s.edgeAt ago = some p) (hj : s.isCheck j = true)
include hp hj

/-- A check mark near no item asserts HOLD 6 (R412). -/
theorem exec_checkMarkEdge_stray (hf : s.line.items.find? (fun i =>
      decide ((p - i.m - s.rfld P.line (R.LINE_CHK + j) 16 0).natAbs ≤ s.lreg R.LINE_CHK_TOL)) = none) :
    exec (.checkMarkEdge j ago) s = .next (s.assertHold 6) :=
  calc exec (.checkMarkEdge j ago) s = execCheckMarkEdge j ago s := rfl
    _ = _ := by simp only [execCheckMarkEdge, hp, when, hj, hf, if_true]

/-- A check mark is noted with the item near it (R412). -/
theorem exec_checkMarkEdge_noted {i : Item} (hf : s.line.items.find? (fun i =>
      decide ((p - i.m - s.rfld P.line (R.LINE_CHK + j) 16 0).natAbs ≤ s.lreg R.LINE_CHK_TOL)) = some i)
    (hnew : i.checks.contains j = false) : exec (.checkMarkEdge j ago) s =
      .next (s.modItem i.num (fun x => { x with checks := x.checks ++ [j] })) :=
  calc exec (.checkMarkEdge j ago) s = execCheckMarkEdge j ago s := rfl
    _ = _ := by simp only [execCheckMarkEdge, hp, when, hj, hf, hnew, if_true, Bool.false_eq_true, if_false]

end

/-! ### HOLD (R421, R425) -/

/-- LINE_OK low asserts HOLD 9 on a line that is not held. -/
theorem exec_lineOkChange_low {s : State} (h : s.holding = false) : exec (.lineOkChange false) s =
    .next (((s.setRbit P.line R.LINE_STAT 2 false).detect 22).assertHold 9) :=
  congrArg Host.Outcome.next (if_neg (by rw [h]; decide))

section
variable (req : Requester) {s : State} (hd : s.deaf P.line = false)
include hd

/-- HOLD_CLR releases a line that is enabled and still, and whose causes are gone (R425). -/
theorem exec_holdClr_released (hen : s.en P.line = true) (hs : s.stat P.line ST.stopping = false)
    (hstill : s.rbit P.line R.LINE_STAT 1 = true) (hgone : s.holdPersists = false) (hh : s.holding = true) {u : State}
    (hu : u = (s.setRbit P.line R.LINE_STAT 0 false).setRfld P.line R.LINE_STAT 6 3 0) :
    exec (.holdClr req) s = .next (State.event { u with line := { u.line with
      revHigh := s.line.pos, snaps := [(s.line.pos, s.line.enc1)] } } P.line 1) := by
  subst hu
  refine (written_of_taken hd).trans (congrArg Host.Outcome.next ?_)
  simp only [hen, hs, hstill, hgone, hh, Bool.not_true, Bool.or_false, Bool.false_eq_true, if_false]
  rfl

/-- HOLD_CLR while a cause persists is an error (R425). -/
theorem exec_holdClr_persists (h : s.holdPersists = true) :
    exec (.holdClr req) s = .next (s.pgErr P.line 2 req R.LINE_CMD) :=
  (written_of_taken hd).trans (congrArg Host.Outcome.next (if_pos (by rw [h, Bool.or_true])))

end

/-! ### The line's opcodes (R414, R415, R419, R428, R552) -/

/-- LINE_ITEM runs its station operation at its station (R418). -/
theorem exec_lineItem {key : Nat} {j : Job} {s : State} (hj : s.job key = some j) (hop : j.opcode = 0o500) :
    exec (.lineItem key) s = .next (if j.stnNo < 16 then s.cstRow key j else s.fstRow key j) :=
  calc exec (.lineItem key) s = execLineItem key s := rfl
    _ = _ := by simp only [execLineItem, hj, when, hop, decide_true, if_true]

/-- What QUERY answers for record `n` of an item: the status of its station operation, 0xFF where there is none (R552). -/
def Item.stationOctet (i : Item) (n : Nat) : Octet :=
  match i.recs[n]? with
  | some x => BitVec.ofNat 8 x.status
  | none => 0xFF

section
variable {key : Nat} {j : Job} {s : State} (hc : lineClean j = true)
include hc

/-- SET_ID gives an item without an identifier its own, of 4, 7 or 10 octets (R419). -/
theorem exec_lineSetId {i : Item} {len : Nat} (hr : s.runs key 0o501 j) (hl : len = ((j.oct 2 0 1).headD 0).toNat)
    (hlen : len = 4 ∨ len = 7 ∨ len = 10) (hi : s.item j.itemNo = some i) (hid : i.ident = []) :
    exec (.lineSetId key) s =
      .next ((s.modItem j.itemNo (fun x => { x with ident := j.oct 2 1 len })).finish key j S.ok) := by
  have hin : [4, 7, 10].contains len = true := by simpa using hlen
  refine (State.onRun_of_runs hr _).trans (congrArg Host.Outcome.next ?_)
  simp only [hc, ← hl, hin, hi, hid, Bool.not_true, Bool.or_self, Bool.false_eq_true, if_false, ne_eq, not_true_eq_false]

/-- DONE of an item that has left completes WINDOW_MISSED (R428). -/
theorem exec_lineDone_gone (hn : s.item j.itemNo = none) (hr : s.runs key 0o502 j) :
    exec (.lineDone key) s = .next (s.fail key j S.windowMissed) := by
  refine (State.onRun_of_runs hr _).trans (congrArg Host.Outcome.next ?_)
  simp only [hc, hn, Bool.not_true, Bool.false_eq_true, if_false]

/-- DONE marks its item done (R414). -/
theorem exec_lineDone {i : Item} (hi : s.item j.itemNo = some i) (hr : s.runs key 0o502 j) :
    exec (.lineDone key) s = .next ((s.modItem j.itemNo (fun x => { x with done := true })).finish key j S.ok) := by
  refine (State.onRun_of_runs hr _).trans (congrArg Host.Outcome.next ?_)
  simp only [hc, hi, Bool.not_true, Bool.false_eq_true, if_false]

/-- REJECT of an item that has left completes WINDOW_MISSED (R428). -/
theorem exec_lineReject_gone (hn : s.item j.itemNo = none) (hr : s.runs key 0o503 j) :
    exec (.lineReject key) s = .next (s.fail key j S.windowMissed) := by
  refine (State.onRun_of_runs hr _).trans (congrArg Host.Outcome.next ?_)
  simp only [hc, hn, Bool.not_true, Bool.false_eq_true, if_false]

/-- REJECT marks its item, unless the item is decided and not marked yet: then the line is held (R415). -/
theorem exec_lineReject {i : Item} (hi : s.item j.itemNo = some i) (hr : s.runs key 0o503 j) :
    exec (.lineReject key) s = .next (if i.reject then (s.markItem i.num 5).finish key j S.ok
      else if s.decided i then (s.assertHold 8).fail key j S.policyRefused
      else (s.markItem i.num 5).finish key j S.ok) := by
  refine (State.onRun_of_runs hr _).trans (congrArg Host.Outcome.next ?_)
  simp only [hc, hi, Bool.not_true, Bool.false_eq_true, if_false]

/-- QUERY answers the status, the mark and the eight station results of its item (R552). -/
theorem exec_lineQuery {i : Item} (hi : s.item j.itemNo = some i) (hr : s.runs key 0o504 j)
    (hn : j.itemNo < s.nextItem + 4096) : exec (.lineQuery key) s = .next (s.finish key j S.ok
      (beOctets 3 i.stat.toNat ++ beOctets 5 (BitVec.ofInt 36 i.m).toNat ++ (List.range 8).map i.stationOctet)) := by
  refine (State.onRun_of_runs hr _).trans (congrArg Host.Outcome.next ?_)
  simp only [hc, hi, decide_eq_false (Nat.not_le.mpr hn), Bool.not_true, Bool.or_self, Bool.false_eq_true, if_false]
  rfl

end

/-- Settles O55: each row by the lemmas of its cases. -/
theorem theLineMarksChecksAndHolds : Obligations.TheLineMarksChecksAndHolds := by
  refine ⟨exec_encoderCount_error, fun k t s hk => ⟨exec_encoderCount_zero hk, exec_encoderCount_one hk⟩,
    fun v s => exec_speedUpdate_moving,
    fun ago m t s hm => ⟨fun l => exec_markEdge_double hm, fun hfar ht => ⟨_, rfl, exec_markEdge_single hm hfar ht rfl⟩⟩,
    fun j ago p f s hp hj hf => ⟨fun hn => exec_checkMarkEdge_stray hp hj (hf ▸ hn),
      fun i hi => exec_checkMarkEdge_noted hp hj (hf ▸ hi)⟩,
    fun s => ⟨rfl, exec_lineOkChange_low⟩, fun req s => written_of_taken,
    fun req s hd hen hs hstill hgone hh => ⟨_, rfl, exec_holdClr_released req hd hen hs hstill hgone hh rfl⟩,
    fun req s => exec_holdClr_persists req, fun key j s => exec_lineItem,
    fun key j i len s hr hc hl hlen => exec_lineSetId hc hr hl hlen,
    fun key j s hc => ⟨fun hn => ⟨exec_lineDone_gone hc hn, exec_lineReject_gone hc hn⟩,
      fun i hi => ⟨exec_lineDone hc hi, fun hr hmark => ?_, fun hr hrej hdec => ?_, fun hr hn => ?_⟩⟩⟩
  · rw [exec_lineReject hc hi hr]
    obtain h | h := hmark
    · rw [if_pos h]
    · simp only [h, Bool.false_eq_true, if_false, ite_self]
  · rw [exec_lineReject hc hi hr, if_neg (by rw [hrej]; decide), if_pos hdec]
  · exact exec_lineQuery hc hi hr hn

end Sys2Proof.Machine
end

section
/-! PROOFS. The vault flash (R466 to R476): operations of port H and of port D, pulses, suspension, brown-out, the scan, and
reads through the window. -/
namespace Sys2Proof.Machine

/-! ### Operations of port H (R467 to R469, R473) -/

section
variable {s : State} (req : Requester) (o : FlOp) {form : Bool} (hen : s.en P.flash = true)
  (hs : s.stat P.flash ST.stopping = false)
include hen hs

/-- Port H takes one operation at a time (R467). -/
theorem State.portH_busy (hb : s.portHBusy = true) : s.portH req o form = s.pgErr P.flash 0 req R.FLASH_FL_CMD := by
  simp [State.portH, hen, hs, hb]

/-- An operation that a check refuses ends with its status (Table 17-3). -/
theorem State.portH_refused (hb : s.portHBusy = false) {st : Nat} (hr : s.opRefused o form = some st) :
    s.portH req o form = s.portHEnd o st := by
  simp [State.portH, hen, hs, hb, hr]

/-- With nothing running an accepted operation starts (R467). -/
theorem State.portH_starts (hb : s.portHBusy = false) (hr : s.opRefused o form = none) (hn : s.flash.running = none) :
    s.portH req o form = s.opStart o := by
  simp [State.portH, hen, hs, hb, hr, hn]

/-- Behind a running operation an accepted one waits (R467). -/
theorem State.portH_waits (hb : s.portHBusy = false) (hr : s.opRefused o form = none) (hn : s.flash.running ≠ none) :
    s.portH req o form = { s with flash := { s.flash with queued := some o } } := by
  simp [State.portH, hen, hs, hb, hr, Option.isSome_iff_ne_none, hn]

end

/-- Command `go` asks port H for operation `o`, in good form: the buffer of PROGRAM is packed (R469), the page of ERASE is the
first of its sector (R468). -/
def State.asksPortH (s : State) (req : Requester) (go : Instr) (o : FlOp) : Prop :=
  (go = .program req ∧ s.flBuf.all (fun w => tb w 17 && tb w 8) = true ∧
      o = ⟨1, s.flAddr, (unpackWords s.flBuf).getD [], 0, false, none⟩) ∨
    (go = .erase req ∧ s.flAddr % 128 = 0 ∧ o = ⟨2, s.flAddr, [], 0, false, none⟩) ∨
    (go = .mapProgram req ∧ o = ⟨5, s.flAddr,
      (List.range 64).flatMap (fun i => beOctets 2 (s.rfld P.flash (R.FLASH_FL_WPMAP + i) 15 0)), 0, false, none⟩)

/-- The three commands of port H go to its checks with their operation. -/
theorem exec_of_asksPortH {s : State} {req : Requester} {go : Instr} {o : FlOp} (hd : s.deaf P.flash = false)
    (h : s.asksPortH req go o) : exec go s = .next (s.portH req o false) := by
  obtain ⟨rfl, hbuf, rfl⟩ | ⟨rfl, haddr, rfl⟩ | ⟨rfl, rfl⟩ := h
  · refine (written_of_taken hd).trans ?_
    rw [hbuf, Bool.not_true]
  · refine (written_of_taken hd).trans ?_
    rw [haddr, decide_eq_false (not_not_intro rfl)]
  · exact written_of_taken hd

/-! ### Suspension (R471) -/

section
variable {s : State} (req : Requester) (hd : s.deaf P.flash = false)
include hd

/-- SUSPEND takes a running erase off the array. -/
theorem exec_suspend_erase (pulse : Bool) {o : FlOp} (hr : s.flash.running = some o) (ho : o.op = 2) :
    exec (.suspend req pulse) s = .next (s.suspendErase o pulse false) :=
  (written_of_taken hd).trans (by rw [hr]; exact congrArg Host.Outcome.next (if_pos ho))

/-- SUSPEND with nothing running is an error. -/
theorem exec_suspend_none (pulse : Bool) (hr : s.flash.running = none) :
    exec (.suspend req pulse) s = .next (s.pgErr P.flash 1 req R.FLASH_FL_CMD) :=
  (written_of_taken hd).trans (by rw [hr])

/-- RESUME lets the suspended erase go on. -/
theorem exec_resume_suspended {o : FlOp} {d : Bool} (hs : s.flash.susp = some (o, d)) :
    exec (.resume req) s = .next (State.opNext { s with flash := { s.flash with susp := some (o, true) } }) :=
  (written_of_taken hd).trans (by rw [hs])

/-- RESUME with nothing suspended is an error. -/
theorem exec_resume_none (hs : s.flash.susp = none) :
    exec (.resume req) s = .next (s.pgErr P.flash 1 req R.FLASH_FL_CMD) :=
  (written_of_taken hd).trans (by rw [hs])

end

/-! ### Programs of port D (R465, R467) -/

section
variable {page : Nat} {data : List Octet} {s : State} {o : FlOp} (pulse : Bool) (ho : o = ⟨1, page, data, 0, true, none⟩)
  (hr : s.opRefused o false = none)
include ho hr

/-- A program that nothing refuses starts with nothing running. -/
theorem exec_portDProgram_starts (hn : s.flash.running = none) :
    exec (.portDProgram page none data pulse) s = .next (s.opStart o) := by
  subst ho
  refine (if_neg (by rw [Option.map_none, hr]; decide)).trans ?_
  rw [hn]
  rfl

/-- It takes a running erase of another sector off the array. -/
theorem exec_portDProgram_suspends {r : FlOp} (hn : s.flash.running = some r) (hop : r.op = 2)
    (hsec : sectorOf r.page ≠ sectorOf page) :
    exec (.portDProgram page none data pulse) s = .next ((s.suspendErase r pulse true).opStart o) := by
  subst ho
  refine (if_neg (by rw [Option.map_none, hr]; decide)).trans ?_
  rw [hn]
  exact congrArg Host.Outcome.next (if_pos ⟨hop, hsec⟩)

end

/-! ### Pulses (R468) -/

section
variable {s : State} {o p : FlOp} (hr : s.flash.running = some o) (hp : p = { o with pulses := min 12 (o.pulses + 1) })
include hr hp

/-- A pulse of the running operation: it passes, or it is one of the twelve of an erase or of the nine of a program. -/
theorem exec_flashPulseDone (pass : Bool) : exec (.flashPulseDone pass) s = .next
    (if pass then s.opEnd p FS.ok
      else if p.op = 2 then
        (if 12 ≤ p.pulses then (s.opEnd p FS.eraseFail).event P.flash 4
        else { s with flash := { s.flash with running := some p } })
      else if 9 ≤ p.pulses then s.opEnd p FS.programFail
      else { s with flash := { s.flash with running := some p } }) := by
  subst hp
  calc exec (.flashPulseDone pass) s = execFlashPulseDone pass s := rfl
    _ = _ := by simp only [execFlashPulseDone, hr]

/-- An erase that fails has further pulses up to the twelfth. -/
theorem exec_flashPulseDone_repeats (hop : o.op = 2) (hn : o.pulses < 11) :
    exec (.flashPulseDone false) s = .next { s with flash := { s.flash with running := some p } } := by
  have hlow : ¬ 12 ≤ p.pulses := by subst hp; dsimp only; omega
  have hop : p.op = 2 := by rw [hp, ← hop]
  rw [exec_flashPulseDone hr hp, if_neg (by decide), if_pos hop, if_neg hlow]

/-- An erase whose twelfth pulse fails has failed. -/
theorem exec_flashPulseDone_eraseFails (hop : o.op = 2) (hn : 11 ≤ o.pulses) :
    exec (.flashPulseDone false) s = .next ((s.opEnd p FS.eraseFail).event P.flash 4) := by
  have hlast : 12 ≤ p.pulses := by subst hp; dsimp only; omega
  have hop : p.op = 2 := by rw [hp, ← hop]
  rw [exec_flashPulseDone hr hp, if_neg (by decide), if_pos hop, if_pos hlast]

/-- A program whose ninth pulse fails has failed. -/
theorem exec_flashPulseDone_programFails (hop : o.op ≠ 2) (hn : 8 ≤ o.pulses) :
    exec (.flashPulseDone false) s = .next (s.opEnd p FS.programFail) := by
  have hlast : 9 ≤ p.pulses := by subst hp; dsimp only; omega
  have hop : p.op ≠ 2 := by rw [hp]; exact hop
  rw [exec_flashPulseDone hr hp, if_neg (by decide), if_neg hop, if_pos hlast]

end

/-! ### Reads, brown-outs and the scan (R472 to R475) -/

/-- A window read that the gates grant answers the word (R472). -/
theorem exec_flashWindowRead (req : Requester) {i : Nat} (corr : Nat) (bad : Bool) {s : State}
    (h : s.checkAccess (s.whoOf req) (0o002000000000 + i) 1 .r = .allowed) :
    exec (.flashWindowRead req i corr bad) s = .next { (s.flashRead req i corr bad).1 with
      bus := { (s.flashRead req i corr bad).1.bus with rdata := (s.flashRead req i corr bad).2.setWidth 72 } } :=
  calc exec (.flashWindowRead req i corr bad) s = execFlashWindowRead req i corr bad s := rfl
    _ = _ := by simp only [execFlashWindowRead, h]

/-- The scan marks the sectors whose erase was interrupted, counts them and restores the protection map (R473, R475). -/
theorem exec_flashScanDone {s t u : State} {n : Nat} (hst : s.lev.starting.contains P.flash = true)
    (hr : s.flash.running = none) (hs : s.flash.susp = none) (ht : t = s.each s.flash.markers (fun t n => t.setSector n 3))
    (hn : n = ((List.range 1024).filter (fun k => t.sector k = 3)).length)
    (hu : u = (t.setReg P.flash R.FLASH_FL_SCAN (wd (2 ^ 17 + n))).each (List.range 64) (fun u i =>
      u.setReg P.flash (R.FLASH_FL_WPMAP + i) (Map.get (dflt 0) u.flash.map i))) :
    exec .flashScanDone s = .next (if n = 0 then u else u.event P.flash 3) := by
  have hc : (s.lev.starting.contains P.flash && s.flash.running.isNone && s.flash.susp.isNone) = true := by rw [hst, hr, hs]; rfl
  rw [hu, hn, ht]
  exact when_of_true hc

/-- Settles O58: the commands of port H by its checks, the other rows by the lemmas about them. -/
theorem theFlashControllerRunsItsOperations : Obligations.TheFlashControllerRunsItsOperations := by
  refine ⟨fun req s hd hen hs => ⟨fun hb => ?_, fun hb go o hgo => ⟨fun st hr => ?_, fun hr hn => ?_, fun hr hn => ?_⟩⟩,
    fun req pulse s hd => ⟨fun o => exec_suspend_erase req hd pulse, exec_suspend_none req hd pulse⟩,
    fun req s hd => ⟨fun o d => exec_resume_suspended req hd, exec_resume_none req hd⟩,
    fun page data pulse o s ho hr =>
      ⟨exec_portDProgram_starts pulse ho hr, fun r => exec_portDProgram_suspends pulse ho hr⟩,
    fun o p s hr hp => ⟨exec_flashPulseDone hr hp true, exec_flashPulseDone_repeats hr hp, exec_flashPulseDone_eraseFails hr hp,
      exec_flashPulseDone_programFails hr hp⟩,
    fun req i corr bad s h => ⟨_, _, rfl, exec_flashWindowRead req corr bad h⟩,
    fun s => ⟨fun h => when_of_true (by rw [h]; rfl), when_of_true⟩, fun low s => rfl,
    fun t n u s => exec_flashScanDone⟩
  · exact (written_of_taken hd).trans (congrArg Host.Outcome.next (State.portH_busy req _ hen hs hb))
  · rw [exec_of_asksPortH hd hgo, State.portH_refused req o hen hs hb hr]
  · rw [exec_of_asksPortH hd hgo, State.portH_starts req o hen hs hb hr hn]
  · rw [exec_of_asksPortH hd hgo, State.portH_waits req o hen hs hb hr hn]

end Sys2Proof.Machine
end

section
/-! PROOFS. Supplies, package and region resets, watchdogs (R483, R492 to R495), and the power manager (R484 to R491). -/
namespace Sys2Proof.Machine

/-! ### Package resets and their release (R482, R492 to R494) -/

/-- RESET_N resets the package and is held (R492). -/
theorem exec_resetN {s t : State} (hp : s.boot.pin = false) (ht : t = s.packageReset .pin) :
    exec .resetN s = .next { t with boot := { t.boot with pin := true } } := by
  subst ht
  exact when_of_true (by rw [hp]; rfl)

/-- A tamper hold ends once no source that holds RESET_DEVICE is present (R441). -/
theorem exec_tamperResetRelease (gb : Bool) {s : State} (hr : s.boot.tamper = true)
    (hgone : s.tamper.present.all (fun n => !tb (s.activeSet n) 9) = true) :
    exec (.tamperResetRelease gb) s = .next (State.tryStart { s with boot := { s.boot with tamper := false } } gb) :=
  when_of_true (by rw [hr, hgone]; rfl)

/-- Without VBAT a loss of supply stops the Hummock domain too (R483, R485). -/
theorem exec_supplyBrownout_noVbat {s t : State} (hp : s.boot.por = false) (hv : s.wisp.vbat = false)
    (ht : t = s.deferRunning.packageReset .por) : exec .supplyBrownout s = .next
      { t with boot := { t.boot with por := true, tamper := false }, tamper := { t.tamper with present := [] },
               cust := { t.cust with hmk := 0 }, wisp := { t.wisp with queue := [] } } := by
  subst ht
  refine (when_of_true (by rw [hp]; rfl)).trans (congrArg Host.Outcome.next ?_)
  simp only [hv, Bool.false_eq_true, if_false]
  rfl

/-- PERST_N resets every queue page and the MSI-X table (R494). -/
theorem exec_perstN {s t : State} (hp : s.boot.perst = false)
    (ht : t = ((s.each (List.range 256) State.queueReset).incSat P.rstc R.RSTC_PERSTS).event P.rstc 3) :
    exec .perstN s = .next { t with boot := { t.boot with perst := true }, evt := { t.evt with msix := [], msixPend := [] } } := by
  subst ht
  exact when_of_true (by rw [hp]; rfl)

/-! ### Watchdogs (R495) -/

section
variable {s : State} (hrun : s.inReset = false)
include hrun

/-- The device watchdog resets the package when its time has passed (R492, R495). -/
theorem exec_devWdtExpiry (gb : Bool) (hw : s.devWdt ≠ 0) (ht : s.devWdt ≤ s.sinceKick 4) :
    exec (.devWdtExpiry gb) s = .next ((s.packageReset .wdt).start
      (if s.lockedPage P.dev then s.boot.gbcompat else gb) (!s.lockedPage P.dev)) :=
  when_of_true (by rw [hrun, decide_eq_true hw, decide_eq_true ht]; rfl)

/-- It warns when half of its time has passed (R495). -/
theorem exec_devWdtWarn (hw : s.devWdt ≠ 0) (ht : s.devWdt ≤ 2 * s.sinceKick 4) :
    exec .devWdtWarn s = .next (s.event P.rstc 2) :=
  when_of_true (by rw [hrun, decide_eq_true hw, decide_eq_true ht]; rfl)

/-- A region's watchdog quarantines the region when its time has passed, once (R495). -/
theorem exec_rgWdtExpiry {k : Nat} (hw : s.rgWdt k ≠ 0) (ht : s.rgWdt k ≤ s.sinceKick k)
    (hb : s.rbit P.rstc R.RSTC_RG_STAT (8 + k) = false) : exec (.rgWdtExpiry k) s =
      .next (((s.setRbit P.rstc R.RSTC_RG_STAT (8 + k) true).event P.rstc 0).quarRegion k) :=
  when_of_true (by rw [hrun, decide_eq_true hw, decide_eq_true ht, hb]; rfl)

end

section
variable (req : Requester) {v : Word} {s : State} (hd : s.deaf P.rstc = false)
include hd

/-- A kick with its key restarts the watchdogs it names, each region's from a core of the region (R495). -/
theorem exec_kick (hkey : bits v 17 9 = 0o525) (hown : (List.range 4).all (fun k => !tb v k || ofRegion req k) = true) :
    exec (.kick req v) s =
      .next (s.each ((List.range 4).filter (fun k => tb v k) ++ (if tb v 4 then [4] else [])) State.kick) := by
  refine (written_of_taken hd).trans (congrArg Host.Outcome.next (if_pos ⟨hkey, ?_⟩))
  rwa [List.all_filter]

/-- A kick without its key is an error (R495). -/
theorem exec_kick_badKey (hkey : bits v 17 9 ≠ 0o525) :
    exec (.kick req v) s = .next (s.pgErr P.rstc 0 req R.RSTC_KICK) :=
  (written_of_taken hd).trans (congrArg Host.Outcome.next (if_neg (fun h => hkey h.1)))

end

/-! ### A region's reset (R24, R495) -/

/-- A region whose clusters fail the self-test is released, and none of its pages starts. -/
theorem exec_rgResetDone_failed (bad : Bool) {k : Nat} {cl : List Nat} {s t u : State}
    (hr : s.rbit P.rstc R.RSTC_RG_STAT k = true) (hcl : cl = (List.range 4).map (fun i => 4 * k + i))
    (ht : t = (State.setRbit { s with boot := { s.boot with rgReset := drop1 s.boot.rgReset k } } P.rstc R.RSTC_RG_STAT k
      false).setRbit P.rstc R.RSTC_RG_STAT (4 + k) false)
    (hu : u = t.each cl State.clusterRelease) : exec (.rgResetDone k false bad) s = .next
      ((State.thaw { u with lev := { u.lev with clBist := u.lev.clBist.filter (fun n => !cl.contains n) } } (corePages k)).event
        P.rstc 1) := by
  subst hcl ht hu
  refine (when_of_true hr).trans (congrArg Host.Outcome.next ?_)
  simp only [Bool.and_false, Bool.false_and, Bool.false_eq_true, if_false]

/-! ### Supplies (R444, R448, R484) -/

/-- VBAT applied starts the RTC from 0 (R448). -/
theorem exec_vbatApply {s : State} (h : s.wisp.vbat = false ∨ s.tamper.present.contains 118 = true) :
    exec .vbatApply s = .next (State.setRbit { s with
      wisp := { s.wisp with vbat := true, vbatAt := s.now },
      tamper := { s.tamper with present := drop1 (drop1 s.tamper.present 118) 119 } } P.hmk R.HMK_STAT 2 true) := by
  have hc : (!s.wisp.vbat || s.tamper.present.contains 118) = true := by
    obtain h | h := h
    · rw [h]; rfl
    · rw [h, Bool.or_true]
  exact when_of_true hc

/-- VFIELD comes back to every station (R484). -/
theorem exec_vfieldGood {s : State} (hv : s.vfield = false) (hm : s.mainPower = true) : exec .vfieldGood s =
    .next (((s.setRbit P.pwr R.PWR_STAT 3 true).event P.pwr 3).each stationPages (fun t p => t.gainField p)) :=
  when_of_true (by rw [hv, hm]; rfl)

/-! ### Package power and region steps (R487, R488) -/

/-- The power that an update records, in 10 mW: the telemetry's VCORE power, or 20 W while the regulator is silent (R488). -/
def State.pkgPower (s : State) (vcore rest : Nat) : Nat := (if s.pmbOk then vcore else 2000) + rest

/-- The state after an update within the package limit has recorded the power. -/
def State.withPower (s : State) (n : Nat) : State :=
  State.setReg { s with power := { s.power with past := 0 } } P.pwr R.PWR_PKG_POWER (wd n)

/-- An update within the package limit records the power and starts the step it chooses, if no step runs (R488). -/
theorem exec_powerUpdate {vcore rest : Nat} {s : State} (hp : s.pkgPower vcore rest ≤ 3600)
    (hn : s.power.step = none) : exec (.powerUpdate vcore rest) s = .next
      (((s.withPower (s.pkgPower vcore rest)).choose).elim (s.withPower (s.pkgPower vcore rest))
        (fun x => (s.withPower (s.pkgPower vcore rest)).stepStart x.1 x.2)).capUpdate := by
  have hidle : ¬ (s.withPower (s.pkgPower vcore rest)).power.step.isSome = true := by
    rw [show (s.withPower (s.pkgPower vcore rest)).power.step = s.power.step from rfl, hn]
    decide
  have hmin : min 262143 ((if s.pmbOk then vcore else 2000) + rest) = s.pkgPower vcore rest := by
    rw [← State.pkgPower]; omega
  have hlow : decide (3600 < s.pkgPower vcore rest) = false := decide_eq_false (by omega)
  calc exec (.powerUpdate vcore rest) s = execPowerUpdate vcore rest s := rfl
    _ = _ := by
      simp only [execPowerUpdate, hmin, hlow, Bool.false_and, Bool.false_eq_true, if_false, if_neg (by decide : ¬ 0 = 10)]
      refine congrArg (Host.Outcome.next ∘ State.capUpdate) ((if_neg hidle).trans ?_)
      split
      · next k up hc =>
        rw [show (s.withPower (s.pkgPower vcore rest)).choose = some (k, up) from hc]
        rfl
      · next hc =>
        rw [show (s.withPower (s.pkgPower vcore rest)).choose = none from hc]
        rfl

/-- A step up ends at the next point and its frequency (R487). -/
theorem exec_regionStepDone_up {k p : Nat} {t s : State} (hs : s.power.step = some (k, true)) (hp : p = s.point k + 1)
    (ht : t = ((State.setRfld { s with power := { s.power with step := none } } P.pwr R.PWR_RG_POINT (4 * k + 3) (4 * k) p).setReg
      P.clk (R.CLK_RG_FREQ + k) (wd (pointFreq p)))) : exec .regionStepDone s = .next t.capUpdate := by
  subst hp ht
  calc exec .regionStepDone s = execRegionStepDone s := rfl
    _ = _ := by simp only [execRegionStepDone, hs, if_true]

/-! ### Stations, clusters and the regulator's bus (R489 to R491) -/

/-- The oldest waiting station is admitted where the budget and the cap leave room for it (R489). -/
theorem exec_stationAdmit {p : Nat} {l : List Nat} {s : State} (hw : s.stn.waits = p :: l)
    (hb : s.rfld P.pwr R.PWR_STN_RESERVED 17 0 + s.stnNeed p ≤ s.rfld P.pwr R.PWR_STN_BUDGET 17 0)
    (hc : s.rfld P.pwr R.PWR_PKG_POWER 17 0 * 10 + s.stnNeed p ≤ s.rfld P.pwr R.PWR_CAP 8 0 * 100) :
    exec .stationAdmit s = .next (s.letOn p) := by
  have hroom := decide_eq_true (And.intro hb hc)
  rw [Bool.decide_and] at hroom
  calc exec .stationAdmit s = execStationAdmit s := rfl
    _ = when _ s (s.letOn p) := by rw [execStationAdmit, hw]
    _ = _ := when_of_true hroom

/-- Whether a write of CL_GATE gates clusters by what `on` holds, or is an error, is whether all of them are idle (R490). -/
theorem exec_clGateWrite (req : Requester) {v : Word} {on off : List Nat} {s : State} (hd : s.deaf P.pwr = false)
    (hon : on = (List.range 16).filter (fun n => tb v n && !tb (s.reg P.pwr R.PWR_CL_GATE) n))
    (hoff : off = (List.range 16).filter (fun n => !tb v n && tb (s.reg P.pwr R.PWR_CL_GATE) n)) {t : State}
    (ht : t = (s.setReg P.pwr R.PWR_CL_GATE (wd (v.toNat % 65536))).each on (fun t n => t.setRbit P.pwr R.PWR_CL_GATED n true)) :
    exec (.clGateWrite req v) s = .next (if on.all s.clusterIdle then { t with power := { t.power with
        ungating := t.power.ungating.filter (fun n => !on.contains n) ++ off } }
      else s.pgErr P.pwr 1 req R.PWR_CL_GATE) := by
  rw [ht, hoff, hon]
  exact written_of_taken hd

section
variable {s : State} (hm : s.mainPower = true)
include hm

/-- A poll that succeeds records the level and the current (R491). -/
theorem exec_pmbusPoll_good (vout iout : Nat) : exec (.pmbusPoll true vout iout) s =
    .next ((s.pmbGood vout).setReg P.pwr R.PWR_IOUT (wd (min iout 262143))) := when_of_true hm

/-- An alert that is read and cleared ends the run of failures (R491). -/
theorem exec_pmbAlert_good : exec (.pmbAlert true) s = .next { s with power := { s.power with fails := 0 } } := when_of_true hm

/-- An alert whose transfer fails is a failure (R491). -/
theorem exec_pmbAlert_failed : exec (.pmbAlert false) s = .next (s.pmbFail false) := when_of_true hm

/-- A retry that succeeds sets PMB_OK (R491). -/
theorem exec_pmbusRetry_good (vout : Nat) (h : s.pmbOk = false) : exec (.pmbusRetry true true vout) s =
    .next ((s.pmbGood vout).setRbit P.pwr R.PWR_STAT 2 true) := when_of_true (by rw [hm, h]; rfl)

end

/-- Settles O59: each row by the lemma about it, POWER_UPDATE by the step it chooses, CL_GATE by whether the clusters are
idle. -/
theorem powerAndResetsMoveTheDevice : Obligations.PowerAndResetsMoveTheDevice := by
  refine ⟨fun s t => exec_resetN,
    fun gb s => ⟨when_of_true, exec_tamperResetRelease gb, when_of_true⟩,
    fun s t => exec_supplyBrownout_noVbat,
    fun s => ⟨rfl, fun hp => ⟨_, rfl, exec_perstN hp rfl⟩⟩,
    fun gb s hrun hw => ⟨exec_devWdtExpiry hrun gb hw, exec_devWdtWarn hrun hw⟩,
    fun k s hrun => exec_rgWdtExpiry hrun,
    fun req v s hd => ⟨exec_kick req hd, exec_kick_badKey req hd, written_of_taken hd, rfl⟩,
    fun k bad cl t u s => exec_rgResetDone_failed bad,
    fun s => ⟨when_of_true, exec_vfieldGood, exec_vbatApply⟩,
    fun vcore rest t s hok hsilent ht hn => ?_,
    fun k p t s => exec_regionStepDone_up, fun p l s => exec_stationAdmit,
    fun req v on off t s hd hon hoff ht => ⟨fun hidle => ?_, fun hbusy => ?_⟩,
    fun cl s => when_of_true,
    fun vout iout s hm => ⟨exec_pmbusPoll_good hm vout iout, exec_pmbAlert_good hm, exec_pmbAlert_failed hm,
      exec_pmbusRetry_good hm vout⟩⟩
  · have hp : s.pkgPower vcore rest ≤ 3600 := by
      unfold State.pkgPower
      split
      · exact hok ‹_›
      · exact hsilent (Bool.eq_false_of_not_eq_true ‹_›)
    replace ht : t = s.withPower (s.pkgPower vcore rest) := ht
    subst ht
    rw [exec_powerUpdate hp hn]
    exact ⟨fun hc => by rw [hc]; rfl, fun k up hc => by rw [hc]; rfl⟩
  · rw [exec_clGateWrite req hd hon hoff ht, if_pos hidle]
  · rw [exec_clGateWrite req hd hon hoff ht, if_neg (by rw [hbusy]; decide)]

end Sys2Proof.Machine
end

section
/-! PROOFS. Bring-up step by step (R496 to R500, R144), the scrub and the comparison of configuration registers (R514 to
R516), the tests of the storage checks (R519), and jobs that read a lost word (R512). -/
namespace Sys2Proof.Machine

/-! ### Bring-up (R496 to R500) -/

section
variable {s t : State} (hrun : s.inReset = false)
include hrun

/-- Step 1: the check of the Hummock domain raises what it found and leads to step 2 (R497). -/
theorem exec_hummockCheck {found : List Nat} {u : State} (hstep : s.bootStep = 1) (hkey : s.hmkLive = false)
    (ht : t = s.each found State.checkSource)
    (hu : u = ((State.runPending { t with tamper := { t.tamper with
      running := t.tamper.running.map (fun r => { r with done := r.done ||| (r.set &&& 0o1000) }) } }).setStep 2).showRoot) :
    exec (.hummockCheck found) s = .next (if u.retired then u.stopRetired
      else (u.each hummockPages (fun v p => v.setStat p ST.ready true)).steps34) := by
  subst ht hu
  refine (when_of_true (by rw [hrun, hstep]; rfl)).trans ?_
  simp only [hkey, Bool.false_and, Bool.false_eq_true, if_false, List.append_nil]

/-- Step 5: the slot the configuration names is tried first, then the other (R498). -/
theorem exec_bootVerify {a b : Bool} {first c1 c2 : Nat} (hret : s.retired = false) (hlow : 2 ≤ s.bootStep)
    (hhigh : s.bootStep < 5) (hbist : s.lev.clBist = []) (hready : s.ready P.flash = true) (hup : s.lev.clPassed ≠ [])
    (hfirst : first = b2n (s.rbit P.dev R.DEV_BOOTCFG 2)) (hc1 : c1 = s.slotCause first (if first = 0 then a else b))
    (hc2 : c2 = (if c1 = 0 then 0 else s.slotCause (1 - first) (if 1 - first = 0 then a else b)))
    (ht : t = (s.setRfld P.dev R.DEV_BOOT_ERR (5 * first + 4) (5 * first) c1).setRfld P.dev R.DEV_BOOT_ERR (9 - 5 * first)
      (5 - 5 * first) c2) :
    exec (.bootVerify a b) s = .next (((if c1 = 0 then (t.bootFrom first).event P.dev 0
      else if c2 = 0 then (t.bootFrom (1 - first)).event P.dev 0 else t.event P.dev 1).setStep 5).allReady) := by
  have hcond : (!s.inReset && !s.retired && decide (2 ≤ s.bootStep) && decide (s.bootStep < 5) && s.lev.clBist.isEmpty &&
      s.ready P.flash) = true := by
    rw [hrun, hret, decide_eq_true hlow, decide_eq_true hhigh, hbist, hready]
    rfl
  have hsome : (!s.lev.clPassed.isEmpty) = true := by simpa using hup
  subst ht hc2 hc1 hfirst
  refine (when_of_true hcond).trans ?_
  simp only [hsome, if_true]

/-- Step 6: a booted device loads every good cluster and starts its cores (R499). -/
theorem exec_firmwareCopy (hstep : s.bootStep = 5) (hboot : s.rbit P.dev R.DEV_STAT 3 = true)
    (ht : t = (s.each s.upClusters State.loadCluster).autoStart (s.upClusters.flatMap coresOf)) :
    exec .firmwareCopy s = .next ((t.setStep 6).allReady) := by
  subst ht
  exact when_of_true (by rw [hrun, hstep, hboot]; rfl)

/-- Step 7: the slots are restored and custody starts (R144). -/
theorem exec_journalRestore (hkey : s.hmkLive = true) (hboot : s.rbit P.dev R.DEV_STAT 3 = true) (hstep : 6 ≤ s.bootStep)
    (hnew : s.peatRestored = false) : exec .journalRestore s =
      .next ((((s.restoreJournal.autoStart [P.peat, P.cred]).custodyUp).setStep 7).allReady) :=
  when_of_true (by rw [hrun, hkey, hboot, decide_eq_true hstep, hnew]; rfl)

end

/-- ROLLBACK_ADV of a booted device raises the count to the image's (R499). -/
theorem exec_rollbackAdv_booted (req : Requester) {s : State} (hd : s.deaf P.dev = false)
    (h : s.rbit P.dev R.DEV_STAT 3 = true) : exec (.rollbackAdv req) s = .next (s.modReg P.dev R.DEV_FUSE_RB
      (fun v => putBits v 5 0 (max (bits v 5 0) (min 63 s.boot.rollback)))) :=
  (written_of_taken hd).trans (congrArg Host.Outcome.next (if_pos h))

/-- Before the boot it is an error (R499). -/
theorem exec_rollbackAdv_notBooted (req : Requester) {s : State} (hd : s.deaf P.dev = false)
    (h : s.rbit P.dev R.DEV_STAT 3 = false) : exec (.rollbackAdv req) s = .next (s.pgErr P.dev 1 req R.DEV_CMD) :=
  (written_of_taken hd).trans (congrArg Host.Outcome.next (if_neg (by rw [h]; decide)))

section
variable (req : Requester) {v : Word} {s : State} (hd : s.deaf P.dev = false)
include hd

/-- A locked DEV page takes no BOOTCFG (R502). -/
theorem exec_bootcfgWrite_locked (h : s.lockedPage P.dev = true) :
    exec (.bootcfgWrite req v) s = .next (s.pgErr P.dev ERR.lock req R.DEV_BOOTCFG) :=
  (written_of_taken hd).trans (congrArg Host.Outcome.next (if_pos h))

/-- BOOTCFG is written whenever it leaves GBMODE as it is (R502). -/
theorem exec_bootcfgWrite_open (h : s.lockedPage P.dev = false) (hgb : tb v 0 = s.rbit P.dev R.DEV_BOOTCFG 0) :
    exec (.bootcfgWrite req v) s = .next ((s.setReg P.dev R.DEV_BOOTCFG (v &&& 7)).gbForce) := by
  refine (written_of_taken hd).trans (congrArg Host.Outcome.next ((if_neg (by rw [h]; decide)).trans (if_neg ?_)))
  rw [hgb, bne_self_eq_false, Bool.false_and]
  decide

end

/-! ### The scrub and the comparison of configuration registers (R514 to R516) -/

section
variable {s : State} (hrun : s.inReset = false)
include hrun

/-- A slot of a frame that is not used is passed over (R514). -/
theorem exec_scrubRead_unused {k b n : Nat} (o w : Nat) (hn : n = s.scrubCount k b)
    (hu : (s.frame (scrubFrame k b (n % 65536))).used = false) {t : State}
    (ht : t = { s with diag := { s.diag with scrub := Map.put (dflt 0) s.diag.scrub (16 * k + b) (n + 1) } }) :
    exec (.scrubRead k b o w) s = .next (if s.regionPasses k < t.regionPasses k then t.passEnd k else t) := by
  subst ht hn
  refine (when_of_true (by rw [hrun]; rfl)).trans ?_
  simp only [hu, Bool.false_and, Bool.false_eq_true, if_false]

/-- A register found to mismatch is recorded and reacted to, once (R515, R516). -/
theorem exec_backgroundCompare_bad (bg : Bool) {kind i : Nat} (hm : canMismatch kind i = true)
    (hnew : s.isBad (regKey kind i) = false) : exec (.backgroundCompare bg (some (kind, i))) s = .next (s.mismatch kind i bg) :=
  when_of_true (by rw [hrun, hm, hnew]; rfl)

end

/-! ### Tests of the storage checks (R519) -/

/-- The fields of a test's write: its key, its kind and its region. -/
theorem injectWord_fields {kind rg : Nat} (hk : kind < 4) (hr : rg < 4) : bits (injectWord kind rg) 17 9 = 0o525 ∧
    bits (injectWord kind rg) 1 0 = kind ∧ bits (injectWord kind rg) 5 4 = rg := by
  simp only [injectWord, bits_wd]
  omega

/-- A test of a kind starts while no other runs (R519). -/
theorem State.wInject_injectWord {s : State} (req : Requester) {kind rg : Nat} (hn : s.diag.inject = none) (h0 : kind ≠ 0)
    (hk : kind < 4) (hr : rg < 4) : s.wInject req (injectWord kind rg) =
      if kind = 1 then s.testOn kind rg
      else if kind = 2 then (((s.testOn kind rg).latchUe 0 7 false).detect 7).testOk (!s.rbit P.diag R.DIAG_UE_INFO 17)
      else ((s.testOn kind rg).mismatch 0 (P.diag * 1024 + R.DIAG_TEST) false).testOk (!s.rbit P.diag R.DIAG_REGF_PAGE 17) := by
  obtain ⟨hkey, hkind, hrg⟩ := injectWord_fields hk hr
  simp only [State.wInject, hkey, hkind, hrg, hn, h0, ne_eq, not_true_eq_false, Option.isSome_none, Bool.false_eq_true, or_self,
    if_false]

section
variable (req : Requester) {s : State} (hd : s.deaf P.diag = false) (hn : s.diag.inject = none)
include hd hn

/-- KIND 1 waits for the scrub to find the flipped check bit. -/
theorem exec_injectScrubFlip {rg : Nat} (hr : rg < 4) : exec (.injectScrubFlip req rg) s = .next (s.testOn 1 rg) :=
  (written_of_taken hd).trans (congrArg Host.Outcome.next (State.wInject_injectWord req hn (by decide) (by decide) hr))

/-- KIND 2 reads the test row, whose lost word is latched at once. -/
theorem exec_injectTestRow {rg : Nat} (hr : rg < 4) : exec (.injectTestRow req rg) s =
    .next ((((s.testOn 2 rg).latchUe 0 7 false).detect 7).testOk (!s.rbit P.diag R.DIAG_UE_INFO 17)) :=
  (written_of_taken hd).trans (congrArg Host.Outcome.next (State.wInject_injectWord req hn (by decide) (by decide) hr))

/-- KIND 3 compares the test register, which mismatches at once. -/
theorem exec_injectRegComplement : exec (.injectRegComplement req) s =
    .next (((s.testOn 3 0).mismatch 0 (P.diag * 1024 + R.DIAG_TEST) false).testOk (!s.rbit P.diag R.DIAG_REGF_PAGE 17)) :=
  (written_of_taken hd).trans
    (congrArg Host.Outcome.next (State.wInject_injectWord req hn (by decide) (by decide) (by decide)))

end

/-! ### Lost words (R512, R518) -/

/-- A running job that reads a lost word completes DEVICE_FAULT with the reaction of the memory. -/
theorem State.onRun_of_struck {s : State} {key op a : Nat} {j : Job} (hj : s.job key = some j) (hst : j.st = .running)
    (hop : j.opcode = op) (ha : s.jobStruck key j = some a) (f : Job → State) :
    s.onRun key op f = .next ((s.storeUe a).fail key j S.deviceFault) := by
  simp only [State.onRun, State.onJob, hj, hst, hop, ha, and_self, if_true]

/-- The rows whose job reads storage that words can be lost from are rows of a running job of their opcode. -/
theorem exec_storageRow {row : (Nat → Instr) × Nat} (hrow : row ∈ [((fun k => Instr.sessOpen k), 0o001),
    ((fun k => Instr.sessRekey k), 0o003), ((fun k => Instr.credWrite k), 0o012), ((fun k => Instr.credDerive k), 0o013),
    ((fun k => Instr.credRetire k), 0o014), ((fun k => Instr.reclaim k), 0o015), ((fun k => Instr.slotUnwrap k), 0o021),
    ((fun k => Instr.slotWrap k), 0o022), ((fun k => Instr.slotDerive k), 0o023), ((fun k => Instr.slotInfo k), 0o025)])
    (key : Nat) (s : State) : ∃ f, exec (row.1 key) s = s.onRun key row.2 f := by
  simp only [List.mem_cons, List.not_mem_nil, or_false] at hrow
  obtain rfl | rfl | rfl | rfl | rfl | rfl | rfl | rfl | rfl | rfl := hrow <;> exact ⟨_, rfl⟩

/-- A lost word of Lode's tables puts the device in its fault state (R512). -/
theorem exec_jobPlace_struck (key : Nat) {a : Nat} {s : State} (ha : s.struckIn (2 ^ 42) 1 = some a) :
    exec (.jobPlace key) s = .next (s.tableUe a) :=
  calc exec (.jobPlace key) s = execJobPlace key s := rfl
    _ = _ := by simp only [execJobPlace, ha]

/-- A Peat slot that has lost a word loses its key and is retired (R512). -/
theorem State.storeUe_slot {n a : Nat} {s : State} (ha : a = 2 ^ 40 + n) :
    s.storeUe a = State.detect (State.latchUe (State.setSlot { s with diag := s.diag.written a 1 } n
      { s.slot n with key := 0, attr1 := putBits (s.slot n).attr1 8 7 2 }) 0 3 false) 7 := by
  have hctx : ¬ a < ctxBase 0 := by rw [ha]; simp only [ctxBase]; omega
  have hmem : ¬ a < 2 ^ 36 := by omega
  have hslot : a - 2 ^ 40 = n := by omega
  simp only [State.storeUe, if_neg hctx, if_neg hmem, hslot]
  rfl

/-- Settles O60: each row by the lemma about it. -/
theorem bringUpAndDiagnosisStepByStep : Obligations.BringUpAndDiagnosisStepByStep := by
  refine ⟨fun found t s hrun hstep hkey ht => ⟨_, rfl, exec_hummockCheck hrun hstep hkey ht rfl⟩,
    fun cl t s hcl ht => ?_, fun cl t s hcl ht => ?_,
    fun a b first c1 c2 t s hrun hret hlow hhigh hbist hready hup => exec_bootVerify hrun hret hlow hhigh hbist hready hup,
    fun t s => exec_firmwareCopy, fun s => exec_journalRestore,
    fun req s hd => ⟨exec_rollbackAdv_booted req hd, exec_rollbackAdv_notBooted req hd⟩,
    fun req v s hd => ⟨exec_bootcfgWrite_locked req hd, exec_bootcfgWrite_open req hd⟩,
    fun k b o w n s hrun hn hu => ⟨_, rfl, exec_scrubRead_unused hrun o w hn hu rfl⟩,
    fun bg kind i s hrun => exec_backgroundCompare_bad hrun bg,
    fun req rg s hd hn hr => ⟨exec_injectScrubFlip req hd hn hr, exec_injectTestRow req hd hn hr,
      exec_injectRegComplement req hd hn⟩,
    fun s h => when_of_true (Option.isSome_iff_ne_none.mpr h), fun req s => ⟨rfl, rfl, rfl⟩,
    fun row hrow key j a s hj hst hop ha => ?_, fun key a s => exec_jobPlace_struck key, fun n a v s ha hv => ?_⟩
  · subst ht
    exact when_of_true hcl
  · subst ht
    exact when_of_true hcl
  · obtain ⟨f, hf⟩ := exec_storageRow hrow key s
    rw [hf, State.onRun_of_struck hj hst hop ha]
  · subst hv
    exact State.storeUe_slot ha

end Sys2Proof.Machine
end
